-- ==== Sys2Proof/Word.lean ====
section
/-! DEFINITION. Word types of the Isambilar IG4 model: bytes, qwords and the words of the tables. -/

namespace Sys2Proof

/-- One byte of memory, of a store or of a frame. -/
abbrev Byte := BitVec 8
/-- A scalar register of a tile sequencer (Table 9.1). -/
abbrev Qword := BitVec 64
/-- A tile command word (R198), bits 63:0 at the lower address. -/
abbrev Tcw := BitVec 128
/-- A device physical address (Table 7.1), reached from the computed address. -/
abbrev Pa := Nat
/-- A map with natural keys, keys rising; the keys are register, unit, tenant or slot numbers. -/
abbrev KMap (α : Type) := List (Nat × α)

end Sys2Proof
end

