-- ==== Sys2Proof/Syntax.lean ====
section
/-! DEFINITION. The commands of the block: one constructor per row of spec/opcode_table.json, with the operands the
row's rule gives it. An operand is what comes from outside the block (a pin, a frame, a store that a driver made
visible, a reading) or a choice that the rules leave to the device. -/

namespace Sys2Proof

abbrev TileId := Fin 128
abbrev ArrayId := Fin 128
abbrev RingId := Fin 64
abbrev FnId := Fin 64
abbrev ChipId := Fin 4
abbrev ChanId := Fin 64
abbrev SolvSlot := Fin 8
abbrev PortId := Fin 6
abbrev PeerId := Fin 32

/-- A die of R63: the hub or a compute chiplet. -/
inductive Die where
  | hub
  | chip (c : ChipId)
deriving DecidableEq, Repr

/-- The two I3C ports (R41). -/
inductive I3cBus where
  | mgt
  | met
deriving DecidableEq, Repr

/-- The two MCTP bindings (R118). -/
inductive Binding where
  | i3c
  | vdm
deriving DecidableEq, Repr

/-- Strap levels at the connector (Table 2.3). -/
structure Straps where
  slotId : BitVec 5
  hostSel : Bool
  bootSafe : Bool
deriving DecidableEq, Repr

/-- Levels of an I3C port's two lines at the connector. -/
structure I3cLines where
  scl : Bool
  sda : Bool
deriving DecidableEq, Repr

/-- CXL mode of a trained host link (LNK_CXL_MODE). -/
inductive CxlMode where
  | none
  | flit68
  | flit256
deriving DecidableEq, Repr

/-- What a configuration request does (R84, R126, R127, Table 6.1). -/
inductive CfgOp where
  | readIds
  | readClassRev
  | readSubsystem
  | readOther (off : Nat)
  | readBar (bar : Fin 3) (high : Bool)
  | writeBar (bar : Fin 3) (high : Bool) (value : BitVec 32)
  | readDevCtl
  | setMaxPayload (code : Fin 3)
  | setMaxReadRequest (code : Fin 6)
  | readAer
  | clearAer (bits : BitVec 32)
  | doe (request : List (BitVec 32))
  | setBusMaster (on : Bool)
  | setPasidEnable (on : Bool)
  | setMsixEnable (on : Bool)
  | setVfEnable (num : Fin 64)
  | setD3hot (on : Bool)
deriving DecidableEq, Repr

/-- A BAR of a function (Table 6.2). -/
inductive Bar where
  | bar0
  | bar2
  | bar4
deriving DecidableEq, Repr

/-- A read of a BAR: byte offset and length (R132, R133). -/
structure BarRead where
  bar : Bar
  off : Nat
  len : Nat
deriving DecidableEq, Repr

/-- A read of a function's BAR. -/
structure FnRead where
  fn : FnId
  read : BarRead
deriving DecidableEq, Repr

/-- A write of a BAR: byte offset, length, and the dword written (R132, R133). -/
structure BarWrite where
  bar : Bar
  off : Nat
  len : Nat
  value : BitVec 32
deriving DecidableEq, Repr

/-- A clock that moves in steps (R57). -/
inductive ClkDom where
  | hub
  | fab (c : ChipId)
deriving DecidableEq, Repr

/-- One period's power telemetry of the hot-swap controller (Table 3.6). -/
structure PowerMeans where
  inMv : BitVec 32
  inMa : BitVec 32
  inMw : BitVec 32
  avg100Mw : BitVec 32
  auxMv : BitVec 32
deriving DecidableEq, Repr

/-- A unit that sleeps and wakes (R54). -/
inductive WakeUnit where
  | tile (t : TileId)
  | chip (c : ChipId)
deriving DecidableEq, Repr

/-- Error codes with which a boot stage can end, other than the watchdog's (Table 4.3). -/
inductive StageErr where
  | hubSelftest
  | stu
  | fwTrap
deriving DecidableEq, Repr

/-- How a chiplet link trained (R90, LNK_UCIE_WIDTH). -/
inductive UcieLink where
  | full
  | half
  | down
deriving DecidableEq, Repr

/-- The signed configuration block of stage 6 (R184): the four BOOT-class values; none where the block is
missing or does not verify. -/
structure BootCfg where
  rotBase : Nat
  coreMap : Nat
  clearPolicy : Nat
  perturbPermit : Nat
deriving DecidableEq, Repr

/-- Which function reset reaches the PF (R76). -/
inductive PfReset where
  | flr
  | hotReset
  | linkDisable
deriving DecidableEq, Repr

/-- A packet of an MCTP message (R118): start and end of the message, sequence number, Tag Owner, the bytes it carries. -/
structure MctpPacket where
  som : Bool
  eom : Bool
  seq : BitVec 2
  tagOwner : Bool
  body : List Byte
deriving DecidableEq, Repr

/-- Where a Palren request comes from (R114, R190). An MCTP request is the packets of one message in the order of arrival,
with their source endpoint and message tag (R118, R119). A mailbox request is the frame the function submitted with GO; a
policy module on K8 to K15 passes frames as resident firmware does (log 35). -/
inductive ReqSrc where
  | mailbox (fn : FnId)
  | mctp (b : Binding) (eid : BitVec 8) (msgTag : BitVec 3) (packets : List MctpPacket)
  | firmware (lengthWord : BitVec 32) (frame : List Byte)
  | policy (core : Fin 8) (lengthWord : BitVec 32) (frame : List Byte)
deriving DecidableEq, Repr

/-- A dictionary object instance: index, sub-index and tenant (R104). -/
structure ObjKey where
  index : Nat
  sub : Nat
  tenant : Nat
deriving DecidableEq, Repr

/-- One byte stored by software at an address, as part of the command that publishes it. -/
structure ByteStore where
  addr : Nat
  byte : Byte
deriving DecidableEq, Repr

/-- An access as an engine makes it at an HBM controller (R171). -/
inductive EngineOp where
  | read (len : Nat)
  | write (data : List Byte)
deriving DecidableEq, Repr

/-- An access of an engine that is not a tile, translated through a removed entry and not complete at the fence
deadline (R170). -/
inductive LateAccess where
  | sqRead (ring : RingId)
  | cqWrite (ring : RingId)
  | solver (k : SolvSlot)
  | lrt (c : ChanId)
  | move
  | errRing (tenant : FnId)
  | kv (job : Nat)
deriving DecidableEq, Repr

/-- What the STU itself owes at a fence deadline: whether it is late and restarts, and the engines' accesses that it
has not completed (R170). -/
structure LateStu where
  restart : Bool
  accesses : List LateAccess
deriving DecidableEq, Repr

/-- The privilege mode in which a core retires SFENCE.VMA (R167). -/
inductive FenceMode where
  | mMode
  | hsMode
  | vsMode
deriving DecidableEq, Repr

/-- A unit that a tenant clear clears (R192). -/
inductive ClearUnit where
  | tile (t : TileId)
  | bank (a : ArrayId) (b : Fin 2)
  | solver (k : SolvSlot)
deriving DecidableEq, Repr

/-- What the read-back of a tenant clear finds (R193, R230). -/
inductive ReadBack where
  | zero
  | correctable (tb as other : Nat)
  | failed (store : Fin 4) (offset : Nat)
deriving DecidableEq, Repr

/-- The AUX conversion that completes with a meter sample (R361): input 0 to 3 and its code in 1/16 degree or
code units. -/
structure AuxSample where
  input : Fin 4
  value : Int
deriving DecidableEq, Repr

/-- A change of a seal sensor (R377). -/
inductive SealChange where
  | coverOpen
  | coverClosed
  | traceBroken
  | traceIntact
deriving DecidableEq, Repr

/-- A received LRT datagram (R336, R340): arrival port, UDP destination port, whether its UDP checksum holds,
source port, and the datagram's bytes. -/
structure LrtDatagram where
  port : PortId
  udpPort : BitVec 16
  checksumOk : Bool
  vlanTagged : Bool
  bytes : List Byte
deriving DecidableEq, Repr

/-- The commands: one constructor for each row of the opcode table, in the table's order of families. -/
inductive Instr where
  -- power, pins and link
  | input54vPresent
  | input54vUndervoltage
  | input54vRemoved
  | inputOvervoltage
  | inputOvervoltageClear
  | overcurrentTrip
  | auxPresent
  | auxAbsent
  | coldReset (straps : Straps)
  | pwrEnHigh
  | pwrEnLow
  | tripLatchClear
  | bulkChargeDone
  | mainRailsInRegulation
  | mainRailsFall
  | perstAssert
  | perstDeassert
  | perstHoldExpiry
  | hostLinkTrained (gen : Fin 7) (lanes : Fin 17) (cxl : CxlMode)
  | configRequest (fn : FnId) (op : CfgOp)
  | configOpenTimeout
  -- boundary scan
  | jtagTapReset
  | jtagExtest
  | jtagIdcode
  | jtagSamplePreload (straps : Straps) (lines : I3cLines) (shiftIn : BitVec 14)
  | jtagHighz
  | jtagClamp
  | jtagBypass (opcode : BitVec 8)
  -- I3C common command codes
  | entdaa (bus : I3cBus) (addr : BitVec 7)
  | setdasa (bus : I3cBus) (static addr : BitVec 7)
  | rstdaa (bus : I3cBus)
  | enec (bus : I3cBus) (events : BitVec 8)
  | disec (bus : I3cBus) (events : BitVec 8)
  | getpid (bus : I3cBus)
  | getbcr (bus : I3cBus)
  | getdcr (bus : I3cBus)
  | getstatus (bus : I3cBus)
  | getmrl (bus : I3cBus)
  | setmrl (bus : I3cBus) (len : BitVec 16)
  | getmwl (bus : I3cBus)
  | setmwl (bus : I3cBus) (len : BitVec 16)
  | i3cOtherCcc (bus : I3cBus) (code : BitVec 8)
  -- thermal, clocks and power loops
  | thermalSample (readings : List (Option Int))
  | throttleWindowEnd (die : Die)
  | trippedRestart (aon : Option Int)
  | freqStep (dom : ClkDom)
  | fastGuardPeriod (estMw : BitVec 32)
  | excursionTimerExpiry
  | averageLoopPeriod (means : PowerMeans)
  | tileSleepDwellExpiry (t : TileId)
  | chipLowDwellExpiry (c : ChipId)
  | unitWakeDone (u : WakeUnit)
  -- boot
  | bootStageRom
  | bootStageFw
  | bootStageHub (err : Option StageErr)
  | bootStageUcie (links : List UcieLink)
  | bootStageHbm (trained : List Bool) (mbps : List Nat)
  | bootStageUnits (unitFail : BitVec 320) (arrayFail : BitVec 128) (pcieOk : Bool)
  | bootStageLock (cfg : Option BootCfg)
  | bootStageOpen
  | bootWatchdog
  | bootCompleteWrite (trap : Bool)
  | bootFailClear
  -- resets
  | rstRequestWarm
  | rstRequestBeyby
  | rstTile (t : TileId)
  | tileResetDone (t : TileId)
  | vfFlr (fn : FnId)
  | pfFlrHotReset (kind : PfReset)
  | flrComplete (fn : FnId)
  | ucieRetrain (c : ChipId) (lost : BitVec 4)
  -- the Palren dictionary
  | read (src : ReqSrc)
  | write (src : ReqSrc)
  | objectWrite (key : ObjKey) (value : Nat)
  | flashCommitDone
  | readSeg (src : ReqSrc)
  | writeSeg (src : ReqSrc)
  | abortSeg (src : ReqSrc)
  | segTransferTimeout (key : ObjKey)
  | writeSet (src : ReqSrc)
  | sessionOpen (src : ReqSrc)
  | sessionClose (src : ReqSrc)
  | sessionIdleTimeout (session : Nat)
  | authChallenge (src : ReqSrc)
  | authProve (src : ReqSrc)
  | nonceExpiry (mailboxPath : Bool) (session : Nat)
  | authHoldoffEnd
  | describe (src : ReqSrc)
  | nextObject (src : ReqSrc)
  | setEndpointId (b : Binding) (eid : BitVec 8)
  | getEndpointId (b : Binding)
  | getMctpVersionSupport (b : Binding)
  | getMessageTypeSupport (b : Binding)
  | getVendorDefinedMessageSupport (b : Binding)
  -- BAR0 and BAR2
  | mbxGo (fn : FnId) (request : List Byte) (irqEnable : Bool)
  | mbxDoneClear (fn : FnId)
  | fnTickLoRead (a : FnRead)
  | msixUnmask (fn : FnId) (w : BarWrite)
  | sqTail (fn : FnId) (ring : RingId) (value : BitVec 32) (stores : List ByteStore)
  | cqHead (fn : FnId) (ring : RingId) (value : BitVec 32)
  -- rings and jobs
  | ringEnable (ring : RingId)
  | disableDrain (ring : RingId)
  | disableAbort (ring : RingId)
  | ringFetchEntry
  | nop (job : Nat)
  | run (job : Nat)
  | prefetchToHbm (job : Nat)
  | prefetchToHost (job : Nat)
  | advise (job : Nat)
  | barrier (job : Nat)
  | create (job : Nat)
  | fork (job : Nat)
  | commit (job : Nat)
  | trim (job : Nat)
  | pin (job : Nat)
  | unpin (job : Nat)
  | seqCtlQuery (job : Nat)
  | free (job : Nat)
  | kvEviction (tenant : FnId)
  | migrationMoveDone (dst : Pa)
  | schedulerDispatch (job : Nat) (tiles : List TileId)
  | jobComplete (job : Nat)
  | ringIrqTimer (ring : RingId)
  -- memory and translation
  | hdmHostAccess (offset : Nat) (op : EngineOp)
  | engineHbmAccess (source : BitVec 8) (tenant : FnId) (job : Option Nat) (pa : Pa) (op : EngineOp)
  | walkStart
  | walkComplete (walk : Nat)
  | walkTimeout (walk : Nat)
  | faultQueueSlotFree
  | faultRetry (faultId : BitVec 16) (stores : List ByteStore)
  | faultFail (faultId : BitVec 16)
  | stallLimitExpiry (faultId : BitVec 16)
  | sfenceBroadcast (mode : FenceMode) (va : Option (BitVec 64)) (asid : Option (BitVec 16))
      (stores : List ByteStore)
  | fenceRetire
  | fenceTimeout (lateTiles : BitVec 128) (lateChips : BitVec 4) (lateStu : LateStu)
  | tenRotInval (first count : Nat) (stores : List ByteStore)
  | rotInvalComplete
  | tenantClearDone (u : ClearUnit) (found : ReadBack)
  | policyStart (core : Fin 8)
  | policyStop (core : Fin 8)
  | policyTrap (core : Fin 8)
  | tileEnable (t : TileId) (on : Bool)
  -- tile command words
  | load (t : TileId) (w : Tcw)
  | store (t : TileId) (w : Tcw)
  | copy (t : TileId) (w : Tcw)
  | gather (t : TileId) (w : Tcw)
  | hload (t : TileId) (w : Tcw)
  | lds (t : TileId) (w : Tcw)
  | setflag (t : TileId) (w : Tcw)
  | mma (t : TileId) (w : Tcw)
  | mov (t : TileId) (w : Tcw)
  | add (t : TileId) (w : Tcw)
  | sub (t : TileId) (w : Tcw)
  | mul (t : TileId) (w : Tcw)
  | fma (t : TileId) (w : Tcw)
  | max (t : TileId) (w : Tcw)
  | min (t : TileId) (w : Tcw)
  | cvt (t : TileId) (w : Tcw)
  | rsum (t : TileId) (w : Tcw)
  | scale (t : TileId) (w : Tcw)
  | xpack (t : TileId) (w : Tcw)
  | xcombCombine (t : TileId) (w : Tcw)
  | xcombNormalise (t : TileId) (w : Tcw)
  | exp (t : TileId) (w : Tcw)
  | exp2 (t : TileId) (w : Tcw)
  | expx (t : TileId) (w : Tcw)
  | log (t : TileId) (w : Tcw)
  | log2 (t : TileId) (w : Tcw)
  | rcp (t : TileId) (w : Tcw)
  | rsqrt (t : TileId) (w : Tcw)
  | sqrt (t : TileId) (w : Tcw)
  | tanh (t : TileId) (w : Tcw)
  | logistic (t : TileId) (w : Tcw)
  | gated (t : TileId) (w : Tcw)
  | meanvar (t : TileId) (w : Tcw)
  | layernorm (t : TileId) (w : Tcw)
  | rmsnorm (t : TileId) (w : Tcw)
  | softmax (t : TileId) (w : Tcw)
  | table (t : TileId) (w : Tcw)
  | prog (t : TileId) (w : Tcw)
  | scoutQuery (t : TileId) (w : Tcw)
  | scoutQueryComplete (t : TileId)
  | scoutQueryTimeout (t : TileId)
  | scoutLoadDone (load : Nat)
  | scoutSweepDue (a : ArrayId)
  | scoutSweepDone (a : ArrayId) (knownSumsOk : Bool)
  | scoutEnable (a : ArrayId) (on : Bool) (checkPasses : Bool)
  | scoutTenantArrays (tenant : FnId) (arrays : BitVec 128)
  | scoutGuard (value : BitVec 16)
  | fenceWait (t : TileId) (w : Tcw)
  | poll (t : TileId) (w : Tcw)
  | pollSatisfied (t : TileId)
  | loop (t : TileId) (w : Tcw)
  | endloop (t : TileId) (w : Tcw)
  | brk (t : TileId) (w : Tcw)
  | sli (t : TileId) (w : Tcw)
  | sadd (t : TileId) (w : Tcw)
  | smul (t : TileId) (w : Tcw)
  | sand (t : TileId) (w : Tcw)
  | sxor (t : TileId) (w : Tcw)
  | sshr (t : TileId) (w : Tcw)
  | setp (t : TileId) (w : Tcw)
  | plogic (t : TileId) (w : Tcw)
  | seg (t : TileId) (w : Tcw)
  | done (t : TileId) (w : Tcw)
  | abort (t : TileId) (w : Tcw)
  | tcwComplete (t : TileId) (op : Nat) (cycles : Nat)
  | segmentOverrun (t : TileId)
  | segmentBoundaryTake (t : TileId)
  | checkpointDrainDone (t : TileId)
  | jobResume (job : Nat) (tiles : List TileId)
  -- scrubber, SFU slots
  | scrubPassDue (t : TileId)
  | scrubGranule (t : TileId)
  | scrubLate (t : TileId)
  | sfuUnload (tenant : FnId) (program : Bool) (slot : Fin 8)
  -- solver
  | solvSlotEnable (k : SolvSlot)
  | solvSlotDisable (k : SolvSlot)
  | solvSlotAbort (k : SolvSlot)
  | solvSlotKick (k : SolvSlot)
  | solverPoll (k : SolvSlot)
  | solverBatchFull (k : SolvSlot)
  | solverBatchDelta (k : SolvSlot)
  | solverBatchDone
  -- scale-out
  | scaleChEnable (c : ChanId)
  | scaleChDisable (c : ChanId)
  | scalePortEnable (p : PortId) (on : Bool)
  | portLinkUp (p : PortId)
  | portLinkDown (p : PortId)
  | neighborSolicitation (p : PortId) (target : BitVec 128)
  | lrtSqWake (c : ChanId)
  | lrtSendEntry (c : ChanId)
  | lrtData (d : LrtDatagram)
  | lrtFlag (d : LrtDatagram)
  | lrtAck (d : LrtDatagram)
  | lrtNak (d : LrtDatagram)
  | lrtProbe (d : LrtDatagram)
  | lrtProbeReply (d : LrtDatagram)
  | lrtAckTimer (c : ChanId)
  | lrtRtoExpiry (c : ChanId)
  | lrtProbeTimer (p : PeerId)
  -- metrology
  | meterPowerUp (coverOpen traceBroken : Bool)
  | meterSample (v i : BitVec 24) (vOvr iOvr : Bool) (aux : AuxSample)
  | senseOpenDetect (pair : Fin 2)
  | senseClosed (pair : Fin 2)
  | substitutionEnd
  | occupancyReportSend
  | occupancyReport
  | journalSetDue
  | journalWriteDone (verified : Bool)
  | meterWatchdog (ramCrcOk : Bool)
  | coverSwitchChange (ch : SealChange)
  | readRecord (seq : BitVec 56)
  | readLive
  | readPubkey
  | writeCal (block : List Byte) (signature : List Byte)
  | writeFw (image : List Byte) (signature : List Byte)
  | mirrorFrameSend
  | gntMirrorLost
  -- deadlines, error rings, test
  | deadlineMiss (job : Nat)
  | errRingEnable (tenant : FnId) (irq : Bool)
  | errRingDisable (tenant : FnId)
  | errIrqTimer (tenant : FnId)
  | errAlertClear
  | testUnlockActivate
  | testUnlockEnd
  | testUnlockExpiry
  | pertEccFlip (value : BitVec 128)
  | thmPeakTemp (die : Die)
  | memPasidTable (tenant : FnId) (base : BitVec 64) (stores : List ByteStore)
  | kvHbmQuota (tenant : FnId) (value : BitVec 64)
  | overdueSweep (a : ArrayId)
  | tenantClearDeadline (u : ClearUnit)
  | neighborAdvertisement (p : PortId) (target : BitVec 128) (linkAddr : BitVec 48)
deriving DecidableEq, Repr

end Sys2Proof
end

