-- ==== Sys2Proof/Config.lean ====
section
/-! DEFINITION. What one device fixes and the spec leaves open: free values, opaque constants without a body,
so that nothing can be proved of them but what their type says. Each is named in an assumption log entry. -/

namespace Sys2Proof.Config

/-- Free value number `n` of a run (log 5): a value the spec leaves open at each use. -/
opaque freeNat : Nat → Nat
/-- Lag of a unit's local tick copy behind the AON counter (R49, log 16): unit and tick; taken modulo 3. -/
opaque tickLag : Nat → Nat → Nat
/-- A fresh authentication nonce (R115), by issue number (log 17); 32 bytes as a number. -/
opaque nonce : Nat → Nat
/-- Whether a byte string is a firmware image that the boot ROM verifies (R82, R95): the format is not given (log 9). -/
opaque imageVerifies : Nat → List Byte → Bool
/-- The version that a verified image carries (BOOT_FW_VERSION, log 9). -/
opaque imageVersion : Nat → List Byte → Nat
/-- The ECDSA P-384 signature that a policy module image carries (R191, log 17): its place in the image is not given. -/
opaque policySignature : List Byte → List Byte
/-- The bytes of a policy module image that its SHA-384 digest is taken of (R191, log 17). -/
opaque policyDigested : List Byte → List Byte
/-- I3C register values that the spec does not give: provisioned ID, BCR, DCR, status, by port and command (log 6). -/
opaque i3cValue : Nat → Nat → Nat
/-- MCTP control answers that the spec leaves to the base specification: by binding and command (log 18). -/
opaque mctpValue : Nat → Nat → List Byte
/-- A FP32 result of a built-in function may be either FP32 neighbour of the exact value (R280, log 19):
function code and input code; true takes the larger. -/
opaque fp32Up : Nat → Nat → Bool
/-- The ECDSA P-384 signature the meter makes of a digest with its private key (R371, log 17): 96 bytes. -/
opaque meterSign : Nat → Nat
/-- The public half of the meter's record-signing key (GNT_PUBKEY, R371, log 17): 96 bytes. -/
opaque meterKey : Nat
/-- The public half of the calibration key fused into the meter (R378, log 17): 96 bytes. -/
opaque calKey : Nat
/-- Charge comparator of an array column between its two bounds, or under a perturbation (R301, log 20): evaluation, array,
column, charge score, threshold. -/
opaque chargeBit : Nat → Nat → Nat → Int → Int → Bool
/-- The public key that the buyer supplied with the order (COMM_OPER_KEY as shipped, R117, log 17): 96 bytes. -/
opaque buyerKey : Nat
/-- Module serial number ID_SERIAL (16 bytes, log 21). -/
opaque serial : Nat
/-- Where the KV page manager begins its search for pool addresses (R245, log 25): by job. -/
opaque poolStart : Nat → Nat
/-- A configuration-space dword that the spec does not give (log 10): function and offset. -/
opaque cfgDword : Nat → Nat → Nat
/-- The fields of Device Control that the spec does not give (log 10), by function. -/
opaque devCtl : Nat → Nat
/-- The CXL CDAT answer to a DOE request (R126, log 10): its dwords. -/
opaque doeAnswer : List Nat → List Nat
/-- Offset of the HDM decoder capability in BAR4 (R128, log 105). -/
opaque hdmDecoder : Nat
/-- A CXL component register in BAR4 that the spec does not give (log 105), by offset. -/
opaque cxlDword : Nat → Nat
/-- The charge-mode gain and offset of a column by array and column are fitted from crossings the spec does not
give (R314, log 20): the crossing measured at a tick, of an array, a column, a vector, as a Q3.28 word of R334. -/
opaque crossing : Nat → Nat → Nat → Nat → Int

/-- Charge score of a column of the known-sum pattern for one of the 16 vectors from fuses (R313, R314, log 20): array,
column, vector; taken within ±1,536. -/
opaque knownScore : Nat → Nat → Nat → Int
/-- The factory constants in fuses of an array's sense references (R313, log 20). -/
opaque senseConst : Nat → Nat
/-- The current gain corrected for shunt temperature (R363, log 33), by IGAIN, ITC and the A1 reading. -/
opaque shuntGain : Int → Int → Int → Int
/-- What a group of A0 conversions reads (R375, log 34), by its valid conversions. -/
opaque auxGroup : List Int → Int

end Sys2Proof.Config
end

