-- ==== Sys2Proof/Machine/KMap.lean ====
section
/-! DEFINITION. Maps with natural keys, byte strings as numbers (little-endian, R8) and bit fields. -/

namespace Sys2Proof

/-- The value held under a key. -/
def KMap.find {α : Type} (m : KMap α) (k : Nat) : Option α :=
  match m with
  | [] => none
  | (a, v) :: rest => if a = k then some v else KMap.find rest k

/-- The value held under a key, or the given default. -/
def KMap.get {α : Type} (m : KMap α) (k : Nat) (d : α) : α := (KMap.find m k).getD d

/-- Hold a value under a key; a map with rising keys keeps them rising. -/
def KMap.put {α : Type} (m : KMap α) (k : Nat) (v : α) : KMap α :=
  match m with
  | [] => [(k, v)]
  | (a, w) :: rest =>
    if a = k then (k, v) :: rest
    else if k < a then (k, v) :: (a, w) :: rest
    else (a, w) :: KMap.put rest k v

/-- Hold nothing under a key. -/
def KMap.drop {α : Type} (m : KMap α) (k : Nat) : KMap α := m.filter (fun c => c.1 != k)

/-- Change every value held. -/
def KMap.mapVal {α : Type} (m : KMap α) (f : α → α) : KMap α := m.map (fun c => (c.1, f c.2))

/-- Change the value held under a key. -/
def KMap.upd {α : Type} (m : KMap α) (k : Nat) (d : α) (f : α → α) : KMap α :=
  KMap.put m k (f (KMap.get m k d))

end Sys2Proof

namespace Sys2Proof.Machine

/-- The bits `lo + w - 1 : lo` of a number. -/
def bitsAt (n lo w : Nat) : Nat := (n >>> lo) % 2 ^ w

/-- One bit of a number. -/
def bitAt (n i : Nat) : Bool := n.testBit i

/-- The number that a byte string holds, little-endian (R8). -/
def leNat : List Byte → Nat
  | [] => 0
  | b :: rest => b.toNat + 256 * leNat rest

/-- A number as a byte string of the given length, little-endian (R8). -/
def leBytes (n : Nat) : Nat → List Byte
  | 0 => []
  | len + 1 => BitVec.ofNat 8 n :: leBytes (n / 256) len

/-- A number as a byte string, big-endian. -/
def beBytes (n len : Nat) : List Byte := (leBytes n len).reverse

/-- The number a big-endian byte string holds. -/
def beNat (b : List Byte) : Nat := leNat b.reverse

/-- A byte of a string that reads zero beyond its end. -/
def byteAt (b : List Byte) (i : Nat) : Byte := b.getD i 0

/-- Two's complement reading of the low `w` bits. -/
def signed (n w : Nat) : Int :=
  let m := n % 2 ^ w
  if m < 2 ^ (w - 1) then (m : Int) else (m : Int) - (2 ^ w : Nat)

/-- Two's complement encoding in `w` bits. -/
def unsigned (i : Int) (w : Nat) : Nat := (i % ((2 ^ w : Nat) : Int)).toNat

/-- A counter that saturates at the largest value of its width. -/
def satAdd (n by' w : Nat) : Nat := Nat.min (n + by') (2 ^ w - 1)

/-- The smallest multiple of `k` at or above `n`. -/
def roundUp (n k : Nat) : Nat := if k = 0 then n else (n + k - 1) / k * k

/-- Number of pieces of size `k` that hold `n`. -/
def ceilDiv (n k : Nat) : Nat := if k = 0 then 0 else (n + k - 1) / k

/-- Put an element before the first one that it precedes. -/
def insertBy {α : Type} (le : α → α → Bool) (a : α) : List α → List α
  | [] => [a]
  | b :: rest => if le a b then a :: b :: rest else b :: insertBy le a rest

/-- A list in rising order; equal elements keep theirs. -/
def sortBy {α : Type} (le : α → α → Bool) (l : List α) : List α := l.foldr (insertBy le) []

/-- Integer square root, bit by bit. -/
def sqrtBits (n : Nat) : Nat → Nat → Nat
  | 0, x => if (x + 1) * (x + 1) ≤ n then x + 1 else x
  | b + 1, x => sqrtBits n b (if (x + 2 ^ (b + 1)) * (x + 2 ^ (b + 1)) ≤ n then x + 2 ^ (b + 1) else x)

/-- A number with one bit set or cleared. -/
def putBit (n i : Nat) (b : Bool) : Nat :=
  if b then n ||| 2 ^ i else if n.testBit i then n - 2 ^ i else n

end Sys2Proof.Machine
end

