-- ==== Sys2Proof/Machine/State.lean ====
section
/-! DEFINITION. The state of the block as plain data: every register, buffer, counter, mode and pin the spec gives it
(INVENTORY.md, '## State'), and the queue of waiting commands. Default values are the reset values. -/

namespace Sys2Proof.Machine

/-! ### Memory -/

/-- The error mark of a protected word or line (R219, R220, R400). -/
inductive WordErr where
  | correctable
  | uncorrectable
  | poison
deriving DecidableEq, Repr

/-- An armed check-bit flip (R398, PERT_ECC_FLIP): the word's number and one or two bits. -/
structure Arm where
  word : Nat
  bits : Nat
deriving DecidableEq, Repr

/-- Memory by device physical address (Table 7.1): bytes, marks of 64-byte lines (R400), armed flips,
the lines of the HDM window that the host caches (R128). -/
structure Mem where
  cells : List Host.Cell := []
  lines : KMap WordErr := []
  armed : List Arm := []
  hdmLines : List Nat := []
deriving DecidableEq, Repr

/-! ### Board, power, pins -/

/-- The cause of the last turn-off of the main rails (R404). -/
inductive TurnOff where
  | pwrEn
  | input
  | overcurrent
  | thermal
deriving DecidableEq, Repr

/-- Inputs, pins, rails, latches and the tick counter (chapter 02, R6, R402, R403). -/
structure Pwr where
  tick : Nat := 0
  aon : Bool := true
  v54 : Bool := false
  aux : Bool := true
  overvolt : Bool := false
  charging : Bool := false
  charged : Bool := false
  pwrEn : Bool := false
  perst : Bool := true
  perstHeld : Bool := false
  modPwrOk : Bool := false
  thermtrip : Bool := false
  rails : Bool := false
  falling : Bool := false
  okTick : Nat := 0
  perstTick : Nat := 0
  pwrEnTick : Nat := 0
  v54Tick : Nat := 0
  thermalLatch : Bool := false
  ocLatch : Bool := false
  waitCool : Bool := false
  lastOff : TurnOff := .pwrEn
  coldBoot : Bool := true
  straps : Straps := ⟨0, false, false⟩
  linkReset : Bool := true
deriving DecidableEq, Repr

/-- A boundary-scan instruction in effect (Table 2.8). -/
inductive JtagIr where
  | extest
  | idcode
  | sample
  | highz
  | clamp
  | bypass
deriving DecidableEq, Repr

/-- The test access port (R42 to R46): instruction register, instruction in effect, the last captured pins, the update
stage of the boundary register that PRELOAD loads, the bypass register. -/
structure Jtag where
  ir : BitVec 8 := 0x01
  eff : JtagIr := .idcode
  scanned : BitVec 14 := 0
  boundary : BitVec 14 := 0
  bypassReg : Bool := false
deriving DecidableEq, Repr

/-- One I3C target port (R41). -/
structure I3cPort where
  addr : BitVec 7 := 0
  events : BitVec 8 := 0
  mrl : BitVec 16 := 0
  mwl : BitVec 16 := 0
deriving DecidableEq, Repr

/-! ### Thermal monitor and clocks -/

/-- One debounce machine of R65. -/
structure Debounce where
  count : Nat := 0
  asserted : Bool := false
deriving DecidableEq, Repr

/-- Thermal state of one die (R63 to R67); `edges` holds the ticks of the last assertions (keys 1 to 3 for 95, 105 and
115 degrees) and of the last releases (keys 4 to 6). -/
structure DieTherm where
  sample : Int := 0
  blind : Bool := false
  m95 : Debounce := {}
  m105 : Debounce := {}
  m115 : Debounce := {}
  limit : Option Nat := none
  winOn : Bool := false
  winStart : Nat := 0
  winHigh : Bool := false
  winLow : Bool := false
  edges : KMap Nat := []
deriving DecidableEq, Repr

/-- The thermal monitor: dies 0 hub, 1 to 4 C0 to C3; sensor-fault bits (THM_SENSOR_FAULT); the tick of the last
sample. -/
structure Therm where
  dies : KMap DieTherm := []
  aon : Option Int := none
  faultBits : Nat := 0
  lastSample : Option Nat := none
deriving DecidableEq, Repr

/-- Clocks and power-capping loops (R57 to R62), MHz; the ticks of each clock's rising steps within the last millisecond
(key 0 the hub, 1 to 4 the chiplets); chiplets in C-LOW, the tick from which a chiplet's dwell counts at the earliest,
and those that only a scrub pass keeps out of C-LOW (R229). -/
structure Clk where
  fab : KMap Nat := []
  hub : Nat := 3200
  capLimit : Nat := 2000
  hubPower : Nat := 3200
  guardOn : Bool := false
  guardSince : Nat := 0
  guardCounted : Bool := false
  overCap : Option Nat := none
  means : PowerMeans := ⟨0, 0, 0, 0, 0⟩
  chipLow : KMap Bool := []
  chipIdleSince : KMap Nat := []
  chipScrub : KMap Bool := []
  rises : KMap (List Nat) := []
  lastGuard : Option Nat := none
  lastLoop : Option Nat := none
deriving DecidableEq, Repr

/-! ### Boot -/

/-- One image slot of the boot flash (R82). -/
structure FwSlot where
  valid : Bool := true
  version : Nat := 1
deriving DecidableEq, Repr

/-- The HDM decoder in BAR4 (R128): the base and size that the host programs, whether it is committed. -/
structure HdmDecoder where
  base : Nat := 0
  size : Nat := 0
  on : Bool := false
deriving DecidableEq, Repr

/-- Boot, resets and link training (chapter 04); `operOff` is BOOT_UNITS_OPER_OFF as the last warm reset took it
(Table 4.7). -/
structure Boot where
  stage : Nat := 0
  running : Bool := false
  beyby : Bool := false
  cause : Nat := 0
  complete : Bool := false
  lock : Bool := false
  start : Nat := 0
  stageStart : Nat := 0
  stageTicks : KMap Nat := []
  count : Nat := 0
  mirror : Nat := 0
  prior : Nat := 0
  attempt : Bool := false
  beybyReq : Bool := false
  cfgOpen : Bool := false
  slot : Nat := 2
  slotA : FwSlot := {}
  slotB : FwSlot := {}
  fuses : Nat := 2 ^ 294 - 1 - 7 * 2 ^ 269
  active : Nat := 0
  hbmState : KMap Nat := []
  hbmMbps : KMap Nat := []
  hbmDead : Nat := 0
  ucie : KMap Nat := []
  pcieGen : Nat := 0
  pcieLanes : Nat := 0
  cxl : Nat := 0
  rrsTicks : Nat := 0
  memActive : Bool := false
  rstCause : Nat := 0
  rstTick : Nat := 0
  rstWarm : Nat := 0
  lastFail : Nat := 0
  lastTrip : Nat := 0
  hdmGib : Nat := 0
  operOff : Nat := 0
  hdmDec : HdmDecoder := {}
deriving DecidableEq, Repr

/-! ### Dictionary server -/

/-- The caller of a Palren request: a mailbox, an MCTP session, the firmware path, or a policy module's core (R114,
R190). -/
inductive Caller where
  | mbx (fn : Nat)
  | mctp (session : Nat)
  | fw
  | policy (core : Nat)
deriving DecidableEq, Repr

/-- A nonce issued by AUTH_CHALLENGE (R115). -/
structure NonceRec where
  value : Nat
  tick : Nat
deriving DecidableEq, Repr

/-- An open MCTP session (R114); `reduced`: opened on the reduced endpoint (R120). -/
structure Session where
  binding : Binding
  eid : BitVec 8
  operator : Bool := false
  lastUse : Nat := 0
  fails : Nat := 0
  nonce : Option NonceRec := none
  reduced : Bool := false
deriving DecidableEq, Repr

/-- A segmented transfer in progress (R111). -/
structure SegXfer where
  key : ObjKey
  holder : Caller
  next : Nat
  data : List Byte
  last : Nat
deriving DecidableEq, Repr

/-- A write of a flash-kept object whose commit is not done (R106); no source: its response is discarded (R399). -/
structure FlashWrite where
  src : Option ReqSrc
  header : Nat
  key : ObjKey
  value : Nat
deriving DecidableEq, Repr

/-- A TEN_ROT_INVAL whose response waits (R187). -/
structure RotInval where
  src : Option ReqSrc
  header : Nat
  first : Nat
  count : Nat
deriving DecidableEq, Repr

/-- A Palren request that the server has not taken up yet (R123): the opcode of its command, where it comes from. -/
structure HeldFrame where
  op : Nat
  src : ReqSrc
deriving DecidableEq, Repr

/-- The dictionary server on K0 and the reduced endpoint (chapter 05). -/
structure Srv where
  sessions : KMap Session := []
  segs : List SegXfer := []
  flash : Option FlashWrite := none
  eidI3c : Nat := 0
  eidVdm : Nat := 0
  fails : List Nat := []
  holdUntil : Option Nat := none
  rotInvals : List RotInval := []
  heldFrames : List HeldFrame := []
deriving DecidableEq, Repr

/-- An entry of the MSI-X table (Table 6.3): message address and data; the mask bits of all vectors are `Fn.unmasked`. -/
structure MsixEntry where
  addr : Nat := 0
  data : Nat := 0
deriving DecidableEq, Repr

/-- One function: configuration bits, mailbox, MSI-X, implicit session (chapters 05 and 06); `mps` and `mrrs` are the
codes of Max_Payload_Size and Max_Read_Request_Size, `aer` the uncorrectable error status, `bars` the base addresses. -/
structure Fn where
  busMaster : Bool := false
  pasidEn : Bool := false
  msixEn : Bool := false
  d3hot : Bool := false
  flr : Bool := false
  req : List Byte := []
  rsp : List Byte := []
  busy : Bool := false
  done : Bool := false
  irq : Bool := false
  tickHi : Nat := 0
  unmasked : Nat := 0
  pba : Nat := 0
  msixTab : KMap MsixEntry := []
  mps : Nat := 0
  mrrs : Nat := 2
  aer : Nat := 0
  bars : KMap Nat := []
  operator : Bool := false
  fails : Nat := 0
  nonce : Option NonceRec := none
deriving DecidableEq, Repr

/-! ### Rings and jobs -/

/-- RING_STATE (R135). -/
inductive RingState where
  | disabled
  | enabled
  | draining
  | error
deriving DecidableEq, Repr

/-- Ring k: state, indices, latched configuration, moderation (chapter 06). -/
structure Ring where
  st : RingState := .disabled
  sqHead : Nat := 0
  sqTail : Nat := 0
  cqTail : Nat := 0
  cqHead : Nat := 0
  phase : Bool := true
  fn : Nat := 0
  sqBase : Nat := 0
  cqBase : Nat := 0
  size : Nat := 8
  pasid : Nat := 0
  vec : Nat := 2
  counted : Nat := 0
  oldest : Nat := 0
  lastFetch : Nat := 0
  firstPend : Nat := 0
  turns : Nat := 0
  done : Nat := 0
  unrel : Nat := 0
deriving DecidableEq, Repr

/-- A handle entry (Table 10.2). -/
structure Handle where
  kind : Nat := 0
  ro : Bool := false
  extent : Nat := 0
  base : Nat := 0
deriving DecidableEq, Repr

/-- A level of the loop stack (R206). -/
structure LoopLevel where
  start : Nat
  left : Nat
  index : Nat
  idxReg : Nat
deriving DecidableEq, Repr

/-- A checkpoint record (R210). -/
structure Ckpt where
  pos : Nat
  sregs : KMap Qword
  preds : BitVec 8
  loops : List LoopLevel
  handles : KMap Handle
  keep : Nat
  keepStart : Nat
  keepData : List Byte
deriving DecidableEq, Repr

/-- Where a fetched job stands (R145, R146, R176). -/
inductive JobState where
  | waiting
  | assigned
  | running
  | offTile (held : Bool)
  | ended (status : Nat)
deriving DecidableEq, Repr

/-- A fetched job (Table 6.5) until its completion is posted. -/
structure Job where
  ring : Nat := 0
  tenant : Nat := 0
  pasid : Nat := 0
  sqIndex : Nat := 0
  userTag : Nat := 0
  opcode : Nat := 0
  program : Nat := 0
  args : Nat := 0
  argsLen : Nat := 0
  seq : Nat := 0
  inline : Nat := 0
  tilesMin : Nat := 0
  tilesMax : Nat := 0
  dlPolicy : Nat := 1
  faultPolicy : Nat := 1
  fenceBefore : Bool := false
  noIrq : Bool := false
  deadline : Nat := 0
  fetchTick : Nat := 0
  cls : Nat := 0
  st : JobState := .waiting
  missed : Bool := false
  demoted : Bool := false
  preempted : Bool := false
  clamped : Bool := false
  nTiles : Nat := 0
  tiles : List Nat := []
  doneRanks : List Nat := []
  ckpts : KMap Ckpt := []
  gens : KMap Nat := []
  headroom : Nat := 48
  started : Nat := 0
  front : Bool := false
  stopAtBoundary : Bool := false
  cancel : Bool := false
  discard : Bool := false
  endTick : Nat := 0
  endKey : Nat := 0
  doorTick : Nat := 0
  ran : Bool := false
  ringPolicy : Nat := 1
  taken : Bool := false
  scanPos : Nat := 0
deriving DecidableEq, Repr

/-! ### Translation -/

/-- An entry of a micro-TLB, chiplet TLB or the IOTLB (R163, R164): a run of `pages` pages from `vpn`. -/
structure TlbEntry where
  tenant : Nat
  pasid : Nat
  asid : Nat
  glob : Bool
  vpn : Nat
  pages : Nat
  ppn : Nat
  readable : Bool
  writable : Bool
  dirty : Bool
deriving DecidableEq, Repr

/-- A non-leaf entry in the walk cache (Table 7.3). -/
structure WalkCacheEntry where
  tenant : Nat
  pasid : Nat
  asid : Nat
  level : Nat
  vpn : Nat
  pte : Nat
deriving DecidableEq, Repr

/-- A PASID context entry in the context cache (Table 7.2). -/
structure CtxEntry where
  tenant : Nat
  pasid : Nat
  entry : Nat
deriving DecidableEq, Repr

/-- Who waits for a translation (Table 7.8, fields SOURCE to USER_TAG); `tag` separates requests of one engine; `since`
and `limit` are the start of its stall and the stall limit then (R175). -/
structure Requester where
  source : Nat
  engine : Nat := 0
  job : Option Nat := none
  ring : Nat := 0
  sqIndex : Nat := 0
  userTag : Nat := 0
  prio : Nat := 6
  policy : Nat := 1
  tag : Nat := 0
  va : Nat := 0
  access : Nat := 0
  since : Nat := 0
  limit : Nat := 0
deriving DecidableEq, Repr

/-- A translation walk, waiting or on a walker (R165, R166). -/
structure Walk where
  tenant : Nat
  pasid : Nat
  va : Nat
  reqs : List Requester
  active : Bool := false
  reserved : Bool := false
  start : Nat := 0
  deadline : Nat := 250
  delay : Nat := 0
  restarted : Bool := false
deriving DecidableEq, Repr

/-- An open fault record (Table 7.8). -/
structure FaultRec where
  tenant : Nat
  pasid : Nat
  va : Nat
  access : Nat
  cause : Nat
  level : Nat
  tick : Nat
  reqs : List Requester
deriving DecidableEq, Repr

/-- A broadcast SFENCE.VMA that has not retired (R168). -/
structure Fence where
  va : Option Nat
  asid : Option Nat
  start : Nat
  deadline : Nat
deriving DecidableEq, Repr

/-- A page move by the migration engine (R179, R180): the leaf that was made invalid, its bytes, the direction, and
the job it serves (none: an eviction). -/
structure Move where
  tenant : Nat
  pasid : Nat
  va : Nat
  level : Nat
  pteAddr : Nat
  pte : Nat
  src : Nat
  bytes : Nat
  toHbm : Bool
  job : Option Nat
deriving DecidableEq, Repr

/-- Placement advice of a page (R181). -/
structure Advice where
  tenant : Nat
  pasid : Nat
  vpn : Nat
  mode : Nat
deriving DecidableEq, Repr

/-- The STU, the fault queue, the ownership cache and the migration engine (chapters 07 and 08); `regionOwner` is what
the hub remembers of each region: the tenant that may use it since it was last wiped (R188). -/
structure Stu where
  iotlb : List TlbEntry := []
  chipTlb : KMap (List TlbEntry) := []
  walkCache : List WalkCacheEntry := []
  ctxCache : List CtxEntry := []
  walks : KMap Walk := []
  nextWalk : Nat := 0
  faults : KMap FaultRec := []
  nextFault : Nat := 0
  faultWait : List FaultRec := []
  fences : List Fence := []
  rotCache : KMap Nat := []
  regionOwner : KMap Nat := []
  moves : List Move := []
  advice : List Advice := []
deriving DecidableEq, Repr

/-! ### Tiles -/

/-- Tile power states (Table 3.2). -/
inductive TilePower where
  | run
  | idle
  | sleep
deriving DecidableEq, Repr

/-- Bytes of a store that a TCW touches: store kind (1 TB, 2 AS), start, length. -/
structure Span where
  kind : Nat
  start : Nat
  len : Nat
deriving DecidableEq, Repr

/-- What an outstanding memory TCW still has to do (R204). -/
inductive MemOp where
  | load (va : Nat) (dst : Span)
  | store (va : Nat) (src : Span)
  | copy (src dst : Span)
  | gather (seq layer group : Nat) (value : Bool) (pages : List Nat) (dst : Span) (countReg startReg next : Nat)
  | hload (va : Nat) (first count : Nat)
  | lds (va : Nat) (reg : Nat)
  | setflag (va : Nat) (value : Qword)
  | compute
deriving DecidableEq, Repr

/-- An item of a tile's outstanding list, oldest first: a TCW in a unit, or the ORDER of a FENCE WAIT (R350).
`unit`: 0 to 3 DMA queues, 4 SFU, 5 vector, 6 matrix, 7 scout. -/
inductive OutItem where
  | op (id unit pos : Nat) (body : MemOp) (reads writes : List Span) (regs : List Nat)
  | fence (order : Nat)
deriving DecidableEq, Repr

/-- A POLL that waits (R208). -/
structure PollWait where
  memory : Bool
  addr : Nat
  value : Qword
  cmp : Nat
deriving DecidableEq, Repr

/-- A mask descriptor in the SFU's cache (R272). -/
structure MaskEntry where
  handle : Nat
  off : Nat
  desc : Nat
deriving DecidableEq, Repr

/-- A layer in a bank of a span (R307): loaded, or being loaded by the load named; its always-selected states by column
(its sketches are in the banks of the arrays), the query that last used it, the class of the load's walks. -/
structure Layer where
  layer : Nat
  np : Nat
  loading : Option Nat := none
  prio : Nat := 6
  failed : Bool := false
  always : List Bool := []
  lastQuery : Nat := 0
deriving DecidableEq, Repr

/-- What a started query runs on and answers (R304, R307, R310): the bank; the bit and the array of each page's column;
whether some array runs it in exact mode. -/
structure QSnap where
  bank : Nat
  bits : List Bool
  arrays : List Nat
  exact : Bool
deriving DecidableEq, Repr

/-- A scout query of a tile (R298): key, block, destination, mode, the evaluation it shares (R304);
started once it runs on a layer. `forced`: no span
(R309); `shift`: the perturbation of each array's comparator offsets (Table 20.8); the arrays whose columns are
selected since they were disabled (R317); the cycle count of the segment at the issue. -/
structure Query where
  id : Nat
  eval : Nat
  tenant : Nat
  seq : Nat
  layer : Nat
  group : Nat
  block : List Byte
  result : Span
  countReg : Nat
  exact : Bool
  limit : Nat
  start : Nat
  prio : Nat
  shift : KMap Nat := []
  snap : Option QSnap := none
  forced : Bool := false
  forcedArrays : List Nat := []
  seg : Nat := 0
deriving DecidableEq, Repr

/-- One attention tile (chapters 09 and 10); `stalls` names its engines that a translation fault stalls (R175). -/
structure Tile where
  power : TilePower := .idle
  idleSince : Nat := 0
  failed : Bool := false
  resetting : Bool := false
  owner : Option Nat := none
  clearing : Bool := false
  clearStart : Nat := 0
  mustClear : Bool := false
  job : Option Nat := none
  rank : Nat := 0
  active : Bool := false
  flagged : Bool := false
  atBoundary : Bool := false
  pos : Nat := 0
  sregs : KMap Qword := []
  preds : BitVec 8 := 1
  loops : List LoopLevel := []
  skip : Option Nat := none
  handles : KMap Handle := []
  tb : List Host.Cell := []
  as : List Host.Cell := []
  tbErr : KMap WordErr := []
  asErr : KMap WordErr := []
  hErr : KMap WordErr := []
  cErr : KMap WordErr := []
  tbArm : List Arm := []
  asArm : List Arm := []
  ckpt : Option Ckpt := none
  copied : Bool := false
  draining : Option (Nat × Nat) := none
  win : List (Nat × Nat) := []
  out : List OutItem := []
  nextOp : Nat := 0
  poll : Option PollWait := none
  stalls : List Nat := []
  seg : Nat := 0
  masks : List MaskEntry := []
  sfuTabs : List (Nat × Nat) := []
  sfuProgs : List (Nat × Nat) := []
  query : Option Query := none
  uTlb : List TlbEntry := []
  scrubPos : Nat := 0
  scrubOn : Bool := false
  scrubStart : Nat := 0
  scrubLate : Bool := false
  scrubWoke : Bool := false
  occSince : Nat := 0
deriving DecidableEq, Repr

/-- A policy core K8 to K15 (R190, R191): state 0 NONE, 1 RUNNING, 2 STOPPED, 3 TRAPPED; the image held. -/
structure Core where
  st : Nat := 0
  image : Option (List Byte) := none
deriving DecidableEq, Repr

/-! ### KV page store -/

/-- A live sequence (Table 12.1), and the pages allocated to each of its rows (R251). -/
structure Seq where
  tenant : Nat
  ptBase : Nat
  skBase : Nat
  tokens : Nat
  pageCap : Nat
  layers : Nat
  groups : Nat
  dimK : Nat
  dimV : Nat
  fmt : Nat
  mx : Bool
  contK : Nat
  contV : Nat
  sink : Nat
  window : Nat
  parent : Nat
  pages : Nat
deriving DecidableEq, Repr

/-- A container or table in a pool: its VA and size, and how many of its bytes host memory backs (R245). -/
structure Alloc where
  va : Nat
  size : Nat
  host : Nat
  table : Bool
deriving DecidableEq, Repr

/-- An eviction in progress (R257): its tenant and the addresses of the 4 KiB pages still to move. -/
structure Evict where
  tenant : Nat
  vas : List Nat
deriving DecidableEq, Repr

/-- The KV page store: the sequence directory, each tenant's allocations, the host-pool bytes of a tenant that hold
pages outside its pool, the HBM bytes that the allocation of a waiting job needs, the evictions in progress (chapter 12),
and the PINS counts that are not 0 by tenant and key container (R307: a load counts them from the directory). -/
structure Kv where
  seqs : KMap Seq := []
  allocs : KMap (List Alloc) := []
  hostOther : KMap Nat := []
  short : KMap Nat := []
  evicts : List Evict := []
  pins : KMap (KMap Nat) := []
deriving DecidableEq, Repr

/-! ### SFU slots -/

/-- A generation of a table or program image (R293). -/
structure SfuGen where
  gen : Nat
  bytes : List Byte
deriving DecidableEq, Repr

/-- A slot: its generations still held, the current one (none: empty), installs counted (R293). -/
structure SfuSlot where
  held : List SfuGen := []
  cur : Option Nat := none
  gen : Nat := 0
deriving DecidableEq, Repr

/-! ### Scout arrays -/

/-- SCOUT_STATE (Table 15.4). -/
inductive ScoutState where
  | disabled
  | unverified
  | exactOnly
  | fitted
deriving DecidableEq, Repr

/-- A bank of an array: its cells, as the known-sum pattern or the sketches by column (an unlisted column of a bank
without the pattern holds zeros), and its threshold registers (R192, R298, R314). -/
structure ArrayBank where
  known : Bool := false
  words : KMap Nat := []
  thresh : Nat := 0
deriving DecidableEq, Repr

/-- One scout array (chapter 15); `sense` holds the references loaded from the factory constants in fuses (R313). -/
structure SArray where
  st : ScoutState := .disabled
  lastFit : Nat := 0
  fitSample : Int := 0
  everFit : Bool := false
  due : Bool := false
  sweeping : Bool := false
  suspect : Nat := 0
  gains : KMap Int := []
  offsets : KMap Int := []
  tenant0 : Option Nat := none
  tenant1 : Option Nat := none
  clearing0 : Bool := false
  clearing1 : Bool := false
  clearStart : Nat := 0
  failed : Bool := false
  sense : Option Nat := none
  bank0 : ArrayBank := {}
  bank1 : ArrayBank := {}
deriving DecidableEq, Repr

/-- A sequence's span (R306): its slots as (array, slot), the two banks, a prefetch that waits for
a bank (R308), the query that last used it. -/
structure ScSpan where
  seq : Nat
  tenant : Nat
  np : Nat
  slots : List (Nat × Nat)
  bank0 : Option Layer := none
  bank1 : Option Layer := none
  next : Option (Nat × Nat) := none
  last : Nat := 0
deriving DecidableEq, Repr

/-- The scout arrays and their manager. -/
structure Scout where
  arrays : KMap SArray := []
  spans : List ScSpan := []
  nextLoad : Nat := 0
  nextQuery : Nat := 0
deriving DecidableEq, Repr

/-! ### Solver -/

/-- SOLV_SLOT_STATE (Table 16.5). -/
inductive SolvState where
  | disabled
  | enabled
  | draining
  | error
deriving DecidableEq, Repr

/-- The factor of a problem's normal matrix, or of the shared one (R328), with its flags. -/
structure Fact where
  rows : List (List Int)
  pivot : Bool
  range : Bool
deriving DecidableEq, Repr

/-- The resident structure of a slot (R325): sizes, the template's constants and cells, the data in Q3.28, the
factors. -/
structure Resident where
  p : Nat
  m : Nat
  n : Nat
  g : Nat
  d : Nat
  nshift : Nat
  consts : List Int
  cells : List Nat
  data : List Int
  facts : List Fact
  shared : Fact
deriving DecidableEq, Repr

/-- A batch being executed (R323, R324): its slot and descriptor, status, flag counts, results to write, the
structure that it leaves (none: the one held stays; some none: no valid one). -/
structure SolvBatch where
  slot : Nat
  desc : Nat
  start : Nat
  status : Nat
  pivots : Nat := 0
  ranges : Nat := 0
  out : List Byte := []
  outVa : Nat := 0
  resident : Option (Option Resident) := none
  posted : Bool := false
deriving DecidableEq, Repr

/-- A solver slot (chapter 16): `ready` once the consumer index has been read after ENABLE. -/
structure SSlot where
  st : SolvState := .disabled
  ready : Bool := false
  base : Nat := 0
  pasid : Nat := 0
  size : Nat := 6
  pi : Nat := 0
  ci : Nat := 0
  lastTenant : Option Nat := none
  clearing : Bool := false
  clearStart : Nat := 0
  failed : Bool := false
  resident : Option Resident := none
  lastPoll : Nat := 0
deriving DecidableEq, Repr

/-- The Dermond solver. -/
structure Solv where
  slots : KMap SSlot := []
  batch : Option SolvBatch := none
  lastServed : Nat := 0
deriving DecidableEq, Repr

/-! ### Scale-out -/

/-- SCALE_PORT_STATE (Table 17.4). -/
inductive PortState where
  | down
  | training
  | up
  | off
deriving DecidableEq, Repr

/-- A peer: state 0 UNUSED, 1 UP, 2 LOST; whether its traffic uses the alternate port; its on-link address by port; the
tick of the last PROBE (R343). -/
structure Peer where
  st : Nat := 0
  alternate : Bool := false
  link : KMap Nat := []
  lastProbe : Option Nat := none
deriving DecidableEq, Repr

/-- A DATA or FLAG packet (R340): sent and not acknowledged, waiting for the window, or received and held; `last` of
its entry. -/
structure LrtPkt where
  psn : Nat
  isFlag : Bool
  offset : Nat
  payload : List Byte
  value : Nat
  last : Bool
deriving DecidableEq, Repr

/-- SCALE_CH_STATE (Table 17.4). -/
inductive ChanState where
  | disabled
  | openSt
  | error
deriving DecidableEq, Repr

/-- An LRT channel (R337 to R344): its latched configuration; the send queue's indices (`ready` once the consumer
index has been read, `ciDirty` while it is to be written); the sender; the receiver. -/
structure Chan where
  st : ChanState := .disabled
  draining : Bool := false
  tenant : Nat := 0
  pasid : Nat := 0
  sqBase : Nat := 0
  sqSize : Nat := 6
  rxBase : Nat := 0
  rxBytes : Nat := 0
  peer : Nat := 0
  peerAddr : Nat := 0
  peerChan : Nat := 0
  member : Nat := 0
  group : Nat := 0
  udpPort : Nat := 0
  ready : Bool := false
  pi : Nat := 0
  ci : Nat := 0
  ciDirty : Bool := false
  sendIdx : Nat := 0
  psn : Nat := 0
  ackPsn : Nat := 0
  unacked : List LrtPkt := []
  queued : List LrtPkt := []
  rto : Nat := 250
  rtoStart : Nat := 0
  timeouts : Nat := 0
  expected : Nat := 0
  toAck : Nat := 0
  ackSince : Nat := 0
  held : Option LrtPkt := none
deriving DecidableEq, Repr

/-- Ports, peers and channels (chapter 17); channels whose ENABLE waits for the walk of its check (R337). -/
structure Scale where
  ports : KMap PortState := []
  peers : KMap Peer := []
  chans : KMap Chan := []
  enabling : KMap Chan := []
deriving DecidableEq, Repr

/-! ### Errors -/

/-- ERR_RING_STATE of a tenant (Table 20.9). -/
inductive ErrState where
  | disabled
  | enabled
  | error
deriving DecidableEq, Repr

/-- A tenant's error ring (R385 to R387): entries waiting for their write, oldest first. -/
structure ErrRing where
  st : ErrState := .disabled
  irq : Bool := false
  base : Nat := 0
  size : Nat := 8
  pasid : Nat := 0
  seq : Nat := 0
  uncovered : Option Nat := none
  waiting : List Nat := []
deriving DecidableEq, Repr

/-- A FATAL record held until tenant 0 enables its ring (R384). -/
structure FatalRec where
  code : Nat
  tick : Nat
  detail : Nat
deriving DecidableEq, Repr

/-- The error model (chapter 20): rings, alert conditions by code, unacknowledged UNIT codes, held records, test
unlock. -/
structure Err where
  rings : KMap ErrRing := []
  board : List Nat := []
  unit : List Nat := []
  held : List FatalRec := []
  unlockUntil : Option Nat := none
  testSeen : Bool := false
deriving DecidableEq, Repr

/-! ### Metrology -/

/-- An occupancy report (Table 19.4). -/
structure OccReport where
  seq : Nat
  tick : Nat
  noTenant : Bool
  test : Bool
  weights : List Nat
deriving DecidableEq, Repr

/-- A journal record (Table 19.5): its header fields, body and links. -/
structure JRec where
  seq : Nat
  metMs : Nat
  audit : Nat
  set : Nat
  kind : Nat
  flags : Nat
  code : Nat
  body : List Byte
  prev : Nat
deriving DecidableEq, Repr

/-- The measuring state (GNT_STATE of Table 19.8, without NO_DATA). -/
inductive GntMode where
  | measuring
  | substituting
  | unmeasured
  | overtemp
deriving DecidableEq, Repr

/-- The calibration block (Table 19.6): Q1.30 coefficients, base power, set period. -/
structure Cal where
  vgain : Int := 2 ^ 30
  voff : Int := 0
  igain : Int := 2 ^ 30
  ioff : Int := 0
  itc : Int := 0
  baseMw : Nat := 0
  setPeriod : Nat := 60
deriving DecidableEq, Repr

/-- The meter's registers: energies in units of 2^-32 Wh; UNMEASURED and OVR in sample periods of 62.5 microseconds. -/
structure GntRegs where
  total : Nat := 0
  unattr : Nat := 0
  subst : Nat := 0
  test : Nat := 0
  tenants : KMap Nat := []
  unmeas : Nat := 0
  ovr : Nat := 0
  missed : Nat := 0
  breaks : Nat := 0
  powerUps : Nat := 0
  watchdogs : Nat := 0
deriving DecidableEq, Repr

/-- A sample converted and not yet accrued (R364): its power, in units of 2^-106 times 4000 W; whether it is valid; its
OVR flag; whether it was converted since the last synchronising reset. -/
structure MSample where
  num : Nat
  valid : Bool
  ovr : Bool
  fresh : Bool
deriving DecidableEq, Repr

/-- A record that waits for its write (R372): SEQ, MET_MS, AUDIT and PREV are taken when the write starts; a SIGN record
completes the set of the registers named. -/
structure JReq where
  kind : Nat
  set : Nat := 0
  code : Nat := 0
  flags : Nat := 0
  body : List Byte := []
  regs : GntRegs := {}
deriving DecidableEq, Repr

/-- A record whose write is in progress, and what it was made from. -/
structure JWrite where
  req : JReq
  record : JRec
deriving DecidableEq, Repr

/-- The metrology die (chapter 19). MET time is counted in sample periods of 62.5 microseconds; `window` counts those
since the first invalid sample of a run (R367); `goodRun` the valid samples in a row; `openPairs` has bit 0 for the V
pair, bit 1 for the I pair; `live` the voltages and currents of the last millisecond; `lastFrame` the MET time of the last
mirror frame (R380). -/
structure Gnt where
  powered : Bool := false
  mode : GntMode := .unmeasured
  regs : GntRegs := {}
  saved : GntRegs := {}
  pendingE : Nat := 0
  remainder : Nat := 0
  substRem : Nat := 0
  testNow : Bool := false
  met : Nat := 0
  audit : Nat := 0
  cal : Cal := {}
  fwVersion : Nat := 1
  coverOpen : Bool := false
  traceBroken : Bool := false
  settle : Nat := 0
  lastGood : List Nat := []
  window : Nat := 0
  goodRun : Nat := 0
  openPairs : Nat := 0
  lowV : Nat := 0
  a0Hot : Nat := 0
  a0Cool : Nat := 0
  stopA0 : Int := 0
  auxMux : Nat := 0
  auxCount : Nat := 0
  auxGroup : List Int := []
  a1 : Int := 0
  a2 : Int := 0
  a3 : Int := 0
  delayed : List MSample := []
  journal : List JRec := []
  writing : Option JWrite := none
  queued : List JReq := []
  seq : Nat := 0
  setNo : Nat := 0
  lastDigest : Nat := 0
  retried : Bool := false
  setFailed : Bool := false
  sinceSet : Nat := 0
  flagsSeen : Nat := 0
  lastReport : Option Nat := none
  reportAt : Nat := 0
  live : List (Int × Int) := []
  lastFrame : Option Nat := none
deriving DecidableEq, Repr

/-- The hub's mirror registers (Table 19.8). -/
structure Mirror where
  st : Nat := 0
  regs : GntRegs := {}
  pendingE : Nat := 0
  live : List Int := [0, 0, 0]
  audit : Nat := 0
  sealBits : Nat := 0
  cal : Cal := {}
  lastRecord : List Byte := []
  recordSeq : Nat := 0
  fwVersion : Nat := 0
  lastFrame : Nat := 0
  occSeq : Nat := 0
  occFrom : Nat := 0
  occAcc : KMap Nat := []
deriving DecidableEq, Repr

/-! ### Messages the block puts on its ports (the model's own field, log 4) -/

inductive Emit where
  | cfgCompletion (fn : Nat) (rrs : Bool) (data : Nat)
  | palren (src : ReqSrc) (frame : List Byte)
  | msix (fn vec : Nat)
  | i3c (bus : I3cBus) (answer : Option Nat)
  | ibi (bus : I3cBus)
  | hostReq (fn : Nat) (pasid : Option Nat) (cxlCache write : Bool) (addr len : Nat)
  | backInvalidate (line : Nat)
  | doe (data : List Nat)
  | mctp (b : Binding) (data : List Byte)
  | palrenMctp (b : Binding) (eid : BitVec 8) (tag : BitVec 3) (packets : List MctpPacket)
  | barRead (fn : Nat) (value : Nat)
  | hdm (data : List Byte) (poison : Bool)
  | engineRead (source : Nat) (data : List Byte) (poison : Bool)
  | packet (port link addr udpSrc udpDst : Nat) (bytes : List Byte)
  | neighborSol (port : Nat) (target : Nat)
  | neighborAdv (port : Nat) (target : Nat)
  | fenceRetired
  | jtag (value : Nat)
deriving DecidableEq, Repr

/-! ### The whole -/

/-- Everything but the metrology die and the one-way channels. -/
structure Dev where
  pwr : Pwr := {}
  jtag : Jtag := {}
  mgt : I3cPort := {}
  therm : Therm := {}
  clk : Clk := {}
  boot : Boot := {}
  dict : KMap Nat := []
  srv : Srv := {}
  nonces : Nat := 0
  fns : KMap Fn := []
  numVfs : Nat := 0
  rings : KMap Ring := []
  jobs : KMap Job := []
  nextJob : Nat := 0
  lastTurn : Nat := 0
  mem : Mem := {}
  stu : Stu := {}
  tiles : KMap Tile := []
  cores : KMap Core := []
  kv : Kv := {}
  sfu : KMap SfuSlot := []
  scout : Scout := {}
  solv : Solv := {}
  scale : Scale := {}
  mirror : Mirror := {}
  err : Err := {}
  emits : List Emit := []
  free : Nat := 0
deriving DecidableEq, Repr

/-- The state of the block: the device, the metrology die with its port and its two one-way channels (R357), and
the commands that wait, first in, first out. -/
structure State where
  dev : Dev := {}
  gnt : Gnt := {}
  met : I3cPort := {}
  meterOut : List (List Byte) := []
  occChan : List OccReport := []
  pending : List Instr := []
deriving DecidableEq, Repr

/-- Why the block stops with a fault. No meaning raises one: every fault of Table 20.1 is an effect on State. -/
inductive Fault where
  /-- Raised by nobody: kept so that the type names its only reason. Safe. -/
  | none
deriving DecidableEq, Repr

/-- Why a command is refused. -/
inductive Refusal where
  /-- The command has no meaning yet; answered by `exec` alone. Safe: the model stops. -/
  | notModelled (mnemonic : String)
deriving DecidableEq, Repr

/-- The block as a cold reset leaves it, with 3V3_AUX present (Table 2.7) and the straps open (log 3). -/
def State.reset : State := {}

end Sys2Proof.Machine
end

