-- ==== Sys2Proof/Machine/Objects.lean ====
section
/-! DEFINITION. The object lists of the dictionary (R13, R99 to R107): one row for each line of the chapters' object
tables, with type, access, lock, persistence and default; the key of an instance; the defaults that depend on the
device. -/

namespace Sys2Proof.Machine

/-- Object types (Table 5.1). -/
inductive ObjTy where
  | uint8 | uint16 | uint32 | uint64 | uint128
  | int8 | int16 | int32 | int64
  | enum8
  | octets (n : Nat)
  | segmented
  | utf8 (n : Nat)
  | record (n : Nat)
  | unitmap
deriving DecidableEq, Repr

/-- Access rights (R101). -/
inductive Acc where
  | ro | rw | wo | const
deriving DecidableEq, Repr

/-- Lock classes (R103). -/
inductive Lock where
  | openL | oper | boot
deriving DecidableEq, Repr

/-- Persistence (R105). -/
inductive Keep where
  | vol | aon | flash
deriving DecidableEq, Repr

/-- A line of an object table: its sub-indices run from `sub0` to `sub1`. -/
structure ObjRow where
  name : String
  index : Nat
  sub0 : Nat
  sub1 : Nat
  ty : ObjTy
  acc : Acc
  fwAcc : Option Acc
  lock : Lock
  perTenant : Bool
  keep : Keep
  dflt : Option Nat
deriving DecidableEq, Repr

/-- Size of a type in bytes (Table 5.1); 0 for the segmented type. -/
def ObjTy.size : ObjTy → Nat
  | .uint8 => 1 | .uint16 => 2 | .uint32 => 4 | .uint64 => 8 | .uint128 => 16
  | .int8 => 1 | .int16 => 2 | .int32 => 4 | .int64 => 8
  | .enum8 => 1
  | .octets n => n
  | .segmented => 0
  | .utf8 n => n
  | .record n => n
  | .unitmap => 40

/-- Type code (Table 5.1). -/
def ObjTy.code : ObjTy → Nat
  | .uint8 => 0x01 | .uint16 => 0x02 | .uint32 => 0x03 | .uint64 => 0x04 | .uint128 => 0x05
  | .int8 => 0x11 | .int16 => 0x12 | .int32 => 0x13 | .int64 => 0x14
  | .enum8 => 0x20
  | .octets _ => 0x30
  | .segmented => 0x31
  | .utf8 _ => 0x32
  | .record _ => 0x40
  | .unitmap => 0x41

/-- Objects of chapter 03 (its object table). -/
def objRows03a : List ObjRow := [
  ⟨"CLK_TICK", 0x2000, 0x00, 0x00, .uint64, .ro, none, .openL, false, .vol, none⟩,
  ⟨"CLK_DOMAIN_KHZ", 0x2001, 0x01, 0x06, .uint32, .ro, none, .openL, false, .vol, none⟩,
  ⟨"CLK_FAB_MAX", 0x2002, 0x01, 0x01, .uint16, .rw, none, .oper, false, .vol, (some 2000)⟩,
  ⟨"CLK_HUB_MAX", 0x2002, 0x02, 0x02, .uint16, .rw, none, .oper, false, .vol, (some 3200)⟩,
  ⟨"CLK_FAB_LIMITER", 0x2003, 0x01, 0x04, .enum8, .ro, none, .openL, false, .vol, none⟩,
  ⟨"PWR_TILE_SLEEP_DWELL", 0x2010, 0x01, 0x01, .uint32, .rw, none, .oper, false, .vol, (some 2500)⟩,
  ⟨"PWR_CHIP_LOW_DWELL", 0x2010, 0x02, 0x02, .uint32, .rw, none, .oper, false, .vol, (some 25000)⟩,
  ⟨"PWR_AWAKE_TILES", 0x2010, 0x03, 0x03, .uint8, .rw, none, .oper, false, .vol, (some 0)⟩,
  ⟨"PWR_CHIP_STATE", 0x2011, 0x01, 0x04, .enum8, .ro, none, .openL, false, .vol, none⟩,
  ⟨"PWR_TILE_STATE", 0x2012, 0x00, 0x00, (.octets 32), .ro, none, .openL, false, .vol, none⟩,
  ⟨"PWR_CAP_W", 0x2020, 0x01, 0x01, .uint16, .rw, none, .oper, false, .vol, (some 1400)⟩,
  ⟨"PWR_IN_MV", 0x2020, 0x02, 0x02, .uint32, .ro, none, .openL, false, .vol, none⟩,
  ⟨"PWR_IN_MA", 0x2020, 0x03, 0x03, .uint32, .ro, none, .openL, false, .vol, none⟩,
  ⟨"PWR_IN_MW", 0x2020, 0x04, 0x04, .uint32, .ro, none, .openL, false, .vol, none⟩,
  ⟨"PWR_AVG100_MW", 0x2020, 0x05, 0x05, .uint32, .ro, none, .openL, false, .vol, none⟩,
  ⟨"PWR_CAP_EVENTS", 0x2020, 0x06, 0x06, .uint32, .ro, none, .openL, false, .aon, (some 0)⟩,
  ⟨"PWR_GUARD_EVENTS", 0x2020, 0x07, 0x07, .uint32, .ro, none, .openL, false, .aon, (some 0)⟩,
  ⟨"PWR_AUX_MV", 0x2020, 0x08, 0x08, .uint32, .ro, none, .openL, false, .vol, none⟩,
  ⟨"THM_DIE_TEMP", 0x2030, 0x01, 0x05, .int16, .ro, none, .openL, false, .vol, none⟩,
  ⟨"THM_AON_TEMP", 0x2030, 0x06, 0x06, .int16, .ro, none, .openL, false, .vol, none⟩,
  ⟨"THM_DIE_STATE", 0x2031, 0x01, 0x05, .enum8, .ro, none, .openL, false, .vol, none⟩,
  ⟨"THM_PEAK_TEMP", 0x2032, 0x01, 0x05, .int16, .rw, none, .oper, false, .aon, none⟩,
  ⟨"THM_EVENTS", 0x2033, 0x01, 0x03, .uint32, .ro, none, .openL, false, .aon, (some 0)⟩,
  ⟨"THM_RELEASES", 0x2033, 0x04, 0x06, .uint32, .ro, none, .openL, false, .aon, (some 0)⟩,
  ⟨"THM_THROTTLE_MHZ", 0x2034, 0x01, 0x01, .uint16, .rw, none, .oper, false, .vol, (some 1600)⟩,
  ⟨"THM_THRESHOLD", 0x2034, 0x02, 0x02, .int16, .const, none, .openL, false, .vol, (some 1520)⟩,
  ⟨"THM_THRESHOLD", 0x2034, 0x03, 0x03, .int16, .const, none, .openL, false, .vol, (some 1680)⟩,
  ⟨"THM_THRESHOLD", 0x2034, 0x04, 0x04, .int16, .const, none, .openL, false, .vol, (some 1840)⟩,
  ⟨"THM_LAST_TRIP", 0x2035, 0x00, 0x00, (.record 32), .ro, none, .openL, false, .aon, (some 0)⟩,
  ⟨"THM_SENSOR_FAULT", 0x2036, 0x00, 0x00, .uint128, .ro, none, .openL, false, .vol, (some 0)⟩]

/-- Objects of chapter 04 (its object table). -/
def objRows04a : List ObjRow := [
  ⟨"BOOT_STAGE", 0x1F00, 0x01, 0x01, .enum8, .ro, none, .openL, false, .vol, (some 0)⟩,
  ⟨"BOOT_SERVICE", 0x1F00, 0x02, 0x02, .enum8, .ro, none, .openL, false, .vol, (some 0)⟩,
  ⟨"BOOT_COMPLETE", 0x1F01, 0x00, 0x00, .uint8, .ro, (some .wo), .oper, false, .vol, (some 0)⟩,
  ⟨"BOOT_STAGE_TICKS", 0x1F02, 0x01, 0x08, .uint32, .ro, none, .openL, false, .vol, (some 0)⟩,
  ⟨"BOOT_BEYBY_CAUSE", 0x1F10, 0x00, 0x00, .enum8, .ro, none, .openL, false, .vol, (some 0)⟩,
  ⟨"BOOT_FAIL_COUNT", 0x1F11, 0x00, 0x00, .uint8, .ro, none, .openL, false, .aon, none⟩,
  ⟨"BOOT_FAIL_CLEAR", 0x1F12, 0x00, 0x00, .uint8, .wo, none, .oper, false, .vol, none⟩,
  ⟨"BOOT_LAST_FAIL", 0x1F13, 0x00, 0x00, (.record 16), .ro, none, .openL, false, .aon, (some 0)⟩,
  ⟨"BOOT_STRAPS", 0x1F18, 0x00, 0x00, .uint8, .ro, none, .openL, false, .aon, none⟩,
  ⟨"BOOT_LOCK", 0x1F20, 0x00, 0x00, .uint8, .ro, none, .openL, false, .vol, (some 0)⟩,
  ⟨"BOOT_FW_IMAGE", 0x1F30, 0x01, 0x01, .segmented, .wo, none, .oper, false, .vol, none⟩,
  ⟨"BOOT_FW_PREFER", 0x1F30, 0x02, 0x02, .enum8, .rw, none, .oper, false, .flash, (some 0)⟩,
  ⟨"BOOT_FW_SLOT", 0x1F30, 0x03, 0x03, .enum8, .ro, none, .openL, false, .vol, none⟩,
  ⟨"BOOT_FW_VERSION", 0x1F30, 0x04, 0x05, .uint32, .ro, none, .openL, false, .vol, none⟩,
  ⟨"BOOT_UNITS_FUSED", 0x1F40, 0x01, 0x01, .unitmap, .ro, none, .openL, false, .vol, none⟩,
  ⟨"BOOT_UNITS_ACTIVE", 0x1F40, 0x02, 0x02, .unitmap, .ro, none, .openL, false, .vol, none⟩,
  ⟨"BOOT_UNITS_OPER_OFF", 0x1F40, 0x03, 0x03, .unitmap, .rw, none, .oper, false, .flash, (some 0)⟩,
  ⟨"RST_CAUSE", 0x2400, 0x01, 0x01, .enum8, .ro, none, .openL, false, .aon, none⟩,
  ⟨"RST_TICK", 0x2400, 0x02, 0x02, .uint64, .ro, none, .openL, false, .aon, none⟩,
  ⟨"RST_WARM_COUNT", 0x2400, 0x03, 0x03, .uint32, .ro, none, .openL, false, .aon, (some 0)⟩,
  ⟨"RST_REQUEST", 0x2401, 0x00, 0x00, .uint8, .wo, none, .oper, false, .vol, none⟩,
  ⟨"RST_TILE", 0x2402, 0x00, 0x00, .uint8, .wo, none, .oper, false, .vol, none⟩,
  ⟨"LNK_HBM_STATE", 0x2410, 0x01, 0x08, .enum8, .ro, none, .openL, false, .vol, none⟩,
  ⟨"LNK_HBM_MBPS", 0x2411, 0x01, 0x08, .uint16, .ro, none, .openL, false, .vol, none⟩,
  ⟨"LNK_UCIE_WIDTH", 0x2420, 0x01, 0x04, .enum8, .ro, none, .openL, false, .vol, none⟩,
  ⟨"LNK_UCIE_RETRAINS", 0x2421, 0x01, 0x04, .uint32, .ro, none, .openL, false, .vol, (some 0)⟩,
  ⟨"LNK_PCIE_RATE", 0x2430, 0x01, 0x01, .enum8, .ro, none, .openL, false, .vol, (some 0)⟩,
  ⟨"LNK_PCIE_WIDTH", 0x2430, 0x02, 0x02, .uint8, .ro, none, .openL, false, .vol, (some 0)⟩,
  ⟨"LNK_CXL_MODE", 0x2430, 0x03, 0x03, .enum8, .ro, none, .openL, false, .vol, (some 0)⟩,
  ⟨"LNK_RRS_TICKS", 0x2430, 0x04, 0x04, .uint32, .ro, none, .openL, false, .vol, (some 0)⟩]

/-- Objects of chapter 05 (its object table). -/
def objRows05a : List ObjRow := [
  ⟨"ID_IDENTITY", 0x1000, 0x00, 0x00, .uint32, .const, none, .openL, false, .vol, (some 7513212)⟩,
  ⟨"ID_REVISION", 0x1001, 0x00, 0x00, .uint32, .const, none, .openL, false, .vol, none⟩,
  ⟨"ID_SERIAL", 0x1002, 0x00, 0x00, (.octets 16), .const, none, .openL, false, .vol, none⟩,
  ⟨"ID_PRODUCT", 0x1003, 0x00, 0x00, (.utf8 16), .const, none, .openL, false, .vol, (some 4141926291249569300695660720969)⟩,
  ⟨"COMM_SESSIONS_OPEN", 0x1100, 0x01, 0x01, .uint8, .ro, none, .openL, false, .vol, (some 0)⟩,
  ⟨"COMM_SESSION_IDLE", 0x1100, 0x02, 0x02, .uint32, .rw, none, .oper, false, .vol, (some 1500000000)⟩,
  ⟨"COMM_EID_I3C", 0x1101, 0x01, 0x01, .uint8, .ro, none, .openL, false, .vol, (some 0)⟩,
  ⟨"COMM_EID_VDM", 0x1101, 0x02, 0x02, .uint8, .ro, none, .openL, false, .vol, (some 0)⟩,
  ⟨"COMM_I3C_ADDR", 0x1101, 0x03, 0x03, .uint8, .ro, none, .openL, false, .vol, (some 0)⟩,
  ⟨"COMM_FRAMES", 0x1110, 0x01, 0x01, .uint32, .ro, none, .openL, false, .vol, (some 0)⟩,
  ⟨"COMM_FRAME_ERRS", 0x1110, 0x02, 0x02, .uint32, .ro, none, .openL, false, .vol, (some 0)⟩,
  ⟨"COMM_AUTH_FAILS", 0x1110, 0x03, 0x03, .uint32, .ro, none, .openL, false, .vol, (some 0)⟩,
  ⟨"COMM_OPER_KEY", 0x1120, 0x00, 0x00, (.record 96), .rw, none, .oper, false, .flash, (some 0)⟩,
  ⟨"COMM_ROLE", 0x1121, 0x00, 0x00, .enum8, .ro, none, .openL, false, .vol, none⟩]

/-- Objects of chapter 06 (its object table). -/
def objRows06a : List ObjRow := [
  ⟨"HOST_VENDOR_ID", 0x3000, 0x01, 0x01, .uint16, .const, none, .openL, false, .vol, (some 8152)⟩,
  ⟨"HOST_NUM_VFS", 0x3000, 0x02, 0x02, .uint8, .ro, none, .openL, false, .vol, (some 0)⟩,
  ⟨"HOST_HDM_GIB", 0x3001, 0x01, 0x01, .uint8, .rw, none, .oper, false, .flash, (some 0)⟩,
  ⟨"HOST_HDM_GIB_ACTIVE", 0x3001, 0x02, 0x02, .uint8, .ro, none, .openL, false, .vol, (some 0)⟩,
  ⟨"HOST_AGE_TICKS", 0x3002, 0x00, 0x00, .uint32, .rw, none, .oper, false, .vol, (some 2500000)⟩,
  ⟨"RING_FUNC", 0x3010, 0x01, 0x40, .uint8, .rw, none, .oper, false, .vol, (some 0)⟩,
  ⟨"RING_SQ_BASE", 0x3011, 0x01, 0x40, .uint64, .rw, none, .openL, false, .vol, (some 0)⟩,
  ⟨"RING_CQ_BASE", 0x3012, 0x01, 0x40, .uint64, .rw, none, .openL, false, .vol, (some 0)⟩,
  ⟨"RING_SIZE", 0x3013, 0x01, 0x40, .uint8, .rw, none, .openL, false, .vol, (some 8)⟩,
  ⟨"RING_PASID", 0x3014, 0x01, 0x40, .uint32, .rw, none, .openL, false, .vol, (some 0)⟩,
  ⟨"RING_PRIO", 0x3015, 0x01, 0x40, .uint8, .rw, none, .oper, false, .vol, (some 4)⟩,
  ⟨"RING_WEIGHT", 0x3016, 0x01, 0x40, .uint8, .rw, none, .oper, false, .vol, (some 1)⟩,
  ⟨"RING_FAULT_POLICY", 0x3017, 0x01, 0x40, .enum8, .rw, none, .openL, false, .vol, (some 1)⟩,
  ⟨"RING_DL_POLICY", 0x3018, 0x01, 0x40, .enum8, .rw, none, .openL, false, .vol, (some 1)⟩,
  ⟨"RING_DEADLINE_REL", 0x3019, 0x01, 0x40, .uint32, .rw, none, .openL, false, .vol, (some 250000000)⟩,
  ⟨"RING_MSIX", 0x301A, 0x01, 0x40, .uint8, .rw, none, .openL, false, .vol, (some 2)⟩,
  ⟨"RING_IRQ_COUNT", 0x301B, 0x01, 0x40, .uint32, .rw, none, .openL, false, .vol, (some 1)⟩,
  ⟨"RING_IRQ_TICKS", 0x301C, 0x01, 0x40, .uint32, .rw, none, .openL, false, .vol, (some 0)⟩,
  ⟨"RING_RESERVED_TILES", 0x301D, 0x01, 0x40, .uint8, .rw, none, .oper, false, .vol, (some 0)⟩,
  ⟨"RING_CTL", 0x3020, 0x01, 0x40, .uint8, .wo, none, .openL, false, .vol, none⟩,
  ⟨"RING_STATE", 0x3021, 0x01, 0x40, .enum8, .ro, none, .openL, false, .vol, (some 0)⟩,
  ⟨"RING_SQ_HEAD", 0x3022, 0x01, 0x40, .uint16, .ro, none, .openL, false, .vol, (some 0)⟩,
  ⟨"RING_CQ_TAIL", 0x3023, 0x01, 0x40, .uint16, .ro, none, .openL, false, .vol, (some 0)⟩,
  ⟨"RING_JOBS_DONE", 0x3024, 0x01, 0x40, .uint32, .ro, none, .openL, false, .vol, (some 0)⟩,
  ⟨"RING_DB_DISCARDS", 0x3025, 0x01, 0x40, .uint32, .ro, none, .openL, false, .vol, (some 0)⟩]

/-- Objects of chapter 07 (its object table). -/
def objRows07a : List ObjRow := [
  ⟨"STU_IOTLB_ENTRIES", 0x4000, 0x01, 0x01, .uint16, .const, none, .openL, false, .vol, (some 16384)⟩,
  ⟨"STU_WALKERS", 0x4000, 0x02, 0x02, .uint8, .const, none, .openL, false, .vol, (some 24)⟩,
  ⟨"STU_WALKERS_RES0", 0x4001, 0x01, 0x01, .uint8, .rw, none, .oper, false, .vol, (some 2)⟩,
  ⟨"STU_WALKERS_TENANT_MAX", 0x4001, 0x02, 0x02, .uint8, .rw, none, .oper, false, .vol, (some 8)⟩,
  ⟨"STU_STALL_LIMIT", 0x4002, 0x00, 0x00, .uint32, .rw, none, .oper, false, .vol, (some 25000)⟩,
  ⟨"STU_FENCE_DEADLINE", 0x4003, 0x00, 0x00, .uint32, .rw, none, .oper, false, .vol, (some 2500)⟩,
  ⟨"MEM_PASID_TABLE", 0x4010, 0x00, 0x00, .uint64, .ro, (some .rw), .oper, true, .vol, (some 0)⟩,
  ⟨"MEM_PASID_LIMIT", 0x4011, 0x00, 0x00, .uint8, .ro, (some .rw), .oper, true, .vol, (some 0)⟩,
  ⟨"MEM_MAP", 0x4012, 0x00, 0x00, (.record 32), .ro, none, .openL, false, .vol, none⟩,
  ⟨"STU_IOTLB_HITS", 0x4020, 0x01, 0x01, .uint64, .ro, none, .openL, false, .vol, (some 0)⟩,
  ⟨"STU_IOTLB_MISSES", 0x4020, 0x02, 0x02, .uint64, .ro, none, .openL, false, .vol, (some 0)⟩,
  ⟨"STU_WALKS", 0x4020, 0x03, 0x03, .uint64, .ro, none, .openL, false, .vol, (some 0)⟩,
  ⟨"STU_WALK_MAX_TICKS", 0x4020, 0x04, 0x04, .uint32, .ro, none, .openL, false, .vol, (some 0)⟩,
  ⟨"STU_FENCES", 0x4020, 0x05, 0x05, .uint64, .ro, none, .openL, false, .vol, (some 0)⟩,
  ⟨"STU_FENCE_MAX_TICKS", 0x4020, 0x06, 0x06, .uint32, .ro, none, .openL, false, .vol, (some 0)⟩,
  ⟨"STU_FAULTS", 0x4020, 0x07, 0x07, .uint64, .ro, none, .openL, false, .vol, (some 0)⟩,
  ⟨"STU_FAULTQ_FULL", 0x4020, 0x08, 0x08, .uint32, .ro, none, .openL, false, .vol, (some 0)⟩,
  ⟨"TLB_CHIP_MISSES", 0x4021, 0x01, 0x04, .uint64, .ro, none, .openL, false, .vol, (some 0)⟩,
  ⟨"MEM_OWN_FAULTS", 0x4022, 0x00, 0x00, .uint32, .ro, none, .openL, true, .vol, (some 0)⟩]

/-- Objects of chapter 08 (its object table). -/
def objRows08a : List ObjRow := [
  ⟨"TEN_ROT_BASE", 0x3800, 0x00, 0x00, .uint64, .rw, none, .boot, false, .vol, (some 0)⟩,
  ⟨"TEN_ROT_REGIONS", 0x3801, 0x00, 0x00, .uint32, .ro, none, .openL, false, .vol, none⟩,
  ⟨"TEN_CORE_MAP", 0x3802, 0x00, 0x00, (.octets 16), .rw, none, .boot, false, .vol, (some 0)⟩,
  ⟨"TEN_CLEAR_POLICY", 0x3803, 0x00, 0x00, .enum8, .rw, none, .boot, false, .vol, (some 0)⟩,
  ⟨"TEN_PERTURB_PERMIT", 0x3804, 0x00, 0x00, .enum8, .rw, none, .boot, false, .vol, (some 0)⟩,
  ⟨"TEN_ROT_INVAL", 0x3810, 0x00, 0x00, .uint64, .ro, (some .wo), .oper, false, .vol, none⟩,
  ⟨"TEN_ENABLED", 0x3820, 0x00, 0x00, .uint64, .ro, none, .openL, false, .vol, (some 1)⟩,
  ⟨"TEN_TILE_MAX", 0x3821, 0x00, 0x00, .uint8, .rw, none, .oper, true, .vol, (some 128)⟩,
  ⟨"TEN_SEQ_MAX", 0x3822, 0x00, 0x00, .uint32, .rw, none, .oper, true, .vol, (some 65536)⟩,
  ⟨"TEN_TILES_HELD", 0x3823, 0x00, 0x00, .uint8, .ro, none, .openL, true, .vol, (some 0)⟩,
  ⟨"TEN_CLEARS", 0x3830, 0x00, 0x00, .uint64, .ro, none, .openL, false, .vol, (some 0)⟩,
  ⟨"TEN_CLEAR_FAILS", 0x3831, 0x00, 0x00, .uint32, .ro, none, .openL, false, .vol, (some 0)⟩,
  ⟨"TEN_POLICY_IMAGE", 0x3840, 0x01, 0x08, .segmented, .wo, none, .oper, false, .vol, none⟩,
  ⟨"TEN_POLICY_STATE", 0x3841, 0x01, 0x08, .enum8, .ro, none, .openL, false, .vol, (some 0)⟩,
  ⟨"TEN_POLICY_CTL", 0x3842, 0x01, 0x08, .uint8, .wo, none, .oper, false, .vol, none⟩]

/-- Objects of chapter 09 (its object table). -/
def objRows09a : List ObjRow := [
  ⟨"TILE_COUNT", 0x5000, 0x01, 0x01, .uint8, .const, none, .openL, false, .vol, (some 128)⟩,
  ⟨"TILE_SEG_LIMIT", 0x5000, 0x02, 0x02, .uint16, .const, none, .openL, false, .vol, (some 16384)⟩,
  ⟨"TILE_CKPT_BYTES", 0x5000, 0x03, 0x03, .uint16, .const, none, .openL, false, .vol, (some 17664)⟩,
  ⟨"TILE_ENABLE", 0x5001, 0x01, 0x80, .uint8, .rw, none, .oper, false, .vol, (some 1)⟩,
  ⟨"TILE_SEG_MAX", 0x5002, 0x00, 0x00, .uint16, .ro, none, .openL, true, .vol, (some 0)⟩,
  ⟨"TILE_OVERRUNS", 0x5003, 0x01, 0x01, .uint32, .ro, none, .openL, true, .vol, (some 0)⟩,
  ⟨"TILE_ILLEGAL", 0x5003, 0x02, 0x02, .uint32, .ro, none, .openL, true, .vol, (some 0)⟩,
  ⟨"TILE_CHECKPOINTS", 0x5003, 0x03, 0x03, .uint64, .ro, none, .openL, true, .vol, (some 0)⟩,
  ⟨"TILE_RESUMES", 0x5003, 0x04, 0x04, .uint64, .ro, none, .openL, true, .vol, (some 0)⟩,
  ⟨"TILE_ABORTS", 0x5003, 0x05, 0x05, .uint32, .ro, none, .openL, true, .vol, (some 0)⟩]

/-- Objects of chapter 10 (its object table). -/
def objRows10a : List ObjRow := [
  ⟨"SPM_TB_BYTES", 0x5800, 0x01, 0x01, .uint32, .const, none, .openL, false, .vol, (some 393216)⟩,
  ⟨"SPM_AS_BYTES", 0x5800, 0x02, 0x02, .uint32, .const, none, .openL, false, .vol, (some 2097152)⟩,
  ⟨"SPM_HANDLES", 0x5800, 0x03, 0x03, .uint8, .const, none, .openL, false, .vol, (some 64)⟩,
  ⟨"SPM_SCRUB_PERIOD", 0x5801, 0x00, 0x00, .uint32, .rw, none, .oper, false, .vol, (some 25000000)⟩,
  ⟨"SPM_SCRUB_LAST", 0x5802, 0x01, 0x80, .uint64, .ro, none, .openL, false, .vol, (some 0)⟩,
  ⟨"SPM_CE_TB", 0x5810, 0x01, 0x01, .uint64, .ro, none, .openL, false, .vol, (some 0)⟩,
  ⟨"SPM_CE_AS", 0x5810, 0x02, 0x02, .uint64, .ro, none, .openL, false, .vol, (some 0)⟩,
  ⟨"SPM_CE_OTHER", 0x5810, 0x03, 0x03, .uint64, .ro, none, .openL, false, .vol, (some 0)⟩,
  ⟨"SPM_UE", 0x5810, 0x04, 0x04, .uint32, .ro, none, .openL, false, .vol, (some 0)⟩,
  ⟨"SPM_PARTIAL_CE", 0x5810, 0x05, 0x05, .uint32, .ro, none, .openL, false, .vol, (some 0)⟩,
  ⟨"SPM_PARTIAL_ON_UE", 0x5810, 0x06, 0x06, .uint32, .ro, none, .openL, false, .vol, (some 0)⟩,
  ⟨"SPM_POISON_CLEARED", 0x5810, 0x07, 0x07, .uint32, .ro, none, .openL, false, .vol, (some 0)⟩,
  ⟨"SPM_SCRUB_UE", 0x5810, 0x08, 0x08, .uint32, .ro, none, .openL, false, .vol, (some 0)⟩,
  ⟨"SPM_SCRUB_LATE", 0x5810, 0x09, 0x09, .uint32, .ro, none, .openL, false, .vol, (some 0)⟩,
  ⟨"SPM_SCRUB_PASSES", 0x5810, 0x0A, 0x0A, .uint64, .ro, none, .openL, false, .vol, (some 0)⟩,
  ⟨"SPM_TILE_CE", 0x5811, 0x01, 0x80, .uint32, .ro, none, .openL, false, .vol, (some 0)⟩,
  ⟨"SPM_TILE_UE", 0x5812, 0x01, 0x80, .uint32, .ro, none, .openL, false, .vol, (some 0)⟩]

/-- Objects of chapter 12 (its object table). -/
def objRows12a : List ObjRow := [
  ⟨"KV_PAGE_TOKENS", 0x6000, 0x01, 0x01, .uint8, .const, none, .openL, false, .vol, (some 64)⟩,
  ⟨"KV_PAGE_CAP_MAX", 0x6000, 0x02, 0x02, .uint32, .const, none, .openL, false, .vol, (some 262144)⟩,
  ⟨"KV_POOL_PASID", 0x6010, 0x00, 0x00, .uint32, .rw, none, .openL, true, .vol, (some 0)⟩,
  ⟨"KV_POOL_VA", 0x6011, 0x00, 0x00, .uint64, .rw, none, .openL, true, .vol, (some 0)⟩,
  ⟨"KV_POOL_BYTES", 0x6012, 0x00, 0x00, .uint64, .rw, none, .openL, true, .vol, (some 0)⟩,
  ⟨"KV_HBM_QUOTA", 0x6013, 0x00, 0x00, .uint64, .rw, none, .oper, true, .vol, (some 0)⟩,
  ⟨"KV_HOST_BASE", 0x6014, 0x00, 0x00, .uint64, .rw, none, .openL, true, .vol, (some 0)⟩,
  ⟨"KV_HOST_BYTES", 0x6015, 0x00, 0x00, .uint64, .rw, none, .openL, true, .vol, (some 0)⟩,
  ⟨"KV_POOL_LOW", 0x6016, 0x00, 0x00, .uint64, .rw, none, .openL, true, .vol, (some 0)⟩,
  ⟨"KV_SEQ_BASE", 0x6017, 0x00, 0x00, .uint16, .rw, none, .oper, true, .vol, (some 0)⟩,
  ⟨"KV_SEQ_COUNT", 0x6018, 0x00, 0x00, .uint32, .rw, none, .oper, true, .vol, (some 0)⟩,
  ⟨"KV_SEQS_LIVE", 0x6020, 0x01, 0x01, .uint32, .ro, none, .openL, true, .vol, (some 0)⟩,
  ⟨"KV_HBM_USED", 0x6020, 0x02, 0x02, .uint64, .ro, none, .openL, true, .vol, (some 0)⟩,
  ⟨"KV_HOST_USED", 0x6020, 0x03, 0x03, .uint64, .ro, none, .openL, true, .vol, (some 0)⟩,
  ⟨"KV_POOL_USED", 0x6020, 0x04, 0x04, .uint64, .ro, none, .openL, true, .vol, (some 0)⟩,
  ⟨"KV_EVICTIONS", 0x6021, 0x01, 0x01, .uint64, .ro, none, .openL, true, .vol, (some 0)⟩,
  ⟨"KV_COPIES", 0x6021, 0x02, 0x02, .uint64, .ro, none, .openL, true, .vol, (some 0)⟩,
  ⟨"KV_CORRUPT", 0x6021, 0x03, 0x03, .uint32, .ro, none, .openL, true, .vol, (some 0)⟩]

/-- Objects of chapter 13 (its object table). -/
def objRows13a : List ObjRow := [
  ⟨"ATTN_CLAMP_LIMIT", 0x6800, 0x01, 0x01, .uint32, .const, none, .openL, false, .vol, (some 1182793727)⟩,
  ⟨"ATTN_MASK_VALUE", 0x6800, 0x02, 0x02, .uint32, .const, none, .openL, false, .vol, (some 3338665984)⟩,
  ⟨"ATTN_XPACK_HEADROOM", 0x6801, 0x00, 0x00, .uint8, .rw, none, .openL, true, .vol, (some 48)⟩,
  ⟨"ATTN_CLAMPED_SCORES", 0x6810, 0x01, 0x01, .uint64, .ro, none, .openL, true, .vol, (some 0)⟩,
  ⟨"ATTN_SAT_ROWS", 0x6810, 0x02, 0x02, .uint64, .ro, none, .openL, true, .vol, (some 0)⟩,
  ⟨"ATTN_MASK_FAULTS", 0x6810, 0x03, 0x03, .uint32, .ro, none, .openL, true, .vol, (some 0)⟩,
  ⟨"ATTN_CLAMPED_JOBS", 0x6810, 0x04, 0x04, .uint64, .ro, none, .openL, true, .vol, (some 0)⟩]

/-- Objects of chapter 14 (its object table). -/
def objRows14a : List ObjRow := [
  ⟨"SFU_LANES", 0x7000, 0x01, 0x01, .uint8, .const, none, .openL, false, .vol, (some 64)⟩,
  ⟨"SFU_SLOTS", 0x7000, 0x02, 0x02, .uint8, .const, none, .openL, false, .vol, (some 7)⟩,
  ⟨"SFU_FIXUP_MAX", 0x7000, 0x03, 0x03, .uint16, .const, none, .openL, false, .vol, (some 4096)⟩,
  ⟨"SFU_TABLE_IMAGE", 0x7010, 0x01, 0x07, .segmented, .wo, none, .openL, true, .vol, none⟩,
  ⟨"SFU_TABLE_INFO", 0x7011, 0x01, 0x07, (.record 16), .ro, none, .openL, true, .vol, (some 0)⟩,
  ⟨"SFU_PROG_IMAGE", 0x7020, 0x01, 0x07, .segmented, .wo, none, .openL, true, .vol, none⟩,
  ⟨"SFU_PROG_INFO", 0x7021, 0x01, 0x07, (.record 16), .ro, none, .openL, true, .vol, (some 0)⟩,
  ⟨"SFU_UNLOAD", 0x7030, 0x00, 0x00, .uint8, .wo, none, .openL, true, .vol, none⟩,
  ⟨"SFU_ROWS_EMPTY", 0x7040, 0x01, 0x01, .uint64, .ro, none, .openL, true, .vol, (some 0)⟩,
  ⟨"SFU_ROWS_INF", 0x7040, 0x02, 0x02, .uint64, .ro, none, .openL, true, .vol, (some 0)⟩,
  ⟨"SFU_ROWS_NAN", 0x7040, 0x03, 0x03, .uint64, .ro, none, .openL, true, .vol, (some 0)⟩,
  ⟨"SFU_SLOT_FAULTS", 0x7040, 0x04, 0x04, .uint32, .ro, none, .openL, true, .vol, (some 0)⟩,
  ⟨"SFU_SWAPS", 0x7040, 0x05, 0x05, .uint32, .ro, none, .openL, true, .vol, (some 0)⟩]

/-- Objects of chapter 15 (its object table). -/
def objRows15a : List ObjRow := [
  ⟨"SCOUT_ARRAYS", 0x7800, 0x01, 0x01, .uint8, .const, none, .openL, false, .vol, (some 128)⟩,
  ⟨"SCOUT_COLUMNS", 0x7800, 0x02, 0x02, .uint16, .const, none, .openL, false, .vol, (some 1024)⟩,
  ⟨"SCOUT_ROWS", 0x7800, 0x03, 0x03, .uint16, .const, none, .openL, false, .vol, (some 256)⟩,
  ⟨"SCOUT_TENANT_ARRAYS", 0x7801, 0x00, 0x00, (.octets 16), .rw, none, .oper, true, .vol, (some 0)⟩,
  ⟨"SCOUT_ENABLE", 0x7802, 0x01, 0x80, .uint8, .rw, none, .oper, false, .vol, (some 1)⟩,
  ⟨"SCOUT_STATE", 0x7803, 0x01, 0x80, .enum8, .ro, none, .openL, false, .vol, none⟩,
  ⟨"SCOUT_SUSPECT_COLS", 0x7804, 0x01, 0x80, .uint16, .ro, none, .openL, false, .vol, (some 0)⟩,
  ⟨"SCOUT_LAST_FIT", 0x7805, 0x01, 0x80, .uint64, .ro, none, .openL, false, .vol, (some 0)⟩,
  ⟨"SCOUT_GUARD", 0x7810, 0x00, 0x00, .uint16, .rw, none, .oper, false, .vol, (some 48)⟩,
  ⟨"SCOUT_QUERY_LIMIT", 0x7811, 0x00, 0x00, .uint16, .rw, none, .oper, false, .vol, (some 150)⟩,
  ⟨"SCOUT_CAL_PERIOD", 0x7812, 0x00, 0x00, .uint32, .rw, none, .oper, false, .vol, (some 250000000)⟩,
  ⟨"SCOUT_REFIT_DELTA", 0x7813, 0x00, 0x00, .uint16, .rw, none, .oper, false, .vol, (some 128)⟩,
  ⟨"SCOUT_FORCE_EXACT", 0x7820, 0x00, 0x00, .enum8, .rw, none, .openL, true, .vol, (some 0)⟩,
  ⟨"SCOUT_PREFETCH", 0x7821, 0x00, 0x00, .enum8, .rw, none, .openL, true, .vol, (some 1)⟩,
  ⟨"SCOUT_QUERIES", 0x7830, 0x01, 0x01, .uint64, .ro, none, .openL, true, .vol, (some 0)⟩,
  ⟨"SCOUT_QUERIES_EXACT", 0x7830, 0x02, 0x02, .uint64, .ro, none, .openL, true, .vol, (some 0)⟩,
  ⟨"SCOUT_PAGES_SELECTED", 0x7830, 0x03, 0x03, .uint64, .ro, none, .openL, true, .vol, (some 0)⟩,
  ⟨"SCOUT_TIMEOUTS", 0x7830, 0x04, 0x04, .uint32, .ro, none, .openL, true, .vol, (some 0)⟩,
  ⟨"SCOUT_LOADS", 0x7830, 0x05, 0x05, .uint64, .ro, none, .openL, true, .vol, (some 0)⟩,
  ⟨"SCOUT_NO_SPAN", 0x7830, 0x06, 0x06, .uint32, .ro, none, .openL, true, .vol, (some 0)⟩,
  ⟨"SCOUT_SWEEPS", 0x7831, 0x01, 0x01, .uint64, .ro, none, .openL, false, .vol, (some 0)⟩,
  ⟨"SCOUT_CHECK_FAILS", 0x7831, 0x02, 0x02, .uint32, .ro, none, .openL, false, .vol, (some 0)⟩]

/-- Objects of chapter 16 (its object table). -/
def objRows16a : List ObjRow := [
  ⟨"SOLV_LANES", 0x7C00, 0x01, 0x01, .uint8, .const, none, .openL, false, .vol, (some 16)⟩,
  ⟨"SOLV_SLOTS", 0x7C00, 0x02, 0x02, .uint8, .const, none, .openL, false, .vol, (some 8)⟩,
  ⟨"SOLV_SLOT_BYTES", 0x7C00, 0x03, 0x03, .uint32, .const, none, .openL, false, .vol, (some 524288)⟩,
  ⟨"SOLV_PIVOT_MIN", 0x7C01, 0x00, 0x00, .uint32, .rw, none, .oper, false, .vol, (some 16)⟩,
  ⟨"SOLV_LAMBDA", 0x7C02, 0x00, 0x00, .uint32, .rw, none, .oper, false, .vol, (some 256)⟩,
  ⟨"SOLV_CUST_LIMIT", 0x7C03, 0x00, 0x00, .uint32, .rw, none, .oper, false, .vol, (some 12500)⟩,
  ⟨"SOLV_POLL", 0x7C04, 0x00, 0x00, .uint32, .rw, none, .oper, false, .vol, (some 2500)⟩,
  ⟨"SOLV_SLOT_TENANT", 0x7C10, 0x01, 0x08, .uint8, .rw, none, .oper, false, .vol, (some 0)⟩,
  ⟨"SOLV_Q_BASE", 0x7C11, 0x01, 0x08, .uint64, .rw, none, .openL, false, .vol, (some 0)⟩,
  ⟨"SOLV_Q_PASID", 0x7C12, 0x01, 0x08, .uint32, .rw, none, .openL, false, .vol, (some 0)⟩,
  ⟨"SOLV_Q_SIZE", 0x7C13, 0x01, 0x08, .uint8, .rw, none, .openL, false, .vol, (some 6)⟩,
  ⟨"SOLV_SLOT_CTL", 0x7C14, 0x01, 0x08, .uint8, .wo, none, .openL, false, .vol, none⟩,
  ⟨"SOLV_SLOT_STATE", 0x7C15, 0x01, 0x08, .enum8, .ro, none, .openL, false, .vol, (some 0)⟩,
  ⟨"SOLV_SLOT_CI", 0x7C16, 0x01, 0x08, .uint16, .ro, none, .openL, false, .vol, (some 0)⟩,
  ⟨"SOLV_BATCHES", 0x7C20, 0x01, 0x08, .uint64, .ro, none, .openL, false, .vol, (some 0)⟩,
  ⟨"SOLV_PIVOT_FLAGS", 0x7C21, 0x01, 0x08, .uint64, .ro, none, .openL, false, .vol, (some 0)⟩,
  ⟨"SOLV_RANGE_FLAGS", 0x7C22, 0x01, 0x08, .uint64, .ro, none, .openL, false, .vol, (some 0)⟩,
  ⟨"SOLV_REJECTS", 0x7C23, 0x01, 0x08, .uint32, .ro, none, .openL, false, .vol, (some 0)⟩]

/-- Objects of chapter 17 (its object table). -/
def objRows17a : List ObjRow := [
  ⟨"SCALE_MEMBERS_MAX", 0x8000, 0x01, 0x01, .uint8, .const, none, .openL, false, .vol, (some 32)⟩,
  ⟨"SCALE_PORT_ENABLE", 0x8001, 0x01, 0x06, .uint8, .rw, none, .oper, false, .vol, (some 1)⟩,
  ⟨"SCALE_PORT_STATE", 0x8002, 0x01, 0x06, .enum8, .ro, none, .openL, false, .vol, (some 0)⟩,
  ⟨"SCALE_PORT_ADDR", 0x8003, 0x01, 0x06, (.octets 16), .rw, none, .oper, false, .flash, (some 0)⟩,
  ⟨"SCALE_PORT_FEC_UE", 0x8004, 0x01, 0x06, .uint64, .ro, none, .openL, false, .vol, (some 0)⟩,
  ⟨"SCALE_UDP_PORT", 0x8010, 0x00, 0x00, .uint16, .rw, none, .oper, false, .flash, (some 7460)⟩,
  ⟨"SCALE_GROUP_ID", 0x8011, 0x00, 0x00, .uint16, .rw, none, .oper, false, .vol, (some 0)⟩,
  ⟨"SCALE_MEMBER", 0x8012, 0x00, 0x00, .uint8, .rw, none, .oper, false, .vol, (some 0)⟩,
  ⟨"SCALE_PAYLOAD_MAX", 0x8013, 0x00, 0x00, .uint16, .rw, none, .oper, false, .vol, (some 4096)⟩,
  ⟨"SCALE_RTO", 0x8014, 0x00, 0x00, .uint32, .rw, none, .oper, false, .vol, (some 250)⟩,
  ⟨"SCALE_RETRY_MAX", 0x8015, 0x00, 0x00, .uint8, .rw, none, .oper, false, .vol, (some 7)⟩,
  ⟨"SCALE_WINDOW", 0x8016, 0x00, 0x00, .uint16, .rw, none, .oper, false, .vol, (some 256)⟩,
  ⟨"SCALE_PEER_ADDR", 0x8020, 0x01, 0x20, (.octets 16), .rw, none, .oper, false, .vol, (some 0)⟩,
  ⟨"SCALE_PEER_PORTS", 0x8021, 0x01, 0x20, .uint8, .rw, none, .oper, false, .vol, (some 112)⟩,
  ⟨"SCALE_PEER_STATE", 0x8022, 0x01, 0x20, .enum8, .ro, none, .openL, false, .vol, (some 0)⟩,
  ⟨"SCALE_CH_TENANT", 0x8030, 0x01, 0x40, .uint8, .rw, none, .oper, false, .vol, (some 0)⟩,
  ⟨"SCALE_CH_PEER", 0x8031, 0x01, 0x40, .uint16, .rw, none, .oper, false, .vol, (some 0)⟩,
  ⟨"SCALE_CH_RING", 0x8032, 0x01, 0x40, .uint8, .rw, none, .oper, false, .vol, (some 255)⟩,
  ⟨"SCALE_CH_PASID", 0x8033, 0x01, 0x40, .uint32, .rw, none, .openL, false, .vol, (some 0)⟩,
  ⟨"SCALE_CH_SQ_BASE", 0x8034, 0x01, 0x40, .uint64, .rw, none, .openL, false, .vol, (some 0)⟩,
  ⟨"SCALE_CH_SQ_SIZE", 0x8035, 0x01, 0x40, .uint8, .rw, none, .openL, false, .vol, (some 6)⟩,
  ⟨"SCALE_CH_RX_BASE", 0x8036, 0x01, 0x40, .uint64, .rw, none, .openL, false, .vol, (some 0)⟩,
  ⟨"SCALE_CH_RX_BYTES", 0x8037, 0x01, 0x40, .uint64, .rw, none, .openL, false, .vol, (some 0)⟩,
  ⟨"SCALE_CH_CTL", 0x8038, 0x01, 0x40, .uint8, .wo, none, .openL, false, .vol, none⟩,
  ⟨"SCALE_CH_STATE", 0x8039, 0x01, 0x40, .enum8, .ro, none, .openL, false, .vol, (some 0)⟩,
  ⟨"SCALE_CH_RETX", 0x803A, 0x01, 0x40, .uint64, .ro, none, .openL, false, .vol, (some 0)⟩,
  ⟨"SCALE_CH_DROPS", 0x803B, 0x01, 0x40, .uint32, .ro, none, .openL, false, .vol, (some 0)⟩]

/-- Objects of chapter 19 (its object table). -/
def objRows19a : List ObjRow := [
  ⟨"GNT_STATE", 0x9000, 0x00, 0x00, .enum8, .ro, none, .openL, false, .vol, (some 0)⟩,
  ⟨"GNT_ENERGY_WH", 0x9001, 0x01, 0x01, .uint64, .ro, none, .openL, false, .vol, (some 0)⟩,
  ⟨"GNT_UNATTR_WH", 0x9001, 0x02, 0x02, .uint64, .ro, none, .openL, false, .vol, (some 0)⟩,
  ⟨"GNT_SUBST_WH", 0x9001, 0x03, 0x03, .uint64, .ro, none, .openL, false, .vol, (some 0)⟩,
  ⟨"GNT_TEST_WH", 0x9001, 0x04, 0x04, .uint64, .ro, none, .openL, false, .vol, (some 0)⟩,
  ⟨"GNT_PENDING_WH", 0x9001, 0x05, 0x05, .uint64, .ro, none, .openL, false, .vol, (some 0)⟩,
  ⟨"GNT_TENANT_WH", 0x9002, 0x00, 0x00, .uint64, .ro, none, .openL, true, .vol, (some 0)⟩,
  ⟨"GNT_LIVE", 0x9003, 0x01, 0x03, .int32, .ro, none, .openL, false, .vol, (some 0)⟩,
  ⟨"GNT_UNMEASURED_MS", 0x9004, 0x01, 0x01, .uint64, .ro, none, .openL, false, .vol, (some 0)⟩,
  ⟨"GNT_OVR_MS", 0x9004, 0x02, 0x02, .uint64, .ro, none, .openL, false, .vol, (some 0)⟩,
  ⟨"GNT_COUNTS", 0x9004, 0x03, 0x06, .uint32, .ro, none, .openL, false, .vol, (some 0)⟩,
  ⟨"GNT_AUDIT", 0x9005, 0x00, 0x00, .uint32, .ro, none, .openL, false, .vol, none⟩,
  ⟨"GNT_SEAL", 0x9006, 0x00, 0x00, .uint8, .ro, none, .openL, false, .vol, (some 0)⟩,
  ⟨"GNT_CAL", 0x9007, 0x00, 0x00, (.record 64), .ro, none, .openL, false, .vol, none⟩,
  ⟨"GNT_LAST_RECORD", 0x9008, 0x00, 0x00, (.record 256), .ro, none, .openL, false, .vol, (some 0)⟩,
  ⟨"GNT_RECORD_SEQ", 0x9008, 0x01, 0x01, .uint64, .ro, none, .openL, false, .vol, (some 0)⟩,
  ⟨"GNT_FW_VERSION", 0x9009, 0x00, 0x00, .uint32, .ro, none, .openL, false, .vol, none⟩,
  ⟨"GNT_PUBKEY", 0x900A, 0x00, 0x00, (.record 96), .const, none, .openL, false, .vol, none⟩,
  ⟨"GNT_MIRROR_AGE", 0x900B, 0x00, 0x00, .uint32, .ro, none, .openL, false, .vol, (some 0)⟩]

/-- Objects of chapter 20 (its object table). -/
def objRows20a : List ObjRow := [
  ⟨"ERR_RING_BASE", 0xA000, 0x01, 0x01, .uint64, .rw, none, .openL, true, .vol, (some 0)⟩,
  ⟨"ERR_RING_SIZE", 0xA000, 0x02, 0x02, .uint8, .rw, none, .openL, true, .vol, (some 8)⟩,
  ⟨"ERR_RING_PASID", 0xA000, 0x03, 0x03, .uint32, .rw, none, .openL, true, .vol, (some 0)⟩,
  ⟨"ERR_RING_CTL", 0xA001, 0x00, 0x00, .uint8, .wo, none, .openL, true, .vol, none⟩,
  ⟨"ERR_RING_STATE", 0xA002, 0x00, 0x00, .enum8, .ro, none, .openL, true, .vol, (some 0)⟩,
  ⟨"ERR_RING_SEQ", 0xA003, 0x00, 0x00, .uint32, .ro, none, .openL, true, .vol, (some 0)⟩,
  ⟨"ERR_LOST", 0xA004, 0x00, 0x00, .uint32, .ro, none, .openL, true, .vol, (some 0)⟩,
  ⟨"ERR_IRQ_TICKS", 0xA005, 0x00, 0x00, .uint32, .rw, none, .openL, true, .vol, (some 0)⟩,
  ⟨"ERR_CODE_COUNT", 0xA010, 0x01, 0x54, .uint32, .ro, none, .openL, true, .vol, (some 0)⟩,
  ⟨"ERR_ALERT_PENDING", 0xA020, 0x00, 0x00, .uint64, .ro, none, .openL, false, .vol, (some 0)⟩,
  ⟨"ERR_ALERT_CLEAR", 0xA021, 0x00, 0x00, .uint8, .wo, none, .oper, false, .vol, none⟩,
  ⟨"ERR_WALK_DEADLINE", 0xA030, 0x00, 0x00, .uint32, .rw, none, .oper, false, .vol, (some 250)⟩,
  ⟨"DL_MISSES", 0xA040, 0x01, 0x01, .uint64, .ro, none, .openL, true, .vol, (some 0)⟩,
  ⟨"DL_POLICY_COUNT", 0xA040, 0x02, 0x04, .uint64, .ro, none, .openL, true, .vol, (some 0)⟩,
  ⟨"LAT_DISPATCH_MAX", 0xA050, 0x00, 0x00, .uint32, .ro, none, .openL, false, .vol, (some 0)⟩,
  ⟨"TEST_UNLOCK", 0xD000, 0x00, 0x00, .uint8, .wo, none, .oper, false, .vol, none⟩,
  ⟨"TEST_UNLOCK_TICKS", 0xD001, 0x00, 0x00, .uint32, .rw, none, .oper, false, .vol, (some 1500000000)⟩,
  ⟨"TEST_STATE", 0xD002, 0x00, 0x00, .enum8, .ro, none, .openL, false, .vol, (some 0)⟩,
  ⟨"PERT_RING_DELAY", 0xD010, 0x01, 0x40, .uint32, .rw, none, .oper, false, .vol, (some 0)⟩,
  ⟨"PERT_BACKPRESSURE", 0xD011, 0x01, 0x08, .uint8, .rw, none, .oper, false, .vol, (some 0)⟩,
  ⟨"PERT_WALK_DELAY", 0xD012, 0x00, 0x00, .uint32, .rw, none, .oper, false, .vol, (some 0)⟩,
  ⟨"PERT_ECC_FLIP", 0xD013, 0x00, 0x00, (.record 16), .wo, none, .oper, false, .vol, none⟩,
  ⟨"PERT_SCOUT_OFFSET", 0xD014, 0x01, 0x80, .int16, .rw, none, .oper, false, .vol, (some 0)⟩,
  ⟨"PERT_DL_FORCE", 0xD015, 0x01, 0x40, .uint16, .rw, none, .oper, false, .vol, (some 0)⟩]

/-- Every object row, in the chapters' order. -/
def objRowsUnsorted : List ObjRow :=
  objRows03a ++ objRows04a ++ objRows05a ++ objRows06a ++ objRows07a ++ objRows08a ++ objRows09a ++ objRows10a ++ objRows12a ++ objRows13a ++ objRows14a ++ objRows15a ++ objRows16a ++ objRows17a ++ objRows19a ++ objRows20a

/-- Insert a row by index, then sub-index, after its equals. -/
def insertRow (r : ObjRow) : List ObjRow → List ObjRow
  | [] => [r]
  | h :: rest =>
    if r.index < h.index || (r.index == h.index && r.sub0 < h.sub0) then r :: h :: rest else h :: insertRow r rest

/-- The object list in index order, then sub-index order (R113). -/
def objRows : List ObjRow := objRowsUnsorted.foldl (fun acc r => insertRow r acc) []

/-- Codes of Table 20.1: the sub-indices of ERR_CODE_COUNT that exist. -/
def faultCodes : List Nat :=
  [0x01, 0x02, 0x03, 0x04, 0x05, 0x08, 0x09, 0x0A, 0x0B, 0x0C, 0x0D, 0x0E, 0x0F, 0x10, 0x11, 0x12, 0x13, 0x14, 0x15,
   0x16, 0x17, 0x18, 0x20, 0x21, 0x22, 0x23, 0x24, 0x25, 0x26, 0x30, 0x31, 0x32, 0x33, 0x34, 0x35, 0x36, 0x37,
   0x40, 0x41, 0x42, 0x43, 0x44, 0x45, 0x46, 0x47, 0x48, 0x49, 0x50, 0x51, 0x52, 0x53, 0x54]

/-- The row that lists an object, if any (R13); a reserved code of ERR_CODE_COUNT is no object (Table 20.9). -/
def objRow? (index sub : Nat) : Option ObjRow :=
  match objRowsUnsorted.find? (fun r => r.index == index && Nat.ble r.sub0 sub && Nat.ble sub r.sub1) with
  | some r => if index == 0xA010 && !faultCodes.contains sub then none else some r
  | none => none

/-- The key of an instance in the store. -/
def okey (index sub tenant : Nat) : Nat := index * 65536 + sub * 256 + tenant

/-- Default of an instance (R105), with the defaults that depend on the device: RING_FUNC is the ring's number,
SCALE_MEMBER is SLOT_ID, tenant 0 owns every present scout array, and COMM_OPER_KEY ships as the buyer's key. -/
def objDefault (straps : Straps) (active : Nat) (index sub tenant : Nat) : Nat :=
  if index == 0x3010 then sub - 1
  else if index == 0x8012 then straps.slotId.toNat
  else if index == 0x7801 then (if tenant == 0 then bitsAt active 128 128 else 0)
  else if index == 0x1120 then Config.buyerKey
  else match objRow? index sub with
    | some r => r.dflt.getD 0
    | none => 0

end Sys2Proof.Machine
end

