-- ==== Sys2Proof/Machine/Ops.lean ====
section
/-! DEFINITION. The named operations over State: reaching the parts of the device, dictionary values, memory bytes,
ticks, free values, messages put on the ports. -/

namespace Sys2Proof.Machine

/-- The effect of a command that reaches no part of the metrology die (R357): a function of the device alone. -/
def onDev (f : Dev → Dev) (s : State) : Host.Outcome State Fault Refusal := .next { s with dev := f s.dev }

/-! ### Parts of the device -/

def Dev.tile (d : Dev) (t : Nat) : Tile := d.tiles.get t {}
def Dev.setTile (d : Dev) (t : Nat) (x : Tile) : Dev := { d with tiles := d.tiles.put t x }
def Dev.updTile (d : Dev) (t : Nat) (f : Tile → Tile) : Dev := d.setTile t (f (d.tile t))
def Dev.ring (d : Dev) (r : Nat) : Ring := d.rings.get r {}
def Dev.setRing (d : Dev) (r : Nat) (x : Ring) : Dev := { d with rings := d.rings.put r x }
def Dev.updRing (d : Dev) (r : Nat) (f : Ring → Ring) : Dev := d.setRing r (f (d.ring r))
def Dev.setJob (d : Dev) (j : Nat) (x : Job) : Dev := { d with jobs := d.jobs.put j x }
def Dev.fn (d : Dev) (n : Nat) : Fn := d.fns.get n {}
def Dev.setFn (d : Dev) (n : Nat) (x : Fn) : Dev := { d with fns := d.fns.put n x }
def Dev.updFn (d : Dev) (n : Nat) (f : Fn → Fn) : Dev := d.setFn n (f (d.fn n))
def Dev.array (d : Dev) (a : Nat) : SArray := d.scout.arrays.get a {}
def Dev.setArray (d : Dev) (a : Nat) (x : SArray) : Dev :=
  { d with scout := { d.scout with arrays := d.scout.arrays.put a x } }
def Dev.die (d : Dev) (n : Nat) : DieTherm := d.therm.dies.get n {}
def Dev.errRing (d : Dev) (t : Nat) : ErrRing := d.err.rings.get t {}
def Dev.setErrRing (d : Dev) (t : Nat) (x : ErrRing) : Dev :=
  { d with err := { d.err with rings := d.err.rings.put t x } }
def Dev.slot (d : Dev) (k : Nat) : SSlot := d.solv.slots.get k {}
def Dev.setSlot (d : Dev) (k : Nat) (x : SSlot) : Dev := { d with solv := { d.solv with slots := d.solv.slots.put k x } }
def Dev.chan (d : Dev) (c : Nat) : Chan := d.scale.chans.get c {}
def Dev.setChan (d : Dev) (c : Nat) (x : Chan) : Dev :=
  { d with scale := { d.scale with chans := d.scale.chans.put c x } }
def Dev.peer (d : Dev) (p : Nat) : Peer := d.scale.peers.get p {}
def Dev.setPeer (d : Dev) (p : Nat) (x : Peer) : Dev :=
  { d with scale := { d.scale with peers := d.scale.peers.put p x } }
def Dev.port (d : Dev) (p : Nat) : PortState := d.scale.ports.get p .down
def Dev.setPort (d : Dev) (p : Nat) (x : PortState) : Dev :=
  { d with scale := { d.scale with ports := d.scale.ports.put p x } }

/-- A message put on a port of the block (log 4). -/
def Dev.emit (d : Dev) (e : Emit) : Dev := { d with emits := d.emits ++ [e] }

/-- The next free value of the run, below a bound (log 5). -/
def Dev.freeBelow (d : Dev) (n : Nat) : Nat × Dev :=
  (if n = 0 then 0 else Config.freeNat d.free % n, { d with free := d.free + 1 })

/-! ### Ticks -/

/-- What an empty queue does (log 2): one tick of the AON counter passes while its supply is present (R49, R50). -/
def idleTick (s : State) : State :=
  if s.dev.pwr.aon then
    { s with dev := { s.dev with pwr := { s.dev.pwr with tick := (s.dev.pwr.tick + 1) % 2 ^ 64 } } }
  else s

/-- Lag of unit `u`'s copy at a tick: at most 2 (R49). -/
def lag (u t : Nat) : Nat := Config.tickLag u t % 3

/-- The local copy of the tick counter in a unit (R49): never ahead, at most 2 behind, never decreasing. -/
def localTick (u t : Nat) : Nat := Nat.max (t - lag u t) (Nat.max ((t - 1) - lag u (t - 1)) (t - 2))

/-- The stamp a unit takes now: 0 to 127 the tiles, 128 the hub. -/
def Dev.stamp (d : Dev) (u : Nat) : Nat := localTick u d.pwr.tick % 2 ^ 64

/-! ### Dictionary values -/

/-- The value of an instance: the stored one, or its default (R105). -/
def Dev.obj (d : Dev) (index sub tenant : Nat) : Nat :=
  (KMap.find d.dict (okey index sub tenant)).getD (objDefault d.pwr.straps d.boot.active index sub tenant)

/-- Store a value of an instance. -/
def Dev.setObj (d : Dev) (index sub tenant v : Nat) : Dev := { d with dict := d.dict.put (okey index sub tenant) v }

/-- Add to a counter of the given width, which saturates. -/
def Dev.bump (d : Dev) (index sub tenant w : Nat) (by' : Nat := 1) : Dev :=
  d.setObj index sub tenant (satAdd (d.obj index sub tenant) by' w)

/-- Raise a maximum. -/
def Dev.maxObj (d : Dev) (index sub tenant v w : Nat) : Dev :=
  d.setObj index sub tenant (Nat.max (d.obj index sub tenant) (Nat.min v (2 ^ w - 1)))

/-! ### Units -/

/-- A unit is enabled (BOOT_UNITS_ACTIVE, R97): tiles 0 to 127, arrays 128 to 255, stacks 256, chiplets 264,
solver 268, cores 272, ports 288. -/
def Dev.has (d : Dev) (unit : Nat) : Bool := bitAt d.boot.active unit

/-- Number of set bits of a field. -/
def popCount (n lo w : Nat) : Nat := ((List.range w).filter (fun i => bitAt n (lo + i))).length

/-- Enabled HBM stacks. -/
def Dev.stacks (d : Dev) : Nat := popCount d.boot.active 256 8

/-- HBM top (Table 7.1): 36 GiB for each enabled stack. -/
def Dev.hbmTop (d : Dev) : Nat := d.stacks * 36 * 2 ^ 30

/-- Base of the host window (Table 7.1). -/
def hostBase : Nat := 2 ^ 55

/-- The main rails are on and no turn-off has been decided: the hub may start work (R403). -/
def Dev.live (d : Dev) : Bool := d.pwr.rails && !d.pwr.falling

/-- BOOT_COMPLETE is written and the mode is not Beyby: rings, engines and tiles serve. -/
def Dev.serving (d : Dev) : Bool := d.live && d.boot.complete && !d.boot.beyby

/-- A tile is enabled (R97, R193): present, TILE_ENABLE is 1, and no clear of it has failed. A reset in progress does not
disable it. -/
def Dev.tileOn (d : Dev) (t : Nat) : Bool :=
  decide (t < 128) && d.has t && (d.obj 0x5001 (t + 1) 0 == 1) && !(d.tile t).failed

/-- A tile can be used: present, TILE_ENABLE is 1, no clear of it has failed, no reset in progress (R97, R193, R213). -/
def Dev.tileOk (d : Dev) (t : Nat) : Bool := d.tileOn t && !(d.tile t).resetting

/-- Effective class of a job (R145, R390). -/
def Job.effClass (j : Job) : Nat := if j.demoted then 7 else j.cls

/-! ### Memory -/

/-- The byte of a sparse store at an address; an unlisted address reads 0 (R74, R220; host memory: log 11). -/
def cellAt (m : List Host.Cell) (a : Nat) : Byte :=
  match m with
  | [] => 0
  | (b, v) :: rest => if b = a then v else cellAt rest a

/-- The cells that a byte string lists from an address: its non-zero bytes. -/
def listed (a : Nat) : List Byte → List Host.Cell
  | [] => []
  | b :: rest => if b = 0 then listed (a + 1) rest else (a, b) :: listed (a + 1) rest

/-- Bytes stored from an address on: the cells below, the new ones, the cells above. -/
def cellsWrite (m : List Host.Cell) (a : Nat) (bs : List Byte) : List Host.Cell :=
  m.filter (fun c => c.1 < a) ++ listed a bs ++ m.filter (fun c => a + bs.length ≤ c.1)

/-- Bytes read from an address on. -/
def cellsRead (m : List Host.Cell) (a len : Nat) : List Byte :=
  let w := m.filter (fun c => a ≤ c.1 && c.1 < a + len)
  (List.range len).map (fun i => cellAt w (a + i))

/-- The canonical form: addresses strictly rising, no entry zero. -/
def cellsWf : List Host.Cell → Bool
  | [] => true
  | (a, b) :: rest =>
    b != 0 && (match rest with
      | [] => true
      | (a', _) :: _ => decide (a < a')) && cellsWf rest

/-- Memory is in its canonical form. -/
def Mem.wf (m : Mem) : Bool := cellsWf m.cells

/-- Bytes of memory. -/
def Mem.read (m : Mem) (pa len : Nat) : List Byte := cellsRead m.cells pa len

/-- One byte of memory. -/
def Mem.byte (m : Mem) (pa : Nat) : Byte := cellAt m.cells pa

/-- Store bytes with no check of marks. -/
def Mem.poke (m : Mem) (pa : Nat) (bs : List Byte) : Mem := { m with cells := cellsWrite m.cells pa bs }

/-! ### Marks of 64-byte lines (R400) -/

/-- The mark of a line. -/
def Mem.mark (m : Mem) (line : Nat) : Option WordErr := KMap.find m.lines line

/-- A line that delivers its data poisoned. -/
def badMark : Option WordErr → Bool
  | some .uncorrectable | some .poison => true
  | _ => false

/-- The lines that a span touches. -/
def linesOf (pa len : Nat) : List Nat :=
  if len = 0 then [] else (List.range ((pa + len - 1) / 64 - pa / 64 + 1)).map (fun i => pa / 64 + i)

/-- What a read of HBM finds (R400): the bytes, the offsets of bytes in bad lines, the bad lines, the lines corrected. -/
structure ReadResult where
  bytes : List Byte
  bad : List Nat
  badLines : Nat
  corrected : Nat
deriving DecidableEq, Repr

/-- A read of memory (R400): correctable lines are rewritten corrected. -/
def Mem.readMarks (m : Mem) (pa len : Nat) : ReadResult × Mem :=
  let ls := linesOf pa len
  let ce := ls.filter (fun l => m.mark l == some .correctable)
  let bad := ls.filter (fun l => badMark (m.mark l))
  ({ bytes := m.read pa len
     bad := if bad.isEmpty then [] else (List.range len).filter (fun i => bad.contains ((pa + i) / 64))
     badLines := bad.length
     corrected := ce.length },
   { m with lines := m.lines.filter (fun e => !ce.contains e.1) })

/-- An armed flip takes effect at the next write of its word (Table 20.8). -/
def armedMark (arms : List Arm) (word : Nat) : Option WordErr :=
  match arms.find? (fun a => a.word == word) with
  | some a => some (if a.bits == 1 then .correctable else .uncorrectable)
  | none => none

/-- A write of memory (R400): whole lines get fresh check bits, merges into a bad line are refused and poison it.
The second component counts the refused merges. -/
def Mem.writeMarks (m : Mem) (pa : Nat) (bs : List Byte) : Mem × Nat :=
  (linesOf pa bs.length).foldl (fun (acc : Mem × Nat) l =>
    let lo := Nat.max pa (l * 64)
    let hi := Nat.min (pa + bs.length) (l * 64 + 64)
    let piece := (bs.drop (lo - pa)).take (hi - lo)
    let whole := lo == l * 64 && hi == l * 64 + 64
    let m := acc.1
    if !whole && badMark (m.mark l) then
      ({ m with lines := m.lines.put l .poison }, acc.2 + 1)
    else
      let m1 := { m with cells := cellsWrite m.cells lo piece, lines := m.lines.drop l }
      (match armedMark m.armed l with
       | some e => { m1 with lines := m1.lines.put l e, armed := m.armed.filter (fun a => a.word != l) }
       | none => m1, acc.2)) (m, 0)

/-- Lines of HBM with a correctable error that a write covers in part: the merge reads them (R400). -/
def Mem.mergedCe (m : Mem) (pa len : Nat) : Nat :=
  ((linesOf pa len).filter (fun l => m.mark l == some .correctable &&
    !(Nat.ble pa (l * 64) && Nat.ble (l * 64 + 64) (pa + len)))).length

/-- Byte stores as runs of consecutive addresses, in order: a line that they cover whole is written whole (R400). -/
def runsOf : List ByteStore → List (Nat × List Byte)
  | [] => []
  | x :: rest =>
    match runsOf rest with
    | (a, bs) :: more => if a = x.addr + 1 then (x.addr, x.byte :: bs) :: more else (x.addr, [x.byte]) :: (a, bs) :: more
    | [] => [(x.addr, [x.byte])]

/-! ### Fragments of an access -/

/-- An access cut at the boundaries of 4 KiB pages: (offset, length) pairs. -/
def pieces (va len : Nat) : List (Nat × Nat) :=
  if len = 0 then [] else
    (List.range ((va + len - 1) / 4096 - va / 4096 + 1)).map (fun i =>
      let lo := Nat.max va ((va / 4096 + i) * 4096)
      let hi := Nat.min (va + len) ((va / 4096 + i + 1) * 4096)
      (lo - va, hi - lo))

/-! ### Running clocks (R57) -/

/-- The running clock of a chiplet, MHz. -/
def Dev.fabMhz (d : Dev) (c : Nat) : Nat := d.clk.fab.get c 2000

end Sys2Proof.Machine
end

