-- ==== Sys2Proof/Machine/Xlate.lean ====
section
/-! DEFINITION. Translation lookups and walk requests (R163, R173, R401), and the region-ownership check at the memory
controllers (R158, R171, R185, R186). -/

namespace Sys2Proof.Machine

/-- Two names of one request of an engine. -/
def Requester.same (a b : Requester) : Bool :=
  a.source == b.source && a.engine == b.engine && a.job == b.job && a.ring == b.ring && a.tag == b.tag &&
    a.access == b.access

/-- An entry translates a page for a tenant and PASID (R163) and permits the access. -/
def TlbEntry.hits (e : TlbEntry) (tenant pasid va access : Nat) : Bool :=
  e.tenant == tenant && e.pasid == pasid && Nat.ble e.vpn (va / 4096) && decide (va / 4096 < e.vpn + e.pages) &&
    (if access == 1 then e.writable && e.dirty else e.readable)

/-- The physical address that an entry gives. -/
def TlbEntry.pa (e : TlbEntry) (va : Nat) : Nat := (e.ppn + (va / 4096 - e.vpn)) * 4096 + va % 4096

/-- Hold an entry in a cache of `cap` entries; in a full cache a free choice gives way. -/
def tlbPut (d : Dev) (l : List TlbEntry) (cap : Nat) (e : TlbEntry) : List TlbEntry × Dev :=
  let l := l.filter (fun x => !(x.tenant == e.tenant && x.pasid == e.pasid && x.vpn == e.vpn && x.pages == e.pages))
  if l.length < cap then (l ++ [e], d)
  else
    let (i, d) := d.freeBelow l.length
    (l.eraseIdx i ++ [e], d)

/-- Hold a translation in a chiplet TLB (Table 7.3). -/
def Dev.putChipTlb (d : Dev) (c : Nat) (e : TlbEntry) : Dev :=
  let (l, d) := tlbPut d (d.stu.chipTlb.get c []) 4096 e
  { d with stu := { d.stu with chipTlb := d.stu.chipTlb.put c l } }

/-- Hold a translation in a micro-TLB (Table 7.3). -/
def Dev.putMicroTlb (d : Dev) (t : Nat) (e : TlbEntry) : Dev :=
  let (l, d) := tlbPut d (d.tile t).uTlb 64 e
  d.updTile t (fun x => { x with uTlb := l })

/-- Hold a translation in the IOTLB (Table 7.3). -/
def Dev.putIotlb (d : Dev) (e : TlbEntry) : Dev :=
  let (l, d) := tlbPut d d.stu.iotlb 16384 e
  { d with stu := { d.stu with iotlb := l } }

/-- Hold a translation in the caches nearer than the IOTLB that a requester uses. -/
def Dev.putNear (d : Dev) (source : Nat) (e : TlbEntry) : Dev :=
  if source < 128 then (d.putChipTlb (source / 32) e).putMicroTlb source e else d

/-- A request waits already: on a walk, in an open record, or for a slot of the fault queue. -/
def Dev.waitingReq (d : Dev) (tenant pasid va : Nat) (r : Requester) : Bool :=
  d.stu.walks.any (fun w => w.2.tenant == tenant && w.2.pasid == pasid && w.2.va / 4096 == va / 4096 &&
    w.2.reqs.any (fun q => q.same r)) ||
  d.stu.faults.any (fun f => f.2.tenant == tenant && f.2.pasid == pasid && f.2.va / 4096 == va / 4096 &&
    f.2.reqs.any (fun q => q.same r)) ||
  d.stu.faultWait.any (fun f => f.tenant == tenant && f.pasid == pasid && f.va / 4096 == va / 4096 &&
    f.reqs.any (fun q => q.same r))

/-- Ask for a walk; two misses on one tenant, PASID and page share one (R166). -/
def Dev.requestWalk (d : Dev) (tenant pasid va : Nat) (r : Requester) : Dev :=
  let stu := d.stu
  match stu.walks.find? (fun w => w.2.tenant == tenant && w.2.pasid == pasid && w.2.va / 4096 == va / 4096) with
  | some (k, w) => { d with stu := { stu with walks := stu.walks.put k { w with reqs := w.reqs ++ [r] } } }
  | none =>
    { d with stu := { stu with
        walks := stu.walks.put stu.nextWalk { tenant := tenant, pasid := pasid, va := va, reqs := [r] }
        nextWalk := stu.nextWalk + 1 } }

/-- Count a miss in the IOTLB and ask for a walk. -/
def Dev.missWalk (d : Dev) (tenant pasid va : Nat) (r : Requester) : Dev :=
  (d.bump 0x4020 2 0 64).requestWalk tenant pasid va r

/-- Look an address up in the caches of a requester (Table 7.3). None: the request waits. -/
def Dev.translate (d : Dev) (tenant pasid va access : Nat) (req : Requester) : Option Nat × Dev :=
  let r := { req with va := va, access := access }
  let look := fun (l : List TlbEntry) => l.find? (fun e => e.hits tenant pasid va access)
  if d.waitingReq tenant pasid va r then (none, d)
  else if r.source < 128 then
    let c := r.source / 32
    match look (d.tile r.source).uTlb with
    | some e => (some (e.pa va), d)
    | none =>
      match look (d.stu.chipTlb.get c []) with
      | some e => (some (e.pa va), d.putMicroTlb r.source e)
      | none =>
        let d := d.bump 0x4021 (c + 1) 0 64
        match look d.stu.iotlb with
        | some e => (some (e.pa va), (d.bump 0x4020 1 0 64).putNear r.source e)
        | none => (none, d.missWalk tenant pasid va r)
  else
    match look d.stu.iotlb with
    | some e => (some (e.pa va), d.bump 0x4020 1 0 64)
    | none => (none, d.missWalk tenant pasid va r)

/-- Translate every page of an access in order; the first miss waits. The result gives (pa, offset, length). -/
def Dev.translateSpan (d : Dev) (tenant pasid va len access : Nat) (req : Requester) :
    Option (List (Nat × Nat × Nat)) × Dev :=
  (pieces va len).foldl (fun (acc : Option (List (Nat × Nat × Nat)) × Dev) p =>
    match acc with
    | (none, d) => (none, d)
    | (some l, d) =>
      match d.translate tenant pasid ((va + p.1) % 2 ^ 64) access req with
      | (some pa, d) => (some (l ++ [(pa, p.1, p.2)]), d)
      | (none, d) => (none, d)) (some [], d)

/-- The region-ownership entry that the controllers check against: the cached copy, or the one in memory, which is
then cached (R185, R187). A correctable line is rewritten and counted; an entry in a bad line is counted as HBM_UE, is
not cached, and permits nothing (R400, log 92). -/
def Dev.rotEntry (d : Dev) (region : Nat) : Nat × Dev :=
  match KMap.find d.stu.rotCache region with
  | some e => (e, d)
  | none =>
    let (r, m) := d.mem.readMarks (d.obj 0x3800 0 0 + 2 * region) 2
    let d := { d with mem := m }
    if r.badLines != 0 then (0xC000, d.bump 0xA010 4 0 32)
    else
      let d := if r.corrected = 0 then d else d.bump 0xA010 5 0 32
      let e := leNat r.bytes
      (e, { d with stu := { d.stu with rotCache := d.stu.rotCache.put region e } })

/-- What an entry permits (Table 8.2, R186). -/
def rotAllows (e tenant : Nat) (write : Bool) : Bool :=
  let mode := bitsAt e 14 2
  let owner := bitsAt e 0 6
  if bitsAt e 6 8 != 0 then false
  else if mode == 1 then owner == tenant
  else if mode == 2 then owner == 0 && (tenant == 0 || !write)
  else false

/-- The check of an engine access that stays in one page (R158, R171). -/
def Dev.ownOk (d : Dev) (tenant pa len : Nat) (write : Bool) : Bool × Dev :=
  if pa + len ≤ d.hbmTop then
    let (e, d) := d.rotEntry (pa / 2097152)
    (rotAllows e tenant write, d)
  else (Nat.ble hostBase pa && decide (pa < 2 ^ 56), d)

/-- The check of every piece of an access. -/
def Dev.ownOkAll (d : Dev) (tenant : Nat) (ps : List (Nat × Nat × Nat)) (write : Bool) : Bool × Dev :=
  ps.foldl (fun (acc : Bool × Dev) p =>
    let (ok, d) := acc.2.ownOk tenant p.1 p.2.2 write
    (acc.1 && ok, d)) (true, d)

/-- The requests that an engine's access issues to the host link (R131, R157): from the function that serves the tenant,
with the PASID when that function has PASID Enable set; CXL.cache where CXL is negotiated, PCIe memory requests
otherwise (R128, R129). -/
def Dev.hostReqs (d : Dev) (tenant pasid : Nat) (write : Bool) (ps : List (Nat × Nat × Nat)) : Dev :=
  (ps.filter (fun p => Nat.ble hostBase p.1)).foldl (fun (d : Dev) p =>
    d.emit (.hostReq tenant (if (d.fn tenant).pasidEn then some pasid else none) (d.boot.cxl != 0) write
      (p.1 - hostBase) p.2.2)) d

/-- Back-Invalidate snoops (R128): the host no longer caches the lines of the HDM window that an access touches. -/
def Dev.snoop (d : Dev) (pa len : Nat) : Dev :=
  let hit := fun (l : Nat) => Nat.ble (pa / 64) l && decide (l * 64 < pa + len)
  let d1 := (d.mem.hdmLines.filter hit).foldl (fun (d : Dev) l => d.emit (.backInvalidate l)) d
  { d1 with mem := { d1.mem with hdmLines := d.mem.hdmLines.filter (fun l => !hit l) } }

/-- What an engine's access puts on the host link. -/
def Dev.onBus (d : Dev) (tenant pasid : Nat) (write : Bool) (ps : List (Nat × Nat × Nat)) : Dev :=
  ps.foldl (fun (d : Dev) p => d.snoop p.1 p.2.2) (d.hostReqs tenant pasid write ps)

/-- Read translated pieces (R400). -/
def Dev.readPieces (d : Dev) (ps : List (Nat × Nat × Nat)) : ReadResult × Dev :=
  ps.foldl (fun (acc : ReadResult × Dev) p =>
    let (x, m) := acc.2.mem.readMarks p.1 p.2.2
    let r := acc.1
    ({ bytes := r.bytes ++ x.bytes, bad := r.bad ++ x.bad.map (· + p.2.1), badLines := r.badLines + x.badLines,
       corrected := r.corrected + x.corrected }, { acc.2 with mem := m })) (⟨[], [], 0, 0⟩, d)

/-- Write translated pieces (R400); the second component counts the refused merges. -/
def Dev.writePieces (d : Dev) (ps : List (Nat × Nat × Nat)) (bs : List Byte) : Dev × Nat :=
  ps.foldl (fun (acc : Dev × Nat) p =>
    let (m, n) := acc.1.mem.writeMarks p.1 ((bs.drop p.2.1).take p.2.2)
    ({ acc.1 with mem := m }, acc.2 + n)) (d, 0)

/-- Withdraw the waiting requests that satisfy a test; a record with no request left is withdrawn (R178). -/
def Dev.withdraw (d : Dev) (p : Requester → Bool) : Dev :=
  let keep := fun (l : List Requester) => l.filter (fun r => !p r)
  { d with stu := { d.stu with
      walks := (d.stu.walks.map (fun w => (w.1, { w.2 with reqs := keep w.2.reqs }))).filter
        (fun w => w.2.active || !w.2.reqs.isEmpty)
      faults := (d.stu.faults.map (fun f => (f.1, { f.2 with reqs := keep f.2.reqs }))).filter
        (fun f => !f.2.reqs.isEmpty)
      faultWait := (d.stu.faultWait.map (fun f => { f with reqs := keep f.reqs })).filter
        (fun f => !f.reqs.isEmpty) } }

end Sys2Proof.Machine
end

