-- ==== Sys2Proof/Machine/Errors.lean ====
section
/-! DEFINITION. The error model (R381 to R388): classes, paths, the error rings, MSI-X messages, the board alert. -/

namespace Sys2Proof.Machine

/-- An MSI-X message of a function (R150, R151): a masked vector sets its PBA bit and sends at unmask; a function
with MSI-X disabled or none at all sends nothing. -/
def Dev.msix (d : Dev) (fn vec : Nat) : Dev :=
  let f := d.fn fn
  if !f.msixEn then d
  else if bitAt f.unmasked vec then d.emit (.msix fn vec)
  else d.setFn fn { f with pba := putBit f.pba vec true }

/-- The class of a code (Table 20.1); the two codes with two classes take the class the reporter names. -/
def faultClass (code : Nat) : Nat :=
  if [0x04, 0x05, 0x15, 0x23, 0x33, 0x34, 0x35, 0x36, 0x40, 0x41, 0x43, 0x16].contains code then 1
  else if code < 0x20 then 2
  else if code < 0x30 then 3
  else if code < 0x40 then 4
  else if code < 0x50 then 5
  else 6

/-- The record goes to the tenant's ring (Table 20.1, path ER). -/
def pathEr (code : Nat) : Bool :=
  !([0x05, 0x23, 0x26, 0x30, 0x31, 0x32, 0x34, 0x35, 0x36].contains code) && decide (code < 0x40)

/-- The record goes to tenant 0's ring (Table 20.1, path ER0). -/
def pathEr0 (code : Nat) : Bool :=
  [0x03, 0x04, 0x26, 0x30, 0x31, 0x32, 0x33, 0x34, 0x35, 0x36, 0x37].contains code || decide (0x40 ≤ code)

/-- The job fields of an error-ring entry (Table 20.3). -/
def Dev.jobBits (d : Dev) (job : Option Nat) : Nat :=
  match job with
  | none => 0
  | some j =>
    match KMap.find d.jobs j with
    | none => 0
    | some x => x.ring * 2 ^ 384 + x.userTag * 2 ^ 352 + x.sqIndex * 2 ^ 336 + 2 ^ 256

/-- An error-ring entry without its SEQ (Table 20.3). -/
def entryBits (tick code cls tenant source jobBits detail : Nat) : Nat :=
  tick * 2 ^ 448 + code * 2 ^ 408 + cls * 2 ^ 404 + tenant * 2 ^ 398 + source * 2 ^ 390 + jobBits + detail % 2 ^ 256

/-- Hold an entry for a tenant's ring, or count it as lost (R386). -/
def Dev.errQueue (d : Dev) (tenant entry : Nat) : Dev :=
  let r := d.errRing tenant
  if r.st == .enabled then d.setErrRing tenant { r with waiting := r.waiting ++ [entry] }
  else d.bump 0xA004 0 tenant 32

/-- The SEQ after a given one (R386): it skips 0. -/
def nextSeq (n : Nat) : Nat := if (n + 1) % 2 ^ 32 = 0 then 1 else (n + 1) % 2 ^ 32

/-- A translation fault record (Table 7.8). -/
structure FaultBits where
  va : Nat
  tick : Nat
  pasid : Nat
  tenant : Nat
  cause : Nat
  level : Nat
  policy : Nat
  id : Nat
  req : Requester
deriving DecidableEq, Repr

/-- The record as 256 bits. -/
def FaultBits.bits (f : FaultBits) : Nat :=
  let r := f.req
  let job := r.job.isSome
  f.va % 2 ^ 64 * 2 ^ 192 + f.tick % 2 ^ 64 * 2 ^ 128 + f.pasid * 2 ^ 108 + f.tenant * 2 ^ 102 +
    (if job then r.ring else 0) * 2 ^ 96 + r.source * 2 ^ 88 + r.engine * 2 ^ 85 + f.cause * 2 ^ 81 +
    r.access * 2 ^ 79 + f.level * 2 ^ 76 + r.prio * 2 ^ 73 + f.policy * 2 ^ 71 + job.toNat * 2 ^ 70 +
    f.id % 2 ^ 16 * 2 ^ 48 + (if job then r.sqIndex * 2 ^ 32 + r.userTag else 0)

/-- The job fields of a requester. -/
def Dev.withJob (d : Dev) (j : Option Nat) (r : Requester) : Requester :=
  match j with
  | none => { r with job := none }
  | some i =>
    match KMap.find d.jobs i with
    | none => { r with job := none }
    | some x => { r with job := some i, ring := x.ring, sqIndex := x.sqIndex, userTag := x.userTag, prio := x.effClass }

/-- The requester that an error-ring write is (Table 7.11). -/
def errReq (tenant : Nat) : Requester := { source := 0x8A, tag := tenant }

/-- Write the waiting entries of a tenant's ring while its slots translate (R386, R387). The Boolean says that a
write failed the ownership check. -/
def Dev.errFlush (d : Dev) (tenant : Nat) : List Nat → Dev × Bool
  | [] => (d, false)
  | e :: rest =>
    let r := d.errRing tenant
    let seq := nextSeq r.seq
    let va := (r.base + 64 * (seq % 2 ^ r.size)) % 2 ^ 64
    match d.translateSpan tenant r.pasid va 64 1 (errReq tenant) with
    | (none, d) => (d, false)
    | (some ps, d) =>
      match d.ownOkAll tenant ps true with
      | (false, d) => (d, true)
      | (true, d) =>
        let d := ((d.onBus tenant r.pasid true ps).writePieces ps (leBytes (e + seq * 2 ^ 416) 64)).1
        let d := d.setErrRing tenant { r with
          seq := seq, waiting := rest, uncovered := some (r.uncovered.getD d.pwr.tick) }
        let d := if r.irq && d.obj 0xA005 0 tenant == 0 then
            (d.setErrRing tenant { d.errRing tenant with uncovered := none }).msix tenant 1
          else d
        d.errFlush tenant rest

/-- An error ring enters ERROR: its waiting entries are lost (R386). -/
def Dev.errRingFail (d : Dev) (tenant : Nat) : Dev :=
  let r := d.errRing tenant
  (d.setErrRing tenant { r with st := .error, waiting := [] }).bump 0xA004 0 tenant 32 r.waiting.length

/-- An error-ring write failed the ownership check (R172): counted, and its OWNERSHIP record meets a ring in ERROR. -/
def Dev.errOwn (d : Dev) (tenant : Nat) : Dev :=
  let r := d.errRing tenant
  let f : FaultBits :=
    { va := (r.base + 64 * (nextSeq r.seq % 2 ^ r.size)) % 2 ^ 64, tick := d.stamp 128, pasid := r.pasid, tenant := tenant
      cause := 9, level := 7, policy := 0, id := 0, req := { errReq tenant with access := 1 } }
  ((d.bump 0x4022 0 tenant 32).bump 0xA010 2 tenant 32).errQueue tenant
    (entryBits (d.stamp 128) 0x02 2 tenant 0x8A 0 f.bits)

/-- Write what waits on a tenant's ring; a failed write of another tenant's ring is reported on tenant 0's. -/
def Dev.errWrite (d : Dev) (tenant : Nat) : Dev :=
  match d.errFlush tenant (d.errRing tenant).waiting with
  | (d, false) => d
  | (d, true) =>
    let d := (((d.errRingFail tenant).errOwn tenant)).bump 0xA010 0x26 0 32
    let e := entryBits (d.stamp 128) 0x26 3 tenant 0x8A 0 tenant
    if tenant == 0 then d.errQueue 0 e
    else
      let d := d.errQueue 0 e
      match d.errFlush 0 (d.errRing 0).waiting with
      | (d, false) => d
      | (d, true) =>
        (((d.errRingFail 0).errOwn 0).bump 0xA010 0x26 0 32).errQueue 0 (entryBits (d.stamp 128) 0x26 3 0 0x8A 0 0)

/-- The end of an error-ring write by FAIL or the stall limit (Table 7.11). -/
def Dev.errRingEnd (d : Dev) (tenant : Nat) : Dev :=
  let d := (d.errRingFail tenant).bump 0xA010 0x26 0 32
  (d.errQueue 0 (entryBits (d.stamp 128) 0x26 3 tenant 0x8A 0 tenant)).errWrite 0

/-- A record: code, class, tenant of the job or unit, source, job, DETAIL. -/
structure Rec where
  code : Nat
  cls : Option Nat := none
  tenant : Nat := 0
  source : Nat := 0x89
  job : Option Nat := none
  detail : Nat := 0
deriving DecidableEq, Repr

/-- Report a fault (R382, R385): count it in every tenant that receives the record, and post the entries. -/
def Dev.report (d : Dev) (r : Rec) : Dev :=
  let e := entryBits (d.stamp 128) r.code (r.cls.getD (faultClass r.code)) r.tenant r.source (d.jobBits r.job) r.detail
  let to0 := pathEr0 r.code && !(pathEr r.code && r.tenant == 0)
  let d := if pathEr r.code then
      ((d.bump 0xA010 r.code r.tenant 32).errQueue r.tenant e).errWrite r.tenant
    else d
  if to0 then ((d.bump 0xA010 r.code 0 32).errQueue 0 e).errWrite 0 else d

/-- Count a code that is reported by counter only (R382). -/
def Dev.countOnly (d : Dev) (code tenant n : Nat) : Dev := if n = 0 then d else d.bump 0xA010 code tenant 32 n

/-- Report HBM_UE and count HBM_CE for an access of an engine (R382, R400): tenant, source, job, bad lines as reads
report them (one report for a read, one for a write with refused merges), corrected lines. -/
def Dev.hbmErrors (d : Dev) (tenant source : Nat) (job : Option Nat) (ue ce : Nat) : Dev :=
  let d := d.countOnly 0x05 tenant ce
  if ue = 0 then d else d.report { code := 0x04, tenant := tenant, source := source, job := job }

/-- Bytes written at translated pieces (R400): lines corrected by a merge are counted, refused merges reported. -/
def Dev.markWrite (d : Dev) (tenant source : Nat) (job : Option Nat) (ps : List (Nat × Nat × Nat)) (bs : List Byte) : Dev :=
  let ce := ps.foldl (fun n p => n + d.mem.mergedCe p.1 p.2.2) 0
  let (d, ue) := d.writePieces ps bs
  d.hbmErrors tenant source job ue ce

/-- An engine's read of translated pieces: its requests to the host, and what it finds. -/
def Dev.busRead (d : Dev) (tenant pasid : Nat) (ps : List (Nat × Nat × Nat)) : ReadResult × Dev :=
  (d.onBus tenant pasid false ps).readPieces ps

/-- An engine's write of translated pieces: its requests to the host, and its effect on memory. -/
def Dev.busWrite (d : Dev) (tenant pasid source : Nat) (job : Option Nat) (ps : List (Nat × Nat × Nat)) (bs : List Byte) :
    Dev :=
  (d.onBus tenant pasid true ps).markWrite tenant source job ps bs

/-- Stores that software made visible before a command (R138, R353): of the host, source 0x86, or of a host core, source
0x89. -/
def Dev.stores (d : Dev) (source : Nat) (l : List ByteStore) : Dev :=
  (runsOf l).foldl (fun (d : Dev) r =>
    (if source = 0x86 then d else d.snoop r.1 r.2.length).markWrite 0 source none [(r.1, 0, r.2.length)] r.2) d

/-- An ownership failure (R172): counted and reported with its fault record. -/
def Dev.ownReport (d : Dev) (tenant pasid va access : Nat) (req : Requester) : Dev :=
  let f : FaultBits :=
    { va := va, tick := d.stamp 128, pasid := pasid, tenant := tenant, cause := 9, level := 7, policy := 0, id := 0
      req := { req with access := access } }
  (d.bump 0x4022 0 tenant 32).report
    { code := 0x02, tenant := tenant, source := req.source, job := req.job, detail := f.bits }

/-- Report a UNIT record: it holds ALERT_N until acknowledged (R388). -/
def Dev.reportUnit (d : Dev) (r : Rec) : Dev :=
  let d := { d with err := { d.err with unit := if d.err.unit.contains r.code then d.err.unit else d.err.unit ++ [r.code] } }
  d.report r

/-- A BOARD condition becomes pending: reported once, and holds ALERT_N (R388). -/
def Dev.boardSet (d : Dev) (r : Rec) : Dev :=
  if d.err.board.contains r.code then d
  else ({ d with err := { d.err with board := d.err.board ++ [r.code] } }).report r

/-- A BOARD condition clears: its recovery condition is met (R388). -/
def Dev.boardClear (d : Dev) (code : Nat) : Dev :=
  { d with err := { d.err with board := d.err.board.filter (fun c => c != code) } }

/-- ERR_ALERT_PENDING (Table 20.9). -/
def Dev.alertPending (d : Dev) : Nat :=
  ((d.err.board ++ d.err.unit).foldl (fun n c => n ||| 2 ^ (c - 0x30)) 0) ||| (if d.boot.beyby then 2 ^ 63 else 0)

/-- ALERT_N is asserted (R38, R388, R96): a pending condition, Beyby mode, or no core K0. -/
def Dev.alertAsserted (d : Dev) : Bool := d.alertPending != 0 || !bitAt d.boot.fuses 272

/-- The FATAL record that a restart of the given cause posts (R384, Table 20.1). -/
def Dev.fatalFor (d : Dev) (cause tick : Nat) : Option FatalRec :=
  let trip := d.boot.lastTrip % 2 ^ 128
  if cause == 9 then some ⟨0x50, tick, 9⟩
  else if cause == 7 then some ⟨0x51, trip / 2 ^ 64, trip⟩
  else if cause == 8 then some ⟨0x52, tick, 8⟩
  else if cause == 10 then some ⟨0x53, tick, 10⟩
  else if cause == 5 || cause == 6 then some ⟨0x54, d.boot.lastFail / 2 ^ 64, d.boot.lastFail⟩
  else none

/-- Post the held FATAL records on tenant 0's ring, before any other entry (R384). -/
def Dev.postHeld (d : Dev) : Dev :=
  let d := d.err.held.foldl (fun (d : Dev) h =>
    (d.bump 0xA010 h.code 0 32).errQueue 0 (entryBits h.tick h.code 6 0 0x89 0 h.detail)) d
  ({ d with err := { d.err with held := [] } }).errWrite 0

end Sys2Proof.Machine
end

