-- ==== Sys2Proof/Machine/Restart.lean ====
section
/-! DEFINITION. What resets and turn-offs clear and keep (R72 to R74, R92, R384, R403, R404, Table 4.1). -/

namespace Sys2Proof.Machine

/-- The dictionary entries of the given persistences (R105). -/
def keepDict (m : KMap Nat) (ks : List Keep) : KMap Nat :=
  m.filter (fun e =>
    match objRow? (e.1 / 65536) (e.1 / 256 % 256) with
    | some r => ks.contains r.keep
    | none => false)

/-- Host memory alone: a warm reset clears HBM (Table 4.1, R74). -/
def hostOnly (m : Mem) : Mem := { cells := m.cells.filter (fun c => hostBase ≤ c.1) }

/-- A flash write that a reset or a loss of power finds uncommitted leaves the old or the new value (R106): a free
choice (log 5). -/
def Dev.tearFlash (d : Dev) : Dev :=
  match d.srv.flash with
  | some w =>
    let (c, d) := d.freeBelow 2
    if c = 0 then d else d.setObj w.key.index w.key.sub w.key.tenant w.value
  | none => d

/-- What the hub, the chiplets and their links hold is lost: work in flight with no completion (R69, R403), and every
volatile value (R105). The AON domain and the management port stay. -/
def Dev.hubClear (d0 : Dev) : Dev :=
  let d := d0.tearFlash
  { d with
    therm := { d.therm with faultBits := 0 }
    clk := { means := d.clk.means }
    dict := keepDict d.dict [.aon, .flash]
    srv := { eidI3c := d.srv.eidI3c, sessions := d.srv.sessions.filter (fun e => e.2.reduced) }
    fns := [], numVfs := 0, rings := [], jobs := [], nextJob := 0, lastTurn := 0
    mem := hostOnly d.mem
    stu := {}, tiles := [], cores := [], kv := {}, sfu := [], scout := {}, solv := {}, scale := {}
    mirror := { lastFrame := d.pwr.tick }
    err := { board := d.err.board.filter (fun c => c != 0x49), held := d.err.held } }

/-- An attempt that ends through a listed cause is uncounted (R92). -/
def Dev.restoreCount (d : Dev) : Dev :=
  if d.boot.attempt then
    { d with boot := { d.boot with count := d.boot.prior, mirror := d.boot.prior, attempt := false } }
  else d

/-- The boot's own registers at time 0 of a boot (R79, Table 4.7): stage 0 begins; links, unit maps and the lock are
gone; images, fuses, count and the reset objects stay. BOOT_UNITS_OPER_OFF takes effect now (`off`). -/
def Boot.restart (b : Boot) (tick off : Nat) : Boot :=
  { b with
    operOff := off
    stage := 0, running := true, beyby := false, cause := 0, complete := false, lock := false
    start := tick, stageStart := tick, stageTicks := [], attempt := false, cfgOpen := false, slot := 2
    active := 0, hbmState := [], hbmMbps := [], ucie := [], pcieGen := 0, pcieLanes := 0, cxl := 0
    rrsTicks := 0, memActive := false, hdmGib := 0, hdmDec := {} }

/-- A warm reset of the given cause (Table 4.1, R404): the hub is cleared, the reset objects updated, the boot starts.
Held FATAL records are replaced by those of this restart when it is a FATAL one (R384). -/
def Dev.warmReset (d : Dev) (cause : Nat) : Dev :=
  let t := d.pwr.tick
  let d := d.hubClear
  let held := match d.fatalFor cause t with
    | some r => [r]
    | none => d.err.held
  let b := d.boot.restart t (d.obj 0x1F40 3 0)
  { d with
    err := { d.err with held := held }
    boot := { b with
      rstCause := cause, rstTick := t, rstWarm := satAdd b.rstWarm 1 32
      beybyReq := if cause == 3 then false else if cause == 4 then true else b.beybyReq } }

/-- The first boot after a cold reset (R73): RST_CAUSE stays COLD, RST_TICK 0, the count does not move. -/
def Dev.coldBoot (d : Dev) : Dev :=
  let t := d.pwr.tick
  let d := d.hubClear
  { d with boot := d.boot.restart t (d.obj 0x1F40 3 0) }

/-- RST_CAUSE of a rail start after a turn-off (R404). -/
def TurnOff.cause : TurnOff → Nat
  | .pwrEn => 1
  | .input => 10
  | .overcurrent => 8
  | .thermal => 7

/-- The decision to turn the main rails off (R403, step 1): MOD_PWR_OK low, no new work, work in flight lost; an
attempt of a boot is uncounted (R92); the cause is kept (R404). -/
def Dev.turnOff (d : Dev) (cause : TurnOff) : Dev :=
  if d.live then
    let d := d.restoreCount.hubClear
    { d with
      pwr := { d.pwr with falling := true, modPwrOk := false, lastOff := cause }
      boot := { d.boot with
        running := false, cfgOpen := false, pcieGen := 0, pcieLanes := 0, cxl := 0, memActive := false } }
  else d

/-- Loss of the AON supply (R402): volatile and AON-kept state is lost. Kept: pins, firmware images, fuses, the flash
mirror of the boot-failure count, flash-kept objects, host memory. A FATAL cause whose record is lost is held as a
BOOT_FAIL record with DETAIL zero (R384). The trip latches go with the AON domain, however short the absence of 54 V
(log 94); an attempt of a boot that ends so stays counted (R92); a flash write is torn (R106). -/
def Dev.loseAon (d0 : Dev) : Dev :=
  let d := d0.tearFlash
  let fatal := d.pwr.lastOff != .pwrEn && (!d.pwr.rails || d.pwr.falling) || !d.err.held.isEmpty
  { pwr := { aon := false, v54 := d.pwr.v54, aux := d.pwr.aux, overvolt := d.pwr.overvolt, pwrEn := d.pwr.pwrEn
             perst := d.pwr.perst }
    boot := { slotA := d.boot.slotA, slotB := d.boot.slotB, fuses := d.boot.fuses, mirror := d.boot.mirror
              count := d.boot.mirror }
    dict := keepDict d.dict [.flash]
    mem := hostOnly d.mem
    err := { held := if fatal then [⟨0x54, 0, 0⟩] else [] }
    emits := d.emits
    free := d.free }

/-- The AON supply after a change of the inputs (R26, R402). -/
def Dev.aonCheck (d : Dev) : Dev := if d.pwr.aon && !d.pwr.v54 && !d.pwr.aux then d.loseAon else d

/-- A boot failure (R80): BOOT_LAST_FAIL is recorded and a warm reset starts. -/
def Dev.bootFail (d : Dev) (error : Nat) (cause : Nat) : Dev :=
  let b := d.boot
  let d := { d with boot := { b with
    lastFail := (d.pwr.tick % 2 ^ 64) * 2 ^ 64 + error * 2 ^ 16 + b.count * 2 ^ 8 + b.stage } }
  d.warmReset cause

end Sys2Proof.Machine
end

