-- ==== Sys2Proof/Machine/Power.lean ====
section
/-! DEFINITION. Inputs, rails, pins and the reset pin (chapter 02; R71, R84; R402 to R404). -/

namespace Sys2Proof.Machine

/-- Ticks passed since a stamp. -/
def Dev.since (d : Dev) (t : Nat) : Nat := d.pwr.tick - t

/-- A period has passed since the last time, or there has been none. -/
def Dev.due (d : Dev) (last : Option Nat) (period : Nat) : Bool := last.all (fun t => Nat.ble period (d.since t))

/-- Inrush-limited charging begins when the input may start the rails (R25, R27, Table 2.7). -/
def Dev.startCharge (d : Dev) : Dev :=
  let p := d.pwr
  if p.v54 && p.pwrEn && !p.thermalLatch && !p.ocLatch && !p.overvolt && !p.charged then
    { d with pwr := { p with charging := true } }
  else d

/-- 54 V rises through the rising threshold (R25, R26, R402). -/
def execInput54vPresent (s : State) : Host.Outcome State Fault Refusal :=
  onDev (fun d => ({ d with pwr := { d.pwr with v54 := true } }).startCharge) s

/-- 54 V stays below the falling threshold (R28, R402): with AUX present the turn-off decision; without it the AON supply
is lost with the rails, and an attempt of a boot stays counted (R92). -/
def execInput54vUndervoltage (s : State) : Host.Outcome State Fault Refusal :=
  onDev (fun d =>
    if d.pwr.v54 then
      let d := if d.pwr.aux then d.turnOff .input
        else if d.live then { d with pwr := { d.pwr with falling := true, lastOff := .input } }
        else d
      ({ d with pwr := { d.pwr with
        v54 := false, v54Tick := d.pwr.tick, charging := false, charged := false } }).aonCheck
    else d) s

/-- Clear the trip latches (R36, Table 2.4). -/
def Dev.clearLatches (d : Dev) : Dev := { d with pwr := { d.pwr with thermalLatch := false, ocLatch := false } }

/-- 54 V has stayed absent for 10 ms: it counts as removed, and the latches clear (R36, R402). -/
def execInput54vRemoved (s : State) : Host.Outcome State Fault Refusal :=
  onDev (fun d => if !d.pwr.v54 && Nat.ble 250000 (d.since d.pwr.v54Tick) then d.clearLatches else d) s

/-- The overvoltage threshold is crossed (R28, R403). -/
def execInputOvervoltage (s : State) : Host.Outcome State Fault Refusal :=
  onDev (fun d =>
    let d := d.turnOff .input
    { d with pwr := { d.pwr with overvolt := true, charging := false } }) s

/-- The input falls below 59.5 V: the rails may start again (Table 2.4). -/
def execInputOvervoltageClear (s : State) : Host.Outcome State Fault Refusal :=
  onDev (fun d => ({ d with pwr := { d.pwr with overvolt := false } }).startCharge) s

/-- The overcurrent threshold is exceeded for 1 ms: rails off, latched (Table 2.4, R403), also while the regulators
start or the rails fall; a start that it ends counts as turned off by it (R404, log 94). -/
def execOvercurrentTrip (s : State) : Host.Outcome State Fault Refusal :=
  onDev (fun d =>
    if d.pwr.aon then
      let starting := !d.pwr.rails && d.pwr.pwrEn && d.pwr.charged
      let d := d.turnOff .overcurrent
      { d with pwr := { d.pwr with
        ocLatch := true, charging := false, lastOff := if starting then .overcurrent else d.pwr.lastOff } }
    else d) s

/-- 3V3_AUX becomes present (R26, R402). -/
def execAuxPresent (s : State) : Host.Outcome State Fault Refusal :=
  onDev (fun d => { d with pwr := { d.pwr with aux := true } }) s

/-- 3V3_AUX becomes absent (R26, R402). -/
def execAuxAbsent (s : State) : Host.Outcome State Fault Refusal :=
  onDev (fun d => ({ d with pwr := { d.pwr with aux := false } }).aonCheck) s

/-- The AON supply returns (R24, R73): the tick counter restarts, the straps are sampled, the count comes back from
its flash mirror, AON-kept objects take their defaults; the test logic is reset (R42). -/
def execColdReset (straps : Straps) (s : State) : Host.Outcome State Fault Refusal :=
  onDev (fun d =>
    if !d.pwr.aon && (d.pwr.v54 || d.pwr.aux) then
      let d := { d with
        pwr := { d.pwr with aon := true, tick := 0, straps := straps, coldBoot := true }
        boot := { d.boot with count := d.boot.mirror, rstCause := 0, rstTick := 0, rstWarm := 0 }
        jtag := {} }
      d.startCharge
    else d) s

/-- PWR_EN rises (R25). -/
def execPwrEnHigh (s : State) : Host.Outcome State Fault Refusal :=
  onDev (fun d => ({ d with pwr := { d.pwr with pwrEn := true } }).startCharge) s

/-- PWR_EN falls: the main rails turn off (R37, R403). -/
def execPwrEnLow (s : State) : Host.Outcome State Fault Refusal :=
  onDev (fun d =>
    if d.pwr.pwrEn then
      let d := d.turnOff .pwrEn
      { d with pwr := { d.pwr with pwrEn := false, pwrEnTick := d.pwr.tick, charging := false } }
    else d) s

/-- PWR_EN has been low for 10 ms: the latches clear (R36, Table 2.4). -/
def execTripLatchClear (s : State) : Host.Outcome State Fault Refusal :=
  onDev (fun d => if !d.pwr.pwrEn && Nat.ble 250000 (d.since d.pwr.pwrEnTick) then d.clearLatches else d) s

/-- The bulk capacitance is charged (R27). -/
def execBulkChargeDone (s : State) : Host.Outcome State Fault Refusal :=
  onDev (fun d => if d.pwr.charging then { d with pwr := { d.pwr with charging := false, charged := true } } else d) s

/-- The rails may start (R25, R27, R71, Table 2.4). -/
def Dev.mayStart (d : Dev) : Bool :=
  let p := d.pwr
  p.aon && p.v54 && p.pwrEn && p.charged && !p.overvolt && !p.thermalLatch && !p.ocLatch && !p.waitCool && !p.rails

/-- Debounce machines and limits of the thermal monitor begin again at a rail start (R71). -/
def Dev.thermRestart (d : Dev) : Dev :=
  ({ d with therm := { d.therm with
      dies := d.therm.dies.mapVal (fun e => { sample := e.sample, blind := e.blind, edges := e.edges }) } }).boardClear 0x42

/-- All main rails are in regulation (R25): MOD_PWR_OK is released, THERMTRIP_N too (R36), and the boot starts: part
of the cold reset when it is the first (R73), otherwise a warm reset with the cause of the last turn-off (R404). -/
def execMainRailsInRegulation (s : State) : Host.Outcome State Fault Refusal :=
  onDev (fun d =>
    if d.mayStart then
      let p := d.pwr
      let first := p.coldBoot
      let d := ({ d with pwr := { p with
        rails := true, falling := false, modPwrOk := true, okTick := p.tick, thermtrip := false, coldBoot := false,
        linkReset := true, perstHeld := !p.perst } }).thermRestart
      if first then d.coldBoot else d.warmReset p.lastOff.cause
    else d) s

/-- The rails fall within 1 ms of the decision (R403, step 2). -/
def execMainRailsFall (s : State) : Host.Outcome State Fault Refusal :=
  onDev (fun d =>
    if d.pwr.falling then { d with pwr := { d.pwr with rails := false, falling := false, linkReset := true } } else d) s

/-- PERST_N is asserted (R35, R92, R404): a warm reset while the module runs; the host link is held in reset. An
assertion after a deassertion that came too early to take effect (R34) is one too (log 94). -/
def execPerstAssert (s : State) : Host.Outcome State Fault Refusal :=
  onDev (fun d =>
    if d.pwr.perst then d
    else
      let d := { d with pwr := { d.pwr with perst := true, linkReset := true, perstHeld := false } }
      if d.live then d.restoreCount.warmReset 2 else d) s

/-- The host link leaves reset now: the instant that R84 counts from. -/
def Dev.linkStart (d : Dev) : Dev :=
  { d with pwr := { d.pwr with linkReset := false, perstHeld := false, perstTick := d.pwr.tick } }

/-- EXTEST, HIGHZ and CLAMP end when PERST_N deasserts (R44). -/
def Jtag.endTest (j : Jtag) : Jtag :=
  match j.eff with
  | .extest | .highz | .clamp => { j with ir := 0xFF, eff := .bypass }
  | _ => j

/-- PERST_N is deasserted (R34, R44, R84): the link leaves reset, at the earliest 100 ms after MOD_PWR_OK. -/
def execPerstDeassert (s : State) : Host.Outcome State Fault Refusal :=
  onDev (fun d =>
    if d.pwr.perst then
      let d := { d with pwr := { d.pwr with perst := false }, jtag := d.jtag.endTest }
      if d.live && Nat.ble 2500000 (d.since d.pwr.okTick) then d.linkStart
      else { d with pwr := { d.pwr with perstHeld := true } }
    else d) s

/-- 100 ms after MOD_PWR_OK: an early deassertion takes effect (R34). -/
def execPerstHoldExpiry (s : State) : Host.Outcome State Fault Refusal :=
  onDev (fun d =>
    if d.live && d.pwr.perstHeld && !d.pwr.perst && Nat.ble 2500000 (d.since d.pwr.okTick) then d.linkStart else d) s

/-- The host link trains (R84, R87, R126, R128, R129): in Beyby mode Gen1 x1 with no CXL (Table 4.4); with HOST_SEL 1
no CXL; without K0 not at all (R96). -/
def execHostLinkTrained (gen : Fin 7) (lanes : Fin 17) (cxl : CxlMode) (s : State) :
    Host.Outcome State Fault Refusal :=
  onDev (fun d =>
    let b := d.boot
    if d.live && !d.pwr.linkReset && bitAt b.fuses 272 && gen.val != 0 && [1, 2, 4, 8, 16].contains lanes.val then
      if b.beyby then { d with boot := { b with pcieGen := 1, pcieLanes := 1, cxl := 0 } }
      else
        let c := if d.pwr.straps.hostSel then 0 else
          match cxl with
          | .none => 0
          | .flit68 => 1
          | .flit256 => 2
        { d with boot := { b with
          pcieGen := gen.val, pcieLanes := lanes.val, cxl := c
          memActive := b.memActive || (b.complete && c != 0) } }
    else d) s

/-- Open configuration space (R84); LNK_RRS_TICKS counts from the deassertion of PERST_N. -/
def Dev.openCfg (d : Dev) : Dev :=
  if d.boot.cfgOpen then d
  else { d with boot := { d.boot with
    cfgOpen := true, rrsTicks := Nat.min (d.since d.pwr.perstTick) (2 ^ 32 - 1) } }

/-- 1.0 s after the deassertion of PERST_N configuration space opens (R84); in Beyby mode within 50 ms (Table 4.4). -/
def execConfigOpenTimeout (s : State) : Host.Outcome State Fault Refusal :=
  onDev (fun d =>
    if d.live && d.boot.running && !d.pwr.linkReset &&
        (d.boot.beyby || Nat.ble 25000000 (d.since d.pwr.perstTick)) then d.openCfg
    else d) s

end Sys2Proof.Machine
end

