-- ==== Sys2Proof/Machine/Thermal.lean ====
section
/-! DEFINITION. Thermal monitor, clocks and power capping, sleep and wake (chapter 03). -/

namespace Sys2Proof.Machine

/-- Number of a die: hub 0, C0 to C3 1 to 4 (THM_DIE_TEMP). -/
def dieNum : Die → Nat
  | .hub => 0
  | .chip c => c.val + 1

/-! ### Debounce (R65) -/

/-- One step of a debounce machine for threshold `t`, in 1/16 degree; the outputs say assert and release. -/
def Debounce.step (m : Debounce) (t v : Int) : Debounce × Bool × Bool :=
  let high := decide (t ≤ v)
  let low := decide (v ≤ t - 48)
  if !m.asserted then
    let c := if high then m.count + 1 else if low then m.count - 1 else m.count
    if c = 8 then ({ count := 0, asserted := true }, true, false) else ({ m with count := c }, false, false)
  else
    let c := if low then m.count + 1 else if high then m.count - 1 else m.count
    if c = 8 then ({ count := 0, asserted := false }, false, true) else ({ m with count := c }, false, false)

/-! ### Limits (R57, Table 3.5) -/

/-- Lowest clock, step, first thermal limit and top of the range of a die, MHz. -/
def dieFloor (n : Nat) : Nat := if n = 0 then 800 else 400
def dieStep (n : Nat) : Nat := if n = 0 then 100 else 50
def dieTop (n : Nat) : Nat := if n = 0 then 3200 else 2000
def Dev.throttleStart (d : Dev) (n : Nat) : Nat := if n = 0 then 2400 else d.obj 0x2034 1 0

/-- THM_DIE_STATE (R64, R67): 0 NORMAL, 1 THROTTLE, 2 CRITICAL. -/
def DieTherm.state (t : DieTherm) : Nat :=
  if t.blind || t.m105.asserted || t.m115.asserted then 2 else if t.m95.asserted then 1 else 0

/-- The thermal limit of a die, none at the top of the range (Table 3.5). -/
def DieTherm.limitNow (t : DieTherm) (n : Nat) : Option Nat :=
  if t.state = 2 then some (dieFloor n) else t.limit

/-- The three limits of a chiplet's clock, or of the host cores (R57): thermal, power, operator. -/
def Dev.limits (d : Dev) (n : Nat) : Nat × Nat × Nat :=
  let th := ((d.die n).limitNow n).getD (dieTop n)
  if n = 0 then (th, d.clk.hubPower, d.obj 0x2002 2 0) else (th, d.clk.capLimit, d.obj 0x2002 1 0)

/-- The frequency a clock moves to: the lowest limit, rounded down to a step (R57). -/
def Dev.target (d : Dev) (n : Nat) : Nat :=
  let (a, b, c) := d.limits n
  Nat.min a (Nat.min b c) / dieStep n * dieStep n

/-- CLK_FAB_LIMITER of a chiplet (R57): 0 OPERATOR, 1 POWER, 2 THERMAL, 3 GUARD. -/
def Dev.limiter (d : Dev) (c : Nat) : Nat :=
  if d.clk.guardOn then 3
  else
    let (t, p, o) := d.limits (c + 1)
    let l := Nat.min t (Nat.min p o)
    if t = l then 2 else if p = l then 1 else 0

/-! ### Scout refit (R315) -/

/-- A FITTED array whose chiplet has drifted from the sample at its last fit returns to EXACT_ONLY, and its sweep
falls due. -/
def Dev.refit (d : Dev) (c : Nat) (v : Int) : Dev :=
  (List.range 32).foldl (fun d i =>
    let k := c * 32 + i
    let a := d.array k
    if a.st == .fitted && Nat.ble (d.obj 0x7813 0 0) (v - a.fitSample).natAbs then
      d.setArray k { a with st := .exactOnly, due := true }
    else d) d

/-! ### Samples (R63 to R70) -/

/-- A valid reading (R63): −40 °C to 150 °C, in 1/16 degree. -/
def validReading (r : Option Int) : Option Int :=
  match r with
  | some v => if -640 ≤ v ∧ v ≤ 2400 then some v else none
  | none => none

/-- The sensors of a die as bits of THM_SENSOR_FAULT (Table 3.6), with those of enabled HBM stacks (R63). -/
def Dev.sensorsOf (d : Dev) (n : Nat) : List Nat :=
  if n = 0 then List.range 8
  else
    let c := n - 1
    (List.range 16).map (fun i => 8 + 16 * c + i) ++
      ([2 * c, 2 * c + 1].filter (fun h => d.has (256 + h))).map (fun h => 72 + h)

/-- A die that the monitor samples: the hub, and a chiplet that is powered and not disabled (log 7). -/
def Dev.sampled (d : Dev) (n : Nat) : Bool :=
  d.live && (n == 0 || (!d.boot.beyby && (Nat.ble d.boot.stage 5 || d.has (263 + n))))

/-- Mark sensor faults: a sensor that turns invalid raises THERM_SENSOR once (R63, R64). -/
def Dev.sensorFaults (d : Dev) (rs : List (Option Int)) (sensors : List Nat) (cls : Nat) : Dev :=
  sensors.foldl (fun (d : Dev) b =>
    let r := rs.getD b none
    let was := bitAt d.therm.faultBits b
    let now := (validReading r).isNone
    let d := { d with therm := { d.therm with faultBits := putBit d.therm.faultBits b now } }
    if now && !was then
      let (v, d) := match r with
        | some v => (unsigned v 64, d)
        | none => d.freeBelow (2 ^ 64)
      d.report { code := 0x40, cls := some cls, source := 0x87, detail := v + b * 2 ^ 64 }
    else d) d

/-- THERM_SENSOR is pending while some die has no valid sensor (R64). -/
def Dev.blindCheck (d : Dev) : Dev :=
  if d.therm.dies.any (fun e => e.2.blind) then
    { d with err := { d.err with board := if d.err.board.contains 0x40 then d.err.board else d.err.board ++ [0x40] } }
  else d.boardClear 0x40

/-- THERM_CRITICAL is pending while the 105 degree threshold of some die is asserted (R65, Table 3.5). -/
def Dev.criticalCheck (d : Dev) : Dev :=
  if d.therm.dies.any (fun e => e.2.m105.asserted) then d else d.boardClear 0x42

/-- Hold the thermal state of a die. -/
def Dev.setDie (d : Dev) (n : Nat) (t : DieTherm) : Dev := { d with therm := { d.therm with dies := d.therm.dies.put n t } }

/-- The windows and limit of a die as its 95 degree threshold asserts or releases (Table 3.5). -/
def Dev.throttleEdge (d : Dev) (n : Nat) (t : DieTherm) (asserts releases : Bool) (v : Int) : DieTherm :=
  if asserts then
    let l := match t.limit with
      | some l => Nat.min (d.throttleStart n) l
      | none => d.throttleStart n
    { t with limit := some l, winOn := true, winStart := d.pwr.tick, winHigh := false, winLow := false }
  else if releases then { t with winOn := true, winStart := d.pwr.tick, winHigh := false, winLow := false }
  else { t with winHigh := t.winHigh || decide (1520 ≤ v), winLow := t.winLow || decide (v ≤ 1520 - 48) }

/-- Stamp the assertions and releases of a threshold in ticks (R66): `k` is 1, 2 or 3. -/
def DieTherm.stampEdge (t : DieTherm) (k tick : Nat) (asserts releases : Bool) : DieTherm :=
  let t := if asserts then { t with edges := t.edges.put k tick } else t
  if releases then { t with edges := t.edges.put (k + 3) tick } else t

/-- Count the assertions and releases of a threshold (R66): `k` is 1, 2 or 3. -/
def Dev.countEdge (d : Dev) (k : Nat) (asserts releases : Bool) : Dev :=
  let d := if asserts then d.bump 0x2033 k 0 32 else d
  if releases then d.bump 0x2033 (k + 3) 0 32 else d

/-- THM_PEAK_TEMP keeps the highest die sample (Table 3.6). -/
def Dev.peak (d : Dev) (n : Nat) (v : Int) : Dev :=
  match KMap.find d.dict (okey 0x2032 (n + 1) 0) with
  | some old => if signed old 16 < v then d.setObj 0x2032 (n + 1) 0 (unsigned v 16) else d
  | none => d.setObj 0x2032 (n + 1) 0 (unsigned v 16)

/-- The thermal trip (R36, R69, R70): THM_LAST_TRIP is recorded, THERMTRIP_N asserted, the trip latched, the rails
turn off. -/
def Dev.thermalTrip (d : Dev) (n : Nat) (v : Int) : Dev :=
  let d := { d with boot := { d.boot with
    lastTrip := (d.pwr.tick % 2 ^ 64) * 2 ^ 64 + n * 2 ^ 8 + unsigned v 16 * 2 ^ 128 } }
  let d := d.turnOff .thermal
  { d with pwr := { d.pwr with thermtrip := true, thermalLatch := true, waitCool := true } }

/-- One die's part of a sample (R63 to R67); the trip of R69 follows when every die has its sample. -/
def Dev.sampleDie (d : Dev) (rs : List (Option Int)) (n : Nat) : Dev :=
  if !d.sampled n then d
  else
    let sensors := d.sensorsOf n
    let vs := sensors.filterMap (fun b => validReading (rs.getD b none))
    let d := d.sensorFaults rs sensors (if vs.isEmpty then 5 else 1)
    match vs.max? with
    | none => d.setDie n { d.die n with blind := true }
    | some v =>
      let t := d.die n
      let (m95, a1, r1) := t.m95.step 1520 v
      let (m105, a2, r2) := t.m105.step 1680 v
      let (m115, a3, r3) := t.m115.step 1840 v
      let t := d.throttleEdge n { t with sample := v, blind := false, m95 := m95, m105 := m105, m115 := m115 } a1 r1 v
      let now := d.pwr.tick
      let t := ((t.stampEdge 1 now a1 r1).stampEdge 2 now a2 r2).stampEdge 3 now a3 r3
      let d := (d.setDie n t).peak n v
      let d := ((d.countEdge 1 a1 r1).countEdge 2 a2 r2).countEdge 3 a3 r3
      let d := if a1 then d.report { code := 0x41, source := 0x87, detail := unsigned v 64 } else d
      let d := if a2 then d.boardSet { code := 0x42, source := 0x87, detail := unsigned v 64 } else d
      if n = 0 then d else d.refit (n - 1) v

/-- The dies whose SHUTDOWN machine has asserted since a given state of the monitor. -/
def Dev.tripped (d0 d : Dev) : List Nat :=
  (List.range 5).filter (fun n => !(d0.die n).m115.asserted && (d.die n).m115.asserted)

/-- A millisecond has passed since the last sample (R63). -/
def Dev.sampleDue (d : Dev) : Bool := d.due d.therm.lastSample 25000

/-- A sample of every sensor (R63): the five dies while the main rails are on, and the AON sensor; then the trip (R69).
Of several dies that assert SHUTDOWN in one sample, THM_LAST_TRIP names the first (log 95). -/
def execThermalSample (readings : List (Option Int)) (s : State) : Host.Outcome State Fault Refusal :=
  onDev (fun d =>
    if d.pwr.aon && d.sampleDue then
      let d := d.sensorFaults readings [80] 1
      let d := { d with therm := { d.therm with aon := validReading (readings.getD 80 none), lastSample := some d.pwr.tick } }
      let e := ((List.range 5).foldl (fun (d : Dev) n => d.sampleDie readings n) d).blindCheck.criticalCheck
      match (d.tripped e).head? with
      | some n => e.thermalTrip n (e.die n).sample
      | none => e
    else d) s

/-- 50 ms: the end of a throttling window (Table 3.5). -/
def execThrottleWindowEnd (die : Die) (s : State) : Host.Outcome State Fault Refusal :=
  onDev (fun d =>
    let n := dieNum die
    let t := d.die n
    if t.winOn && Nat.ble 1250000 (d.since t.winStart) then
      let next := { t with winStart := t.winStart + 1250000, winHigh := false, winLow := false }
      match t.limit with
      | none => d.setDie n { next with winOn := false }
      | some l =>
        if t.m95.asserted then
          d.setDie n { next with
            limit := some (if t.winHigh && !t.winLow then Nat.max (dieFloor n) (l - dieStep n) else l) }
        else if dieTop n ≤ l + dieStep n then d.setDie n { next with limit := none, winOn := false }
        else d.setDie n { next with limit := some (l + dieStep n) }
    else d) s

/-- The AON sensor reads 112 °C or less after a thermal trip whose latch has cleared: the wait ends (R71). -/
def execTrippedRestart (aon : Option Int) (s : State) : Host.Outcome State Fault Refusal :=
  onDev (fun d =>
    if d.pwr.aon && d.pwr.waitCool && !d.pwr.thermalLatch then
      let d := { d with therm := { d.therm with aon := validReading aon } }
      match validReading aon with
      | some v => if v ≤ 1792 then ({ d with pwr := { d.pwr with waitCool := false } }).startCharge else d
      | none => d
    else d) s

/-! ### Clock steps and power loops -/

/-- A clock one step nearer its target (R57, R58). -/
def stepClock (now target step : Nat) : Nat :=
  if target < now then Nat.max target (now - step)
  else if now < target then Nat.min target (now + step)
  else now

/-- The rising steps of a clock within the last millisecond. -/
def Dev.recentRises (d : Dev) (n : Nat) : List Nat := (d.clk.rises.get n []).filter (fun t => decide (d.since t < 25000))

/-- A clock's next value (R57): a rise waits while the steps of the last millisecond amount to 200 MHz. -/
def Dev.nextClock (d : Dev) (n now : Nat) : Nat :=
  let next := stepClock now (d.target n) (dieStep n)
  if now < next && decide (200 < ((d.recentRises n).length + 1) * dieStep n) then now else next

/-- One step of the hub clock or of a chiplet's fabric clock (R57, R58). -/
def Dev.stepDom (d : Dev) (n now : Nat) : Nat × Dev :=
  let next := d.nextClock n now
  (next, if now < next then
      { d with clk := { d.clk with rises := d.clk.rises.put n (d.recentRises n ++ [d.pwr.tick]) } }
    else d)

/-- FREQ_STEP. -/
def execFreqStep (dom : ClkDom) (s : State) : Host.Outcome State Fault Refusal :=
  onDev (fun d =>
    if d.live then
      match dom with
      | .hub =>
        let (f, d) := d.stepDom 0 d.clk.hub
        { d with clk := { d.clk with hub := f } }
      | .fab c =>
        let (f, d) := d.stepDom (c.val + 1) (d.fabMhz c.val)
        { d with clk := { d.clk with fab := d.clk.fab.put c.val f } }
    else d) s

/-- A stretch longer than 100 µs is counted once and reported (R62). -/
def Dev.guardCount (d : Dev) (mw : Nat) : Dev :=
  if d.clk.guardOn && !d.clk.guardCounted && decide (2500 < d.since d.clk.guardSince) then
    (({ d with clk := { d.clk with guardCounted := true } }).bump 0x2020 7 0 32).report
      { code := 0x43, source := 0x87, detail := mw }
  else d

/-- A 1 µs period, 25 ticks, of the fast guard and of the excursion timer's watch (Table 3.4, R62). -/
def execFastGuardPeriod (estMw : BitVec 32) (s : State) : Host.Outcome State Fault Refusal :=
  onDev (fun d =>
    if d.live && d.due d.clk.lastGuard 25 then
      let p := estMw.toNat
      let above := decide (d.obj 0x2020 1 0 * 1000 < p)
      let d := { d with clk := { d.clk with
        lastGuard := some d.pwr.tick, overCap := if above then some (d.clk.overCap.getD d.pwr.tick) else none } }
      if !d.clk.guardOn && decide (1480000 < p) then
        { d with clk := { d.clk with guardOn := true, guardSince := d.pwr.tick, guardCounted := false } }
      else
        let d := d.guardCount p
        if d.clk.guardOn && decide (p < 1400000) then { d with clk := { d.clk with guardOn := false } } else d
    else d) s

/-- 8 ms above PWR_CAP_W without a break (Table 3.4, R62). -/
def execExcursionTimerExpiry (s : State) : Host.Outcome State Fault Refusal :=
  onDev (fun d =>
    match d.clk.overCap with
    | some t =>
      if d.live && Nat.ble 200000 (d.since t) then
        (({ d with clk := { d.clk with capLimit := 400, hubPower := 800, overCap := none } }).bump 0x2020 6 0 32).report
          { code := 0x43, source := 0x87, detail := d.clk.means.inMw.toNat }
      else d
    | none => d) s

/-- A 1 ms period of the average loop with the period's telemetry (Table 3.4, R57): the power-cap limit moves one
step against the 100 ms mean, the hub power limit only up. -/
def execAverageLoopPeriod (means : PowerMeans) (s : State) : Host.Outcome State Fault Refusal :=
  onDev (fun d =>
    if d.pwr.aon && d.due d.clk.lastLoop 25000 then
      let d := { d with clk := { d.clk with means := means, lastLoop := some d.pwr.tick } }
      if d.live then
        let c := d.clk
        if means.avg100Mw.toNat ≤ d.obj 0x2020 1 0 * 1000 then
          { d with clk := { c with
            capLimit := Nat.min 2000 (c.capLimit + 50), hubPower := Nat.min 3200 (c.hubPower + 100) } }
        else { d with clk := { c with capLimit := Nat.max 400 (c.capLimit - 50) } }
      else d
    else d) s

/-! ### Sleep and wake (R52 to R54, R169) -/

/-- A chiplet leaves C-LOW. -/
def Dev.wakeChip (d : Dev) (c : Nat) : Dev :=
  { d with clk := { d.clk with chipLow := d.clk.chipLow.drop c, chipScrub := d.clk.chipScrub.drop c } }

/-- The chiplets of the arrays that an operation needs wake before it is issued (R54, R56). -/
def Dev.wakeArrays (d : Dev) (arrays : List Nat) : Dev :=
  ((List.range 4).filter (fun c => arrays.any (fun a => a / 32 == c))).foldl Dev.wakeChip d

/-- Work addressed to a tile wakes it and its chiplet (R54); a tile that a scrub pass woke is awake from now on. -/
def Dev.wakeTile (d : Dev) (t : Nat) : Dev :=
  (d.wakeChip (t / 32)).updTile t (fun x =>
    if x.power == .sleep || x.scrubWoke then { x with power := .idle, idleSince := d.pwr.tick, scrubWoke := false } else x)

/-- A tile whose sequencer holds no program is in T-IDLE (R52). -/
def Dev.idleTile (d : Dev) (t : Nat) : Dev :=
  d.updTile t (fun x => { x with power := .idle, idleSince := d.pwr.tick })

/-- Enabled tiles of a chiplet. -/
def Dev.tilesOf (d : Dev) (c : Nat) : List Nat := ((List.range 32).map (fun i => c * 32 + i)).filter d.tileOn

/-- A scrub pass wakes a sleeping tile, and its chiplet, with no effect on the dwell timers (R229). -/
def Dev.scrubWake (d : Dev) (t : Nat) : Dev :=
  if (d.tile t).power != .sleep then d
  else
    let c := t / 32
    let d := d.updTile t (fun x => { x with power := .idle, scrubWoke := true })
    if d.clk.chipLow.get c false then
      { d with clk := { d.clk with chipLow := d.clk.chipLow.drop c, chipScrub := d.clk.chipScrub.put c true } }
    else d

/-- At the end of the pass the tile returns to T-SLEEP and the chiplet to C-LOW, unless work has arrived (R229). -/
def Dev.scrubSleep (d : Dev) (t : Nat) : Dev :=
  let x := d.tile t
  let c := t / 32
  if x.scrubWoke && x.power == .idle && x.job.isNone then
    let d := d.setTile t { x with power := .sleep, scrubWoke := false, uTlb := [] }
    if d.clk.chipScrub.get c false && (d.tilesOf c).all (fun i => (d.tile i).power == .sleep) then
      { d with
        clk := { d.clk with chipLow := d.clk.chipLow.put c true, chipScrub := d.clk.chipScrub.drop c }
        stu := { d.stu with chipTlb := d.stu.chipTlb.drop c } }
    else d
  else d.updTile t (fun x => { x with scrubWoke := false })

/-- A tile counts as out of T-SLEEP (R53): a scrub pass that wakes it has no effect on the number (R229). -/
def Dev.isAwake (d : Dev) (t : Nat) : Bool := d.tileOk t && (d.tile t).power != .sleep && !(d.tile t).scrubWoke

/-- Tiles that can be woken to keep a number awake. -/
def Dev.canWake (d : Dev) (t : Nat) : Bool := d.tileOk t && !d.isAwake t

/-- PWR_AWAKE_TILES of each chiplet are out of T-SLEEP (R53): tiles wake until they are. -/
def Dev.wakeAwake (d : Dev) : Dev :=
  (List.range 4).foldl (fun (d : Dev) c =>
    let l := d.tilesOf c
    ((l.filter d.canWake).take (d.obj 0x2010 3 0 - (l.filter d.isAwake).length)).foldl Dev.wakeTile d) d

/-- The jobs of a ring that are fetched and not posted. -/
def Dev.ringJobs (d : Dev) (k : Nat) : List (Nat × Job) := d.jobs.filter (fun e => e.2.ring == k)

/-- Tiles that a class-0 ring still has reserved beyond those its jobs hold (R147). -/
def Dev.reserveLeft (d : Dev) (k : Nat) : Nat :=
  if d.obj 0x3015 (k + 1) 0 = 0 then
    d.obj 0x301D (k + 1) 0 - (d.ringJobs k).foldl (fun n e => n + e.2.tiles.length) 0
  else 0

/-- Tiles that the class-0 rings hold in T-IDLE for their jobs (R147). -/
def Dev.reservedTiles (d : Dev) : Nat := (List.range 64).foldl (fun n k => n + d.reserveLeft k) 0

/-- Tiles that no job holds and that are in T-IDLE. -/
def Dev.idleFree (d : Dev) : List Nat :=
  (List.range 128).filter (fun t => d.isAwake t && (d.tile t).job.isNone && (d.tile t).power == .idle)

/-- The tiles that R53 and R147 keep awake are awake. -/
def Dev.keepAwake (d : Dev) : Dev :=
  let d := d.wakeAwake
  (((List.range 128).filter (fun t => d.canWake t && (d.tile t).job.isNone)).take
    (d.reservedTiles - d.idleFree.length)).foldl Dev.wakeTile d

/-- A tile has been in T-IDLE for the dwell: T-SLEEP, unless R53 or R147 keeps it awake, a scrub pass holds it in T-IDLE
(R228) or it is being cleared; its micro-TLB empties (R169). -/
def execTileSleepDwellExpiry (t : TileId) (s : State) : Host.Outcome State Fault Refusal :=
  onDev (fun d =>
    let x := d.tile t.val
    let dwell := d.obj 0x2010 1 0
    if d.isAwake t.val && x.power == .idle && !x.scrubOn && !x.clearing && dwell != 0xFFFFFFFF &&
        Nat.ble dwell (d.since (Nat.max x.idleSince d.boot.start)) &&
        decide (d.obj 0x2010 3 0 < ((d.tilesOf (t.val / 32)).filter d.isAwake).length) &&
        (x.job.isSome || decide (d.reservedTiles < d.idleFree.length)) then
      d.setTile t.val { x with power := .sleep, idleSince := d.pwr.tick, uTlb := [] }
    else d) s

/-- An operation on an array of the chiplet is in flight: a query of its tiles' spans, a load, a sweep, a clear (R52). -/
def Dev.arraysBusy (d : Dev) (c : Nat) : Bool :=
  let on := fun (a : Nat) => a / 32 == c
  d.scout.arrays.any (fun e => on e.1 && (e.2.sweeping || e.2.clearing0 || e.2.clearing1)) ||
  d.scout.spans.any (fun sp => sp.slots.any (fun x => on x.1) &&
    ((sp.bank0.any (fun l => l.loading.isSome)) || (sp.bank1.any (fun l => l.loading.isSome)) ||
     d.tiles.any (fun t => t.2.query.any (fun q => q.seq == sp.seq && q.tenant == sp.tenant))))

/-- The tick from which every enabled tile of a chiplet has been in T-SLEEP without a break; a write of the dwell starts it
again (Table 3.6). -/
def Dev.chipSince (d : Dev) (c : Nat) : Nat :=
  (d.tilesOf c).foldl (fun n i => Nat.max n (d.tile i).idleSince) (Nat.max d.boot.start (d.clk.chipIdleSince.get c 0))

/-- Every enabled tile of a chiplet has slept for the dwell: C-LOW; its TLB empties (R52, R169). -/
def execChipLowDwellExpiry (c : ChipId) (s : State) : Host.Outcome State Fault Refusal :=
  onDev (fun d =>
    let dwell := d.obj 0x2010 2 0
    if d.live && d.has (264 + c.val) && dwell != 0xFFFFFFFF && Nat.ble dwell (d.since (d.chipSince c.val)) &&
        (d.tilesOf c.val).all (fun i => (d.tile i).power == .sleep) && !d.arraysBusy c.val then
      { d with
        clk := { d.clk with chipLow := d.clk.chipLow.put c.val true }
        stu := { d.stu with chipTlb := d.stu.chipTlb.drop c.val } }
    else d) s

/-- A unit has woken (R53, R54). -/
def execUnitWakeDone (u : WakeUnit) (s : State) : Host.Outcome State Fault Refusal :=
  onDev (fun d =>
    match u with
    | .tile t => d.wakeTile t.val
    | .chip c => d.wakeChip c.val) s

end Sys2Proof.Machine
end

