-- ==== Sys2Proof/Machine/BootSeq.lean ====
section
/-! DEFINITION. The boot sequence, boot-failure counting, Beyby mode and floor sweeping (R79 to R97, R184, R189, R313). -/

namespace Sys2Proof.Machine

/-- A boot runs and stands in stage `n`; without K0 no stage runs (R96). -/
def Dev.inStage (d : Dev) (n : Nat) : Bool :=
  d.live && d.boot.running && !d.boot.beyby && !d.boot.complete && d.boot.stage == n && bitAt d.boot.fuses 272

/-- The duration of the stage that ends now (BOOT_STAGE_TICKS). -/
def Dev.stampStage (d : Dev) : Dev :=
  let b := d.boot
  { d with boot := { b with
    stageTicks := b.stageTicks.put b.stage (Nat.min (d.since b.stageStart) (2 ^ 32 - 1)), stageStart := d.pwr.tick } }

/-- A stage ends and the next begins (Table 4.2). -/
def Dev.nextStage (d : Dev) : Dev :=
  let d := d.stampStage
  { d with boot := { d.boot with stage := d.boot.stage + 1 } }

/-- Enter Beyby mode with a cause (R93): a trained link falls back to Gen1 x1 without CXL (Table 4.4). -/
def Dev.enterBeyby (d : Dev) (cause : Nat) : Dev :=
  let d := d.stampStage
  { d with boot := { d.boot with
    beyby := true, cause := cause, stage := 9, pcieGen := Nat.min d.boot.pcieGen 1, pcieLanes := Nat.min d.boot.pcieLanes 1
    cxl := 0 } }

/-- Stage 0 (R91). -/
def execBootStageRom (s : State) : Host.Outcome State Fault Refusal :=
  onDev (fun d =>
    if d.inStage 0 then
      let b := d.boot
      if d.pwr.straps.bootSafe then d.enterBeyby 1
      else if b.beybyReq then d.enterBeyby 2
      else if 3 ≤ b.count then d.enterBeyby 3
      else
        ({ d with boot := { b with
          prior := b.count, count := b.count + 1, mirror := b.count + 1, attempt := true } }).nextStage
    else d) s

/-- Stage 1 (R82): the preferred slot, then the other; with neither, Beyby mode, and no boot failure is counted. -/
def execBootStageFw (s : State) : Host.Outcome State Fault Refusal :=
  onDev (fun d =>
    if d.inStage 1 then
      let b := d.boot
      let prefer := d.obj 0x1F30 2 0
      let ok := fun (n : Nat) => if n = 0 then b.slotA.valid else b.slotB.valid
      if ok prefer then ({ d with boot := { b with slot := prefer } }).nextStage
      else if ok (1 - prefer) then ({ d with boot := { b with slot := 1 - prefer } }).nextStage
      else d.restoreCount.enterBeyby 4
    else d) s

/-- Stage 2 (R85, R120): the dictionary server takes the management port over, and the sessions opened on the reduced
endpoint close; those that the server itself has opened stay. -/
def execBootStageHub (err : Option StageErr) (s : State) : Host.Outcome State Fault Refusal :=
  onDev (fun d =>
    if d.inStage 2 then
      match err with
      | some .hubSelftest => d.bootFail 1 6
      | some .stu => d.bootFail 2 6
      | some .fwTrap => d.bootFail 8 6
      | none => ({ d with srv := { d.srv with sessions := d.srv.sessions.filter (fun e => !e.2.reduced) } }).nextStage
    else d) s

/-- A unit that the fuses leave in, and the operator as of the last warm reset (R97, Table 4.7). -/
def Dev.unitIn (d : Dev) (u : Nat) : Bool := bitAt d.boot.fuses u && !bitAt d.boot.operOff u

/-- Report UCIE_DEGRADE for a chiplet link: the modules that lost lanes, width HALF (Table 20.4). -/
def Dev.ucieDegrade (d : Dev) (c modules : Nat) : Dev :=
  d.report { code := 0x36, detail := 2 ^ c + modules * 2 ^ (4 + 4 * c) + 2 ^ 20 }

/-- Stage 3 (R90, R97): the chiplet links train; none trained is NO_CHIPLET. -/
def execBootStageUcie (links : List UcieLink) (s : State) : Host.Outcome State Fault Refusal :=
  onDev (fun d =>
    if d.inStage 3 then
      let width := fun (c : Nat) => if !d.unitIn (264 + c) then 2 else
        match links.getD c .down with
        | .full => 0
        | .half => 1
        | .down => 2
      let ws := (List.range 4).map width
      let d := { d with boot := { d.boot with ucie := (List.range 4).zip ws } }
      let d := (List.range 4).foldl (fun (d : Dev) c =>
        if ws.getD c 2 = 1 then
          let (m, d) := d.freeBelow 16
          d.ucieDegrade c m
        else d) d
      if ws.all (fun w => w == 2) then d.bootFail 3 6 else d.nextStage
    else d) s

/-- LNK_UCIE_WIDTH of a chiplet: 0 FULL, 1 HALF, 2 DOWN. -/
def Boot.width (b : Boot) (c : Nat) : Nat := b.ucie.get c 2

/-- Stage 4 (R74, R89): the stacks train; a stack that fails stays disabled for the power cycle; the enabled stacks
read zero. -/
def execBootStageHbm (trained : List Bool) (mbps : List Nat) (s : State) : Host.Outcome State Fault Refusal :=
  onDev (fun d =>
    if d.inStage 4 then
      let st : Nat → Nat := fun h =>
        if !bitAt d.boot.fuses (256 + h) then 2
        else if bitAt d.boot.operOff (256 + h) then 4
        else if d.boot.width (h / 2) = 2 then 3
        else if trained.getD h false && !bitAt d.boot.hbmDead h then 0
        else 1
      let sts : KMap Nat := (List.range 8).map (fun h => (h, st h))
      let d := { d with
        mem := hostOnly d.mem
        boot := { d.boot with
          hbmState := sts
          hbmDead := sts.foldl (fun (n : Nat) (e : Nat × Nat) => if e.2 = 1 then n ||| 2 ^ e.1 else n) d.boot.hbmDead
          hbmMbps := sts.map (fun (e : Nat × Nat) => (e.1, if e.2 = 0 then Nat.min (mbps.getD e.1 0) 8000 else 0)) } }
      if sts.all (fun e => e.2 != 0) then d.bootFail 4 6 else d.nextStage
    else d) s

/-- The units enabled after the floor sweep (R97): fuses, the operator, and the boot tests of every unit but K0. -/
def Dev.sweepMap (d : Dev) (fail : Nat) : Nat :=
  let keep := fun (u : Nat) => d.unitIn u && !bitAt fail u
  let chip := fun (c : Nat) => keep (264 + c) && d.boot.width c != 2
  let tile := fun (t : Nat) => chip (t / 32) && keep t
  let stack := fun (h : Nat) => d.boot.hbmState.get h 1 == 0 && !bitAt fail (256 + h)
  let chipOn := fun (c : Nat) => chip c &&
    ((List.range 32).any (fun i => tile (32 * c + i)) || stack (2 * c) || stack (2 * c + 1))
  let unit := fun (u : Nat) =>
    if u < 128 then tile u
    else if u < 256 then chipOn ((u - 128) / 32) && keep u
    else if u < 264 then stack (u - 256) && chipOn ((u - 256) / 2)
    else if u < 268 then chipOn (u - 264)
    else if u == 272 then true
    else keep u
  (List.range 294).foldl (fun n u => if unit u && !(Nat.ble 269 u && Nat.ble u 271) then n + 2 ^ u else n) 0

/-- Some chiplet has at least 16 healthy tiles, and a stack is trained (R96). -/
def attnSet (active : Nat) : Bool :=
  (List.range 8).any (fun h => bitAt active (256 + h)) &&
    (List.range 4).any (fun c => Nat.ble 16 (popCount active (32 * c) 32))

/-- Stage 5 (R96, R97, R313): self-test of every unit (`unitFail`, by unit number), known-sum check of every array,
floor sweep, minimal sets; `pcieOk`: a PCIe controller passes its self-test. -/
def execBootStageUnits (unitFail : BitVec 320) (arrayFail : BitVec 128) (pcieOk : Bool) (s : State) :
    Host.Outcome State Fault Refusal :=
  onDev (fun d =>
    if d.inStage 5 then
      let active := d.sweepMap unitFail.toNat
      let d := { d with boot := { d.boot with active := active } }
      let present := (List.range 128).filter (fun a => bitAt active (128 + a))
      let bad := present.filter (fun a => bitAt arrayFail.toNat a)
      let d := present.foldl (fun (d : Dev) a =>
        d.setArray a { d.array a with
          st := if bad.contains a then .unverified else .exactOnly, sense := some (Config.senseConst a) }) d
      let d := if bad.isEmpty then d else
        (d.bump 0x7831 2 0 32).reportUnit
          { code := 0x31, source := 0x85, detail := bad.foldl (fun n a => n + 2 ^ a) 0 }
      if attnSet active && pcieOk then d.nextStage else d.bootFail 5 6
    else d) s

/-- A byte of TEN_CORE_MAP that is valid for its core (R189). -/
def coreByteOk (k b : Nat) : Bool := b == 0 || (Nat.ble 8 k && bitsAt b 6 2 == 1)

/-- A core map with no reserved value (R189). -/
def coreMapOk (v : Nat) : Bool := decide (v < 2 ^ 128) && (List.range 16).all (fun k => coreByteOk k (bitsAt v (8 * k) 8))

/-- Entries of the region-ownership table (TEN_ROT_REGIONS). -/
def Dev.regions (d : Dev) : Nat := d.hbmTop / 2097152

/-- The HDM window carved from the top of the enabled HBM (R130), in GiB; none with HOST_SEL 1 (R129). -/
def Dev.carve (d : Dev) : Nat :=
  if d.pwr.straps.hostSel then 0 else Nat.min (d.obj 0x3001 1 0) (d.hbmTop / 2 ^ 30 - 16)

/-- The table base is aligned, in the HBM range, and clear of the carve-out (R185, R187). -/
def Dev.rotBaseOk (d : Dev) (base hdm : Nat) : Bool :=
  base % 65536 == 0 && Nat.ble (base + 2 * d.regions) (d.hbmTop - hdm * 2 ^ 30)

/-- The configuration block holds four values in range (R184). -/
def Dev.bootCfgOk (d : Dev) (c : BootCfg) : Bool :=
  d.rotBaseOk c.rotBase d.carve && coreMapOk c.coreMap && Nat.ble c.clearPolicy 1 && Nat.ble c.perturbPermit 1

/-- The bytes of the table entries of the carve-out: PRIVATE, owner 0 (R130, R187). -/
def carveEntries (n : Nat) : List Byte := (List.replicate n [(0x00 : Byte), 0x40]).flatten

/-- Stage 6 (R83, R130, R184, R187): the BOOT-class objects are written, the lock is set, the carve-out's entries
stand in the table. -/
def execBootStageLock (cfg : Option BootCfg) (s : State) : Host.Outcome State Fault Refusal :=
  onDev (fun d =>
    if d.inStage 6 then
      match cfg with
      | some c =>
        if d.bootCfgOk c then
          let hdm := d.carve
          let d := (((d.setObj 0x3800 0 0 c.rotBase).setObj 0x3802 0 0 c.coreMap).setObj 0x3803 0 0
            c.clearPolicy).setObj 0x3804 0 0 c.perturbPermit
          let first := d.regions - hdm * 512
          ({ d with
            mem := d.mem.poke (c.rotBase + 2 * first) (carveEntries (hdm * 512))
            boot := { d.boot with lock := true, hdmGib := hdm } }).nextStage
        else d.bootFail 6 6
      | none => d.bootFail 6 6
    else d) s

/-- Stage 7 (R84, R87): configuration space, rings and mailboxes open; Ethernet training starts on the present ports
that SCALE_PORT_ENABLE permits. With the host link still in reset LNK_RRS_TICKS stays 0: there is no deassertion to
count from (log 96). -/
def execBootStageOpen (s : State) : Host.Outcome State Fault Refusal :=
  onDev (fun d =>
    if d.inStage 7 && (KMap.find d.boot.stageTicks 7).isNone then
      let d := (List.range 6).foldl (fun (d : Dev) p =>
        d.setPort p (if !d.has (288 + p) then .down else if d.obj 0x8001 (p + 1) 0 = 1 then .training else .off)) d
      let d := if d.pwr.linkReset then { d with boot := { d.boot with cfgOpen := true } } else d.openCfg
      d.stampStage
    else d) s

/-- The write of BOOT_COMPLETE by resident firmware at the end of stage 7 (R81, R85, R91): the count returns to 0,
Memory_Active is set with CXL, every verified scout array's sweep falls due (R315). -/
def Dev.completeBoot (d : Dev) : Dev :=
  if d.inStage 7 && (KMap.find d.boot.stageTicks 7).isSome then
    let b := d.boot
    { d with
      boot := { b with
        complete := true, stage := 8, count := 0, mirror := 0, attempt := false, memActive := b.cxl != 0 }
      scout := { d.scout with arrays := d.scout.arrays.mapVal (fun a => { a with due := a.st == .exactOnly }) } }
  else d

/-- Resident firmware runs: from stage 2 to the end of the boot (Table 4.2). -/
def Dev.fwBooting (d : Dev) : Bool := [2, 3, 4, 5, 6, 7].any d.inStage

/-- BOOT_COMPLETE is written (R81); `trap`: resident firmware traps before it, and the stage ends in FW_TRAP (Table 4.3). -/
def execBootCompleteWrite (trap : Bool) (s : State) : Host.Outcome State Fault Refusal :=
  onDev (fun d => if trap then (if d.fwBooting then d.bootFail 8 6 else d) else d.completeBoot) s

/-- BOOT_FAIL_CLEAR = 0x01 (R92): count, mirror and prior value become 0. -/
def Dev.failClear (d : Dev) : Dev := { d with boot := { d.boot with count := 0, mirror := 0, prior := 0 } }

/-- BOOT_FAIL_CLEAR is written. -/
def execBootFailClear (s : State) : Host.Outcome State Fault Refusal :=
  onDev (fun d => if d.live then d.failClear else d) s

/-- A chiplet link retrains at run time; a module whose lane repair is exhausted degrades the link (R90). -/
def execUcieRetrain (c : ChipId) (lost : BitVec 4) (s : State) : Host.Outcome State Fault Refusal :=
  onDev (fun d =>
    if d.live && Nat.ble 4 d.boot.stage && d.boot.width c.val != 2 then
      let d := d.bump 0x2421 (c.val + 1) 0 32
      if lost == 0 then d
      else ({ d with boot := { d.boot with ucie := d.boot.ucie.put c.val 1 } }).ucieDegrade c.val lost.toNat
    else d) s

end Sys2Proof.Machine
end

