-- ==== Sys2Proof/Machine/Jobs.lean ====
section
/-! DEFINITION. Jobs: how one holds tiles, ends, is stopped at a boundary or switched out (R145 to R149, R176, R183,
R193, R197, R211, R383), and ring faults (R155). -/

namespace Sys2Proof.Machine

/-- TEN_CLEAR_POLICY is EVERY_JOB (R193). -/
def Dev.clearEvery (d : Dev) : Bool := d.obj 0x3803 0 0 == 1

/-- An engine of the tile is stalled by a translation fault (R175). -/
def Tile.stalled (x : Tile) : Bool := !x.stalls.isEmpty

/-- A tile's sequencer, queues and waits are stopped: nothing it had in flight is performed any more. -/
def Tile.stop (x : Tile) : Tile :=
  { x with
    active := false, flagged := false, atBoundary := false, out := [], poll := none
    stalls := [], query := none, skip := none }

/-- Start a tenant clear of a tile (R192, R193): the sequencer stops, the micro-TLB empties, the scrubber is suspended. A
tile whose clear has failed stays disabled. -/
def Dev.startClear (d : Dev) (t : Nat) : Dev :=
  if (d.tile t).failed then d
  else (d.wakeTile t).updTile t (fun x => { x.stop with
    clearing := true, clearStart := d.pwr.tick, mustClear := true, uTlb := [], scrubOn := false })

/-- A tile leaves its job (R52, R193): it idles, and is cleared at once when TEN_CLEAR_POLICY is EVERY_JOB. -/
def Dev.releaseTile (d : Dev) (t : Nat) : Dev :=
  let d := d.updTile t (fun x => { x.stop with job := none, rank := 0 })
  let d := if (d.tile t).power == .run then d.idleTile t else d
  if d.clearEvery && !(d.tile t).clearing then d.startClear t else d

/-- Tiles that a job holds are released. -/
def Dev.releaseTiles (d : Dev) (ts : List Nat) : Dev := ts.foldl Dev.releaseTile d

/-- The completion status of a fault code (Table 20.1). -/
def statusOf (code : Nat) : Nat :=
  if code = 0x01 then 2
  else if code = 0x02 then 3
  else if [0x03, 0x12, 0x13].contains code then 7
  else if code = 0x16 then 4
  else if code = 0x17 then 0x0A
  else if code = 0x14 then 8
  else 6

/-- Order of faults detected in one tick (R383): those that no rank raised by code, then those of ranks by rank and
code. -/
def faultKey (rank : Option Nat) (code : Nat) : Nat :=
  match rank with
  | none => code
  | some r => 256 + r * 256 + code

/-- The end of a RUN job under EVERY_JOB (R193): the banks that the span of its sequence uses are cleared, and every
layer in them is unloaded. -/
def Dev.clearJobBanks (d : Dev) (x : Job) : Dev :=
  let sps := if d.clearEvery && x.opcode == 1 then d.scout.spans.filter (fun sp => sp.seq == x.seq) else []
  sps.foldl (fun (d : Dev) sp =>
    let as := (sp.slots.map (fun e => e.1)).eraseDups
    let hit := fun (y : ScSpan) => y.slots.any (fun e => as.contains e.1)
    let d := d.wakeArrays as
    let d := { d with scout := { d.scout with spans := d.scout.spans.map (fun y =>
      if hit y then { y with
        bank0 := if sp.bank0.isSome then none else y.bank0, bank1 := if sp.bank1.isSome then none else y.bank1 }
      else y) } }
    as.foldl (fun (d : Dev) a => d.setArray a { d.array a with
      clearing0 := (d.array a).clearing0 || sp.bank0.isSome, clearing1 := (d.array a).clearing1 || sp.bank1.isSome
      clearStart := d.pwr.tick }) d) d

/-- A job ends with a status (R383): the first detected stands, and within one tick the fault that wins the order (key 0
is no fault). Its tiles stop and are released, its waiting requests are withdrawn. -/
def Dev.endJob (d : Dev) (j status key : Nat) : Dev :=
  match KMap.find d.jobs j with
  | none => d
  | some x =>
    match x.st with
    | .ended _ =>
      if x.endTick == d.pwr.tick && x.endKey != 0 && key != 0 && decide (key < x.endKey) then
        d.setJob j { x with st := .ended status, endKey := key }
      else d
    | _ =>
      let d := ((d.withdraw (fun r => r.job == some j)).releaseTiles x.tiles).clearJobBanks x
      d.setJob j { x with
        st := .ended status, tiles := [], ckpts := [], endTick := d.pwr.tick, endKey := key }

/-- A deadline miss (R389, R390): once per job; reported and counted under the job's policy, which then acts. -/
def Dev.missJob (d : Dev) (j : Nat) : Dev :=
  match KMap.find d.jobs j with
  | none => d
  | some x =>
    if x.missed then d
    else
      let p := x.dlPolicy
      let d := ((d.bump 0xA040 1 x.tenant 64).bump 0xA040 (p + 1) x.tenant 64).report
        { code := 0x16, cls := some (if p = 2 then 2 else 1), tenant := x.tenant, source := 0x8C, job := some j
          detail := x.deadline * 2 ^ 192 + p * 2 ^ 128 }
      let d := d.setJob j { x with missed := true, demoted := x.demoted || p == 3 }
      if p = 2 then d.endJob j 4 (faultKey none 0x16) else d

/-- A fault ends a job and is reported (R197, R382, R383). -/
def Dev.jobFault (d : Dev) (j : Nat) (rank : Option Nat) (r : Rec) : Dev :=
  let d := d.report { r with job := some j }
  d.endJob j (statusOf r.code) (faultKey rank r.code)

/-- Ticks that a tile has been held by its owner since they were last counted (R369, Table 8.1). -/
def Dev.heldTicks (d : Dev) (x : Tile) : Nat := d.pwr.tick - Nat.max x.occSince d.mirror.occFrom

/-- The ticks of a tile's owner are counted when the tile changes its owner. -/
def Dev.countOwner (d : Dev) (t : Nat) : Dev :=
  let x := d.tile t
  let d' := d.updTile t (fun y => { y with occSince := d.pwr.tick })
  match x.owner with
  | some o => { d' with mirror := { d'.mirror with
      occAcc := d'.mirror.occAcc.put o (d'.mirror.occAcc.get o 0 + d.heldTicks x) } }
  | none => d'

/-- Hold a tile for a job (R193): it wakes; a tile whose owner is another tenant, or that must be cleared, starts its
clear. -/
def Dev.assignTile (d : Dev) (j tenant t rank : Nat) : Dev :=
  let d := d.wakeTile t
  let x := d.tile t
  let need := x.owner != some tenant || x.mustClear
  let d := if x.owner != some tenant then d.countOwner t else d
  let d := d.setTile t { d.tile t with job := some j, rank := rank, owner := some tenant }
  if need && !x.clearing then d.startClear t else d

/-- A tile may start its job: cleared, not draining, enabled. -/
def Dev.tileReady (d : Dev) (t : Nat) : Bool :=
  let x := d.tile t
  d.tileOk t && !x.clearing && !x.mustClear && x.draining.isNone

/-- A chiplet is in CRITICAL (R64, R67). -/
def Dev.chipCritical (d : Dev) (c : Nat) : Bool := (d.die (c + 1)).state == 2

/-- The ring of a job used switch-out when the job was fetched (R68, Table 6.9); an override in the entry does not
matter. -/
def Job.switchOut (x : Job) : Bool := x.ringPolicy == 2

/-- A job's segment in flight is abandoned and its tiles are released; each rank's checkpoint buffer drains (R176,
R211); records drained before stay. `hold`: it waits for RETRY, if an open fault record names it. -/
def Dev.switchOutJob (d : Dev) (j : Nat) (hold : Bool) : Dev :=
  match KMap.find d.jobs j with
  | none => d
  | some x =>
    if x.st == .running then
      let held := hold && d.stu.faults.any (fun f => f.2.reqs.any (fun r => r.job == some j))
      let open' := d.stu.faults
      let d := d.withdraw (fun r => r.job == some j)
      let d := if held then { d with stu := { d.stu with faults := open' } } else d
      let d := x.tiles.foldl (fun (d : Dev) t =>
        let r := (d.tile t).rank
        let d := d.updTile t (fun y => if y.active then { y with draining := some (j, r) } else y)
        d.releaseTile t) d
      let d := d.setJob j { x with st := .offTile held, tiles := [], front := true, stopAtBoundary := false }
      if x.cancel then d.endJob j 5 0 else d
    else d

/-- The job of an assigned tile goes back to the queue (R193): its other tiles are released, and a job
that has not started is given tiles afresh. -/
def Dev.requeueJob (d : Dev) (j : Nat) : Dev :=
  match KMap.find d.jobs j with
  | none => d
  | some x =>
    if x.st == .assigned then
      (d.releaseTiles x.tiles).setJob j { x with
        st := .waiting, tiles := [], nTiles := if x.ckpts.isEmpty then 0 else x.nTiles, front := true }
    else d

/-- A ring enters ERROR (R155): completions of its fetched jobs are discarded. -/
def Dev.ringFault (d : Dev) (k code : Nat) : Dev :=
  let d := d.updRing k (fun r => { r with st := .error })
  let d := { d with jobs := d.jobs.mapVal (fun x => if x.ring == k then { x with discard := true } else x) }
  let d := d.withdraw (fun r => r.source == 0x80 && r.ring == k)
  d.report { code := code, tenant := (d.ring k).fn, source := 0x80, detail := k }

/-- A ring that drains and has posted its last completion is DISABLED (R152, R153). -/
def Dev.ringDrainCheck (d : Dev) (k : Nat) : Dev :=
  if (d.ring k).st == .draining && (d.ringJobs k).isEmpty then
    d.updRing k (fun r => { r with st := .disabled })
  else d

/-- The ring's MSI-X message (R151). -/
def Dev.ringIrq (d : Dev) (k : Nat) : Dev :=
  let r := d.ring k
  if r.counted = 0 then d else (d.setRing k { r with counted := 0 }).msix r.fn r.vec

/-- Moderation by count and at once (R151): the count in use is capped by the latched size. -/
def Dev.irqCheck (d : Dev) (k : Nat) : Dev :=
  let r := d.ring k
  if r.counted != 0 && (d.obj 0x301C (k + 1) 0 == 0 ||
      Nat.ble (Nat.min (d.obj 0x301B (k + 1) 0) (2 ^ r.size)) r.counted) then d.ringIrq k
  else d

/-- A completion entry (Table 6.7). -/
def cqEntry (x : Job) (status elapsed sqHead : Nat) (phase : Bool) : Nat :=
  x.userTag * 2 ^ 96 + Nat.min elapsed (2 ^ 32 - 1) * 2 ^ 64 + sqHead * 2 ^ 48 + x.sqIndex * 2 ^ 32 + status * 2 ^ 24 +
    x.missed.toNat * 2 ^ 23 + x.demoted.toNat * 2 ^ 22 + x.preempted.toNat * 2 ^ 21 + x.clamped.toNat * 2 ^ 20 +
    phase.toNat

/-- SFU images that no job uses any more, and that are not current, are dropped (R293). -/
def Dev.sfuRetire (d : Dev) : Dev :=
  { d with sfu := d.sfu.map (fun e => (e.1, { e.2 with
      held := e.2.held.filter (fun g => e.2.cur == some g.gen ||
        d.jobs.any (fun x => x.2.gens.any (fun l => l.1 == e.1 && l.2 == g.gen))) })) }

/-- A job leaves the device. -/
def Dev.dropJob (d : Dev) (j k : Nat) : Dev :=
  (({ d with jobs := d.jobs.drop j }).sfuRetire).ringDrainCheck k

/-- The requester that posts a completion (Table 7.11). -/
def cqReq (x : Job) (j prio : Nat) : Requester :=
  { source := 0x80, ring := x.ring, sqIndex := x.sqIndex, userTag := x.userTag, prio := prio, tag := 1, job := some j }

/-- An ended job posts its completion (R149, R151, R152, R155). -/
def Dev.complete (d : Dev) (j : Nat) : Dev :=
  match KMap.find d.jobs j with
  | none => d
  | some x =>
    match x.st with
    | .ended status =>
      let k := x.ring
      let r := d.ring k
      if !d.live then d
      else if x.discard || !(r.st == .enabled || r.st == .draining) then d.dropJob j k
      else
        let req := cqReq x j (d.obj 0x3015 (k + 1) 0)
        let va := (r.cqBase + 16 * r.cqTail) % 2 ^ 64
        match d.translateSpan r.fn r.pasid va 16 1 req with
        | (none, d) => d
        | (some ps, d) =>
          match d.ownOkAll r.fn ps true with
          | (false, d) => (((d.ownReport r.fn r.pasid va 1 req).ringFault k 0x22).dropJob j k)
          | (true, d) =>
            let e := cqEntry x status (d.pwr.tick - x.fetchTick) r.sqHead r.phase
            let d := d.busWrite r.fn r.pasid 0x80 (some j) ps (leBytes e 16)
            let d := if x.clamped then d.bump 0x6810 4 x.tenant 64 else d
            let tail := (r.cqTail + 1) % 2 ^ r.size
            let d := d.setRing k { d.ring k with
              cqTail := tail
              phase := if tail = 0 then !r.phase else r.phase
              done := satAdd r.done 1 32
              unrel := r.unrel + 1
              counted := if x.noIrq then r.counted else r.counted + 1
              oldest := if !x.noIrq && r.counted = 0 then d.pwr.tick else r.oldest }
            (d.irqCheck k).dropJob j k
    | _ => d

/-- Tiles a tenant holds now (TEN_TILES_HELD). -/
def Dev.tilesHeld (d : Dev) (tenant : Nat) : Nat :=
  (d.tiles.filter (fun e => match e.2.job with
    | some j => (KMap.find d.jobs j).any (fun x => x.tenant == tenant)
    | none => false)).length

/-- Reserved tiles that a job of ring `k` must leave: all of them, and those of its own tenant. -/
def Dev.reserveOthers (d : Dev) (k : Nat) : Nat := (List.range 64).foldl (fun n i => if i = k then n else n + d.reserveLeft i) 0
def Dev.reserveTenant (d : Dev) (k tenant : Nat) : Nat :=
  (List.range 64).foldl (fun n i => if i = k || d.obj 0x3010 (i + 1) 0 != tenant then n else n + d.reserveLeft i) 0

/-- Tiles that no job holds and that the scheduler may give (R68, R97, R213). -/
def Dev.freeTiles (d : Dev) : List Nat :=
  (List.range 128).filter (fun t => d.tileOk t && (d.tile t).job.isNone && !d.chipCritical (t / 32))

/-- Tiles that a tenant may use at most (R142, R183): TEN_TILE_MAX, within the enabled tiles. -/
def Dev.tileLimit (d : Dev) (tenant : Nat) : Nat :=
  Nat.min (d.obj 0x3821 0 tenant) ((List.range 128).filter d.tileOn).length

/-- The sequences a job names (R254): RUN the one in SEQ, SEQ_CTL the same, FORK its parent too. -/
def Job.names (x : Job) : List Nat :=
  if x.opcode = 1 then [x.seq]
  else if x.opcode = 4 then
    if bitsAt x.inline 48 8 = 2 then [x.seq, bitsAt x.inline 56 16] else [x.seq]
  else []

/-- Earlier jobs that a job waits for: FENCE_BEFORE and BARRIER (R145), and the order of SEQ_CTL (R254). -/
def Dev.held (d : Dev) (j : Nat) (x : Job) : Bool :=
  d.jobs.any (fun e => decide (e.1 < j) &&
    ((e.2.ring == x.ring && (x.fenceBefore || x.opcode == 5)) ||
     (e.2.tenant == x.tenant && (e.2.opcode == 4 || x.opcode == 4) &&
       e.2.names.any (fun q => x.names.contains q))))

/-- A fetched job may start now. -/
def Dev.startable (d : Dev) (j : Nat) (x : Job) : Bool := x.st == .waiting && d.serving && !d.held j x

/-- The scheduler's order (R145, R146): effective class, requeued jobs first, fetch order. Of two jobs requeued in one
class the one fetched first comes first (log 97). -/
def before (a b : Nat × Job) : Bool :=
  let ka := (a.2.effClass, (!a.2.front).toNat, a.1)
  let kb := (b.2.effClass, (!b.2.front).toNat, b.1)
  ka.1 < kb.1 || (ka.1 == kb.1 && (ka.2.1 < kb.2.1 || (ka.2.1 == kb.2.1 && ka.2.2 < kb.2.2)))

/-- Tiles the job needs at least: TILES_MIN, or as many as at its start when it resumes (R211). -/
def Job.needs (x : Job) : Nat := if x.nTiles != 0 then x.nTiles else Nat.max 1 x.tilesMin

/-- Tiles the tenant may still be given (R183). -/
def Dev.allowance (d : Dev) (x : Job) : Nat :=
  d.obj 0x3821 0 x.tenant - (d.tilesHeld x.tenant + d.reserveTenant x.ring x.tenant)

/-- Tiles at the job's disposal: free ones less those reserved for other rings. -/
def Dev.freeFor (d : Dev) (x : Job) : Nat := d.freeTiles.length - d.reserveOthers x.ring

/-- A job that the scheduler takes before a later one (R145): it may start, has not been taken yet, and, where it needs
tiles, its tenant may hold them; a job that needs no tile does not wait for one that finds none (log 97). -/
def Dev.blocks (d : Dev) (x : Job) (e : Nat × Job) : Bool :=
  d.startable e.1 e.2 && !e.2.taken &&
    (e.2.opcode != 1 || (Nat.ble e.2.needs (d.allowance e.2) && (x.opcode == 1 || Nat.ble e.2.needs (d.freeFor e.2))))

/-- No job that the scheduler takes first comes before a job (R145). -/
def Dev.inOrder (d : Dev) (j : Nat) (x : Job) : Bool :=
  d.jobs.all (fun e => e.1 == j || !d.blocks x e || before (j, x) e)

/-- A RUN job that the scheduler may take now (R145). -/
def Dev.firstRun (d : Dev) (j : Nat) (x : Job) : Bool :=
  x.opcode == 1 && d.startable j x && Nat.ble x.needs (d.allowance x) && d.inOrder j x

end Sys2Proof.Machine
end

