-- ==== Sys2Proof/Machine/Rings.lean ====
section
/-! DEFINITION. Doorbells, ring control, fetch, arbitration, scheduling and completion (chapter 06; R254, R389, R393). -/

namespace Sys2Proof.Machine

/-! ### Doorbells (R133, R134, R137) -/

/-- A function exists: the PF, or an enabled VF (R126). -/
def Dev.fnExists (d : Dev) (n : Nat) : Bool := n == 0 || Nat.ble n d.numVfs

/-- The BARs of a function answer: the link is up, configuration space open, the function exists, is not in an FLR,
and not in D3hot (log 10). -/
def Dev.barOk (d : Dev) (n : Nat) : Bool :=
  d.live && d.boot.pcieGen != 0 && d.boot.cfgOpen && d.fnExists n && !(d.fn n).flr && !(d.fn n).d3hot

/-- The function that owns a ring (R134): the latched one while the ring runs. -/
def Dev.ringOwner (d : Dev) (k : Nat) : Nat :=
  let r := d.ring k
  if r.st == .enabled || r.st == .draining then r.fn else d.obj 0x3010 (k + 1) 0

/-- A doorbell write that is discarded and counted (R137, R382). -/
def Dev.doorbellRange (d : Dev) (k : Nat) : Dev := (d.bump 0x3025 (k + 1) 0 32).countOnly 0x23 (d.ringOwner k) 1

/-- Entries pending in a ring (R137). -/
def Ring.pending (r : Ring) : Nat := (r.sqTail + 2 ^ r.size - r.sqHead) % 2 ^ r.size

/-- RING_STATE of Table 6.9 as a number (R135). -/
def RingState.code : RingState → Nat
  | .disabled => 0
  | .enabled => 1
  | .draining => 2
  | .error => 3

/-- SQ_TAIL is written (R137). -/
def Dev.sqTail (d : Dev) (fn k v : Nat) : Dev :=
  let r := d.ring k
  if d.serving && d.barOk fn && d.ringOwner k == fn && r.st == .enabled then
    if v < 2 ^ r.size then
      let r' := { r with sqTail := v }
      d.setRing k (if r.pending = 0 && r'.pending != 0 then { r' with firstPend := d.pwr.tick } else r')
    else d.doorbellRange k
  else d

/-- SQ_TAIL, after the driver's stores (R138). -/
def execSqTail (fn : FnId) (ring : RingId) (value : BitVec 32) (stores : List ByteStore) (s : State) :
    Host.Outcome State Fault Refusal :=
  onDev (fun d => (d.stores 0x86 stores).sqTail fn.val ring.val value.toNat) s

/-- CQ_HEAD is written (R137): accepted when it releases completions already posted; with every slot posted, the value
it holds releases all of them (log 87). -/
def Dev.cqHead (d : Dev) (fn k v : Nat) : Dev :=
  let r := d.ring k
  if d.serving && d.barOk fn && d.ringOwner k == fn && (r.st == .enabled || r.st == .draining) then
    let m := 2 ^ r.size
    if v < m && Nat.ble ((v + m - r.cqHead) % m) ((r.cqTail + m - r.cqHead) % m) then
      d.setRing k { r with cqHead := v, unrel := (r.cqTail + m - v) % m }
    else d.doorbellRange k
  else d

/-- CQ_HEAD. -/
def execCqHead (fn : FnId) (ring : RingId) (value : BitVec 32) (s : State) : Host.Outcome State Fault Refusal :=
  onDev (fun d => d.cqHead fn.val ring.val value.toNat) s

/-! ### Ring control -/

/-- RING_CTL ENABLE (R136). -/
def Dev.ringEnable (d : Dev) (k : Nat) : Dev :=
  let r := d.ring k
  if !d.serving || r.st == .enabled || r.st == .draining then d
  else
    let fn := d.obj 0x3010 (k + 1) 0
    let sq := d.obj 0x3011 (k + 1) 0
    let cq := d.obj 0x3012 (k + 1) 0
    if sq != 0 && cq != 0 && sq % 4096 == 0 && cq % 4096 == 0 && d.fnExists fn && (d.fn fn).busMaster then
      d.setRing k {
        st := .enabled, fn := fn, sqBase := sq, cqBase := cq, size := d.obj 0x3013 (k + 1) 0
        pasid := d.obj 0x3014 (k + 1) 0, vec := d.obj 0x301A (k + 1) 0, lastFetch := d.pwr.tick }
    else
      (d.setRing k { r with st := .error }).report { code := 0x20, tenant := fn, source := 0x80, detail := k }

/-- RING_CTL ENABLE is written. -/
def execRingEnable (ring : RingId) (s : State) : Host.Outcome State Fault Refusal := onDev (fun d => d.ringEnable ring.val) s

/-- A ring stops fetching at once: a read of its SQ that waits for a translation is withdrawn (R152, R153, R178). -/
def Dev.stopFetch (d : Dev) (k : Nat) : Dev :=
  (d.withdraw (fun r => r.source == 0x80 && r.ring == k && r.tag == 0)).updRing k (fun r => { r with st := .draining })

/-- RING_CTL DISABLE_DRAIN (R152). -/
def Dev.ringDrain (d : Dev) (k : Nat) : Dev :=
  if (d.ring k).st == .enabled then (d.stopFetch k).ringDrainCheck k else d

/-- RING_CTL DISABLE_DRAIN is written. -/
def execDisableDrain (ring : RingId) (s : State) : Host.Outcome State Fault Refusal :=
  onDev (fun d => d.ringDrain ring.val) s

/-- A job runs on tiles of which none waits for a translation. -/
def Dev.runsFree (d : Dev) (x : Job) : Bool :=
  x.st == .running && !x.tiles.isEmpty && x.tiles.all (fun t => !(d.tile t).stalled)

/-- RING_CTL DISABLE_ABORT (R153): jobs that run on tiles stop at their next boundaries; every other fetched job ends
CANCELLED. -/
def Dev.ringAbort (d : Dev) (k : Nat) : Dev :=
  let r := d.ring k
  if r.st == .enabled || r.st == .draining then
    let d := d.stopFetch k
    let d := (d.ringJobs k).foldl (fun (d : Dev) e =>
      if d.runsFree e.2 then d.setJob e.1 { e.2 with cancel := true } else d.endJob e.1 5 0) d
    d.ringDrainCheck k
  else d

/-- RING_CTL DISABLE_ABORT is written. -/
def execDisableAbort (ring : RingId) (s : State) : Host.Outcome State Fault Refusal :=
  onDev (fun d => d.ringAbort ring.val) s

/-! ### Fetch (R139 to R144) -/

/-- Ticks a ring has waited (R144). -/
def Dev.ringWait (d : Dev) (r : Ring) : Nat := d.pwr.tick - Nat.max r.lastFetch r.firstPend

/-- Effective class of a ring in arbitration (R144). -/
def Dev.ringEff (d : Dev) (k : Nat) : Nat :=
  let c := d.obj 0x3015 (k + 1) 0
  if c < 2 then c else Nat.max 1 (c - d.ringWait (d.ring k) / d.obj 0x3002 0 0)

/-- Jobs fetched and not completed, and completions not released (R143). -/
def Dev.credited (d : Dev) (k : Nat) : Nat :=
  (d.ringJobs k).length + (d.ring k).unrel

/-- A ring may fetch: ENABLED, entries pending, a credit, its perturbation delay over; with the hub in CRITICAL only
class 0 (R143, R144, Table 3.5, Table 20.8). -/
def Dev.mayFetch (d : Dev) (k : Nat) : Bool :=
  let r := d.ring k
  r.st == .enabled && r.pending != 0 && decide (d.credited k < 2 ^ r.size) &&
    Nat.ble (d.obj 0xD010 (k + 1) 0) (d.ringWait r) && ((d.die 0).state != 2 || d.obj 0x3015 (k + 1) 0 == 0)

/-- The ring that fetches next (R144): lowest effective class, then weighted round robin. -/
def Dev.pickRing (d : Dev) : Option Nat :=
  let ks := (List.range 64).filter d.mayFetch
  match (ks.map d.ringEff).min? with
  | none => none
  | some e =>
    let tied := ks.filter (fun k => d.ringEff k == e)
    let l := d.lastTurn
    if tied.contains l && decide ((d.ring l).turns < d.obj 0x3016 (l + 1) 0) then some l
    else (tied.filter (fun k => decide (l < k))).head?.orElse (fun _ => tied.head?)

/-- INLINE of PREFETCH and ADVISE (Table 7.9). -/
def moveInlineOk (op n : Nat) : Bool :=
  let mode := bitsAt n 0 8
  bitsAt n 64 64 % 4096 == 0 && bitsAt n 8 24 == 0 && Nat.ble 1 (bitsAt n 32 32) && Nat.ble (bitsAt n 32 32) 1048576 &&
    Nat.ble 1 mode && Nat.ble mode (if op = 2 then 2 else 4)

/-- INLINE of SEQ_CTL (Tables 12.4 and 12.5, R250): fields that the operation does not use are reserved. -/
def seqInlineOk (n : Nat) : Bool :=
  let op := bitsAt n 48 8
  let uses := fun (l : List Nat) => l.contains op
  Nat.ble 1 op && Nat.ble op 8 && bitsAt n 0 47 == 0 &&
    (uses [2, 3, 4, 5, 6] || bitsAt n 96 32 == 0) && (uses [1, 2, 3, 4, 5, 6] || bitsAt n 72 24 == 0) &&
    (uses [2] || bitsAt n 56 16 == 0) && (uses [3] || !bitAt n 47)

/-- The format check of an entry (R140, R10). -/
def sqOk (e : Nat) : Bool :=
  let op := bitsAt e 264 8
  let program := bitsAt e 384 64
  let args := bitsAt e 320 64
  let len := bitsAt e 224 16
  let tmin := bitsAt e 248 8
  let tmax := bitsAt e 256 8
  bitsAt e 240 2 == 0 && bitsAt e 128 96 == 0 && Nat.ble op 5 && bitsAt e 244 2 != 3 && program % 16 == 0 &&
    args % 64 == 0 && (op != 1 || program != 0) && Nat.ble len 1024 && (len == 0 || args != 0) &&
    Nat.ble tmin 128 && Nat.ble tmax 128 && (tmax == 0 || Nat.ble tmin tmax) &&
    (!(op == 2 || op == 3) || moveInlineOk op (bitsAt e 0 128)) && (op != 4 || (seqInlineOk (bitsAt e 0 128) && ([1, 7].contains (bitsAt e 48 8) || (args == 0 && len == 0))))

/-- A sequence number is in the tenant's range (R243). -/
def Dev.inSeqRange (d : Dev) (tenant q : Nat) : Bool :=
  let b := d.obj 0x6017 0 tenant
  Nat.ble b q && decide (q < b + d.obj 0x6018 0 tenant)

/-- A RUN job names a sequence of its tenant's range (R142, R243). The numbers that a SEQ_CTL job names are checked when
it runs, after its formats (R250). -/
def Dev.seqOk (d : Dev) (x : Job) : Bool := x.opcode != 1 || d.inSeqRange x.tenant x.seq

/-- The job that an entry makes (Table 6.5, R148). -/
def Dev.newJob (d : Dev) (k : Nat) (e : Nat) : Job :=
  let r := d.ring k
  let now := d.stamp 128
  let dl := bitsAt e 246 2
  let fp := bitsAt e 244 2
  { ring := k, tenant := r.fn, pasid := r.pasid, sqIndex := r.sqHead, userTag := bitsAt e 288 32
    opcode := bitsAt e 264 8, program := bitsAt e 384 64, args := bitsAt e 320 64, argsLen := bitsAt e 224 16
    seq := bitsAt e 272 16, inline := bitsAt e 0 128, tilesMin := bitsAt e 248 8, tilesMax := bitsAt e 256 8
    dlPolicy := if dl = 0 then d.obj 0x3018 (k + 1) 0 else dl
    faultPolicy := if fp = 0 then d.obj 0x3017 (k + 1) 0 else fp
    fenceBefore := bitAt e 243, noIrq := bitAt e 242
    deadline := if bitsAt e 448 64 = 0 then (now + d.obj 0x3019 (k + 1) 0) % 2 ^ 64 else bitsAt e 448 64
    fetchTick := now, cls := d.obj 0x3015 (k + 1) 0, ringPolicy := d.obj 0x3017 (k + 1) 0, headroom := d.obj 0x6801 0 r.fn, doorTick := r.firstPend }

/-- Flag every tile that runs a job of a class above 0: no tile is free for a class-0 entry (R393). -/
def Dev.flagTiles (d : Dev) : Dev :=
  (List.range 128).foldl (fun (d : Dev) t =>
    match (d.tile t).job with
    | some j =>
      match KMap.find d.jobs j with
      | some x => if x.st == .running && x.effClass != 0 then d.updTile t (fun y => { y with flagged := true }) else d
      | none => d
    | none => d) d

/-- The tiles without which a job fails (R142): TILES_MIN; a RUN job needs one at least. -/
def Job.minTiles (x : Job) : Nat := if x.opcode = 1 then Nat.max 1 x.tilesMin else x.tilesMin

/-- Take a fetched entry as a job (R140 to R142, R344, R389, R393). -/
def Dev.accept (d : Dev) (k e : Nat) : Dev :=
  let j := d.nextJob
  let x := d.newJob k e
  let force := d.obj 0xD015 (k + 1) 0
  let d := if force = 0 then d else d.setObj 0xD015 (k + 1) 0 (force - 1)
  let d := { d with nextJob := j + 1 }
  if !sqOk e then
    d.setJob j { ring := k, tenant := x.tenant, pasid := x.pasid, sqIndex := x.sqIndex, userTag := x.userTag
                 fetchTick := x.fetchTick, cls := x.cls, st := .ended 1, endTick := d.pwr.tick }
  else
    let d := d.setJob j x
    let d := if force != 0 || Nat.ble x.deadline x.fetchTick then d.missJob j else d
    if !d.seqOk x then d.endJob j 8 0
    else if decide (d.tileLimit x.tenant < x.minTiles) then d.endJob j 9 0
    else if x.opcode = 1 && d.scale.chans.any (fun e => e.2.st == .error && d.obj 0x8032 (e.1 + 1) 0 == k) then
      d.jobFault j none { code := 0x17, tenant := x.tenant, source := 0x84 }
    else if x.opcode = 1 && x.cls = 0 && d.freeFor x = 0 then d.flagTiles
    else d

/-- The ring engine fetches one entry (R138, R143, R144). -/
def Dev.fetch (d : Dev) : Dev :=
  match d.pickRing with
  | none => d
  | some k =>
    let r := d.ring k
    let prio := d.obj 0x3015 (k + 1) 0
    let va := (r.sqBase + 64 * r.sqHead) % 2 ^ 64
    let req : Requester := { source := 0x80, ring := k, prio := prio }
    match d.translateSpan r.fn r.pasid va 64 0 req with
    | (none, d) => d
    | (some ps, d) =>
      match d.ownOkAll r.fn ps false with
      | (false, d) => (d.ownReport r.fn r.pasid va 0 req).ringFault k 0x21
      | (true, d) =>
        let (rd, d) := d.busRead r.fn r.pasid ps
        let d := d.hbmErrors r.fn 0x80 none rd.badLines rd.corrected
        let (e, d) := if rd.bad.isEmpty then (leNat rd.bytes, d) else d.freeBelow (2 ^ 512)
        let d := d.accept k e
        let d := d.updRing k (fun r => { r with
          sqHead := (r.sqHead + 1) % 2 ^ r.size, lastFetch := d.pwr.tick
          turns := if d.lastTurn = k then (if r.turns < d.obj 0x3016 (k + 1) 0 then r.turns + 1 else 1) else 1 })
        { d with lastTurn := k }

/-- RING_FETCH_ENTRY. -/
def execRingFetchEntry (s : State) : Host.Outcome State Fault Refusal :=
  onDev (fun d => if d.serving then d.fetch else d) s

/-! ### Scheduling -/

/-- A job of an opcode that the command may take now, in the scheduler's order (R145); one taken before goes on. -/
def Dev.takes (d : Dev) (j op : Nat) : Option Job :=
  match KMap.find d.jobs j with
  | some x => if x.opcode = op && d.startable j x && (x.taken || d.inOrder j x) then some { x with taken := true } else none
  | none => none

/-- NOP completes with OK (Table 6.6). -/
def execNop (job : Nat) (s : State) : Host.Outcome State Fault Refusal :=
  onDev (fun d => if (d.takes job 0).isSome then d.endJob job 0 0 else d) s

/-- BARRIER completes when every earlier job of its ring has posted (Table 6.6, R145). -/
def execBarrier (job : Nat) (s : State) : Host.Outcome State Fault Refusal :=
  onDev (fun d => if (d.takes job 5).isSome then d.endJob job 0 0 else d) s

/-- The tiles named for a job are free, distinct, and as many as the job and its tenant may hold (R142, R183, R197,
R211). -/
def Dev.tilesFit (d : Dev) (x : Job) (tiles : List Nat) : Bool :=
  let n := tiles.length
  tiles.all (fun t => d.freeTiles.contains t) && decide tiles.Nodup && Nat.ble x.needs n &&
    (if x.nTiles != 0 then n == x.nTiles else x.tilesMax == 0 || Nat.ble n x.tilesMax) &&
    Nat.ble n (d.allowance x) && Nat.ble n (d.freeFor x)

/-- Hold the tiles for the job, ranks in the order given (R196). -/
def Dev.assign (d : Dev) (j : Nat) (x : Job) (tiles : List Nat) : Dev :=
  let d := d.setJob j { x with st := .assigned, tiles := tiles, nTiles := tiles.length }
  (tiles.zipIdx.foldl (fun (d : Dev) e => d.assignTile j x.tenant e.1 e.2) d).keepAwake

/-- The running jobs whose tiles the scheduler takes (R146): highest class first, then the one started last, until
the wanted number is reached. -/
def Dev.victims (d : Dev) (x : Job) (want : Nat) : List Nat :=
  let cand := d.jobs.filter (fun e => e.2.st == .running && !e.2.tiles.isEmpty && !e.2.stopAtBoundary && !e.2.cancel &&
    decide (x.effClass < e.2.effClass))
  let sorted := sortBy (fun (a b : Nat × Job) => decide (b.2.effClass < a.2.effClass) ||
    (a.2.effClass == b.2.effClass && decide (b.2.started ≤ a.2.started))) cand
  (sorted.foldl (fun (acc : Nat × List Nat) e =>
    if want ≤ acc.1 then acc else (acc.1 + e.2.tiles.length, acc.2 ++ [e.1])) (0, [])).2

/-- A job's tiles are to be taken at their boundaries; a stalled job is switched out at once (R146, R175). -/
def Dev.takeJob (d : Dev) (j : Nat) : Dev :=
  match KMap.find d.jobs j with
  | none => d
  | some x =>
    if x.tiles.any (fun t => (d.tile t).stalled) then d.switchOutJob j true
    else d.setJob j { x with stopAtBoundary := true }

/-- The flagged tiles that the decision does not take resume (R393). -/
def Dev.unflag (d : Dev) : Dev := { d with tiles := d.tiles.mapVal (fun x => { x with flagged := false }) }

/-- Tiles still on their way from jobs that are being stopped. -/
def Dev.coming (d : Dev) : Nat :=
  d.jobs.foldl (fun n e => if e.2.stopAtBoundary || e.2.cancel then n + e.2.tiles.length else n) 0

/-- The scheduler's decision on the first RUN job in order (R145 to R147, R183, R193, R393): the tiles go to the job,
or tiles of lower classes are taken for it. -/
def Dev.schedule (d : Dev) (j : Nat) (x : Job) (tiles : List Nat) : Dev :=
  if d.tilesFit x tiles then (d.assign j x tiles).unflag
  else if d.freeFor x < x.needs then
    ((d.victims x (x.needs - d.freeFor x - d.coming)).foldl Dev.takeJob d).unflag
  else d

/-- SCHEDULER_DISPATCH: a job that has not started is given tiles; one whose TILES_MIN the limits no longer allow fails
(R142, R183). -/
def execSchedulerDispatch (job : Nat) (tiles : List TileId) (s : State) : Host.Outcome State Fault Refusal :=
  onDev (fun d =>
    match KMap.find d.jobs job with
    | some x =>
      if x.nTiles != 0 then d
      else if x.opcode == 1 && d.startable job x && decide (d.tileLimit x.tenant < x.minTiles) then d.endJob job 9 0
      else if d.firstRun job x then d.schedule job x (tiles.map (·.val))
      else d
    | none => d) s

/-- JOB_COMPLETE: an ended job posts its completion. -/
def execJobComplete (job : Nat) (s : State) : Host.Outcome State Fault Refusal := onDev (fun d => d.complete job) s

/-- RING_IRQ_TICKS have passed since the oldest counted completion (R151). -/
def execRingIrqTimer (ring : RingId) (s : State) : Host.Outcome State Fault Refusal :=
  onDev (fun d =>
    let r := d.ring ring.val
    if d.serving && r.counted != 0 && Nat.ble (d.obj 0x301C (ring.val + 1) 0) (d.pwr.tick - r.oldest) then
      d.ringIrq ring.val
    else d) s

/-- The tick counter has passed the job's deadline (R389, R390). -/
def execDeadlineMiss (job : Nat) (s : State) : Host.Outcome State Fault Refusal :=
  onDev (fun d =>
    match KMap.find d.jobs job with
    | some x =>
      match x.st with
      | .ended _ => d
      | _ => if d.serving && decide (x.deadline < d.pwr.tick) then d.missJob job else d
    | none => d) s

end Sys2Proof.Machine
end

