-- ==== Sys2Proof/Machine/Access.lean ====
section
/-! DEFINITION. Accesses of the engines to memory: translation, region ownership, end-to-end protection (R157, R158,
R171, R172, R223, R400), and the translation fault record (Table 7.8). -/

namespace Sys2Proof.Machine

/-- An engine of a tile as a requester (R165, Table 7.8): engine 0 the sequencer, 1 to 4 the DMA engines. -/
def Dev.tileReq (d : Dev) (t engine tag : Nat) : Requester :=
  let j := (d.tile t).job
  let p := match j with
    | some i => ((KMap.find d.jobs i).map (·.faultPolicy)).getD 1
    | none => 1
  d.withJob j { source := t, engine := engine, policy := p, tag := tag }

/-- What an access finds. -/
inductive Got where
  | wait
  | own
  | data (r : ReadResult)
deriving DecidableEq, Repr

/-- A translated and checked read by an engine. -/
def Dev.engRead (d : Dev) (tenant pasid va len : Nat) (req : Requester) (access : Nat := 0) : Got × Dev :=
  match d.translateSpan tenant pasid va len access req with
  | (none, d) => (.wait, d)
  | (some ps, d) =>
    match d.ownOkAll tenant ps false with
    | (false, d) => (.own, d.ownReport tenant pasid va access req)
    | (true, d) =>
      let (r, d) := d.busRead tenant pasid ps
      (.data r, d.hbmErrors tenant req.source req.job r.badLines r.corrected)

/-- A translated and checked write by an engine. -/
def Dev.engWrite (d : Dev) (tenant pasid va : Nat) (bs : List Byte) (req : Requester) : Got × Dev :=
  match d.translateSpan tenant pasid va bs.length 1 req with
  | (none, d) => (.wait, d)
  | (some ps, d) =>
    match d.ownOkAll tenant ps true with
    | (false, d) => (.own, d.ownReport tenant pasid va 1 req)
    | (true, d) =>
      (.data ⟨[], [], 0, 0⟩, d.busWrite tenant pasid req.source req.job ps bs)

/-- The host caches the lines that it reads through the window (R128). -/
def Dev.hostCaches (d : Dev) (pa len : Nat) : Dev :=
  { d with mem := { d.mem with
      hdmLines := d.mem.hdmLines ++ (linesOf pa len).filter (fun l => !d.mem.hdmLines.contains l) } }

/-- HDM_HOST_ACCESS: the host reaches the carve-out through the CXL window (R128, R130, R400), once it has committed the
HDM decoder in BAR4. -/
def execHdmHostAccess (offset : Nat) (op : EngineOp) (s : State) : Host.Outcome State Fault Refusal :=
  onDev (fun d =>
    let size := d.boot.hdmGib * 2 ^ 30
    let pa := d.hbmTop - size + offset
    if d.live && d.boot.memActive && d.boot.cxl != 0 && d.boot.hdmDec.on then
      match op with
      | .read len =>
        if offset + len ≤ size then
          let (r, m) := d.mem.readMarks pa len
          let d := (({ d with mem := m }).hbmErrors 0 0x86 none r.badLines r.corrected).hostCaches pa len
          d.emit (.hdm r.bytes (!r.bad.isEmpty))
        else d
      | .write data =>
        if offset + data.length ≤ size then
          d.markWrite 0 0x86 none [(pa, 0, data.length)] data
        else d
    else d) s

/-- ENGINE_HBM_ACCESS: an engine's access at an HBM controller (R158, R171, R172, R400). -/
def execEngineHbmAccess (source : BitVec 8) (tenant : FnId) (job : Option Nat) (pa : Pa) (op : EngineOp) (s : State) :
    Host.Outcome State Fault Refusal :=
  onDev (fun d =>
    let (len, write) := match op with
      | .read n => (n, false)
      | .write b => (b.length, true)
    let ps := (pieces pa len).map (fun p => (pa + p.1, p.1, p.2))
    let req := d.withJob job { source := source.toNat }
    let pasid := ((job.bind (fun j => KMap.find d.jobs j)).map (·.pasid)).getD 0
    if d.serving then
      match d.ownOkAll tenant.val ps write with
      | (false, d) =>
        let d := d.ownReport tenant.val pasid pa (if write then 1 else 0) req
        match job with
        | some j => d.endJob j 3 (faultKey none 0x02)
        | none => d
      | (true, d) =>
        match op with
        | .read _ =>
          let (r, d) := d.busRead tenant.val pasid ps
          (d.hbmErrors tenant.val req.source req.job r.badLines r.corrected).emit
            (.engineRead source.toNat r.bytes (!r.bad.isEmpty))
        | .write b =>
          d.busWrite tenant.val pasid req.source req.job ps b
    else d) s

end Sys2Proof.Machine
end

