-- ==== Sys2Proof/Machine/Numbers.lean ====
section
/-! DEFINITION. The operand formats, rounding, conversion and exact arithmetic (R232 to R242). -/

namespace Sys2Proof.Machine

/-- A number as an operand holds it: NaN, an infinity, or ±m·2^e exactly. -/
inductive Val where
  | nan
  | inf (neg : Bool)
  | fin (neg : Bool) (m : Nat) (e : Int)
deriving DecidableEq, Repr

/-- A float format (Table 11.1). `special`: 0 infinities and NaN as in IEEE 754, 1 as in E4M3, 2 none. -/
structure FloatFmt where
  ew : Nat
  fw : Nat
  bias : Nat
  special : Nat
deriving DecidableEq, Repr

def fp32 : FloatFmt := ⟨8, 23, 127, 0⟩
def fp16 : FloatFmt := ⟨5, 10, 15, 0⟩
def bf16 : FloatFmt := ⟨8, 7, 127, 0⟩
def xr : FloatFmt := ⟨16, 15, 32767, 0⟩

/-- A format code of Table 9.3. -/
inductive Fmt where
  | float (f : FloatFmt)
  | int (w : Nat)
deriving DecidableEq, Repr

/-- The format of a code (Tables 9.3 and 11.1); codes 0xB to 0xF are reserved. -/
def fmtOf : Nat → Option Fmt
  | 0x0 => some (.float fp32)
  | 0x1 => some (.float fp16)
  | 0x2 => some (.float bf16)
  | 0x3 => some (.float ⟨5, 2, 15, 0⟩)
  | 0x4 => some (.float ⟨4, 3, 7, 1⟩)
  | 0x5 => some (.float ⟨3, 2, 3, 2⟩)
  | 0x6 => some (.float ⟨2, 3, 1, 2⟩)
  | 0x7 => some (.float ⟨2, 1, 1, 2⟩)
  | 0x8 => some (.int 8)
  | 0x9 => some (.int 4)
  | 0xA => some (.float xr)
  | _ => none

/-- Width of an element in bits. -/
def Fmt.bits : Fmt → Nat
  | .float f => 1 + f.ew + f.fw
  | .int w => w

/-- Width of a format code, 0 for a reserved code. -/
def fmtBits (c : Nat) : Nat :=
  match fmtOf c with
  | some f => f.bits
  | none => 0

/-! ### Reading a pattern (R232) -/

/-- The value of a float pattern. -/
def FloatFmt.decode (f : FloatFmt) (n : Nat) : Val :=
  let s := n.testBit (f.ew + f.fw)
  let e := (n >>> f.fw) % 2 ^ f.ew
  let m := n % 2 ^ f.fw
  if f.special == 0 && e == 2 ^ f.ew - 1 then (if m = 0 then .inf s else .nan)
  else if f.special == 1 && e == 2 ^ f.ew - 1 && m == 2 ^ f.fw - 1 then .nan
  else .fin s (if e = 0 then m else 2 ^ f.fw + m) ((Nat.max e 1 : Nat) - (f.bias : Int) - f.fw)

/-- An integer as a value. -/
def intVal (i : Int) : Val := .fin (decide (i < 0)) i.natAbs 0

/-- The value of a pattern. -/
def Fmt.decode (f : Fmt) (n : Nat) : Val :=
  match f with
  | .float g => g.decode n
  | .int w => intVal (signed n w)

/-! ### Rounding (R237) -/

/-- A positive value n/d·2^e cut to the significands of a format: the significand, the remainder, its divisor and the
exponent of the significand's unit. -/
def FloatFmt.cut (f : FloatFmt) (n d : Nat) (e : Int) : Nat × Nat × Nat × Int :=
  let k : Int := (n.log2 : Int) - d.log2
  let less := if 0 ≤ k then decide (n < d * 2 ^ k.toNat) else decide (n * 2 ^ (-k).toNat < d)
  let l := (if less then k - 1 else k) + e
  let q := max l (1 - (f.bias : Int)) - f.fw
  let s := q - e
  let num := if 0 ≤ s then n else n * 2 ^ (-s).toNat
  let den := if 0 ≤ s then d * 2 ^ s.toNat else d
  (num / den, num % den, den, q)

/-- The magnitude pattern of a significand and its unit, with the exponent field unbounded. -/
def FloatFmt.code (f : FloatFmt) (m : Nat) (q : Int) : Nat :=
  if m < 2 ^ f.fw then m else (q + f.fw + f.bias).toNat * 2 ^ f.fw + (m - 2 ^ f.fw)

/-- Round to nearest, ties to even (R237). -/
def rne (m r den : Nat) : Nat := if den < 2 * r || (2 * r == den && m % 2 == 1) then m + 1 else m

/-- The magnitude pattern of n/d·2^e rounded to nearest, before any limit. -/
def FloatFmt.nearest (f : FloatFmt) (n d : Nat) (e : Int) : Nat :=
  if n = 0 then 0
  else
    let (m, r, den, q) := f.cut n d e
    f.code (rne m r den) q

/-- The magnitude pattern at or below n/d·2^e, and whether it is exact. -/
def FloatFmt.below (f : FloatFmt) (n d : Nat) (e : Int) : Nat × Bool :=
  if n = 0 then (0, true)
  else
    let (m, r, _, q) := f.cut n d e
    (f.code m q, r == 0)

/-- Pattern of the largest finite magnitude. -/
def FloatFmt.maxCode (f : FloatFmt) : Nat :=
  if f.special = 0 then (2 ^ f.ew - 1) * 2 ^ f.fw - 1
  else if f.special = 1 then 2 ^ (f.ew + f.fw) - 2
  else 2 ^ (f.ew + f.fw) - 1

/-- Pattern of an infinity or what replaces it (Table 11.2). -/
def FloatFmt.infCode (f : FloatFmt) : Nat := if f.special = 0 then (2 ^ f.ew - 1) * 2 ^ f.fw else f.maxCode

/-- Pattern of the canonical NaN, +0 where the format has none (R234, Table 11.2). -/
def FloatFmt.nanCode (f : FloatFmt) : Nat :=
  if f.special = 0 then (2 ^ f.ew - 1) * 2 ^ f.fw + 2 ^ (f.fw - 1)
  else if f.special = 1 then 2 ^ (f.ew + f.fw) - 1
  else 0

/-- A magnitude pattern with its limit (Table 11.2) and sign. -/
def FloatFmt.limit (f : FloatFmt) (neg : Bool) (c : Nat) : Nat :=
  (if f.maxCode < c then f.infCode else c) + neg.toNat * 2 ^ (f.ew + f.fw)

/-- A value written in a float format (R238). -/
def FloatFmt.encode (f : FloatFmt) : Val → Nat
  | .nan => f.nanCode
  | .inf s => f.infCode + s.toNat * 2 ^ (f.ew + f.fw)
  | .fin s m e => f.limit s (f.nearest m 1 e)

/-- A magnitude rounded to an integer. -/
def roundInt (m : Nat) (e : Int) : Nat :=
  if 0 ≤ e then m * 2 ^ e.toNat
  else
    let d := 2 ^ (-e).toNat
    rne (m / d) (m % d) d

/-- A value rounded to an integer and saturated in `w` bits (Table 11.2). -/
def satInt (w : Nat) : Val → Int
  | .nan => 0
  | .inf s => if s then -(2 ^ (w - 1) : Nat) else (2 ^ (w - 1) : Nat) - 1
  | .fin s m e =>
    let i : Int := if s then -(roundInt m e : Int) else roundInt m e
    max (-(2 ^ (w - 1) : Nat)) (min ((2 ^ (w - 1) : Nat) - 1) i)

/-- A value written in a format (R238). -/
def Fmt.encode (f : Fmt) (v : Val) : Nat :=
  match f with
  | .float g => g.encode v
  | .int w => unsigned (satInt w v) w

/-- A value rounded once to a float format. -/
def FloatFmt.round (f : FloatFmt) (v : Val) : Val := f.decode (f.encode v)

/-! ### Exact arithmetic -/

def Val.zero : Val := .fin false 0 0
def Val.one : Val := .fin false 1 0

def Val.isNan : Val → Bool
  | .nan => true
  | _ => false

def Val.isFin : Val → Bool
  | .fin _ _ _ => true
  | _ => false

def Val.isZero : Val → Bool
  | .fin _ m _ => m == 0
  | _ => false

def Val.isNeg : Val → Bool
  | .nan => false
  | .inf s => s
  | .fin s _ _ => s

def Val.neg : Val → Val
  | .nan => .nan
  | .inf s => .inf (!s)
  | .fin s m e => .fin (!s) m e

def Val.abs : Val → Val
  | .nan => .nan
  | .inf _ => .inf false
  | .fin _ m e => .fin false m e

/-- A signed significand at a lower exponent. -/
def alignTo (s : Bool) (m : Nat) (e lo : Int) : Int :=
  let a : Int := ((m * 2 ^ (e - lo).toNat : Nat) : Int)
  if s then -a else a

/-- The exact sum (R239: opposite infinities give NaN); a zero sum is +0 unless both are −0. -/
def Val.add : Val → Val → Val
  | .nan, _ => .nan
  | _, .nan => .nan
  | .inf s, .inf t => if s = t then .inf s else .nan
  | .inf s, _ => .inf s
  | _, .inf t => .inf t
  | .fin s m e, .fin t n f =>
    let lo := min e f
    let i := alignTo s m e lo + alignTo t n f lo
    if i = 0 then .fin (s && t) 0 0 else .fin (decide (i < 0)) i.natAbs lo

/-- The exact product (infinity times zero gives NaN). -/
def Val.mul : Val → Val → Val
  | .nan, _ => .nan
  | _, .nan => .nan
  | .inf s, .inf t => .inf (s != t)
  | .inf s, .fin t m _ => if m = 0 then .nan else .inf (s != t)
  | .fin s m _, .inf t => if m = 0 then .nan else .inf (s != t)
  | .fin s m e, .fin t n f => .fin (s != t) (m * n) (e + f)

/-- The difference. -/
def Val.sub (a b : Val) : Val := a.add b.neg

/-- A value times a power of two. -/
def Val.scale (v : Val) (k : Int) : Val :=
  match v with
  | .fin s m e => .fin s m (e + k)
  | _ => v

/-- a < b, false with a NaN. -/
def Val.lt : Val → Val → Bool
  | .nan, _ => false
  | _, .nan => false
  | .inf s, .inf t => s && !t
  | .inf s, _ => s
  | _, .inf t => !t
  | .fin s m e, .fin t n f => let lo := min e f; decide (alignTo s m e lo < alignTo t n f lo)

/-- The smaller of two (R240): NaN with a NaN, −0 below +0. -/
def Val.min (a b : Val) : Val :=
  if a.isNan || b.isNan then .nan
  else if a.lt b then a
  else if b.lt a then b
  else if a.isNeg then a else b

/-- The larger of two (R240). -/
def Val.max (a b : Val) : Val :=
  if a.isNan || b.isNan then .nan
  else if b.lt a then a
  else if a.lt b then b
  else if a.isNeg then b else a

/-- A quotient rounded once to a float format. -/
def FloatFmt.div (f : FloatFmt) (a b : Val) : Nat :=
  match a, b with
  | .nan, _ => f.nanCode
  | _, .nan => f.nanCode
  | .inf _, .inf _ => f.nanCode
  | .inf s, .fin t _ _ => f.encode (.inf (s != t))
  | .fin s _ _, .inf t => f.encode (.fin (s != t) 0 0)
  | .fin s m e, .fin t n g =>
    if n = 0 then (if m = 0 then f.nanCode else f.encode (.inf (s != t)))
    else f.limit (s != t) (f.nearest m n (e - g))

/-- One rounding to FP32 (R240). -/
def Val.r32 (v : Val) : Val := fp32.round v

/-- A quotient in FP32. -/
def Val.div32 (a b : Val) : Val := fp32.decode (fp32.div a b)

/-- A fused multiply-add in FP32 (R240). -/
def Val.fma32 (a b c : Val) : Val := ((a.mul b).add c).r32

/-- Floor of a value, as a value. -/
def Val.floor : Val → Val
  | .fin s m e =>
    if 0 ≤ e then .fin s m e
    else
      let d := 2 ^ (-e).toNat
      if m % d = 0 then .fin s (m / d) 0
      else if s then .fin true (m / d + 1) 0 else .fin false (m / d) 0
  | v => v

/-- A natural number as a value. -/
def natVal (n : Nat) : Val := .fin false n 0

/-! ### Packed elements (R233) -/

/-- `count` elements of `w` bits of a packed operand. -/
def unpack (w count : Nat) (b : List Byte) : List Nat :=
  let n := leNat b
  (List.range count).map (fun i => bitsAt n (i * w) w)

/-- Elements packed, little-endian, in whole bytes. -/
def pack (w : Nat) (es : List Nat) : List Byte :=
  leBytes (es.foldr (fun x n => x % 2 ^ w + n * 2 ^ w) 0) (ceilDiv (w * es.length) 8)

/-- The element count of a packed operand is whole (R233). -/
def countOk (c count : Nat) : Bool :=
  if fmtBits c = 6 then count % 4 == 0 else if fmtBits c = 4 then count % 2 == 0 else true

/-- Bytes of a packed operand. -/
def packedBytes (c count : Nat) : Nat := ceilDiv (fmtBits c * count) 8

/-! ### Fixed point (R242) -/

/-- An integer quotient by 2^k rounded to nearest, ties to even. -/
def rneShift (i : Int) (k : Nat) : Int :=
  let d : Int := (2 ^ k : Nat)
  let q := i / d
  let r := i % d
  if d < 2 * r || (2 * r == d && q % 2 == 1) then q + 1 else q

/-- A quotient of integers rounded to nearest, ties to even; the divisor positive. -/
def rneDiv (i d : Int) : Int :=
  let q := i / d
  let r := i % d
  if d < 2 * r || (2 * r == d && q % 2 == 1) then q + 1 else q

/-- Saturation to `w` bits, and whether it took place. -/
def satW (w : Nat) (i : Int) : Int × Bool :=
  let hi : Int := (2 ^ (w - 1) : Nat) - 1
  let lo : Int := -((2 ^ (w - 1) : Nat) : Int)
  if hi < i then (hi, true) else if i < lo then (lo, true) else (i, false)

end Sys2Proof.Machine
end

