-- ==== Sys2Proof/Machine/Spm.lean ====
section
/-! DEFINITION. The tile buffer, the activation store and the handle table: protection words, reads, partial and full
writes, handles and operands, scratchpad records, the scrubber (chapter 10; R201). -/

namespace Sys2Proof.Machine

/-- A request of a tile is served: it no longer stalls its engine (R209). -/
def Dev.unstall (d : Dev) (t tag : Nat) : Dev :=
  d.updTile t (fun x => { x with stalls := x.stalls.filter (fun n => n != tag) })

/-- Why a tile command word stops: it waits for a translation or an earlier command, a tile fault with its DETAIL
above the address (Table 20.4), a scratchpad error, an ownership failure, or a walker's end of the job. -/
inductive TileErr where
  | wait
  | fault (code : Nat) (extra : Nat)
  | spm (code store source offset : Nat)
  | own
deriving DecidableEq, Repr

/-- A meaning of a tile command: it reads and changes the device, and may stop. -/
abbrev TM := ExceptT TileErr (StateM Dev)

/-- Change the device. -/
def TM.upd (f : Dev → Dev) : TM Unit := modify f

/-- Stop with a tile fault (Table 20.1). -/
def TM.fault {α : Type} (code : Nat) (extra : Nat := 0) : TM α := throw (.fault code extra)

/-- Go on only where a condition holds. -/
def TM.need (c : Bool) (e : TileErr) : TM Unit := if c then pure () else throw e

/-! ### Words of a store (Table 10.3) -/

/-- Size of a protection word: 16 bytes in the TB (store kind 1), 8 in the AS (2). -/
def wordSize (kind : Nat) : Nat := if kind = 1 then 16 else 8

/-- Size of a store (Table 10.1). -/
def storeSize (kind : Nat) : Nat := if kind = 1 then 393216 else 2097152

/-- Bytes, marks and armed flips of a store. -/
def Tile.cells (x : Tile) (kind : Nat) : List Host.Cell := if kind = 1 then x.tb else x.as
def Tile.marks (x : Tile) (kind : Nat) : KMap WordErr := if kind = 1 then x.tbErr else x.asErr
def Tile.arms (x : Tile) (kind : Nat) : List Arm := if kind = 1 then x.tbArm else x.asArm
def Tile.setCells (x : Tile) (kind : Nat) (c : List Host.Cell) : Tile :=
  if kind = 1 then { x with tb := c } else { x with as := c }
def Tile.setMarks (x : Tile) (kind : Nat) (m : KMap WordErr) : Tile :=
  if kind = 1 then { x with tbErr := m } else { x with asErr := m }
def Tile.setArms (x : Tile) (kind : Nat) (a : List Arm) : Tile :=
  if kind = 1 then { x with tbArm := a } else { x with asArm := a }

/-- A word lies in a span of bytes. -/
def inSpan (w off len size : Nat) : Bool := Nat.ble (off / size) w && decide (0 < len) && Nat.ble w ((off + len - 1) / size)

/-- Count correctable errors of a tile (R221). -/
def Dev.countCe (d : Dev) (t kind n : Nat) : Dev :=
  if n = 0 then d else (d.bump 0x5810 kind 0 64 n).bump 0x5811 (t + 1) 0 32 n

/-- Count uncorrectable errors of a tile. -/
def Dev.countUe (d : Dev) (t n : Nat) : Dev := if n = 0 then d else d.bump 0x5812 (t + 1) 0 32 n

/-- Poisoned words are rewritten whole: their poison is cleared and counted (R226). -/
def Dev.clearPoison (d : Dev) (ms : KMap WordErr) : Dev :=
  let n := (ms.filter (fun e => e.2 == .poison)).length
  if n = 0 then d else d.bump 0x5810 7 0 32 n

/-- A read of a span of a store (R221, R222): the bytes, the first word in error, the device after corrections. -/
def Dev.spmRead (d : Dev) (t kind off len : Nat) : List Byte × Option Nat × Dev :=
  let x := d.tile t
  let size := wordSize kind
  let hit := (x.marks kind).filter (fun e => inSpan e.1 off len size)
  let ce := hit.filter (fun e => e.2 == .correctable)
  let ue := hit.filter (fun e => e.2 != .correctable)
  let ms := ((x.marks kind).filter (fun (e : Nat × WordErr) => !(inSpan e.1 off len size && e.2 == .correctable))).map
    (fun (e : Nat × WordErr) => if inSpan e.1 off len size then (e.1, WordErr.poison) else e)
  let d := (d.setTile t (x.setMarks kind ms)).countCe t kind ce.length
  (cellsRead (x.cells kind) off len, (ue.map (fun e => e.1 * size)).head?, d)

/-- One word of a write: a full write replaces it, a partial one merges or is refused (R224 to R226). The second
component holds the offset of the first refused word. -/
def Dev.spmWord (t kind off : Nat) (bs : List Byte) (acc : Dev × Option Nat) (w : Nat) : Dev × Option Nat :=
  let d := acc.1
  let x := d.tile t
  let size := wordSize kind
  let lo := Nat.max off (w * size)
  let hi := Nat.min (off + bs.length) (w * size + size)
  let full := hi - lo == size
  let mark := KMap.find (x.marks kind) w
  if !full && badMark mark then
    let d := d.setTile t (x.setMarks kind ((x.marks kind).put w .poison))
    ((d.bump 0x5810 6 0 32).countUe t 1, some (acc.2.getD (w * size)))
  else
    let arm := armedMark (x.arms kind) w
    let ms := match arm with
      | some e => (x.marks kind).put w e
      | none => (x.marks kind).drop w
    let x := (x.setMarks kind ms).setArms kind ((x.arms kind).filter (fun a => a.word != w))
    let x := x.setCells kind (cellsWrite (x.cells kind) lo ((bs.drop (lo - off)).take (hi - lo)))
    let d := d.setTile t x
    let d := if full && mark == some .poison then d.bump 0x5810 7 0 32 else d
    let d := if !full && mark == some .correctable then (d.bump 0x5810 5 0 32).countCe t kind 1 else d
    (d, acc.2)

/-- A write of bytes to a store. -/
def Dev.spmWrite (d : Dev) (t kind off : Nat) (bs : List Byte) : Dev × Option Nat :=
  if bs.isEmpty then (d, none)
  else
    let size := wordSize kind
    let first := off / size
    ((List.range ((off + bs.length - 1) / size - first + 1)).map (fun i => first + i)).foldl
      (Dev.spmWord t kind off bs) (d, none)

/-- Poison the words that bytes reported uncorrectable by memory fill (R223). -/
def Dev.spmPoison (d : Dev) (t kind off : Nat) (bad : List Nat) : Dev :=
  d.updTile t (fun x => x.setMarks kind (bad.foldl (fun ms i => ms.put ((off + i) / wordSize kind) .poison) (x.marks kind)))

/-- A scratchpad error record (Table 10.4). -/
def Dev.spmRecord (d : Dev) (t store event source offset : Nat) : Nat :=
  d.stamp t * 2 ^ 64 + t * 2 ^ 57 + store * 2 ^ 55 + event * 2 ^ 51 + source * 2 ^ 47 +
    ((d.tile t).owner.getD 0) * 2 ^ 41 + offset

/-- Source of a record by unit (Table 10.4): DMA queue 0 to 3, SFU 4, vector 5, matrix 6, scout 7, sequencer 8. -/
def sourceOf (unit : Nat) : Nat :=
  if unit < 4 then 6 + unit
  else if unit = 4 then 4
  else if unit = 5 then 3
  else if unit = 6 then 2
  else if unit = 7 then 5
  else 1

/-- A read by a unit of the tile (R222). -/
def TM.read (t unit : Nat) (s : Span) : TM (List Byte) := do
  let d ← get
  let (bs, ue, d) := d.spmRead t s.kind s.start s.len
  match ue with
  | none => do
    set d
    pure bs
  | some off => do
    set ((d.bump 0x5810 4 0 32).countUe t 1)
    throw (.spm 0x12 (s.kind - 1) (sourceOf unit) off)

/-- A write by a unit of the tile, with what is done when it ends: a refused merge of any of its spans is raised after
every other word of them is written (R225). -/
def TM.writeAll (t unit : Nat) (l : List (Span × List Byte)) (after : Dev → Dev := id) : TM Unit := do
  let d ← get
  let (d, ref) := l.foldl (fun (acc : Dev × Option (Nat × Nat)) e =>
    let (d, ref) := acc.1.spmWrite t e.1.kind e.1.start e.2
    (d, acc.2 <|> ref.map (fun off => (e.1.kind, off)))) (d, none)
  set (after d)
  match ref with
  | none => pure ()
  | some (kind, off) => throw (.spm 0x13 (kind - 1) (sourceOf unit) off)

/-- A write of one span. -/
def TM.write (t unit : Nat) (s : Span) (bs : List Byte) : TM Unit := TM.writeAll t unit [(s, bs)]

/-- Bytes already written when a reader fails may hold any value (R222): those of its destination are free values. -/
def Dev.havoc (d : Dev) (t : Nat) (dst : List Span) : Dev :=
  dst.foldl (fun (d : Dev) s =>
    let (v, d) := d.freeBelow (256 ^ s.len)
    d.updTile t (fun x => x.setCells s.kind (cellsWrite (x.cells s.kind) s.start (leBytes v s.len)))) d

/-! ### Handles (R217, R218, R201) -/

/-- A handle entry from its 128 bits, none when malformed (R218). -/
def handleOf (n : Nat) : Option Handle :=
  let kind := bitsAt n 124 4
  let extent := bitsAt n 64 40
  let base := bitsAt n 0 64
  if bitsAt n 104 19 != 0 then none
  else
    match kind with
    | 0 => if n = 0 then some {} else none
    | 1 => if extent != 0 && base % 64 == 0 && Nat.ble (base + extent) 393216 then some ⟨1, bitAt n 123, extent, base⟩ else none
    | 2 => if extent != 0 && base % 64 == 0 && Nat.ble (base + extent) 2097152 then some ⟨2, bitAt n 123, extent, base⟩ else none
    | 3 => if extent != 0 && base % 8 == 0 && Nat.ble (base + extent) (2 ^ 64) then some ⟨3, bitAt n 123, extent, base⟩ else none
    | _ => none

/-- A scalar register; S0 reads 0 (R196). -/
def Tile.s (x : Tile) (i : Nat) : Nat := if i = 0 then 0 else (x.sregs.get i 0).toNat

/-- Write a scalar register; writes to S0 are discarded (R196). -/
def Tile.setS (x : Tile) (i v : Nat) : Tile := if i = 0 then x else { x with sregs := x.sregs.put i (BitVec.ofNat 64 v) }

/-- A predicate; P0 is true (R196). -/
def Tile.p (x : Tile) (i : Nat) : Bool := i == 0 || x.preds.toNat.testBit i

/-- Write a predicate; P0 cannot be written (R196). -/
def Tile.setP (x : Tile) (i : Nat) (b : Bool) : Tile :=
  if i = 0 then x else { x with preds := BitVec.ofNat 8 (putBit x.preds.toNat i b) }

/-- Bytes overlap the program window (R195). -/
def inWindow (kind off len : Nat) : Bool :=
  kind == 1 && decide (0 < len) &&
    ((decide (off < 0x30000) && decide (0x2E000 < off + len)) || decide (0x5E000 < off + len))

/-- The handle's entry is being loaded by an HLOAD that has not completed (R204). -/
def Tile.loadingHandle (x : Tile) (h : Nat) : Bool :=
  x.out.any (fun o => match o with
    | .op _ _ _ (.hload _ first count) _ _ _ => Nat.ble first h && decide (h < first + count)
    | _ => false)

/-- An operand at a byte offset beyond its offset register: the span or address that `len` bytes there touch, or
HANDLE_RANGE (R201). `kinds` are the store kinds allowed: 1 TB, 2 AS, 3 memory. An operand of which no byte is touched
leaves no extent. -/
def Tile.operandAt (x : Tile) (spec extra len : Nat) (kinds : List Nat) (write : Bool := false) : Option Span :=
  let h := x.handles.get (spec / 16 % 64) {}
  let off := x.s (spec % 16) + extra
  if kinds.contains h.kind && h.kind != 0 && !(write && h.ro) &&
      (len == 0 || (Nat.ble (off + len) h.extent && !inWindow h.kind (h.base + off) len)) then
    some ⟨h.kind, h.base + off, len⟩
  else none

/-- An operand at its offset register. -/
def Tile.operand (x : Tile) (spec len : Nat) (kinds : List Nat) (write : Bool) : Option Span :=
  x.operandAt spec 0 len kinds write

/-- The entry of an operand is read from the handle table, with its protection (R222). -/
def TM.handle (t spec : Nat) : TM Unit := do
  let d ← get
  let x := d.tile t
  let h := spec / 16 % 64
  TM.need (!x.loadingHandle h) .wait
  let hit := x.hErr.filter (fun e => e.1 / 2 == h)
  let ce := hit.filter (fun e => e.2 == .correctable)
  let d := (d.setTile t { x with hErr := x.hErr.filter (fun e => !(e.1 / 2 == h && e.2 == .correctable)) }).countCe t 3 ce.length
  match (hit.filter (fun e => e.2 != .correctable)).head? with
  | none => set d
  | some e => do
    set ((d.bump 0x5810 4 0 32).countUe t 1)
    throw (.spm 0x12 2 1 (e.1 * 8))

/-- Resolve an operand of a command. -/
def TM.operand (t spec len : Nat) (kinds : List Nat) (write : Bool) : TM Span := do
  TM.handle t spec
  let d ← get
  match (d.tile t).operand spec len kinds write with
  | some s => pure s
  | none => TM.fault 0x0A

/-! ### Outstanding commands (R207, R349 to R351) -/

/-- Spans share a 64-byte granule of a store. -/
def Span.meets (a b : Span) : Bool :=
  a.kind == b.kind && decide (0 < a.len) && decide (0 < b.len) &&
    Nat.ble (a.start / 64) ((b.start + b.len - 1) / 64) && Nat.ble (b.start / 64) ((a.start + a.len - 1) / 64)

/-- A command that reads and writes these spans must wait for an outstanding one. -/
def OutItem.conflicts (o : OutItem) (reads writes : List Span) : Bool :=
  match o with
  | .op _ _ _ _ r w _ =>
    w.any (fun a => (reads ++ writes).any a.meets) || r.any (fun a => writes.any a.meets)
  | .fence _ => false

/-- The registers named are still to be written by an outstanding command. -/
def OutItem.holdsReg (o : OutItem) (regs : List Nat) : Bool :=
  match o with
  | .op _ _ _ _ _ _ l => l.any (fun r => r != 0 && regs.contains r)
  | .fence _ => false

/-- Wait for the outstanding commands that write registers (R207). -/
def TM.freeRegs (t : Nat) (regs : List Nat) : TM Unit := do
  let d ← get
  TM.need (!(d.tile t).out.any (fun o => o.holdsReg regs)) .wait

/-- Wait for the outstanding commands whose results or operands these spans concern. -/
def TM.hazard (t : Nat) (reads writes : List Span) : TM Unit := do
  let d ← get
  TM.need (!(d.tile t).out.any (fun o => o.conflicts reads writes)) .wait

/-- Enter a command in the outstanding list of the tile. -/
def TM.enqueue (t unit : Nat) (body : MemOp) (reads writes : List Span) (regs : List Nat) : TM Unit :=
  TM.upd (fun d => d.updTile t (fun x => { x with
    out := x.out ++ [.op x.nextOp unit x.pos body reads writes regs], nextOp := x.nextOp + 1 }))

/-! ### The scrubber (R227 to R229) -/

/-- Granules of a pass: 6,144 of the TB, then 32,768 of the AS. -/
def scrubTb : Nat := 6144
def scrubEnd : Nat := 38912

/-- A pass of a tile falls due SPM_SCRUB_PERIOD after the start of the previous one: it begins, and wakes the tile. -/
def execScrubPassDue (t : TileId) (s : State) : Host.Outcome State Fault Refusal :=
  onDev (fun d =>
    let x := d.tile t.val
    if d.serving && d.has t.val && !x.failed && !x.clearing && !x.scrubOn &&
        Nat.ble (d.obj 0x5801 0 0) (d.since (Nat.max x.scrubStart d.boot.start)) then
      (d.setTile t.val { x with
        scrubOn := true, scrubPos := 0, scrubStart := d.pwr.tick, scrubLate := false }).scrubWake t.val
    else d) s

/-- Check one word in a scrub: corrected, or poisoned and reported (R227). -/
def Dev.scrubWord (t kind : Nat) (d : Dev) (w : Nat) : Dev :=
  let x := d.tile t
  match KMap.find (x.marks kind) w with
  | none => d
  | some .correctable => (d.setTile t (x.setMarks kind ((x.marks kind).drop w))).countCe t kind 1
  | some e =>
    let d := d.setTile t (x.setMarks kind ((x.marks kind).put w .poison))
    if e == .poison then d
    else
      let d := (d.bump 0x5810 8 0 32).countUe t 1
      d.report { code := 0x33, tenant := x.owner.getD 0, source := t
                 detail := d.spmRecord t (kind - 1) 3 0 (w * wordSize kind) }

/-- The scrubber takes one granule; the last one completes the pass (R227 to R229). -/
def execScrubGranule (t : TileId) (s : State) : Host.Outcome State Fault Refusal :=
  onDev (fun d =>
    let x := d.tile t.val
    if d.live && x.scrubOn && !x.clearing && x.power != .sleep then
      let g := x.scrubPos
      let kind := if g < scrubTb then 1 else 2
      let n := 64 / wordSize kind
      let first := (if kind = 1 then g else g - scrubTb) * n
      let d := ((List.range n).map (fun i => first + i)).foldl (Dev.scrubWord t.val kind) d
      if g + 1 = scrubEnd then
        let d := (d.updTile t.val (fun x => { x with scrubOn := false, scrubPos := 0 })).scrubSleep t.val
        (d.setObj 0x5802 (t.val + 1) 0 d.pwr.tick).bump 0x5810 0x0A 0 64
      else d.updTile t.val (fun x => { x with scrubPos := g + 1 })
    else d) s

/-- A pass has run for a whole period: SCRUB_LATE once, and the pass runs on (R229). -/
def execScrubLate (t : TileId) (s : State) : Host.Outcome State Fault Refusal :=
  onDev (fun d =>
    let x := d.tile t.val
    if d.live && x.scrubOn && !x.scrubLate && Nat.ble (d.obj 0x5801 0 0) (d.since x.scrubStart) then
      let d := (d.setTile t.val { x with scrubLate := true }).bump 0x5810 9 0 32
      d.report { code := 0x34, tenant := x.owner.getD 0, source := t.val, detail := d.spmRecord t.val 0 5 0 0 }
    else d) s

end Sys2Proof.Machine
end

