-- ==== Sys2Proof/Machine/TileCore.lean ====
section
/-! DEFINITION. The command sequencer: fetch, checks at issue, predicates, faults of a tile, segment counting
(R195 to R201, R206, R207, R209, R383). -/

namespace Sys2Proof.Machine

/-- Bits of a TCW outside the common fields and the given payload ranges (high, low) are zero (R199, R203). -/
def onlyBits (w : Nat) (fields : List (Nat × Nat)) : Bool :=
  let mask := fields.foldl (fun (n : Nat) f => n ||| ((2 ^ (f.1 - f.2 + 1) - 1) * 2 ^ f.2)) 0
  (w % 2 ^ 114) &&& mask == w % 2 ^ 114

/-- GROUP and FUNC of a TCW (Table 9.2). -/
def tcwGroup (w : Nat) : Nat := bitsAt w 124 4
def tcwFunc (w : Nat) : Nat := bitsAt w 118 6

/-- Functions that Tables 9.4 and 14.1 list. -/
def tcwListed (g f : Nat) : Bool :=
  match g with
  | 1 => Nat.ble f 6
  | 2 => f == 0
  | 3 => Nat.ble f 0x0B
  | 4 => Nat.ble f 9 || [0x10, 0x18, 0x19, 0x1A, 0x20, 0x28, 0x29].contains f
  | 5 => f == 0
  | 6 => Nat.ble f 1
  | 7 => Nat.ble f 2 || (Nat.ble 8 f && Nat.ble f 0x0D)
  | 8 => Nat.ble f 1
  | 9 => f == 0
  | 0xF => Nat.ble f 1
  | _ => false

/-- PRED and PNEG are zero, as LOOP, ENDLOOP, SEG and POLL need (R199). -/
def noPred (w : Nat) : Bool := bitsAt w 114 4 == 0

/-- How a command of a tile is recognised and checked: its group and function, the words of a shared function that
are its own, the scalar registers it reads or writes, the check of R199, and its check of element counts, which may
come from a register. -/
structure Cmd where
  grp : Nat
  fn : Nat
  mine : Nat → Bool := fun _ => true
  regs : Nat → List Nat
  legal : Nat → Bool
  count : Tile → Nat → Bool := fun _ _ => true

/-- The job that a tile runs. -/
def Dev.tileJob (d : Dev) (t : Nat) : Option (Nat × Job) :=
  match (d.tile t).job with
  | some j =>
    match KMap.find d.jobs j with
    | some x => if x.st == .running then some (j, x) else none
    | none => none
  | none => none

/-- A job is to stop at the boundaries of its tiles (R146, R153, R211, R213, R68). -/
def Dev.wantsStop (d : Dev) (x : Job) : Bool :=
  x.stopAtBoundary || x.cancel ||
    x.tiles.any (fun t => d.obj 0x5001 (t + 1) 0 == 0 || (d.chipCritical (t / 32) && x.switchOut))

/-- The sequencer of a tile may issue: it runs a rank, waits in no POLL, has not overrun its segment, and does not
hold at a boundary (R207 to R209, R393). -/
def Dev.canIssue (d : Dev) (t : Nat) : Bool :=
  let x := d.tile t
  match d.tileJob t with
  | some (_, j) =>
    d.serving && x.active && x.poll.isNone && decide (x.seg < 16384) && !(x.atBoundary && (x.flagged || d.wantsStop j))
  | none => false

/-- Fabric cycles pass for a tile: they count in the segment unless an engine of the tile is stalled or a POLL waits
(R208, R209). -/
def Tile.pass (x : Tile) (cycles : Nat) : Tile :=
  if x.stalled || x.poll.isSome then x else { x with seg := Nat.min 16384 (x.seg + cycles) }

/-- Count a tile fault in the objects of its owner chapter (Tables 9.7, 13.4 and 14.5). -/
def Dev.countFault (d : Dev) (code tenant : Nat) : Dev :=
  if [0x09, 0x0A, 0x0C].contains code then d.bump 0x5003 2 tenant 32
  else if code = 0x08 then d.bump 0x5003 1 tenant 32
  else if code = 0x0D then d.bump 0x5003 5 tenant 32
  else if code = 0x0F then d.bump 0x6810 3 tenant 32
  else if code = 0x10 then d.bump 0x7040 4 tenant 32
  else d

/-- A rank of a job raises a fault: the job ends, and every other rank stops at once (R197, R222, R225, R383). -/
def Dev.rankFault (d : Dev) (t code detail : Nat) : Dev :=
  match d.tileJob t with
  | some (j, x) =>
    (d.countFault code x.tenant).jobFault j (some (d.tile t).rank)
      { code := code, tenant := x.tenant, source := t, detail := detail }
  | none => d

/-- Address of the TCW at a program position (R195, R198). -/
def Job.tcwVa (x : Job) (pos : Nat) : Nat := (x.program + 16 * pos) % 2 ^ 64

/-- What a stopped command does to its job: `pos` is the position of the command. -/
def Dev.tileErr (d : Dev) (t pos : Nat) (e : TileErr) : Dev :=
  match d.tileJob t with
  | none => d
  | some (j, x) =>
    match e with
    | .wait => d
    | .fault code extra => d.rankFault t code (x.tcwVa pos + extra * 2 ^ 64)
    | .spm code store source off =>
      d.rankFault t code (d.spmRecord t store (if code = 0x12 then 1 else 2) source off)
    | .own => d.endJob j 3 (faultKey none 0x02)

/-- A class-0 job executes its first TCW: the dispatch time is measured (R394). -/
def Dev.firstTcw (d : Dev) (j : Nat) (x : Job) : Dev :=
  if x.ran then d
  else
    let d := d.setJob j { x with ran := true }
    if x.cls = 0 then d.maxObj 0xA050 0 0 (d.since x.doorTick) 32 else d

/-- Offset in the program window of a position (R195). -/
def windowOffset (pos : Nat) : Nat :=
  let i := pos % 1024
  if i < 512 then 0x2E000 + 16 * i else 0x5E000 + 16 * (i - 512)

/-- The program window holds the TCW at a position. -/
def Tile.winHas (x : Tile) (pos : Nat) : Bool := x.win.any (fun p => Nat.ble p.1 pos && decide (pos < p.1 + p.2))

/-- What a refill fetches for a position: the TCWs of its block of 8 KiB that lie in the page of the position (log 98).
The first position, and their number. -/
def Job.winPart (x : Job) (pos : Nat) : Nat × Nat :=
  let inPage := x.tcwVa pos % 4096 / 16
  let lo := Nat.max (pos - pos % 512) (pos - inPage)
  (lo, Nat.min (pos - pos % 512 + 512) (pos + (256 - inPage)) - lo)

/-- TCWs land in the program window (R195): words rewritten whole (R226), or poisoned by bad data (R223). The window
holds two consecutive blocks. -/
def Dev.winFill (d : Dev) (t lo : Nat) (r : ReadResult) : Dev :=
  let off := windowOffset lo
  (((d.spmWrite t 1 off r.bytes).1).spmPoison t 1 off r.bad).updTile t (fun x => { x with
    win := x.win.filter (fun p => Nat.ble (p.1 / 512) (lo / 512 + 1) && Nat.ble (lo / 512) (p.1 / 512 + 1)) ++
      [(lo, r.bytes.length / 16)] })

/-- The sequencer reads the TCW at a position from the window (R222). -/
def Dev.winRead (d : Dev) (t pos : Nat) : Option Nat × Dev :=
  let (bs, ue, d) := d.spmRead t 1 (windowOffset pos) 16
  match ue with
  | none => (some (leNat bs), d)
  | some off => (none, ((d.bump 0x5810 4 0 32).countUe t 1).tileErr t pos (.spm 0x12 0 1 off))

/-- The TCW at a tile's position: held in the window, or fetched into it as a program-fetch access (R195): the word, or
nothing where the fetch waits or ends the job. -/
def Dev.fetchTcw (d : Dev) (t j : Nat) (x : Job) : Option Nat × Dev :=
  let pos := (d.tile t).pos
  if (d.tile t).winHas pos then d.winRead t pos
  else
    let (lo, n) := x.winPart pos
    match d.engRead x.tenant x.pasid (x.tcwVa lo) (16 * n) (d.tileReq t 0 0) 2 with
    | (.wait, d) => (none, d)
    | (.own, d) => (none, d.endJob j 3 (faultKey none 0x02))
    | (.data r, d) => ((d.unstall t 0).winFill t lo r).winRead t pos

/-- A TCW passed over in search of the ENDLOOP that ends a loop (R206). -/
def Dev.passOver (d : Dev) (t depth g f : Nat) : Dev :=
  d.updTile t (fun x =>
    let x := { x.pass 1 with pos := x.pos + 1, atBoundary := false }
    if g = 7 && f = 0 then { x with skip := some (depth + 1) }
    else if g = 7 && f = 1 then { x with skip := if depth = 0 then none else some (depth - 1) }
    else x)

/-- A meaning's result: the position after it (none: the next TCW). -/
abbrev TcwBody := Nat → Nat → TM (Option Nat)

/-- The effect of a command that its checks and predicate let act. A SEG ends at its boundary, with the counter at 0
(R209). -/
def Dev.runTcw (d : Dev) (t w : Nat) (body : TcwBody) : Dev :=
  let pos := (d.tile t).pos
  match (body t w).run.run d with
  | (.ok next, d) =>
    let seg := tcwGroup w == 9
    d.updTile t (fun x => { x.pass (if seg then 0 else 1) with pos := next.getD (pos + 1), atBoundary := seg })
  | (.error e, d) => d.tileErr t pos e

/-- The sequencer issues the TCW that stands at its position (R195, R199, R200, R206, R207). A command whose word is
not the one that the program holds there, or not its own, has no effect. -/
def Dev.tcw (d : Dev) (t : Nat) (w : Tcw) (c : Cmd) (body : TcwBody) : Dev :=
  if d.canIssue t then
    match d.tileJob t with
    | none => d
    | some (j, x) =>
      match d.fetchTcw t j x with
      | (none, d) => d
      | (some n, d') =>
        let g := tcwGroup n
        let f := tcwFunc n
        let y := d'.tile t
        if n != w.toNat then d
        else if !tcwListed g f then (d'.firstTcw j x).tileErr t y.pos (.fault 0x09 0)
        else if g != c.grp || f != c.fn || !c.mine n then d
        else
          match y.skip with
          | some depth => (d'.firstTcw j x).passOver t depth g f
          | none =>
            if y.out.any (fun o => o.holdsReg (c.regs n)) then d'
            else
              let d' := d'.firstTcw j x
              if !c.legal n || !c.count y n then d'.tileErr t y.pos (.fault 0x09 0)
              else if (y.p (bitsAt n 115 3)) == bitAt n 114 then
                d'.updTile t (fun x => { x.pass 1 with pos := x.pos + 1, atBoundary := false })
              else d'.runTcw t n body
  else d

/-- The same as an outcome of a command. -/
def tcwStep (t : TileId) (w : Tcw) (c : Cmd) (body : TcwBody) (s : State) : Host.Outcome State Fault Refusal :=
  onDev (fun d => d.tcw t.val w c body) s

/-! ### Lengths and registers -/

/-- A length that Table 9.5 lists: 1 to 4,194,303. -/
def lenOk (n : Nat) : Bool := Nat.ble 1 n && Nat.ble n 4194303

/-- A length: LEN, or S[LENREG]. -/
def Tile.lenOf (x : Tile) (lenReg len : Nat) : Nat := if lenReg = 0 then len else x.s lenReg

/-- The length of a command at issue; one outside Table 9.5 is reserved. -/
def TM.len (t lenReg len : Nat) : TM Nat := do
  let d ← get
  let n := (d.tile t).lenOf lenReg len
  TM.need (lenOk n) (.fault 0x09 0)
  pure n

/-- A register's value at issue. -/
def TM.s (t i : Nat) : TM Nat := do
  let d ← get
  pure ((d.tile t).s i)

/-- The offset register of an operand specifier (R201). -/
def offReg (spec : Nat) : Nat := spec % 16

/-- A computing command: its operands are free of outstanding commands, it reads, computes and writes, and stands in
its unit until it completes. What it writes may hold any value where a reader fails (R222). -/
def TM.compute (t unit : Nat) (reads writes : List Span) (act : TM Unit) : TM Unit := do
  TM.hazard t reads writes
  let d ← get
  match act.run.run d with
  | (.ok _, d) => do
    set d
    TM.enqueue t unit .compute reads writes []
  | (.error (.spm 0x12 store source off), d) => do
    set (d.havoc t writes)
    throw (.spm 0x12 store source off)
  | (.error e, d) => do
    set d
    throw e

end Sys2Proof.Machine
end

