-- ==== Sys2Proof/Machine/Control.lean ====
section
/-! DEFINITION. Sequencer commands: loops, scalar and predicate functions, FENCE WAIT, POLL (R203, R206, R208, R350). -/

namespace Sys2Proof.Machine

/-! ### Loops (R206) -/

/-- LOOP pushes a level, or passes the loop over when its count is 0. -/
def loopBody : TcwBody := fun t w => do
  let d ← get
  let x := d.tile t
  TM.need (decide (x.loops.length < 4)) (.fault 0x0C 0)
  let cnt := bitsAt w 108 4
  let idx := bitsAt w 104 4
  let n := if cnt = 0 then bitsAt w 72 32 else x.s cnt
  if n = 0 then set (d.setTile t { x with skip := some 0 })
  else set (d.setTile t { x.setS idx 0 with loops := ⟨x.pos + 1, n, 0, idx⟩ :: x.loops })
  pure none

/-- ENDLOOP returns to the TCW after its LOOP, or pops the level. -/
def endloopBody : TcwBody := fun t _ => do
  let d ← get
  let x := d.tile t
  match x.loops with
  | [] => TM.fault 0x0C
  | l :: rest =>
    if l.left ≤ 1 then do
      set (d.setTile t { x with loops := rest })
      pure none
    else do
      TM.freeRegs t [l.idxReg]
      set (d.setTile t { x.setS l.idxReg (l.index + 1) with
        loops := { l with left := l.left - 1, index := l.index + 1 } :: rest })
      pure (some l.start)

/-- BREAK pops the level and continues after the matching ENDLOOP. -/
def brkBody : TcwBody := fun t _ => do
  let d ← get
  let x := d.tile t
  match x.loops with
  | [] => TM.fault 0x0C
  | _ :: rest => do
    set (d.setTile t { x with loops := rest, skip := some 0 })
    pure none

/-- TCW LOOP. -/
def execLoop (t : TileId) (w : Tcw) (s : State) : Host.Outcome State Fault Refusal :=
  tcwStep t w { grp := 7, fn := 0, regs := fun w => [bitsAt w 108 4, bitsAt w 104 4]
                legal := fun w => noPred w && onlyBits w [(111, 108), (107, 104), (103, 72)] } loopBody s

/-- TCW ENDLOOP. -/
def execEndloop (t : TileId) (w : Tcw) (s : State) : Host.Outcome State Fault Refusal :=
  tcwStep t w { grp := 7, fn := 1, regs := fun _ => [], legal := fun w => noPred w && onlyBits w [] } endloopBody s

/-- TCW BREAK. -/
def execBrk (t : TileId) (w : Tcw) (s : State) : Host.Outcome State Fault Refusal :=
  tcwStep t w { grp := 7, fn := 2, regs := fun _ => [], legal := fun w => onlyBits w [] } brkBody s

/-! ### Scalar functions (Table 9.5) -/

/-- A scalar function: SD := f(S[SA], S[SB], IMM) mod 2^64. -/
def scalarBody (f : Nat → Nat → Nat → Nat) : TcwBody := fun t w => do
  let d ← get
  let x := d.tile t
  set (d.setTile t (x.setS (bitsAt w 108 4) (f (x.s (bitsAt w 104 4)) (x.s (bitsAt w 100 4)) (bitsAt w 36 64))))
  pure none

/-- The registers of a scalar command. -/
def scalarRegs (w : Nat) : List Nat := [bitsAt w 108 4, bitsAt w 104 4, bitsAt w 100 4]

/-- The check of a scalar command with the payload fields it has: SD is not 0. -/
def scalarLegal (fields : List (Nat × Nat)) (w : Nat) : Bool :=
  bitsAt w 108 4 != 0 && onlyBits w ((111, 108) :: (99, 36) :: fields)

/-- SLI: SD := IMM. -/
def execSli (t : TileId) (w : Tcw) (s : State) : Host.Outcome State Fault Refusal :=
  tcwStep t w { grp := 7, fn := 0x08, regs := scalarRegs, legal := scalarLegal [] } (scalarBody (fun _ _ i => i)) s

/-- SADD: SD := SA + SB + IMM. -/
def execSadd (t : TileId) (w : Tcw) (s : State) : Host.Outcome State Fault Refusal :=
  tcwStep t w { grp := 7, fn := 0x09, regs := scalarRegs, legal := scalarLegal [(107, 104), (103, 100)] }
    (scalarBody (fun a b i => a + b + i)) s

/-- SMUL: SD := SA × IMM. -/
def execSmul (t : TileId) (w : Tcw) (s : State) : Host.Outcome State Fault Refusal :=
  tcwStep t w { grp := 7, fn := 0x0A, regs := scalarRegs, legal := scalarLegal [(107, 104)] }
    (scalarBody (fun a _ i => a * i)) s

/-- SAND: SD := SA AND IMM. -/
def execSand (t : TileId) (w : Tcw) (s : State) : Host.Outcome State Fault Refusal :=
  tcwStep t w { grp := 7, fn := 0x0B, regs := scalarRegs, legal := scalarLegal [(107, 104)] }
    (scalarBody (fun a _ i => a &&& i)) s

/-- SXOR: SD := SA XOR IMM. -/
def execSxor (t : TileId) (w : Tcw) (s : State) : Host.Outcome State Fault Refusal :=
  tcwStep t w { grp := 7, fn := 0x0C, regs := scalarRegs, legal := scalarLegal [(107, 104)] }
    (scalarBody (fun a _ i => a ^^^ i)) s

/-- SSHR: SD := SA >> IMM bits 5:0. -/
def execSshr (t : TileId) (w : Tcw) (s : State) : Host.Outcome State Fault Refusal :=
  tcwStep t w { grp := 7, fn := 0x0D, regs := scalarRegs, legal := scalarLegal [(107, 104)] }
    (scalarBody (fun a _ i => a >>> (i % 64))) s

/-! ### Predicates (Table 9.5) -/

/-- The comparison that a CMP code names, on 64-bit values. -/
def compares (cmp a b : Nat) : Bool :=
  match cmp with
  | 0 => a == b
  | 1 => a != b
  | 2 => decide (a < b)
  | 3 => Nat.ble b a
  | 4 => decide (signed a 64 < signed b 64)
  | _ => decide (signed b 64 ≤ signed a 64)

/-- SETP: PD := S[SA] compared with S[SB] + IMM. -/
def setpBody : TcwBody := fun t w => do
  let d ← get
  let x := d.tile t
  set (d.setTile t (x.setP (bitsAt w 109 3)
    (compares (bitsAt w 98 3) (x.s (bitsAt w 105 4)) ((x.s (bitsAt w 101 4) + bitsAt w 34 64) % 2 ^ 64))))
  pure none

/-- A predicate destination is P1 to P6. -/
def pdOk (w : Nat) : Bool := bitsAt w 109 3 != 0 && bitsAt w 109 3 != 7

/-- TCW SETP. -/
def execSetp (t : TileId) (w : Tcw) (s : State) : Host.Outcome State Fault Refusal :=
  tcwStep t w { grp := 8, fn := 0, regs := fun w => [bitsAt w 105 4, bitsAt w 101 4]
                legal := fun w => pdOk w && Nat.ble (bitsAt w 98 3) 5 && onlyBits w [(111, 34)] } setpBody s

/-- PLOGIC: PD := PA op PB. -/
def plogicBody : TcwBody := fun t w => do
  let d ← get
  let x := d.tile t
  let a := x.p (bitsAt w 106 3)
  let b := x.p (bitsAt w 103 3)
  let r := match bitsAt w 101 2 with
    | 0 => a && b
    | 1 => a || b
    | 2 => a != b
    | _ => a && !b
  set (d.setTile t (x.setP (bitsAt w 109 3) r))
  pure none

/-- TCW PLOGIC. -/
def execPlogic (t : TileId) (w : Tcw) (s : State) : Host.Outcome State Fault Refusal :=
  tcwStep t w { grp := 8, fn := 1, regs := fun _ => []
                legal := fun w => pdOk w && onlyBits w [(111, 101)] } plogicBody s

/-! ### Fences and POLL (R208, R350, R351) -/

/-- An outstanding command reads or writes memory. -/
def OutItem.readsMem : OutItem → Bool
  | .op _ _ _ (.load ..) _ _ _ | .op _ _ _ (.gather ..) _ _ _ | .op _ _ _ (.hload ..) _ _ _
  | .op _ _ _ (.lds ..) _ _ _ => true
  | _ => false

def OutItem.writesMem : OutItem → Bool
  | .op _ _ _ (.store ..) _ _ _ | .op _ _ _ (.setflag ..) _ _ _ => true
  | _ => false

/-- An outstanding command, and its unit. -/
def OutItem.unit? : OutItem → Option Nat
  | .op _ u _ _ _ _ _ => some u
  | .fence _ => none

/-- The units that DMAQ and UNITS select: queue q from bit 108 + q, SFU, vector, matrix and scout from bits 104 to 107. -/
def fenceUnits (w : Nat) : List Nat :=
  ((List.range 4).filter (fun q => bitAt w (108 + q))) ++
    ((List.range 4).filter (fun k => bitAt w (104 + k))).map (fun k => 4 + k)

/-- FENCE WAIT: later commands issue when the selected units are empty and the earlier accesses that ORDER names have
completed; under RELEASE only later writes wait for these. -/
def fenceBody : TcwBody := fun t w => do
  let d ← get
  let x := d.tile t
  let us := fenceUnits w
  let order := bitsAt w 102 2
  TM.need (!x.out.any (fun o => o.unit?.any us.contains)) .wait
  if order = 1 then TM.need (!x.out.any OutItem.readsMem) .wait
  else if order = 3 then TM.need (!x.out.any (fun o => o.readsMem || o.writesMem)) .wait
  else if order = 2 && x.out.any (fun o => o.readsMem || o.writesMem) then
    set (d.setTile t { x with out := x.out ++ [.fence 2] })
  pure none

/-- TCW FENCE WAIT. -/
def execFenceWait (t : TileId) (w : Tcw) (s : State) : Host.Outcome State Fault Refusal :=
  tcwStep t w { grp := 6, fn := 0, regs := fun _ => []
                legal := fun w => onlyBits w [(111, 102)] } fenceBody s

/-- A tile reaches a segment boundary (R209): its longest segment is kept and the counter restarts. -/
def Dev.boundary (d : Dev) (t tenant extra : Nat) : Dev :=
  let d := d.maxObj 0x5002 0 tenant ((d.tile t).seg + extra) 16
  d.updTile t (fun x => { x with seg := 0 })

/-- The checkpoint copy reads the handle table (R222): a correctable word is corrected and counted, an uncorrectable one
is poisoned and raises SPM_UE of the sequencer. -/
def TM.copyHandles (t : Nat) : TM Unit := do
  let d ← get
  let x := d.tile t
  let ce := x.hErr.filter (fun e => e.2 == .correctable)
  let ue := x.hErr.filter (fun e => e.2 != .correctable)
  let d := (d.setTile t { x with hErr := ue.map (fun e => (e.1, .poison)) }).countCe t 3 ce.length
  match ue.head? with
  | none => set d
  | some e => do
    set ((d.bump 0x5810 4 0 32).countUe t 1)
    throw (.spm 0x12 2 1 (8 * e.1))

/-- Words of the checkpoint buffer that a record with `keep` KEEP bytes takes (TILE_CKPT_BYTES; log 99): 1,280 bytes and
these. -/
def ckptWords (keep : Nat) : Nat := 160 + ceilDiv keep 8

/-- A copy into the checkpoint buffer (R210, R220): the words that it rewrites lose their marks. -/
def Tile.ckptCopy (x : Tile) (c : Ckpt) (rewritten : Nat) : Tile :=
  { x with ckpt := some c, copied := true, cErr := x.cErr.filter (fun e => Nat.ble rewritten e.1) }

/-- A checkpoint record (R210): position, registers, predicates P1 to P6, loops, handles and the KEEP bytes. -/
def Tile.record (x : Tile) (pos keep start : Nat) (data : List Byte) : Ckpt :=
  { pos := pos, sregs := x.sregs, preds := x.preds &&& 0x7F, loops := x.loops, handles := x.handles, keep := keep
    keepStart := start, keepData := data }

/-- The record of a POLL's boundary: the state at the POLL, with the bytes that the last SEG kept (R208, R209; log 25). -/
def Tile.pollRecord (x : Tile) : Ckpt :=
  match x.ckpt with
  | some c => x.record x.pos c.keep c.keepStart c.keepData
  | none => x.record x.pos 0 0 []

/-- POLL waits for every earlier TCW, forms a segment boundary and waits for its word. -/
def pollBody : TcwBody := fun t w => do
  let d ← get
  TM.need (d.tile t).out.isEmpty .wait
  let sp ← TM.operand t (bitsAt w 102 10) 8 [2, 3] false
  TM.need (sp.start % 8 == 0) (.fault 0x09 0)
  TM.copyHandles t
  let d ← get
  let x := d.tile t
  match d.tileJob t with
  | none => pure ()
  | some (_, j) =>
    let d := d.boundary t j.tenant 0
    set (d.updTile t (fun y => { y.ckptCopy y.pollRecord (ckptWords 0) with
      poll := some ⟨sp.kind == 3, sp.start, BitVec.ofNat 64 (x.s (bitsAt w 98 4)), bitsAt w 96 2⟩ }))
  pure (some x.pos)

/-- TCW POLL. -/
def execPoll (t : TileId) (w : Tcw) (s : State) : Host.Outcome State Fault Refusal :=
  tcwStep t w { grp := 6, fn := 1, regs := fun w => [bitsAt w 98 4, offReg (bitsAt w 102 10)]
                legal := fun w => noPred w && bitsAt w 96 2 != 3 && onlyBits w [(111, 96)] } pollBody s

/-- The comparison of POLL: 0 EQ, 1 NE, 2 GEU. -/
def pollTrue (cmp a b : Nat) : Bool := if cmp = 0 then a == b else if cmp = 1 then a != b else Nat.ble b a

/-- A POLL whose word compares true ends (R208, R351). -/
def Dev.pollCheck (d : Dev) (t : Nat) (p : PollWait) (v : Nat) : Dev :=
  if pollTrue p.cmp v p.value.toNat then
    d.updTile t (fun x => { x with poll := none, pos := x.pos + 1, atBoundary := false })
  else d

/-- POLL_SATISFIED: the sequencer reads the word at ADDR while POLL waits. -/
def execPollSatisfied (t : TileId) (s : State) : Host.Outcome State Fault Refusal :=
  onDev (fun d =>
    let x := d.tile t.val
    match x.poll, d.tileJob t.val with
    | some p, some (j, job) =>
      if !d.serving || !x.active || x.flagged || d.wantsStop job then d
      else if p.memory then
        match d.engRead job.tenant job.pasid p.addr 8 (d.tileReq t.val 0 1) with
        | (.wait, d) => d
        | (.own, d) => d.endJob j 3 (faultKey none 0x02)
        | (.data r, d) =>
          let d := d.unstall t.val 1
          if r.bad.isEmpty then d.pollCheck t.val p (leNat r.bytes)
          else ((d.bump 0x5810 4 0 32).countUe t.val 1).tileErr t.val x.pos (.spm 0x12 0 1 0)
      else
        match (TM.read t.val 8 ⟨2, p.addr, 8⟩).run.run d with
        | (.ok bs, d) => d.pollCheck t.val p (leNat bs)
        | (.error e, d) => d.tileErr t.val x.pos e
    | _, _ => d) s

end Sys2Proof.Machine
end

