-- ==== Sys2Proof/Machine/Crypto.lean ====
section
/-! DEFINITION. Checksums, the SHA-384 digest and ECDSA P-384 verification (R82, R115, R117, R191, R282, R285, R336,
R370 to R378), by the standards that the spec names (log 17). -/

namespace Sys2Proof.Machine

/-! ### CRC-32 and CRC-32C -/

/-- One bit of a reflected CRC. -/
def crcBit (poly c : Nat) : Nat := if c % 2 = 1 then (c / 2) ^^^ poly else c / 2

/-- One byte of a reflected CRC. -/
def crcByte (poly c : Nat) (b : Byte) : Nat := (List.range 8).foldl (fun c _ => crcBit poly c) (c ^^^ b.toNat)

/-- A CRC of 32 bits with all-ones start and end values. -/
def crcOf (poly : Nat) (bs : List Byte) : Nat := bs.foldl (crcByte poly) 0xFFFFFFFF ^^^ 0xFFFFFFFF

/-- CRC-32 of IEEE 802.3. -/
def crc32 (bs : List Byte) : Nat := crcOf 0xEDB88320 bs

/-- CRC-32C. -/
def crc32c (bs : List Byte) : Nat := crcOf 0x82F63B78 bs

/-! ### SHA-384 -/

/-- The first primes, in ascending order. -/
def primesUpTo (n : Nat) : List Nat :=
  (List.range n).filter (fun p => decide (1 < p) && ((List.range p).all (fun k => decide (k < 2) || p % k != 0)))

/-- The largest x with x^k at most n, found bit by bit from `bit` down. -/
def iroot (k n : Nat) : Nat → Nat → Nat
  | 0, x => if (x + 1) ^ k ≤ n then x + 1 else x
  | bit + 1, x => iroot k n bit (if (x + 2 ^ (bit + 1)) ^ k ≤ n then x + 2 ^ (bit + 1) else x)

/-- The first 64 fraction bits of the k-th root of p. -/
def rootFrac (k p : Nat) : Nat := iroot k (p * 2 ^ (64 * k)) 72 0 % 2 ^ 64

/-- Round constants: cube roots of the first 80 primes. -/
def shaK : List Nat := (primesUpTo 410).map (rootFrac 3)

/-- Start values: square roots of the ninth to the sixteenth prime. -/
def shaH0 : List Nat := (((primesUpTo 54).drop 8).take 8).map (rootFrac 2)

/-- Rotate a 64-bit word right. -/
def rotr (x n : Nat) : Nat := x >>> n ||| (x <<< (64 - n)) % 2 ^ 64

/-- Extend the message schedule: the last sixteen words stand newest first. -/
def shaWords : Nat → List Nat → List Nat
  | 0, w => w.reverse
  | n + 1, w =>
    let w2 := w.getD 1 0
    let w7 := w.getD 6 0
    let w15 := w.getD 14 0
    let w16 := w.getD 15 0
    let s0 := rotr w15 1 ^^^ rotr w15 8 ^^^ (w15 >>> 7)
    let s1 := rotr w2 19 ^^^ rotr w2 61 ^^^ (w2 >>> 6)
    shaWords n ((s1 + w7 + s0 + w16) % 2 ^ 64 :: w)

/-- One round on the eight working words. -/
def shaRound (v : List Nat) (kw : Nat × Nat) : List Nat :=
  match v with
  | [a, b, c, d, e, f, g, h] =>
    let s1 := rotr e 14 ^^^ rotr e 18 ^^^ rotr e 41
    let ch := (e &&& f) ^^^ ((2 ^ 64 - 1 - e) &&& g)
    let t1 := h + s1 + ch + kw.1 + kw.2
    let s0 := rotr a 28 ^^^ rotr a 34 ^^^ rotr a 39
    let maj := (a &&& b) ^^^ (a &&& c) ^^^ (b &&& c)
    [(t1 + s0 + maj) % 2 ^ 64, a, b, c, (d + t1) % 2 ^ 64, e, f, g]
  | v => v

/-- The big-endian 64-bit words of a block. -/
def shaSplit (b : List Byte) : List Nat := (List.range 16).map (fun i => beNat ((b.drop (8 * i)).take 8))

/-- One block of 128 bytes. -/
def shaBlock (h : List Nat) (b : List Byte) : List Nat :=
  let w := shaWords 64 (shaSplit b).reverse
  List.zipWith (fun x y => (x + y) % 2 ^ 64) h ((shaK.zip w).foldl shaRound h)

/-- The padded message. -/
def shaPad (b : List Byte) : List Byte :=
  let n := b.length
  b ++ [0x80] ++ List.replicate ((239 - n % 128) % 128) 0 ++ beBytes (8 * n) 16

/-- The SHA-384 digest, 48 bytes. -/
def sha384 (b : List Byte) : List Byte :=
  let p := shaPad b
  let h := (List.range (p.length / 128)).foldl (fun h i => shaBlock h ((p.drop (128 * i)).take 128)) shaH0
  (h.take 6).flatMap (fun x => beBytes x 8)

/-! ### ECDSA P-384 -/

def p384p : Nat := 2 ^ 384 - 2 ^ 128 - 2 ^ 96 + 2 ^ 32 - 1
def p384b : Nat := 0xb3312fa7e23ee7e4988e056be3f82d19181d9c6efe8141120314088f5013875ac656398d8a2ed19d2a85c8edd3ec2aef
def p384n : Nat := 0xffffffffffffffffffffffffffffffffffffffffffffffffc7634d81f4372ddf581a0db248b0a77aecec196accc52973
def p384gx : Nat := 0xaa87ca22be8b05378eb1c71ef320ad746e1d3b628ba79b9859f741e082542a385502f25dbf55296c3a545e3872760ab7
def p384gy : Nat := 0x3617de4a96262c6f5d9e98bf9292dc29f8f41dbd289a147ce9da3113b5f0b8c00a60b1ce1d7e819d7a431d7c90ea0e5f

/-- b^e modulo m, `n` the bits of e taken from the lowest. -/
def powMod (m : Nat) : Nat → Nat → Nat → Nat → Nat
  | 0, _, _, acc => acc
  | n + 1, b, e, acc => powMod m n (b * b % m) (e / 2) (if e % 2 = 1 then acc * b % m else acc)

/-- The inverse modulo a prime. -/
def invMod (x m : Nat) : Nat := powMod m 384 (x % m) (m - 2) 1

/-- A point of the curve; none is the point at infinity. -/
abbrev EcPoint := Option (Nat × Nat)

/-- The third point of the line of slope `l` through two points. -/
def ecLine (l x1 y1 x2 : Nat) : EcPoint :=
  let p := p384p
  let x3 := (l * l + 2 * p - x1 - x2) % p
  some (x3, (l * (x1 + p - x3) + p - y1) % p)

/-- The sum of two points. -/
def ecAdd (a b : EcPoint) : EcPoint :=
  let p := p384p
  match a, b with
  | none, b => b
  | a, none => a
  | some (x1, y1), some (x2, y2) =>
    if x1 = x2 then
      if (y1 + y2) % p = 0 then none
      else ecLine ((3 * x1 * x1 + p - 3) * invMod (2 * y1) p % p) x1 y1 x2
    else ecLine ((y2 + p - y1) * invMod (x2 + p - x1) p % p) x1 y1 x2

/-- A multiple of a point, the bits of the factor taken from the lowest. -/
def ecMul : Nat → Nat → EcPoint → EcPoint → EcPoint
  | 0, _, _, acc => acc
  | n + 1, k, q, acc => ecMul n (k / 2) (ecAdd q q) (if k % 2 = 1 then ecAdd acc q else acc)

/-- A valid public key (R117): both coordinates below the field prime, the point on the curve. -/
def keyOk (x y : Nat) : Bool :=
  decide (x < p384p) && decide (y < p384p) && (y * y) % p384p == (x * x * x + (p384p - 3) * x + p384b) % p384p

/-- ECDSA verification of a digest with a key of 96 bytes (x, y) and a signature of 96 bytes (r, s), big-endian. -/
def ecdsaVerifies (key sig digest : List Byte) : Bool :=
  let qx := beNat (key.take 48)
  let qy := beNat ((key.drop 48).take 48)
  let r := beNat (sig.take 48)
  let s := beNat ((sig.drop 48).take 48)
  let n := p384n
  if key.length == 96 && sig.length == 96 && keyOk qx qy && r != 0 && s != 0 && decide (r < n) && decide (s < n) then
    let w := invMod s n
    let z := beNat digest
    let g := ecMul 384 (z * w % n) (some (p384gx, p384gy)) none
    match ecAdd g (ecMul 384 (r * w % n) (some (qx, qy)) none) with
    | some (x, _) => x % n == r
    | none => false
  else false

end Sys2Proof.Machine
end

