-- ==== Sys2Proof/Machine/Matrix.lean ====
section
/-! DEFINITION. The matrix unit: MMA (R205, R235, R239). -/

namespace Sys2Proof.Machine

/-- The fields of an MMA (Table 9.5). -/
structure MmaOp where
  fmtA : Nat
  fmtB : Nat
  mxA : Bool
  mxB : Bool
  m : Nat
  n : Nat
  k : Nat
  acc : Bool
  bt : Bool
  outf : Nat
deriving DecidableEq, Repr

/-- Read the fields. -/
def mmaOf (w : Nat) : MmaOp :=
  { fmtA := bitsAt w 78 4, fmtB := bitsAt w 74 4, mxA := bitAt w 73, mxB := bitAt w 72
    m := bitsAt w 64 8 + 1, n := bitsAt w 56 8 + 1, k := bitsAt w 40 16 + 1
    acc := bitAt w 39, bt := bitAt w 38, outf := bitsAt w 36 2 }

/-- MX is permitted on FP8, FP6, FP4 and INT8 (R205). -/
def mxOk (c : Nat) : Bool := Nat.ble 3 c && Nat.ble c 8

/-- Format pairs, MX and element counts of R205, R233 and R235. -/
def MmaOp.legal (o : MmaOp) : Bool :=
  let int := fun (c : Nat) => c == 8 || c == 9
  Nat.ble o.fmtA 9 && Nat.ble o.fmtB 9 && int o.fmtA == int o.fmtB && (o.outf == 3) == int o.fmtA &&
    (!o.mxA || mxOk o.fmtA) && (!o.mxB || mxOk o.fmtB) && (!(o.mxA || o.mxB) || o.k % 32 == 0) &&
    countOk o.fmtA (o.m * o.k) && countOk o.fmtB (o.n * o.k)

/-- Index of element (n, k) of B: N rows of K, or K rows of N (BT). -/
def MmaOp.bIdx (o : MmaOp) (n k : Nat) : Nat := if o.bt then k * o.n + n else n * o.k + k

/-- Index of the scale of block j of row n of B: in the order of the blocks' first elements (R235). -/
def MmaOp.bScale (o : MmaOp) (n j : Nat) : Nat := if o.bt then j * o.n + n else n * (o.k / 32) + j

/-- An E8M0 scale: the exponent, none for NaN (R235). -/
def scaleOf (b : Nat) : Option Int := if b = 0xFF then none else some ((b : Int) - 127)

/-- The operands of an MMA as patterns: elements and scales of A and B, D's old values. -/
structure MmaIn where
  a : List Nat
  b : List Nat
  sa : List Nat
  sb : List Nat
  d : List Nat
deriving DecidableEq, Repr

/-- The two scales' exponents of a group, none where one is NaN. -/
def MmaOp.scales (o : MmaOp) (x : MmaIn) (m n j : Nat) : Option Int :=
  let ea := if o.mxA then scaleOf (x.sa.getD (m * (o.k / 32) + j) 0) else some 0
  let eb := if o.mxB then scaleOf (x.sb.getD (o.bScale n j) 0) else some 0
  match ea, eb with
  | some p, some q => some (p + q)
  | _, _ => none

/-- The exact sum of values in order. -/
def sumVals : List Val → Val
  | [] => .zero
  | v :: rest => rest.foldl Val.add v

/-- Size of a summation group by the wider format of the pair (R239). -/
def MmaOp.group (o : MmaOp) : Nat :=
  if o.fmtA = 0 || o.fmtB = 0 then 1 else if o.fmtA ≤ 2 || o.fmtB ≤ 2 then 8 else 32

/-- Starts of the groups of K in ascending order. -/
def MmaOp.starts (o : MmaOp) (g : Nat) : List Nat := (List.range (ceilDiv o.k g)).map (fun i => i * g)

/-- Indices of a group. -/
def MmaOp.inGroup (o : MmaOp) (g k0 : Nat) : List Nat := (List.range (Nat.min g (o.k - k0))).map (fun i => k0 + i)

/-- One output of a float pair: groups summed exactly, each added to the FP32 accumulator with one rounding. -/
def MmaOp.floatAt (o : MmaOp) (x : MmaIn) (fa fb : Fmt) (init : Option Val) (m n : Nat) : Val :=
  let g := o.group
  ((o.starts g).foldl (fun (acc : Option Val) k0 =>
    let s := sumVals ((o.inGroup g k0).map (fun k =>
      (fa.decode (x.a.getD (m * o.k + k) 0)).mul (fb.decode (x.b.getD (o.bIdx n k) 0))))
    let s := match o.scales x m n (k0 / 32) with
      | some e => s.scale e
      | none => .nan
    some (match acc with
      | none => s.r32
      | some a => (a.add s).r32)) init).getD .zero

/-- One output of an integer pair: groups summed exactly, scaled and rounded, added with saturation; a NaN scale
makes it 0 (R239). -/
def MmaOp.intAt (o : MmaOp) (x : MmaIn) (wa wb : Nat) (init : Int) (m n : Nat) : Int :=
  let mx := o.mxA || o.mxB
  ((o.starts 32).foldl (fun (acc : Option Int) k0 =>
    let s := ((o.inGroup 32 k0).map (fun k =>
      signed (x.a.getD (m * o.k + k) 0) wa * signed (x.b.getD (o.bIdx n k) 0) wb)).sum
    match acc, o.scales x m n (k0 / 32) with
    | some a, some e =>
      let e := e - (if o.mxA && o.mxB then 12 else if mx then 6 else 0)
      let s := if 0 ≤ e then s * (2 ^ e.toNat : Nat) else rneShift s (-e).toNat
      some (satW 32 (a + s)).1
    | _, _ => none) (some init)).getD 0

/-- Format code of OUTF: FP32, BF16, FP16; INT32 has none. -/
def outFmt (outf : Nat) : Nat := if outf = 1 then 2 else if outf = 2 then 1 else 0

/-- Bytes of an element of D. -/
def outBytes (outf : Nat) : Nat := if outf = 1 || outf = 2 then 2 else 4

/-- The result of an MMA as bytes. -/
def MmaOp.result (o : MmaOp) (x : MmaIn) : List Byte :=
  let idx := (List.range o.m).flatMap (fun m => (List.range o.n).map (fun n => (m, n)))
  match fmtOf o.fmtA, fmtOf o.fmtB, fmtOf (outFmt o.outf) with
  | some (.int wa), some (.int wb), _ =>
    idx.flatMap (fun (p : Nat × Nat) =>
      let init := if o.acc then signed (x.d.getD (p.1 * o.n + p.2) 0) 32 else 0
      leBytes (unsigned (o.intAt x wa wb init p.1 p.2) 32) 4)
  | some fa, some fb, some fo =>
    idx.flatMap (fun (p : Nat × Nat) =>
      let init := if o.acc then some (fo.decode (x.d.getD (p.1 * o.n + p.2) 0)) else none
      leBytes (fo.encode (o.floatAt x fa fb init p.1 p.2)) (outBytes o.outf))
  | _, _, _ => []

/-- An operand with its scales: the spans of the elements and of the scales, which start at the first 64-byte boundary
after the last element byte (R235). -/
def TM.mxOperand (t spec bytes scales : Nat) : TM (Span × Span) := do
  let s ← TM.operand t spec bytes [1, 2] false
  if scales = 0 then pure (s, { s with len := 0 })
  else do
    let at' := roundUp (s.start + bytes) 64
    let _ ← TM.operand t spec (at' + scales - s.start) [1, 2] false
    pure (s, ⟨s.kind, at', scales⟩)

/-- MMA. -/
def mmaBody : TcwBody := fun t w => do
  let o := mmaOf w
  let blocks := o.k / 32
  let (a, sa) ← TM.mxOperand t (bitsAt w 102 10) (packedBytes o.fmtA (o.m * o.k)) (if o.mxA then o.m * blocks else 0)
  let (b, sb) ← TM.mxOperand t (bitsAt w 92 10) (packedBytes o.fmtB (o.n * o.k)) (if o.mxB then o.n * blocks else 0)
  let dsp ← TM.operand t (bitsAt w 82 10) (o.m * o.n * outBytes o.outf) [1, 2] true
  TM.compute t 6 ([a, sa, b, sb] ++ (if o.acc then [dsp] else [])) [dsp] (do
    let ab ← TM.read t 6 a
    let sab ← TM.read t 6 sa
    let bb ← TM.read t 6 b
    let sbb ← TM.read t 6 sb
    let db ← if o.acc then TM.read t 6 dsp else pure []
    TM.write t 6 dsp (o.result
      { a := unpack (fmtBits o.fmtA) (o.m * o.k) ab, b := unpack (fmtBits o.fmtB) (o.n * o.k) bb
        sa := sab.map (·.toNat), sb := sbb.map (·.toNat), d := unpack (8 * outBytes o.outf) (o.m * o.n) db }))
  pure none

/-- TCW MMA. -/
def execMma (t : TileId) (w : Tcw) (s : State) : Host.Outcome State Fault Refusal :=
  tcwStep t w { grp := 2, fn := 0, regs := fun w => [offReg (bitsAt w 102 10), offReg (bitsAt w 92 10), offReg (bitsAt w 82 10)]
                legal := fun w => onlyBits w [(111, 36)] && (mmaOf w).legal } mmaBody s

end Sys2Proof.Machine
end

