-- ==== Sys2Proof/Machine/Transcend.lean ====
section
/-! DEFINITION. The built-in functions of the SFU (R280, R281): exact mathematical values enclosed between two
rationals, refined until both round alike; for FP32 either neighbour of the exact value (log 19). -/

namespace Sys2Proof.Machine

/-- A non-negative number n/d·2^e. -/
structure Ratio where
  n : Nat
  d : Nat
  e : Int
deriving DecidableEq, Repr

/-- An enclosure of a non-negative number. -/
structure Encl where
  lo : Ratio
  hi : Ratio
deriving DecidableEq, Repr

/-- A number known exactly. -/
def Encl.exact (n d : Nat) (e : Int) : Encl := ⟨⟨n, d, e⟩, ⟨n, d, e⟩⟩

/-- A product of enclosures. -/
def Encl.mul (a b : Encl) : Encl :=
  ⟨⟨a.lo.n * b.lo.n, a.lo.d * b.lo.d, a.lo.e + b.lo.e⟩, ⟨a.hi.n * b.hi.n, a.hi.d * b.hi.d, a.hi.e + b.hi.e⟩⟩

/-! ### Fixed-point series with `q` fraction bits -/

/-- ln 2, at most q below. -/
def ln2Fix (q : Nat) : Nat :=
  ((List.range (q / 3 + 2)).foldl (fun (acc : Nat × Nat) i => (acc.1 / 9, acc.2 + acc.1 / (2 * i + 1)))
    (2 ^ (q + 1) / 3, 0)).2

/-- e^(r/2^q) for |r| < 2^q, near. -/
def expFix (q : Nat) (r : Int) : Int :=
  ((List.range (q / 2 + 12)).foldl (fun (acc : Int × Int) i =>
    let t := acc.1 * r / ((2 ^ q : Nat) * ((i : Int) + 1))
    (t, acc.2 + t)) ((2 ^ q : Nat), (2 ^ q : Nat))).2

/-- The error allowed to a series, in units of 2^-q. -/
def slack : Nat := 2 ^ 20

/-- The integer part of the square root. -/
def isqrt (n : Nat) : Nat :=
  (List.range (n.log2 / 2 + 1)).reverse.foldl (fun r i => if (r + 2 ^ i) * (r + 2 ^ i) ≤ n then r + 2 ^ i else r) 0

/-- ±m·2^e in units of 2^-q, at most one unit below. -/
def toFix (q : Nat) (s : Bool) (m : Nat) (e : Int) : Int :=
  let k := e + q
  let i : Int := if s then -(m : Int) else m
  if 0 ≤ k then i * (2 ^ k.toNat : Nat) else i / (2 ^ (-k).toNat : Nat)

/-! ### Enclosures -/

/-- e^x; an x beyond ±2^18 lies beyond every format's range. -/
def expEncl (q : Nat) (s : Bool) (m : Nat) (e : Int) : Encl :=
  if m = 0 then .exact 1 1 0
  else if 18 ≤ (m.log2 : Int) + e then .exact 1 1 (if s then -(2 ^ 20 : Nat) else (2 ^ 20 : Nat))
  else
    let qq := q + 32
    let x := toFix qq s m e
    let l : Int := ln2Fix qq
    let k := (2 * x + l) / (2 * l)
    let r := (x - k * l) / (2 ^ 32 : Nat)
    let v := (expFix q r).toNat
    ⟨⟨v - slack, 1, k - q⟩, ⟨v + slack, 1, k - q⟩⟩

/-- 2^x. -/
def exp2Encl (q : Nat) (s : Bool) (m : Nat) (e : Int) : Encl :=
  if m = 0 then .exact 1 1 0
  else if 18 ≤ (m.log2 : Int) + e then .exact 1 1 (if s then -(2 ^ 20 : Nat) else (2 ^ 20 : Nat))
  else
    let one : Int := (2 ^ q : Nat)
    let x := toFix q s m e
    let k := (2 * x + one) / (2 * one)
    let f := x - k * one
    if f = 0 && (0 ≤ e || m % 2 ^ (-e).toNat == 0) then .exact 1 1 k
    else
      let v := (expFix q (f * ln2Fix q / one)).toNat
      ⟨⟨v - slack, 1, k - q⟩, ⟨v + slack, 1, k - q⟩⟩

/-- ln of m·2^e between two numbers of units 2^-q; exact 0 at 1. -/
def lnFix (q : Nat) (m : Nat) (e : Int) : Int × Int :=
  let b := m.log2
  let k := e + b
  if m = 2 ^ b && k = 0 then (0, 0)
  else
    let z := (m - 2 ^ b) * 2 ^ q / (m + 2 ^ b)
    let z2 := z * z / 2 ^ q
    let a := ((List.range (q / 3 + 2)).foldl (fun (acc : Nat × Nat) i =>
      (acc.1 * z2 / 2 ^ q, acc.2 + acc.1 / (2 * i + 1))) (z, 0)).2
    let l := ln2Fix (q + 32)
    let v := 2 * (a : Int) + k * l / (2 ^ 32 : Nat)
    (v - slack, v + slack)

/-- An enclosure of a magnitude from signed bounds of units 2^-q. -/
def fixEncl (q : Nat) (b : Int × Int) : Bool × Encl :=
  if b.2 < 0 then (true, ⟨⟨b.2.natAbs, 1, -q⟩, ⟨b.1.natAbs, 1, -q⟩⟩)
  else (false, ⟨⟨b.1.toNat, 1, -q⟩, ⟨b.2.toNat, 1, -q⟩⟩)

/-- ln of m·2^e: sign and magnitude. -/
def lnEncl (q : Nat) (m : Nat) (e : Int) : Bool × Encl := fixEncl q (lnFix q m e)

/-- log2 of m·2^e: sign and magnitude. -/
def log2Encl (q : Nat) (m : Nat) (e : Int) : Bool × Encl :=
  let b := m.log2
  if m = 2 ^ b then (decide (e + b < 0), .exact (e + b).natAbs 1 0)
  else
    let (s, x) := lnEncl q m e
    let l := ln2Fix q
    (s, ⟨⟨x.lo.n * 2 ^ q, l + slack, x.lo.e⟩, ⟨x.hi.n * 2 ^ q, l, x.hi.e⟩⟩)

/-- √(m·2^e). -/
def sqrtEncl (q : Nat) (m : Nat) (e : Int) : Encl :=
  let sh := 2 * q + (if e % 2 = 0 then 0 else 1)
  let v := m * 2 ^ sh
  let r := isqrt v
  let k := (e - sh) / 2
  if r * r = v then .exact r 1 k else ⟨⟨r, 1, k⟩, ⟨r + 1, 1, k⟩⟩

/-- 1/√(m·2^e). -/
def rsqrtEncl (q : Nat) (m : Nat) (e : Int) : Encl :=
  let x := sqrtEncl q m e
  ⟨⟨1, x.hi.n, -x.hi.e⟩, ⟨1, x.lo.n, -x.lo.e⟩⟩

/-- (y − 1)/(y + 1) of a number n·2^e. -/
def tanhOf (x : Ratio) : Ratio :=
  if 0 ≤ x.e then ⟨x.n * 2 ^ x.e.toNat - 1, x.n * 2 ^ x.e.toNat + 1, 0⟩
  else ⟨x.n - 2 ^ (-x.e).toNat, x.n + 2 ^ (-x.e).toNat, 0⟩

/-- The number just below 1 that stands for every larger one below 1. -/
def nearOne : Encl := .exact (2 ^ 1000 - 1) 1 (-1000)

/-- tanh of the non-negative m·2^e. -/
def tanhEncl (q : Nat) (m : Nat) (e : Int) : Encl :=
  if 9 ≤ (m.log2 : Int) + e then nearOne
  else
    let y := expEncl q false m (e + 1)
    ⟨tanhOf y.lo, tanhOf y.hi⟩

/-- y/(1 + y) and 1/(1 + y) of a number n·2^e at most 1. -/
def shareOf (x : Ratio) : Ratio := ⟨x.n, x.n + 2 ^ (-x.e).toNat, 0⟩
def restOf (x : Ratio) : Ratio := ⟨2 ^ (-x.e).toNat, x.n + 2 ^ (-x.e).toNat, 0⟩

/-- logistic of ±m·2^e. -/
def logisticEncl (q : Nat) (s : Bool) (m : Nat) (e : Int) : Encl :=
  if m = 0 then .exact 1 1 (-1)
  else if 9 ≤ (m.log2 : Int) + e then (if s then .exact 1 1 (-700) else nearOne)
  else
    let y := expEncl q true m e
    if s then ⟨shareOf y.lo, shareOf y.hi⟩ else ⟨restOf y.hi, restOf y.lo⟩

/-! ### Rounding an enclosed number -/

/-- Precisions tried in turn. -/
def precisions : List Nat := [96, 224, 480, 1000]

/-- The magnitude pattern rounded once to nearest; were no precision enough, one of the two candidates (log 19). -/
def FloatFmt.nearestOf (f : FloatFmt) (g : Nat → Encl) (up : Bool) : List Nat → Nat
  | [] => let x := g 1000; if up then f.nearest x.hi.n x.hi.d x.hi.e else f.nearest x.lo.n x.lo.d x.lo.e
  | q :: rest =>
    let x := g q
    let a := f.nearest x.lo.n x.lo.d x.lo.e
    if a = f.nearest x.hi.n x.hi.d x.hi.e then a else f.nearestOf g up rest

/-- The magnitude pattern of a FP32 neighbour: the exact value where it is a FP32 number, else one of the two. -/
def FloatFmt.neighbourOf (f : FloatFmt) (g : Nat → Encl) (up : Bool) : List Nat → Nat
  | [] => let x := g 1000; (f.below x.lo.n x.lo.d x.lo.e).1 + up.toNat
  | q :: rest =>
    let x := g q
    let a := f.below x.lo.n x.lo.d x.lo.e
    let b := f.below x.hi.n x.hi.d x.hi.e
    if a.1 = b.1 then (if x.lo = x.hi && a.2 then a.1 else a.1 + up.toNat)
    else f.neighbourOf g up rest

/-- An enclosed magnitude written in a format with a sign (R280). `up` picks the FP32 neighbour. -/
def Fmt.ofEncl (f : Fmt) (neg : Bool) (g : Nat → Encl) (up : Bool) : Nat :=
  match f with
  | .float h =>
    if h = fp32 then
      let c := h.neighbourOf g (up != neg) precisions
      h.limit neg c
    else h.limit neg (h.nearestOf g up precisions)
  | .int w =>
    let h : FloatFmt := fp32
    (Fmt.int w).encode (h.decode (h.limit neg (h.nearestOf g up precisions)))

/-- The built-in functions by FUNC code: special values first (Table 14.2), then the enclosed value. `pat` names the
input to the choice of a FP32 neighbour. -/
def builtin (fn : Nat) (v : Val) (pat : Nat) (fo : Fmt) : Nat :=
  let up := Config.fp32Up fn pat
  let out := fun (x : Val) => fo.encode x
  match fn, v with
  | _, .nan => out .nan
  | 0x00, .inf s | 0x01, .inf s => out (if s then .zero else .inf false)
  | 0x00, .fin s m e => fo.ofEncl false (fun q => expEncl q s m e) up
  | 0x01, .fin s m e => fo.ofEncl false (fun q => exp2Encl q s m e) up
  | 0x03, .inf s | 0x04, .inf s => out (if s then .nan else .inf false)
  | 0x03, .fin s m e =>
    if m = 0 then out (.inf true) else if s then out .nan
    else fo.ofEncl (lnEncl 96 m e).1 (fun q => (lnEncl q m e).2) up
  | 0x04, .fin s m e =>
    if m = 0 then out (.inf true) else if s then out .nan
    else fo.ofEncl (log2Encl 96 m e).1 (fun q => (log2Encl q m e).2) up
  | 0x05, .inf s => out (.fin s 0 0)
  | 0x05, .fin s m e => if m = 0 then out (.inf s) else fo.ofEncl s (fun _ => .exact 1 m (-e)) up
  | 0x06, .inf s => out (if s then .nan else .zero)
  | 0x06, .fin s m e =>
    if m = 0 then out (.inf s) else if s then out .nan else fo.ofEncl false (fun q => rsqrtEncl q m e) up
  | 0x07, .inf s => out (if s then .nan else .inf false)
  | 0x07, .fin s m e =>
    if m = 0 then out (.fin s 0 0) else if s then out .nan else fo.ofEncl false (fun q => sqrtEncl q m e) up
  | 0x08, .inf s => out (.fin s 1 0)
  | 0x08, .fin s m e => if m = 0 then out (.fin s 0 0) else fo.ofEncl s (fun q => tanhEncl q m e) up
  | 0x09, .inf s => out (if s then .zero else .one)
  | 0x09, .fin s m e => fo.ofEncl false (fun q => logisticEncl q s m e) up
  | _, _ => out .nan

/-- A built-in function from FP32 to FP32. -/
def builtin32 (fn : Nat) (v : Val) : Val := fp32.decode (builtin fn v (fp32.encode v) (.float fp32))

/-- ln of a positive value, rounded once to XR. -/
def lnXr (v : Val) : Nat :=
  match v with
  | .fin _ m e => (Fmt.float xr).ofEncl (lnEncl 96 m e).1 (fun q => (lnEncl q m e).2) false
  | _ => xr.nanCode

/-- A · logistic(A) in FP32 (R288). -/
def silu32 (v : Val) : Val :=
  match v with
  | .fin s m e =>
    if m = 0 then v
    else fp32.decode ((Fmt.float fp32).ofEncl s (fun q => (Encl.exact m 1 e).mul (logisticEncl q s m e))
      (Config.fp32Up 0x100 (fp32.encode v)))
  | .inf s => if s then .nan else .inf false
  | .nan => .nan

/-- The inner argument of GELU_TANH for a magnitude: 0.797884561 · (a + 0.044715 · a³), in units of 2^-q from below. -/
def geluArg (q : Nat) (m : Nat) (e : Int) : Nat :=
  -- 797884561·(10^6·a + 44715·a³) / 10^15
  let p := 797884561
  if 0 ≤ e then
    let a := m * 2 ^ e.toNat
    p * (1000000 * a + 44715 * a * a * a) * 2 ^ q / 10 ^ 15
  else
    let d := 2 ^ (-e).toNat
    p * (1000000 * m * d * d + 44715 * m * m * m) * 2 ^ q / (10 ^ 15 * d * d * d)

/-- 0.5·A·(1 + tanh u) is A·logistic(2u): the enclosure of logistic(2u) for a magnitude and a sign. -/
def geluShare (q : Nat) (s : Bool) (m : Nat) (e : Int) : Encl :=
  if 9 ≤ (m.log2 : Int) + e then (if s then .exact 1 1 (-700) else nearOne)
  else
    let u := geluArg (q + 16) m e
    let a := logisticEncl q s u (1 - ((q + 16 : Nat) : Int))
    let b := logisticEncl q s (u + 1) (1 - ((q + 16 : Nat) : Int))
    if s then ⟨b.lo, a.hi⟩ else ⟨a.lo, b.hi⟩

/-- GELU_TANH in FP32 (R288). -/
def gelu32 (v : Val) : Val :=
  match v with
  | .fin s m e =>
    if m = 0 then v
    else fp32.decode ((Fmt.float fp32).ofEncl s (fun q => (Encl.exact m 1 e).mul (geluShare q s m e))
      (Config.fp32Up 0x101 (fp32.encode v)))
  | .inf s => if s then .nan else .inf false
  | .nan => .nan

end Sys2Proof.Machine
end

