-- ==== Sys2Proof/Machine/Vector.lean ====
section
/-! DEFINITION. The vector unit: elementwise functions, CVT, RSUM, SCALE, and XPACK and XCOMB (R240, R260 to R268). -/

namespace Sys2Proof.Machine

/-- The payload that VECTOR and SFU functions share (Table 9.5). -/
structure VecOp where
  opA : Nat
  opB : Nat
  opD : Nat
  fin : Nat
  fout : Nat
  lenReg : Nat
  len : Nat
  row : Nat
  sreg : Nat
deriving DecidableEq, Repr

/-- Read the payload. -/
def vecOf (w : Nat) : VecOp :=
  { opA := bitsAt w 102 10, opB := bitsAt w 92 10, opD := bitsAt w 82 10, fin := bitsAt w 78 4, fout := bitsAt w 74 4
    lenReg := bitsAt w 70 4, len := bitsAt w 48 22, row := bitsAt w 32 16, sreg := bitsAt w 28 4 }

/-- Registers that a VECTOR or SFU command reads. -/
def vecRegs (w : Nat) : List Nat :=
  let o := vecOf w
  [offReg o.opA, offReg o.opB, offReg o.opD, o.lenReg, o.sreg]

/-- Formats listed in Table 9.3, and a length field that is not the reserved 0. -/
def VecOp.fmtLegal (o : VecOp) : Bool := Nat.ble o.fin 0xA && Nat.ble o.fout 0xA && (o.lenReg != 0 || o.len != 0)

/-- The elements of a VECTOR or SFU command at issue: LEN or S[LENREG] (Table 9.5). -/
def vecLen (x : Tile) (w : Nat) : Nat := x.lenOf (vecOf w).lenReg (vecOf w).len

/-- Elements in a row (ROW 0: one row). -/
def VecOp.rowLen (o : VecOp) (n : Nat) : Nat := if o.row = 0 then n else o.row

/-- The format of a checked code. -/
def fmtGet (c : Nat) : Fmt := (fmtOf c).getD (.float fp32)

/-- One rounding of a computed value (R240): INT32 with saturation for integers, XR where an operand of the operation is
in XR (its input format, or the format of an operand that it reads from D), FP32 for the other floats. -/
def domRound (fin : Nat) (v : Val) (dFmt : Option Nat := none) : Val :=
  if dFmt = some 0xA then xr.round v
  else
    match fmtGet fin with
    | .int _ => intVal (satInt 32 v)
    | .float f => if f = xr then xr.round v else v.r32

/-- The scalar of SCALE: FP32 in bits 31:0 for float and XR inputs, the register as a signed integer otherwise. -/
def scalarOf (fin s : Nat) : Val :=
  match fmtGet fin with
  | .int _ => intVal (signed s 64)
  | .float _ => fp32.decode (s % 2 ^ 32)

/-- An elementwise function of the vector unit: whether it reads B, whether it reads D, and its exact value. -/
structure EltFn where
  useB : Bool
  useD : Bool
  rounds : Bool
  f : Val → Val → Val → Val → Val

/-- An elementwise command. -/
def eltBody (e : EltFn) : TcwBody := fun t w => do
  let o := vecOf w
  let n ← TM.len t o.lenReg o.len
  let sv ← TM.s t o.sreg
  let a ← TM.operand t o.opA (packedBytes o.fin n) [1, 2] false
  let b ← if e.useB then TM.operand t o.opB (packedBytes o.fin n) [1, 2] false else pure ⟨a.kind, a.start, 0⟩
  let dsp ← TM.operand t o.opD (packedBytes o.fout n) [1, 2] true
  TM.compute t 5 ([a, b] ++ (if e.useD then [dsp] else [])) [dsp] (do
    let ab ← TM.read t 5 a
    let bb ← TM.read t 5 b
    let db ← if e.useD then TM.read t 5 dsp else pure []
    let fi := fmtGet o.fin
    let fo := fmtGet o.fout
    let as' := unpack fi.bits n ab
    let bs := unpack fi.bits n bb
    let ds := unpack fo.bits n db
    let out := (List.range n).map (fun i =>
      let v := e.f (fi.decode (as'.getD i 0)) (fi.decode (bs.getD i 0)) (fo.decode (ds.getD i 0)) (scalarOf o.fin sv)
      fo.encode (if e.rounds then domRound o.fin v (if e.useD then some o.fout else none) else v))
    TM.write t 5 dsp (pack fo.bits out))
  pure none

/-- Element counts of an elementwise command (R233, Table 9.5). -/
def eltCount (x : Tile) (w : Nat) : Bool :=
  let n := vecLen x w
  lenOk n && countOk (vecOf w).fin n && countOk (vecOf w).fout n

/-- Element counts of a row function that gives `perRow` elements for each row (R233, R278). -/
def rowCount (perRow : Nat → Nat) (x : Tile) (w : Nat) : Bool :=
  let n := vecLen x w
  let row := (vecOf w).rowLen n
  lenOk n && n % row == 0 && countOk (vecOf w).fin n && countOk (vecOf w).fout (n / row * perRow row)

/-- The check of VECTOR functions with no fields below bit 28. -/
def vecLegal (w : Nat) : Bool := onlyBits w [(111, 28)] && (vecOf w).fmtLegal

/-- A VECTOR command by function code. -/
def vecCmd (fn : Nat) : Cmd := { grp := 3, fn := fn, regs := vecRegs, legal := vecLegal, count := eltCount }

/-- MOV: the elements of A. -/
def execMov (t : TileId) (w : Tcw) (s : State) : Host.Outcome State Fault Refusal :=
  tcwStep t w (vecCmd 0x00) (eltBody ⟨false, false, false, fun a _ _ _ => a⟩) s

/-- ADD. -/
def execAdd (t : TileId) (w : Tcw) (s : State) : Host.Outcome State Fault Refusal :=
  tcwStep t w (vecCmd 0x01) (eltBody ⟨true, false, true, fun a b _ _ => a.add b⟩) s

/-- SUB. -/
def execSub (t : TileId) (w : Tcw) (s : State) : Host.Outcome State Fault Refusal :=
  tcwStep t w (vecCmd 0x02) (eltBody ⟨true, false, true, fun a b _ _ => a.sub b⟩) s

/-- MUL. -/
def execMul (t : TileId) (w : Tcw) (s : State) : Host.Outcome State Fault Refusal :=
  tcwStep t w (vecCmd 0x03) (eltBody ⟨true, false, true, fun a b _ _ => a.mul b⟩) s

/-- FMA: D := A × B + D, rounded once. -/
def execFma (t : TileId) (w : Tcw) (s : State) : Host.Outcome State Fault Refusal :=
  tcwStep t w (vecCmd 0x04) (eltBody ⟨true, true, true, fun a b d _ => (a.mul b).add d⟩) s

/-- MAX. -/
def execMax (t : TileId) (w : Tcw) (s : State) : Host.Outcome State Fault Refusal :=
  tcwStep t w (vecCmd 0x05) (eltBody ⟨true, false, true, fun a b _ _ => a.max b⟩) s

/-- MIN. -/
def execMin (t : TileId) (w : Tcw) (s : State) : Host.Outcome State Fault Refusal :=
  tcwStep t w (vecCmd 0x06) (eltBody ⟨true, false, true, fun a b _ _ => a.min b⟩) s

/-- CVT: a conversion rounded once to FMTOUT (R238). -/
def execCvt (t : TileId) (w : Tcw) (s : State) : Host.Outcome State Fault Refusal :=
  tcwStep t w (vecCmd 0x07) (eltBody ⟨false, false, false, fun a _ _ _ => a⟩) s

/-- SCALE: A × S[SREG]. -/
def execScale (t : TileId) (w : Tcw) (s : State) : Host.Outcome State Fault Refusal :=
  tcwStep t w (vecCmd 0x09) (eltBody ⟨false, false, true, fun a _ _ x => a.mul x⟩) s

/-- The rows of a list. -/
def rowsOf {α : Type} (l : List α) (row rows : Nat) : List (List α) :=
  (List.range rows).map (fun r => (l.drop (r * row)).take row)

/-- A row's sum in ascending order, one rounding for each addition (R240). -/
def rowSum (rnd : Val → Val) : List Val → Val
  | [] => .zero
  | v :: rest => rest.foldl (fun acc x => rnd (acc.add x)) (rnd v)

/-- RSUM. -/
def rsumBody : TcwBody := fun t w => do
  let o := vecOf w
  let n ← TM.len t o.lenReg o.len
  let row := o.rowLen n
  let a ← TM.operand t o.opA (packedBytes o.fin n) [1, 2] false
  let dsp ← TM.operand t o.opD (packedBytes o.fout (n / row)) [1, 2] true
  TM.compute t 5 [a] [dsp] (do
    let ab ← TM.read t 5 a
    let fi := fmtGet o.fin
    let fo := fmtGet o.fout
    let vs := (unpack fi.bits n ab).map fi.decode
    TM.write t 5 dsp (pack fo.bits ((rowsOf vs row (n / row)).map (fun r => fo.encode (rowSum (domRound o.fin) r)))))
  pure none

/-- TCW RSUM. -/
def execRsum (t : TileId) (w : Tcw) (s : State) : Host.Outcome State Fault Refusal :=
  tcwStep t w { vecCmd 0x08 with count := rowCount (fun _ => 1) } rsumBody s

/-! ### Partials (R261 to R268) -/

/-- A partial row header (Table 13.1). -/
structure RowHdr where
  exp : Nat := 0
  sat : Bool := false
  nan : Bool := false
  sum : Nat := 0
deriving DecidableEq, Repr

/-- Read a header entry; reserved fields are ignored (R262). -/
def hdrOf (n : Nat) : RowHdr := { exp := bitsAt n 48 16, sat := bitAt n 41, nan := bitAt n 40, sum := bitsAt n 0 32 }

/-- Write a header entry. -/
def RowHdr.bits (h : RowHdr) : Nat := h.exp * 2 ^ 48 + h.sat.toNat * 2 ^ 41 + h.nan.toNat * 2 ^ 40 + h.sum

/-- A row is EMPTY: EXP 0, or SUM +0 for XCOMB and NORMALISE (R262). -/
def RowHdr.empty (h : RowHdr) : Bool := h.exp == 0 || h.sum == 0

/-- EMAX of R263. -/
def emaxOf (c : Nat) : Nat := if c = 3 then 15 else if c = 4 then 8 else if c = 5 then 4 else 2

/-- Floor of log2 of a non-zero magnitude m·2^e. -/
def log2Floor (m : Nat) (e : Int) : Int := (m.log2 : Int) + e

/-- The unlimited block scale X of R263, 0 where every element is zero. -/
def blockScale (emax : Nat) (xs : List Val) : Int :=
  let tops : List Int := xs.filterMap (fun (v : Val) =>
    match v with
    | .fin _ m e => if m = 0 then none else some (log2Floor m e)
    | _ => none)
  match tops.max? with
  | none => 0
  | some l => l - (emax : Int) + 127

/-- A block scale in the range of a scale byte. -/
def clampScale (x : Int) : Int := if x < 0 then 0 else if 254 < x then 254 else x

/-- One block of XPACK: scale byte, packed patterns, the new SUM and SAT (R263). -/
def packBlock (f : FloatFmt) (emax : Nat) (h : RowHdr) (es : List Val) : Nat × List Nat × RowHdr :=
  let full := fun (sum : Nat) => match fp32.decode sum with
    | .inf _ => true
    | _ => false
  if h.exp = 0 then
    let sum := fp32.encode ((fp32.decode h.sum).add .zero)
    (0, es.map (fun v => f.encode (if v.isFin then .zero else .nan)), { h with sum := sum, sat := h.sat || full sum })
  else
    let xs := es.map (fun v => if v.isFin then v.scale (32767 - (h.exp : Int)) else .zero)
    let raw := blockScale emax xs
    let sat := decide (254 < raw)
    let x := clampScale raw
    let ps := (es.zip xs).map (fun (p : Val × Val) =>
      if p.1.isFin then
        let c := f.encode (p.2.scale (127 - x))
        match f.decode c with
        | .fin _ _ _ => c
        | v => f.maxCode + v.isNeg.toNat * 2 ^ (f.ew + f.fw)
      else f.encode .nan)
    let written := (es.zip ps).map (fun (p : Val × Nat) => if p.1.isFin then f.decode p.2 else .zero)
    let sum := fp32.encode ((fp32.decode h.sum).add ((sumVals written).scale (x - 127)))
    (x.toNat, ps, { h with sum := sum, sat := h.sat || sat || full sum })

/-- One row of XPACK: the patterns, the scales and the header (R263). -/
def packRow (f : FloatFmt) (emax head : Nat) (init : Bool) (h : RowHdr) (row : List Nat) : List Nat × List Nat × RowHdr :=
  let vs := row.map xr.decode
  let h := if init then {} else h
  let h := if vs.any (fun v => !v.isFin) then { h with nan := true } else h
  let b := (row.filterMap (fun c =>
    let e := bitsAt c 15 16
    if (xr.decode c).isFin && !(xr.decode c).isZero then some e else none)).foldl Nat.max 0
  let h := if h.exp = 0 && b != 0 then { h with exp := Nat.min (b + head) 0xFFFE } else h
  (rowsOf vs 32 (vs.length / 32)).foldl (fun (acc : List Nat × List Nat × RowHdr) blk =>
    let (x, ps, h) := packBlock f emax acc.2.2 blk
    (acc.1 ++ ps, acc.2.1 ++ [x], h)) ([], [], h)

/-- Every XPACK or SFU command of a job that clamped or saturated marks its completion (R260). -/
def Dev.markClamped (d : Dev) (t : Nat) : Dev :=
  match d.tileJob t with
  | some (j, x) => d.setJob j { x with clamped := true }
  | none => d

/-- Tenant of the job of a tile. -/
def Dev.tileTenant (d : Dev) (t : Nat) : Nat := ((d.tileJob t).map (fun e => e.2.tenant)).getD 0

/-- XPACK (R263). -/
def xpackBody : TcwBody := fun t w => do
  let o := vecOf w
  let init := bitAt w 27
  let n ← TM.len t o.lenReg o.len
  let rows := n / o.row
  let a ← TM.operand t o.opA (4 * n) [1, 2] false
  let hsp ← TM.operand t o.opB (8 * rows) [1, 2] true
  let bytes := packedBytes o.fout n
  let dsp ← TM.operand t o.opD bytes [1, 2] true
  let at' := roundUp (dsp.start + bytes) 64
  let _ ← TM.operand t o.opD (at' + n / 32 - dsp.start) [1, 2] true
  let ssp : Span := ⟨dsp.kind, at', n / 32⟩
  TM.compute t 5 ([a] ++ (if init then [] else [hsp])) [dsp, ssp, hsp] (do
    let ab ← TM.read t 5 a
    let hb ← if init then pure [] else TM.read t 5 hsp
    let d ← get
    let head := ((d.tileJob t).map (fun e => e.2.headroom)).getD 48
    match fmtGet o.fout with
    | .int _ => pure ()
    | .float f => do
      let hs := unpack 64 rows hb
      let rs := (rowsOf (unpack 32 n ab) o.row rows).zipIdx.map (fun (p : List Nat × Nat) =>
        let h := hdrOf (hs.getD p.2 0)
        (packRow f (emaxOf o.fout) head init { h with sat := false } p.1, h.sat && !init))
      let sat := (rs.filter (fun r => r.1.2.2.sat)).length
      TM.writeAll t 5 [(dsp, pack (fmtBits o.fout) (rs.flatMap (fun r => r.1.1))),
          (ssp, (rs.flatMap (fun r => r.1.2.1)).map (BitVec.ofNat 8)),
          (hsp, pack 64 (rs.map (fun r => { r.1.2.2 with sat := r.1.2.2.sat || r.2 }.bits)))]
        (fun d => if sat = 0 then d else (d.bump 0x6810 2 (d.tileTenant t) 64 sat).markClamped t))
  pure none

/-- TCW XPACK. -/
def execXpack (t : TileId) (w : Tcw) (s : State) : Host.Outcome State Fault Refusal :=
  tcwStep t w { grp := 3, fn := 0x0B, regs := vecRegs
                legal := fun w => onlyBits w [(111, 28), (27, 27)] && (vecOf w).fmtLegal && (vecOf w).fin == 0xA &&
                  Nat.ble 3 (vecOf w).fout && Nat.ble (vecOf w).fout 7 && (vecOf w).row != 0 && (vecOf w).row % 32 == 0
                count := rowCount id }
    xpackBody s

/-- A row of a partial: its vector in FP32 patterns and its header. -/
structure PRow where
  v : List Nat
  h : RowHdr
deriving DecidableEq, Repr

/-- COMBINE of two rows (R267). -/
def combineRow (a b : PRow) : PRow :=
  let flags := fun (h : RowHdr) => { h with sat := a.h.sat || b.h.sat, nan := a.h.nan || b.h.nan }
  if a.h.empty then { b with h := flags b.h }
  else if b.h.empty then { a with h := flags a.h }
  else
    let e := Nat.max a.h.exp b.h.exp
    let sc := fun (x : Nat) (c : Nat) => ((fp32.decode c).scale ((x : Int) - e)).r32
    let add := fun (p q : Nat) => fp32.encode ((sc a.h.exp p).add (sc b.h.exp q))
    { v := List.zipWith add a.v b.v, h := flags { exp := e, sum := add a.h.sum b.h.sum } }

/-- NORMALISE of a row: the output patterns and the XR log-sum-exp (R268). -/
def normaliseRow (fo : Nat) (r : PRow) : List Nat × Nat :=
  let f := fmtGet fo
  if r.h.nan then (r.v.map (fun _ => f.encode .nan), xr.nanCode)
  else if r.h.empty then (r.v.map (fun _ => 0), 0xFFFF8000)
  else
    let s := fp32.decode r.h.sum
    let out := r.v.map (fun c => match f with
      | .float g => g.div (fp32.decode c) s
      | .int _ => 0)
    let lse := match s with
      | .fin false m e => if m = 0 then 0xFFFF8000 else lnXrScaled m (e + r.h.exp - 32767)
      | .fin true m _ => if m = 0 then 0xFFFF8000 else xr.nanCode
      | .inf false => xr.infCode
      | _ => xr.nanCode
    (out, lse)
where
  /-- ln of m·2^e rounded once to XR. -/
  lnXrScaled (m : Nat) (e : Int) : Nat := lnXr (.fin false m e)

/-- The rows of a partial of `rows` rows and `cols` columns (R261). -/
def partialOf (rows cols : Nat) (b : List Byte) : List PRow :=
  let vs := rowsOf (unpack 32 (rows * cols) b) cols rows
  let hs := unpack 64 rows (b.drop (4 * rows * cols))
  List.zipWith (fun v h => { v := v, h := hdrOf h }) vs hs

/-- The bytes of a partial. -/
def partialBytes (rs : List PRow) : List Byte :=
  pack 32 (rs.flatMap (fun r => r.v)) ++ pack 64 (rs.map (fun r => r.h.bits))

/-- XCOMB COMBINE (R267). -/
def combineBody : TcwBody := fun t w => do
  let o := vecOf w
  let n ← TM.len t o.lenReg o.len
  let rows := n / o.row
  let size := 4 * n + 8 * rows
  let a ← TM.operand t o.opA size [1, 2] false
  let b ← TM.operand t o.opB size [1, 2] false
  let dsp ← TM.operand t o.opD size [1, 2] true
  TM.compute t 5 [a, b] [dsp] (do
    let ab ← TM.read t 5 a
    let bb ← TM.read t 5 b
    TM.write t 5 dsp (partialBytes (List.zipWith combineRow (partialOf rows o.row ab) (partialOf rows o.row bb))))
  pure none

/-- XCOMB NORMALISE (R268). -/
def normaliseBody : TcwBody := fun t w => do
  let o := vecOf w
  let n ← TM.len t o.lenReg o.len
  let rows := n / o.row
  let a ← TM.operand t o.opA (4 * n + 8 * rows) [1, 2] false
  let b ← TM.operand t o.opB (4 * rows) [1, 2] true
  let dsp ← TM.operand t o.opD (packedBytes o.fout n) [1, 2] true
  TM.compute t 5 [a] [dsp, b] (do
    let ab ← TM.read t 5 a
    let rs := (partialOf rows o.row ab).map (normaliseRow o.fout)
    TM.writeAll t 5 [(dsp, pack (fmtBits o.fout) (rs.flatMap (fun r => r.1))), (b, pack 32 (rs.map (fun r => r.2)))])
  pure none

/-- The check of XCOMB: MODE 0b10 and 0b11 are reserved. -/
def xcombLegal (w : Nat) : Bool :=
  let o := vecOf w
  let mode := bitsAt w 26 2
  onlyBits w [(111, 26)] && o.fmtLegal && o.fin == 0 && o.row != 0 && Nat.ble mode 1 &&
    Nat.ble o.fout (if mode = 0 then 0 else 7)

/-- Element counts of XCOMB: whole rows, and an even LEN (R233, Table 13.2). -/
def xcombCount (x : Tile) (w : Nat) : Bool := rowCount id x w && vecLen x w % 2 == 0

/-- XCOMB, one row of the table for each MODE; `other` is the MODE of the other row. -/
def xcombCmd (other : Nat) : Cmd :=
  { grp := 3, fn := 0x0A, mine := fun w => bitsAt w 26 2 != other, regs := vecRegs, legal := xcombLegal, count := xcombCount }

/-- TCW XCOMB, MODE COMBINE. -/
def execXcombCombine (t : TileId) (w : Tcw) (s : State) : Host.Outcome State Fault Refusal :=
  tcwStep t w (xcombCmd 1) combineBody s

/-- TCW XCOMB, MODE NORMALISE. -/
def execXcombNormalise (t : TileId) (w : Tcw) (s : State) : Host.Outcome State Fault Refusal :=
  tcwStep t w (xcombCmd 0) normaliseBody s

end Sys2Proof.Machine
end

