-- ==== Sys2Proof/Machine/Sfu.lean ====
section
/-! DEFINITION. The special-function unit: images of tables and micro-programs, mask descriptors, the functions of
Table 14.1 (chapters 13 and 14). -/

namespace Sys2Proof.Machine

/-! ### Images (R282, R285) -/

/-- Key of a slot: tenant, kind (table or program), number. -/
def sfuKey (tenant : Nat) (prog : Bool) (slot : Nat) : Nat := tenant * 16 + (if prog then 8 else 0) + slot

/-- An image as a number, and the fields of a table's header (Table 14.3). -/
structure TabImg where
  n : Nat
  fin : Nat
  fout : Nat
  segmode : Nat
  ood : Nat
  sym : Nat
  segbits : Nat
  segments : Nat
  fixups : Nat
  lo : Nat
  hi : Nat
  scale : Nat
  emin : Nat
deriving DecidableEq, Repr

/-- Read a table image. -/
def tabOf (b : List Byte) : TabImg :=
  let n := leNat b
  { n := n, fin := bitsAt n 500 4, fout := bitsAt n 496 4, segmode := bitsAt n 494 2, ood := bitsAt n 492 2
    sym := bitsAt n 490 2, segbits := bitsAt n 486 4, segments := bitsAt n 475 11, fixups := bitsAt n 462 13
    lo := bitsAt n 416 32, hi := bitsAt n 384 32, scale := bitsAt n 352 32, emin := bitsAt n 344 8 }

/-- Coefficient c_j of segment i. -/
def TabImg.coef (x : TabImg) (i j : Nat) : Val := fp32.decode (bitsAt x.n (512 + 128 * i + 32 * j) 32)

/-- Fix-up entry i. -/
def TabImg.fix (x : TabImg) (i : Nat) : Nat := bitsAt x.n (512 + 128 * x.segments + 64 * i) 64

/-- The image with its CRC field read as zero. -/
def zeroCrc (b : List Byte) : List Byte := List.replicate 4 0 ++ b.drop 4

/-- The check of the final segment of a table image (R282). -/
def tabOk (b : List Byte) : Bool :=
  let x := tabOf b
  let lo := fp32.decode x.lo
  let hi := fp32.decode x.hi
  let sc := fp32.decode x.scale
  Nat.ble 64 b.length && b.length == 64 + 16 * x.segments + 8 * x.fixups && bitsAt x.n 0 32 == crc32 (zeroCrc b) &&
    bitsAt x.n 504 8 == 1 && Nat.ble x.fin 9 && Nat.ble x.fout 9 && Nat.ble x.segmode 1 && Nat.ble x.ood 2 &&
    (if x.segmode = 0 then x.sym == 0 && x.segbits == 0 && x.emin == 0 && sc.isFin && !sc.isNeg && !sc.isZero
     else Nat.ble x.sym 2 && Nat.ble x.segbits 8 && x.scale == 0 && (x.sym != 0 || bitAt x.lo 31 == false)) &&
    Nat.ble 1 x.segments && Nat.ble x.segments 1024 && Nat.ble x.fixups 4096 && bitsAt x.n 448 14 == 0 &&
    lo.isFin && hi.isFin && !hi.lt lo && bitsAt x.n 32 312 == 0 &&
    (List.range x.fixups).all (fun i =>
      let e := x.fix i
      bitsAt e 0 16 == 0 && decide (bitsAt e 32 32 < 2 ^ fmtBits x.fin) && decide (bitsAt e 16 16 < 2 ^ fmtBits x.fout) &&
        (i == 0 || decide (bitsAt (x.fix (i - 1)) 32 32 < bitsAt e 32 32)))

/-- Number of steps of a program image. -/
def progSteps (b : List Byte) : Nat := bitsAt (leNat (b.take 16)) 113 7

/-- Step i of a program image. -/
def progStep (b : List Byte) (i : Nat) : Nat := leNat ((b.drop (80 + 4 * i)).take 4)

/-- The check of the final segment of a micro-program image (R285). -/
def progOk (b : List Byte) : Bool :=
  let h := leNat (b.take 16)
  let steps := progSteps b
  Nat.ble 16 b.length && Nat.ble 1 steps && Nat.ble steps 64 && b.length == 80 + 4 * steps && bitsAt h 120 8 == 1 &&
    bitsAt h 32 81 == 0 && bitsAt h 0 32 == crc32 (zeroCrc b) &&
    (List.range steps).all (fun i =>
      let w := progStep b i
      let op := bitsAt w 26 6
      Nat.ble 1 op && Nat.ble op 0x13 && bitsAt w 0 10 == 0 &&
        (op != 0x0F || (Nat.ble 1 (bitsAt w 10 4) && Nat.ble (bitsAt w 10 4) 7)))

/-! ### Tables (R283) -/

/-- The output of the fix-up whose input is a pattern. -/
def TabImg.fixup (x : TabImg) (pat : Nat) : Option Nat :=
  ((List.range x.fixups).find? (fun i => bitsAt (x.fix i) 32 32 == pat)).map (fun i => bitsAt (x.fix i) 16 16)

/-- The polynomial of a segment. -/
def TabImg.poly (x : TabImg) (k : Nat) (t : Val) : Val :=
  Val.fma32 (Val.fma32 (Val.fma32 (x.coef k 3) t (x.coef k 2)) t (x.coef k 1)) t (x.coef k 0)

/-- Segment and argument for an input in the domain. -/
def TabImg.locate (x : TabImg) (v : Val) : Nat × Val :=
  let last := x.segments - 1
  if x.segmode = 0 then
    let u := ((v.sub (fp32.decode x.lo)).r32.mul (fp32.decode x.scale)).r32
    let k := match u.floor with
      | .fin _ m e => Nat.min (if 0 ≤ e then m * 2 ^ e.toNat else m / 2 ^ (-e).toNat) last
      | _ => last
    (k, (u.sub (natVal k)).r32)
  else
    let c := fp32.encode v % 2 ^ 31
    let e : Nat := c / 2 ^ 23
    let f : Nat := c % 2 ^ 23
    let sb := 23 - x.segbits
    let k : Int := ((e : Int) - (x.emin : Int)) * ((2 ^ x.segbits : Nat) : Int) + ((f >>> sb : Nat) : Int)
    if k < 0 then (0, .zero)
    else if (last : Int) < k then (last, .one)
    else (k.toNat, .fin false (f % 2 ^ sb) (-(sb : Int)))

/-- TABLE on one element: pattern in FMTIN to pattern in FMTOUT. -/
def TabImg.eval (x : TabImg) (pat : Nat) : Nat :=
  let fi := fmtGet x.fin
  let fo := fmtGet x.fout
  let v := fi.decode pat
  if v.isNan then fo.encode .nan
  else
    match x.fixup pat with
    | some o => o
    | none =>
      let lo := fp32.decode x.lo
      let hi := fp32.decode x.hi
      let below := v.lt lo
      let above := hi.lt v
      if (below || above) && x.ood == 1 then fo.encode .nan
      else if (below || above) && x.ood == 2 then fo.encode .zero
      else
        let v := if below then lo else if above then hi else v
        let (k, t) := x.locate v
        let y := x.poly k t
        let y := if x.segmode == 1 && x.sym == 1 && v.lt .zero then y.neg else y
        fo.encode y

/-- A table applied to an FP32 value, its result read in FP32 (R286, R288). -/
def TabImg.eval32 (x : TabImg) (v : Val) : Val := (fmtGet x.fout).decode (x.eval (fp32.encode v))

/-! ### Mask descriptors (Table 13.3, R270 to R273) -/

/-- The fields of a mask descriptor. -/
structure MaskDesc where
  select : Bool := false
  causal : Bool := false
  bmpEn : Bool := false
  sel : Nat := 0
  bmp : Nat := 0
  qposReg : Nat := 0
  qdiv : Nat := 1
  kposReg : Nat := 0
  limReg : Nat := 0
  ncolReg : Nat := 0
  window : Nat := 0
  sinkTok : Nat := 0
deriving DecidableEq, Repr

/-- Read a descriptor. -/
def maskOf (n : Nat) : MaskDesc :=
  { select := bitsAt n 252 4 == 1, causal := bitAt n 251, bmpEn := bitAt n 250, sel := bitsAt n 240 10
    bmp := bitsAt n 230 10, qposReg := bitsAt n 226 4, qdiv := bitsAt n 218 8, kposReg := bitsAt n 214 4
    limReg := bitsAt n 210 4, ncolReg := bitsAt n 206 4, window := bitsAt n 174 32, sinkTok := bitsAt n 142 32 }

/-- No reserved value and no reserved field in use (R273). -/
def maskOk (n : Nat) : Bool :=
  let x := maskOf n
  Nat.ble (bitsAt n 252 4) 1 && bitsAt n 0 142 == 0 && Nat.ble 1 x.qdiv && Nat.ble x.qdiv 128 &&
    (x.select || (x.sel == 0 && x.limReg == 0)) && (x.bmpEn || x.bmp == 0)

/-- A descriptor with the registers and vectors that it names, as they stand at issue (R270, R271). -/
structure MaskCtx where
  desc : MaskDesc
  qpos0 : Nat
  kpos0 : Nat
  ncol : Nat
  pages : List Nat
  bmp : Nat
deriving DecidableEq, Repr

/-- QPOS(r). -/
def MaskCtx.qpos (x : MaskCtx) (r : Nat) : Nat := (x.qpos0 + r / x.desc.qdiv) % 2 ^ 64

/-- KPOS(c), none for a column with no page. -/
def MaskCtx.kpos (x : MaskCtx) (c : Nat) : Option Nat :=
  if x.desc.select then (x.pages[c / 64]?).map (fun n => (64 * n + c % 64) % 2 ^ 64) else some ((x.kpos0 + c) % 2 ^ 64)

/-- Element (r, c) of rows of `row` elements is masked (R271). -/
def MaskCtx.masked (x : MaskCtx) (row r c : Nat) : Bool :=
  let q := x.qpos r
  (x.desc.ncolReg != 0 && Nat.ble x.ncol c) ||
    (match x.kpos c with
     | none => true
     | some k => (x.desc.causal && decide (q < k)) ||
        (x.desc.window != 0 && Nat.ble (k + x.desc.window) q && Nat.ble x.desc.sinkTok k)) ||
    (x.desc.bmpEn && bitAt x.bmp (r * row + c))

/-- Bytes of a span in a store or in memory, read by a unit of the tile; bad data of memory is SPM_UE (R222, R223). -/
def TM.fetch (t unit : Nat) (s : Span) : TM (List Byte) := do
  if s.len = 0 then pure []
  else if s.kind = 3 then do
    let d ← get
    match d.tileJob t with
    | none => throw .wait
    | some (_, x) =>
      match d.engRead x.tenant x.pasid s.start s.len (d.tileReq t 0 8) with
      | (.wait, d) => do
        set d
        throw .wait
      | (.own, d) => do
        set d
        throw .own
      | (.data r, d) => do
        let d := d.unstall t 8
        if r.bad.isEmpty then do
          set d
          pure r.bytes
        else do
          set ((d.bump 0x5810 4 0 32).countUe t 1)
          throw (.spm 0x12 0 (sourceOf unit) 0)
  else TM.read t unit s

/-- The numbers of the bits that are 1 in a vector, from bit `lo` up to but not including bit `hi`; the bytes start at
byte lo/8. -/
def oneBits (b : List Byte) (lo hi : Nat) : List Nat :=
  let n := leNat b
  (List.range (hi - lo)).filterMap (fun i => if bitAt n (lo % 8 + i) then some (lo + i) else none)

/-- Hold a descriptor among the four read last. -/
def holdMask (l : List MaskEntry) (e : MaskEntry) : List MaskEntry :=
  ((l.filter (fun (x : MaskEntry) => !(x.handle == e.handle && x.off == e.off))) ++ [e]).reverse.take 4 |>.reverse

/-- The descriptor that OPB names: its span, its fields with registers and vectors read, and the spans of those. The
four descriptors read last are held (R272). -/
def TM.mask (t opB elems : Nat) : TM (MaskCtx × List Span) := do
  let sp ← TM.operand t opB 32 [1, 2, 3] false
  let d ← get
  let x := d.tile t
  let h := opB / 16
  let off := x.s (opB % 16)
  let n ← match x.masks.find? (fun e => e.handle == h && e.off == off) with
    | some e => pure e.desc
    | none => do
      TM.hazard t [sp] []
      let b ← TM.fetch t 4 sp
      pure (leNat b)
  TM.need (maskOk n) (.fault 0x0F 0)
  TM.upd (fun d => d.updTile t (fun x => { x with masks := holdMask x.masks { handle := h, off := off, desc := n } }))
  let m := maskOf n
  TM.freeRegs t ([m.qposReg, m.kposReg, m.limReg, m.ncolReg] ++ (if m.select then [offReg m.sel] else []) ++
    (if m.bmpEn then [offReg m.bmp] else []))
  let k0 := x.s m.kposReg
  let lim := x.s m.limReg
  let selLen := if lim ≤ k0 then 0 else ceilDiv lim 8 - k0 / 8
  if m.select then TM.handle t m.sel else pure ()
  if m.bmpEn then TM.handle t m.bmp else pure ()
  match (if m.select then x.operandAt m.sel (k0 / 8) selLen [1, 2, 3] else some ⟨1, 0, 0⟩),
        (if m.bmpEn then x.operandAt m.bmp 0 (ceilDiv elems 8) [1, 2, 3] else some ⟨1, 0, 0⟩) with
  | some ss, some bs => do
    TM.hazard t [ss, bs] []
    let sb ← TM.fetch t 4 ss
    let bb ← TM.fetch t 4 bs
    pure ({ desc := m, qpos0 := x.s m.qposReg, kpos0 := k0, ncol := x.s m.ncolReg
            pages := oneBits sb k0 lim, bmp := leNat bb }, [sp, ss, bs])
  | _, _ => TM.fault 0x0F

/-! ### Micro-programs (R286) -/

/-- What a micro-program sees of its element. -/
structure ProgEnv where
  l0 : Val
  l1 : Val := .zero
  qpos : Nat
  kpos : Nat
  pair : Val
  col : Nat
deriving DecidableEq, Repr

/-- One step on the registers L0 to L7. -/
def progRun1 (img : List Byte) (tabs : KMap TabImg) (env : ProgEnv) (l : List Val) (w : Nat) : List Val :=
  let g := fun (lo : Nat) => l.getD (bitsAt w lo 3) .zero
  let a := g 20
  let b := g 17
  let c := g 14
  let k := bitsAt w 10 4
  let dIdx := bitsAt w 23 3
  let r : Val := match bitsAt w 26 6 with
    | 0x01 => a
    | 0x02 => fp32.decode (leNat ((img.drop (16 + 4 * k)).take 4))
    | 0x03 => (a.add b).r32
    | 0x04 => (a.sub b).r32
    | 0x05 => (a.mul b).r32
    | 0x06 => Val.fma32 a b c
    | 0x07 => a.min b
    | 0x08 => a.max b
    | 0x09 => if a.lt b then c else l.getD dIdx .zero
    | 0x0A => builtin32 0x01 a
    | 0x0B => builtin32 0x04 a
    | 0x0C => builtin32 0x05 a
    | 0x0D => builtin32 0x06 a
    | 0x0E => a.floor
    | 0x0F => match KMap.find tabs k with
      | some x => x.eval32 a
      | none => .nan
    | 0x10 => (natVal env.qpos).r32
    | 0x11 => (natVal env.kpos).r32
    | 0x12 => env.pair
    | _ => (natVal env.col).r32
  l.set dIdx r

/-- The result of a micro-program for an element. -/
def progRun (img : List Byte) (tabs : KMap TabImg) (env : ProgEnv) : Val :=
  let l := [env.l0, env.l1, .zero, .zero, .zero, .zero, .zero, .zero]
  (((List.range (progSteps img)).map (progStep img)).foldl (progRun1 img tabs env) l).getD 0 .zero

/-- Table slots that a program's TBL steps name. -/
def progTabs (img : List Byte) : List Nat :=
  ((List.range (progSteps img)).map (progStep img)).filterMap (fun w =>
    if bitsAt w 26 6 = 0x0F then some (bitsAt w 10 4) else none)

/-! ### Slots (R293 to R295) -/

/-- The image of a slot in the generation that a job latched, none where it holds none. -/
def Dev.sfuImage (d : Dev) (x : Job) (prog : Bool) (slot : Nat) : Option (List Byte) :=
  match KMap.find x.gens (sfuKey x.tenant prog slot) with
  | none => none
  | some g => (((d.sfu.get (sfuKey x.tenant prog slot) {}).held.find? (fun e => e.gen == g)).map (·.bytes))

/-- Touch an image in the cache of a tile's SFU: the least recently used gives way (R294). -/
def touch (l : List (Nat × Nat)) (e : Nat × Nat) (cap : Nat) : List (Nat × Nat) :=
  ((l.filter (fun x => x != e)) ++ [e]).drop ((l.filter (fun x => x != e)).length + 1 - cap)

/-- Name an image of a slot (R294, R295). -/
def TM.image (t : Nat) (prog : Bool) (slot : Nat) : TM (List Byte) := do
  let d ← get
  match d.tileJob t with
  | none => throw .wait
  | some (_, x) =>
    match d.sfuImage x prog slot with
    | none => TM.fault 0x10
    | some b => do
      let e := (slot, x.gens.get (sfuKey x.tenant prog slot) 0)
      set (d.updTile t (fun y => if prog then { y with sfuProgs := touch y.sfuProgs e 4 }
        else { y with sfuTabs := touch y.sfuTabs e 2 }))
      pure b

/-- Name a table slot for use in FP32: its input format is FP32. -/
def TM.table32 (t slot : Nat) : TM TabImg := do
  let b ← TM.image t false slot
  TM.need ((tabOf b).fin == 0) (.fault 0x10 0)
  pure (tabOf b)

/-- Name a program slot and the tables of its TBL steps. -/
def TM.program (t slot : Nat) : TM (List Byte × KMap TabImg) := do
  let b ← TM.image t true slot
  let tabs ← (progTabs b).foldlM (fun (m : KMap TabImg) s => do
    let x ← TM.table32 t s
    pure (m.put s x)) []
  pure (b, tabs)

/-! ### The payload (R279) -/

/-- SFU fields of the payload. -/
structure SfuOp where
  mask : Bool
  slot : Nat
  act : Nat
  gain : Bool
deriving DecidableEq, Repr

/-- Read the fields. -/
def sfuOf (w : Nat) : SfuOp := { mask := bitAt w 27, slot := bitsAt w 24 3, act := bitsAt w 21 3, gain := bitAt w 20 }

/-- Which fields a function may use. -/
structure SfuUse where
  fin : Nat → Bool := fun c => Nat.ble c 7
  fout : Nat → Bool := fun c => Nat.ble c 7
  mask : Bool := false
  slot : Bool := false
  slotNeeded : Bool := false
  gated : Bool := false
  gain : Bool := false

/-- The check of an SFU command (R278, R279). -/
def sfuLegal (u : SfuUse) (w : Nat) : Bool :=
  let o := vecOf w
  let f := sfuOf w
  onlyBits w [(111, 20)] && (o.lenReg != 0 || o.len != 0) && u.fin o.fin && u.fout o.fout &&
    (u.mask || !f.mask) && (u.slot || u.gated || f.slot == 0) && (!u.slotNeeded || f.slot != 0) &&
    (if u.gated then Nat.ble f.act 4 && (Nat.ble 3 f.act == (f.slot != 0)) else f.act == 0) &&
    (u.gain || !f.gain) && (u.gated || f.mask || f.gain || o.opB == 0)

/-- An SFU command by function code: elementwise counts, or those of a row function with its outputs for a row. -/
def sfuCmd (fn : Nat) (u : SfuUse) (count : Tile → Nat → Bool := eltCount) : Cmd :=
  { grp := 4, fn := fn, regs := vecRegs, legal := sfuLegal u, count := count }

/-- Counts of a row function: with GAIN, OPB holds ROW gains in FMTIN (R233, R279). -/
def gainCount (perRow : Nat → Nat) (x : Tile) (w : Nat) : Bool :=
  rowCount perRow x w && (!(sfuOf w).gain || countOk (vecOf w).fin ((vecOf w).rowLen (vecLen x w)))

/-- Formats of Table 14.1: floats; floats and XR. -/
def fmtXr (c : Nat) : Bool := Nat.ble c 7 || c == 0xA

/-- Bytes of two spans overlap. -/
def Span.overlaps (a b : Span) : Bool :=
  a.kind == b.kind && decide (0 < a.len) && decide (0 < b.len) && decide (a.start < b.start + b.len) &&
    decide (b.start < a.start + a.len)

/-- OPD overlaps no input but as R277 permits. `wa`, `wd`: widths of OPA and OPD. -/
def opdOk (dsp a : Span) (others : List Span) (wa wd : Nat) : Bool :=
  (!dsp.overlaps a || (dsp.start == a.start && wa == wd)) && !others.any dsp.overlaps

/-- Write the spans of OPD, whose bytes are free where it overlaps an input (R277). -/
def TM.putOpd (t : Nat) (ok : Bool) (l : List (Span × List Byte)) : TM Unit := do
  if ok then TM.writeAll t 4 l
  else do
    let d ← get
    let (l, d) := l.foldl (fun (acc : List (Span × List Byte) × Dev) e =>
      let (v, d) := acc.2.freeBelow (256 ^ e.1.len)
      (acc.1 ++ [(e.1, leBytes v e.1.len)], d)) ([], d)
    set d
    TM.writeAll t 4 l

/-- Write OPD. -/
def TM.writeOpd (t : Nat) (dsp a : Span) (others : List Span) (wa wd : Nat) (bs : List Byte) : TM Unit :=
  TM.putOpd t (opdOk dsp a others wa wd) [(dsp, bs)]

/-- Elements of OPA as patterns and the two operand spans of an elementwise command. -/
def elemBody (f : Nat → Nat → Val → Nat → Nat) : TcwBody := fun t w => do
  let o := vecOf w
  let n ← TM.len t o.lenReg o.len
  let a ← TM.operand t o.opA (packedBytes o.fin n) [1, 2] false
  let dsp ← TM.operand t o.opD (packedBytes o.fout n) [1, 2] true
  TM.compute t 4 [a] [dsp] (do
    let ab ← TM.read t 4 a
    let fi := fmtGet o.fin
    let out := (unpack fi.bits n ab).map (fun p => f o.fin o.fout (fi.decode p) p)
    TM.writeOpd t dsp a [] fi.bits (fmtBits o.fout) (pack (fmtBits o.fout) out))
  pure none

/-- A built-in function of Table 14.1; the neighbour of a FP32 result is chosen by the input's FP32 or XR pattern. -/
def builtinBody (fn : Nat) : TcwBody :=
  elemBody (fun fin fout v p => builtin fn v (if fin = 0xA then 2 ^ 32 + p else fp32.encode v) (fmtGet fout))

/-- EXP. -/
def execExp (t : TileId) (w : Tcw) (s : State) : Host.Outcome State Fault Refusal :=
  tcwStep t w (sfuCmd 0x00 { fout := fmtXr }) (builtinBody 0x00) s

/-- EXP2. -/
def execExp2 (t : TileId) (w : Tcw) (s : State) : Host.Outcome State Fault Refusal :=
  tcwStep t w (sfuCmd 0x01 { fout := fmtXr }) (builtinBody 0x01) s

/-- LOG. -/
def execLog (t : TileId) (w : Tcw) (s : State) : Host.Outcome State Fault Refusal :=
  tcwStep t w (sfuCmd 0x03 { fin := fmtXr, fout := fmtXr }) (builtinBody 0x03) s

/-- LOG2. -/
def execLog2 (t : TileId) (w : Tcw) (s : State) : Host.Outcome State Fault Refusal :=
  tcwStep t w (sfuCmd 0x04 { fin := fmtXr, fout := fmtXr }) (builtinBody 0x04) s

/-- RCP. -/
def execRcp (t : TileId) (w : Tcw) (s : State) : Host.Outcome State Fault Refusal :=
  tcwStep t w (sfuCmd 0x05 { fin := fmtXr, fout := fmtXr }) (builtinBody 0x05) s

/-- RSQRT. -/
def execRsqrt (t : TileId) (w : Tcw) (s : State) : Host.Outcome State Fault Refusal :=
  tcwStep t w (sfuCmd 0x06 {}) (builtinBody 0x06) s

/-- SQRT. -/
def execSqrt (t : TileId) (w : Tcw) (s : State) : Host.Outcome State Fault Refusal :=
  tcwStep t w (sfuCmd 0x07 {}) (builtinBody 0x07) s

/-- TANH. -/
def execTanh (t : TileId) (w : Tcw) (s : State) : Host.Outcome State Fault Refusal :=
  tcwStep t w (sfuCmd 0x08 {}) (builtinBody 0x08) s

/-- LOGISTIC. -/
def execLogistic (t : TileId) (w : Tcw) (s : State) : Host.Outcome State Fault Refusal :=
  tcwStep t w (sfuCmd 0x09 {}) (builtinBody 0x09) s

/-! ### The attention exponential (R259, R287) -/

/-- The score that stands for a clamped one: 2^14 − 2^−10. -/
def clampMag (neg : Bool) : Val := .fin neg (2 ^ 24 - 1) (-10)

/-- The mask value −32,768. -/
def maskVal : Val := .fin true 32768 0

/-- Steps 2 to 6 of R259: the XR pattern, and whether the element is clamped. -/
def expScore (s : Val) : Nat × Bool :=
  match s with
  | .nan => (xr.nanCode, false)
  | s =>
    if !((maskVal).lt s) then (0, false)
    else if !(Val.lt (.fin true 16384 0) s) then (e32 (clampMag true), true)
    else if !(s.lt (.fin false 16384 0)) then (e32 (clampMag false), true)
    else (e32 s, false)
where
  /-- exp rounded once to XR. -/
  e32 (v : Val) : Nat := builtin 0x00 v 0 (.float xr)

/-- Elements of the rows: (row, column, index). -/
def grid (n row : Nat) : List (Nat × Nat × Nat) := (List.range n).map (fun i => (i / row, i % row, i))

/-- Count elements clamped (R260). -/
def Dev.countClamped (d : Dev) (t n : Nat) : Dev :=
  if n = 0 then d else (d.bump 0x6810 1 (d.tileTenant t) 64 n).markClamped t

/-- What a program sees of element (r, c), with or without a descriptor. -/
def progEnv (m : Option MaskCtx) (vals : List Val) (n row r c i : Nat) (l1 : Val) : ProgEnv :=
  let pc := c ^^^ 1
  { l0 := vals.getD i .zero, l1 := l1
    qpos := match m with
      | some x => x.qpos r
      | none => r
    kpos := match m with
      | some x => (x.kpos c).getD 0
      | none => c
    pair := if pc < row && r * row + pc < n then vals.getD (r * row + pc) .zero else .zero
    col := c }

/-- The descriptor of a command whose MASK is 1. -/
def TM.maskIf (t : Nat) (use : Bool) (opB elems : Nat) : TM (Option MaskCtx × List Span) := do
  if use then do
    let (m, sp) ← TM.mask t opB elems
    pure (some m, sp)
  else pure (none, [])

/-- Whether element (r, c) is masked. -/
def maskedAt (m : Option MaskCtx) (row r c : Nat) : Bool := m.any (fun x => x.masked row r c)

/-- EXPX. -/
def expxBody : TcwBody := fun t w => do
  let o := vecOf w
  let f := sfuOf w
  let n ← TM.len t o.lenReg o.len
  let row := o.rowLen n
  let a ← TM.operand t o.opA (packedBytes o.fin n) [1, 2] false
  let dsp ← TM.operand t o.opD (packedBytes o.fout n) [1, 2] true
  let prog ← if f.slot = 0 then pure none else some <$> TM.program t f.slot
  let (m, sp) ← TM.maskIf t f.mask o.opB n
  TM.compute t 4 (a :: sp) [dsp] (do
    let ab ← TM.read t 4 a
    let fi := fmtGet o.fin
    let vals := (unpack fi.bits n ab).map fi.decode
    let out := (grid n row).map (fun (r, c, i) =>
      let s := match prog with
        | some (b, tabs) => progRun b tabs (progEnv m vals n row r c i .zero)
        | none => vals.getD i .zero
      expScore (if maskedAt m row r c then maskVal else s))
    TM.upd (fun d => d.countClamped t (out.filter (·.2)).length)
    TM.writeOpd t dsp a sp fi.bits 32 (pack 32 (out.map (·.1))))
  pure none

/-- TCW EXPX. -/
def execExpx (t : TileId) (w : Tcw) (s : State) : Host.Outcome State Fault Refusal :=
  tcwStep t w (sfuCmd 0x02 { fin := fun c => Nat.ble c 2, fout := fun c => c == 0xA, mask := true, slot := true }) expxBody s

/-! ### TABLE, PROG and GATED (R283, R286, R288) -/

/-- TABLE: the formats of the command equal the image's. -/
def tableBody : TcwBody := fun t w => do
  let o := vecOf w
  let n ← TM.len t o.lenReg o.len
  let a ← TM.operand t o.opA (packedBytes o.fin n) [1, 2] false
  let dsp ← TM.operand t o.opD (packedBytes o.fout n) [1, 2] true
  let b ← TM.image t false (sfuOf w).slot
  let x := tabOf b
  TM.need (x.fin == o.fin && x.fout == o.fout) (.fault 0x10 0)
  TM.compute t 4 [a] [dsp] (do
    let ab ← TM.read t 4 a
    TM.writeOpd t dsp a [] (fmtBits o.fin) (fmtBits o.fout)
      (pack (fmtBits o.fout) ((unpack (fmtBits o.fin) n ab).map x.eval)))
  pure none

/-- TCW TABLE. -/
def execTable (t : TileId) (w : Tcw) (s : State) : Host.Outcome State Fault Refusal :=
  tcwStep t w (sfuCmd 0x28 { fin := fun c => Nat.ble c 9, fout := fun c => Nat.ble c 9, slot := true, slotNeeded := true })
    tableBody s

/-- PROG: the program's result for every element; a descriptor gives it positions (R286). -/
def progBody : TcwBody := fun t w => do
  let o := vecOf w
  let f := sfuOf w
  let n ← TM.len t o.lenReg o.len
  let row := o.rowLen n
  let a ← TM.operand t o.opA (packedBytes o.fin n) [1, 2] false
  let dsp ← TM.operand t o.opD (packedBytes o.fout n) [1, 2] true
  let (b, tabs) ← TM.program t f.slot
  let (m, sp) ← TM.maskIf t f.mask o.opB n
  TM.compute t 4 (a :: sp) [dsp] (do
    let ab ← TM.read t 4 a
    let fi := fmtGet o.fin
    let fo := fmtGet o.fout
    let vals := (unpack fi.bits n ab).map fi.decode
    let out := (grid n row).map (fun (r, c, i) =>
      fo.encode (progRun b tabs (progEnv m vals n row r c i .zero)))
    TM.writeOpd t dsp a sp fi.bits fo.bits (pack fo.bits out))
  pure none

/-- TCW PROG. -/
def execProg (t : TileId) (w : Tcw) (s : State) : Host.Outcome State Fault Refusal :=
  tcwStep t w (sfuCmd 0x29 { mask := true, slot := true, slotNeeded := true }) progBody s

/-- A gate's activation: a table, a program, or a function of FP32. -/
inductive Gate where
  | fn (f : Val → Val)
  | prog (b : List Byte) (tabs : KMap TabImg)

/-- The activation that ACT names. -/
def TM.gate (t act slot : Nat) : TM Gate := do
  if act = 0 then pure (.fn silu32)
  else if act = 1 then pure (.fn gelu32)
  else if act = 2 then pure (.fn (fun v => v.max .zero))
  else if act = 3 then do
    let x ← TM.table32 t slot
    TM.need (x.fout == 0) (.fault 0x10 0)
    pure (.fn x.eval32)
  else do
    let (b, tabs) ← TM.program t slot
    pure (.prog b tabs)

/-- GATED. -/
def gatedBody : TcwBody := fun t w => do
  let o := vecOf w
  let f := sfuOf w
  let n ← TM.len t o.lenReg o.len
  let row := o.rowLen n
  let a ← TM.operand t o.opA (packedBytes o.fin n) [1, 2] false
  let b ← TM.operand t o.opB (packedBytes o.fin n) [1, 2] false
  let dsp ← TM.operand t o.opD (packedBytes o.fout n) [1, 2] true
  let g ← TM.gate t f.act f.slot
  TM.compute t 4 [a, b] [dsp] (do
    let ab ← TM.read t 4 a
    let bb ← TM.read t 4 b
    let fi := fmtGet o.fin
    let fo := fmtGet o.fout
    let va := (unpack fi.bits n ab).map fi.decode
    let vb := (unpack fi.bits n bb).map fi.decode
    let out := (grid n row).map (fun (r, c, i) =>
      fo.encode (match g with
        | .fn h => (h (va.getD i .zero)).mul (vb.getD i .zero)
        | .prog img tabs => progRun img tabs (progEnv none va n row r c i (vb.getD i .zero))))
    TM.writeOpd t dsp a [b] fi.bits fo.bits (pack fo.bits out))
  pure none

/-- TCW GATED. -/
def execGated (t : TileId) (w : Tcw) (s : State) : Host.Outcome State Fault Refusal :=
  tcwStep t w (sfuCmd 0x10 { gated := true }) gatedBody s

/-! ### Row functions (R289 to R292) -/

/-- The one-pass update of R289: count, mean, sum of squares; m + d/n, taken as (m·n + d)/n, is rounded once. -/
def meanStep (acc : Nat × Val × Val) (x : Val) : Nat × Val × Val :=
  let n := acc.1 + 1
  let m := acc.2.1
  let e := (x.sub m).r32
  let m' := ((m.mul (natVal n)).add e).div32 (natVal n)
  (n, m', Val.fma32 e (x.sub m').r32 acc.2.2)

/-- Mean and population variance of a row (R289). -/
def meanVar (xs : List Val) : Val × Val :=
  if xs.any (fun v => !v.isFin) then (.nan, .nan)
  else
    let (n, m, q) := xs.foldl meanStep (0, .zero, .zero)
    (m, (q.div32 (natVal n).r32).max .zero)

/-- A row function: LEN is a multiple of ROW; `fd`: FMTOUT elements for a row; `useGain`: OPB may hold gains. -/
def rowBody (perRow : Nat → Nat) (f : VecOp → Val → List Val → Option (List Val) → List Nat) : TcwBody := fun t w => do
  let o := vecOf w
  let g := (sfuOf w).gain
  let n ← TM.len t o.lenReg o.len
  let row := o.rowLen n
  let rows := n / row
  let outs := rows * perRow row
  let ev ← TM.s t o.sreg
  let a ← TM.operand t o.opA (packedBytes o.fin n) [1, 2] false
  let b ← if g then TM.operand t o.opB (packedBytes o.fin row) [1, 2] false else pure ⟨a.kind, a.start, 0⟩
  let dsp ← TM.operand t o.opD (packedBytes o.fout outs) [1, 2] true
  TM.compute t 4 [a, b] [dsp] (do
    let ab ← TM.read t 4 a
    let bb ← TM.read t 4 b
    let fi := fmtGet o.fin
    let vals := (unpack fi.bits n ab).map fi.decode
    let gains := if g then some ((unpack fi.bits row bb).map fi.decode) else none
    let out := (rowsOf vals row rows).flatMap (fun r => f o (fp32.decode (ev % 2 ^ 32)) r gains)
    TM.writeOpd t dsp a [b] fi.bits (fmtBits o.fout) (pack (fmtBits o.fout) out))
  pure none

/-- MEANVAR (R289). -/
def execMeanvar (t : TileId) (w : Tcw) (s : State) : Host.Outcome State Fault Refusal :=
  tcwStep t w (sfuCmd 0x18 { fout := fun c => c == 0 } (gainCount (fun _ => 2)))
    (rowBody (fun _ => 2) (fun _ _ r _ =>
      let (m, v) := meanVar r
      [fp32.encode m, fp32.encode v])) s

/-- The gain of column c. -/
def gainAt (g : Option (List Val)) (c : Nat) : Val :=
  match g with
  | some l => l.getD c .zero
  | none => .one

/-- LAYERNORM (R290). -/
def layerRow (o : VecOp) (eps : Val) (r : List Val) (g : Option (List Val)) : List Nat :=
  let (m, v) := meanVar r
  let q := builtin32 0x06 ((v.add eps).r32)
  r.zipIdx.map (fun (x, c) => (fmtGet o.fout).encode ((((x.sub m).r32.mul q).r32.mul (gainAt g c)).r32))

/-- TCW LAYERNORM. -/
def execLayernorm (t : TileId) (w : Tcw) (s : State) : Host.Outcome State Fault Refusal :=
  tcwStep t w (sfuCmd 0x19 { gain := true } (gainCount id)) (rowBody id layerRow) s

/-- RMSNORM (R290). -/
def rmsRow (o : VecOp) (eps : Val) (r : List Val) (g : Option (List Val)) : List Nat :=
  let sum := r.foldl (fun acc x => (acc.add (x.mul x).r32).r32) Val.zero
  let q := builtin32 0x06 (((sum.div32 (natVal r.length).r32).add eps).r32)
  r.zipIdx.map (fun (x, c) => (fmtGet o.fout).encode (((x.mul q).r32.mul (gainAt g c)).r32))

/-- TCW RMSNORM. -/
def execRmsnorm (t : TileId) (w : Tcw) (s : State) : Host.Outcome State Fault Refusal :=
  tcwStep t w (sfuCmd 0x1A { gain := true } (gainCount id)) (rowBody id rmsRow) s

/-- What SOFTMAX makes of a row (R291): probabilities, LSE in XR, flags, elements clamped. -/
structure SoftRow where
  p : List Nat
  lse : Nat
  flags : Nat
  clamped : Nat
deriving DecidableEq, Repr

/-- SOFTMAX of a row of masked scores. -/
def softRow (fo : Nat) (scores : List Val) : SoftRow :=
  let f := fmtGet fo
  let k := (scores.filter (fun v => v == .inf false)).length
  if scores.any Val.isNan then ⟨scores.map (fun _ => f.encode .nan), 0x7FFFC000, 4, 0⟩
  else if k != 0 then
    let one := match f with
      | .float g => g.div .one (natVal k)
      | .int _ => 0
    ⟨scores.map (fun v => if v == .inf false then one else 0), 0x7FFF8000, 2, 0⟩
  else
    let es := scores.map expScore
    let vs := es.map (fun e => xr.decode e.1)
    let z := rowSum xr.round vs
    let cl := (es.filter (·.2)).length
    if z.isZero then ⟨scores.map (fun _ => 0), 0xFFFF8000, 1, cl⟩
    else
      ⟨vs.map (fun v => match f with
        | .float g => g.div v z
        | .int _ => 0), lnXr z, if cl = 0 then 0 else 8, cl⟩

/-- SOFTMAX: probabilities, then the row records from the next 64-byte boundary (R292). -/
def softmaxBody : TcwBody := fun t w => do
  let o := vecOf w
  let f := sfuOf w
  let n ← TM.len t o.lenReg o.len
  let row := o.rowLen n
  let rows := n / row
  let a ← TM.operand t o.opA (packedBytes o.fin n) [1, 2] false
  let pb := packedBytes o.fout n
  let ps ← TM.operand t o.opD pb [1, 2] true
  let recAt := roundUp (ps.start + pb) 64
  let _ ← TM.operand t o.opD (recAt + 8 * rows - ps.start) [1, 2] true
  let rs : Span := ⟨ps.kind, recAt, 8 * rows⟩
  let (m, sp) ← TM.maskIf t f.mask o.opB n
  TM.compute t 4 (a :: sp) [ps, rs] (do
    let ab ← TM.read t 4 a
    let fi := fmtGet o.fin
    let vals := (unpack fi.bits n ab).map fi.decode
    let scores := (grid n row).map (fun (r, c, i) => if maskedAt m row r c then maskVal else vals.getD i .zero)
    let out := (rowsOf scores row rows).map (softRow o.fout)
    let cnt := fun (b : Nat) => (out.filter (fun x => x.flags == b)).length
    TM.upd (fun d =>
      let ten := d.tileTenant t
      let d := d.countClamped t (out.foldl (fun k x => k + x.clamped) 0)
      let add := fun (d : Dev) (sub n : Nat) => if n = 0 then d else d.bump 0x7040 sub ten 64 n
      add (add (add d 1 (cnt 1)) 2 (cnt 2)) 3 (cnt 4))
    let ok := opdOk ps a sp fi.bits (fmtBits o.fout) && !(a :: sp).any rs.overlaps
    TM.putOpd t ok [(ps, pack (fmtBits o.fout) (out.flatMap (fun x => x.p))),
      (rs, pack 64 (out.map (fun x => x.lse * 2 ^ 32 + x.flags)))])
  pure none

/-- TCW SOFTMAX. -/
def execSoftmax (t : TileId) (w : Tcw) (s : State) : Host.Outcome State Fault Refusal :=
  tcwStep t w (sfuCmd 0x20 { fin := fun c => Nat.ble c 2, mask := true } (rowCount id)) softmaxBody s

/-! ### Installing and unloading images (R293, R296) -/

/-- A slot still holds an image other than its current one (R293). -/
def SfuSlot.retaining (x : SfuSlot) : Bool := x.held.any (fun g => x.cur != some g.gen)

/-- Install an image as the slot's new generation. -/
def Dev.sfuInstall (d : Dev) (tenant : Nat) (prog : Bool) (slot : Nat) (b : List Byte) : Dev :=
  let k := sfuKey tenant prog slot
  let x : SfuSlot := d.sfu.get k {}
  let g := x.gen + 1
  let d := { d with sfu := d.sfu.put k { held := x.held ++ [(⟨g, b⟩ : SfuGen)], cur := some g, gen := g } }
  (d.sfuRetire).bump 0x7040 5 tenant 32

/-- Empty a slot for later jobs. -/
def Dev.sfuUnload (d : Dev) (tenant : Nat) (prog : Bool) (slot : Nat) : Dev :=
  let k := sfuKey tenant prog slot
  ({ d with sfu := d.sfu.put k { d.sfu.get k {} with cur := none } }).sfuRetire

/-- SFU_UNLOAD is written: slot 1 to 7 (0 is reserved). -/
def execSfuUnload (tenant : FnId) (program : Bool) (slot : Fin 8) (s : State) : Host.Outcome State Fault Refusal :=
  onDev (fun d => if d.serving && slot.val != 0 then d.sfuUnload tenant.val program slot.val else d) s

end Sys2Proof.Machine
end

