-- ==== Sys2Proof/Machine/Walk.lean ====
section
/-! DEFINITION. Page-table walks (R159 to R164): the PASID context, the Sv48 and Sv57 tables, merged runs, the caches that
a walk fills. -/

namespace Sys2Proof.Machine

/-- The end of a walk: a leaf with its PTE, level and address, or a cause of Table 7.7 with the level. -/
inductive WalkEnd where
  | leaf (e : TlbEntry) (pte level addr : Nat)
  | fault (cause level : Nat)
deriving DecidableEq, Repr

/-- A walker's read: the number and whether it is uncorrectable (R162, Table 7.7); a corrected error counts in
tenant 0, and an uncorrectable one is no HBM_UE (R382, R400). -/
def Dev.walkRead (d : Dev) (pa len : Nat) : Nat × Bool × Dev :=
  let (r, m) := d.mem.readMarks pa len
  let d := ({ d with mem := m }).hbmErrors 0 0x83 none 0 r.corrected
  (leNat r.bytes, !r.bad.isEmpty, d)

/-- Bits of a PTE. -/
def pteV (p : Nat) : Bool := bitAt p 0
def pteR (p : Nat) : Bool := bitAt p 1
def pteW (p : Nat) : Bool := bitAt p 2
def pteX (p : Nat) : Bool := bitAt p 3
def pteU (p : Nat) : Bool := bitAt p 4
def pteG (p : Nat) : Bool := bitAt p 5
def pteA (p : Nat) : Bool := bitAt p 6
def pteD (p : Nat) : Bool := bitAt p 7
def ptePpn (p : Nat) : Nat := bitsAt p 10 44

/-- What a leaf refuses to an access (R161): user mode, R or W, then A and D. 0: nothing. -/
def leafCause (pte access : Nat) : Nat :=
  if !pteU pte then 2
  else if access = 1 && !pteW pte then 2
  else if access != 1 && !pteR pte then 2
  else if !pteA pte || (access == 1 && !pteD pte) then 3
  else 0

/-- The merged run around a 4 KiB leaf (R164): pages before it and pages in all. -/
def runOf (ptes : List Nat) (idx : Nat) : Nat × Nat :=
  let p := ptes.getD idx 0
  let fits := fun (n : Nat) =>
    let s := idx - idx % n
    let base := ptePpn (ptes.getD s 0)
    base % n == 0 && (List.range n).all (fun j =>
      let q := ptes.getD (s + j) 0
      pteV q && (pteR q || pteX q) && bitsAt q 0 10 == bitsAt p 0 10 && bitsAt q 54 10 == bitsAt p 54 10 &&
        ptePpn q == base + j)
  if fits 8 then (idx % 8, 8) else if fits 4 then (idx % 4, 4) else if fits 2 then (idx % 2, 2) else (0, 1)

/-- Who walks: tenant, PASID, ASID. -/
structure WalkFor where
  tenant : Nat
  pasid : Nat
  asid : Nat
deriving DecidableEq, Repr

/-- The translation that a leaf at a level gives: its first page, its pages and its first physical page. -/
def leafEntry (f : WalkFor) (pte vpn pages ppn : Nat) : TlbEntry :=
  { tenant := f.tenant, pasid := f.pasid, asid := f.asid, glob := pteG pte, vpn := vpn, pages := pages, ppn := ppn
    readable := pteR pte, writable := pteW pte, dirty := pteD pte }

/-- A leaf at a level (R161, R164). -/
def Dev.leafAt (d : Dev) (f : WalkFor) (va pte level addr : Nat) : WalkEnd × Dev :=
  let ppn := ptePpn pte
  let vpn := va / 4096
  if 2 < level then (.fault 5 level, d)
  else if level != 0 then
    let n := 2 ^ (9 * level)
    if ppn % n != 0 then (.fault 4 level, d)
    else (.leaf (leafEntry f pte (vpn - vpn % n) n ppn) pte level addr, d)
  else if bitAt pte 63 then (.leaf (leafEntry f pte (vpn - vpn % 16) 16 (ppn - ppn % 16)) pte level addr, d)
  else
    let (n, bad, d) := d.walkRead (addr - addr % 64) 64
    let idx := addr % 64 / 8
    let (back, pages) := if bad then (0, 1) else runOf ((List.range 8).map (fun i => bitsAt n (64 * i) 64)) idx
    (.leaf (leafEntry f pte (vpn - back) pages (ppn - back)) pte level addr, d)

/-- Walk the tables from the one at page `table`, which is of the level given (R161). The list holds the non-leaf
entries read, for the walk cache. The order of the checks of one entry is the model's, and a non-leaf entry with A, D or U
set is a pointer (log 93). -/
def Dev.descend (f : WalkFor) (va : Nat) : Nat → Dev → Nat → List WalkCacheEntry → WalkEnd × List WalkCacheEntry × Dev
  | level, d, table, acc =>
    let addr := table * 4096 + 8 * bitsAt va (12 + 9 * level) 9
    if d.hbmTop < addr + 8 then (.fault 8 level, acc, d)
    else
      let (pte, bad, d) := d.walkRead addr 8
      if bad then (.fault 0xA level, acc, d)
      else if !pteV pte then (.fault 1 level, acc, d)
      else if bitsAt pte 54 9 != 0 || (pteW pte && !pteR pte) then (.fault 4 level, acc, d)
      else
        let isLeaf := pteR pte || pteX pte
        if bitAt pte 63 && !(isLeaf && level == 0 && bitsAt pte 10 4 == 8) then (.fault 4 level, acc, d)
        else if isLeaf then
          let (e, d) := d.leafAt f va pte level addr
          (e, acc, d)
        else
          match level with
          | 0 => (.fault 4 0, acc, d)
          | below + 1 =>
            Dev.descend f va below d (ptePpn pte) (acc ++ [{
              tenant := f.tenant, pasid := f.pasid, asid := f.asid, level := below + 1, vpn := va / 2 ^ (12 + 9 * (below + 1))
              pte := pte }])

/-- The PASID context of a request (R159): the entry, or a cause. The Boolean says that it was read from memory. -/
def Dev.pasidCtx (d : Dev) (tenant pasid : Nat) : (Except Nat (Nat × Bool)) × Dev :=
  match d.stu.ctxCache.find? (fun e => e.tenant == tenant && e.pasid == pasid) with
  | some e => (.ok (e.entry, false), d)
  | none =>
    let base := d.obj 0x4010 0 tenant
    if base = 0 || Nat.ble (2 ^ d.obj 0x4011 0 tenant) pasid then (.error 7, d)
    else if d.hbmTop < base + 16 * pasid + 16 then (.error 8, d)
    else
      let (n, bad, d) := d.walkRead (base + 16 * pasid) 16
      if bad then (.error 0xA, d)
      else if !bitAt n 0 || bitsAt n 1 43 != 0 || bitsAt n 108 20 != 0 || !(bitsAt n 44 4 == 9 || bitsAt n 44 4 == 10) then
        (.error 7, d)
      else if d.hbmTop < bitsAt n 64 44 * 4096 + 4096 then (.error 8, d)
      else (.ok (n, true), d)

/-- A virtual address is canonical for a number of bits (R161). -/
def canonical (va bits : Nat) : Bool :=
  let top := va % 2 ^ 64 / 2 ^ (bits - 1)
  top == 0 || top == 2 ^ (65 - bits) - 1

/-- Hold an entry in a list of `cap`; a free choice gives way in a full one. -/
def holdIn {α : Type} (d : Dev) (l : List α) (cap : Nat) (e : α) : List α × Dev :=
  if l.length < cap then (l ++ [e], d)
  else
    let (i, d) := d.freeBelow l.length
    (l.eraseIdx i ++ [e], d)

/-- Hold what a walk that reached a usable leaf read (Table 7.3, R162). -/
def Dev.holdWalk (d : Dev) (tenant pasid : Nat) (ctx : Nat × Bool) (acc : List WalkCacheEntry) : Dev :=
  let d := if ctx.2 then
      let (l, d) := holdIn d d.stu.ctxCache 256 { tenant := tenant, pasid := pasid, entry := ctx.1 }
      { d with stu := { d.stu with ctxCache := l } }
    else d
  acc.foldl (fun (d : Dev) e =>
    let (l, d) := holdIn d d.stu.walkCache 1024 e
    { d with stu := { d.stu with walkCache := l } }) d

/-- A leaf that may be cached: some access may use it. -/
def leafUsable (pte : Nat) : Bool := pteU pte && pteA pte && pteR pte

/-- A whole walk for a tenant, PASID and address (R159, R161). -/
def Dev.walk (d : Dev) (tenant pasid va : Nat) : WalkEnd × Dev :=
  match d.pasidCtx tenant pasid with
  | (.error c, d) => (.fault c 7, d)
  | (.ok ctx, d) =>
    let n := ctx.1
    let sv48 := bitsAt n 44 4 == 9
    if !canonical va (if sv48 then 48 else 57) then (.fault 6 7, d)
    else
      let f : WalkFor := { tenant := tenant, pasid := pasid, asid := bitsAt n 48 16 }
      let top := if sv48 then 3 else 4
      let hit := [1, 2, 3, 4].findSome? (fun level =>
        d.stu.walkCache.find? (fun e => e.tenant == tenant && e.pasid == pasid && e.level == level &&
          e.vpn == va / 2 ^ (12 + 9 * level)))
      let (r, acc, d) := match hit with
        | some e => Dev.descend f va (e.level - 1) d (ptePpn e.pte) []
        | none => Dev.descend f va top d (bitsAt n 64 44) []
      match r with
      | .leaf e pte level addr => (.leaf e pte level addr, if leafUsable pte then d.holdWalk tenant pasid ctx acc else d)
      | r => (r, d)

end Sys2Proof.Machine
end

