-- ==== Sys2Proof/Machine/KvData.lean ====
section
/-! DEFINITION. Records of the KV page store (R244, R247 to R249): layouts, descriptors, trailers, addresses. -/

namespace Sys2Proof.Machine

/-- Bytes of a container by its code (Table 12.1). -/
def contBytes (code : Nat) : Nat := 16384 * 2 ^ code

/-- Payload bytes of a part (R244). -/
def partPayload (dim fmt : Nat) (mx : Bool) : Nat := 128 * dim * fmtBits fmt + (if mx then 32 * dim else 0)

/-- The container code of a payload, none when no container holds it with its trailer (R244). -/
def contOf (payload : Nat) : Option Nat := [0, 1, 2, 3].find? (fun c => Nat.ble (payload + 64) (contBytes c))

/-- Payload bytes of the key or value part of a sequence; a latent layout has the key part only (R255). -/
def Seq.payload (q : Seq) (value : Bool) : Nat :=
  partPayload (if value && q.dimV != 0 then q.dimV else q.dimK) q.fmt q.mx

/-- Rows of pages: one for each layer and group. -/
def Seq.rows (q : Seq) : Nat := q.layers * q.groups

/-- Index of a page (R248). -/
def Seq.index (q : Seq) (layer group page : Nat) : Nat := (layer * q.groups + group) * q.pageCap + page

/-- VA of a page descriptor and of a sketch (R248). -/
def Seq.descVa (q : Seq) (layer group page : Nat) : Nat := (q.ptBase + 16 * q.index layer group page) % 2 ^ 64
def Seq.sketchVa (q : Seq) (layer group page : Nat) : Nat := (q.skBase + 64 * q.index layer group page) % 2 ^ 64

/-- Bytes of the page table and of the sketch table, in whole 4 KiB pages. -/
def Seq.ptBytes (q : Seq) : Nat := roundUp (16 * q.rows * q.pageCap) 4096
def Seq.skBytes (q : Seq) : Nat := roundUp (64 * q.rows * q.pageCap) 4096

/-- The descriptor of a sequence (Table 12.1). -/
def Seq.bits (q : Seq) : Nat :=
  q.ptBase * 2 ^ 448 + q.skBase * 2 ^ 384 + q.tokens * 2 ^ 352 + q.pageCap * 2 ^ 328 + q.layers * 2 ^ 320 +
    q.groups * 2 ^ 313 + q.dimK * 2 ^ 306 + q.dimV * 2 ^ 299 + q.fmt * 2 ^ 295 + q.mx.toNat * 2 ^ 294 +
    q.contK * 2 ^ 292 + q.contV * 2 ^ 290 + q.sink * 2 ^ 282 + q.window * 2 ^ 266 + q.tenant * 2 ^ 260 + q.parent * 2 ^ 244

/-- The layout block of CREATE (R247), none when malformed: reserved and device fields zero, values in range. -/
def layoutOf (n tenant seq : Nat) : Option Seq :=
  let dimK := bitsAt n 306 7
  let dimV := bitsAt n 299 7
  let fmt := bitsAt n 295 4
  let mx := bitAt n 294
  let cap := bitsAt n 328 24
  let layers := bitsAt n 320 8
  let groups := bitsAt n 313 7
  let sink := bitsAt n 282 8
  let window := bitsAt n 266 16
  let ok := bitsAt n 352 160 == 0 && bitsAt n 290 4 == 0 && bitsAt n 0 266 == 0 &&
    Nat.ble 1 cap && Nat.ble cap 262144 && layers != 0 && Nat.ble 1 groups && Nat.ble groups 64 &&
    Nat.ble 1 dimK && Nat.ble dimK 64 && Nat.ble dimV 64 && Nat.ble 1 fmt && Nat.ble fmt 9 &&
    (!mx || (Nat.ble 3 fmt && Nat.ble fmt 8)) && Nat.ble sink cap && Nat.ble window cap
  match ok, contOf (partPayload dimK fmt mx), (if dimV = 0 then some 0 else contOf (partPayload dimV fmt mx)) with
  | true, some ck, some cv =>
    some { tenant := tenant, ptBase := 0, skBase := 0, tokens := 0, pageCap := cap, layers := layers, groups := groups
           dimK := dimK, dimV := dimV, fmt := fmt, mx := mx, contK := ck, contV := cv, sink := sink, window := window
           parent := seq, pages := 0 }
  | _, _, _ => none

/-- A page descriptor (Table 12.2). -/
structure PageDesc where
  key : Nat := 0
  val : Nat := 0
  st : Nat := 0
  pin : Bool := false
  sketched : Bool := false
  fill : Nat := 0
deriving DecidableEq, Repr

/-- The VA of a container from its field: shifted left by 14, sign-extended from bit 56. -/
def cvaOf (f : Nat) : Nat := (f * 16384 + (if bitAt f 42 then 2 ^ 64 - 2 ^ 57 else 0)) % 2 ^ 64

/-- The field of a container VA. -/
def cvaField (va : Nat) : Nat := bitsAt va 14 43

/-- A descriptor with no reserved value and no non-zero reserved field (R10). -/
def descOk (n : Nat) : Bool := bitsAt n 0 29 == 0 && decide (bitsAt n 38 4 < 3) && Nat.ble (bitsAt n 29 7) 64

/-- Read a descriptor. One that R10 rejects counts as ABSENT: none of its fields acts (log 64). -/
def descOf (n : Nat) : PageDesc :=
  if !descOk n then {}
  else
  { key := cvaOf (bitsAt n 85 43), val := cvaOf (bitsAt n 42 43), st := bitsAt n 38 4
    pin := bitAt n 37, sketched := bitAt n 36, fill := bitsAt n 29 7 }

/-- Write a descriptor. -/
def PageDesc.bits (x : PageDesc) : Nat :=
  cvaField x.key * 2 ^ 85 + cvaField x.val * 2 ^ 42 + x.st * 2 ^ 38 + x.pin.toNat * 2 ^ 37 + x.sketched.toNat * 2 ^ 36 +
    x.fill * 2 ^ 29

/-- STATE and FILL of an allocated page (R249). -/
def PageDesc.at' (x : PageDesc) (page tokens : Nat) : PageDesc :=
  if 64 * (page + 1) ≤ tokens then { x with st := 2, fill := 64 } else { x with st := 1, fill := tokens - 64 * page }

/-- A container trailer (Table 12.3). -/
structure Trailer where
  refs : Nat
  pins : Nat
  seq : Nat
  layer : Nat
  group : Nat
  page : Nat
  value : Bool
deriving DecidableEq, Repr

/-- Read a trailer. -/
def trailerOf (n : Nat) : Trailer :=
  { refs := bitsAt n 480 32, pins := bitsAt n 464 16, seq := bitsAt n 448 16, layer := bitsAt n 440 8
    group := bitsAt n 434 6, page := bitsAt n 416 18, value := bitAt n 415 }

/-- Write a trailer. -/
def Trailer.bits (x : Trailer) : Nat :=
  x.refs * 2 ^ 480 + x.pins * 2 ^ 464 + x.seq * 2 ^ 448 + x.layer * 2 ^ 440 + x.group * 2 ^ 434 + x.page * 2 ^ 416 +
    x.value.toNat * 2 ^ 415

/-- A live sequence of a tenant (R243). -/
def Dev.seqOf (d : Dev) (tenant n : Nat) : Option Seq :=
  match KMap.find d.kv.seqs n with
  | some q => if q.tenant == tenant then some q else none
  | none => none

end Sys2Proof.Machine
end

