-- ==== Sys2Proof/Machine/TileMove.lean ====
section
/-! DEFINITION. The MOVE group and the completion of outstanding tile commands (R168, R204, R207, R217, R218, R223, R255,
R349 to R351). A memory command stands in its DMA queue from issue, and is performed when it completes. -/

namespace Sys2Proof.Machine

/-- Fields that the MOVE functions share (Table 9.5). -/
structure MoveOp where
  queue : Nat
  src : Nat
  dst : Nat
  lenReg : Nat
  len : Nat
deriving DecidableEq, Repr

/-- Read the fields. -/
def moveOf (w : Nat) : MoveOp :=
  { queue := bitsAt w 110 2, src := bitsAt w 100 10, dst := bitsAt w 90 10, lenReg := bitsAt w 86 4, len := bitsAt w 64 22 }

/-- The check of LOAD, STORE and COPY. -/
def moveLegal (w : Nat) : Bool := onlyBits w [(111, 64)] && ((moveOf w).lenReg != 0 || (moveOf w).len != 0)

/-- Registers of LOAD, STORE and COPY. -/
def moveRegs (w : Nat) : List Nat := [offReg (moveOf w).src, offReg (moveOf w).dst, (moveOf w).lenReg]

/-- The length of a LOAD, STORE or COPY is one that Table 9.5 lists. -/
def moveCount (x : Tile) (w : Nat) : Bool := lenOk (x.lenOf (moveOf w).lenReg (moveOf w).len)

/-- LOAD, STORE and COPY by function code. -/
def moveCmd (fn : Nat) : Cmd := { grp := 1, fn := fn, regs := moveRegs, legal := moveLegal, count := moveCount }

/-- The spans that lie in the stores. -/
def inStores (l : List Span) : List Span := l.filter (fun s => s.kind != 3)

/-- LOAD, STORE and COPY by their operand kinds: they stand in their queue. -/
def moveBody (srcKinds dstKinds : List Nat) (op : Span → Span → MemOp) : TcwBody := fun t w => do
  let o := moveOf w
  let n ← TM.len t o.lenReg o.len
  let s ← TM.operand t o.src n srcKinds false
  let e ← TM.operand t o.dst n dstKinds true
  TM.enqueue t o.queue (op s e) (inStores [s]) (inStores [e]) []
  pure none

/-- TCW LOAD. -/
def execLoad (t : TileId) (w : Tcw) (s : State) : Host.Outcome State Fault Refusal :=
  tcwStep t w (moveCmd 0) (moveBody [3] [1, 2] (fun a b => .load a.start b)) s

/-- TCW STORE. -/
def execStore (t : TileId) (w : Tcw) (s : State) : Host.Outcome State Fault Refusal :=
  tcwStep t w (moveCmd 1) (moveBody [1, 2] [3] (fun a b => .store b.start a)) s

/-- TCW COPY. -/
def execCopy (t : TileId) (w : Tcw) (s : State) : Host.Outcome State Fault Refusal :=
  tcwStep t w (moveCmd 2) (moveBody [1, 2] [1, 2] (fun a b => .copy a b)) s

/-- GATHER at issue: its registers and its vector are read, its pages named (R204, R255). -/
def gatherBody : TcwBody := fun t w => do
  let o := moveOf w
  let d ← get
  let x := d.tile t
  let start := x.s (bitsAt w 60 4)
  let count := x.s (bitsAt w 56 4)
  let limit := x.s (bitsAt w 52 4)
  let layer := x.s (bitsAt w 48 4)
  let group := x.s (bitsAt w 44 4)
  let value := bitAt w 43
  match d.seqOf (d.tileTenant t) (x.s 3) with
  | none => TM.fault 0x0E
  | some q => do
    TM.need (decide (layer < q.layers) && decide (group < q.groups) && Nat.ble limit q.pageCap) (.fault 0x0E 0)
    TM.handle t o.src
    let len := if limit ≤ start then 0 else ceilDiv limit 8 - start / 8
    match x.operandAt o.src (start / 8) len [1, 2] with
    | none => TM.fault 0x0A
    | some sp => do
      TM.hazard t [sp] []
      let b ← if len = 0 then pure [] else TM.read t o.queue sp
      let ones := oneBits b start limit
      let pages := ones.take count
      let next := if count = 0 || limit ≤ start then start
        else if pages.length < count then limit else pages.getLastD start + 1
      let e ← TM.operand t o.dst (pages.length * q.payload value) [1] true
      TM.enqueue t o.queue
        (.gather (x.s 3) layer group value pages e (bitsAt w 56 4) (if bitAt w 42 then bitsAt w 60 4 else 0) next) [] [e]
        ([bitsAt w 56 4] ++ (if bitAt w 42 then [bitsAt w 60 4] else []))
      pure none

/-- TCW GATHER. -/
def execGather (t : TileId) (w : Tcw) (s : State) : Host.Outcome State Fault Refusal :=
  tcwStep t w { grp := 1, fn := 3
                regs := fun w => [offReg (moveOf w).src, offReg (moveOf w).dst, 3, bitsAt w 60 4, bitsAt w 56 4,
                  bitsAt w 52 4, bitsAt w 48 4, bitsAt w 44 4]
                legal := fun w => onlyBits w [(111, 90), (63, 42)] } gatherBody s

/-- FIRST and COUNT of an HLOAD. -/
def hloadRange (w : Nat) : Nat × Nat := (bitsAt w 80 6, bitsAt w 73 7)

/-- HLOAD stands in its queue. -/
def hloadBody : TcwBody := fun t w => do
  let o := moveOf w
  let (first, count) := hloadRange w
  let s ← TM.operand t o.src (16 * count) [3] false
  TM.enqueue t o.queue (.hload s.start first count) [] [] []
  pure none

/-- TCW HLOAD. -/
def execHload (t : TileId) (w : Tcw) (s : State) : Host.Outcome State Fault Refusal :=
  tcwStep t w { grp := 1, fn := 4, regs := fun w => [offReg (moveOf w).src]
                legal := fun w =>
                  let (first, count) := hloadRange w
                  onlyBits w [(111, 100), (85, 73)] && Nat.ble 1 count && Nat.ble count 64 && Nat.ble (first + count) 64 }
    hloadBody s

/-- LDS stands in its queue. -/
def ldsBody : TcwBody := fun t w => do
  let o := moveOf w
  let s ← TM.operand t o.src 8 [3] false
  TM.enqueue t o.queue (.lds s.start (bitsAt w 60 4)) [] [] [bitsAt w 60 4]
  pure none

/-- TCW LDS. -/
def execLds (t : TileId) (w : Tcw) (s : State) : Host.Outcome State Fault Refusal :=
  tcwStep t w { grp := 1, fn := 5, regs := fun w => [offReg (moveOf w).src, bitsAt w 60 4]
                legal := fun w => onlyBits w [(111, 100), (63, 60)] } ldsBody s

/-- SETFLAG stands in its queue with the value of its register. -/
def setflagBody : TcwBody := fun t w => do
  let o := moveOf w
  let e ← TM.operand t o.dst 8 [3] true
  let v ← TM.s t (bitsAt w 60 4)
  TM.enqueue t o.queue (.setflag e.start (BitVec.ofNat 64 v)) [] [] []
  pure none

/-- TCW SETFLAG. -/
def execSetflag (t : TileId) (w : Tcw) (s : State) : Host.Outcome State Fault Refusal :=
  tcwStep t w { grp := 1, fn := 6, regs := fun w => [offReg (moveOf w).dst, bitsAt w 60 4]
                legal := fun w => onlyBits w [(111, 110), (99, 90), (63, 60)] } setflagBody s

/-! ### Performing -/

/-- A read of memory by a DMA engine in a context. -/
def TM.memRead (t queue id pasid va len : Nat) : TM ReadResult := do
  let d ← get
  let (g, d) := d.engRead (d.tileTenant t) pasid va len (d.tileReq t (queue + 1) (16 + id))
  set d
  match g with
  | .wait => throw .wait
  | .own => throw .own
  | .data r => pure r

/-- The job's PASID on a tile. -/
def Dev.tilePasid (d : Dev) (t : Nat) : Nat := ((d.tileJob t).map (fun e => e.2.pasid)).getD 0

/-- A read that may not meet bad data: the sequencer uses the value at once (log 24). -/
def TM.memReadGood (t queue id pasid va len : Nat) : TM (List Byte) := do
  let r ← TM.memRead t queue id pasid va len
  if r.bad.isEmpty then pure r.bytes
  else do
    TM.upd (fun d => (d.bump 0x5810 4 0 32).countUe t 1)
    throw (.spm 0x12 0 (sourceOf queue) 0)

/-- Data of memory land in a store; what memory reported bad is poisoned (R223). -/
def TM.land (t queue : Nat) (dst : Span) (r : ReadResult) : TM Unit := do
  TM.writeAll t queue [(dst, r.bytes)] (fun d => d.spmPoison t dst.kind dst.start r.bad)

/-- A write of a store's bytes to memory: the destination is translated and checked, then the source read; where the
reader fails, the destination bytes may hold any value (R222). -/
def TM.storeOut (t queue id va : Nat) (src : Span) : TM Unit := do
  let d ← get
  let tenant := d.tileTenant t
  let pasid := d.tilePasid t
  let req := d.tileReq t (queue + 1) (16 + id)
  match d.translateSpan tenant pasid va src.len 1 req with
  | (none, d) => do
    set d
    throw .wait
  | (some ps, d) =>
    match d.ownOkAll tenant ps true with
    | (false, d) => do
      set (d.ownReport tenant pasid va 1 req)
      throw .own
    | (true, d) => do
      set d
      match (TM.read t queue src).run.run d with
      | (.ok bs, d) => do
        set (d.busWrite tenant pasid req.source req.job ps bs)
      | (.error e, d) => do
        let (v, d) := d.freeBelow (256 ^ src.len)
        set (d.busWrite tenant pasid req.source req.job ps (leBytes v src.len))
        throw e

/-- The handle entries of an HLOAD take effect together (R217, R218). -/
def TM.loadHandles (t first count : Nat) (r : ReadResult) : TM Unit := do
  let n := leNat r.bytes
  let es := (List.range count).map (fun i =>
    if r.bad.any (fun b => b / 16 == i) then some ({} : Handle) else handleOf (bitsAt n (128 * i) 128))
  TM.need (es.all (fun e => e.isSome)) (.fault 0x0B 0)
  TM.upd (fun d =>
    let mine := fun (h : Nat) => Nat.ble first h && decide (h < first + count)
    (d.clearPoison ((d.tile t).hErr.filter (fun e => mine (e.1 / 2)))).updTile t (fun x => { x with
      handles := es.zipIdx.foldl (fun m (e, i) => m.put (first + i) (e.getD {})) x.handles
      hErr := r.bad.foldl (fun m b => m.put (2 * first + b / 8) .poison) (x.hErr.filter (fun e => !mine (e.1 / 2)))
      masks := x.masks.filter (fun e => !mine e.handle) }))

/-- The pages of a GATHER: descriptors are read first, and an absent page moves nothing (R255). -/
def TM.gatherPages (t queue id seq layer group : Nat) (value : Bool) (pages : List Nat) (dst : Span) : TM Unit := do
  let d ← get
  let tenant := d.tileTenant t
  match d.seqOf tenant seq with
  | none => TM.fault 0x0E
  | some q => do
    let pasid := d.obj 0x6010 0 tenant
    let val := value && q.dimV != 0
    let vas ← pages.mapM (fun p => do
      let b ← TM.memReadGood t queue id pasid (q.descVa layer group p) 16
      let x := descOf (leNat b)
      TM.need (x.st != 0) (.fault 0x0E 0)
      pure (if val then x.val else x.key))
    let parts ← vas.mapM (fun va => TM.memRead t queue id pasid va (q.payload val))
    TM.land t queue dst (parts.foldl (fun (a r : ReadResult) =>
      { bytes := a.bytes ++ r.bytes, bad := a.bad ++ r.bad.map (· + a.bytes.length), badLines := 0, corrected := 0 })
      ⟨[], [], 0, 0⟩)

/-- Perform what an outstanding command still has to do. -/
def TM.perform (t unit id : Nat) (body : MemOp) : TM Unit := do
  let d ← get
  let pasid := d.tilePasid t
  match body with
  | .load va dst => do
    let r ← TM.memRead t unit id pasid va dst.len
    TM.land t unit dst r
  | .store va src => TM.storeOut t unit id va src
  | .copy src dst =>
    match (TM.read t unit src).run.run d with
    | (.ok bs, d) => do
      set d
      TM.write t unit dst bs
    | (.error e, d) => do
      set (d.havoc t [dst])
      throw e
  | .gather seq layer group value pages dst countReg startReg next => do
    TM.gatherPages t unit id seq layer group value pages dst
    TM.upd (fun d => d.updTile t (fun x => (x.setS countReg pages.length).setS startReg next))
  | .hload va first count => do
    let r ← TM.memRead t unit id pasid va (16 * count)
    TM.loadHandles t first count r
  | .lds va reg => do
    let b ← TM.memReadGood t unit id pasid va 8
    TM.upd (fun d => d.updTile t (fun x => x.setS reg (leNat b)))
  | .setflag va v => do
    let (g, d) := d.engWrite (d.tileTenant t) pasid va (leBytes v.toNat 8) (d.tileReq t (unit + 1) (16 + id))
    set d
    match g with
    | .wait => throw .wait
    | .own => throw .own
    | .data _ => pure ()
  | .compute => pure ()

/-- Outstanding items before the one of a number. -/
def outBefore (id : Nat) : List OutItem → List OutItem
  | [] => []
  | o :: rest =>
    match o with
    | .op i _ _ _ _ _ _ => if i = id then [] else o :: outBefore id rest
    | .fence _ => o :: outBefore id rest

/-- The items that stand before a RELEASE fence of the list. -/
def beforeFence : List OutItem → List OutItem
  | [] => []
  | l => (l.reverse.dropWhile (fun o => match o with
      | .fence _ => false
      | _ => true)).reverse

/-- Fences with nothing before them order nothing. -/
def dropFences (l : List OutItem) : List OutItem :=
  l.dropWhile (fun o => match o with
    | .fence _ => true
    | _ => false)

/-- Handles that an outstanding HLOAD replaces: the first, and their number. -/
def OutItem.handles : OutItem → Nat × Nat
  | .op _ _ _ (.hload _ first count) _ _ _ => (first, count)
  | _ => (0, 0)

/-- Two HLOADs replace a handle in common: they take effect in order (R204, R207). -/
def OutItem.sameHandle (a b : OutItem) : Bool :=
  decide (a.handles.1 < b.handles.1 + b.handles.2) && decide (b.handles.1 < a.handles.1 + a.handles.2)

/-- An outstanding command may be performed: no earlier one shares its granules or handles, a compute unit ends its
commands in order, and the orders of SETFLAG and of RELEASE are kept (R204, R207, R349 to R351). -/
def mayPerform (o : OutItem) (earlier : List OutItem) : Bool :=
  match o with
  | .fence _ => false
  | .op _ unit _ body reads writes _ =>
    unit != 7 && !earlier.any (fun e => e.conflicts reads writes || o.sameHandle e) &&
      !(Nat.ble 4 unit && earlier.any (fun e => e.unit? == some unit)) &&
      (!o.writesMem || !(beforeFence earlier).any (fun e => e.readsMem || e.writesMem)) &&
      (match body with
       | .setflag _ _ => !earlier.any OutItem.writesMem
       | _ => true)

/-- TCW_COMPLETE: an outstanding command completes; `cycles` fabric cycles have passed since the last event. -/
def execTcwComplete (t : TileId) (op : Nat) (cycles : Nat) (s : State) : Host.Outcome State Fault Refusal :=
  onDev (fun d =>
    let x := d.tile t.val
    let same := fun (o : OutItem) => match o with
      | .op i _ _ _ _ _ _ => i == op
      | .fence _ => false
    match x.out.find? same, d.tileJob t.val with
    | some (.op i unit pos body r w g), some _ =>
      if d.serving && x.active && mayPerform (.op i unit pos body r w g) (outBefore op x.out) then
        match (TM.perform t.val unit i body).run.run d with
        | (.ok _, d) => (d.unstall t.val (16 + op)).updTile t.val (fun x => { x.pass cycles with
            out := dropFences (x.out.filter (fun o => !same o)) })
        | (.error e, d) => d.tileErr t.val pos e
      else d
    | _, _ => d) s

end Sys2Proof.Machine
end

