-- ==== Sys2Proof/Machine/Segments.lean ====
section
/-! DEFINITION. Job start on tiles, segments, checkpoints and resume, DONE and ABORT (R196, R197, R208 to R213). -/

namespace Sys2Proof.Machine

/-- P7 of a tile. -/
def Tile.setP7 (x : Tile) (b : Bool) : Tile := { x with preds := BitVec.ofNat 8 (putBit x.preds.toNat 7 b) }

/-- The state of a sequencer at job start (R196). Its boundary copies nothing into the checkpoint buffer (log 99). -/
def Tile.startJob (x : Tile) (job : Job) (rank : Nat) : Tile :=
  let y : Tile := { x with
    power := .run, active := true, flagged := false, atBoundary := true, pos := 0
    sregs := [], preds := 1, loops := [], skip := none, handles := [], hErr := [], win := [], out := [], poll := none
    stalls := [], seg := 0, masks := [], query := none }
  let y := (((((y.setS 1 (bitsAt job.inline 0 64)).setS 2 (bitsAt job.inline 64 64)).setS 3 job.seq).setS 4 rank).setS 5
    job.nTiles).setS 6 job.deadline
  let y := if job.args = 0 || job.argsLen = 0 then y
    else { y with handles := y.handles.put 63 ⟨3, true, 64 * job.argsLen, job.args⟩ }
  { y with ckpt := some (y.record 0 0 0 []), copied := false }

/-- Generations of the slots of a tenant now (R293). -/
def Dev.latchGens (d : Dev) (tenant : Nat) : KMap Nat :=
  (d.sfu.filter (fun e => e.1 / 16 == tenant)).filterMap (fun e => e.2.cur.map (fun g => (e.1, g)))

/-- RUN: a job that holds its tiles starts on all of them at once (R196, R197). -/
def execRun (job : Nat) (s : State) : Host.Outcome State Fault Refusal :=
  onDev (fun d =>
    match KMap.find d.jobs job with
    | some x =>
      if d.serving && x.opcode = 1 && x.st == .assigned && x.ckpts.isEmpty && x.tiles.all d.tileReady then
        let d := d.setJob job { x with
          st := .running, started := d.pwr.tick, front := false, gens := d.latchGens x.tenant
          headroom := d.obj 0x6801 0 x.tenant }
        x.tiles.zipIdx.foldl (fun (d : Dev) e => (d.wakeTile e.1).updTile e.1 (fun y => y.startJob x e.2)) d
      else d
    | none => d) s

/-- SEG: every earlier TCW is complete; the checkpoint is copied; a boundary (R209, R210). -/
def segBody : TcwBody := fun t w => do
  let d ← get
  TM.need (d.tile t).out.isEmpty .wait
  let n := 64 * bitsAt w 93 9
  let keep := bitsAt w 102 10
  let (sp, b) ← if n = 0 then pure ((⟨2, 0, 0⟩ : Span), []) else do
    let sp ← TM.operand t keep n [2] false
    let b ← TM.read t 8 sp
    pure (sp, b)
  TM.copyHandles t
  let extra := 16 + ceilDiv n 256
  let d ← get
  TM.need (decide ((d.tile t).seg + extra < 16384)) (.fault 0x08 0)
  set ((d.boundary t (d.tileTenant t) extra).updTile t (fun x =>
    (x.setP7 false).ckptCopy (x.record (x.pos + 1) keep sp.start b) (ckptWords n)))
  pure none

/-- TCW SEG. -/
def execSeg (t : TileId) (w : Tcw) (s : State) : Host.Outcome State Fault Refusal :=
  tcwStep t w { grp := 9, fn := 0, regs := fun w => [offReg (bitsAt w 102 10)]
                legal := fun w => noPred w && onlyBits w [(111, 93)] && Nat.ble (bitsAt w 93 9) 256 } segBody s

/-- Every rank that still runs has stopped: a cancelled job ends (R153). -/
def Dev.cancelCheck (d : Dev) (j : Nat) : Dev :=
  match KMap.find d.jobs j with
  | some x =>
    if x.cancel && x.st == .running && x.tiles.all (fun t => !(d.tile t).active) then d.endJob j 5 0 else d
  | none => d

/-- Every rank of a job that has not ended holds a drained record: the job waits at the front of its class (R146, R211). -/
def Dev.requeueCheck (d : Dev) (j : Nat) : Dev :=
  match KMap.find d.jobs j with
  | some x =>
    let all := (List.range x.nTiles).all (fun r => x.doneRanks.contains r || (KMap.find x.ckpts r).isSome)
    match x.st with
    | .offTile false =>
      if all then d.setJob j { x with st := .waiting, front := true, preempted := true } else d
    | .running =>
      if all && x.stopAtBoundary then
        d.setJob j { x with st := .waiting, front := true, preempted := true, stopAtBoundary := false
                            tiles := [], nTiles := x.nTiles }
      else d
    | _ => d
  | none => d

/-- The tiles of ranks that have executed DONE are released once their job has left its other tiles. -/
def Dev.releaseDone (d : Dev) (j : Nat) : Dev :=
  match KMap.find d.jobs j with
  | some x =>
    if x.stopAtBoundary && x.tiles.all (fun t => !(d.tile t).active) then
      (d.releaseTiles x.tiles).setJob j { x with tiles := [] }
    else d
  | none => d

/-- A rank ends; the last one ends the job (R197). Where every other rank has already stopped, a job being cancelled ends
and one being preempted is requeued (R146, R153, R211). -/
def Dev.rankDone (d : Dev) (t : Nat) : Dev :=
  match d.tileJob t with
  | none => d
  | some (j, x) =>
    let d := (d.idleTile t).updTile t (fun y => { y with active := false })
    let ranks := x.doneRanks ++ [(d.tile t).rank]
    let d := d.setJob j { x with doneRanks := ranks }
    if ranks.length = x.nTiles then d.endJob j 0 0 else ((d.cancelCheck j).releaseDone j).requeueCheck j

/-- DONE: the rank's earlier commands are complete, then it ends. -/
def doneBody : TcwBody := fun t _ => do
  let d ← get
  TM.need (d.tile t).out.isEmpty .wait
  let x := d.tile t
  set ((d.maxObj 0x5002 0 (d.tileTenant t) x.seg 16).rankDone t)
  pure (some x.pos)

/-- TCW DONE. -/
def execDone (t : TileId) (w : Tcw) (s : State) : Host.Outcome State Fault Refusal :=
  tcwStep t w { grp := 0xF, fn := 0, regs := fun _ => [], legal := fun w => onlyBits w [] } doneBody s

/-- TCW ABORT: PROGRAM_ABORT with its code (R197, Table 20.4). -/
def execAbort (t : TileId) (w : Tcw) (s : State) : Host.Outcome State Fault Refusal :=
  tcwStep t w { grp := 0xF, fn := 1, regs := fun _ => [], legal := fun w => onlyBits w [(111, 96)] }
    (fun _ w => TM.fault 0x0D (bitsAt w 96 16)) s

/-- SEGMENT_OVERRUN: the counter has reached 16,384 before a boundary (R209). -/
def execSegmentOverrun (t : TileId) (s : State) : Host.Outcome State Fault Refusal :=
  onDev (fun d =>
    let x := d.tile t.val
    match d.tileJob t.val with
    | some (_, job) =>
      if d.serving && x.active && Nat.ble 16384 x.seg then
        (d.maxObj 0x5002 0 job.tenant x.seg 16).tileErr t.val x.pos (.fault 0x08 0)
      else d
    | none => d) s

/-- SEGMENT_BOUNDARY_TAKE: a tile of a job that is being stopped is at a boundary, or waits in POLL (R146, R153, R208,
R211, R213): a cancelled rank stops without a checkpoint; any other one's checkpoint drains, and its tile is released. -/
def execSegmentBoundaryTake (t : TileId) (s : State) : Host.Outcome State Fault Refusal :=
  onDev (fun d =>
    let x := d.tile t.val
    match d.tileJob t.val with
    | some (j, job) =>
      if d.serving && x.active && (x.atBoundary || x.poll.isSome) && d.wantsStop job then
        if job.cancel then (d.updTile t.val Tile.stop).cancelCheck j
        else
          let d := d.setJob j { job with stopAtBoundary := true, tiles := job.tiles.filter (· != t.val) }
          (d.updTile t.val (fun y => { y with draining := some (j, x.rank) })).releaseTile t.val
      else d
    | none => d) s

/-- The checkpoint drain reads the words of the record that stands in the buffer (R220 to R222): a correctable one is
corrected and counted, the first uncorrectable one is the result, and every such word is poisoned. -/
def Dev.drainRead (d : Dev) (t : Nat) : Option Nat × Dev :=
  let x := d.tile t
  let words := if x.copied then ckptWords ((x.ckpt.map (fun c => c.keepData.length)).getD 0) else 0
  let hit := x.cErr.filter (fun e => decide (e.1 < words))
  let ce := hit.filter (fun e => e.2 == .correctable)
  let ue := hit.filter (fun e => e.2 != .correctable)
  let rest := x.cErr.filter (fun e => Nat.ble words e.1)
  let d := (d.setTile t { x with
    draining := none, ckpt := none, copied := false
    cErr := ue.foldl (fun m e => m.put e.1 .poison) rest }).countCe t 3 ce.length
  match ue.head? with
  | none => (none, d)
  | some e => (some (8 * e.1), (d.bump 0x5810 4 0 32).countUe t 1)

/-- CHECKPOINT_DRAIN_DONE: a tile's checkpoint buffer has drained (R211); a record that cannot be read ends the job
with MEM_UE, and is reported of a job that has ended already (R222). -/
def execCheckpointDrainDone (t : TileId) (s : State) : Host.Outcome State Fault Refusal :=
  onDev (fun d =>
    let x := d.tile t.val
    match x.draining with
    | none => d
    | some (j, rank) =>
      let (ue, d) := d.drainRead t.val
      let rec' := fun (off : Nat) => ({ code := 0x12, tenant := x.owner.getD 0, source := t.val
                                        detail := d.spmRecord t.val 3 1 0xB off } : Rec)
      match KMap.find d.jobs j, ue with
      | none, none => d
      | none, some off => d.report (rec' off)
      | some job, some off =>
        match job.st with
        | .ended _ => d.report { rec' off with tenant := job.tenant, job := some j }
        | _ => d.jobFault j (some rank) { rec' off with tenant := job.tenant }
      | some job, none =>
        match job.st, x.ckpt with
        | .ended _, _ => d
        | _, none => d
        | _, some c =>
          let d := (d.bump 0x5003 3 job.tenant 64).setJob j { job with ckpts := job.ckpts.put rank c }
          (d.releaseDone j).requeueCheck j) s

/-- A tile takes up a rank from its record (R211): cleared stores, the KEEP bytes, P7 true. -/
def Tile.resume (x : Tile) (c : Ckpt) (rank : Nat) (done : Bool) : Tile :=
  let y : Tile := { x with
    power := if done then .idle else .run, active := !done, flagged := false, atBoundary := true, rank := rank
    pos := c.pos, sregs := c.sregs, preds := c.preds, loops := c.loops, skip := none, handles := c.handles, hErr := []
    tb := [], as := cellsWrite [] c.keepStart c.keepData, tbErr := [], asErr := [], win := [], out := [], poll := none
    stalls := [], seg := 0, masks := [], sfuTabs := [], sfuProgs := [], query := none, ckpt := some c, copied := false }
  y.setP7 true

/-- JOB_RESUME: a job with checkpoints is given as many tiles as at its start; when they are ready, every rank resumes
from its own record. -/
def execJobResume (job : Nat) (tiles : List TileId) (s : State) : Host.Outcome State Fault Refusal :=
  onDev (fun d =>
    match KMap.find d.jobs job with
    | none => d
    | some x =>
      if x.ckpts.isEmpty || x.opcode != 1 then d
      else if x.st == .waiting then (if d.firstRun job x then d.schedule job x (tiles.map (·.val)) else d)
      else if d.serving && x.st == .assigned && x.tiles.all d.tileReady then
        let d := d.setJob job { x with st := .running, started := d.pwr.tick, front := false, ckpts := [] }
        x.tiles.zipIdx.foldl (fun (d : Dev) e =>
          let d := d.wakeTile e.1
          match KMap.find x.ckpts e.2 with
          | some c => (d.updTile e.1 (fun y => y.resume c e.2 false)).bump 0x5003 4 x.tenant 64
          | none => d.updTile e.1 (fun y => y.resume ⟨0, [], 1, [], [], 0, 0, []⟩ e.2 true)) d
      else d) s

end Sys2Proof.Machine
end

