-- ==== Sys2Proof/Machine/Migrate.lean ====
section
/-! DEFINITION. Removal of cached translations by a fence (R167), the migration engine (R179 to R181, R401): PREFETCH,
ADVISE, the moves of an eviction and the end of a page move, with the pool accounting of R245 and R258. -/

namespace Sys2Proof.Machine

/-! ### Fences -/

/-- A fence's operands name a cached leaf or run (R167). -/
def fenceHits (va asid : Option Nat) (e : TlbEntry) : Bool :=
  va.all (fun v => Nat.ble e.vpn (v / 4096) && decide (v / 4096 < e.vpn + e.pages)) &&
    asid.all (fun a => e.asid == a && !e.glob)

/-- Walks in progress that a test names read the tables again from the root; each restart counts as a walk
(Table 7.10). -/
def Dev.restartWalks (d : Dev) (p : Walk → Bool) : Dev :=
  d.bump 0x4020 3 0 64 (d.stu.walks.filter (fun w => w.2.active && p w.2)).length

/-- Remove what a fence names from every cache (R167); walks in progress restart (R168). -/
def Dev.fenceRemove (d : Dev) (va asid : Option Nat) : Dev :=
  let keep := fun (l : List TlbEntry) => l.filter (fun e => !fenceHits va asid e)
  let d := { d with
    stu := { d.stu with
      iotlb := keep d.stu.iotlb
      chipTlb := d.stu.chipTlb.mapVal keep
      walkCache := d.stu.walkCache.filter (fun e => !asid.all (fun a => e.asid == a))
      ctxCache := if va.isSome then d.stu.ctxCache
        else d.stu.ctxCache.filter (fun e => !asid.all (fun a => bitsAt e.entry 48 16 == a)) }
    tiles := d.tiles.mapVal (fun x => { x with uTlb := keep x.uTlb }) }
  (d.restartWalks (fun _ => true)).bump 0x4020 5 0 64

/-! ### Leaves -/

/-- A mapped leaf: its PTE, level, the PTE's address, and the span of physical memory it maps. -/
structure Leaf where
  pte : Nat
  level : Nat
  addr : Nat
deriving DecidableEq, Repr

/-- A 64 KiB Svnapot leaf. -/
def Leaf.napot (l : Leaf) : Bool := bitAt l.pte 63
/-- Bytes that a leaf maps (R161). -/
def Leaf.bytes (l : Leaf) : Nat := if l.napot then 65536 else 4096 * 2 ^ (9 * l.level)
/-- The first physical address that it maps. -/
def Leaf.src (l : Leaf) : Nat := let p := ptePpn l.pte * 4096; p - p % l.bytes
/-- The first virtual address of a leaf that maps `va`. -/
def Leaf.base (l : Leaf) (va : Nat) : Nat := va - va % l.bytes

/-- Resident firmware writes a leaf's PTE, all sixteen of a Svnapot leaf. -/
def Dev.putPte (d : Dev) (l : Leaf) (pte : Nat) : Dev :=
  let b := leBytes pte 8
  let (a, n) := if l.napot then (l.addr - l.addr % 128, 16) else (l.addr, 1)
  (d.snoop a (8 * n)).markWrite 0 0x89 none [(a, 0, 8 * n)] (List.replicate n b).flatten

/-- The leaf that maps a page now, without any effect on the caches. -/
def Dev.leafNow (d : Dev) (tenant pasid va : Nat) : Option Leaf :=
  match (d.walk tenant pasid va).1 with
  | .leaf _ pte level addr => some ⟨pte, level, addr⟩
  | .fault _ _ => none

/-- The physical address of a mapped page, without any effect. -/
def Dev.paNow (d : Dev) (tenant pasid va : Nat) : Option Nat :=
  (d.leafNow tenant pasid va).map (fun l => l.src + (va - l.base va))

/-- Bytes of one page at a virtual address as resident firmware sees them, if it is mapped. -/
def Dev.peek (d : Dev) (tenant pasid va len : Nat) : Option Nat :=
  (d.paNow tenant pasid va).map (fun pa => leNat (d.mem.read pa len))

/-- A page lies in a page that is being moved (R180). -/
def Dev.moving (d : Dev) (tenant pasid va : Nat) : Bool :=
  d.stu.moves.any (fun m => m.tenant == tenant && m.pasid == pasid && Nat.ble m.va va && decide (va < m.va + m.bytes))

/-- Placement advice of a page (R181): 1 NONE where none was given. -/
def Dev.adviceOf (d : Dev) (tenant pasid vpn : Nat) : Nat :=
  ((d.stu.advice.find? (fun a => a.tenant == tenant && a.pasid == pasid && a.vpn == vpn)).map (·.mode)).getD 1

/-! ### Pool accounting (R245, R258, Table 12.7) -/

/-- Allocations of a tenant's pool. -/
def Dev.allocs (d : Dev) (tenant : Nat) : List Alloc := d.kv.allocs.get tenant []

/-- KV_HBM_USED, KV_HOST_USED and KV_POOL_USED. -/
def Dev.hbmUsed (d : Dev) (tenant : Nat) : Nat := (d.allocs tenant).foldl (fun n a => n + (a.size - a.host)) 0
def Dev.hostUsed (d : Dev) (tenant : Nat) : Nat :=
  (d.allocs tenant).foldl (fun n a => n + a.host) 0 + d.kv.hostOther.get tenant 0
def Dev.poolUsed (d : Dev) (tenant : Nat) : Nat := (d.allocs tenant).foldl (fun n a => n + a.size) 0

/-- Bytes that two spans share. -/
def overlap (a n b m : Nat) : Nat := Nat.min (a + n) (b + m) - Nat.max a b

/-- Bytes of a tenant's allocations that a span of its pool context covers. -/
def Dev.poolBytes (d : Dev) (tenant pasid va n : Nat) (tables : Bool) : Nat :=
  if pasid = d.obj 0x6010 0 tenant then
    (d.allocs tenant).foldl (fun k a => if tables && !a.table then k else k + overlap va n a.va a.size) 0
  else 0

/-- Account a finished move. -/
def Dev.accountMove (d : Dev) (m : Move) : Dev :=
  let pool := m.pasid == d.obj 0x6010 0 m.tenant
  let l := (d.allocs m.tenant).map (fun a =>
    let n := if pool then overlap m.va m.bytes a.va a.size else 0
    { a with host := if m.toHbm then a.host - n else Nat.min a.size (a.host + n) })
  let other := m.bytes - d.poolBytes m.tenant m.pasid m.va m.bytes false
  let held := d.kv.hostOther.get m.tenant 0
  { d with kv := { d.kv with
      allocs := if l.isEmpty then d.kv.allocs else d.kv.allocs.put m.tenant l
      hostOther := if other = 0 then d.kv.hostOther
        else d.kv.hostOther.put m.tenant (if m.toHbm then held - other else held + other) } }

/-! ### Moves -/

/-- Start the move of a leaf (R179, R180): its PTE becomes invalid, and a fence by address removes it. -/
def Dev.startMove (d : Dev) (tenant pasid va : Nat) (l : Leaf) (toHbm : Bool) (job : Option Nat) : Dev :=
  let d := (d.putPte l (l.pte - l.pte % 2)).fenceRemove (some va) none
  { d with stu := { d.stu with moves := d.stu.moves ++ [{
      tenant := tenant, pasid := pasid, va := l.base va, level := l.level, pteAddr := l.addr, pte := l.pte, src := l.src
      bytes := l.bytes, toHbm := toHbm, job := job }] } }

/-- The leaf of a move. -/
def Move.leaf (m : Move) : Leaf := ⟨m.pte, m.level, m.pteAddr⟩

/-- Copy a span of whole lines (R400): bytes that a bad line delivers poisoned poison their new line. -/
def Mem.copyRange (m : Mem) (src dst len : Nat) : Mem :=
  let inDst := fun (l : Nat) => Nat.ble (dst / 64) l && decide (l < (dst + len) / 64)
  let inSrc := fun (l : Nat) => Nat.ble (src / 64) l && decide (l < (src + len) / 64)
  let bad := (m.lines.filter (fun e => inSrc e.1 && badMark (some e.2))).map (fun e => e.1 - src / 64 + dst / 64)
  let armed := m.armed.filter (fun a => inDst a.word)
  let lines := m.lines.filter (fun e => !inDst e.1 && !(inSrc e.1 && e.2 == .correctable))
  let lines := bad.foldl (fun (ls : KMap WordErr) l => ls.put l .poison) lines
  { m with
    cells := m.cells.filter (fun c => c.1 < dst) ++
      (m.cells.filter (fun c => Nat.ble src c.1 && decide (c.1 < src + len))).map (fun c => (c.1 - src + dst, c.2)) ++
      m.cells.filter (fun c => dst + len ≤ c.1)
    lines := armed.foldl (fun (ls : KMap WordErr) a => ls.put a.word (if a.bits == 1 then .correctable else .uncorrectable)) lines
    armed := m.armed.filter (fun a => !inDst a.word) }

/-- Whole lines set to zero. -/
def Mem.wipe (m : Mem) (pa len : Nat) : Mem :=
  let inR := fun (l : Nat) => Nat.ble (pa / 64) l && decide (l < (pa + len) / 64)
  { m with
    cells := m.cells.filter (fun c => c.1 < pa || pa + len ≤ c.1)
    lines := (m.armed.filter (fun a => inR a.word)).foldl (fun (ls : KMap WordErr) a =>
      ls.put a.word (if a.bits == 1 then .correctable else .uncorrectable)) (m.lines.filter (fun e => !inR e.1))
    armed := m.armed.filter (fun a => !inR a.word) }

/-- Lines of a span that carry a mark. -/
def Mem.marked (m : Mem) (pa len : Nat) (bad : Bool) : Nat :=
  (m.lines.filter (fun e => Nat.ble (pa / 64) e.1 && decide (e.1 < (pa + len) / 64) && badMark (some e.2) == bad)).length

/-- Every region of a span of HBM is the tenant's own (R188, Table 8.2). -/
def Dev.ownsSpan (d : Dev) (tenant pa len : Nat) : Bool :=
  decide (pa + len ≤ d.hbmTop) && (List.range ((pa + len - 1) / 2097152 - pa / 2097152 + 1)).all (fun i =>
    let e := leNat (d.mem.read (d.obj 0x3800 0 0 + 2 * (pa / 2097152 + i)) 2)
    bitsAt e 14 2 == 1 && bitsAt e 0 6 == tenant && bitsAt e 6 8 == 0)

/-- The first address of a tenant's host pool in the host window. -/
def Dev.hostPool (d : Dev) (tenant : Nat) : Nat := hostBase + d.obj 0x6014 0 tenant

/-- Where a move ends. -/
inductive MoveFit where
  | fits
  | exhausted
  | no
deriving DecidableEq, Repr

/-- A destination that resident firmware takes for a move (R179, R257, R258): HBM of the tenant within its quota, or
its host pool. -/
def Dev.moveFit (d : Dev) (m : Move) (dst : Nat) : MoveFit :=
  if m.toHbm then
    let pool := d.poolBytes m.tenant m.pasid m.va m.bytes false
    if d.obj 0x6013 0 m.tenant < d.hbmUsed m.tenant + pool && pool != 0 then .exhausted
    else if dst % m.bytes = 0 && d.ownsSpan m.tenant dst m.bytes then .fits
    else .exhausted
  else
    let base := d.hostPool m.tenant
    let size := d.obj 0x6015 0 m.tenant
    if size < d.hostUsed m.tenant + m.bytes then .exhausted
    else if dst % m.bytes = 0 && Nat.ble base dst && Nat.ble (dst + m.bytes) (base + size) then .fits
    else .no

/-- A leaf of an eviction is done (R257): a page of a sequence counts once its last 4 KiB page has moved. -/
def Dev.evictLeafDone (d : Dev) (tenant va bytes : Nat) : Dev :=
  let rest := fun (e : Evict) =>
    if e.tenant == tenant then { e with vas := e.vas.filter (fun v => !(Nat.ble va v && decide (v < va + bytes))) } else e
  let l := d.kv.evicts.map rest
  let done := (l.filter (fun e => e.vas.isEmpty)).length
  let d := { d with kv := { d.kv with evicts := l.filter (fun e => !e.vas.isEmpty) } }
  if done = 0 then d else d.bump 0x6021 1 tenant 64 done

/-- A move that does not take place: the page stays where it is. -/
def Dev.cancelMove (d : Dev) (m : Move) : Dev :=
  let d := d.putPte m.leaf m.pte
  { d with stu := { d.stu with moves := d.stu.moves.filter (fun x => x != m) } }

/-- Withdraw every move of a tenant. -/
def Dev.cancelMoves (d : Dev) (tenant : Nat) : Dev :=
  (d.stu.moves.filter (fun m => m.tenant == tenant)).foldl Dev.cancelMove d

/-- The requester of the migration engine for a job (Table 7.11). -/
def Dev.moveReq (d : Dev) (j : Nat) : Requester := d.withJob (some j) { source := 0x82 }

/-- The requester of the migration engine for an eviction of a tenant (Table 7.11). -/
def evictReq (tenant : Nat) : Requester := { source := 0x82, ring := tenant }

/-- A request of the migration engine for a page move or an ADVISE, not for a layer load. -/
def Requester.moves (r : Requester) : Bool := r.source == 0x82 && r.tag == 0

/-- An eviction of a tenant fails (R257, Table 7.11): its pages that have not moved stay in HBM, and an allocation that
waited on it posts NO_RESOURCE. -/
def Dev.evictFail (d : Dev) (tenant : Nat) : Dev :=
  let d := (d.stu.moves.filter (fun m => m.tenant == tenant && m.job.isNone)).foldl Dev.cancelMove d
  let d := d.withdraw (fun r => r.moves && r.job.isNone && r.ring == tenant)
  let short := d.kv.short.filter (fun e => (KMap.find d.jobs e.1).any (fun x => x.tenant == tenant))
  let d := { d with kv := { d.kv with
      evicts := d.kv.evicts.filter (fun e => e.tenant != tenant)
      short := d.kv.short.filter (fun e => !short.any (fun f => f.1 == e.1)) } }
  short.foldl (fun (d : Dev) e => d.endJob e.1 9 0) d

/-- The regions of a span, each as one access (R171). -/
def regionPieces (pa len : Nat) : List (Nat × Nat × Nat) :=
  (List.range ((pa + len - 1) / 2097152 - pa / 2097152 + 1)).map (fun i =>
    let lo := Nat.max pa ((pa / 2097152 + i) * 2097152)
    let hi := Nat.min (pa + len) ((pa / 2097152 + i + 1) * 2097152)
    (lo, lo - pa, hi - lo))

/-- A move ends without its page (R171, R172, R179): the job posts a status, or the eviction fails. -/
def Dev.moveFail (d : Dev) (m : Move) (status key : Nat) : Dev :=
  match m.job with
  | some j => (d.cancelMove m).endJob j status key
  | none => d.evictFail m.tenant

/-- MIGRATION_MOVE_DONE: the page is copied and its PTE rewritten (R179, R180), where the source region passes the
ownership check (R171). -/
def Dev.moveDone (d : Dev) (dst : Nat) : Dev :=
  match d.stu.moves with
  | [] => d
  | m :: rest =>
    match d.moveFit m dst with
    | .no => d
    | .exhausted => d.moveFail m 9 0
    | .fits =>
      match d.ownOkAll m.tenant (regionPieces m.src m.bytes) false with
      | (false, d) =>
        let req := match m.job with
          | some j => d.moveReq j
          | none => evictReq m.tenant
        (d.ownReport m.tenant m.pasid m.va 0 req).moveFail m 3 (faultKey none 0x02)
      | (true, d) =>
        let d := d.onBus m.tenant m.pasid false [(m.src, 0, m.bytes)]
        let d := d.onBus m.tenant m.pasid true [(dst, 0, m.bytes)]
        let d := d.hbmErrors m.tenant 0x82 m.job (d.mem.marked m.src m.bytes true) (d.mem.marked m.src m.bytes false)
        let d := { d with mem := d.mem.copyRange m.src dst m.bytes, stu := { d.stu with moves := rest } }
        let ppn := dst / 4096 + (if m.leaf.napot then 8 else 0)
        let d := d.putPte m.leaf (m.pte - ptePpn m.pte * 2 ^ 10 + ppn * 2 ^ 10)
        let d := d.accountMove m
        if m.job.isSome then d else d.evictLeafDone m.tenant m.va m.bytes

/-- MIGRATION_MOVE_DONE. -/
def execMigrationMoveDone (dst : Pa) (s : State) : Host.Outcome State Fault Refusal :=
  onDev (fun d => if d.serving then d.moveDone dst else d) s

/-! ### PREFETCH, ADVISE and the moves of an eviction -/

/-- A leaf that a PREFETCH moves (R179): it lies on the other side, no page of it carries PIN_HBM, and it backs no table
of the pool (R245). Nothing else of the leaf is looked at: every valid leaf is moved, whatever its U, R, W, A and D
(log 100). -/
def wantMove (tenant pasid : Nat) (toHbm : Bool) (d : Dev) (va : Nat) (l : Leaf) : Bool :=
  if toHbm then Nat.ble hostBase l.src
  else decide (l.src < d.hbmTop) &&
    (d.stu.advice.all (fun a => !(a.tenant == tenant && a.pasid == pasid && a.mode == 4 &&
      Nat.ble (l.base va / 4096) a.vpn && decide (a.vpn < (l.base va + l.bytes) / 4096)))) &&
    d.poolBytes tenant pasid (l.base va) l.bytes true == 0

/-- Start and length of INLINE (Table 7.9). -/
def inlineVa (x : Job) : Nat := bitsAt x.inline 64 64
def inlinePages (x : Job) : Nat := bitsAt x.inline 32 32
def inlineMode (x : Job) : Nat := bitsAt x.inline 0 8

/-- The page of its range that a PREFETCH or an ADVISE looks at. -/
def Job.scanVa (x : Job) : Nat := (inlineVa x + 4096 * x.scanPos) % 2 ^ 64

/-- Ask for the walk of a page: not while it moves, and once (R180). -/
def Dev.pageWalk (d : Dev) (tenant pasid va : Nat) (req : Requester) : Dev :=
  let r := { req with va := va }
  if d.moving tenant pasid va || d.waitingReq tenant pasid va r then d else d.requestWalk tenant pasid va r

/-- A PREFETCH or an ADVISE goes on (R179, R181, Table 7.11): the walk of its next page, in the effective class of the
job, or its end once every page is done. -/
def Dev.scanNext (d : Dev) (j : Nat) : Dev :=
  match KMap.find d.jobs j with
  | none => d
  | some x =>
    if d.stu.moves.any (fun m => m.job == some j) then d
    else if inlinePages x ≤ x.scanPos then d.endJob j 0 0
    else d.pageWalk x.tenant x.pasid x.scanVa (d.moveReq j)

/-- Pages from an address to the end of its leaf. -/
def Leaf.pagesFrom (l : Leaf) (va : Nat) : Nat := (l.base va + l.bytes - va / 4096 * 4096) / 4096

/-- Set the attribute of pages (R181). -/
def Dev.setAdvice (d : Dev) (tenant pasid vpn n mode : Nat) : Dev :=
  let keep := d.stu.advice.filter (fun a => !(a.tenant == tenant && a.pasid == pasid && Nat.ble vpn a.vpn && decide (a.vpn < vpn + n)))
  let new := if mode = 1 then [] else (List.range n).map (fun i => (⟨tenant, pasid, vpn + i, mode⟩ : Advice))
  { d with stu := { d.stu with advice := keep ++ new } }

/-- A page of the range of a PREFETCH or an ADVISE is mapped (R179, R181): the leaf is moved whole, skipped, or its pages
in the range take the attribute. -/
def Dev.scanLeaf (d : Dev) (j : Nat) (x : Job) (va : Nat) (l : Leaf) : Dev :=
  let n := l.pagesFrom va
  let d := d.setJob j { x with scanPos := x.scanPos + n }
  if x.opcode = 2 then
    let toHbm := inlineMode x == 1
    if wantMove x.tenant x.pasid toHbm d va l then d.startMove x.tenant x.pasid va l toHbm (some j) else d
  else d.setAdvice x.tenant x.pasid (va / 4096) (Nat.min n (inlinePages x - x.scanPos)) (inlineMode x)

/-- The leaf of a page of an eviction (R257): it moves whole, or has moved; one that holds table bytes or a pinned page
ends the eviction. -/
def Dev.evictLeaf (d : Dev) (tenant pasid va : Nat) (l : Leaf) : Dev :=
  if !d.kv.evicts.any (fun e => e.tenant == tenant && e.vas.contains va) then d
  else if hostBase ≤ l.src then d.evictLeafDone tenant (l.base va) l.bytes
  else if wantMove tenant pasid false d va l then d.startMove tenant pasid va l false none
  else d.evictFail tenant

/-- A walk of the migration engine found a leaf. -/
def Dev.moveLeaf (d : Dev) (tenant pasid : Nat) (r : Requester) (l : Leaf) : Dev :=
  match r.job with
  | some j =>
    match KMap.find d.jobs j with
    | some x => (d.scanLeaf j x r.va l).scanNext j
    | none => d
  | none => d.evictLeaf tenant pasid r.va l

/-- A walk of the migration engine for a job found a page that is not mapped: it is skipped (R179, R181), unless it is
moving (R180). -/
def Dev.moveSkip (d : Dev) (tenant pasid : Nat) (r : Requester) : Dev :=
  match r.job with
  | some j =>
    match KMap.find d.jobs j with
    | some x =>
      if d.moving tenant pasid r.va then d else (d.setJob j { x with scanPos := x.scanPos + 1 }).scanNext j
    | none => d
  | none => d

/-- A PREFETCH starts or goes on (R179). -/
def Dev.prefetch (d : Dev) (j : Nat) (toHbm : Bool) : Dev :=
  match d.takes j 2 with
  | none => d
  | some x => if inlineMode x != (if toHbm then 1 else 2) then d else (d.setJob j x).scanNext j

/-- PREFETCH TO_HBM. -/
def execPrefetchToHbm (job : Nat) (s : State) : Host.Outcome State Fault Refusal := onDev (fun d => d.prefetch job true) s

/-- PREFETCH TO_HOST. -/
def execPrefetchToHost (job : Nat) (s : State) : Host.Outcome State Fault Refusal :=
  onDev (fun d => d.prefetch job false) s

/-- ADVISE. -/
def execAdvise (job : Nat) (s : State) : Host.Outcome State Fault Refusal :=
  onDev (fun d =>
    match d.takes job 3 with
    | none => d
    | some x => (d.setJob job x).scanNext job) s

end Sys2Proof.Machine
end

