-- ==== Sys2Proof/Machine/ScoutMgr.lean ====
section
/-! DEFINITION. The scout manager: the always-selected pages (R256), the selection contract (R297 to R305), spans, banks,
layer loads, prefetch, unloads (R306 to R312). -/

namespace Sys2Proof.Machine

/-! ### Always-selected pages -/

/-- Container bytes of the key part. -/
def Seq.keyBytes (q : Seq) : Nat := contBytes q.contK
/-- Container bytes of the value part; a latent layout has none. -/
def Seq.valBytes (q : Seq) : Nat := if q.dimV = 0 then 0 else contBytes q.contV

/-- The PINS count of a page, from the page manager's directory (R307). -/
def Dev.pinsOf (d : Dev) (q : Seq) (x : PageDesc) : Nat := (d.kv.pins.get q.tenant []).get x.key 0

/-- A page of a sequence is always selected (R256), from its descriptor and its pin count. -/
def Seq.always (q : Seq) (p : Nat) (x : PageDesc) (pins : Nat) : Bool :=
  let full := Nat.min (q.tokens / 64) q.pages
  x.pin || pins != 0 || decide (p < q.sink) || Nat.ble full (p + q.window) || !x.sketched

/-! ### Arrays and spans -/

/-- An array works and is enabled (R306, R317). -/
def Dev.arrayUsable (d : Dev) (a : Nat) : Bool :=
  d.has (128 + a) && d.obj 0x7802 (a + 1) 0 == 1 && (d.array a).st != .disabled && !(d.array a).failed

/-- The arrays of a tenant, in ascending order. -/
def Dev.tenantArrays (d : Dev) (tenant : Nat) : List Nat :=
  (List.range 128).filter (fun a => bitAt (d.obj 0x7801 0 tenant) a && d.arrayUsable a)

/-- The spans. -/
def Dev.spans (d : Dev) : List ScSpan := d.scout.spans
/-- Change the spans. -/
def Dev.setSpans (d : Dev) (l : List ScSpan) : Dev := { d with scout := { d.scout with spans := l } }
/-- Hold a span under its sequence. -/
def Dev.putSpan (d : Dev) (sp : ScSpan) : Dev := d.setSpans (d.spans.filter (fun x => x.seq != sp.seq) ++ [sp])
/-- Release the span of a sequence. -/
def Dev.dropSpan (d : Dev) (seq : Nat) : Dev := d.setSpans (d.spans.filter (fun x => x.seq != seq))
/-- The span of a sequence. -/
def Dev.spanOf (d : Dev) (seq : Nat) : Option ScSpan := d.spans.find? (fun x => x.seq == seq)

/-- A bank of a span. -/
def ScSpan.bank (sp : ScSpan) (b : Nat) : Option Layer := if b = 0 then sp.bank0 else sp.bank1
def ScSpan.setBank (sp : ScSpan) (b : Nat) (l : Option Layer) : ScSpan :=
  if b = 0 then { sp with bank0 := l } else { sp with bank1 := l }
/-- The layers in the banks. -/
def ScSpan.layers (sp : ScSpan) : List Layer := sp.bank0.toList ++ sp.bank1.toList
/-- A load of the span is in progress. -/
def ScSpan.busyLoad (sp : ScSpan) : Bool := sp.layers.any (fun l => l.loading.isSome)

/-- Free slots of a tenant's arrays (R306). -/
def Dev.freeSlots (d : Dev) (tenant : Nat) : List (Nat × Nat) :=
  let used := (d.spans.map (fun sp => sp.slots)).flatten
  ((d.tenantArrays tenant).map (fun a => (List.range 16).map (fun s => (a, s)))).flatten.filter (fun e => !used.contains e)

/-- A query on a sequence is in flight. -/
def Dev.queried (d : Dev) (seq : Nat) : Bool := d.tiles.any (fun e => e.2.query.any (fun q => q.seq == seq))

/-- A query runs on a bank of a sequence's span. -/
def Dev.bankBusy (d : Dev) (seq b : Nat) : Bool :=
  d.tiles.any (fun e => e.2.query.any (fun q => q.seq == seq && q.snap.any (fun s => s.bank == b)))

/-- Release idle spans of a tenant, least recently queried first, until enough slots are free (R309). -/
def Dev.makeSlots (tenant need seq : Nat) : Nat → Dev → Option (List (Nat × Nat)) × Dev
  | 0, d => (if need ≤ (d.freeSlots tenant).length then some ((d.freeSlots tenant).take need) else none, d)
  | n + 1, d =>
    if need ≤ (d.freeSlots tenant).length then (some ((d.freeSlots tenant).take need), d)
    else
      let idle := d.spans.filter (fun sp => sp.tenant == tenant && sp.seq != seq && !d.queried sp.seq && !sp.busyLoad)
      match (idle.map (fun sp => sp.last)).min? with
      | none => (none, d)
      | some m =>
        match idle.find? (fun sp => sp.last == m) with
        | some sp => Dev.makeSlots tenant need seq n (d.dropSpan sp.seq)
        | none => (none, d)

/-- The span for a load of a sequence (R306, R309): the one held, or a new one where NP has changed. -/
def Dev.spanFor (d : Dev) (n : Nat) (q : Seq) : Option ScSpan × Dev :=
  match (d.spanOf n).filter (fun sp => sp.np == q.pages) with
  | some sp => (some sp, d)
  | none =>
    let d := d.dropSpan n
    match Dev.makeSlots q.tenant (ceilDiv (q.groups * q.pages) 64) n d.spans.length d with
    | (none, d) => (none, d)
    | (some l, d) =>
      let sp : ScSpan := { seq := n, tenant := q.tenant, np := q.pages, slots := l }
      (some sp, d.putSpan sp)

/-- The arrays of a span. -/
def ScSpan.arrays (sp : ScSpan) : List Nat := (sp.slots.map (fun e => e.1)).eraseDups

/-- The last tenant whose sketches a bank held, and whether it is being cleared. -/
def SArray.tenantOf (a : SArray) (b : Nat) : Option Nat := if b = 0 then a.tenant0 else a.tenant1
def SArray.clearing (a : SArray) (b : Nat) : Bool := if b = 0 then a.clearing0 else a.clearing1
def SArray.setTenant (a : SArray) (b : Nat) (t : Option Nat) : SArray :=
  if b = 0 then { a with tenant0 := t } else { a with tenant1 := t }
def SArray.setClearing (a : SArray) (b : Nat) (c : Bool) : SArray :=
  if b = 0 then { a with clearing0 := c } else { a with clearing1 := c }

/-- A bank of an array. -/
def SArray.bank (a : SArray) (b : Nat) : ArrayBank := if b = 0 then a.bank0 else a.bank1
def SArray.setBank (a : SArray) (b : Nat) (x : ArrayBank) : SArray :=
  if b = 0 then { a with bank0 := x } else { a with bank1 := x }

/-- The sketch in a column of an array's bank: 512 bits of codes. -/
def Dev.sketchAt (d : Dev) (a b col : Nat) : Nat := ((d.array a).bank b).words.get col 0

/-- An array's bank takes sketches of a tenant: it is cleared first where it held another's (R312). -/
def Dev.takeBank (d : Dev) (tenant b a : Nat) : Dev :=
  let x := d.array a
  let other := (x.tenantOf b).any (fun t => t != tenant)
  d.setArray a { (x.setTenant b (some tenant)).setClearing b (x.clearing b || other) with
    clearStart := if other then d.pwr.tick else x.clearStart }

/-- Start a load of a layer into a bank (R307). -/
def Dev.startLoad (d : Dev) (sp : ScSpan) (layer b prio : Nat) : Dev :=
  let id := d.scout.nextLoad
  let sp := sp.setBank b (some { layer := layer, np := sp.np, loading := some id, prio := prio })
  let d := sp.arrays.foldl (fun (d : Dev) a => d.takeBank sp.tenant b a) ((d.wakeArrays sp.arrays).putSpan sp)
  ({ d with scout := { d.scout with nextLoad := id + 1 } }).bump 0x7830 5 sp.tenant 64

/-- The bank that a load takes (R307): an empty one first, otherwise the one queried least recently, once no query
runs on it. -/
def Dev.pickBank (d : Dev) (sp : ScSpan) : Option Nat :=
  if sp.bank0.isNone then some 0
  else if sp.bank1.isNone then some 1
  else
    let idle := [0, 1].filter (fun b => (sp.bank b).any (fun l => l.loading.isNone))
    let last := fun (b : Nat) => ((sp.bank b).map (fun l => l.lastQuery)).getD 0
    let pick := match idle with
      | [b] => some b
      | [_, _] => some (if last 1 < last 0 then 1 else 0)
      | _ => none
    pick.filter (fun b => !d.bankBusy sp.seq b)

/-- A prefetch that waits starts once its bank has no query and no load (R308). -/
def Dev.pumpNext (d : Dev) (sp : ScSpan) : Dev :=
  match sp.next with
  | none => d
  | some (layer, b) =>
    if sp.layers.any (fun l => l.layer == layer) then d.putSpan { sp with next := none }
    else if d.bankBusy sp.seq b || (sp.bank b).any (fun l => l.loading.isSome) then d
    else d.startLoad { sp with next := none } layer b 6

/-! ### Scores (R297, R299) -/

/-- Level of a sketch code (Table 15.1). -/
def sketchLevel (c : Nat) : Int := 2 * (c : Int) - 3

/-- Inputs of a query block. -/
def queryInputs (b : List Byte) : List Int := (unpack 4 256 b).map (fun n => signed n 4)

/-- Levels of a column. -/
def sketchLevels (sk : Nat) : List Int := (List.range 256).map (fun i => sketchLevel (bitsAt sk (2 * i) 2))

/-- Exact score and charge score. -/
def exactScore (qs vs : List Int) : Int := (qs.zip vs).foldl (fun e p => e + p.1 * p.2) 0
def chargeScore (qs vs : List Int) : Int := (qs.zip vs).foldl (fun e p => e + (p.1 / 4) * p.2) 0

/-- THRESH and THRESH_C (Table 15.2). -/
def threshOf (b : List Byte) : Int := signed (leNat ((b.drop 134).take 2)) 16
def threshCOf (b : List Byte) : Int := signed (leNat ((b.drop 132).take 2)) 16

/-! ### The selection contract (Table 15.3) -/

/-- An array answers this query in exact mode (R303). -/
def Dev.exactOn (d : Dev) (q : Query) (a : Nat) : Bool := q.exact || (d.array a).st != .fitted

/-- An array gives no answer: every column of it is selected. -/
def Dev.silentArray (d : Dev) (q : Query) (a : Nat) : Bool :=
  let st := (d.array a).st
  st == .disabled || st == .unverified || q.forcedArrays.contains a

/-- The comparator of a column in charge mode (R301): fixed outside the guard band, open within it and under a
perturbation. -/
def Dev.chargeOn (d : Dev) (q : Query) (a col : Nat) (c t : Int) : Bool :=
  let guard := (d.obj 0x7810 0 0 : Int)
  if (KMap.find q.shift a).isSome then Config.chargeBit q.eval a col c t
  else if t ≤ c then true
  else if c < t - 2 * guard then false
  else Config.chargeBit q.eval a col c t

/-- The slot of the column of a page of a group (R306), and its column in the array. -/
def ScSpan.columnOf (sp : ScSpan) (group p : Nat) : Nat × Nat :=
  let j := group * sp.np + p
  let (a, s) := sp.slots.getD (j / 64) (0, 0)
  (a, s * 64 + j % 64)

/-- The bit of a page of a layer in a bank of a span. -/
def Dev.pageBit (d : Dev) (q : Query) (sp : ScSpan) (b : Nat) (l : Layer) (qs : List Int) (p : Nat) : Bool :=
  let (a, col) := sp.columnOf q.group p
  if l.np ≤ p then false
  else if l.failed || l.always.getD (q.group * sp.np + p) true || d.silentArray q a then true
  else
    let vs := sketchLevels (d.sketchAt a b col)
    if d.exactOn q a then decide (threshOf q.block ≤ exactScore qs vs)
    else if bitAt (d.array a).suspect col then true
    else d.chargeOn q a col (chargeScore qs vs) (threshCOf q.block)

/-- The evaluation of a query on a loaded layer. -/
def Dev.evaluate (d : Dev) (q : Query) (sp : ScSpan) (b : Nat) (l : Layer) : QSnap :=
  let ps := List.range l.np
  let arrays := ps.map (fun p => (sp.columnOf q.group p).1)
  { bank := b, bits := ps.map (d.pageBit q sp b l (queryInputs q.block)), arrays := arrays
    exact := !l.failed && arrays.any (fun a => !d.silentArray q a && d.exactOn q a) }

/-- The threshold registers of the banks that a query runs on take its thresholds (R298, R300, R301). -/
def Dev.setThresh (d : Dev) (as : List Nat) (b : Nat) (blk : List Byte) : Dev :=
  as.foldl (fun (d : Dev) a =>
    let x := d.array a
    d.setArray a (x.setBank b { x.bank b with thresh := leNat ((blk.drop 132).take 4) })) d

/-- A query starts on a loaded layer (R54, R304, R307, R308): the chiplets of its arrays wake, and every query that
shares its evaluation starts with it and receives its result; one evaluation is exact where a sharer asks for it
(log 101). -/
def Dev.startQuery (d : Dev) (q : Query) (sq : Seq) (sp : ScSpan) (b : Nat) (l : Layer) : Dev :=
  let next := if q.layer + 1 < sq.layers then q.layer + 1 else 0
  let sp := { sp.setBank b (some { l with lastQuery := q.id }) with
    last := q.id
    next := if d.obj 0x7821 0 q.tenant = 1 && next != q.layer then some (next, 1 - b) else sp.next }
  let shares := fun (o : Query) => o.snap.isNone && !o.forced && o.eval == q.eval
  let exact := q.exact || d.tiles.any (fun e => e.2.query.any (fun o => shares o && o.exact))
  let snap := d.evaluate { q with exact := exact } sp b l
  let d := (d.wakeArrays snap.arrays).setThresh snap.arrays.eraseDups b q.block
  let d := { d.putSpan sp with tiles := d.tiles.mapVal (fun x =>
    { x with query := x.query.map (fun o => if shares o then { o with snap := some snap } else o) }) }
  d.pumpNext sp

/-- The bank of a span that holds a layer or loads it. -/
def ScSpan.holds (sp : ScSpan) (layer : Nat) : Option (Nat × Layer) :=
  [0, 1].findSome? (fun b => match sp.bank b with
    | some l => if l.layer == layer then some (b, l) else none
    | none => none)

/-- A tile's query goes on: it starts, or its layer's load does, or it waits (R307, R309). -/
def Dev.queryTry (d : Dev) (t : Nat) : Dev :=
  match (d.tile t).query with
  | none => d
  | some q =>
    if q.snap.isSome || q.forced then d
    else
      match d.seqOf q.tenant q.seq with
      | none => d.updTile t (fun x => { x with query := some { q with forced := true } })
      | some sq =>
        match d.spanFor q.seq sq with
        | (none, d) =>
          (d.updTile t (fun x => { x with query := some { q with forced := true } })).bump 0x7830 6 q.tenant 32
        | (some sp, d) =>
          match sp.holds q.layer with
          | some (b, l) =>
            if l.loading.isNone then d.startQuery q sq sp b l
            else d.putSpan (sp.setBank b (some { l with prio := Nat.min l.prio q.prio }))
          | none =>
            match d.pickBank sp with
            | some b => d.startLoad sp q.layer b q.prio
            | none => d

/-- Everything that waits in the scout manager goes on as far as it can. -/
def Dev.scoutPump (d : Dev) : Dev :=
  let d := (d.tiles.map (fun e => e.1)).foldl Dev.queryTry d
  d.spans.foldl (fun (d : Dev) sp => match d.spanOf sp.seq with
    | some sp => d.pumpNext sp
    | none => d) d

/-! ### Loads -/

/-- What a read of a load finds. -/
inductive LoadEnd where
  | wait
  | fail
  | ok (b : List Byte)
deriving DecidableEq, Repr

/-- The requester of a layer load (Table 7.11). -/
def loadReq (id prio : Nat) : Requester := { source := 0x82, tag := id + 1, prio := prio }

/-- Read spans of the pool for a load (R307); a failed check or bad data ends the load as a failed one (log 28). -/
def Dev.loadRead (tenant : Nat) (req : Requester) : List (Nat × Nat) → Dev → List Byte → LoadEnd × Dev
  | [], d, acc => (.ok acc, d)
  | (va, len) :: rest, d, acc =>
    match d.engRead tenant (d.obj 0x6010 0 tenant) va len req with
    | (.wait, d) => (.wait, d)
    | (.own, d) => (.fail, d)
    | (.data r, d) => if r.bad.isEmpty then Dev.loadRead tenant req rest d (acc ++ r.bytes) else (.fail, d)

/-- The bank of the span that a load fills. -/
def Dev.loadOf (d : Dev) (id : Nat) : Option (ScSpan × Nat × Layer) :=
  d.spans.findSome? (fun sp => [0, 1].findSome? (fun b => match sp.bank b with
    | some l => if l.loading == some id then some (sp, b, l) else none
    | none => none))

/-- A load ends with its layer's columns all forced to 1 (R311). -/
def Dev.loadFail (d : Dev) (id : Nat) : Dev :=
  match d.loadOf id with
  | none => d
  | some (sp, b, l) =>
    let d := d.putSpan (sp.setBank b (some { l with loading := none, failed := true }))
    (d.report { code := 0x15, tenant := sp.tenant, source := 0x85 }).scoutPump

/-- Numbers of `k` bytes in a byte string. -/
def chunks (b : List Byte) (k n : Nat) : List Nat := (List.range n).map (fun i => leNat ((b.drop (k * i)).take k))

/-- The sketches of a layer are written into the cells of the banks of its span. -/
def Dev.fillBank (d : Dev) (sp : ScSpan) (b : Nat) (sketches : List Nat) : Dev :=
  sp.arrays.foldl (fun (d : Dev) a =>
    let x := d.array a
    let mine := sketches.zipIdx.filterMap (fun (v, j) =>
      let c := sp.columnOf 0 j
      if c.1 = a then some (c.2, v) else none)
    let bank := x.bank b
    d.setArray a (x.setBank b { bank with
      known := false
      words := mine.foldl (fun (m : KMap Nat) e => m.put e.1 e.2) bank.words })) d

/-- SCOUT_LOAD_DONE: the layer's sketches and descriptors are in the bank (R307). -/
def Dev.loadDone (d : Dev) (id : Nat) : Dev :=
  match d.loadOf id with
  | none => d
  | some (sp, b, l) =>
    match d.seqOf sp.tenant sp.seq with
    | none => d
    | some q =>
      if sp.arrays.any (fun a => (d.array a).clearing b) then d
      else
        let gs := List.range q.groups
        let req := loadReq id l.prio
        match Dev.loadRead sp.tenant req (gs.map (fun g => (q.descVa l.layer g 0, 16 * sp.np))) d [] with
        | (.wait, d) => d
        | (.fail, d) => d.loadFail id
        | (.ok ds, d) =>
          match Dev.loadRead sp.tenant req (gs.map (fun g => (q.sketchVa l.layer g 0, 64 * sp.np))) d [] with
          | (.wait, d) => d
          | (.fail, d) => d.loadFail id
          | (.ok sk, d) =>
            let n := q.groups * sp.np
            let always := (chunks ds 16 n).zipIdx.map (fun (v, i) =>
              let x := descOf v
              q.always (i % sp.np) x (d.pinsOf q x))
            let d := d.fillBank sp b (chunks sk 64 n)
            (d.putSpan (sp.setBank b (some { l with loading := none, always := always }))).scoutPump

/-- SCOUT_LOAD_DONE. -/
def execScoutLoadDone (load : Nat) (s : State) : Host.Outcome State Fault Refusal :=
  onDev (fun d => if d.serving then d.scoutPump.loadDone load else d) s

/-! ### Unloads (R310) -/

/-- Load a layer of a sequence again. -/
def Dev.reload (d : Dev) (n layer : Nat) : Dev :=
  match KMap.find d.kv.seqs n with
  | none => d
  | some q =>
    match d.spanFor n q with
    | (none, d) => d
    | (some sp, d) =>
      match d.pickBank sp with
      | some b => d.startLoad sp layer b 6
      | none => d

/-- Unload the layers of a sequence; after COMMIT the same layers are loaded again. The span of a sequence that is no
longer live is released. -/
def Dev.unload (d : Dev) (again : Bool) (sp : ScSpan) : Dev :=
  let layers := sp.layers.map (fun l => l.layer)
  let d := (d.withdraw (fun r => sp.layers.any (fun l => l.loading.any (fun id => r.same (loadReq id 0))))).putSpan
    { sp with bank0 := none, bank1 := none, next := none }
  if (KMap.find d.kv.seqs sp.seq).isNone then d.dropSpan sp.seq
  else if again then layers.foldl (fun (d : Dev) l => d.reload sp.seq l) d
  else d

/-- A SEQ_CTL completed with OK (R310): the layers of the sequences it names are unloaded, or of every sequence of the
tenant. -/
def Dev.scoutChanged (d : Dev) (tenant : Nat) (seqs : Option (List Nat)) (again : Bool) : Dev :=
  ((d.spans.filter (fun sp => sp.tenant == tenant && seqs.all (fun l => l.contains sp.seq))).foldl
    (fun (d : Dev) sp => d.unload again sp) d).scoutPump

end Sys2Proof.Machine
end

