-- ==== Sys2Proof/Machine/Kv.lean ====
section
/-! DEFINITION. The SEQ_CTL operations of the KV page manager (R243 to R253) and eviction (R257). An operation reads and
checks everything, then translates what it will write, and only then changes anything. -/

namespace Sys2Proof.Machine

/-- Why an operation does not complete now: it waits, posts a status, a trailer does not match its page, an access
fails the ownership check, data are uncorrectable, or it needs HBM that eviction may give. -/
inductive KvEnd where
  | wait
  | status (n : Nat)
  | corrupt
  | own
  | ue
  | short (need : Nat)
deriving DecidableEq, Repr

/-- A step of an operation: it translates and reads, and may stop. -/
abbrev KM := ExceptT KvEnd (StateM Dev)

/-- Go on only where a condition holds. -/
def KM.need (c : Bool) (e : KvEnd) : KM Unit := if c then pure () else throw e

/-- Who acts: the job, its tenant, its PASID and the tenant's pool PASID. -/
structure KvCtx where
  job : Nat
  tenant : Nat
  pasid : Nat
  pool : Nat
  req : Requester
deriving DecidableEq, Repr

/-- Translate and check an access of the page manager. -/
def KM.reach (c : KvCtx) (pasid va len access : Nat) : KM (List (Nat × Nat × Nat)) := do
  let d ← get
  match d.translateSpan c.tenant pasid va len access c.req with
  | (none, d) => do
    set d
    throw .wait
  | (some ps, d) =>
    match d.ownOkAll c.tenant ps (access == 1) with
    | (true, d) => do
      set d
      pure ps
    | (false, d) => do
      set (d.ownReport c.tenant pasid va access c.req)
      throw .own

/-- Read bytes. -/
def KM.read (c : KvCtx) (pasid va len : Nat) : KM (List Byte) := do
  let ps ← KM.reach c pasid va len 0
  let d ← get
  let (r, d) := d.busRead c.tenant pasid ps
  set (d.hbmErrors c.tenant 0x8B (some c.job) r.badLines r.corrected)
  KM.need r.bad.isEmpty .ue
  pure r.bytes

/-- What is written: bytes, or zeros over whole pages. -/
inductive KvData where
  | bytes (b : List Byte)
  | zeros (len : Nat)
deriving DecidableEq, Repr

/-- A write that an operation will make; the write of a key trailer names its container and the PINS count that the
directory keeps with it (R307). -/
structure KvWrite where
  pasid : Nat
  va : Nat
  data : KvData
  pins : Option (Nat × Nat) := none
deriving DecidableEq, Repr

/-- Length of a write. -/
def KvData.len : KvData → Nat
  | .bytes b => b.length
  | .zeros n => n

/-- Perform a translated write. -/
def Dev.kvWrite (d : Dev) (c : KvCtx) (ps : List (Nat × Nat × Nat)) (w : KvWrite) : Dev :=
  let d := match w.pins with
    | some (key, n) =>
      let l := d.kv.pins.get c.tenant []
      { d with kv := { d.kv with pins := d.kv.pins.put c.tenant (if n = 0 then l.drop key else l.put key n) } }
    | none => d
  match w.data with
  | .bytes b => d.busWrite c.tenant w.pasid 0x8B (some c.job) ps b
  | .zeros _ =>
    let d := d.onBus c.tenant w.pasid true ps
    { d with mem := ps.foldl (fun (m : Mem) p => m.wipe p.1 p.2.2) d.mem }

/-- What an operation will do once everything is checked: its writes, its allocations afterwards, its effect on the
directory, the copies it counts, and what it tells the scout manager. -/
structure KvPlan where
  writes : List KvWrite := []
  allocs : List Alloc := []
  seqs : KMap Seq := []
  copies : Nat := 0
  told : Option (Option (List Nat) × Bool) := none
deriving DecidableEq, Repr

/-! ### Allocation (R245, R250) -/

/-- A place of the given size and alignment in the pool, none of whose bytes host memory backs where it is for a table
(R245): a start, the search's first of the places that fit. -/
def poolPlace (allocs : List Alloc) (host : Nat → Nat → Nat) (table : Bool) (base bytes size start : Nat) : Option Nat :=
  let align := Nat.max 4096 size
  let align := if size ≤ 131072 then align else 4096
  let cands := ((base :: allocs.map (fun a => a.va + a.size)).map (fun a => roundUp a align)).eraseDups
  let ok := cands.filter (fun a => Nat.ble base a && Nat.ble (a + size) (base + bytes) &&
    allocs.all (fun b => overlap a size b.va b.size == 0) && (!table || host a size == 0))
  match ok with
  | [] => none
  | [a] => some a
  | l => l[start % l.length]?

/-- Allocate a list of sizes; the tables come first. A place whose pages still map the host window counts as host
memory (R245, log 103). -/
def poolPlan (host : Nat → Nat → Nat) (base bytes start : Nat) :
    List (Nat × Bool) → List Alloc → List Nat → Option (List Alloc × List Nat)
  | [], allocs, acc => some (allocs, acc)
  | (size, table) :: rest, allocs, acc =>
    match poolPlace allocs host table base bytes size start with
    | none => none
    | some va =>
      poolPlan host base bytes start rest (allocs ++ [{ va := va, size := size, host := host va size, table := table }])
        (acc ++ [va])

/-- Bytes of a span of the pool whose pages map the host window now. -/
def Dev.hostBacked (d : Dev) (tenant pasid va size : Nat) : Nat :=
  ((List.range (size / 4096)).filter (fun i => (d.paNow tenant pasid (va + 4096 * i)).any (fun pa => Nat.ble hostBase pa))).length *
    4096

/-- A page of a sequence. -/
structure PageAt where
  row : Nat
  page : Nat
  desc : PageDesc
deriving DecidableEq, Repr

/-- Layer and group of a row. -/
def Seq.layerOf (q : Seq) (row : Nat) : Nat := row / q.groups
def Seq.groupOf (q : Seq) (row : Nat) : Nat := row % q.groups

/-! ### Eviction candidates (R257) -/

/-- Pages of 4 KiB that a page's containers take. -/
def Seq.pagesOf (q : Seq) (x : PageDesc) : List Nat :=
  (List.range (q.keyBytes / 4096)).map (fun i => x.key + 4096 * i) ++
    (List.range (q.valBytes / 4096)).map (fun i => x.val + 4096 * i)

/-- A page may be evicted (R257): it is not always selected, its containers are in HBM, advised PREFER_HOST and not
moving, its PINS is 0, and every leaf that maps it may move to the host. -/
def Dev.candidate (d : Dev) (q : Seq) (row p : Nat) : Option PageDesc :=
  let pasid := d.obj 0x6010 0 q.tenant
  match d.peek q.tenant pasid (q.descVa (q.layerOf row) (q.groupOf row) p) 16 with
  | none => none
  | some n =>
    let x := descOf n
    let inHbm := fun (va : Nat) => (d.allocs q.tenant).any (fun a => a.va == va && a.host == 0)
    if decide (p < q.pages) && x.st != 0 && !q.always p x (d.pinsOf q x) && inHbm x.key && (q.dimV == 0 || inHbm x.val) &&
        (q.pagesOf x).all (fun va => d.adviceOf q.tenant pasid (va / 4096) == 3 && !d.moving q.tenant pasid va &&
          (d.leafNow q.tenant pasid va).any (wantMove q.tenant pasid false d va)) then
      some x
    else none

/-- The first candidate of a tenant: by page, sequence, layer and group. -/
def Dev.firstCandidate (d : Dev) (tenant : Nat) : Option (Seq × PageDesc) :=
  let seqs := d.kv.seqs.filter (fun e => e.2.tenant == tenant)
  let top := seqs.foldl (fun n e => Nat.max n e.2.pages) 0
  (List.range top).findSome? (fun p => seqs.findSome? (fun e => (List.range e.2.rows).findSome? (fun r =>
    (d.candidate e.2 r p).map (fun x => (e.2, x)))))

/-- The distinct leaves that map a list of pages. -/
def Dev.leavesOf (d : Dev) (tenant pasid : Nat) (vas : List Nat) : List (Nat × Leaf) :=
  vas.foldl (fun (acc : List (Nat × Leaf)) va =>
    match d.leafNow tenant pasid va with
    | some l => if acc.any (fun e => e.1 == l.base va) then acc else acc ++ [(l.base va, l)]
    | none => acc) []

/-- Bytes that the eviction of a page moves: its leaves move whole (R179). -/
def Dev.evictBytes (d : Dev) (q : Seq) (x : PageDesc) : Nat :=
  (d.leavesOf q.tenant (d.obj 0x6010 0 q.tenant) (q.pagesOf x)).foldl (fun n e => n + e.2.bytes) 0

/-- The first candidate, where the host pool has room for it. -/
def Dev.evictable (d : Dev) (tenant : Nat) : Option (Seq × PageDesc) :=
  (d.firstCandidate tenant).filter (fun (e : Seq × PageDesc) => Nat.ble (d.hostUsed tenant + d.evictBytes e.1 e.2) (d.obj 0x6015 0 tenant))

/-- An eviction of a tenant is in progress. -/
def Dev.evicting (d : Dev) (tenant : Nat) : Bool := d.kv.evicts.any (fun e => e.tenant == tenant)

/-- HBM that waiting allocations of a tenant need. -/
def Dev.waitingNeed (d : Dev) (tenant : Nat) : Nat :=
  (d.kv.short.filter (fun e => (KMap.find d.jobs e.1).any (fun x => x.tenant == tenant && x.st == .waiting))).foldl
    (fun n e => Nat.max n e.2) 0

/-- The eviction in progress of a tenant goes on: its pages are walked in class 6 and their leaves moved (Table 7.11). -/
def Dev.evictNext (d : Dev) (tenant : Nat) : Dev :=
  let vas := (d.kv.evicts.filter (fun e => e.tenant == tenant)).flatMap (fun e => e.vas)
  vas.foldl (fun (d : Dev) va => d.pageWalk tenant (d.obj 0x6010 0 tenant) va (evictReq tenant)) d

/-- KV_EVICTION of a tenant: the next candidate's containers begin to move to the host pool. An allocation that waits
and that no candidate can help posts NO_RESOURCE (R257). -/
def Dev.evict (d : Dev) (tenant : Nat) : Dev :=
  let quota := d.obj 0x6013 0 tenant
  let used := d.hbmUsed tenant
  let need := d.waitingNeed tenant != 0 && decide (quota < used + d.waitingNeed tenant)
  if d.evicting tenant then d.evictNext tenant
  else if decide (quota < used + d.obj 0x6016 0 tenant) || need then
    match d.evictable tenant with
    | none => if need then d.evictFail tenant else d
    | some (q, x) =>
      let d := { d with kv := { d.kv with evicts := d.kv.evicts ++ [(⟨tenant, q.pagesOf x⟩ : Evict)] } }
      d.evictNext tenant
  else d

/-- KV_EVICTION. -/
def execKvEviction (tenant : FnId) (s : State) : Host.Outcome State Fault Refusal :=
  onDev (fun d => if d.serving then d.evict tenant.val else d) s

/-! ### Checks and pieces of the operations -/

/-- Allocate containers and tables for an operation that gives `back` bytes of HBM back (R250, R257). -/
def KM.alloc (c : KvCtx) (kept : List Alloc) (sizes : List (Nat × Bool)) (back : Nat) : KM (List Alloc × List Nat) := do
  let d ← get
  let base := d.obj 0x6011 0 c.tenant
  let need := sizes.foldl (fun n e => n + e.1) 0
  if sizes.isEmpty then pure (kept, [])
  else
    KM.need (base != 0) (.status 9)
    match poolPlan (d.hostBacked c.tenant c.pool) base (d.obj 0x6012 0 c.tenant) (Config.poolStart c.job) sizes kept [] with
    | none => throw (.status 9)
    | some (allocs, vas) =>
      let held := allocs.foldl (fun n a => if vas.contains a.va then n + a.host else n) 0
      if d.obj 0x6013 0 c.tenant < d.hbmUsed c.tenant - back + (need - held) then
        if (d.evictable c.tenant).isSome || d.evicting c.tenant then throw (.short (need - held - back))
        else throw (.status 9)
      else pure (allocs, vas)

/-- The descriptors of a sequence's allocated pages, row by row; one that R10 rejects is KV_CORRUPT (log 64). -/
def KM.pages (c : KvCtx) (q : Seq) : KM (List PageAt) := do
  let rows ← (List.range q.rows).mapM (fun r => do
    let b ← KM.read c c.pool (q.descVa (q.layerOf r) (q.groupOf r) 0) (16 * q.pages)
    KM.need ((chunks b 16 q.pages).all descOk) .corrupt
    pure ((chunks b 16 q.pages).zipIdx.map (fun (n, p) => ({ row := r, page := p, desc := descOf n } : PageAt))))
  pure rows.flatten

/-- A trailer names the page that refers to it (R246). -/
def trailerOk (q : Seq) (x : PageAt) (value : Bool) (n : Nat) : Bool :=
  let t := trailerOf n
  bitsAt n 0 415 == 0 && t.layer == q.layerOf x.row && t.group == q.groupOf x.row && t.page == x.page && t.value == value &&
    x.desc.st != 0 &&
    (if value then t.refs == 0 && t.pins == 0 else t.refs != 0 && (!x.desc.pin || t.pins != 0))

/-- Read and check the trailers of a page; the key part's trailer counts. -/
def KM.trailer (c : KvCtx) (q : Seq) (x : PageAt) : KM Trailer := do
  let k ← KM.read c c.pool (x.desc.key + q.keyBytes - 64) 64
  KM.need (trailerOk q x false (leNat k)) .corrupt
  if q.dimV = 0 then pure (trailerOf (leNat k))
  else
    let v ← KM.read c c.pool (x.desc.val + q.valBytes - 64) 64
    KM.need (trailerOk q x true (leNat v)) .corrupt
    pure (trailerOf (leNat k))

/-- A write in the pool. -/
def KvCtx.put (c : KvCtx) (va : Nat) (n len : Nat) : KvWrite := ⟨c.pool, va % 2 ^ 64, .bytes (leBytes n len), none⟩

/-- The write of a descriptor. -/
def KvCtx.putDesc (c : KvCtx) (q : Seq) (row p : Nat) (x : PageDesc) : KvWrite :=
  c.put (q.descVa (q.layerOf row) (q.groupOf row) p) x.bits 16

/-- The write of a page's key trailer. -/
def KvCtx.putTrailer (c : KvCtx) (q : Seq) (key : Nat) (t : Trailer) : KvWrite :=
  { c.put (key + q.keyBytes - 64) t.bits 64 with pins := some (key, t.pins) }

/-- Sizes of a page's containers. -/
def Seq.contSizes (q : Seq) : List (Nat × Bool) := (q.keyBytes, false) :: (if q.dimV = 0 then [] else [(q.valBytes, false)])

/-- Containers of a page that takes its place in a list of addresses. -/
def Seq.take (q : Seq) (vas : List Nat) (i : Nat) : Nat × Nat :=
  if q.dimV = 0 then (vas.getD i 0, 0) else (vas.getD (2 * i) 0, vas.getD (2 * i + 1) 0)

/-- The trailers and the descriptor of a page in new containers (R249, R253). -/
def KvCtx.newPage (c : KvCtx) (n : Nat) (q : Seq) (row p : Nat) (vas : Nat × Nat) (pin : Bool) : List KvWrite × PageDesc :=
  let t : Trailer :=
    { refs := 1, pins := pin.toNat, seq := n, layer := q.layerOf row, group := q.groupOf row, page := p, value := false }
  let x : PageDesc := ({ key := vas.1, val := vas.2, pin := pin } : PageDesc).at' p q.tokens
  (c.putDesc q row p x :: c.putTrailer q vas.1 t ::
    (if q.dimV = 0 then [] else [c.put (vas.2 + q.valBytes - 64) { t with refs := 0, pins := 0, value := true }.bits 64]), x)

/-- The payload of a page copied into new containers (R253). -/
def KM.copy (c : KvCtx) (q : Seq) (x : PageDesc) (vas : Nat × Nat) : KM (List KvWrite) := do
  let k ← KM.read c c.pool x.key (q.payload false)
  if q.dimV = 0 then pure [⟨c.pool, vas.1, .bytes k, none⟩]
  else
    let v ← KM.read c c.pool x.val (q.payload true)
    pure [⟨c.pool, vas.1, .bytes k, none⟩, ⟨c.pool, vas.2, .bytes v, none⟩]

/-- A reference to a page is given up (R253): the trailer's new value, or nothing where the containers return. -/
def KvCtx.drop (c : KvCtx) (q : Seq) (x : PageDesc) (t : Trailer) : List KvWrite :=
  if t.refs ≤ 1 then [] else [c.putTrailer q x.key { t with refs := t.refs - 1, pins := t.pins - x.pin.toNat }]

/-- Containers that return to the pool with a last reference. -/
def Seq.freed (q : Seq) (x : PageDesc) (t : Trailer) : List Nat :=
  if t.refs ≤ 1 then x.key :: (if q.dimV = 0 then [] else [x.val]) else []

/-- Allocations without the containers or tables at the given addresses. -/
def without (l : List Alloc) (vas : List Nat) : List Alloc := l.filter (fun a => !vas.contains a.va)

/-- HBM that allocations at the given addresses hold. -/
def hbmOf (l : List Alloc) (vas : List Nat) : Nat :=
  l.foldl (fun n a => if vas.contains a.va then n + (a.size - a.host) else n) 0

/-- Tokens of INLINE. -/
def inlineN (x : Job) : Nat := bitsAt x.inline 96 32
def inlineReserve (x : Job) : Nat := bitsAt x.inline 72 24
def inlineParent (x : Job) : Nat := bitsAt x.inline 56 16
def inlineSk (x : Job) : Bool := bitAt x.inline 47

/-- A sequence that must be live. -/
def KM.live (c : KvCtx) (n : Nat) : KM Seq := do
  let d ← get
  match d.seqOf c.tenant n with
  | some q => pure q
  | none => throw (.status 8)

/-- The argument block that an operation needs (R250). -/
def KM.needArgs (x : Job) : KM Unit := KM.need (x.argsLen == 1 && x.args != 0) (.status 1)

/-- A new sequence's number is in the range and not live, and the tenant may have one more (R183, R250). -/
def KM.fresh (c : KvCtx) (n : Nat) : KM Unit := do
  let d ← get
  KM.need (d.inSeqRange c.tenant n && (KMap.find d.kv.seqs n).isNone) (.status 8)

/-- TEN_SEQ_MAX (R183). -/
def KM.room (c : KvCtx) : KM Unit := do
  let d ← get
  KM.need (decide ((d.kv.seqs.filter (fun e => e.2.tenant == c.tenant)).length < d.obj 0x3822 0 c.tenant)) (.status 9)

/-- Every allocated page of every row, in the order of the containers allocated for them. -/
def Seq.places (q : Seq) (lo hi : Nat) : List (Nat × Nat) :=
  ((List.range q.rows).map (fun r => (List.range (hi - lo)).map (fun i => (r, lo + i)))).flatten

/-! ### The operations (Table 12.5) -/

/-- CREATE. -/
def kvCreate (c : KvCtx) (x : Job) : KM KvPlan := do
  KM.needArgs x
  let b ← KM.read c x.pasid x.args 64
  match layoutOf (leNat b) c.tenant x.seq with
  | none => throw (.status 1)
  | some q => do
    KM.fresh c x.seq
    let need := ceilDiv (inlineReserve x) 64
    KM.need (Nat.ble need q.pageCap) (.status 8)
    KM.room c
    let d ← get
    let places := q.places 0 need
    let (allocs, vas) ← KM.alloc c (d.allocs c.tenant)
      ([(q.ptBytes, true), (q.skBytes, true)] ++ (places.map (fun _ => q.contSizes)).flatten) 0
    let q := { q with ptBase := vas.getD 0 0, skBase := vas.getD 1 0, pages := need }
    let new := places.zipIdx.map (fun (e, i) => (c.newPage x.seq q e.1 e.2 (q.take (vas.drop 2) i) false).1)
    pure { writes := ⟨c.pool, q.ptBase, .zeros q.ptBytes, none⟩ :: new.flatten, allocs := allocs, seqs := d.kv.seqs.put x.seq q
           told := some (some [x.seq], false) }

/-- FORK (R253). -/
def kvFork (c : KvCtx) (x : Job) : KM KvPlan := do
  KM.fresh c x.seq
  let par ← KM.live c (inlineParent x)
  let n := inlineN x
  KM.need (Nat.ble n par.tokens) (.status 8)
  let need := ceilDiv (n + inlineReserve x) 64
  KM.need (Nat.ble need par.pageCap) (.status 8)
  let shared := n / 64
  let upTo := ceilDiv n 64
  let old ← KM.pages c par
  let old := old.filter (fun y => decide (y.page < upTo))
  let trs ← old.mapM (fun y => KM.trailer c par y)
  KM.room c
  let d ← get
  let q := { par with tokens := n, pages := need, parent := inlineParent x }
  let places := q.places shared need
  let (allocs, vas) ← KM.alloc c (d.allocs c.tenant)
    ([(q.ptBytes, true), (q.skBytes, true)] ++ (places.map (fun _ => q.contSizes)).flatten) 0
  let q := { q with ptBase := vas.getD 0 0, skBase := vas.getD 1 0 }
  let vas := vas.drop 2
  let keep := (old.zip trs).filter (fun e => decide (e.1.page < shared))
  let shareW := keep.map (fun e =>
    [c.putDesc q e.1.row e.1.page e.1.desc,
     c.putTrailer q e.1.desc.key { e.2 with refs := e.2.refs + 1, pins := e.2.pins + e.1.desc.pin.toNat }])
  let skW ← keep.mapM (fun e => do
    let b ← KM.read c c.pool (par.sketchVa (q.layerOf e.1.row) (q.groupOf e.1.row) e.1.page) 64
    pure (⟨c.pool, q.sketchVa (q.layerOf e.1.row) (q.groupOf e.1.row) e.1.page, .bytes b, none⟩ : KvWrite))
  let new ← places.zipIdx.mapM (fun (e, i) => do
    match old.find? (fun y => y.row == e.1 && y.page == e.2) with
    | none => pure (c.newPage x.seq q e.1 e.2 (q.take vas i) false).1
    | some y => do
      let w ← KM.copy c q y.desc (q.take vas i)
      pure ((c.newPage x.seq q e.1 e.2 (q.take vas i) y.desc.pin).1 ++ w))
  pure { writes := ⟨c.pool, q.ptBase, .zeros q.ptBytes, none⟩ :: (shareW.flatten ++ skW ++ new.flatten), allocs := allocs
         seqs := d.kv.seqs.put x.seq q, copies := if n % 64 = 0 then 0 else q.rows
         told := some (some [x.seq, inlineParent x], false) }

/-- COMMIT (R246, R251, R252): the trailers of the pages whose descriptors change are checked. -/
def kvCommit (c : KvCtx) (x : Job) : KM KvPlan := do
  let q0 ← KM.live c x.seq
  let tokens := q0.tokens + inlineN x
  KM.need (Nat.ble tokens (64 * q0.pages)) (.status 8)
  let need := ceilDiv (tokens + inlineReserve x) 64
  KM.need (Nat.ble need q0.pageCap) (.status 8)
  let old ← KM.pages c q0
  let d ← get
  let q := { q0 with tokens := tokens, pages := Nat.max q0.pages need }
  let places := q.places q0.pages q.pages
  let (allocs, vas) ← KM.alloc c (d.allocs c.tenant) (places.map (fun _ => q.contSizes)).flatten 0
  let upd := old.map (fun y =>
    let z := y.desc.at' y.page tokens
    (y, { z with sketched := z.sketched || (inlineSk x && z.st == 2) }))
  let changed := upd.filter (fun e => e.1.desc != e.2)
  let _ ← changed.mapM (fun e => KM.trailer c q0 e.1)
  let new := places.zipIdx.map (fun (e, i) => (c.newPage x.seq q e.1 e.2 (q.take vas i) false).1)
  let visible := !places.isEmpty || changed.any (fun e => e.1.desc.st != e.2.st || e.1.desc.sketched != e.2.sketched)
  pure { writes := changed.map (fun e => c.putDesc q e.1.row e.1.page e.2) ++ new.flatten, allocs := allocs
         seqs := d.kv.seqs.put x.seq q, told := if visible then some (some [x.seq], true) else none }

/-- TRIM (R253): a page that becomes FILLING loses SKETCHED, and is copied first where it is shared. -/
def kvTrim (c : KvCtx) (x : Job) : KM KvPlan := do
  let q0 ← KM.live c x.seq
  let n := inlineN x
  KM.need (Nat.ble n q0.tokens) (.status 8)
  let need := ceilDiv (n + inlineReserve x) 64
  KM.need (Nat.ble need q0.pageCap) (.status 8)
  let old ← KM.pages c q0
  let q := { q0 with tokens := n, pages := need }
  let becomes := fun (y : PageAt) => Nat.ble (n / 64) y.page && decide (y.page < q0.tokens / 64) && decide (y.page < need)
  let touched := old.filter (fun y => becomes y || Nat.ble need y.page)
  let trs ← touched.mapM (fun y => do
    let t ← KM.trailer c q0 y
    pure (y, t))
  let gone := trs.filter (fun e => Nat.ble need e.1.page)
  let copies := trs.filter (fun e => becomes e.1 && decide (1 < e.2.refs))
  let freed := (gone.map (fun e => q.freed e.1.desc e.2)).flatten
  let d ← get
  let places := q.places q0.pages need
  let (allocs, vas) ← KM.alloc c (without (d.allocs c.tenant) freed)
    (((copies.map (fun _ => q.contSizes)) ++ places.map (fun _ => q.contSizes)).flatten) (hbmOf (d.allocs c.tenant) freed)
  let copyW ← copies.zipIdx.mapM (fun (e, i) => do
    let w ← KM.copy c q e.1.desc (q.take vas i)
    pure ((c.newPage x.seq q e.1.row e.1.page (q.take vas i) e.1.desc.pin).1 ++ w ++ c.drop q e.1.desc e.2))
  let stay := old.filter (fun y => decide (y.page < need) && !copies.any (fun e => e.1 == y))
  let stayW := stay.map (fun y =>
    let z := y.desc.at' y.page n
    let z := if becomes y then { z with sketched := false } else z
    if z = y.desc then [] else [c.putDesc q y.row y.page z])
  let goneW := gone.map (fun e => c.putDesc q e.1.row e.1.page {} :: c.drop q e.1.desc e.2)
  let k := copies.length
  let new := places.zipIdx.map (fun (e, i) => (c.newPage x.seq q e.1 e.2 (q.take vas (k + i)) false).1)
  pure { writes := stayW.flatten ++ copyW.flatten ++ goneW.flatten ++ new.flatten, allocs := allocs
         seqs := d.kv.seqs.put x.seq q, copies := k, told := some (some [x.seq], false) }

/-- PIN and UNPIN (R251). -/
def kvPin (on : Bool) (c : KvCtx) (x : Job) : KM KvPlan := do
  let q ← KM.live c x.seq
  let n := inlineN x
  let r := inlineReserve x
  KM.need (r != 0 && Nat.ble (n + r) q.pages) (.status 8)
  let old ← KM.pages c q
  let hit := old.filter (fun y => Nat.ble n y.page && decide (y.page < n + r) && y.desc.pin != on)
  let trs ← hit.mapM (fun y => KM.trailer c q y)
  let d ← get
  let ws := (hit.zip trs).map (fun e =>
    [c.putDesc q e.1.row e.1.page { e.1.desc with pin := on },
     c.putTrailer q e.1.desc.key { e.2 with pins := if on then e.2.pins + 1 else e.2.pins - 1 }])
  pure { writes := ws.flatten, allocs := d.allocs c.tenant, seqs := d.kv.seqs, told := some (none, false) }

/-- QUERY. -/
def kvQuery (c : KvCtx) (x : Job) : KM KvPlan := do
  KM.needArgs x
  let q ← KM.live c x.seq
  let d ← get
  pure { writes := [⟨x.pasid, x.args, .bytes (leBytes q.bits 64), none⟩], allocs := d.allocs c.tenant, seqs := d.kv.seqs }

/-- FREE (R253). -/
def kvFree (c : KvCtx) (x : Job) : KM KvPlan := do
  let q ← KM.live c x.seq
  let old ← KM.pages c q
  let trs ← old.mapM (fun y => do
    let t ← KM.trailer c q y
    pure (y, t))
  let d ← get
  let freed := (trs.map (fun e => q.freed e.1.desc e.2)).flatten
  pure { writes := (trs.map (fun e => c.drop q e.1.desc e.2)).flatten
         allocs := without (d.allocs c.tenant) (freed ++ [q.ptBase, q.skBase])
         seqs := d.kv.seqs.drop x.seq, told := some (some [x.seq], false) }

/-! ### Running an operation -/

/-- Translate every write before the first is made. -/
def KM.prepare (c : KvCtx) (p : KvPlan) : KM (List (List (Nat × Nat × Nat) × KvWrite)) :=
  p.writes.mapM (fun w => do
    let ps ← KM.reach c w.pasid w.va w.data.len 1
    pure (ps, w))

/-- The effect of a checked and translated operation. -/
def Dev.kvApply (d : Dev) (c : KvCtx) (p : KvPlan) (ws : List (List (Nat × Nat × Nat) × KvWrite)) : Dev :=
  let d := ws.foldl (fun (d : Dev) w => d.kvWrite c w.1 w.2) d
  let d := { d with kv := { d.kv with
    seqs := p.seqs, allocs := if p.allocs.isEmpty then d.kv.allocs.drop c.tenant else d.kv.allocs.put c.tenant p.allocs
    short := d.kv.short.drop c.job
    pins := d.kv.pins.put c.tenant ((d.kv.pins.get c.tenant []).filter (fun e => p.allocs.any (fun a => a.va == e.1))) } }
  let d := d.bump 0x6021 2 c.tenant 64 p.copies
  let d := d.endJob c.job 0 0
  match p.told with
  | some (l, again) => d.scoutChanged c.tenant l again
  | none => d

/-- A SEQ_CTL job starts and runs to its end, or waits (R250, R254, Table 7.11). -/
def Dev.seqCtl (d : Dev) (j op : Nat) (body : KvCtx → Job → KM KvPlan) : Dev :=
  match d.takes j 4 with
  | none => d
  | some x =>
    if bitsAt x.inline 48 8 != op then d
    else
      let d := d.setJob j x
      let c : KvCtx :=
        { job := j, tenant := x.tenant, pasid := x.pasid, pool := d.obj 0x6010 0 x.tenant
          req := d.withJob (some j) { source := 0x8B } }
      let run : KM (KvPlan × List (List (Nat × Nat × Nat) × KvWrite)) := do
        let p ← body c x
        let ws ← KM.prepare c p
        pure (p, ws)
      match run.run.run d with
      | (.ok (p, ws), d) => d.kvApply c p ws
      | (.error e, d) =>
        let gone := fun (d : Dev) => { d with kv := { d.kv with short := d.kv.short.drop j } }
        match e with
        | .wait => d
        | .short n => { d with kv := { d.kv with short := d.kv.short.put j n } }
        | .status n => (gone d).endJob j n 0
        | .corrupt => ((gone d).bump 0x6021 3 x.tenant 32).jobFault j none { code := 0x14, tenant := x.tenant, source := 0x8B }
        | .own => (gone d).endJob j 3 (faultKey none 0x02)
        | .ue => (gone d).endJob j 7 (faultKey none 0x04)

/-- SEQ_CTL CREATE. -/
def execCreate (job : Nat) (s : State) : Host.Outcome State Fault Refusal := onDev (fun d => d.seqCtl job 1 kvCreate) s
/-- SEQ_CTL FORK. -/
def execFork (job : Nat) (s : State) : Host.Outcome State Fault Refusal := onDev (fun d => d.seqCtl job 2 kvFork) s
/-- SEQ_CTL COMMIT. -/
def execCommit (job : Nat) (s : State) : Host.Outcome State Fault Refusal := onDev (fun d => d.seqCtl job 3 kvCommit) s
/-- SEQ_CTL TRIM. -/
def execTrim (job : Nat) (s : State) : Host.Outcome State Fault Refusal := onDev (fun d => d.seqCtl job 4 kvTrim) s
/-- SEQ_CTL PIN. -/
def execPin (job : Nat) (s : State) : Host.Outcome State Fault Refusal := onDev (fun d => d.seqCtl job 5 (kvPin true)) s
/-- SEQ_CTL UNPIN. -/
def execUnpin (job : Nat) (s : State) : Host.Outcome State Fault Refusal := onDev (fun d => d.seqCtl job 6 (kvPin false)) s
/-- SEQ_CTL QUERY. -/
def execSeqCtlQuery (job : Nat) (s : State) : Host.Outcome State Fault Refusal := onDev (fun d => d.seqCtl job 7 kvQuery) s
/-- SEQ_CTL FREE. -/
def execFree (job : Nat) (s : State) : Host.Outcome State Fault Refusal := onDev (fun d => d.seqCtl job 8 kvFree) s

/-- An FLR of the tenant's function frees each of its sequences, without any check of trailers (R75, R253). -/
def Dev.kvFlr (d : Dev) (tenant : Nat) : Dev :=
  let d := d.cancelMoves tenant
  let d := { d with kv := { d.kv with
    seqs := d.kv.seqs.filter (fun e => e.2.tenant != tenant), allocs := d.kv.allocs.drop tenant
    evicts := d.kv.evicts.filter (fun e => e.tenant != tenant), pins := d.kv.pins.drop tenant } }
  let d := d.withdraw (fun r => r.moves && r.job.isNone && r.ring == tenant)
  d.scoutChanged tenant none false

end Sys2Proof.Machine
end

