-- ==== Sys2Proof/Machine/SolveMath.lean ====
section
/-! DEFINITION. The arithmetic of the Dermond solver (R318 to R321, R324 to R330): cells, normal matrices, factors, solves,
records, the time bound. Where a rounding falls between the named operations is log 26. -/

namespace Sys2Proof.Machine

/-- Arithmetic of one problem: the Boolean collects saturations (R327). -/
abbrev RM := StateM Bool

/-- Saturate to a width (R242). -/
def RM.sat (w : Nat) (i : Int) : RM Int := do
  let (v, f) := satW w i
  modify (fun g => g || f)
  pure v

/-- Add exact products of Q3.28 numbers to a Q7.56 accumulator, in order (R318). -/
def RM.acc (init : Int) (l : List (Int × Int)) : RM Int := l.foldlM (fun a p => RM.sat 64 (a + p.1 * p.2)) init

/-- Narrow a Q7.56 value times 2^(28-k) to Q3.28. -/
def RM.narrow (k : Nat) (a : Int) : RM Int := RM.sat 32 (rneShift a k)

/-- A Q7.56 value divided by a positive Q3.28 one, rounded once. -/
def RM.div (a b : Int) : RM Int := RM.sat 32 (rneDiv a b)

/-- The square root of a Q3.28 value, rounded once (R328). -/
def qsqrt (d : Int) : Int :=
  let n := d.toNat * 2 ^ 28
  let s := sqrtBits n 40 0
  if s * s + s < n then s + 1 else s

/-- An element of a vector. -/
def el (l : List Int) (i : Nat) : Int := l.getD i 0
/-- An element of a matrix held by rows. -/
def el2 (l : List (List Int)) (i j : Nat) : Int := el (l.getD i []) j
/-- A Q3.28 value as Q7.56. -/
def wide (i : Int) : Int := i * (2 ^ 28 : Nat)

/-- Sizes of a batch (Tables 16.1, 16.2). -/
structure BatchSize where
  p : Nat
  m : Nat
  n : Nat
  g : Nat
  d : Nat
  nshift : Nat
  iter : Nat
  sweeps : Nat
deriving DecidableEq, Repr

/-- A cell of the template (R320). -/
def cellKind (c : Nat) : Nat := bitsAt c 6 2
def cellSel (c : Nat) : Nat := bitsAt c 3 3
def cellShift (c : Nat) : Nat := bitsAt c 0 3

/-- The value of a cell for a row's data. -/
def cellValue (consts data : List Int) (c : Nat) : Int :=
  match cellKind c with
  | 1 => rneShift (el consts (cellSel c)) (cellShift c)
  | 2 => rneShift (el data (cellSel c)) (cellShift c)
  | _ => 0

/-- Cells of a row: local, shared, b. -/
def rowCells (b : BatchSize) (cells : List Nat) (i : Nat) : List Nat := (cells.drop (i * (b.n + b.g + 1))).take (b.n + b.g + 1)

/-- The rows of a problem, evaluated: each the local values, the shared values, b. -/
def problemRows (b : BatchSize) (r : Resident) (p : Nat) : List (List Int) :=
  (List.range b.m).map (fun i =>
    let data := (r.data.drop ((p * b.m + i) * b.d)).take b.d
    (rowCells b r.cells i).map (cellValue r.consts data))

/-- Column products Σ a_j a_k over rows, scaled by 2^-NSHIFT and narrowed (R325, R327). -/
def normEntry (b : BatchSize) (rows : List (List Int)) (j k : Nat) : RM Int := do
  let a ← RM.acc 0 (rows.map (fun r => (el r j, el r k)))
  RM.narrow (28 + b.nshift) a

/-- A matrix of such products. -/
def normMatrix (b : BatchSize) (rows : List (List Int)) (js ks : List Nat) : RM (List (List Int)) :=
  js.mapM (fun j => ks.mapM (fun k => normEntry b rows j k))

/-- One row of a Cholesky factor (R328): the pivot, then the elements right of it. -/
def cholRow (n k : Nat) (pmin lambda : Int) (mat done : List (List Int)) : RM (List Int × Bool) := do
  let a ← RM.acc (wide (el2 mat k k)) ((List.range k).map (fun i => (-(el2 done i k), el2 done i k)))
  let d ← RM.narrow 28 a
  let tiny := decide (d < pmin)
  let d ← if tiny then RM.sat 32 (Max.max d 0 + lambda) else pure d
  let r := qsqrt d
  let rest ← (List.range n).mapM (fun j => do
    if j < k then pure 0
    else if j = k then pure r
    else
      let a ← RM.acc (wide (el2 mat k j)) ((List.range k).map (fun i => (-(el2 done i k), el2 done i j)))
      RM.div a r)
  pure (rest, tiny)

/-- A Cholesky factor N = RᵀR, by rows, and whether a pivot was tiny. -/
def cholesky (n : Nat) (pmin lambda : Int) (mat : List (List Int)) : RM (List (List Int) × Bool) :=
  (List.range n).foldlM (fun (acc : List (List Int) × Bool) k => do
    let (row, tiny) ← cholRow n k pmin lambda mat acc.1
    pure (acc.1 ++ [row], acc.2 || tiny)) ([], false)

/-- Solve RᵀR x = rhs. -/
def cholSolve (n : Nat) (r : List (List Int)) (rhs : List Int) : RM (List Int) := do
  let z ← (List.range n).foldlM (fun (z : List Int) k => do
    let a ← RM.acc (wide (el rhs k)) ((List.range k).map (fun i => (-(el2 r i k), el z i)))
    let v ← RM.div a (el2 r k k)
    pure (z ++ [v])) []
  (List.range n).foldlM (fun (x : List Int) i => do
    let k := n - 1 - i
    let a ← RM.acc (wide (el z k)) (((List.range x.length).map (fun j => (-(el2 r k (k + 1 + j)), el x j))))
    let v ← RM.div a (el2 r k k)
    pure (v :: x)) []

/-- Set-up of a problem: the factor of its normal matrix. -/
def setUp (n : Nat) (pmin lambda : Int) (mat : List (List Int)) : Fact :=
  let ((rows, tiny), sat) := (cholesky n pmin lambda mat).run false
  { rows := rows, pivot := tiny, range := sat }

/-- A problem in work: its rows, normal matrix, cross matrix, right-hand side, factor, unknowns, saturation. -/
structure Prob where
  rows : List (List Int)
  norm : List (List Int)
  cross : List (List Int)
  rhs : List Int
  fact : Fact
  x : List Int
  sat : Bool
deriving DecidableEq, Repr

/-- Column numbers of the local cells, the shared cells and b. -/
def localCols (b : BatchSize) : List Nat := List.range b.n
def sharedCols (b : BatchSize) : List Nat := (List.range b.g).map (fun k => b.n + k)
def rhsCol (b : BatchSize) : Nat := b.n + b.g

/-- Form a problem (R325); `old` is a factor that stays (R326). -/
def formProblem (b : BatchSize) (r : Resident) (pmin lambda : Int) (p : Nat) (old : Option Fact) : Prob :=
  let rows := problemRows b r p
  let build : RM (List (List Int) × List (List Int) × List Int) := do
    let n ← normMatrix b rows (localCols b) (localCols b)
    let c ← normMatrix b rows (localCols b) (sharedCols b)
    let v ← (localCols b).mapM (fun j => normEntry b rows j (rhsCol b))
    pure (n, c, v)
  let ((n, c, v), sat) := build.run false
  let f := old.getD (setUp b.n pmin lambda n)
  { rows := rows, norm := n, cross := c, rhs := v, fact := f, x := [], sat := sat || f.range }

/-- Solve a problem's unknowns with y held. -/
def Prob.solve (b : BatchSize) (y : List Int) (p : Prob) : Prob :=
  let run : RM (List Int) := do
    let rhs ← (List.range b.n).mapM (fun j => do
      let a ← RM.acc (wide (el p.rhs j)) ((List.range b.g).map (fun k => (-(el2 p.cross j k), el y k)))
      RM.narrow 28 a)
    cholSolve b.n p.fact.rows rhs
  let (x, sat) := run.run p.sat
  { p with x := x, sat := sat }

/-- A refinement step (R329). -/
def Prob.refine (b : BatchSize) (p : Prob) : Prob :=
  let run : RM (List Int) := do
    let res ← (List.range b.n).mapM (fun j => do
      let a ← RM.acc (wide (el p.rhs j)) ((List.range b.n).map (fun k => (-(el2 p.norm j k), el p.x k)))
      RM.narrow 28 a)
    let c ← cholSolve b.n p.fact.rows res
    (List.range b.n).mapM (fun k => RM.sat 32 (el p.x k + el c k))
  let (x, sat) := run.run p.sat
  { p with x := x, sat := sat }

/-- The largest residual of a problem's rows, in Q3.28 (R324). -/
def Prob.resid (b : BatchSize) (y : List Int) (p : Prob) : RM Int :=
  p.rows.foldlM (fun (m : Int) r => do
    let a ← RM.acc 0 ((List.range b.n).map (fun j => (el r j, el p.x j)))
    let a ← RM.acc a ((List.range b.g).map (fun k => (el r (b.n + k), el y k)))
    let a ← RM.sat 64 (a - wide (el r (rhsCol b)))
    let v ← RM.narrow 28 a
    let v ← RM.sat 32 (v.natAbs : Int)
    pure (Max.max m v)) 0

/-- What a batch computes: the problems, y, the shared record's flags and factor. -/
structure Solved where
  probs : List Prob
  y : List Int
  shared : Fact
  ySat : Bool
deriving DecidableEq, Repr

/-- Solve the shared unknowns with every x held. -/
def solveShared (b : BatchSize) (mat : Fact) (rhs : List Int) (ps : List Prob) (sat : Bool) : List Int × Bool :=
  let run : RM (List Int) := do
    let v ← (List.range b.g).mapM (fun k => do
      let a ← ps.foldlM (fun (a : Int) p => RM.acc a ((List.range b.n).map (fun j => (-(el2 p.cross j k), el p.x j))))
        (wide (el rhs k))
      RM.narrow 28 a)
    cholSolve b.g mat.rows v
  run.run sat

/-- Run a batch on a structure (R329): `keep p` is a factor that stays, `keepS` the shared one. -/
def runBatch (b : BatchSize) (r : Resident) (pmin lambda : Int) (keep : Nat → Option Fact) (keepS : Option Fact) : Solved :=
  let ps := (List.range b.p).map (fun p => formProblem b r pmin lambda p (keep p))
  if b.g = 0 then
    let ps := ps.map (fun p => (List.range b.iter).foldl (fun (q : Prob) _ => q.refine b) (p.solve b []))
    { probs := ps, y := [], shared := ⟨[], false, false⟩, ySat := false }
  else
    let all := (ps.map (fun p => p.rows)).flatten
    let form : RM (List (List Int) × List Int) := do
      let s ← normMatrix b all (sharedCols b) (sharedCols b)
      let v ← (sharedCols b).mapM (fun k => normEntry b all k (rhsCol b))
      pure (s, v)
    let ((s, v), sat) := form.run false
    let f := keepS.getD (setUp b.g pmin lambda s)
    let y0 := List.replicate b.g (0 : Int)
    let (ps, y, sat) := (List.range b.sweeps).foldl (fun (acc : List Prob × List Int × Bool) _ =>
      let ps := acc.1.map (Prob.solve b acc.2.1)
      let (y, sat) := solveShared b f v ps acc.2.2
      (ps, y, sat)) (ps, y0, sat || f.range)
    { probs := ps.map (Prob.solve b y), y := y, shared := f, ySat := sat }

/-- The record of a problem (R324), with its flags PIVOT and RANGE. -/
def problemRecord (b : BatchSize) (y : List Int) (p : Prob) : List Byte × Bool × Bool :=
  let (res, sat) := (p.resid b y).run p.sat
  let res := if sat then 0x7FFFFFFF else unsigned res 32
  let body := (p.x.map (fun v => leBytes (unsigned v 32) 4)).flatten ++ leBytes res 4 ++
    leBytes (p.fact.pivot.toNat + 2 * sat.toNat) 4
  (body ++ List.replicate (8 * ceilDiv (4 * b.n + 8) 8 - body.length) 0, p.fact.pivot, sat)

/-- All results of a batch (R324): the bytes and the counts of PIVOT and RANGE. -/
def batchRecords (b : BatchSize) (s : Solved) : List Byte × Nat × Nat :=
  let rs := s.probs.map (problemRecord b s.y)
  let piv := (rs.filter (fun r => r.2.1)).length
  let rng := (rs.filter (fun r => r.2.2)).length
  let bytes := (rs.map (fun r => r.1)).flatten
  if b.g = 0 then (bytes, piv, rng)
  else
    let ys := (s.y.map (fun v => leBytes (unsigned v 32) 4)).flatten
    let ys := ys ++ List.replicate (8 * ceilDiv (4 * b.g) 8 - ys.length) 0
    (bytes ++ ys ++ leBytes (s.shared.pivot.toNat + 2 * s.ySat.toNat) 8, piv + s.shared.pivot.toNat, rng + s.ySat.toNat)

/-- Bytes of results. -/
def recordBytes (b : BatchSize) : Nat :=
  b.p * (8 * ceilDiv (4 * b.n + 8) 8) + (if b.g = 0 then 0 else 8 * ceilDiv (4 * b.g) 8 + 8)

/-- Context bytes (Table 16.1). -/
def contextBytes (b : BatchSize) : Nat :=
  64 + b.m * (b.n + b.g + 1) + b.p * (4 * b.m * b.d + 4 * b.n * (b.n + 1) + 4 * b.n + 8) + 4 * b.g * (b.g + 1) + 4 * b.g

/-- The largest number of non-ZERO cells among the local or shared cells of any row (R320). -/
def maxCells (b : BatchSize) (cells : List Nat) (shared : Bool) : Nat :=
  (List.range b.m).foldl (fun k i =>
    let r := rowCells b cells i
    let r := if shared then (r.drop b.n).take b.g else r.take b.n
    Nat.max k (r.filter (fun c => cellKind c != 0)).length) 0

/-- Cycles of a batch (Table 16.4): `u` problems are set up, and the shared matrix too when needed. -/
def batchCycles (b : BatchSize) (kl ks u : Nat) (sharedSetUp : Bool) : Nat :=
  let setup := b.m * kl * (kl + 1) / 2 + ceilDiv (b.n ^ 3) 6 + b.n ^ 2 + 24 * b.n + 32
  let solve := b.m * (kl + ks) + 2 * b.n ^ 2 + 4 * b.n
  let refine := 3 * b.n ^ 2 + 4 * b.n
  let lanes := ceilDiv b.p 16
  if b.g = 0 then ceilDiv u 16 * setup + lanes * (solve + b.iter * refine) + 512
  else
    let ss := ceilDiv (b.p * b.m * ks * (ks + 1) / 2) 16 + ceilDiv (b.g ^ 3) 6 + b.g ^ 2 + 24 * b.g
    let sv := ceilDiv (b.p * b.m * (kl + ks)) 16 + 2 * b.g ^ 2 + 4 * b.g
    ceilDiv u 16 * setup + (if sharedSetUp then ss else 0) + b.sweeps * (lanes * solve + sv) + lanes * solve + 512

/-- The time bound of R330 exceeds a limit in ticks, at a host-core clock in MHz (R318). -/
def tooLong (cycles bytes hubMhz limit : Nat) : Bool := decide (2 * limit * hubMhz < (20 * cycles + bytes + 64000) * 5)

/-- The batch of R334 has sizes fixed by the scout manager. -/
def fitSize : BatchSize := { p := 1024, m := 16, n := 2, g := 15, d := 2, nshift := 2, iter := 0, sweeps := 4 }

/-- Its template cells (R334). -/
def fitCells : List Nat :=
  ((List.range 16).map (fun v => [0x80, 0x40] ++ (List.range 15).map (fun k => if k + 1 = v then 0x48 else 0) ++ [0x88])).flatten

end Sys2Proof.Machine
end

