-- ==== Sys2Proof/Machine/Solver.lean ====
section
/-! DEFINITION. The solver's slots and queues (R322, R323, R326, R331 to R333). -/

namespace Sys2Proof.Machine

/-- The solver is present and serves. -/
def Dev.solverOn (d : Dev) : Bool := d.serving && d.has 268

/-- Tenant of a slot (R318). -/
def Dev.slotTenant (d : Dev) (k : Nat) : Nat := if k = 0 then 0 else d.obj 0x7C10 (k + 1) 0

/-- The requester of a slot (Table 7.11); one that reads the queue is told apart from one that works for a batch. -/
def slotReq (k : Nat) (queue : Bool) : Requester := { source := 0x81, prio := 6, tag := 2 * k + queue.toNat }

/-- A slot enters ERROR (R322, R332). -/
def Dev.slotFail (d : Dev) (k : Nat) : Dev :=
  (d.setSlot k { d.slot k with st := .error }).report
    { code := 0x24, tenant := d.slotTenant k, source := 0x81, detail := k }

/-- Read of a slot's queue: nothing where it waits; a read that cannot be made puts the slot in ERROR (R332). -/
def Dev.slotRead (d : Dev) (k va len : Nat) : Option (List Byte) × Dev :=
  let x := d.slot k
  match d.engRead (d.slotTenant k) x.pasid (va % 2 ^ 64) len (slotReq k true) with
  | (.wait, d) => (none, d)
  | (.own, d) => (none, d.slotFail k)
  | (.data r, d) => if r.bad.isEmpty then (some r.bytes, d) else (none, d.slotFail k)

/-- The producer index is read (R322), after the consumer index of the header where ENABLE has not read it (R333). -/
def Dev.slotPoll (d : Dev) (k : Nat) : Dev :=
  let x := d.slot k
  if !d.solverOn || x.st != .enabled || x.failed then d
  else
    let (go, d) : Bool × Dev :=
      if x.ready then (true, d)
      else match d.slotRead k (x.base + 8) 4 with
        | (none, d) => (false, d)
        | (some b, d) => (true, d.setSlot k { d.slot k with ready := true, ci := leNat b % 2 ^ x.size })
    if !go then d
    else
      match d.slotRead k x.base 4 with
      | (none, d) => d
      | (some b, d) =>
        if leNat b < 2 ^ x.size then d.setSlot k { d.slot k with pi := leNat b, lastPoll := d.pwr.tick } else d.slotFail k

/-- SOLV_SLOT_CTL ENABLE (R333). -/
def Dev.slotEnable (d : Dev) (k : Nat) : Dev :=
  let x := d.slot k
  if d.solverOn && !x.failed && (x.st == .disabled || x.st == .error) then
    (d.setSlot k { x with
      st := .enabled, ready := false, base := d.obj 0x7C11 (k + 1) 0, pasid := d.obj 0x7C12 (k + 1) 0
      size := d.obj 0x7C13 (k + 1) 0, pi := 0, ci := 0 }).slotPoll k
  else d

/-- SOLV_SLOT_ENABLE. -/
def execSolvSlotEnable (k : SolvSlot) (s : State) : Host.Outcome State Fault Refusal := onDev (fun d => d.slotEnable k.val) s

/-- The batch in flight is a slot's. -/
def Dev.slotBusy (d : Dev) (k : Nat) : Bool := d.solv.batch.any (fun b => b.slot == k)

/-- SOLV_SLOT_CTL DISABLE (R333). -/
def Dev.slotDisable (d : Dev) (k : Nat) : Dev :=
  let x := d.slot k
  if x.st == .enabled then
    let d := d.withdraw (fun r => r.source == 0x81 && r.tag / 2 == k && !d.slotBusy k)
    d.setSlot k { x with st := if d.slotBusy k then .draining else .disabled }
  else d

/-- SOLV_SLOT_DISABLE. -/
def execSolvSlotDisable (k : SolvSlot) (s : State) : Host.Outcome State Fault Refusal :=
  onDev (fun d => d.slotDisable k.val) s

/-- A completion word (Table 16.3). -/
def completionWord (status piv rng elapsed : Nat) : Nat :=
  status * 2 ^ 56 + Nat.min piv 65535 * 2 ^ 40 + Nat.min rng 65535 * 2 ^ 24 + Nat.min elapsed (2 ^ 24 - 1)

/-- The batch in flight of a slot is gone: one past its checks, and not posted, leaves no valid structure (R325, R326). -/
def Dev.dropBatch (d : Dev) (k : Nat) : Dev :=
  match d.solv.batch with
  | some b =>
    if b.slot = k then
      let d := if b.resident.isSome && !b.posted then d.setSlot k { d.slot k with resident := none } else d
      { d with solv := { d.solv with batch := none } }
    else d
  | none => d

/-- A slot stops at once (R333): the batch in flight ends; `write`: CANCELLED is written where the completion word is
writable now and has not been written. -/
def Dev.slotStop (d : Dev) (k : Nat) (write : Bool) : Dev :=
  let x := d.slot k
  if x.st == .disabled then d
  else
    let d := d.withdraw (fun r => r.source == 0x81 && r.tag / 2 == k)
    let d := match d.solv.batch with
      | some b =>
        if b.slot = k then
          let w := completionWord 8 0 0 (d.since b.start)
          let d' := if write && !b.posted then
              (d.engWrite (d.slotTenant k) x.pasid b.desc (leBytes w 8) (slotReq k true)).2
            else d
          (d'.withdraw (fun r => r.source == 0x81 && r.tag / 2 == k)).dropBatch k
        else d
      | none => d
    d.setSlot k { d.slot k with st := .disabled }

/-- SOLV_SLOT_CTL ABORT (R333). -/
def Dev.slotAbort (d : Dev) (k : Nat) : Dev := d.slotStop k true

/-- SOLV_SLOT_ABORT. -/
def execSolvSlotAbort (k : SolvSlot) (s : State) : Host.Outcome State Fault Refusal := onDev (fun d => d.slotAbort k.val) s

/-- SOLV_SLOT_KICK. -/
def execSolvSlotKick (k : SolvSlot) (s : State) : Host.Outcome State Fault Refusal := onDev (fun d => d.slotPoll k.val) s

/-- SOLVER_POLL: SOLV_POLL ticks have passed since the producer index was last read (R322). -/
def execSolverPoll (k : SolvSlot) (s : State) : Host.Outcome State Fault Refusal :=
  onDev (fun d => if d.obj 0x7C04 0 0 ≤ d.since (d.slot k.val).lastPoll then d.slotPoll k.val else d) s

/-! ### Batches -/

/-- A slot has a batch to start. -/
def Dev.slotPending (d : Dev) (k : Nat) : Bool :=
  let x := d.slot k
  x.st == .enabled && x.ready && !x.failed && x.pi != x.ci

/-- The slot served next (R331): slot 0 first, then slots 1 to 7 in turn. -/
def Dev.nextSlot (d : Dev) : Option Nat :=
  if d.slotPending 0 then some 0
  else
    let l := d.solv.lastServed
    let order := (List.range 7).map (fun i => 1 + (l + i) % 7)
    order.find? d.slotPending

/-- A decoded batch descriptor (Table 16.2). -/
structure BatchDesc where
  size : BatchSize
  dataVa : Nat
  outVa : Nat
  templateVa : Nat
  delta : Bool
  deltas : Nat
  ok : Bool
deriving DecidableEq, Repr

/-- Decode and check a descriptor (R323). -/
def batchDesc (n : Nat) : BatchDesc :=
  let b : BatchSize :=
    { p := bitsAt n 272 16, m := bitsAt n 263 9, n := bitsAt n 257 6, g := bitsAt n 251 6, d := bitsAt n 249 2 + 1
      nshift := bitsAt n 246 3, iter := bitsAt n 244 2, sweeps := bitsAt n 240 4 }
  let mode := bitsAt n 238 2
  let deltas := bitsAt n 222 16
  let tva := bitsAt n 320 64
  let ova := bitsAt n 384 64
  let ok := Nat.ble 1 b.p && Nat.ble b.p 4096 && Nat.ble 1 b.m && Nat.ble b.m 256 && Nat.ble 1 b.n && Nat.ble b.n 32 &&
    Nat.ble b.g 32 && Nat.ble (b.n + b.g) 48 && Nat.ble b.nshift 4 &&
    (if b.g = 0 then b.sweeps == 0 else b.iter == 0 && b.sweeps != 0) && Nat.ble mode 1 && ova % 8 == 0 &&
    (if mode = 1 then tva == 0 && deltas != 0 else tva % 8 == 0 && deltas == 0) && bitsAt n 64 158 == 0
  { size := b, dataVa := bitsAt n 448 64, outVa := ova, templateVa := tva, delta := mode == 1, deltas := deltas, ok := ok }

/-- A cell of the template is not reserved (R320). -/
def cellOk (d c : Nat) : Bool := cellKind c != 3 && (cellKind c != 2 || decide (cellSel c < d))

/-- A delta entry (R326). -/
structure Delta where
  problem : Nat
  row : Nat
  data : Nat
  value : Int
  ok : Bool
deriving DecidableEq, Repr

/-- Decode a delta entry. -/
def deltaOf (b : BatchSize) (n : Nat) : Delta :=
  let p := bitsAt n 52 12
  let r := bitsAt n 44 8
  let v := bitsAt n 42 2
  { problem := p, row := r, data := v, value := signed n 32
    ok := decide (p < b.p) && decide (r < b.m) && decide (v < b.d) && bitsAt n 32 10 == 0 }

/-- A changed value feeds a local cell, or a shared cell, of its row. -/
def feeds (b : BatchSize) (cells : List Nat) (x : Delta) (shared : Bool) : Bool :=
  let r := rowCells b cells x.row
  let r := if shared then (r.drop b.n).take b.g else r.take b.n
  r.any (fun c => cellKind c == 2 && cellSel c == x.data)

/-- Why a batch does not run: it waits, or posts a status; `invalid`: after its checks, so that a failure leaves no
valid structure (R326). -/
inductive BatchEnd where
  | wait (invalid : Bool)
  | status (n : Nat) (invalid : Bool)
deriving DecidableEq, Repr

/-- A step of a batch. -/
abbrev BM := ExceptT BatchEnd (StateM Dev)

/-- Go on only where a condition holds; a failed check leaves the structure (R323). -/
def BM.need (c : Bool) (status : Nat) : BM Unit := if c then pure () else throw (.status status false)

/-- Read for a batch: an ownership failure or uncorrectable data end it (R332). -/
def BM.read (k va len : Nat) (invalid : Bool) : BM (List Byte) := do
  let d ← get
  let (g, d) := d.engRead (d.slotTenant k) (d.slot k).pasid (va % 2 ^ 64) len (slotReq k false)
  set d
  match g with
  | .wait => throw (.wait invalid)
  | .own => throw (.status 6 invalid)
  | .data r => if r.bad.isEmpty then pure r.bytes else throw (.status 7 invalid)

/-- The sizes that DELTA compares (R326). -/
def sameSize (b : BatchSize) (r : Resident) : Bool :=
  r.p == b.p && r.m == b.m && r.n == b.n && r.g == b.g && r.d == b.d && r.nshift == b.nshift

/-- The time limit of slots 1 to 7 (R323). -/
def BM.limit (k cycles bytes : Nat) : BM Unit := do
  let d ← get
  BM.need (k == 0 || !tooLong cycles bytes d.clk.hub (d.obj 0x7C03 0 0)) 4

/-- A finished computation: its results and the structure that it leaves. -/
def finish (b : BatchSize) (r : Resident) (s : Solved) : List Byte × Nat × Nat × Resident :=
  let (out, piv, rng) := batchRecords b s
  (out, piv, rng, { r with facts := s.probs.map (fun p => p.fact), shared := s.shared })

/-- A FULL batch (R325). -/
def fullBatch (k : Nat) (x : BatchDesc) : BM (List Byte × Nat × Nat × Resident) := do
  let b := x.size
  let head ← BM.read k x.templateVa 64 false
  BM.need ((head.drop 32).all (fun v => v == 0)) 2
  let cells ← BM.read k (x.templateVa + 64) (b.m * (b.n + b.g + 1)) false
  let cells := cells.map (fun v => v.toNat)
  BM.need (cells.all (cellOk b.d)) 2
  BM.need (Nat.ble (contextBytes b) 524288) 3
  let kl := maxCells b cells false
  let ks := maxCells b cells true
  BM.limit k (batchCycles b kl ks b.p true) (128 + cells.length + 4 * b.p * b.m * b.d + recordBytes b)
  let data ← BM.read k x.dataVa (4 * b.p * b.m * b.d) true
  let d ← get
  let r : Resident :=
    { p := b.p, m := b.m, n := b.n, g := b.g, d := b.d, nshift := b.nshift
      consts := (chunks head 4 8).map (fun v => signed v 32), cells := cells
      data := (chunks data 4 (b.p * b.m * b.d)).map (fun v => signed v 32), facts := [], shared := ⟨[], false, false⟩ }
  pure (finish b r (runBatch b r (d.obj 0x7C01 0 0) (d.obj 0x7C02 0 0) (fun _ => none) none))

/-- Apply delta entries in list order (R326). -/
def applyDeltas (b : BatchSize) (data : List Int) (ds : List Delta) : List Int :=
  ds.foldl (fun l x => l.set ((x.problem * b.m + x.row) * b.d + x.data) x.value) data

/-- Run a DELTA batch on a structure (R326): problems and the shared matrix are set up again where a change feeds them. -/
def runDelta (b : BatchSize) (r : Resident) (ds : List Delta) (pmin lambda : Int) : List Byte × Nat × Nat × Resident :=
  let again := ((ds.filter (fun x => feeds b r.cells x false)).map (fun x => x.problem)).eraseDups
  let sharedAgain := ds.any (fun x => feeds b r.cells x true)
  let r' := { r with data := applyDeltas b r.data ds }
  finish b r' (runBatch b r' pmin lambda (fun p => if again.contains p then none else r.facts[p]?)
    (if sharedAgain then none else some r.shared))

/-- A DELTA batch (R326). -/
def deltaBatch (k : Nat) (x : BatchDesc) : BM (List Byte × Nat × Nat × Resident) := do
  let b := x.size
  let d ← get
  match (d.slot k).resident with
  | none => throw (.status 2 false)
  | some r => do
    BM.need (sameSize b r) 2
    let l ← BM.read k x.dataVa (8 * x.deltas) false
    let ds := (chunks l 8 x.deltas).map (deltaOf b)
    BM.need (ds.all (fun e => e.ok)) 2
    BM.need (Nat.ble (contextBytes b) 524288) 3
    let u := ((ds.filter (fun e => feeds b r.cells e false)).map (fun e => e.problem)).eraseDups.length
    BM.limit k (batchCycles b (maxCells b r.cells false) (maxCells b r.cells true) u (ds.any (fun e => feeds b r.cells e true)))
      (64 + 8 * x.deltas + recordBytes b)
    let d ← get
    pure (runDelta b r ds (d.obj 0x7C01 0 0) (d.obj 0x7C02 0 0))

/-- Report the end of a batch by a fault (R332). -/
def Dev.batchFault (d : Dev) (k : Nat) : Dev := d.report { code := 0x18, tenant := d.slotTenant k, source := 0x81 }

/-- The start tick of a slot's batch: kept while its accesses wait. -/
def Dev.slotBegin (d : Dev) (k desc : Nat) : Nat :=
  match d.solv.batch with
  | some b => if b.slot = k && b.desc = desc then b.start else d.pwr.tick
  | none => d.pwr.tick

/-- A slot must be cleared before its first batch for a tenant other than the last one it served (R333). -/
def Dev.slotClear (d : Dev) (k : Nat) : Option Dev :=
  let x := d.slot k
  let t := d.slotTenant k
  if x.clearing then some d
  else if x.lastTenant.any (fun o => o != t) then some (d.setSlot k { x with clearing := true, clearStart := d.pwr.tick })
  else none

/-- A batch of a slot runs (R323, R325, R331): status 0 while an access of it waits. -/
def Dev.runSlot (d : Dev) (k : Nat) (delta : Bool) : Dev :=
  let x := d.slot k
  let va := (x.base + 64 + 64 * x.ci) % 2 ^ 64
  let mine := d.solv.batch.any (fun b => b.slot == k && b.status == 0)
  if !d.solverOn || !(mine || (d.solv.batch.isNone && d.nextSlot == some k)) then d
  else
    match d.slotClear k with
    | some d => d
    | none =>
      match d.slotRead k va 64 with
      | (none, d) => if (d.slot k).st == .error then d.dropBatch k else d
      | (some raw, d) =>
        let desc := batchDesc (leNat raw)
        if desc.ok && desc.delta != delta then d
        else
          let start := d.slotBegin k va
          let put := fun (d : Dev) (b : SolvBatch) =>
            { d with solv := { d.solv with batch := some b, lastServed := if k = 0 then d.solv.lastServed else k } }
          let d := d.setSlot k { d.slot k with lastTenant := some (d.slotTenant k) }
          let d := put d { slot := k, desc := va, start := start, status := 0 }
          if !desc.ok then put d { slot := k, desc := va, start := start, status := 2 }
          else
            match ((if delta then deltaBatch k desc else fullBatch k desc).run.run d) with
            | (.ok (out, piv, rng, r), d) =>
              put d { slot := k, desc := va, start := start, status := 1, pivots := piv, ranges := rng, out := out
                      outVa := desc.outVa, resident := some (some r) }
            | (.error (.wait bad), d) =>
              put d { slot := k, desc := va, start := start, status := 0, resident := if bad then some none else none }
            | (.error (.status n bad), d) =>
              let d := if Nat.ble 5 n then d.batchFault k else d
              put d { slot := k, desc := va, start := start, status := n, resident := if bad then some none else none }

/-- SOLVER_BATCH_FULL; a descriptor that fails its checks ends here too (log 27). -/
def execSolverBatchFull (k : SolvSlot) (s : State) : Host.Outcome State Fault Refusal :=
  onDev (fun d => d.runSlot k.val false) s

/-- SOLVER_BATCH_DELTA. -/
def execSolverBatchDelta (k : SolvSlot) (s : State) : Host.Outcome State Fault Refusal :=
  onDev (fun d => d.runSlot k.val true) s

/-- Count a posted batch (Table 16.5). -/
def Dev.countBatch (d : Dev) (b : SolvBatch) : Dev :=
  let k := b.slot + 1
  let d := (d.bump 0x7C20 k 0 64).bump 0x7C21 k 0 64 b.pivots
  let d := d.bump 0x7C22 k 0 64 b.ranges
  if [2, 3, 4].contains b.status then d.bump 0x7C23 k 0 32 else d

/-- The batch has posted: the structure that it leaves is the slot's (R325, R326). -/
def Dev.postBatch (d : Dev) (b : SolvBatch) : Dev :=
  let x := d.slot b.slot
  ({ d.countBatch b with solv := { (d.countBatch b).solv with batch := some { b with posted := true, out := [] } } }).setSlot
    b.slot { x with resident := b.resident.getD x.resident }

/-- The slot after its batch (R323, R333). -/
def Dev.afterBatch (d : Dev) (b : SolvBatch) : Dev :=
  let x := d.slot b.slot
  let d := { d with solv := { d.solv with batch := none } }
  d.setSlot b.slot { x with ci := (x.ci + 1) % 2 ^ x.size, st := if x.st == .draining then .disabled else x.st }

/-- The batch ends with a fault of its accesses (R332): an engine's FAIL or stall limit, or its results' write. -/
def Dev.batchEnd (d : Dev) (k status : Nat) : Dev :=
  match d.solv.batch with
  | some b =>
    if b.slot = k then
      { (d.batchFault k) with solv := { d.solv with
          batch := some { b with
            status := status, out := [], pivots := 0, ranges := 0, resident := if b.status = 0 then b.resident else some none } } }
    else d
  | none => d

/-- The consumer index of a posted batch is written (R323). -/
def Dev.batchIndex (d : Dev) (b : SolvBatch) : Dev :=
  let k := b.slot
  let x := d.slot k
  match d.engWrite (d.slotTenant k) x.pasid ((x.base + 8) % 2 ^ 64) (leBytes ((x.ci + 1) % 2 ^ x.size) 4) (slotReq k true) with
  | (.wait, d) => d
  | (.own, d) => (d.dropBatch k).slotFail k
  | (.data _, d) => d.afterBatch b

/-- The completion word of a batch is written, once (R323). -/
def Dev.batchWord (d : Dev) (b : SolvBatch) : Dev :=
  let k := b.slot
  let w := completionWord b.status b.pivots b.ranges (d.since b.start)
  match d.engWrite (d.slotTenant k) (d.slot k).pasid b.desc (leBytes w 8) (slotReq k true) with
  | (.wait, d) => d
  | (.own, d) => (d.dropBatch k).slotFail k
  | (.data _, d) => (d.postBatch b).batchIndex { b with posted := true, out := [] }

/-- The results of a batch are written, once (R323, R324). -/
def Dev.batchResults (d : Dev) (b : SolvBatch) : Dev :=
  let k := b.slot
  if b.out.isEmpty then d.batchWord b
  else
    match d.engWrite (d.slotTenant k) (d.slot k).pasid b.outVa b.out (slotReq k false) with
    | (.wait, d) => d
    | (.own, d) => d.batchEnd k 6
    | (.data _, d) =>
      let b := { b with out := [] }
      ({ d with solv := { d.solv with batch := some b } }).batchWord b

/-- SOLVER_BATCH_DONE: the results, the completion word, the consumer index, in this order (R323). -/
def Dev.batchDone (d : Dev) : Dev :=
  match d.solv.batch with
  | none => d
  | some b => if b.status = 0 || !d.solverOn then d else if b.posted then d.batchIndex b else d.batchResults b

/-- SOLVER_BATCH_DONE. -/
def execSolverBatchDone (s : State) : Host.Outcome State Fault Refusal := onDev Dev.batchDone s

/-- A slot's accesses receive FAIL or stall too long (R332, Table 7.11). -/
def Dev.slotTransEnd (d : Dev) (tag status : Nat) : Dev :=
  let k := tag / 2
  if tag % 2 = 1 then (d.dropBatch k).slotFail k
  else d.batchEnd k status

/-- An FLR of the slot's tenant (R333): as ABORT, but no word is written for the function any more (R75, log 86). -/
def Dev.slotFlr (d : Dev) (tenant : Nat) : Dev :=
  (List.range 8).foldl (fun (d : Dev) k =>
    if d.slotTenant k = tenant && (k != 0 || tenant == 0) && d.has 268 then
      let d := d.slotStop k false
      d.setSlot k { d.slot k with resident := none }
    else d) d

end Sys2Proof.Machine
end

