-- ==== Sys2Proof/Machine/Scout.lean ====
section
/-! DEFINITION. Scout queries (R297 to R305, R316), sweeps and fits (R313 to R315, R334), disabling and reassigning arrays
(R317). -/

namespace Sys2Proof.Machine

/-- Bytes of a query block (R298). -/
def queryBytes : Nat := 136

/-- Bytes of a RESULT (R305). -/
def Seq.resultBytes (q : Seq) : Nat := ceilDiv q.pageCap 512 * 64

/-- SKETCH, RESULT, LAYERREG, GROUPREG, COUNTREG, EXACT of a query (Table 9.5). -/
def scoutBody : TcwBody := fun t w => do
  let d ← get
  let x := d.tile t
  let tenant := d.tileTenant t
  TM.need x.query.isNone .wait
  match d.seqOf tenant (x.s 3) with
  | none => TM.fault 0x0E
  | some q => do
    let blk ← TM.operand t (bitsAt w 102 10) queryBytes [1, 2] false
    let res ← TM.operand t (bitsAt w 92 10) q.resultBytes [1, 2] true
    let layer := x.s (bitsAt w 88 4)
    let group := x.s (bitsAt w 84 4)
    TM.need (decide (layer < q.layers) && decide (group < q.groups)) (.fault 0x0E 0)
    TM.hazard t [blk] [res]
    let b ← TM.read t 7 blk
    TM.need (bitsAt (leNat (b.drop 128)) 0 32 == 0) (.fault 0x11 0)
    let d ← get
    let prio := match d.tileJob t with
      | some (_, j) => j.effClass
      | none => 6
    let key := fun (o : Query) => o.tenant == tenant && o.seq == x.s 3 && o.layer == layer && o.group == group && o.block == b
    let same := (d.tiles.findSome? (fun e => e.2.query.filter (fun o => o.snap.isNone && key o))).map (fun o => o.eval)
    let id := d.scout.nextQuery
    let exact := bitAt w 79 || d.obj 0x7820 0 tenant == 1
    let shift := ((List.range 128).map (fun a => (a, d.obj 0xD014 (a + 1) 0))).filter (fun e => e.2 != 0)
    let q' : Query :=
      { id := id, eval := same.getD id, tenant := tenant, seq := x.s 3, layer := layer, group := group, block := b
        result := res, countReg := bitsAt w 80 4, exact := exact, limit := d.obj 0x7811 0 0, start := d.pwr.tick, prio := prio
        shift := shift, seg := x.seg }
    set ({ d with scout := { d.scout with nextQuery := id + 1 } })
    TM.enqueue t 7 .compute [] [res] [bitsAt w 80 4]
    TM.upd (fun d => (d.updTile t (fun x => { x with query := some q' })).scoutPump)
    pure none

/-- TCW SCOUT QUERY. -/
def execScoutQuery (t : TileId) (w : Tcw) (s : State) : Host.Outcome State Fault Refusal :=
  tcwStep t w { grp := 5, fn := 0
                regs := fun w => [offReg (bitsAt w 102 10), offReg (bitsAt w 92 10), 3, bitsAt w 88 4, bitsAt w 84 4,
                  bitsAt w 80 4]
                legal := fun w => onlyBits w [(111, 79)] } scoutBody s

/-! ### Answers (R305, R316) -/

/-- The bits of a query's answer. A started one has those of its evaluation, with the columns of arrays disabled since
selected (R317); one that is late, or has no span, selects every allocated page of its sequence. -/
def Dev.queryBits (d : Dev) (q : Query) (late : Bool) : List Bool :=
  let all := fun (n : Nat) => List.replicate n true
  match q.snap with
  | some sn =>
    if late then all sn.bits.length
    else (sn.bits.zip sn.arrays).map (fun e => e.1 || q.forcedArrays.contains e.2)
  | none => all (((d.seqOf q.tenant q.seq).map (fun s => s.pages)).getD 0)

/-- A query's bits as bytes. -/
def bitBytes (l : List Bool) (len : Nat) : List Byte := leBytes (l.zipIdx.foldl (fun n e => if e.1 then n + 2 ^ e.2 else n) 0) len

/-- The cycles since a query's issue that its segment counts at least (R209, R316): ticks at the running fabric clock,
from the count that the segment had (log 102). -/
def Dev.querySeg (d : Dev) (t : Nat) (q : Query) : Nat := Nat.min 16384 (q.seg + d.since q.start * d.fabMhz (t / 32) / 25)

/-- Complete a tile's query (R305, R316): RESULT, COUNTREG, the counters; its wait counts in the segment (R209). -/
def Dev.queryDone (d : Dev) (t : Nat) (late : Bool) : Dev :=
  match (d.tile t).query, d.tileJob t with
  | some q, some _ =>
    let bits := d.queryBits q late
    let n := (bits.filter (fun b => b)).length
    let mine := fun (o : OutItem) => match o with
      | .op _ unit _ _ _ _ _ => unit == 7
      | .fence _ => false
    let pos := ((d.tile t).out.findSome? (fun o => match o with
      | .op _ unit pos _ _ _ _ => if unit = 7 then some pos else none
      | .fence _ => none)).getD 0
    let d := (d.bump 0x7830 1 q.tenant 64).bump 0x7830 3 q.tenant 64 n
    let d := if q.snap.any (fun sn => sn.exact) then d.bump 0x7830 2 q.tenant 64 else d
    let d := if late then d.bump 0x7830 4 q.tenant 32 else d
    let d := d.updTile t (fun x => { x with
      query := none, seg := if x.stalled then x.seg else Nat.max x.seg (d.querySeg t q) })
    let done := match (TM.write t 7 q.result (bitBytes bits q.result.len)).run.run d with
      | (.ok _, d) => d.updTile t (fun x => { x.setS q.countReg n with out := dropFences (x.out.filter (fun o => !mine o)) })
      | (.error e, d) => d.tileErr t pos e
    done.scoutPump
  | _, _ => d

/-- SCOUT_QUERY_COMPLETE: a started query has its answer, or one without a span; at SCOUT_QUERY_LIMIT it is late
(R316). -/
def execScoutQueryComplete (t : TileId) (s : State) : Host.Outcome State Fault Refusal :=
  onDev (fun d =>
    let d := d.scoutPump
    match (d.tile t.val).query with
    | some q =>
      if d.serving && (q.forced || q.snap.isSome) && decide (d.since q.start < q.limit) then d.queryDone t.val false else d
    | none => d) s

/-- SCOUT_QUERY_TIMEOUT: SCOUT_QUERY_LIMIT ticks have passed (R316). -/
def execScoutQueryTimeout (t : TileId) (s : State) : Host.Outcome State Fault Refusal :=
  onDev (fun d =>
    match (d.tile t.val).query with
    | some q => if d.serving && Nat.ble q.limit (d.since q.start) then d.queryDone t.val true else d
    | none => d) s

/-! ### Sweeps (R313 to R315) -/

/-- The spans that use an array. -/
def Dev.spansOn (d : Dev) (a : Nat) : List ScSpan := d.spans.filter (fun sp => sp.slots.any (fun e => e.1 == a))

/-- A query of a tile concerns an array: it runs on it, or may be about to. -/
def Dev.queryOn (d : Dev) (a : Nat) (q : Query) : Bool :=
  match q.snap with
  | some sn => sn.arrays.contains a
  | none => !q.forced && (d.spansOn a).any (fun sp => sp.seq == q.seq)

/-- An array has a query queued. -/
def Dev.arrayQueried (d : Dev) (a : Nat) : Bool := d.tiles.any (fun e => e.2.query.any (d.queryOn a))

/-- Unload bank `b` of every span that uses an array. -/
def Dev.emptyBank (d : Dev) (a b : Nat) : Dev := (d.spansOn a).foldl (fun (d : Dev) sp => d.putSpan (sp.setBank b none)) d

/-- When a bank of an array was last queried; none where it holds no layer. -/
def Dev.bankLast (d : Dev) (a b : Nat) : Option Nat :=
  (((d.spansOn a).filterMap (fun sp => sp.bank b)).map (fun l => l.lastQuery)).max?

/-- The bank that a sweep uses (R314): one without a layer, or the one queried least recently, emptied. -/
def Dev.sweepBank (d : Dev) (a : Nat) : Option (Nat × Dev) :=
  match d.bankLast a 0, d.bankLast a 1 with
  | some x, some y =>
    let b := if y < x then 1 else 0
    if (d.spansOn a).any (fun sp => (sp.bank b).any (fun l => l.loading.isSome) || d.bankBusy sp.seq b) then none
    else some (b, d.emptyBank a b)
  | none, _ => some (0, d)
  | some _, none => some (1, d)

/-- A sweep of an array is due (R315). -/
def Dev.sweepDue (d : Dev) (a : Nat) : Bool :=
  let x := d.array a
  (x.st == .exactOnly || x.st == .fitted) && !x.failed && (x.due || (x.everFit && Nat.ble (d.obj 0x7812 0 0) (d.since x.lastFit)))

/-- SCOUT_SWEEP_DUE: a sweep begins (R314, R315): the chiplet wakes (R54), and the known-sum pattern is written. -/
def execScoutSweepDue (a : ArrayId) (s : State) : Host.Outcome State Fault Refusal :=
  onDev (fun d =>
    if d.serving && d.sweepDue a.val && !(d.array a.val).sweeping && !d.arrayQueried a.val then
      match d.sweepBank a.val with
      | some (b, d) =>
        let d := d.wakeArrays [a.val]
        let x := d.array a.val
        d.setArray a.val { (x.setBank b { x.bank b with known := true, words := [] }) with sweeping := true, due := false }
      | none => d
    else d) s

/-- A check of an array has failed (R313): it selects every column. -/
def Dev.checkFail (d : Dev) (a : Nat) : Dev :=
  ((d.setArray a { d.array a with st := .unverified, sweeping := false, due := false }).bump 0x7831 2 0 32).reportUnit
    { code := 0x31, source := 0x85, detail := 2 ^ a }

/-- The data of an array's fit (R334): known charge scores and measured crossings. -/
def fitData (a tick : Nat) : List Int :=
  ((List.range 1024).map (fun j => ((List.range 16).map (fun v =>
    [Max.max (-1536) (Min.min 1536 (Config.knownScore a j v)) * 2 ^ 17, signed (unsigned (Config.crossing tick a j v) 32) 32])).flatten)).flatten

/-- The fit of an array (R314, R334): gains, offsets, the columns whose residual exceeds half the guard band. -/
def Dev.fit (d : Dev) (a : Nat) : KMap Int × KMap Int × Nat :=
  let r : Resident :=
    { p := 1024, m := 16, n := 2, g := 15, d := 2, nshift := 2, consts := [2 ^ 28, 2 ^ 23, 0, 0, 0, 0, 0, 0], cells := fitCells
      data := fitData a d.pwr.tick, facts := [], shared := ⟨[], false, false⟩ }
  let s := runBatch fitSize r (d.obj 0x7C01 0 0) (d.obj 0x7C02 0 0) (fun _ => none) none
  let cols := s.probs.zipIdx.map (fun (p, j) =>
    let (res, sat) := (p.resid fitSize s.y).run p.sat
    (j, el p.x 0, el p.x 1 * 2048, sat || decide ((d.obj 0x7810 0 0 : Int) * 65536 < res)))
  (cols.map (fun c => (c.1, c.2.1)), cols.map (fun c => (c.1, c.2.2.1)),
   cols.foldl (fun n c => if c.2.2.2 then n + 2 ^ c.1 else n) 0)

/-- SCOUT_SWEEP_DONE: the known sums are compared and the solver fits the columns (R314); a query on the array suspends
the sweep (R315). -/
def execScoutSweepDone (a : ArrayId) (knownSumsOk : Bool) (s : State) : Host.Outcome State Fault Refusal :=
  onDev (fun d =>
    let x := d.array a.val
    if d.serving && x.sweeping && !d.arrayQueried a.val then
      if !knownSumsOk then d.checkFail a.val
      else
        let d := d.bump 0x7831 1 0 64
        if d.has 268 && !(d.slot 0).failed then
          let (g, o, bad) := d.fit a.val
          d.setArray a.val { x with
            st := .fitted, sweeping := false, lastFit := d.pwr.tick, everFit := true, due := false
            fitSample := (d.die (a.val / 32 + 1)).sample, gains := g, offsets := o, suspect := bad }
        else d.setArray a.val { x with st := .exactOnly, sweeping := false, due := true }
    else d) s

/-- A FITTED array returns to EXACT_ONLY and its sweep falls due (R315). -/
def SArray.stale (x : SArray) : SArray := if x.st == .fitted then { x with st := .exactOnly, due := true } else x

/-- OVERDUE_SWEEP: twice SCOUT_CAL_PERIOD has passed since the last fit (R315). -/
def execOverdueSweep (a : ArrayId) (s : State) : Host.Outcome State Fault Refusal :=
  onDev (fun d =>
    let x := d.array a.val
    if d.serving && x.everFit && Nat.ble (2 * d.obj 0x7812 0 0) (d.since x.lastFit) then d.setArray a.val x.stale else d) s

/-- SCOUT_GUARD is written (R315, Table 15.6). -/
def Dev.guardWrite (d : Dev) (v : Nat) : Dev :=
  let d := d.setObj 0x7810 0 0 v
  { d with scout := { d.scout with arrays := d.scout.arrays.mapVal SArray.stale } }

/-- SCOUT_GUARD. -/
def execScoutGuard (value : BitVec 16) (s : State) : Host.Outcome State Fault Refusal :=
  onDev (fun d => if d.serving && Nat.ble 8 value.toNat && Nat.ble value.toNat 512 then d.guardWrite value.toNat else d) s

/-! ### Disabling and reassigning (R317) -/

/-- Work of a tenant, or of all, on arrays ends: queries complete with the arrays' columns selected, loads are
abandoned, spans are released. -/
def Dev.endArrayWork (d : Dev) (as : List Nat) (tenant : Option Nat) : Dev :=
  let mine := fun (t : Nat) => tenant.all (fun n => n == t)
  let hit := (d.tiles.filter (fun e => e.2.query.any (fun q => mine q.tenant && as.any (fun a => d.queryOn a q)))).map (fun e => e.1)
  let spans := d.spans.filter (fun sp => mine sp.tenant && as.any (fun a => sp.slots.any (fun e => e.1 == a)))
  let d := d.withdraw (fun r => spans.any (fun sp => sp.layers.any (fun l => l.loading.any (fun id => r.same (loadReq id 0)))))
  let d := spans.foldl (fun (d : Dev) sp => d.dropSpan sp.seq) d
  let d := hit.foldl (fun (d : Dev) t => d.updTile t (fun x => { x with
    query := x.query.map (fun q => { q with forced := q.forced || q.snap.isNone, forcedArrays := q.forcedArrays ++ as }) })) d
  hit.foldl (fun (d : Dev) t => d.queryDone t false) d

/-- A bank that held sketches is to be cleared (R192, R317). -/
def Dev.wipeBanks (d : Dev) (a : Nat) : Dev :=
  let d := d.wakeArrays [a]
  let x := d.array a
  d.setArray a { x with
    clearing0 := x.clearing0 || x.tenant0.isSome, clearing1 := x.clearing1 || x.tenant1.isSome, tenant0 := none
    tenant1 := none, clearStart := d.pwr.tick }

/-- SCOUT_ENABLE of an array is written. -/
def Dev.scoutEnable (d : Dev) (a : Nat) (on checkPasses : Bool) : Dev :=
  let d := d.setObj 0x7802 (a + 1) 0 on.toNat
  let x := d.array a
  if !on then
    if x.st == .disabled then d
    else
      let d := d.endArrayWork [a] none
      (d.setArray a { d.array a with st := .disabled, sweeping := false, due := false }).wipeBanks a
  else if x.st == .disabled && !x.failed then
    let d := (d.wakeArrays [a]).setArray a { x with sense := some (Config.senseConst a) }
    if checkPasses then d.setArray a { d.array a with st := .exactOnly, due := true } else d.checkFail a
  else d

/-- SCOUT_ENABLE. -/
def execScoutEnable (a : ArrayId) (on : Bool) (checkPasses : Bool) (s : State) : Host.Outcome State Fault Refusal :=
  onDev (fun d => if d.serving && d.has (128 + a.val) then d.scoutEnable a.val on checkPasses else d) s

/-- A value of SCOUT_TENANT_ARRAYS is not reserved: no absent array, none of another tenant. -/
def Dev.arraySetOk (d : Dev) (tenant v : Nat) : Bool :=
  (List.range 128).all (fun a => !bitAt v a ||
    (d.has (128 + a) && (List.range 64).all (fun t => t == tenant || !bitAt (d.obj 0x7801 0 t) a)))

/-- SCOUT_TENANT_ARRAYS of a tenant is written. -/
def Dev.tenantArraysWrite (d : Dev) (tenant v : Nat) : Dev :=
  let gone := (List.range 128).filter (fun a => bitAt (d.obj 0x7801 0 tenant) a && !bitAt v a)
  let d := d.setObj 0x7801 0 tenant v
  if gone.isEmpty then d
  else
    let d := d.endArrayWork gone (some tenant)
    gone.foldl (fun (d : Dev) a => d.wipeBanks a) d

/-- SCOUT_TENANT_ARRAYS. -/
def execScoutTenantArrays (tenant : FnId) (arrays : BitVec 128) (s : State) : Host.Outcome State Fault Refusal :=
  onDev (fun d =>
    if d.serving && d.arraySetOk tenant.val arrays.toNat then d.tenantArraysWrite tenant.val arrays.toNat else d) s

end Sys2Proof.Machine
end

