-- ==== Sys2Proof/Machine/Scale.lean ====
section
/-! DEFINITION. Scale-out: ports, peers, LRT channels, send queues and packets (R335 to R344). -/

namespace Sys2Proof.Machine

/-! ### Packets (Table 17.2) -/

/-- Fields of an LRT header. -/
structure LrtHeader where
  type : Nat
  srcMember : Nat
  dstMember : Nat
  dstCh : Nat
  srcCh : Nat
  nak : Nat := 0
  group : Nat
  psn : Nat := 0
  ackPsn : Nat := 0
  len : Nat := 0
  offset : Nat := 0
  value : Nat := 0
deriving DecidableEq, Repr

/-- The header with CRC 0. -/
def LrtHeader.bits (h : LrtHeader) : Nat :=
  2 ^ 252 + h.type * 2 ^ 248 + h.srcMember * 2 ^ 243 + h.dstMember * 2 ^ 238 + h.dstCh * 2 ^ 232 + h.srcCh * 2 ^ 226 +
    h.nak * 2 ^ 224 + h.group * 2 ^ 208 + h.psn * 2 ^ 184 + h.ackPsn * 2 ^ 160 + h.len * 2 ^ 144 + h.offset * 2 ^ 104 +
    h.value * 2 ^ 32

/-- A packet's bytes, with its CRC-32C. -/
def lrtBytes (h : LrtHeader) (payload : List Byte) : List Byte :=
  leBytes (h.bits + crc32c (leBytes h.bits 32 ++ payload)) 32 ++ payload

/-- Read a header and its payload; none where the packet is discarded without an answer. -/
def lrtParse (payloadMax : Nat) (b : List Byte) : Option (LrtHeader × List Byte) :=
  let n := leNat (b.take 32)
  let payload := b.drop 32
  let h : LrtHeader :=
    { type := bitsAt n 248 4, srcMember := bitsAt n 243 5, dstMember := bitsAt n 238 5, dstCh := bitsAt n 232 6
      srcCh := bitsAt n 226 6, nak := bitsAt n 224 2, group := bitsAt n 208 16, psn := bitsAt n 184 24
      ackPsn := bitsAt n 160 24, len := bitsAt n 144 16, offset := bitsAt n 104 40, value := bitsAt n 32 64 }
  let ok := Nat.ble 32 b.length && bitsAt n 252 4 == 1 && Nat.ble 1 h.type && Nat.ble h.type 6 && bitsAt n 96 8 == 0 &&
    (if h.type = 4 then h.nak != 3 else h.nak == 0) && (if h.type = 1 then Nat.ble 1 h.len && Nat.ble h.len payloadMax else h.len == 0) &&
    (h.type == 2 || h.value == 0) && payload.length == h.len &&
    bitsAt n 0 32 == crc32c (leBytes (n - n % 2 ^ 32) 32 ++ payload)
  if ok then some (h, payload) else none

/-! ### Paths and peers -/

/-- The primary and the alternate port of a peer (SCALE_PEER_PORTS). -/
def Dev.peerPort (d : Dev) (m : Nat) (alternate : Bool) : Nat := bitsAt (d.obj 0x8021 (m + 1) 0) (if alternate then 4 else 0) 3

/-- A port is UP. -/
def Dev.portUp (d : Dev) (p : Nat) : Bool := decide (p < 6) && d.port p == .up

/-- The port that a peer's traffic takes (R343). -/
def Dev.pathOf (d : Dev) (m : Nat) : Option Nat :=
  let a := (d.peer m).alternate
  [d.peerPort m a, d.peerPort m (!a)].find? d.portUp

/-- Send a datagram to a member over a port (R336): its on-link address must be resolved. -/
def Dev.sendTo (d : Dev) (m p addr udpSrc udpDst : Nat) (b : List Byte) : Dev :=
  match (d.peer m).link.find p with
  | some l => d.emit (.packet p l addr udpSrc udpDst b)
  | none => d.emit (.neighborSol p addr)

/-- Send a packet of a channel to its peer. -/
def Dev.chanSend (d : Dev) (c : Nat) (h : LrtHeader) (payload : List Byte) : Dev :=
  let x := d.chan c
  match d.pathOf x.peer with
  | none => d
  | some p => d.sendTo x.peer p x.peerAddr (0xC000 + c) x.udpPort (lrtBytes h payload)

/-- The header of a channel's packet. -/
def Chan.header (x : Chan) (c type : Nat) : LrtHeader :=
  { type := type, srcMember := x.member, dstMember := x.peer, dstCh := x.peerChan, srcCh := c, group := x.group }

/-- Put a DATA or FLAG packet on the wire. -/
def Dev.sendPkt (d : Dev) (c : Nat) (k : LrtPkt) : Dev :=
  let h := (d.chan c).header c (if k.isFlag then 2 else 1)
  d.chanSend c { h with psn := k.psn, len := k.payload.length, offset := k.offset, value := k.value } k.payload

/-- Send an ACK (R341). -/
def Dev.sendAck (d : Dev) (c : Nat) : Dev :=
  let x := d.chan c
  (d.chanSend c { x.header c 3 with ackPsn := x.expected } []).setChan c { x with toAck := 0 }

/-- Send a NAK. -/
def Dev.sendNak (d : Dev) (c code : Nat) : Dev :=
  let x := d.chan c
  d.chanSend c { x.header c 4 with ackPsn := x.expected, nak := code } []

/-- The requester of a channel (Table 7.11): kind 0 the send queue and its sources, 1 its consumer index, 2 the
receive window, 3 the check of ENABLE. -/
def Dev.chanReq (d : Dev) (c kind : Nat) : Requester :=
  let k := d.obj 0x8032 (c + 1) 0
  { source := 0x84, prio := if k < 64 then d.obj 0x3015 (k + 1) 0 else 6, tag := 4 * c + kind }

/-- A channel enters ERROR (R344): it sends and performs nothing, and every job running on its ring posts LINK. -/
def Dev.chanError (d : Dev) (c : Nat) : Dev :=
  let x := d.chan c
  let d := d.withdraw (fun r => r.source == 0x84 && r.tag / 4 == c)
  let d := (d.setChan c { x with st := .error, draining := false, unacked := [], queued := [], held := none }).report
    { code := 0x25, tenant := x.tenant, source := 0x84, detail := c }
  let k := d.obj 0x8032 (c + 1) 0
  let on := fun (e : Nat × Job) => e.2.ring == k && e.2.opcode == 1 && (match e.2.st with
    | .assigned | .running | .offTile _ => true
    | _ => false)
  (d.jobs.filter on).foldl (fun (d : Dev) e =>
    d.jobFault e.1 none { code := 0x17, tenant := e.2.tenant, source := 0x84 }) d

/-- A peer is LOST (R343, R344): its open channels enter ERROR. -/
def Dev.peerLost (d : Dev) (m : Nat) : Dev :=
  let d := d.setPeer m { d.peer m with st := 2 }
  (d.scale.chans.filter (fun e => e.2.st == .openSt && e.2.peer == m)).foldl (fun (d : Dev) e => d.chanError e.1) d

/-- Peers that are UP and have no UP port are LOST at once (R343). -/
def Dev.checkPeers (d : Dev) : Dev :=
  (List.range 32).foldl (fun (d : Dev) m => if (d.peer m).st = 1 && (d.pathOf m).isNone then d.peerLost m else d) d

/-! ### Ports -/

/-- A port loses its link (R343): peers whose primary port it is move to their alternate port. -/
def Dev.portDrop (d : Dev) (p : Nat) (st : PortState) : Dev :=
  let d := d.setPort p st
  let d := (List.range 32).foldl (fun (d : Dev) m =>
    if d.peerPort m false = p && (d.peer m).st != 0 then d.setPeer m { d.peer m with alternate := true } else d) d
  d.checkPeers

/-- Ethernet runs (R87, R93): training starts in stage 7; Beyby mode keeps every port off. -/
def Dev.etherOn (d : Dev) (p : Nat) : Bool := d.live && d.has (288 + p) && d.boot.cfgOpen && !d.boot.beyby

/-- SCALE_PORT_ENABLE is written. -/
def Dev.portEnable (d : Dev) (p : Nat) (on : Bool) : Dev :=
  let d := d.setObj 0x8001 (p + 1) 0 on.toNat
  if !on then d.portDrop p .off
  else if d.port p == .off then d.setPort p (if d.etherOn p then .training else .down)
  else d

/-- SCALE_PORT_ENABLE. -/
def execScalePortEnable (p : PortId) (on : Bool) (s : State) : Host.Outcome State Fault Refusal :=
  onDev (fun d => if d.serving && d.has (288 + p.val) then d.portEnable p.val on else d) s

/-- PORT_LINK_UP (R335). -/
def execPortLinkUp (p : PortId) (s : State) : Host.Outcome State Fault Refusal :=
  onDev (fun d => if d.etherOn p.val && d.port p.val == .training then d.setPort p.val .up else d) s

/-- PORT_LINK_DOWN (R335, R343): the port retrains on its own. -/
def execPortLinkDown (p : PortId) (s : State) : Host.Outcome State Fault Refusal :=
  onDev (fun d => if d.live && d.port p.val == .up then d.portDrop p.val .training else d) s

/-- NEIGHBOR_SOLICITATION (R336). -/
def execNeighborSolicitation (p : PortId) (target : BitVec 128) (s : State) : Host.Outcome State Fault Refusal :=
  onDev (fun d =>
    if d.live && d.portUp p.val && target.toNat != 0 && target.toNat == d.obj 0x8003 (p.val + 1) 0 then
      d.emit (.neighborAdv p.val target.toNat)
    else d) s

/-- NEIGHBOR_ADVERTISEMENT (R336): the on-link address of a peer for a port; packets that waited for it are sent. -/
def Dev.neighborAdv (d : Dev) (p target link : Nat) : Dev :=
  (List.range 32).foldl (fun (d : Dev) m =>
    if d.obj 0x8020 (m + 1) 0 = target && target != 0 then
      let old := (d.peer m).link.find p
      let d := d.setPeer m { d.peer m with link := (d.peer m).link.put p link }
      if old.isNone && d.pathOf m == some p then
        (d.scale.chans.filter (fun e => e.2.st == .openSt && e.2.peer == m)).foldl
          (fun (d : Dev) e => e.2.unacked.foldl (fun (d : Dev) k => d.sendPkt e.1 k) d) d
      else d
    else d) d

/-- NEIGHBOR_ADVERTISEMENT. -/
def execNeighborAdvertisement (p : PortId) (target : BitVec 128) (linkAddr : BitVec 48) (s : State) :
    Host.Outcome State Fault Refusal :=
  onDev (fun d => if d.live && d.portUp p.val then d.neighborAdv p.val target.toNat linkAddr.toNat else d) s

/-! ### Channel control -/

/-- The check of ENABLE has failed (R337): the channel enters ERROR. -/
def Dev.chanRefuse (d : Dev) (c : Nat) (new : Chan) : Dev := (d.setChan c { d.chan c with tenant := new.tenant }).chanError c

/-- The check of ENABLE ends (R337): the queue must lie in the HBM range. -/
def Dev.chanOpen (d : Dev) (c : Nat) (new : Chan) (pa : Option Nat) : Dev :=
  let d := { d with scale := { d.scale with enabling := d.scale.enabling.drop c } }
  if pa.any (fun a => decide (a < d.hbmTop)) then
    let p := d.peer new.peer
    ((d.setChan c new).setPeer new.peer { p with st := if p.st = 0 then 1 else p.st }).checkPeers
  else d.chanRefuse c new

/-- The requester of the check of ENABLE: class 6 (Table 7.11). -/
def Dev.checkReq (d : Dev) (c : Nat) : Requester := { d.chanReq c 3 with prio := 6 }

/-- A walk of the check of ENABLE ends: with an address, or without (R337). -/
def Dev.chanWalked (d : Dev) (c : Nat) (pa : Option Nat) : Dev :=
  match KMap.find d.scale.enabling c with
  | some new => d.chanOpen c new pa
  | none => d

/-- SCALE_CH_CTL ENABLE (R337): the peer has an address, the tenant exists, and the queue is translated, walking in
class 6 without stalling. -/
def Dev.chanEnable (d : Dev) (c : Nat) : Dev :=
  let x := d.chan c
  if !d.serving || x.st == .openSt then d
  else
    let o := fun (i : Nat) => d.obj i (c + 1) 0
    let peer := bitsAt (o 0x8031) 8 5
    let new : Chan :=
      { st := .openSt, tenant := o 0x8030, pasid := o 0x8033, sqBase := o 0x8034, sqSize := o 0x8035, rxBase := o 0x8036
        rxBytes := o 0x8037, peer := peer, peerAddr := d.obj 0x8020 (peer + 1) 0, peerChan := bitsAt (o 0x8031) 0 6
        member := d.obj 0x8012 0 0, group := d.obj 0x8011 0 0, udpPort := d.obj 0x8010 0 0 }
    if new.peerAddr = 0 || !d.fnExists new.tenant then d.chanRefuse c new
    else
      match d.translate new.tenant new.pasid new.sqBase 0 (d.checkReq c) with
      | (some pa, d) => d.chanOpen c new (some pa)
      | (none, d) => { d with scale := { d.scale with enabling := d.scale.enabling.put c new } }

/-- SCALE_CH_ENABLE. -/
def execScaleChEnable (c : ChanId) (s : State) : Host.Outcome State Fault Refusal := onDev (fun d => d.chanEnable c.val) s

/-- A channel that drains and has nothing left to send is DISABLED. -/
def Dev.chanDrainCheck (d : Dev) (c : Nat) : Dev :=
  let x := d.chan c
  if x.draining && x.unacked.isEmpty && x.queued.isEmpty && !x.ciDirty then
    (d.withdraw (fun r => r.source == 0x84 && r.tag / 4 == c)).setChan c { x with st := .disabled, draining := false, held := none }
  else d

/-- SCALE_CH_CTL DISABLE: the current entry is completed first (Table 17.4). -/
def Dev.chanDisable (d : Dev) (c : Nat) : Dev :=
  let x := d.chan c
  let d := if d.serving then { d with scale := { d.scale with enabling := d.scale.enabling.drop c } } else d
  if d.serving && x.st == .openSt then (d.setChan c { x with draining := true }).chanDrainCheck c
  else if d.serving && x.st == .error then d.setChan c { x with st := .disabled }
  else d

/-- SCALE_CH_DISABLE. -/
def execScaleChDisable (c : ChanId) (s : State) : Host.Outcome State Fault Refusal := onDev (fun d => d.chanDisable c.val) s

/-! ### Sending -/

/-- Read of a channel's tenant memory: nothing where it waits; what cannot be read puts the channel in ERROR (R339). -/
def Dev.chanRead (d : Dev) (c va len kind : Nat) : Option (List Byte) × Dev :=
  let x := d.chan c
  match d.engRead x.tenant x.pasid (va % 2 ^ 64) len (d.chanReq c kind) with
  | (.wait, d) => (none, d)
  | (.own, d) => (none, d.chanError c)
  | (.data r, d) => if r.bad.isEmpty then (some r.bytes, d) else (none, d.chanError c)

/-- Packets move into the window and onto the wire (R343). -/
def Dev.chanPump (d : Dev) (c : Nat) : Dev :=
  let x := d.chan c
  let n := d.obj 0x8016 0 0 - x.unacked.length
  let go := x.queued.take n
  if x.st != .openSt || go.isEmpty then d
  else
    let x := { x with
      unacked := x.unacked ++ go, queued := x.queued.drop n
      rtoStart := if x.unacked.isEmpty then d.pwr.tick else x.rtoStart
      rto := if x.unacked.isEmpty then d.obj 0x8014 0 0 else x.rto }
    go.foldl (fun (d : Dev) k => d.sendPkt c k) (d.setChan c x)

/-- Write the consumer index (R338, R339). -/
def Dev.chanWriteCi (d : Dev) (c : Nat) : Dev :=
  let x := d.chan c
  if !x.ciDirty || x.st != .openSt then d
  else
    match d.engWrite x.tenant x.pasid ((x.sqBase + 8) % 2 ^ 64) (leBytes x.ci 4) (d.chanReq c 1) with
    | (.wait, d) => d
    | (.own, d) => d.chanError c
    | (.data _, d) => (d.setChan c { d.chan c with ciDirty := false }).chanDrainCheck c

/-- LRT_SQ_WAKE: the engine reads the producer index (R338), and the consumer index once after ENABLE. -/
def Dev.chanWake (d : Dev) (c : Nat) : Dev :=
  let x := d.chan c
  if !d.serving || x.st != .openSt || x.draining then d
  else
    match d.chanRead c x.sqBase 12 0 with
    | (none, d) => d
    | (some b, d) =>
      let m := 2 ^ x.sqSize
      let pi := leNat (b.take 4)
      let ci := leNat (b.drop 8) % m
      if m ≤ pi then d.chanError c
      else
        let x := d.chan c
        d.setChan c (if x.ready then { x with pi := pi } else { x with pi := pi, ready := true, ci := ci, sendIdx := ci })

/-- LRT_SQ_WAKE. -/
def execLrtSqWake (c : ChanId) (s : State) : Host.Outcome State Fault Refusal :=
  onDev (fun d => (d.chanWriteCi c.val).chanWake c.val) s

/-- The packets of an entry (R340). -/
def entryPkts (psn payloadMax remote : Nat) (data : List Byte) (flag : Option (Nat × Nat)) : List LrtPkt :=
  let n := ceilDiv data.length payloadMax
  let ds := (List.range n).map (fun i => ({ psn := (psn + i) % 2 ^ 24, isFlag := false, offset := remote + i * payloadMax
                                            payload := (data.drop (i * payloadMax)).take payloadMax, value := 0
                                            last := flag.isNone && i + 1 == n } : LrtPkt))
  match flag with
  | none => ds
  | some (off, v) => ds ++ [⟨(psn + n) % 2 ^ 24, true, off, [], v, true⟩]

/-- A send entry is well formed (Table 17.1). -/
def sendOk (e : Nat) : Bool :=
  let flag := bitAt e 80
  bitsAt e 81 7 == 0 && bitsAt e 64 16 == 0 && bitsAt e 192 64 % 8 == 0 && (bitsAt e 128 24 != 0 || flag) &&
    bitsAt e 88 40 % 8 == 0

/-- LRT_SEND_ENTRY: the next entry becomes packets (R339, R340). -/
def Dev.chanEntry (d : Dev) (c : Nat) : Dev :=
  let x := d.chan c
  if !d.serving || x.st != .openSt || x.draining || !x.ready || x.sendIdx == x.pi || !x.queued.isEmpty then d
  else
    match d.chanRead c (x.sqBase + 64 + 32 * x.sendIdx) 32 0 with
    | (none, d) => d
    | (some b, d) =>
      let e := leNat b
      if !sendOk e then d.chanError c
      else
        let len := bitsAt e 128 24
        match (if len = 0 then (some [], d) else d.chanRead c (bitsAt e 192 64) len 0) with
        | (none, d) => d
        | (some data, d) =>
          let flag := if bitAt e 80 then some (bitsAt e 88 40, bitsAt e 0 64) else none
          let ks := entryPkts x.psn (d.obj 0x8013 0 0) (bitsAt e 152 40) data flag
          let x := d.chan c
          (d.setChan c { x with
            queued := ks, psn := (x.psn + ks.length) % 2 ^ 24, sendIdx := (x.sendIdx + 1) % 2 ^ x.sqSize }).chanPump c

/-- LRT_SEND_ENTRY. -/
def execLrtSendEntry (c : ChanId) (s : State) : Host.Outcome State Fault Refusal :=
  onDev (fun d => (d.chanWriteCi c.val).chanEntry c.val) s

/-- Resend every unacknowledged packet (R343). -/
def Dev.resend (d : Dev) (c : Nat) : Dev :=
  let x := d.chan c
  let d := (d.setChan c { x with rtoStart := d.pwr.tick, rto := d.obj 0x8014 0 0 }).bump 0x803A (c + 1) 0 64 x.unacked.length
  x.unacked.foldl (fun (d : Dev) k => d.sendPkt c k) d

/-- LRT_RTO_EXPIRY (R343). -/
def Dev.rtoExpiry (d : Dev) (c : Nat) : Dev :=
  let x := d.chan c
  if !d.serving || x.st != .openSt || x.unacked.isEmpty || decide (d.since x.rtoStart < x.rto) then d
  else
    let n := x.timeouts + 1
    if n < d.obj 0x8015 0 0 then (d.setChan c { x with timeouts := n }).resend c
    else if (d.peer x.peer).alternate then d.peerLost x.peer
    else ((d.setChan c { x with timeouts := 0 }).setPeer x.peer { d.peer x.peer with alternate := true }).resend c

/-- LRT_RTO_EXPIRY. -/
def execLrtRtoExpiry (c : ChanId) (s : State) : Host.Outcome State Fault Refusal := onDev (fun d => d.rtoExpiry c.val) s

/-! ### Receiving -/

/-- The UDP port of a packet (R336, Table 17.4): for an open channel the one latched at its ENABLE. -/
def Dev.lrtPort (d : Dev) (h : LrtHeader) : Nat :=
  if h.type < 5 && (d.chan h.dstCh).st == .openSt then (d.chan h.dstCh).udpPort else d.obj 0x8010 0 0

/-- A datagram that reaches the LRT engine (R335, R336) with a header of a type. -/
def Dev.lrtIn (d : Dev) (g : LrtDatagram) (type : Nat) : Option (LrtHeader × List Byte) :=
  if d.serving && d.portUp g.port.val && !g.vlanTagged && g.checksumOk then
    (lrtParse (d.obj 0x8013 0 0) g.bytes).filter (fun h => h.1.type == type && g.udpPort.toNat == d.lrtPort h.1)
  else none

/-- A packet matches the configuration of the open channel it names (R337). -/
def Chan.accepts (x : Chan) (h : LrtHeader) : Bool :=
  x.st == .openSt && h.group == x.group && h.srcMember == x.peer && h.srcCh == x.peerChan

/-- A packet that no open channel accepts (R337, R342): discarded and counted; one for a channel that is not OPEN is
answered with NAK CLOSED. -/
def Dev.lrtDrop (d : Dev) (g : LrtDatagram) (h : LrtHeader) : Dev :=
  let c := h.dstCh
  let d := d.bump 0x803B (c + 1) 0 32
  let addr := d.obj 0x8020 (h.srcMember + 1) 0
  if (d.chan c).st != .openSt && h.type < 3 && addr != 0 && h.group == d.obj 0x8011 0 0 then
    d.sendTo h.srcMember g.port.val addr (0xC000 + c) (d.obj 0x8010 0 0)
      (lrtBytes { type := 4, srcMember := d.obj 0x8012 0 0, dstMember := h.srcMember, dstCh := h.srcCh, srcCh := c, nak := 1
                  group := h.group } [])
  else d

/-- Perform a DATA or FLAG packet (R341, R342). -/
def Dev.perform (d : Dev) (c : Nat) (k : LrtPkt) : Dev :=
  let x := d.chan c
  let data := if k.isFlag then leBytes k.value 8 else k.payload
  if x.rxBytes < k.offset + data.length then (d.sendNak c 2).chanError c
  else
    let va := (x.rxBase + k.offset) % 2 ^ 64
    match d.translateSpan x.tenant x.pasid va data.length 1 (d.chanReq c 2) with
    | (none, d) => d.setChan c { d.chan c with held := some k }
    | (some ps, d) =>
      match d.ownOkAll x.tenant ps true with
      | (false, d) => ((d.ownReport x.tenant x.pasid va 1 (d.chanReq c 2)).sendNak c 2).chanError c
      | (true, d) =>
        let d := d.busWrite x.tenant x.pasid 0x84 none ps data
        let x := d.chan c
        let d := d.setChan c { x with
          held := none, expected := (x.expected + 1) % 2 ^ 24, toAck := x.toAck + 1
          ackSince := if x.toAck = 0 then d.pwr.tick else x.ackSince }
        if 16 ≤ x.toAck + 1 then d.sendAck c else d

/-- A held packet is tried again when its translation may be at hand (R342). -/
def Dev.chanReplay (d : Dev) (c : Nat) : Dev :=
  match (d.chan c).held with
  | some k => if (d.chan c).st == .openSt then d.perform c k else d
  | none => d

/-- A received DATA or FLAG packet (R337, R341, R342). -/
def Dev.lrtPut (d : Dev) (g : LrtDatagram) (type : Nat) : Dev :=
  match d.lrtIn g type with
  | none => d
  | some (h, payload) =>
    let x := d.chan h.dstCh
    if !x.accepts h then d.lrtDrop g h
    else if x.held.isSome then d
    else
      let ahead := (h.psn + 2 ^ 24 - x.expected) % 2 ^ 24
      if ahead = 0 then d.perform h.dstCh ⟨h.psn, type == 2, h.offset, payload, h.value, false⟩
      else if 2 ^ 23 ≤ ahead then d.sendAck h.dstCh
      else d.sendNak h.dstCh 0

/-- LRT_DATA. -/
def execLrtData (g : LrtDatagram) (s : State) : Host.Outcome State Fault Refusal := onDev (fun d => d.lrtPut g 1) s
/-- LRT_FLAG. -/
def execLrtFlag (g : LrtDatagram) (s : State) : Host.Outcome State Fault Refusal := onDev (fun d => d.lrtPut g 2) s

/-- ACK_PSN advances (R339, R343): acknowledged packets are released, and the consumer index passes the entries whose
last packet is among them. `again`: the packets from ACK_PSN onward are sent again. -/
def Dev.ackTo (d : Dev) (c ack : Nat) (again : Bool) : Dev :=
  let x := d.chan c
  let n := (ack + 2 ^ 24 - x.ackPsn) % 2 ^ 24
  let more := fun (d : Dev) => if again then d.resend c else d
  if n = 0 || x.unacked.length < n then more d
  else
    let done := (x.unacked.take n).filter (fun k => k.last)
    let d := d.setChan c { x with
      ackPsn := ack, unacked := x.unacked.drop n, timeouts := 0, rtoStart := d.pwr.tick, rto := d.obj 0x8014 0 0
      ci := (x.ci + done.length) % 2 ^ x.sqSize, ciDirty := x.ciDirty || !done.isEmpty }
    (((more d).chanPump c).chanWriteCi c).chanDrainCheck c

/-- LRT_ACK. -/
def execLrtAck (g : LrtDatagram) (s : State) : Host.Outcome State Fault Refusal :=
  onDev (fun d =>
    match d.lrtIn g 3 with
    | none => d
    | some (h, _) => if (d.chan h.dstCh).accepts h then d.ackTo h.dstCh h.ackPsn false else d.lrtDrop g h) s

/-- LRT_NAK (R343, R344). -/
def execLrtNak (g : LrtDatagram) (s : State) : Host.Outcome State Fault Refusal :=
  onDev (fun d =>
    match d.lrtIn g 4 with
    | none => d
    | some (h, _) =>
      if !(d.chan h.dstCh).accepts h then d.lrtDrop g h
      else if h.nak = 0 then d.ackTo h.dstCh h.ackPsn true
      else d.chanError h.dstCh) s

/-- A PROBE or a PROBE_REPLY is of this group and for this member. -/
def Dev.ours (d : Dev) (h : LrtHeader) : Bool := h.group == d.obj 0x8011 0 0 && h.dstMember == d.obj 0x8012 0 0

/-- LRT_PROBE (R343). -/
def execLrtProbe (g : LrtDatagram) (s : State) : Host.Outcome State Fault Refusal :=
  onDev (fun d =>
    match d.lrtIn g 5 with
    | none => d
    | some (h, _) =>
      let addr := d.obj 0x8020 (h.srcMember + 1) 0
      if d.ours h && addr != 0 then
        d.sendTo h.srcMember g.port.val addr (0xC000 + h.dstCh) (d.obj 0x8010 0 0)
          (lrtBytes { type := 6, srcMember := h.dstMember, dstMember := h.srcMember, dstCh := h.srcCh, srcCh := h.dstCh
                      group := h.group } [])
      else d.bump 0x803B (h.dstCh + 1) 0 32) s

/-- LRT_PROBE_REPLY (R343). -/
def execLrtProbeReply (g : LrtDatagram) (s : State) : Host.Outcome State Fault Refusal :=
  onDev (fun d =>
    match d.lrtIn g 6 with
    | none => d
    | some (h, _) =>
      let p := d.peer h.srcMember
      if d.ours h && p.st = 2 then d.setPeer h.srcMember { p with st := 1 } else d) s

/-- LRT_ACK_TIMER: 2 µs, 50 ticks, after the oldest packet not acknowledged (R341). -/
def execLrtAckTimer (c : ChanId) (s : State) : Host.Outcome State Fault Refusal :=
  onDev (fun d =>
    let x := d.chan c.val
    if d.serving && x.st == .openSt && x.toAck != 0 && Nat.ble 50 (d.since x.ackSince) then d.sendAck c.val else d) s

/-- LRT_PROBE_TIMER (R343). -/
def execLrtProbeTimer (p : PeerId) (s : State) : Host.Outcome State Fault Refusal :=
  onDev (fun d =>
    match (d.peer p.val).st, d.pathOf p.val with
    | 2, some port =>
      if d.serving && d.due (d.peer p.val).lastProbe 25000 then
        (d.setPeer p.val { d.peer p.val with lastProbe := some d.pwr.tick }).sendTo p.val port (d.obj 0x8020 (p.val + 1) 0) 0xC000 (d.obj 0x8010 0 0)
          (lrtBytes { type := 5, srcMember := d.obj 0x8012 0 0, dstMember := p.val, dstCh := 0, srcCh := 0
                      group := d.obj 0x8011 0 0 } [])
      else d
    | _, _ => d) s

/-- An FLR of the tenant's function (R344): its channels are DISABLED, packets in flight are discarded. -/
def Dev.chanFlr (d : Dev) (tenant : Nat) : Dev :=
  { (d.withdraw (fun r => r.source == 0x84 && (d.chan (r.tag / 4)).tenant == tenant)) with
    scale := { d.scale with
      chans := d.scale.chans.mapVal (fun x =>
        if x.tenant == tenant then { x with st := .disabled, draining := false, unacked := [], queued := [], held := none } else x)
      enabling := d.scale.enabling.filter (fun e => e.2.tenant != tenant) } }

end Sys2Proof.Machine
end

