-- ==== Sys2Proof/Machine/Faults.lean ====
section
/-! DEFINITION. Walkers, translation faults and their answers, fences, and the invalidation of cached ownership entries
(R165 to R170, R173 to R178, R187, R391, R401). -/

namespace Sys2Proof.Machine

/-! ### Walkers (R165, R166) -/

/-- The class of a walk: the highest priority among the requests that share it. -/
def Walk.cls (w : Walk) : Nat := ((w.reqs.map (fun r => r.prio)).min?).getD 7

/-- Walkers in use: reserved ones, shared ones, and the shared ones that a tenant holds. -/
def Dev.resBusy (d : Dev) : Nat := (d.stu.walks.filter (fun w => w.2.active && w.2.reserved)).length
def Dev.sharedBusy (d : Dev) : Nat := (d.stu.walks.filter (fun w => w.2.active && !w.2.reserved)).length
def Dev.sharedOf (d : Dev) (tenant : Nat) : Nat :=
  (d.stu.walks.filter (fun w => w.2.active && !w.2.reserved && w.2.tenant == tenant)).length

/-- A reserved walker is free for a class-0 walk (Table 7.5). -/
def Dev.resFree (d : Dev) : Bool :=
  decide (d.resBusy < d.obj 0x4001 1 0) && decide (d.resBusy + d.sharedBusy < 24)

/-- A waiting walk can start now: on a reserved walker (true) or on a shared one. -/
def Dev.walkerFor (d : Dev) (w : Walk) : Option Bool :=
  if w.cls = 0 && d.resFree then some true
  else if d.sharedBusy < 24 - d.obj 0x4001 1 0 && d.resBusy + d.sharedBusy < 24 &&
      decide (d.sharedOf w.tenant < d.obj 0x4001 2 0) then some false
  else none

/-- The waiting walks, by class and then in order of arrival. -/
def Dev.walkQueue (d : Dev) : List (Nat × Walk) :=
  sortBy (fun (a b : Nat × Walk) => decide (a.2.cls < b.2.cls) || (a.2.cls == b.2.cls && Nat.ble a.1 b.1))
    (d.stu.walks.filter (fun w => !w.2.active))

/-- Hold a walk under its number. -/
def Dev.putWalk (d : Dev) (k : Nat) (w : Walk) : Dev := { d with stu := { d.stu with walks := d.stu.walks.put k w } }
/-- A walk leaves its walker. -/
def Dev.dropWalk (d : Dev) (k : Nat) : Dev := { d with stu := { d.stu with walks := d.stu.walks.drop k } }

/-- WALK_START: the first waiting walk that may start does. -/
def Dev.walkStart (d : Dev) : Dev :=
  match d.walkQueue.find? (fun w => (d.walkerFor w.2).isSome) with
  | none => d
  | some (k, w) =>
    (d.putWalk k { w with
      active := true, reserved := (d.walkerFor w).getD false, start := d.pwr.tick
      deadline := d.obj 0xA030 0 0, delay := d.obj 0xD012 0 0 }).bump 0x4020 3 0 64

/-- WALK_START. -/
def execWalkStart (s : State) : Host.Outcome State Fault Refusal := onDev (fun d => if d.serving then d.walkStart else d) s

/-! ### Fault records (R173) -/

/-- A record as its 256 bits, for one of its requests (Table 7.8). -/
def faultBits (f : FaultRec) (id : Nat) (r : Requester) : Nat :=
  let serviced := Nat.ble 1 f.cause && Nat.ble f.cause 8
  (FaultBits.mk f.va f.tick f.pasid f.tenant f.cause f.level
    (if serviced then (if r.source < 128 && r.job.isSome then r.policy else 1) else 0)
    (if serviced then id else 0) { r with access := f.access }).bits

/-- Two records would join (R173). -/
def FaultRec.joins (a b : FaultRec) : Bool :=
  a.tenant == b.tenant && a.pasid == b.pasid && a.va / 4096 == b.va / 4096 && a.access == b.access

/-- An identifier that no open record carries (log 29). -/
def Dev.freshFault (d : Dev) : Nat :=
  ((List.range 4097).map (fun i => (d.stu.nextFault + i) % 65536)).find?
    (fun i => (KMap.find d.stu.faults i).isNone) |>.getD 0

/-- What a request of a tile does while its record is open: it stalls its engine, or its job is switched out (R175,
R176). A job that is being preempted or cancelled is switched out at once instead of stalling. A request under
SWITCH_OUT that waits for a slot of the queue does neither until it has its record (log 104). -/
def Dev.tileFaults (d : Dev) (r : Requester) (queued : Bool) : Dev :=
  match r.job with
  | none => d
  | some j =>
    if 128 ≤ r.source then d
    else if (KMap.find d.jobs j).any (fun x => x.stopAtBoundary || x.cancel) then (d.switchOutJob j true).requeueCheck j
    else if r.policy = 2 then (if queued then d else d.switchOutJob j true)
    else if (d.tile r.source).job == some j then
      d.updTile r.source (fun x => { x with stalls := x.stalls.filter (fun n => n != r.tag) ++ [r.tag] })
    else d

/-- Faulting requests of one page and access: they join the open record, or produce one, or wait for a slot of the
queue (R173). -/
def Dev.fileFault (d : Dev) (f : FaultRec) (again : Bool) : Dev :=
  match d.stu.faults.find? (fun e => e.2.joins f) with
  | some (k, e) =>
    let d := { d with stu := { d.stu with faults := d.stu.faults.put k { e with reqs := e.reqs ++ f.reqs } } }
    f.reqs.foldl (fun (d : Dev) r => d.tileFaults r false) d
  | none =>
    if d.stu.faults.length < 4096 then
      let k := d.freshFault
      let d := { d with stu := { d.stu with faults := d.stu.faults.put k f, nextFault := (k + 1) % 65536 } }
      f.reqs.foldl (fun (d : Dev) r => d.tileFaults r false) (d.bump 0x4020 7 0 64)
    else
      let d := { d with stu := { d.stu with faultWait := d.stu.faultWait ++ [f] } }
      f.reqs.foldl (fun (d : Dev) r => d.tileFaults r true) (if again then d else d.bump 0x4020 8 0 32)

/-! ### Ends of a request (Table 7.11) -/

/-- A request ends for good, by FAIL or the stall limit (`ue` false) or with WALK_UE: the job posts TRANSLATION or
MEM_UE, or the engine's own end applies; `bits` is the fault record. -/
def Dev.requestEnd (d : Dev) (tenant bits : Nat) (r : Requester) (ue : Bool) : Dev :=
  let code := if ue then 0x03 else 0x01
  let note : Rec := { code := code, tenant := tenant, source := r.source, detail := bits }
  if r.source = 0x80 then
    (d.report { note with job := r.job }).ringFault r.ring (if r.tag = 1 then 0x22 else 0x21)
  else if r.source = 0x81 then (d.report note).slotTransEnd r.tag (if ue then 7 else 5)
  else if r.source = 0x84 then (d.report note).chanError (r.tag / 4)
  else if r.source = 0x8A then (d.errRingEnd r.tag).report note
  else
    match r.job with
    | some j =>
      if (KMap.find d.jobs j).any (fun x => match x.st with
          | .ended _ => false
          | _ => true) then d.jobFault j none note
      else d
    | none =>
      if r.source != 0x82 then d
      else if r.tag != 0 then (d.report note).loadFail (r.tag - 1)
      else (d.report note).evictFail r.ring

/-- The requests of a record end (R174): each job once. -/
def Dev.endAll (d : Dev) (f : FaultRec) (id : Nat) (rs : List Requester) (ue : Bool) : Dev :=
  rs.foldl (fun (d : Dev) r => d.requestEnd f.tenant (faultBits f id r) r ue) d

/-- The waiting work of engines that retry by themselves goes on. -/
def Dev.replayEngines (d : Dev) (rs : List Requester) : Dev :=
  rs.foldl (fun (d : Dev) r =>
    if r.source = 0x8A then d.errWrite r.tag
    else if r.source = 0x84 && r.tag % 4 = 2 then d.chanReplay (r.tag / 4)
    else d) d

/-! ### The end of a walk (R161 to R164) -/

/-- The record of a request whose walk found a cause. -/
def Dev.faultOf (d : Dev) (w : Walk) (r : Requester) (cause level : Nat) : FaultRec :=
  { tenant := w.tenant, pasid := w.pasid, va := r.va, access := r.access, cause := cause, level := level
    tick := d.stamp 128, reqs := [{ r with since := d.pwr.tick, limit := d.obj 0x4002 0 0 }] }

/-- A request of the check of a channel's ENABLE (R337). -/
def Requester.checks (r : Requester) : Bool := r.source == 0x84 && r.tag % 4 == 3

/-- A request whose walk found a cause (Table 7.7): the check of ENABLE ends with no record, a migration job skips a page
that is not mapped, WALK_UE ends the request, and every other one faults. -/
def Dev.walkFault (d : Dev) (w : Walk) (cause level : Nat) (r : Requester) : Dev :=
  if r.checks then d.chanWalked (r.tag / 4) none
  else if cause = 0xA then d.endAll (d.faultOf w r 0xA level) 0 [r] true
  else if cause = 1 && r.moves && (r.job.isSome || d.moving w.tenant w.pasid r.va) then d.moveSkip w.tenant w.pasid r
  else d.fileFault (d.faultOf w r cause level) false

/-- Requests that use a leaf as such, not a translation: the check of ENABLE, and the migration engine's. -/
def Dev.leafFor (d : Dev) (w : Walk) (e : TlbEntry) (l : Leaf) (r : Requester) : Dev :=
  if r.checks then d.chanWalked (r.tag / 4) (if leafCause l.pte 0 = 0 then some (e.pa r.va) else none)
  else d.moveLeaf w.tenant w.pasid r l

/-- WALK_COMPLETE: the leaf is held in the IOTLB and in the nearer caches of each request that it permits; every other
request faults, and a walk that ends in a fault for all of them leaves nothing in a cache (R162). -/
def Dev.walkComplete (d : Dev) (k : Nat) : Dev :=
  match KMap.find d.stu.walks k with
  | none => d
  | some w =>
    let n := d.since w.start
    if !w.active || decide (n < w.delay) || decide (w.deadline < n) then d
    else
      let d := (d.dropWalk k).maxObj 0x4020 4 0 n 32
      match d.walk w.tenant w.pasid w.va with
      | (.leaf e pte level addr, d') =>
        let special := w.reqs.filter (fun r => r.checks || r.moves)
        let plain := w.reqs.filter (fun r => !(r.checks || r.moves))
        let good := plain.filter (fun r => leafCause pte r.access == 0)
        let d := if good.isEmpty then { d' with stu := { d'.stu with ctxCache := d.stu.ctxCache, walkCache := d.stu.walkCache } }
          else if leafUsable pte then d'.putIotlb e else d'
        let bad := plain.filter (fun r => leafCause pte r.access != 0)
        let d := good.foldl (fun (d : Dev) r => d.putNear r.source e) d
        let d := bad.foldl (fun (d : Dev) r => d.walkFault w (leafCause pte r.access) level r) d
        let d := special.foldl (fun (d : Dev) r => d.leafFor w e ⟨pte, level, addr⟩ r) d
        d.replayEngines good
      | (.fault cause level, d) => w.reqs.foldl (fun (d : Dev) r => d.walkFault w cause level r) d

/-- WALK_COMPLETE. -/
def execWalkComplete (walk : Nat) (s : State) : Host.Outcome State Fault Refusal :=
  onDev (fun d => if d.serving then d.walkComplete walk else d) s

/-- WALK_TIMEOUT (R391, Table 7.7): the walk restarts once, and is reported; a second expiry ends its requests. The
level that the walk had reached is a free value. -/
def Dev.walkTimeout (d : Dev) (k : Nat) : Dev :=
  match KMap.find d.stu.walks k with
  | none => d
  | some w =>
    let n := d.since w.start
    if !w.active || Nat.ble n w.deadline then d
    else
      let (level, d) := (d.maxObj 0x4020 4 0 n 32).freeBelow 5
      if w.restarted then
        w.reqs.foldl (fun (d : Dev) r => d.walkFault w 0xA level r) (d.dropWalk k)
      else
        let d := (d.putWalk k { w with restarted := true, start := d.pwr.tick }).bump 0x4020 3 0 64
        match w.reqs.head? with
        | none => d
        | some r => d.report { code := 0x35, source := 0x83, detail := faultBits (d.faultOf w r 0xB level) 0 r }

/-- WALK_TIMEOUT. -/
def execWalkTimeout (walk : Nat) (s : State) : Host.Outcome State Fault Refusal :=
  onDev (fun d => if d.serving then d.walkTimeout walk else d) s

/-! ### Answers of the fault handler (R174 to R178, R180) -/

/-- A record leaves the fault queue. -/
def Dev.dropFault (d : Dev) (id : Nat) : Dev := { d with stu := { d.stu with faults := d.stu.faults.drop id } }

/-- FAULT_QUEUE_SLOT_FREE: the request that waited longest produces its record (R173). -/
def execFaultQueueSlotFree (s : State) : Host.Outcome State Fault Refusal :=
  onDev (fun d =>
    match d.stu.faultWait with
    | [] => d
    | f :: rest =>
      if d.serving && decide (d.stu.faults.length < 4096) then
        ({ d with stu := { d.stu with faultWait := rest } }).fileFault f true
      else d) s

/-- A held job goes back to the queue (R176). -/
def Dev.unhold (d : Dev) (j : Nat) : Dev :=
  match KMap.find d.jobs j with
  | some x => if x.st == .offTile true then (d.setJob j { x with st := .offTile false }).requeueCheck j else d
  | none => d

/-- A job is held off its tiles, waiting for RETRY. -/
def Dev.heldJob (d : Dev) (j : Option Nat) : Bool :=
  (j.bind (fun i => KMap.find d.jobs i)).any (fun x => x.st == .offTile true)

/-- A request is translated again by a fresh walk, or its switched-out job is requeued (R174, R176). -/
def Dev.retryReq (d : Dev) (f : FaultRec) (r : Requester) : Dev :=
  if r.source < 128 then
    match r.job with
    | some j => if (d.tile r.source).stalls.contains r.tag && (d.tile r.source).job == some j
        then d.requestWalk f.tenant f.pasid r.va r else d.unhold j
    | none => d
  else d.requestWalk f.tenant f.pasid r.va r

/-- FAULT_RETRY: the PTE stores made for the fault are visible; the answer is held back while the page moves (R180). -/
def execFaultRetry (faultId : BitVec 16) (stores : List ByteStore) (s : State) : Host.Outcome State Fault Refusal :=
  onDev (fun d =>
    match KMap.find d.stu.faults faultId.toNat with
    | none => d
    | some f =>
      if !d.serving || d.moving f.tenant f.pasid f.va then d
      else f.reqs.foldl (fun (d : Dev) r => d.retryReq f r) ((d.stores 0x89 stores).dropFault faultId.toNat)) s

/-- FAULT_FAIL: every request of the record ends, and the record goes on to the error ring. While the page moves the
answer is held, and will be RETRY (R180). -/
def execFaultFail (faultId : BitVec 16) (s : State) : Host.Outcome State Fault Refusal :=
  onDev (fun d =>
    match KMap.find d.stu.faults faultId.toNat with
    | none => d
    | some f => if d.serving && !d.moving f.tenant f.pasid f.va then (d.dropFault faultId.toNat).endAll f faultId.toNat f.reqs false else d) s

/-- A request of a record has stalled for its limit (R175, R177). -/
def Dev.stalledOut (d : Dev) (r : Requester) : Bool := Nat.ble r.limit (d.since r.since)

/-- The stalled requests of a record end at their limit: those of engines other than tiles end, and the jobs of tiles are
switched out. -/
def Dev.stallEnd (d : Dev) (f : FaultRec) (id : Nat) : Dev :=
  let late := f.reqs.filter d.stalledOut
  let tiles := (late.filter (fun r => decide (r.source < 128))).filterMap (fun r => r.job)
  let d := d.endAll f id (late.filter (fun r => !decide (r.source < 128))) false
  tiles.eraseDups.foldl (fun (d : Dev) j => (d.switchOutJob j true).requeueCheck j) d

/-- The requests of a record that its end at the stall limit leaves. -/
def Dev.stallRest (d : Dev) (f : FaultRec) : FaultRec :=
  { f with reqs := f.reqs.filter (fun r => !(d.stalledOut r && !decide (r.source < 128))) }

/-- Requests that have stalled for their limit while they wait for a slot of the fault queue (R173, R175, R177). -/
def Dev.waitEnd (d : Dev) : Dev :=
  let fs := d.stu.faultWait
  let d := { d with stu := { d.stu with faultWait := (fs.map d.stallRest).filter (fun f => !f.reqs.isEmpty) } }
  fs.foldl (fun (d : Dev) f => d.stallEnd f 0) d

/-- STALL_LIMIT_EXPIRY: a tile's job is switched out, and its record stays open; a request of another engine ends. -/
def execStallLimitExpiry (faultId : BitVec 16) (s : State) : Host.Outcome State Fault Refusal :=
  onDev (fun d =>
    let id := faultId.toNat
    if !d.serving then d
    else
      let d := d.waitEnd
      match KMap.find d.stu.faults id with
      | none => d
      | some f =>
        let rest := d.stallRest f
        let d := if rest.reqs.isEmpty then d.dropFault id
          else { d with stu := { d.stu with faults := d.stu.faults.put id rest } }
        d.stallEnd f id) s

/-! ### Fences (R167 to R170) -/

/-- The STU, the ring engine and the cores K1 to K15 run: from the end of stage 2 on, and not in Beyby mode (Tables 4.2
and 4.4). -/
def Dev.hubOn (d : Dev) : Bool := d.live && Nat.ble 3 d.boot.stage && !d.boot.beyby

/-- All of K1 to K7 are missing: the firmware roles have moved to K8 to K15 (Table 4.5, R189). -/
def Dev.rolesMoved (d : Dev) : Bool := (List.range 7).all (fun i => !d.has (273 + i))

/-- The byte of TEN_CORE_MAP of core K8 + `k`. -/
def Dev.coreByte (d : Dev) (k : Nat) : Nat := bitsAt (d.obj 0x3802 0 0) (8 * (8 + k)) 8

/-- Core K8 + `k` is present and of class POLICY. -/
def Dev.policyCore (d : Dev) (k : Nat) : Bool :=
  d.has (280 + k) && bitsAt (d.coreByte k) 6 2 == 1 && !d.rolesMoved

/-- The tenant of a policy core. -/
def Dev.coreTenant (d : Dev) (k : Nat) : Nat := bitsAt (d.coreByte k) 0 6

/-- State of a policy core. -/
def Dev.core (d : Dev) (k : Nat) : Core := d.cores.get k {}
def Dev.setCore (d : Dev) (k : Nat) (x : Core) : Dev := { d with cores := d.cores.put k x }

/-- Stores of policy modules (R190): the G-stage tables confine a module to the regions that its tenant may write; other
stores do not happen. -/
def Dev.moduleStores (d : Dev) (l : List ByteStore) : List ByteStore :=
  let running := (List.range 8).filter (fun k => d.policyCore k && (d.core k).st == 1)
  l.filter (fun x => decide (x.addr < d.hbmTop) && running.any (fun k =>
    rotAllows (leNat (d.mem.read (d.obj 0x3800 0 0 + 2 * (x.addr / 2097152)) 2)) (d.coreTenant k) true))

/-- SFENCE_BROADCAST: the core's earlier stores are visible; a fence of M-mode or HS-mode is broadcast (R167), one of a
policy module in VS-mode is not, and its stores are confined (R190). -/
def execSfenceBroadcast (mode : FenceMode) (va : Option (BitVec 64)) (asid : Option (BitVec 16)) (stores : List ByteStore)
    (s : State) : Host.Outcome State Fault Refusal :=
  onDev (fun d =>
    if d.hubOn then
      match mode with
      | .vsMode => d.stores 0x89 (d.moduleStores stores)
      | .mMode | .hsMode =>
        let d := d.stores 0x89 stores
        let v := va.map (·.toNat)
        let a := asid.map (·.toNat)
        let d := d.fenceRemove v a
        { d with stu := { d.stu with fences := d.stu.fences ++ [{
            va := v, asid := a, start := d.pwr.tick, deadline := d.obj 0x4003 0 0 }] } }
    else d) s

/-- The oldest fence retires (R168). -/
def Dev.retireFence (d : Dev) : Dev :=
  match d.stu.fences with
  | [] => d
  | f :: rest => (({ d with stu := { d.stu with fences := rest } }).maxObj 0x4020 6 0 (d.since f.start) 32).emit .fenceRetired

/-- FENCE_RETIRE. -/
def execFenceRetire (s : State) : Host.Outcome State Fault Refusal :=
  onDev (fun d => if d.hubOn then d.retireFence else d) s

/-- A tile is reset (R72, R77): its job's segment is abandoned; the job is requeued from its last boundary. A reserved
tile is kept awake in its place (R53). -/
def Dev.resetTile (d : Dev) (t : Nat) : Dev :=
  let d := match (d.tile t).job with
    | some j => (d.switchOutJob j false).requeueJob j
    | none => d
  (d.updTile t (fun x => { x.stop with resetting := true, uTlb := [], mustClear := true })).keepAwake

/-- What a late access of another engine leads to at the fence deadline (R170), and the bit of DETAIL that says so; none
where the engine has no such access. A move that is abandoned keeps its PTE invalid and is repeated: it stays the
engine's next move. -/
def Dev.abandon (d : Dev) : LateAccess → Option (Nat × Dev)
  | .sqRead k => if (d.ring k.val).st == .enabled then some (133, d.ringFault k.val 0x21) else none
  | .cqWrite k =>
    if (d.ring k.val).st == .enabled || (d.ring k.val).st == .draining then some (133, d.ringFault k.val 0x22) else none
  | .solver k => if d.slotBusy k.val then some (134, d.slotTransEnd (2 * k.val) 5) else none
  | .lrt c => if (d.chan c.val).st == .openSt then some (135, d.chanError c.val) else none
  | .move => if d.stu.moves.isEmpty then none else some (136, d)
  | .errRing n =>
    match (d.errRing n.val).waiting with
    | [] => none
    | _ :: rest =>
      some (137, ((d.withdraw (fun r => r.source == 0x8A && r.tag == n.val)).setErrRing n.val
        { d.errRing n.val with waiting := rest }).bump 0xA004 0 n.val 32)
  | .kv j =>
    if (KMap.find d.jobs j).any (fun x => x.opcode == 4 && x.st == .waiting && x.taken) then
      some (138, d.endJob j 2 (faultKey none 0x01))
    else none

/-- Abandon a list of late accesses; the bits of DETAIL. -/
def Dev.abandonAll (d : Dev) (l : List LateAccess) : Nat × Dev :=
  l.foldl (fun (acc : Nat × Dev) a =>
    match acc.2.abandon a with
    | some (b, d) => (acc.1 ||| 2 ^ b, d)
    | none => acc) (0, d)

/-- FENCE_TIMEOUT (R169, R170): late tiles are reset, late accesses of other engines are abandoned, the fault is reported
and the fence retires; a late chiplet TLB or STU is a fatal hub error besides. A sleeping tile and a chiplet in C-LOW
always acknowledge. -/
def execFenceTimeout (lateTiles : BitVec 128) (lateChips : BitVec 4) (lateStu : LateStu) (s : State) :
    Host.Outcome State Fault Refusal :=
  onDev (fun d =>
    match d.stu.fences with
    | [] => d
    | f :: _ =>
      if !d.hubOn || decide (d.since f.start < f.deadline) then d
      else
        let ts := (List.range 128).filter (fun t => bitAt lateTiles.toNat t && d.has t && (d.tile t).power != .sleep)
        let cs := (List.range 4).filter (fun c => bitAt lateChips.toNat c && d.has (264 + c) && !d.clk.chipLow.get c false)
        let d := ts.foldl Dev.resetTile d
        let (bits, d) := d.abandonAll lateStu.accesses
        let detail := ts.foldl (fun n t => n + 2 ^ t) 0 + cs.foldl (fun n c => n + 2 ^ (128 + c)) 0 +
          (if lateStu.restart then 2 ^ 132 else 0) + bits
        let d := (d.reportUnit { code := 0x32, source := 0x83, detail := detail }).retireFence
        if lateStu.restart || !cs.isEmpty then d.warmReset 9 else d) s

/-! ### Firmware's writes of this chapter -/

/-- MEM_PASID_TABLE or MEM_PASID_LIMIT is written (Table 7.10): the tenant's context entries go, its walks restart. -/
def Dev.setPasid (d : Dev) (index tenant v : Nat) : Dev :=
  let d := d.setObj index 0 tenant v
  let d := { d with stu := { d.stu with ctxCache := d.stu.ctxCache.filter (fun e => e.tenant != tenant) } }
  d.restartWalks (fun w => w.tenant == tenant)

/-- A legal value of MEM_PASID_TABLE. -/
def Dev.pasidTableOk (d : Dev) (base : Nat) : Bool := base % 4096 == 0 && decide (base < d.hbmTop)

/-- MEM_PASID_TABLE is written by resident firmware, after its stores. -/
def execMemPasidTable (tenant : FnId) (base : BitVec 64) (stores : List ByteStore) (s : State) :
    Host.Outcome State Fault Refusal :=
  onDev (fun d =>
    if d.serving then
      let d := d.stores 0x89 stores
      if d.pasidTableOk base.toNat then d.setPasid 0x4010 tenant.val base.toNat else d
    else d) s

/-- TEN_ROT_REGIONS (Table 8.3). -/
def Dev.rotRegions (d : Dev) : Nat := d.hbmTop / 2097152

/-- The tenant that had a region before (R187, R188): the HDM carve-out is tenant 0's from the boot on. -/
def Dev.lastOwner (d : Dev) (region : Nat) : Option Nat :=
  match KMap.find d.stu.regionOwner region with
  | some o => some o
  | none => if d.rotRegions - d.boot.hdmGib * 512 ≤ region then some 0 else none

/-- A region's entry gives it to a tenant (R188): where another had it, resident firmware has set it NONE and filled it
with zeros first (log 43). -/
def Dev.giveRegion (d : Dev) (region : Nat) : Dev :=
  let e := leNat (d.mem.read (d.obj 0x3800 0 0 + 2 * region) 2)
  let owner := bitsAt e 0 6
  if bitsAt e 14 2 = 0 || d.lastOwner region == some owner then d
  else
    let pa := region * 2097152
    let d := if (d.lastOwner region).isSome then
        let d := d.snoop pa 2097152
        { d with mem := d.mem.wipe pa 2097152 }
      else d
    { d with stu := { d.stu with regionOwner := d.stu.regionOwner.put region owner } }

/-- TEN_ROT_INVAL is written (R187): the cached entries of the range go, regions with a new owner hold zeros (R188); the
response waits. -/
def Dev.rotInvalidate (d : Dev) (src : Option ReqSrc) (header first count : Nat) : Dev :=
  let d := { d with
    stu := { d.stu with rotCache := d.stu.rotCache.filter (fun e => !(Nat.ble first e.1 && decide (e.1 < first + count))) }
    srv := { d.srv with rotInvals := d.srv.rotInvals ++ [⟨src, header, first, count⟩] } }
  (List.range count).foldl (fun (d : Dev) i => d.giveRegion (first + i)) d

/-- A legal range of TEN_ROT_INVAL. -/
def Dev.rotRangeOk (d : Dev) (first count : Nat) : Bool := Nat.ble 1 count && Nat.ble (first + count) d.rotRegions

/-- TEN_ROT_INVAL. -/
def execTenRotInval (first count : Nat) (stores : List ByteStore) (s : State) : Host.Outcome State Fault Refusal :=
  onDev (fun d =>
    if d.serving then
      let d := d.stores 0x89 stores
      if d.rotRangeOk first count then d.rotInvalidate none 0 first count else d
    else d) s

end Sys2Proof.Machine
end

