-- ==== Sys2Proof/Machine/Tenancy.lean ====
section
/-! DEFINITION. Tenant clears (R192, R193, R230, R312, R333, R391), policy modules (R189 to R191), TILE_ENABLE (R213), and
the end of a TEN_ROT_INVAL (R187). -/

namespace Sys2Proof.Machine

/-! ### Tenant clears -/

/-- A tile after its clear (R192, R230): stores and handle table zero with valid check bits; sequencer, registers and
engines reset; the pass counts as a scrub pass. The checkpoint buffer is not touched. -/
def Tile.cleared (x : Tile) (tick : Nat) : Tile :=
  { x with
    clearing := false, mustClear := false, pos := 0, sregs := [], preds := 1, loops := [], skip := none, handles := []
    hErr := [], tb := [], as := [], tbErr := [], asErr := [], out := [], poll := none, stalls := [], seg := 0, masks := []
    win := [], sfuTabs := [], sfuProgs := [], query := none, uTlb := [], scrubPos := 0, scrubOn := false, scrubStart := tick
    scrubLate := false }

/-- Count a completed clear. -/
def Dev.countClear (d : Dev) : Dev := d.bump 0x3830 0 0 64

/-- A clear of a tile passes its read-back. Every poisoned word of its stores has been rewritten whole (R226, R230). -/
def Dev.tileCleared (d : Dev) (t : Nat) : Dev :=
  let x := d.tile t
  let d := d.clearPoison (x.tbErr ++ x.asErr ++ x.hErr)
  let d := d.updTile t (fun x => x.cleared d.pwr.tick)
  ((d.setObj 0x5802 (t + 1) 0 d.pwr.tick).bump 0x5810 0x0A 0 64).countClear

/-- The record of a failed clear (Table 10.4); a unit that is no tile leaves TILE, STORE and OFFSET open. -/
def Dev.clearFailed (d : Dev) (source tenant detail : Nat) : Dev :=
  (d.bump 0x3831 0 0 32).reportUnit { code := 0x30, tenant := tenant, source := source, detail := detail }

/-- A tile's clear fails (R193, R230): the uncorrectable word is counted, the tile is disabled until the next warm reset,
its job goes to another, and a reserved tile is kept awake in its place (R53). -/
def Dev.tileClearFail (d : Dev) (t store off : Nat) : Dev :=
  let x := d.tile t
  let d := (d.setTile t { x with clearing := false, failed := true }).countUe t 1
  let d := match x.job with
    | some j => d.requeueJob j
    | none => d
  let d := d.keepAwake
  d.clearFailed t (x.owner.getD 0) (d.spmRecord t store 4 0xA off)

/-- The scratchpad record's fields for a unit that is no tile. -/
def Dev.otherRecord (d : Dev) (tenant : Nat) : Nat × Dev :=
  let (tile, d) := d.freeBelow 128
  let (store, d) := d.freeBelow 4
  let (off, d) := d.freeBelow (2 ^ 21)
  (d.stamp 128 * 2 ^ 64 + tile * 2 ^ 57 + store * 2 ^ 55 + 4 * 2 ^ 51 + 0xA * 2 ^ 47 + tenant * 2 ^ 41 + off, d)

/-- A bank's clear passes (R192, R312): its cells and threshold registers are zero. -/
def Dev.bankCleared (d : Dev) (a b : Nat) : Dev :=
  (d.setArray a (((d.array a).setClearing b false).setBank b {})).countClear.scoutPump

/-- Work of an array goes to others (R193): loads of its spans are abandoned and the spans released, so that waiting
queries are given new spans; a query that runs on it has its columns selected (Table 15.3). -/
def Dev.moveArrayWork (d : Dev) (a : Nat) : Dev :=
  let spans := d.spansOn a
  let d := d.withdraw (fun r => spans.any (fun sp => sp.layers.any (fun l => l.loading.any (fun id => r.same (loadReq id 0)))))
  let d := spans.foldl (fun (d : Dev) sp => d.dropSpan sp.seq) d
  { d with tiles := d.tiles.mapVal (fun x => { x with
      query := x.query.map (fun q => if q.snap.isSome then { q with forcedArrays := q.forcedArrays ++ [a] } else q) }) }

/-- A bank's clear fails (R193): the array is disabled until the next warm reset, and its work goes to other arrays. -/
def Dev.bankClearFail (d : Dev) (a b : Nat) : Dev :=
  let tenant := ((d.array a).tenantOf b).getD 0
  let d := d.moveArrayWork a
  let d := d.setArray a { d.array a with
    st := .disabled, failed := true, sweeping := false, due := false, clearing0 := false, clearing1 := false }
  let (detail, d) := d.otherRecord tenant
  (d.clearFailed 0x85 tenant detail).scoutPump

/-- A solver context's clear passes (R192, R333): the slot's structure and counters are gone. -/
def Dev.slotCleared (d : Dev) (k : Nat) : Dev :=
  let x := d.slot k
  let d := d.setSlot k { x with clearing := false, lastTenant := some (d.slotTenant k), resident := none }
  ([0x7C20, 0x7C21, 0x7C22, 0x7C23].foldl (fun (d : Dev) i => d.setObj i (k + 1) 0 0) d).countClear

/-- A solver context's clear fails (R193): the slot is disabled until the next warm reset. -/
def Dev.slotClearFail (d : Dev) (k : Nat) : Dev :=
  let d := d.setSlot k { d.slot k with clearing := false, failed := true, st := .disabled, resident := none }
  let (detail, d) := d.otherRecord (d.slotTenant k)
  d.clearFailed 0x81 (d.slotTenant k) detail

/-- A unit is being cleared. -/
def Dev.isClearing (d : Dev) : ClearUnit → Bool
  | .tile t => (d.tile t.val).clearing
  | .bank a b => (d.array a.val).clearing b.val
  | .solver k => (d.slot k.val).clearing

/-- Where a unit's clear started, and twice its bound of R192 in ticks. -/
def Dev.clearSince (d : Dev) : ClearUnit → Nat × Nat
  | .tile t => ((d.tile t.val).clearStart, 61)
  | .bank a _ => ((d.array a.val).clearStart, 100)
  | .solver k => ((d.slot k.val).clearStart, 250)

/-- A clear passes. -/
def Dev.clearPass (d : Dev) : ClearUnit → Dev
  | .tile t => d.tileCleared t.val
  | .bank a b => d.bankCleared a.val b.val
  | .solver k => d.slotCleared k.val

/-- A clear fails at a word. -/
def Dev.clearFail (d : Dev) (u : ClearUnit) (store off : Nat) : Dev :=
  match u with
  | .tile t => d.tileClearFail t.val store off
  | .bank a b => d.bankClearFail a.val b.val
  | .solver k => d.slotClearFail k.val

/-- Correctable errors that the read-back of a tile corrected (R221, R230). -/
def Dev.clearCe (d : Dev) (u : ClearUnit) (tb as other : Nat) : Dev :=
  match u with
  | .tile t => ((d.countCe t.val 1 tb).countCe t.val 2 as).countCe t.val 3 other
  | _ => d

/-- TENANT_CLEAR_DONE. -/
def execTenantClearDone (u : ClearUnit) (found : ReadBack) (s : State) : Host.Outcome State Fault Refusal :=
  onDev (fun d =>
    if d.live && d.isClearing u then
      match found with
      | .zero => d.clearPass u
      | .correctable tb as other => (d.clearCe u tb as other).clearPass u
      | .failed store off => d.clearFail u store.val off
    else d) s

/-- TENANT_CLEAR_DEADLINE (R391): treated as a failed read-back; the word is open. -/
def execTenantClearDeadline (u : ClearUnit) (s : State) : Host.Outcome State Fault Refusal :=
  onDev (fun d =>
    let (start, limit) := d.clearSince u
    if d.live && d.isClearing u && decide (limit < d.since start) then
      let (store, d) := d.freeBelow 3
      let (off, d) := d.freeBelow (2 ^ 21)
      d.clearFail u store off
    else d) s

/-- ROT_INVAL_COMPLETE (R187): the response of the oldest write can be sent; a request through a served path receives
it. -/
def Dev.rotInvalDone (d : Dev) : Option RotInval × Dev :=
  match d.srv.rotInvals with
  | r :: rest => if d.live then (some r, { d with srv := { d.srv with rotInvals := rest } }) else (none, d)
  | [] => (none, d)

/-! ### Policy modules -/

/-- TEN_POLICY_CTL START: a module whose image is held runs. -/
def Dev.policyStart (d : Dev) (k : Nat) : Dev :=
  if d.serving && d.policyCore k && (d.core k).image.isSome then d.setCore k { d.core k with st := 1 } else d

/-- TEN_POLICY_CTL STOP. -/
def Dev.policyStop (d : Dev) (k : Nat) : Dev :=
  if d.serving && d.policyCore k && (d.core k).st == 1 then d.setCore k { d.core k with st := 2 } else d

/-- POLICY_START. -/
def execPolicyStart (core : Fin 8) (s : State) : Host.Outcome State Fault Refusal := onDev (fun d => d.policyStart core.val) s

/-- POLICY_STOP. -/
def execPolicyStop (core : Fin 8) (s : State) : Host.Outcome State Fault Refusal := onDev (fun d => d.policyStop core.val) s

/-- POLICY_TRAP (R191): the module is stopped and reads TRAPPED. -/
def execPolicyTrap (core : Fin 8) (s : State) : Host.Outcome State Fault Refusal :=
  onDev (fun d =>
    let k := core.val
    if d.serving && d.policyCore k && (d.core k).st == 1 then
      (d.setCore k { d.core k with st := 3 }).reportUnit { code := 0x37, tenant := d.coreTenant k }
    else d) s

/-! ### TILE_ENABLE -/

/-- TILE_ENABLE is written (R52, R53, R213): a chiplet with an enabled tile in T-IDLE is not in C-LOW; a running tile is taken at its boundary; an assigned one leaves its job; the tile is
cleared before its next work. -/
def Dev.tileEnable (d : Dev) (t : Nat) (on : Bool) : Dev :=
  let d := d.setObj 0x5001 (t + 1) 0 on.toNat
  if on then (if (d.tile t).power == .sleep then d else d.wakeChip (t / 32)).keepAwake
  else
    let d := match (d.tile t).job with
      | some j => d.requeueJob j
      | none => d
    (d.updTile t (fun x => { x with mustClear := true })).keepAwake

/-- TILE_ENABLE. -/
def execTileEnable (t : TileId) (on : Bool) (s : State) : Host.Outcome State Fault Refusal :=
  onDev (fun d => if d.serving && d.has t.val then d.tileEnable t.val on else d) s

end Sys2Proof.Machine
end

