-- ==== Sys2Proof/Machine/Flr.lean ====
section
/-! DEFINITION. Function level resets (R72, R75, R76, R154, R178, R253, R296, R310, R333, R344, R399), tile resets (R77)
and RST_REQUEST (R72, R92, R404). -/

namespace Sys2Proof.Machine

/-- OPEN-class objects of a ring (Table 6.9). -/
def ringOpenObjs : List Nat := [0x3011, 0x3012, 0x3013, 0x3014, 0x3017, 0x3018, 0x3019, 0x301A, 0x301B, 0x301C, 0x3025]

/-- The rings of a function are DISABLED, and their OPEN-class objects take their defaults (R154). -/
def Dev.ringsFlr (d : Dev) (n : Nat) : Dev :=
  ((List.range 64).filter (fun k => d.ringOwner k == n)).foldl (fun (d : Dev) k =>
    let d := { d with rings := d.rings.drop k }
    ringOpenObjs.foldl (fun (d : Dev) i => { d with dict := d.dict.drop (okey i (k + 1) 0) }) d) d

/-- Jobs of a tenant end with no completion; their tiles stop at once (R75). -/
def Dev.jobsFlr (d : Dev) (n : Nat) : Dev :=
  let mine := d.jobs.filter (fun e => e.2.tenant == n)
  let d := mine.foldl (fun (d : Dev) e =>
    ((d.withdraw (fun r => r.job == some e.1)).releaseTiles e.2.tiles)) d
  ({ d with jobs := d.jobs.filter (fun e => e.2.tenant != n) }).sfuRetire

/-- Open fault records and walk requests of a tenant are withdrawn (R178). -/
def Dev.faultsFlr (d : Dev) (n : Nat) : Dev :=
  { d with stu := { d.stu with
      walks := (d.stu.walks.mapVal (fun w => if w.tenant == n then { w with reqs := [] } else w)).filter
        (fun w => w.2.active || !w.2.reqs.isEmpty)
      faults := d.stu.faults.filter (fun f => f.2.tenant != n)
      faultWait := d.stu.faultWait.filter (fun f => f.tenant != n) } }

/-- The mailbox, its session and its transfers (R399). -/
def Dev.mailboxFlr (d : Dev) (n : Nat) : Dev :=
  let f := d.fn n
  let mine := fun (r : ReqSrc) => match r with
    | .mailbox m => m.val == n
    | _ => false
  let d := d.setFn n {
    busMaster := f.busMaster, pasidEn := f.pasidEn, d3hot := f.d3hot, tickHi := f.tickHi, mps := f.mps, mrrs := f.mrrs
    aer := f.aer, bars := f.bars, flr := true }
  { d with srv := { d.srv with
      segs := d.srv.segs.filter (fun x => x.holder != .mbx n)
      heldFrames := d.srv.heldFrames.filter (fun x => !mine x.src)
      rotInvals := d.srv.rotInvals.map (fun r => if r.src.any mine then { r with src := none } else r)
      flash := d.srv.flash.map (fun w => if w.src.any mine then { w with src := none } else w) } }

/-- Slots and images of a tenant are unloaded (R296). -/
def Dev.sfuFlr (d : Dev) (n : Nat) : Dev := { d with sfu := d.sfu.filter (fun e => e.1 / 16 != n) }

/-- Tiles of a tenant are cleared (R75, R192). -/
def Dev.tilesFlr (d : Dev) (n : Nat) : Dev :=
  ((d.tiles.filter (fun e => e.2.owner == some n)).map (fun e => e.1)).foldl (fun (d : Dev) t => d.startClear t) d

/-- An FLR of a function starts: everything of its tenant ends (Table 4.1, R75). -/
def Dev.flrStart (d : Dev) (n : Nat) : Dev :=
  let d := ((d.mailboxFlr n).jobsFlr n).ringsFlr n
  let d := (((d.slotFlr n).chanFlr n).kvFlr n).sfuFlr n
  let d := d.setSpans (d.spans.filter (fun sp => sp.tenant != n))
  let d := d.setErrRing n { d.errRing n with st := .disabled, waiting := [], uncovered := none }
  (d.faultsFlr n).tilesFlr n

/-- The host link carries a reset of a function. -/
def Dev.linkUp (d : Dev) : Bool := d.live && d.boot.pcieGen != 0

/-- VF_FLR. -/
def execVfFlr (fn : FnId) (s : State) : Host.Outcome State Fault Refusal :=
  onDev (fun d =>
    let n := fn.val
    if d.linkUp && d.boot.cfgOpen && n != 0 && d.fnExists n && !(d.fn n).flr then d.flrStart n else d) s

/-- Functions that exist. -/
def Dev.functions (d : Dev) : List Nat := (List.range 64).filter d.fnExists

/-- PF_FLR_HOT_RESET (R76): every function is reset. -/
def execPfFlrHotReset (kind : PfReset) (s : State) : Host.Outcome State Fault Refusal :=
  onDev (fun d =>
    if d.linkUp && (kind != .flr || d.boot.cfgOpen) && !(d.fn 0).flr then d.functions.foldl Dev.flrStart d else d) s

/-- No tile of a tenant is being cleared. -/
def Dev.tenantClean (d : Dev) (n : Nat) : Bool := d.tiles.all (fun e => !(e.2.owner == some n && e.2.clearing))

/-- A function's FLR is over. -/
def Dev.flrEnd (d : Dev) (n : Nat) : Dev := (d.ringsFlr n).updFn n (fun f => { f with flr := false })

/-- FLR_COMPLETE: every clear has ended. A reset of the PF ends for every function at once, and clears VF Enable. -/
def execFlrComplete (fn : FnId) (s : State) : Host.Outcome State Fault Refusal :=
  onDev (fun d =>
    let n := fn.val
    if !d.live || !(d.fn n).flr then d
    else if n = 0 then
      if d.functions.all d.tenantClean then
        let d := d.functions.foldl Dev.flrEnd d
        { d with numVfs := 0, fns := d.fns.filter (fun e => e.1 == 0) }
      else d
    else if (d.fn 0).flr || !d.tenantClean n then d
    else d.flrEnd n) s

/-! ### Tile resets and RST_REQUEST -/

/-- RST_TILE is written, or the fault handler resets a tile (R77). -/
def execRstTile (t : TileId) (s : State) : Host.Outcome State Fault Refusal :=
  onDev (fun d => if d.live && d.has t.val && !(d.tile t.val).resetting then d.resetTile t.val else d) s

/-- TILE_RESET_DONE: the tile's stores are cleared by a tenant clear (Table 4.1). -/
def execTileResetDone (t : TileId) (s : State) : Host.Outcome State Fault Refusal :=
  onDev (fun d =>
    if d.live && (d.tile t.val).resetting then
      (d.updTile t.val (fun x => { x with resetting := false })).startClear t.val
    else d) s

/-- RST_REQUEST = 0x01 (R404). -/
def Dev.requestWarm (d : Dev) : Dev := d.restoreCount.warmReset 3

/-- RST_REQUEST = 0x02 (R91, R404). -/
def Dev.requestBeyby (d : Dev) : Dev := d.restoreCount.warmReset 4

/-- RST_REQUEST_WARM. -/
def execRstRequestWarm (s : State) : Host.Outcome State Fault Refusal :=
  onDev (fun d => if d.live then d.requestWarm else d) s

/-- RST_REQUEST_BEYBY. -/
def execRstRequestBeyby (s : State) : Host.Outcome State Fault Refusal :=
  onDev (fun d => if d.live then d.requestBeyby else d) s

end Sys2Proof.Machine
end

