-- ==== Sys2Proof/Machine/HostLink.lean ====
section
/-! DEFINITION. Configuration requests and the registers of the BARs (R75, R76, R84, R121, R126 to R129, R132 to R134, R150,
R151). -/

namespace Sys2Proof.Machine

/-- Identifiers of a function (R127): Device ID and Vendor ID. -/
def fnIds (n : Nat) : Nat := if n = 0 then 0xA47C1FD8 else 0xA47D1FD8

/-- A configuration request receives Completion Status RRS: configuration space is not open, or an FLR of the function or
of the PF is in progress (R75, R76, R84). -/
def Dev.rrs (d : Dev) (n : Nat) : Bool := !d.boot.cfgOpen || (d.fn n).flr || (d.fn 0).flr

/-- VF Enable and NumVFs are written in the PF (R126): functions that go are reset as by a VF FLR; Beyby mode has no
VFs (Table 4.4). -/
def Dev.setVfs (d : Dev) (num : Nat) : Dev :=
  if d.boot.beyby then d
  else
    let gone := (List.range 64).filter (fun n => decide (num < n) && Nat.ble n d.numVfs)
    let d := gone.foldl (fun (d : Dev) n => ((d.flrStart n).flrEnd n)) d
    { d with numVfs := num, fns := d.fns.filter (fun e => !gone.contains e.1) }

/-- Size of a BAR of a function (Table 6.2): BAR4 is the PF's alone, and has size 0 without CXL (R129). -/
def Dev.barSize (d : Dev) (n bar : Nat) : Nat :=
  if bar = 0 then 65536
  else if bar = 1 then 262144
  else if n = 0 && d.boot.cxl != 0 then 65536 else 0

/-- A BAR register: base and type, 64-bit and non-prefetchable (R132); 0 for a BAR of size 0. -/
def Dev.barReg (d : Dev) (n bar : Nat) (high : Bool) : Nat :=
  let base := (d.fn n).bars.get bar 0
  if d.barSize n bar = 0 then 0 else if high then base / 2 ^ 32 else base % 2 ^ 32 + 4

/-- A BAR register is written: the base is a multiple of the size. -/
def Dev.setBar (d : Dev) (n bar : Nat) (high : Bool) (v : Nat) : Dev :=
  let old := (d.fn n).bars.get bar 0
  let size := d.barSize n bar
  if size = 0 then d
  else
    let new := if high then v * 2 ^ 32 + old % 2 ^ 32 else old / 2 ^ 32 * 2 ^ 32 + (v - v % size)
    d.updFn n (fun f => { f with bars := f.bars.put bar new })

/-- Device Control: the fields Max_Payload_Size and Max_Read_Request_Size; the others are free (log 10). -/
def Dev.devCtl (d : Dev) (n : Nat) : Nat :=
  let free := Config.devCtl n % 2 ^ 32
  free % 32 + (d.fn n).mps * 32 + bitsAt free 8 4 * 256 + (d.fn n).mrrs * 4096 + free / 32768 * 32768

/-- What a configuration request does to a ready function: the data read, and the device after. -/
def Dev.configOp (d : Dev) (n : Nat) : CfgOp → Nat × Dev
  | .readIds => (fnIds n, d)
  | .readClassRev => (0x12000000, d)
  | .readSubsystem => (fnIds n, d)
  | .readOther off =>
    (if off = 0 || off = 0x2C then fnIds n
     else if off = 8 then 0x12000000
     else if 0x10 ≤ off && off < 0x28 then d.barReg n ((off - 0x10) / 8) (off % 8 == 4)
     else Config.cfgDword n off % 2 ^ 32, d)
  | .readBar bar high => (d.barReg n bar.val high, d)
  | .writeBar bar high v => (0, d.setBar n bar.val high v.toNat)
  | .readDevCtl => (d.devCtl n, d)
  | .setMaxPayload code => (0, d.updFn n (fun f => { f with mps := code.val }))
  | .setMaxReadRequest code => (0, d.updFn n (fun f => { f with mrrs := code.val }))
  | .readAer => ((d.fn n).aer, d)
  | .clearAer bits => (0, d.updFn n (fun f => { f with aer := f.aer - (f.aer &&& bits.toNat) }))
  | .doe req => (0, if n = 0 then d.emit (.doe (Config.doeAnswer (req.map (·.toNat)))) else d)
  | .setBusMaster on => (0, d.updFn n (fun f => { f with busMaster := on }))
  | .setPasidEnable on => (0, d.updFn n (fun f => { f with pasidEn := on }))
  | .setMsixEnable on => (0, d.updFn n (fun f => { f with msixEn := on }))
  | .setVfEnable num => (0, if n = 0 then d.setVfs num.val else d)
  | .setD3hot on => (0, d.updFn n (fun f => { f with d3hot := on }))

/-- CONFIG_REQUEST. -/
def execConfigRequest (fn : FnId) (op : CfgOp) (s : State) : Host.Outcome State Fault Refusal :=
  onDev (fun d =>
    let n := fn.val
    if !d.linkUp || (d.boot.cfgOpen && !d.fnExists n) then d
    else if d.rrs n then d.emit (.cfgCompletion n true 0)
    else
      let (data, d) := d.configOp n op
      d.emit (.cfgCompletion n false data)) s

/-! ### BAR0 (Table 6.3, Table 5.6) -/

/-- A dword of a byte string. -/
def dwordAt (l : List Byte) (off : Nat) : Nat := leNat ((l.drop off).take 4)

/-- A byte string of the mailbox with a dword replaced. -/
def putDword (l : List Byte) (off v : Nat) : List Byte :=
  let full := (l ++ List.replicate 1040 0).take 1040
  full.take off ++ leBytes v 4 ++ full.drop (off + 4)

/-- The rings that a function owns (FN_RINGS); Beyby mode has none. -/
def Dev.fnRings (d : Dev) (n : Nat) : Nat :=
  if d.boot.beyby then 0 else (List.range 64).foldl (fun m k => if d.ringOwner k = n then m + 2 ^ k else m) 0

/-- A dword of the MSI-X table: address, data, vector control with its mask bit (R151). -/
def Fn.msixDword (f : Fn) (off : Nat) : Nat :=
  let e := f.msixTab.get (off / 16) {}
  if off % 16 = 0 then e.addr % 2 ^ 32
  else if off % 16 = 4 then e.addr / 2 ^ 32
  else if off % 16 = 8 then e.data
  else if bitAt f.unmasked (off / 16) then 0 else 1

/-- A register of BAR0; every other offset reads 0. -/
def Dev.bar0Read (d : Dev) (n off : Nat) : Nat :=
  let f := d.fn n
  if off = 0 then n + (if d.boot.complete then 256 else 0)
  else if off = 8 then d.stamp 128 % 2 ^ 32
  else if off = 0xC then f.tickHi
  else if off = 0x10 then d.fnRings n % 2 ^ 32
  else if off = 0x14 then d.fnRings n / 2 ^ 32
  else if off = 0x1004 then f.busy.toNat + 2 * f.done.toNat
  else if off = 0x1008 then f.irq.toNat
  else if 0x1010 ≤ off && off < 0x1420 then dwordAt f.req (off - 0x1010)
  else if 0x1420 ≤ off && off < 0x1830 then dwordAt f.rsp (off - 0x1420)
  else if 0x2000 ≤ off && off < 0x2200 then f.msixDword (off - 0x2000)
  else if off = 0x3000 then f.pba
  else 0

/-- GO is written (R121, R122): discarded while BUSY is set; otherwise the frame in MBX_REQ is submitted. -/
def Dev.mbxSubmit (d : Dev) (n : Nat) : Dev :=
  d.updFn n (fun f => if f.busy then f else { f with
    req := (f.req ++ List.replicate 1040 0).take 1040, rsp := (f.rsp ++ List.replicate 1040 0).take 1040
    busy := true, done := false })

/-- The mask bit of a vector is written (R151): a pending vector sends its message when it is unmasked. -/
def Dev.msixMask (d : Dev) (n v : Nat) (mask : Bool) : Dev :=
  let f := d.fn n
  let d := d.setFn n { f with unmasked := putBit f.unmasked v (!mask) }
  if !mask && f.msixEn && bitAt f.pba v then
    (d.updFn n (fun f => { f with pba := putBit f.pba v false })).emit (.msix n v)
  else d

/-- A dword of the MSI-X table is written. -/
def Dev.msixWrite (d : Dev) (n off v : Nat) : Dev :=
  let i := off / 16
  let put := fun (g : MsixEntry → MsixEntry) => d.updFn n (fun f => { f with msixTab := f.msixTab.put i (g (f.msixTab.get i {})) })
  if off % 16 = 0 then put (fun e => { e with addr := e.addr / 2 ^ 32 * 2 ^ 32 + (v - v % 4) })
  else if off % 16 = 4 then put (fun e => { e with addr := v * 2 ^ 32 + e.addr % 2 ^ 32 })
  else if off % 16 = 8 then put (fun e => { e with data := v })
  else d.msixMask n i (bitAt v 0)

/-- A register of BAR0 is written; writes of every other offset, of MBX_RSP and of MBX_REQ while BUSY is set are
discarded. -/
def Dev.bar0Write (d : Dev) (n off v : Nat) : Dev :=
  if off = 0x1000 then (if bitAt v 0 then d.mbxSubmit n else d)
  else if off = 0x1004 then (if bitAt v 1 then d.updFn n (fun f => { f with done := false }) else d)
  else if off = 0x1008 then d.updFn n (fun f => { f with irq := bitAt v 0 })
  else if 0x1010 ≤ off && off < 0x1420 then
    d.updFn n (fun f => if f.busy then f else { f with req := putDword f.req (off - 0x1010) v })
  else if 0x2000 ≤ off && off < 0x2200 then d.msixWrite n (off - 0x2000) v
  else d

/-! ### BAR2 (Table 6.4) and BAR4 -/

/-- A register of a doorbell page: DB_STATE for the ring's owner; everything else reads 0 (R134, log 106). -/
def Dev.bar2Read (d : Dev) (n off : Nat) : Nat :=
  let k := off / 4096
  if off % 4096 = 8 && d.ringOwner k = n && !d.boot.beyby then (d.ring k).sqHead * 65536 + (d.ring k).st.code else 0

/-- A doorbell is written. -/
def Dev.bar2Write (d : Dev) (n off v : Nat) : Dev :=
  if off % 4096 = 0 then d.sqTail n (off / 4096) v
  else if off % 4096 = 4 then d.cqHead n (off / 4096) v
  else d

/-- A CXL component register: the HDM decoder's base, size and control (R128, log 105). -/
def Dev.bar4Read (d : Dev) (off : Nat) : Nat :=
  let x := d.boot.hdmDec
  let at' := fun (i : Nat) => decide (off = Config.hdmDecoder + i)
  if at' 0x10 then x.base % 2 ^ 32
  else if at' 0x14 then x.base / 2 ^ 32
  else if at' 0x18 then x.size % 2 ^ 32
  else if at' 0x1C then x.size / 2 ^ 32
  else if at' 0x20 then (if x.on then 2 ^ 9 + 2 ^ 10 else 0)
  else Config.cxlDword off % 2 ^ 32

/-- The HDM decoder is programmed: one window, which must be of the carved size (R128, R130), until it is committed. -/
def Dev.bar4Write (d : Dev) (off v : Nat) : Dev :=
  let x := d.boot.hdmDec
  let at' := fun (i : Nat) => decide (off = Config.hdmDecoder + i)
  let put := fun (y : HdmDecoder) => { d with boot := { d.boot with hdmDec := y } }
  let page := v - v % 2 ^ 28
  if at' 0x20 then put { x with on := bitAt v 9 && (x.on || (x.size == d.boot.hdmGib * 2 ^ 30 && x.size != 0)) }
  else if x.on then d
  else if at' 0x10 then put { x with base := x.base / 2 ^ 32 * 2 ^ 32 + page }
  else if at' 0x14 then put { x with base := v * 2 ^ 32 + x.base % 2 ^ 32 }
  else if at' 0x18 then put { x with size := x.size / 2 ^ 32 * 2 ^ 32 + page }
  else if at' 0x1C then put { x with size := v * 2 ^ 32 + x.size % 2 ^ 32 }
  else d

/-! ### Accesses to the BARs -/

/-- An access is a whole, aligned dword (R133). -/
def dwordOk (off len : Nat) : Bool := len == 4 && off % 4 == 0

/-- What a read of a BAR of a function returns. -/
def Dev.barRead (d : Dev) (n : Nat) (r : BarRead) : Nat :=
  if !dwordOk r.off r.len then 0
  else match r.bar with
    | .bar0 => d.bar0Read n r.off
    | .bar2 => if r.off < 262144 then d.bar2Read n r.off else 0
    | .bar4 => if d.barSize n 2 = 0 then 0 else d.bar4Read r.off

/-- A write of a BAR of a function. -/
def Dev.barWrite (d : Dev) (n : Nat) (w : BarWrite) : Dev :=
  if !dwordOk w.off w.len then d
  else match w.bar with
    | .bar0 => d.bar0Write n w.off w.value.toNat
    | .bar2 => if w.off < 262144 then d.bar2Write n w.off w.value.toNat else d
    | .bar4 => if d.barSize n 2 = 0 then d else d.bar4Write w.off w.value.toNat

/-- An access to a function in D3hot is an Unsupported Request, which AER records (Table 6.1, log 10). -/
def Dev.unsupported (d : Dev) (n : Nat) : Dev :=
  if d.linkUp && d.boot.cfgOpen && d.fnExists n && (d.fn n).d3hot then d.updFn n (fun f => { f with aer := putBit f.aer 20 true })
  else d

/-- FN_TICK_LO_READ, and every other read of a BAR (log 106): a read of FN_TICK_LO latches FN_TICK_HI. -/
def execFnTickLoRead (a : FnRead) (s : State) : Host.Outcome State Fault Refusal :=
  onDev (fun d =>
    let n := a.fn.val
    let r := a.read
    if d.barOk n then
      let v := d.barRead n r
      let d := if r.bar == .bar0 && r.off == 8 && r.len == 4 then
          d.updFn n (fun f => { f with tickHi := d.stamp 128 / 2 ^ 32 })
        else d
      d.emit (.barRead n v)
    else d.unsupported n) s

/-- MSIX_UNMASK, and every other write of a BAR (log 106). -/
def execMsixUnmask (fn : FnId) (w : BarWrite) (s : State) : Host.Outcome State Fault Refusal :=
  onDev (fun d => if d.barOk fn.val then d.barWrite fn.val w else d.unsupported fn.val) s

/-- MBX_DONE_CLEAR (Table 5.6). -/
def execMbxDoneClear (fn : FnId) (s : State) : Host.Outcome State Fault Refusal :=
  onDev (fun d => if d.barOk fn.val then d.updFn fn.val (fun f => { f with done := false }) else d) s

/-- MBX_GO (R121, R122): the driver's writes of MBX_REQ, MBX_IRQ and GO. The first and the last are discarded while BUSY
is set. -/
def execMbxGo (fn : FnId) (request : List Byte) (irqEnable : Bool) (s : State) : Host.Outcome State Fault Refusal :=
  onDev (fun d =>
    let n := fn.val
    if d.barOk n then
      (d.updFn n (fun f => { f with
        req := if f.busy then f.req else (request ++ List.replicate 1040 0).take 1040, irq := irqEnable })).mbxSubmit n
    else d) s

end Sys2Proof.Machine
end

