-- ==== Sys2Proof/Machine/ErrCtl.lean ====
section
/-! DEFINITION. Control of the error rings, the board alert and test perturbation (R384, R386 to R388, R396 to R398). -/

namespace Sys2Proof.Machine

/-! ### Error rings -/

/-- ERR_RING_CTL ENABLE (R386): a zero base enters ERROR; SEQ starts at 1; tenant 0 receives the held FATAL records
first (R384). A ring that is already ENABLED takes only the IRQ bit. -/
def Dev.errEnable (d : Dev) (tenant : Nat) (irq : Bool) : Dev :=
  let r := d.errRing tenant
  if r.st == .enabled then d.setErrRing tenant { r with irq := irq }
  else
    let base := d.obj 0xA000 1 tenant
    if base = 0 then d.setErrRing tenant { r with st := .error, waiting := [] }
    else
      let d := d.setErrRing tenant
        { st := .enabled, irq := irq, base := base, size := d.obj 0xA000 2 tenant, pasid := d.obj 0xA000 3 tenant, seq := 0
          uncovered := none, waiting := [] }
      if tenant = 0 then d.postHeld else d

/-- ERR_RING_CTL DISABLE: what has not been written is lost. -/
def Dev.errDisable (d : Dev) (tenant : Nat) : Dev :=
  let r := d.errRing tenant
  let d := d.withdraw (fun q => q.same { errReq tenant with access := 1 })
  (d.setErrRing tenant { r with st := .disabled, waiting := [], uncovered := none }).bump 0xA004 0 tenant 32 r.waiting.length

/-- ERR_RING_ENABLE. -/
def execErrRingEnable (tenant : FnId) (irq : Bool) (s : State) : Host.Outcome State Fault Refusal :=
  onDev (fun d => if d.serving then d.errEnable tenant.val irq else d) s

/-- ERR_RING_DISABLE. -/
def execErrRingDisable (tenant : FnId) (s : State) : Host.Outcome State Fault Refusal :=
  onDev (fun d => if d.serving then d.errDisable tenant.val else d) s

/-- Moderation of the error-ring message by time (R387). -/
def Dev.errIrqCheck (d : Dev) (tenant : Nat) : Dev :=
  let r := d.errRing tenant
  match r.uncovered with
  | some t =>
    if d.serving && r.irq && Nat.ble (d.obj 0xA005 0 tenant) (d.since t) then
      (d.setErrRing tenant { r with uncovered := none }).msix tenant 1
    else d
  | none => d

/-- ERR_IRQ_TIMER (R387). -/
def execErrIrqTimer (tenant : FnId) (s : State) : Host.Outcome State Fault Refusal :=
  onDev (fun d => d.errIrqCheck tenant.val) s

/-- ERR_ALERT_CLEAR = 0x01 (R388). -/
def Dev.ackUnits (d : Dev) : Dev := { d with err := { d.err with unit := [] } }

/-- ERR_ALERT_CLEAR. -/
def execErrAlertClear (s : State) : Host.Outcome State Fault Refusal := onDev (fun d => if d.serving then d.ackUnits else d) s

/-! ### Test unlock -/

/-- The perturbation objects (Table 20.9). -/
def isPert (index : Nat) : Bool := Nat.ble 0xD010 index && Nat.ble index 0xD015

/-- TEST_UNLOCK = 0x01 where TEN_PERTURB_PERMIT allows it (R396, R397): occupancy reports carry TEST from now on. -/
def Dev.unlock (d : Dev) : Dev :=
  if d.obj 0x3804 0 0 = 1 then
    let d := { d with err := { d.err with unlockUntil := some (d.pwr.tick + d.obj 0xD001 0 0), testSeen := true } }
    d.boardSet { code := 0x49 }
  else d

/-- The unlock ends (R396): every perturbation object takes its default; flips that are still armed are disarmed. -/
def Dev.relock (d : Dev) : Dev :=
  if d.err.unlockUntil.isSome then
    ({ d with
      err := { d.err with unlockUntil := none }
      dict := d.dict.filter (fun e => !isPert (e.1 / 65536))
      mem := { d.mem with armed := [] }
      tiles := d.tiles.mapVal (fun x => { x with tbArm := [], asArm := [] }) }).boardClear 0x49
  else d

/-- TEST_UNLOCK_ACTIVATE. -/
def execTestUnlockActivate (s : State) : Host.Outcome State Fault Refusal := onDev (fun d => if d.serving then d.unlock else d) s

/-- TEST_UNLOCK_END. -/
def execTestUnlockEnd (s : State) : Host.Outcome State Fault Refusal := onDev (fun d => if d.live then d.relock else d) s

/-- TEST_UNLOCK_EXPIRY. -/
def execTestUnlockExpiry (s : State) : Host.Outcome State Fault Refusal :=
  onDev (fun d => if d.live && d.err.unlockUntil.any (fun t => Nat.ble t d.pwr.tick) then d.relock else d) s

/-- A legal value of PERT_ECC_FLIP (Table 20.9). -/
def Dev.flipOk (d : Dev) (v : Nat) : Bool :=
  let store := bitsAt v 126 2
  let off := bitsAt v 0 112
  store != 3 && Nat.ble 1 (bitsAt v 124 2) && Nat.ble (bitsAt v 124 2) 2 && bitsAt v 119 5 == 0 &&
    (if store = 0 then decide (off < 393216) else if store = 1 then decide (off < 2097152) else decide (off < d.hbmTop))

/-- Arm a flip for the next write of a word (R398, Table 20.8); for HBM the word is the 64-byte line. -/
def Dev.arm (d : Dev) (v : Nat) : Dev :=
  let store := bitsAt v 126 2
  let off := bitsAt v 0 112
  let t := bitsAt v 112 7
  let put := fun (l : List Arm) (w : Nat) => l.filter (fun a => a.word != w) ++ [(⟨w, bitsAt v 124 2⟩ : Arm)]
  if store = 2 then { d with mem := { d.mem with armed := put d.mem.armed (off / 64) } }
  else if store = 0 then d.updTile t (fun x => { x with tbArm := put x.tbArm (off / 16) })
  else d.updTile t (fun x => { x with asArm := put x.asArm (off / 8) })

/-- PERT_ECC_FLIP. -/
def execPertEccFlip (value : BitVec 128) (s : State) : Host.Outcome State Fault Refusal :=
  onDev (fun d =>
    let v := value.toNat
    if d.live && d.err.unlockUntil.isSome && d.flipOk v && (bitsAt v 126 2 == 2 || d.has (bitsAt v 112 7)) then d.arm v
    else d) s

end Sys2Proof.Machine
end

