-- ==== Sys2Proof/Machine/Meter.lean ====
section
/-! DEFINITION. The metrology die (chapter 19): measuring, substitution, over-temperature stop, apportionment, journal,
seal, parameters. The functions of `Gnt` are all that changes it (R357, R358). -/

namespace Sys2Proof.Machine

/-! ### Measured quantities (R362, R363) -/

/-- A 24-bit code (R362): the code -2^23 is never produced; an over-range code is clamped at the end of its side. -/
def meterCode (c : BitVec 24) (ovr : Bool) : Int :=
  let v := max (-(2 ^ 23 - 1 : Int)) c.toInt
  if ovr then (if v < 0 then -(2 ^ 23 - 1) else 2 ^ 23 - 1) else v

/-- Voltage of a code, in units of 80 V times 2^-53. -/
def Cal.volts (c : Cal) (code : Int) : Int := c.vgain * code + c.voff * 2 ^ 23

/-- Current of a code, in units of 50 A times 2^-53; the law of the shunt correction is not given (log 33): with ITC 0
there is none. -/
def Cal.amps (c : Cal) (a1 code : Int) : Int :=
  (if c.itc = 0 then c.igain else Config.shuntGain c.igain c.itc a1) * code + c.ioff * 2 ^ 23

/-- Power of a valid sample (R364) in units of 4000 W times 2^-106: zero below the starting current of 0.02 A, or when
negative. -/
def samplePower (v i : Int) : Nat := if i.natAbs * 2500 < 2 ^ 53 then 0 else (v * i).toNat

/-- Sixteen times the sample periods of one unit of energy: 2^-32 Wh in units of a sixteenth of a sample's power. -/
def energyDen : Nat := 14400 * 2 ^ 78

/-- Live voltage [mV], current [mA] and power [mW]: means over the last millisecond (Table 19.8). -/
def Gnt.liveValues (g : Gnt) : List Int :=
  let n := g.live.length
  if n = 0 then [0, 0, 0]
  else
    let v : Int := (g.live.map (fun (x : Int × Int) => x.1)).foldl (fun a b => a + b) 0
    let i : Int := (g.live.map (fun (x : Int × Int) => x.2)).foldl (fun a b => a + b) 0
    let p : Int := (g.live.map (fun (x : Int × Int) => x.1 * x.2)).foldl (fun a b => a + b) 0
    [rneDiv (80000 * v) (n * 2 ^ 53), rneDiv (50000 * i) (n * 2 ^ 53), rneDiv (4000000 * p) (n * 2 ^ 106)]

/-! ### Records (Table 19.5) -/

/-- The bytes of a record without its CRC. -/
def JRec.front (r : JRec) : List Byte :=
  leBytes (r.seq * 2 ^ 192 + r.metMs * 2 ^ 128 + r.audit * 2 ^ 96 + r.set * 2 ^ 64 + r.kind * 2 ^ 56 + r.flags * 2 ^ 48 +
    r.code * 2 ^ 32) 32 ++ ((r.body ++ List.replicate 160 0).take 160) ++ beBytes r.prev 48 ++ List.replicate 12 0

/-- The 256 bytes of a record. -/
def JRec.bytes (r : JRec) : List Byte := r.front ++ leBytes (crc32 r.front) 4

/-- The calibration block (Table 19.6). -/
def Cal.bytes (c : Cal) : List Byte :=
  leBytes (unsigned c.vgain 32) 4 ++ leBytes (unsigned c.voff 32) 4 ++ leBytes (unsigned c.igain 32) 4 ++
  leBytes (unsigned c.ioff 32) 4 ++ leBytes (unsigned c.itc 32) 4 ++ leBytes c.baseMw 4 ++ leBytes c.setPeriod 4 ++
  List.replicate 36 0

/-- A calibration block read from its bytes; none where it is no block of Table 19.6. -/
def calOf (b : List Byte) : Option Cal :=
  let w := fun k => leNat ((b.drop (4 * k)).take 4)
  let c : Cal := { vgain := signed (w 0) 32, voff := signed (w 1) 32, igain := signed (w 2) 32, ioff := signed (w 3) 32
                   itc := signed (w 4) 32, baseMw := w 5, setPeriod := w 6 }
  if b.length = 64 ∧ c.baseMw ≤ 1400000 ∧ 10 ≤ c.setPeriod ∧ c.setPeriod ≤ 900 ∧ (b.drop 28).all (fun x => x == 0) then some c
  else none

/-- An energy in Q31.32 as a register holds it: at its largest value it stays there (R242, log 31). -/
def q3132 (n : Nat) : Nat := Nat.min n (2 ^ 63 - 1)

/-- Body of a TOTALS record. -/
def GntRegs.totals (r : GntRegs) : List Byte :=
  leBytes (q3132 r.total) 8 ++ leBytes (q3132 r.unattr) 8 ++ leBytes (q3132 r.subst) 8 ++ leBytes (q3132 r.test) 8 ++ leBytes (r.unmeas / 16) 8 ++
  leBytes (r.ovr / 16) 8 ++ leBytes r.missed 4 ++ leBytes r.breaks 4 ++ leBytes r.powerUps 4 ++ leBytes r.watchdogs 4

/-- Body of a TENANTS record from the first tenant of its CODE. -/
def GntRegs.tenantBody (r : GntRegs) (first : Nat) : List Byte :=
  (List.range 20).flatMap (fun i => leBytes (if first + i < 64 then q3132 (r.tenants.get (first + i) 0) else 0) 8)

/-- The record belongs to a set. -/
def JReq.ofSet (q : JReq) : Bool := q.kind == 1 || q.kind == 2 || q.kind == 5

/-! ### Writing the journal (R371, R372) -/

/-- A record as it is when its write starts: SEQ, MET_MS, AUDIT, the seal flags, TEST, and PREV; a SIGN record signs
the digest of its predecessor. -/
def Gnt.make (g : Gnt) (q : JReq) : JRec :=
  { seq := g.seq + 1, metMs := g.met / 16, audit := g.audit, set := q.set, kind := q.kind
    flags := q.flags + g.testNow.toNat * 128 + g.coverOpen.toNat * 64 + g.traceBroken.toNat * 32
    code := q.code
    body := if q.kind = 5 then beBytes (Config.meterSign g.lastDigest) 96 else q.body
    prev := g.lastDigest }

/-- The next waiting record's write starts; during an over-temperature stop none does (R375). -/
def Gnt.startWrite (g : Gnt) : Gnt :=
  match g.writing, g.queued with
  | none, q :: rest => if g.mode == .overtemp then g else { g with writing := some ⟨q, g.make q⟩, queued := rest, retried := false }
  | _, _ => g

/-- A record is queued and written when its turn comes. -/
def Gnt.queue (g : Gnt) (q : JReq) : Gnt := { g with queued := g.queued ++ [q] }.startWrite

/-- An EVENT record (Table 19.7) with its VALUE and the second field of its body. -/
def Gnt.eventReq (g : Gnt) (code : Nat) (value : Nat) (second : Nat := 0) : JReq :=
  { kind := 3, code := code, flags := g.flagsSeen, body := leBytes value 8 ++ leBytes second 8 }

/-- Write an EVENT record. -/
def Gnt.event (g : Gnt) (code value : Nat) : Gnt := g.queue (g.eventReq code value)

/-- The six records of a set (R372), from the registers at one instant. -/
def Gnt.setReqs (g : Gnt) : List JReq :=
  let n := (g.setNo + 1) % 2 ^ 32
  let tenants := fun k => ({ kind := 2, set := n, code := k, flags := g.flagsSeen, body := g.regs.tenantBody k } : JReq)
  [{ kind := 1, set := n, flags := g.flagsSeen, body := g.regs.totals }, tenants 0, tenants 20, tenants 40, tenants 60,
   { kind := 5, set := n, flags := g.flagsSeen, regs := g.regs }]

/-- A set is snapshotted and queued; during a stop none is (R375). -/
def Gnt.queueSet (g : Gnt) : Gnt :=
  if g.mode == .overtemp then g
  else { g with queued := g.queued ++ g.setReqs, flagsSeen := 0 }.startWrite

/-- Slots of the journal (R372). -/
def journalSlots : Nat := 1048576

/-- A record stands in the journal: the chain goes on from it, the oldest is overwritten when the ring is full; a SIGN
record completes its set. -/
def Gnt.written (g : Gnt) (w : JWrite) : Gnt :=
  let j := g.journal ++ [w.record]
  let g := { g with
    journal := j.drop (j.length - journalSlots), seq := w.record.seq, lastDigest := beNat (sha384 w.record.bytes)
    writing := none, retried := false }
  if w.req.kind = 5 then { g with saved := w.req.regs, setNo := w.req.set, setFailed := false } else g

/-- The set being written is given up: its records leave the queue, its flags are seen again. -/
def Gnt.dropSet (g : Gnt) : Gnt :=
  let all := (g.writing.map (fun w => w.req)).toList ++ g.queued
  let fl := (all.filter JReq.ofSet).foldl (fun n q => n ||| q.flags) g.flagsSeen
  if all.any JReq.ofSet then { g with queued := g.queued.filter (fun q => !q.ofSet), flagsSeen := fl } else g

/-- A record write finishes (R372): verified; or retried once in the next slot; or given up, with GNT_JOURNAL. During
a stop a failed write is not retried (R375): an EVENT waits for the resumption. -/
def Gnt.writeDone (g : Gnt) (verified : Bool) : Gnt :=
  match g.writing with
  | none => g
  | some w =>
    if verified then (g.written w).startWrite
    else if g.mode == .overtemp then
      let g := if w.req.ofSet then g.dropSet else { g with queued := w.req :: g.queued }
      { g with writing := none, retried := false }
    else if g.retried then
      let g := if w.req.ofSet then g.dropSet else g
      { g with writing := none, retried := false, setFailed := true }.startWrite
    else { g with retried := true }

/-! ### Measuring -/

/-- A synchronising reset (R360): the next three outputs are SETTLE; no valid sample exists since it. -/
def Gnt.syncReset (g : Gnt) : Gnt :=
  { g with settle := 3, lastGood := [], delayed := g.delayed.map (fun (x : MSample) => { x with fresh := false }) }

/-- The accrual of one sample (R364, R367): a valid one adds its energy; another adds last-good power for at most 1 s
of its run, and unmeasured time after that, or at once without 16 valid samples since the last synchronising reset. -/
def Gnt.accrue (g : Gnt) (x : MSample) : Gnt :=
  if g.mode == .overtemp then { g with regs := { g.regs with unmeas := g.regs.unmeas + 1 }, flagsSeen := g.flagsSeen ||| 8, goodRun := 0 }
  else if x.valid then
    let n := g.remainder + 16 * x.num
    let run := g.goodRun + 1
    { g with
      mode := .measuring
      pendingE := g.pendingE + n / energyDen
      remainder := n % energyDen
      lastGood := if x.fresh then (x.num :: g.lastGood).take 16 else g.lastGood
      goodRun := run
      window := if g.window = 0 || Nat.ble 16 run then 0 else g.window + 1
      regs := { g.regs with ovr := g.regs.ovr + x.ovr.toNat }
      flagsSeen := if x.ovr then g.flagsSeen ||| 4 else g.flagsSeen }
  else if g.lastGood.length = 16 ∧ g.window < 16000 then
    let sum := g.lastGood.foldl (fun a b => a + b) 0
    let n := g.remainder + sum
    let s := g.substRem + sum
    { g with
      mode := .substituting
      pendingE := g.pendingE + n / energyDen
      remainder := n % energyDen
      substRem := s % energyDen
      regs := { g.regs with subst := g.regs.subst + s / energyDen }
      window := g.window + 1, goodRun := 0, flagsSeen := g.flagsSeen ||| 16 }
  else
    { g with
      mode := .unmeasured
      regs := { g.regs with unmeas := g.regs.unmeas + 1 }
      window := g.window + 1, goodRun := 0, flagsSeen := g.flagsSeen ||| 8 }

/-- The state that invalid samples bring at once (GNT_STATE). -/
def Gnt.invalidMode (g : Gnt) : GntMode :=
  if g.mode == .overtemp then .overtemp
  else if g.lastGood.length = 16 ∧ g.window < 16000 then .substituting else .unmeasured

/-- A new sample joins those not yet accrued; the one that ended two periods before is accrued (R364). -/
def Gnt.push (g : Gnt) (x : MSample) : Gnt :=
  match g.delayed with
  | a :: b :: rest => { g with delayed := b :: rest ++ [x] }.accrue a
  | l => { g with delayed := l ++ [x] }

/-- What a group of A0 conversions reads: a value from its smallest to its largest valid conversion; which one the spec
does not say (log 34). -/
def groupReading (l : List Int) : Int :=
  let lo := l.foldl min (l.getD 0 0)
  let hi := l.foldl max (l.getD 0 0)
  max lo (min hi (Config.auxGroup l))

/-- The stop at 125 °C (R375): a set in progress is given up; a write in progress completes. -/
def Gnt.overtemp (g : Gnt) (reading : Int) : Gnt :=
  { g.dropSet with mode := .overtemp, stopA0 := reading, a0Hot := 0, a0Cool := 0 }

/-- The resumption at 115 °C (R375): OVERTEMP and TEMP_NORMAL come first; the next set is due one period later. -/
def Gnt.resume (g : Gnt) (reading : Int) : Gnt :=
  let head := [g.eventReq 0x09 (unsigned g.stopA0 64), g.eventReq 0x0A (unsigned reading 64)]
  ({ g with mode := .unmeasured, queued := head ++ g.queued, sinceSet := 0, a0Hot := 0, a0Cool := 0 }).syncReset.startWrite

/-- A group of A0 has been read: two consecutive ones decide the stop and the resumption (R375; 1/16 °C). -/
def Gnt.a0Group (g : Gnt) (reading : Int) : Gnt :=
  let hot := if 2000 ≤ reading then g.a0Hot + 1 else 0
  let cool := if reading ≤ 1840 then g.a0Cool + 1 else 0
  let g := { g with a0Hot := hot, a0Cool := cool }
  if g.mode == .overtemp then (if 2 ≤ cool then g.resume reading else g)
  else if 2 ≤ hot then g.overtemp reading else g

/-- An AUX conversion (R361): 16 per input in turn, the first three after a switch or a synchronising reset discarded. -/
def Gnt.aux (g : Gnt) (a : AuxSample) : Gnt :=
  if a.input.val ≠ g.auxMux then g
  else
    let ok := Nat.ble 3 g.auxCount && g.settle == 0
    let g := if ok then
        (match a.input.val with
         | 0 => { g with auxGroup := g.auxGroup ++ [a.value] }
         | 1 => { g with a1 := a.value }
         | 2 => { g with a2 := a.value }
         | _ => { g with a3 := a.value })
      else g
    if g.auxCount < 15 then { g with auxCount := g.auxCount + 1 }
    else
      let l := g.auxGroup
      let g' := { g with auxCount := 0, auxMux := (g.auxMux + 1) % 4, auxGroup := [] }
      if g.auxMux = 0 ∧ l ≠ [] then g'.a0Group (groupReading l) else g'

/-- Energy accrued since the last complete set, pending energy included (R374). -/
def Gnt.sinceSaved (g : Gnt) : Nat := g.regs.total + g.pendingE - g.saved.total

/-- A power loss (R374): the write in progress completes, POWER_FAIL is written, the meter halts. -/
def Gnt.powerFail (g : Gnt) : Gnt :=
  let g := match g.writing with
    | some w => g.written w
    | none => g
  let second := if g.mode == .overtemp then unsigned g.stopA0 64 else 0
  let q := g.eventReq 0x02 (q3132 g.sinceSaved) second
  { g.written ⟨q, g.make q⟩ with powered := false, queued := [], delayed := [], live := [] }

/-- An output sample of V, I and AUX (R359 to R364, R374). -/
def Gnt.sample (g : Gnt) (v i : BitVec 24) (vOvr iOvr : Bool) (a : AuxSample) : Gnt :=
  if !g.powered then g
  else
    let ok := g.settle == 0 && g.openPairs == 0
    let g := ({ g with met := g.met + 1, sinceSet := g.sinceSet + 1 } : Gnt).aux a
    let nv := g.cal.volts (meterCode v vOvr)
    let ni := g.cal.amps g.a1 (meterCode i iOvr)
    let low := if g.settle == 0 && !bitAt g.openPairs 0 && decide (nv < 2 ^ 52) then g.lowV + 1 else 0
    let g := { g with
      lowV := low, settle := if ok then g.settle else g.settle - 1
      live := if ok then ((nv, ni) :: g.live).take 16 else g.live }
    if 2 ≤ low then g.powerFail
    else
      let ok := ok && g.mode != .overtemp
      g.push { num := if ok then samplePower nv ni else 0, valid := ok, ovr := ok && (vOvr || iOvr), fresh := g.settle == 0 }

/-- Bit of a sense pair. -/
def pairBit (p : Fin 2) : Nat := 2 ^ p.val

/-- An open sense pair is detected (R366): every sample not yet accrued is invalid. -/
def Gnt.senseOpen (g : Gnt) (p : Fin 2) : Gnt :=
  if !g.powered || bitAt g.openPairs p.val then g
  else
    let g := { g with
      openPairs := g.openPairs + pairBit p
      delayed := g.delayed.map (fun (x : MSample) => { x with num := 0, valid := false, ovr := false }) }
    { g with mode := g.invalidMode }.event 0x03 p.val

/-- A break is closed (R368): a synchronising reset; measurement resumes at the fourth output. -/
def Gnt.senseClosed (g : Gnt) (p : Fin 2) : Gnt :=
  if g.powered && bitAt g.openPairs p.val then
    let g := { g with openPairs := g.openPairs - pairBit p, regs := { g.regs with breaks := satAdd g.regs.breaks 1 32 } }
    { g.syncReset with mode := g.syncReset.invalidMode }.event 0x04 p.val
  else g

/-- 1 s of substitution has ended (R367). -/
def Gnt.substEnd (g : Gnt) : Gnt :=
  if g.powered && g.mode == .substituting && Nat.ble 16000 g.window then { g with mode := .unmeasured } else g

/-! ### Apportionment (R369, R370) -/

/-- A report is valid. Its CRC is that of Table 19.4: the channel holds the fields of a report as the hub sent it. -/
def OccReport.valid (r : OccReport) : Bool := r.weights.length == 64 && (!r.noTenant || r.weights.all (fun w => w == 0))

/-- Base energy of an interval given in sample periods, in units of 2^-32 Wh, to the nearest (R237, R369). -/
def baseEnergy (mw periods : Nat) : Nat := (rneDiv ((mw * periods * 625 * 2 ^ 32 : Nat) : Int) 36000000000000).toNat

/-- Energy `r` shared by the weights, tenant by tenant (R369). -/
def shares (r : Nat) (ws : List Nat) : List Nat :=
  let w := ws.foldl (fun a b => a + b) 0
  ws.map (fun x => r * x / w)

/-- Add a list of energies to the tenants from the given one on. -/
def addTenants (m : KMap Nat) : Nat → List Nat → KMap Nat
  | _, [] => m
  | n, x :: rest => addTenants (if x = 0 then m else m.put n (m.get n 0 + x)) (n + 1) rest

/-- The registers after the energy `e` of an interval is apportioned (R369). -/
def GntRegs.apportion (g : GntRegs) (e base : Nat) (r : OccReport) : GntRegs :=
  let b := Nat.min e base
  let sh := shares (e - b) r.weights
  let g := { g with test := if r.test then g.test + e else g.test, total := g.total + e }
  if r.weights.all (fun w => w == 0) then { g with unattr := g.unattr + e }
  else { g with
    tenants := addTenants g.tenants 0 sh
    unattr := g.unattr + (e - sh.foldl (fun a b => a + b) 0) }

/-- An occupancy report arrives (R369): one in the chain, within 20 ms, apportions; another sends the energy to
UNATTR_WH; an invalid one is discarded. -/
def Gnt.report (g : Gnt) (r : OccReport) : Gnt :=
  if !g.powered || !r.valid then g
  else
    let iv := g.met - g.reportAt
    let chain := g.lastReport.any (fun n => (n + 1) % 2 ^ 32 == r.seq) && Nat.ble iv 320
    let regs := if chain then g.regs.apportion g.pendingE (baseEnergy g.cal.baseMw iv) r
      else { g.regs with
        unattr := g.regs.unattr + g.pendingE, total := g.regs.total + g.pendingE, missed := satAdd g.regs.missed 1 32 }
    { g with regs := regs, pendingE := 0, lastReport := some r.seq, reportAt := g.met, testNow := r.test }

/-! ### Power-up, watchdog, seal, parameters -/

/-- VALUE of the POWER_FAIL record written after the last complete set, newest first; none where there is none. -/
def lastPowerFail : List JRec → Option Nat
  | [] => none
  | r :: rest => if r.kind = 5 then none else if r.kind = 3 ∧ r.code = 2 then some (leNat (r.body.take 8)) else lastPowerFail rest

/-- The registers restored from the latest complete set (R373); a later POWER_FAIL adds its VALUE to TOTAL_WH and
UNATTR_WH. -/
def Gnt.restored (g : Gnt) : GntRegs :=
  let e := (lastPowerFail g.journal.reverse).getD 0
  let r := g.saved
  { r with total := r.total + e, unattr := r.unattr + e, unmeas := r.unmeas / 16 * 16, ovr := r.ovr / 16 * 16 }

/-- Both seal sensors read (R22, R377): an EVENT for each change. -/
def Gnt.seal (g : Gnt) (cover trace : Bool) : Gnt :=
  let g := if cover == g.coverOpen then g
    else { g with coverOpen := cover }.event (if cover then 0x05 else 0x06) 0
  if trace == g.traceBroken then g
  else { g with traceBroken := trace }.event (if trace then 0x07 else 0x08) 0

/-- The meter powers up (R373): registers from the journal, POWER_UP, the seal tested, a synchronising reset. -/
def Gnt.powerUp (g : Gnt) (cover trace : Bool) : Gnt :=
  if g.powered then g
  else
    let r := g.restored
    let r := { r with powerUps := satAdd r.powerUps 1 32 }
    let g : Gnt := { g with
      powered := true, mode := .unmeasured, regs := r, pendingE := 0, remainder := 0, substRem := 0, testNow := false
      window := 0, goodRun := 0, openPairs := 0, lowV := 0, a0Hot := 0, a0Cool := 0, auxMux := 0, auxCount := 0
      auxGroup := [], delayed := [], writing := none, queued := [], retried := false, setFailed := false, sinceSet := 0
      flagsSeen := 0, lastReport := none, live := [] }
    (g.syncReset.event 0x01 r.powerUps).seal cover trace

/-- The watchdog restarts the meter firmware (R376): registers kept when their CRC checks, restored otherwise; samples
not yet accrued are invalid; a synchronising reset (R360). -/
def Gnt.watchdog (g : Gnt) (ramCrcOk : Bool) : Gnt :=
  if !g.powered then g
  else
    let g := if ramCrcOk then g
      else { g with regs := g.restored, pendingE := 0, remainder := 0, substRem := 0 }
    let n := satAdd g.regs.watchdogs 1 32
    let g := { g with
      regs := { g.regs with watchdogs := n }
      delayed := g.delayed.map (fun (x : MSample) => { x with num := 0, valid := false, ovr := false }) }.syncReset
    { g with mode := g.invalidMode }.event 0x0B n

/-- A seal sensor changes (R377). -/
def Gnt.sealChange (g : Gnt) (c : SealChange) : Gnt :=
  if !g.powered then g
  else match c with
    | .coverOpen => g.seal true g.traceBroken
    | .coverClosed => g.seal false g.traceBroken
    | .traceBroken => g.seal g.coverOpen true
    | .traceIntact => g.seal g.coverOpen false

/-- The conditions of R378 on a block or an image. -/
def Gnt.mayChange (g : Gnt) (b sig : List Byte) : Bool :=
  g.traceBroken && g.coverOpen && decide (g.audit < 2 ^ 32 - 1) &&
    ecdsaVerifies (beBytes Config.calKey 96) sig (sha384 (b ++ leBytes g.audit 4))

/-- WRITE_CAL (R378): AUDIT increments, PARAM and a new set are written, a synchronising reset follows. The Boolean is
the answer: accepted. -/
def Gnt.writeCal (g : Gnt) (b sig : List Byte) : Gnt × Bool :=
  match calOf b with
  | some c =>
    if g.mayChange b sig then
      let old := g.cal
      let g := { g with audit := g.audit + 1, cal := c }
      ((g.queue { kind := 4, code := 0, flags := g.flagsSeen, body := old.bytes ++ c.bytes }).queueSet.syncReset, true)
    else (g, false)
  | none => (g, false)

/-- WRITE_FW (R378): as WRITE_CAL, with the versions and no synchronising reset. -/
def Gnt.writeFw (g : Gnt) (image sig : List Byte) : Gnt × Bool :=
  if decide (image.length + sig.length ≤ 1048576) && g.mayChange image sig then
    let old := g.fwVersion
    let v := Config.imageVersion 2 image % 2 ^ 32
    let g := { g with audit := g.audit + 1, fwVersion := v }
    ((g.queue { kind := 4, code := 1, flags := g.flagsSeen, body := leBytes old 4 ++ leBytes v 4 }).queueSet, true)
  else (g, false)

/-! ### The meter port and the mirror channel (R379, R380) -/

/-- READ_LIVE (R379). -/
def Gnt.liveAnswer (g : Gnt) : List Byte :=
  g.liveValues.flatMap (fun x => leBytes (unsigned x 32) 4) ++ leBytes (g.met / 16) 8 ++
  leBytes (q3132 g.regs.total) 8 ++ leBytes (q3132 g.pendingE) 8 ++ leBytes g.audit 4 ++ leBytes g.seq 8 ++ List.replicate 16 0

/-- READ_RECORD (R379). -/
def Gnt.recordAnswer (g : Gnt) (seq : Nat) : List Byte :=
  match g.journal.find? (fun r => r.seq == seq) with
  | some r => r.bytes
  | none => List.replicate 256 0xFF

/-- GNT_STATE (Table 19.8). -/
def GntMode.code : GntMode → Nat
  | .measuring => 1
  | .substituting => 2
  | .unmeasured => 3
  | .overtemp => 4

/-- The meter's faults (Table 19.7): code, whether it holds, VALUE. -/
def Gnt.faults (g : Gnt) : List (Nat × Bool × Nat) :=
  [(0x44, g.openPairs != 0, if bitAt g.openPairs 0 then 0 else 1), (0x45, g.coverOpen || g.traceBroken, 0),
   (0x46, g.mode == .overtemp, unsigned g.stopA0 64), (0x47, g.setFailed, 0)]

/-- The hub takes the meter's faults from the mirror channel (R388): each is pending while it holds. -/
def Dev.meterFaults (d : Dev) (l : List (Nat × Bool × Nat)) : Dev :=
  l.foldl (fun (d : Dev) f =>
    if f.2.1 then d.boardSet { code := f.1, source := 0x88, detail := f.2.2 } else d.boardClear f.1) d

/-- The hub receives a message of the mirror channel while it is powered: GNT_MIRROR_LOST ends (R380). -/
def Dev.mirrorHeard (d : Dev) (l : List (Nat × Bool × Nat)) : Dev :=
  if d.live then
    ((({ d with mirror := { d.mirror with lastFrame := d.pwr.tick } }).boardClear 0x48).meterFaults l)
  else d

/-- The hub holds the record forwarded to it (R380). -/
def Dev.mirrorRecord (d : Dev) (r : JRec) : Dev :=
  if d.live then { d with mirror := { d.mirror with lastRecord := r.bytes, recordSeq := r.seq } } else d

/-- The hub takes a frame: live values and every register (R380). -/
def Dev.mirrorFrame (d : Dev) (g : Gnt) : Dev :=
  if d.live then
    ({ d with mirror := { d.mirror with
      st := g.mode.code, regs := g.regs, pendingE := g.pendingE, live := g.liveValues, audit := g.audit
      sealBits := g.coverOpen.toNat + 2 * g.traceBroken.toNat, cal := g.cal, fwVersion := g.fwVersion } }).mirrorHeard g.faults
  else d

/-- A change of the meter, and what the mirror channel carries of it at once: faults, and records newly written. -/
def State.meter (s : State) (f : Gnt → Gnt) : State :=
  let g := f s.gnt
  let new := g.journal.filter (fun r => decide (s.gnt.seq < r.seq))
  let d := new.foldl (fun (d : Dev) r => (d.mirrorHeard g.faults).mirrorRecord r) s.dev
  { s with gnt := g, dev := if g.faults == s.gnt.faults then d else d.mirrorHeard g.faults }

/-- The meter port answers private transfers: the 54 V input present, the meter powered (R23), a dynamic address
assigned (R41, log 6). -/
def State.meterPort (s : State) : Bool := s.gnt.powered && s.dev.pwr.v54 && s.met.addr != 0

/-- An answer on the meter port. -/
def State.meterAnswer (s : State) (f : Gnt → List Byte) : State :=
  if s.meterPort then { s with meterOut := s.meterOut ++ [f s.gnt] } else s

/-- METER_POWER_UP: the meter runs from the 54 V input alone (R23, R26). What the meter port held before a power loss (the
dynamic address, the enabled events, the length limits) it holds after it: the spec does not say (log 75). -/
def execMeterPowerUp (coverOpen traceBroken : Bool) (s : State) : Host.Outcome State Fault Refusal :=
  if s.dev.pwr.v54 then .next (s.meter (fun g => g.powerUp coverOpen traceBroken)) else .next s

/-- METER_SAMPLE. -/
def execMeterSample (v i : BitVec 24) (vOvr iOvr : Bool) (aux : AuxSample) (s : State) : Host.Outcome State Fault Refusal :=
  .next (s.meter (fun g => g.sample v i vOvr iOvr aux))

/-- SENSE_OPEN_DETECT. -/
def execSenseOpenDetect (pair : Fin 2) (s : State) : Host.Outcome State Fault Refusal :=
  .next (s.meter (fun g => g.senseOpen pair))

/-- SENSE_CLOSED. -/
def execSenseClosed (pair : Fin 2) (s : State) : Host.Outcome State Fault Refusal :=
  .next (s.meter (fun g => g.senseClosed pair))

/-- SUBSTITUTION_END. -/
def execSubstitutionEnd (s : State) : Host.Outcome State Fault Refusal := .next (s.meter Gnt.substEnd)

/-- The weights of a report (Table 19.4): tile-ticks held by each tenant in the interval. -/
def Dev.occWeights (d : Dev) : List Nat :=
  (List.range 64).map (fun n =>
    (d.tiles.foldl (fun a e => if e.2.owner == some n then a + d.heldTicks e.2 else a) (d.mirror.occAcc.get n 0)) % 2 ^ 32)

/-- The hub's next report: it names no tenant during boot and Beyby mode (R94). -/
def Dev.occReport (d : Dev) : OccReport :=
  let none := !d.boot.complete || d.boot.beyby
  { seq := d.mirror.occSeq, tick := d.stamp 128, noTenant := none, test := d.err.testSeen
    weights := if none then List.replicate 64 0 else d.occWeights }

/-- OCCUPANCY_REPORT_SEND: every 250,000 ticks while the hub runs. -/
def execOccupancyReportSend (s : State) : Host.Outcome State Fault Refusal :=
  let d := s.dev
  if d.live && Nat.ble 250000 (d.since d.mirror.occFrom) then
    .next { s with
      occChan := s.occChan ++ [d.occReport]
      dev := { d with
        mirror := { d.mirror with occSeq := (d.mirror.occSeq + 1) % 2 ^ 32, occFrom := d.pwr.tick, occAcc := [] }
        err := { d.err with testSeen := d.err.unlockUntil.isSome } } }
  else .next s

/-- OCCUPANCY_REPORT: the oldest report on the channel reaches the meter. -/
def execOccupancyReport (s : State) : Host.Outcome State Fault Refusal :=
  match s.occChan with
  | [] => .next s
  | r :: rest => .next ({ s with occChan := rest }.meter (fun g => g.report r))

/-- JOURNAL_SET_DUE: SET_PERIOD of MET time has passed (16,000 sample periods a second). -/
def execJournalSetDue (s : State) : Host.Outcome State Fault Refusal :=
  .next (s.meter (fun g =>
    if g.powered && Nat.ble (g.cal.setPeriod * 16000) g.sinceSet then { g with sinceSet := 0 }.queueSet else g))

/-- JOURNAL_WRITE_DONE. -/
def execJournalWriteDone (verified : Bool) (s : State) : Host.Outcome State Fault Refusal :=
  .next (s.meter (fun g => if g.powered then g.writeDone verified else g))

/-- METER_WATCHDOG. -/
def execMeterWatchdog (ramCrcOk : Bool) (s : State) : Host.Outcome State Fault Refusal :=
  .next (s.meter (fun g => g.watchdog ramCrcOk))

/-- COVER_SWITCH_CHANGE. -/
def execCoverSwitchChange (ch : SealChange) (s : State) : Host.Outcome State Fault Refusal :=
  .next (s.meter (fun g => g.sealChange ch))

/-- READ_RECORD. -/
def execReadRecord (seq : BitVec 56) (s : State) : Host.Outcome State Fault Refusal :=
  .next (s.meterAnswer (fun g => g.recordAnswer seq.toNat))

/-- READ_LIVE. -/
def execReadLive (s : State) : Host.Outcome State Fault Refusal := .next (s.meterAnswer Gnt.liveAnswer)

/-- READ_PUBKEY. -/
def execReadPubkey (s : State) : Host.Outcome State Fault Refusal :=
  .next (s.meterAnswer (fun _ => beBytes Config.meterKey 96))

/-- The answer of WRITE_CAL and WRITE_FW: 0 accepted, 1 refused. -/
def State.meterChange (s : State) (f : Gnt → Gnt × Bool) : State :=
  if s.meterPort then
    { s.meter (fun g => (f g).1) with meterOut := s.meterOut ++ [[if (f s.gnt).2 then (0 : Byte) else 1]] }
  else s

/-- WRITE_CAL. -/
def execWriteCal (block signature : List Byte) (s : State) : Host.Outcome State Fault Refusal :=
  .next (s.meterChange (fun g => g.writeCal block signature))

/-- WRITE_FW. -/
def execWriteFw (image signature : List Byte) (s : State) : Host.Outcome State Fault Refusal :=
  .next (s.meterChange (fun g => g.writeFw image signature))

/-- MIRROR_FRAME_SEND: 1 ms, 16 sample periods, after the last frame (R380). -/
def execMirrorFrameSend (s : State) : Host.Outcome State Fault Refusal :=
  if s.gnt.powered && s.gnt.lastFrame.all (fun t => Nat.ble 16 (s.gnt.met - t)) then
    .next { s with gnt := { s.gnt with lastFrame := some s.gnt.met }, dev := s.dev.mirrorFrame s.gnt }
  else .next s

/-- GNT_MIRROR_LOST: nothing received for 10 ms with the 54 V input present (R380). -/
def execGntMirrorLost (s : State) : Host.Outcome State Fault Refusal :=
  onDev (fun d =>
    if d.live && d.pwr.v54 && Nat.ble 250000 (d.since d.mirror.lastFrame) then
      ({ d with mirror := { d.mirror with st := 0 } }).boardSet { code := 0x48, source := 0x88 }
    else d) s

end Sys2Proof.Machine
end

