-- ==== Sys2Proof/Machine/Dict.lean ====
section
/-! DEFINITION. What the objects of the dictionary read, which values they take, what a write of each does at once (the
object tables of every chapter, their columns Meaning and Write while busy). -/

namespace Sys2Proof.Machine

/-! ### Values that an object shows (R12) -/

/-- Bits of a list of one-bit choices. -/
def bitsOf (l : List Bool) : Nat := l.zipIdx.foldl (fun n e => if e.1 then n + 2 ^ e.2 else n) 0

def SolvState.code : SolvState → Nat
  | .disabled => 0
  | .enabled => 1
  | .draining => 2
  | .error => 3

def ScoutState.code : ScoutState → Nat
  | .disabled => 0
  | .unverified => 1
  | .exactOnly => 2
  | .fitted => 3

def PortState.code : PortState → Nat
  | .down => 0
  | .training => 1
  | .up => 2
  | .off => 3

def ChanState.code : ChanState → Nat
  | .disabled => 0
  | .openSt => 1
  | .error => 2

def ErrState.code : ErrState → Nat
  | .disabled => 0
  | .enabled => 1
  | .error => 3

/-- Objects of chapter 03 that the device computes (Table 3.6). -/
def Dev.read03 (d : Dev) (i s : Nat) : Option Nat :=
  let chip := fun (c : Nat) => d.has (264 + c)
  match i with
  | 0x2000 => some d.pwr.tick
  | 0x2001 =>
    some (if s = 1 then 25000 else if !d.live then 0 else if s = 2 then d.clk.hub * 1000
      else if chip (s - 3) && !d.clk.chipLow.get (s - 3) false then d.fabMhz (s - 3) * 1000 else 0)
  | 0x2003 => some (d.limiter (s - 1))
  | 0x2011 => some (if !chip (s - 1) then 2 else if d.clk.chipLow.get (s - 1) false then 1 else 0)
  | 0x2012 =>
    some ((List.range 128).foldl (fun n t =>
      n + (if !d.tileOk t then 3 else match (d.tile t).power with
        | .run => 0
        | .idle => 1
        | .sleep => 2) * 4 ^ t) 0)
  | 0x2020 => match s with
    | 2 => some d.clk.means.inMv.toNat
    | 3 => some d.clk.means.inMa.toNat
    | 4 => some d.clk.means.inMw.toNat
    | 5 => some d.clk.means.avg100Mw.toNat
    | 8 => some (if d.pwr.aux then d.clk.means.auxMv.toNat else 0)
    | _ => none
  | 0x2030 => some (if s = 6 then unsigned (d.therm.aon.getD 0) 16 else unsigned (d.die (s - 1)).sample 16)
  | 0x2031 => some (d.die (s - 1)).state
  | 0x2035 => some d.boot.lastTrip
  | 0x2036 => some d.therm.faultBits
  | _ => none

/-- Objects of chapter 04 that the device computes (Table 4.7). LNK_HBM_STATE of a stack that no training has left a state
for reads 1, FAILED: the table gives it no default (log 107). -/
def Dev.read04 (d : Dev) (i s : Nat) : Option Nat :=
  let b := d.boot
  match i with
  | 0x1F00 => some (if s = 1 then b.stage else if b.beyby then 2 else if b.complete then 1 else 0)
  | 0x1F01 => some b.complete.toNat
  | 0x1F02 => some (b.stageTicks.get (s - 1) 0)
  | 0x1F10 => some b.cause
  | 0x1F11 => some b.count
  | 0x1F13 => some b.lastFail
  | 0x1F18 =>
    some (d.pwr.straps.bootSafe.toNat * 64 + d.pwr.straps.hostSel.toNat * 32 + d.pwr.straps.slotId.toNat)
  | 0x1F20 => some b.lock.toNat
  | 0x1F30 =>
    let ver := fun (x : FwSlot) => if x.valid then x.version else 0
    if s = 3 then some b.slot else if s = 4 then some (ver b.slotA) else if s = 5 then some (ver b.slotB) else none
  | 0x1F40 => if s = 1 then some b.fuses else if s = 2 then some b.active else none
  | 0x2400 => some (if s = 1 then b.rstCause else if s = 2 then b.rstTick else b.rstWarm)
  | 0x2410 => some (b.hbmState.get (s - 1) 1)
  | 0x2411 => some (b.hbmMbps.get (s - 1) 0)
  | 0x2420 => some (b.width (s - 1))
  | 0x2430 => some (if s = 1 then b.pcieGen else if s = 2 then b.pcieLanes else if s = 3 then b.cxl else b.rrsTicks)
  | _ => none

/-- SFU_TABLE_INFO and SFU_PROG_INFO (Table 14.7). -/
def Dev.sfuInfo (d : Dev) (tenant : Nat) (prog : Bool) (slot : Nat) : Nat :=
  let x : SfuSlot := d.sfu.get (sfuKey tenant prog slot) {}
  let st := if x.retaining then 2 else if x.cur.isSome then 1 else 0
  match x.cur.bind (fun g => x.held.find? (fun h => h.gen == g)) with
  | some h =>
    let crc := leNat (h.bytes.take 4)
    if prog then h.gen % 2 ^ 32 * 2 ^ 96 + progSteps h.bytes * 2 ^ 89 + st * 2 ^ 87 + crc
    else
      let t := tabOf h.bytes
      h.gen % 2 ^ 32 * 2 ^ 96 + h.bytes.length * 2 ^ 64 + t.fin * 2 ^ 60 + t.fout * 2 ^ 56 + st * 2 ^ 54 + crc
  | none => if prog then st * 2 ^ 87 else st * 2 ^ 54

/-- The units of the engines that the device computes (chapters 06 to 08, 12, 14 to 17, 20). -/
def Dev.readUnit (d : Dev) (i s t : Nat) : Option Nat :=
  match i with
  | 0x3000 => if s = 2 then some d.numVfs else none
  | 0x3001 => if s = 2 then some d.boot.hdmGib else none
  | 0x3021 => some (d.ring (s - 1)).st.code
  | 0x3022 => some (d.ring (s - 1)).sqHead
  | 0x3023 => some (d.ring (s - 1)).cqTail
  | 0x3024 => some (d.ring (s - 1)).done
  | 0x3801 => some d.rotRegions
  | 0x3810 => some 0
  | 0x3820 => some (bitsOf ((List.range 64).map d.fnExists))
  | 0x3823 => some (d.tilesHeld t)
  | 0x3841 => some (d.core (s - 1)).st
  | 0x4012 =>
    let g := d.boot.hdmGib * 2 ^ 30
    some (d.hbmTop * 2 ^ 192 + (if g = 0 then 0 else d.hbmTop - g) * 2 ^ 128 + hostBase * 2 ^ 64 + 2 ^ 55)
  | 0x6020 =>
    some (if s = 1 then (d.kv.seqs.filter (fun e => e.2.tenant == t)).length
      else if s = 2 then d.hbmUsed t else if s = 3 then d.hostUsed t else d.poolUsed t)
  | 0x7011 => some (d.sfuInfo t false s)
  | 0x7021 => some (d.sfuInfo t true s)
  | 0x7803 => some (d.array (s - 1)).st.code
  | 0x7804 => some (d.array (s - 1)).suspect
  | 0x7805 => some (d.array (s - 1)).lastFit
  | 0x7C15 => some (d.slot (s - 1)).st.code
  | 0x7C16 => some (d.slot (s - 1)).ci
  | 0x8002 => some (d.port (s - 1)).code
  | 0x8022 => some (d.peer (s - 1)).st
  | 0x8039 => some (d.chan (s - 1)).st.code
  | 0xA002 => some (d.errRing t).st.code
  | 0xA003 => some (d.errRing t).seq
  | 0xA020 => some d.alertPending
  | 0xD002 => some d.err.unlockUntil.isSome.toNat
  | _ => none

/-- A record as it reads to another than tenant 0: a TENANTS record with an empty body (Table 19.8). -/
def maskRecord (ten0 : Bool) (b : List Byte) : List Byte :=
  if !ten0 && byteAt b 7 == 2 then b.take 32 ++ List.replicate 160 0 ++ b.drop 192 else b

/-- The metrology mirror (Table 19.8). -/
def Dev.readMeter (d : Dev) (i s t : Nat) (ten0 : Bool) : Option Nat :=
  let m := d.mirror
  let r := m.regs
  match i with
  | 0x9000 => some m.st
  | 0x9001 =>
    some (q3132 (if s = 1 then r.total else if s = 2 then r.unattr else if s = 3 then r.subst else if s = 4 then r.test
      else m.pendingE))
  | 0x9002 => some (q3132 (r.tenants.get t 0))
  | 0x9003 => some (unsigned (m.live.getD (s - 1) 0) 32)
  | 0x9004 =>
    some (if s = 1 then r.unmeas / 16 else if s = 2 then r.ovr / 16 else if s = 3 then r.missed else if s = 4 then r.breaks
      else if s = 5 then r.powerUps else r.watchdogs)
  | 0x9005 => some m.audit
  | 0x9006 => some m.sealBits
  | 0x9007 => some (leNat m.cal.bytes)
  | 0x9008 => some (if s = 0 then leNat (maskRecord ten0 m.lastRecord) else m.recordSeq)
  | 0x9009 => some m.fwVersion
  | 0x900A => some (leNat (beBytes Config.meterKey 96))
  | 0x900B => some (Nat.min (d.since m.lastFrame) (2 ^ 32 - 1))
  | _ => none

/-- Who asks: role (COMM_ROLE), tenant of role TENANT, firmware path, tenant 0 (Table 19.8). -/
structure Who where
  caller : Caller
  role : Nat
  tenant : Nat
  fw : Bool
  ten0 : Bool
deriving DecidableEq, Repr

/-- Identity and communication objects that the device computes (Table 5.7). -/
def Dev.read05 (d : Dev) (w : Who) (i s : Nat) : Option Nat :=
  match i with
  | 0x1001 => some 0x4101
  | 0x1002 => some (Config.serial % 2 ^ 128)
  | 0x1100 => if s = 1 then some d.srv.sessions.length else none
  | 0x1101 => some (if s = 1 then d.srv.eidI3c else if s = 2 then d.srv.eidVdm else d.mgt.addr.toNat)
  | 0x1121 => some w.role
  | _ => none

/-- The value that a read returns. -/
def Dev.readObj (d : Dev) (w : Who) (i s t : Nat) : Nat :=
  ((d.read03 i s).orElse (fun _ => (d.read04 i s).orElse (fun _ => (d.read05 w i s).orElse (fun _ =>
    (d.readUnit i s t).orElse (fun _ => d.readMeter i s t w.ten0))))).getD (d.obj i s t)

/-! ### Legal values (R11) -/

/-- The value that stands once the given writes have taken effect (R112). -/
def Dev.view (d : Dev) (ov : KMap Nat) (i s t : Nat) : Nat := (KMap.find ov (okey i s t)).getD (d.obj i s t)

def within (lo hi v : Nat) : Bool := Nat.ble lo v && Nat.ble v hi

/-- A map of BOOT_UNITS_OPER_OFF: no reserved bit, not K0. -/
def unitMapOk (v : Nat) : Bool :=
  bitsAt v 269 3 == 0 && !bitAt v 272 && bitsAt v 294 26 == 0

/-- The tenant has a live sequence. -/
def Dev.liveSeqs (d : Dev) (t : Nat) : Bool := d.kv.seqs.any (fun e => e.2.tenant == t)

/-- A sequence range that stands after a write: inside the numbers, no overlap with another tenant's, every live
sequence in it (Table 12.7). -/
def Dev.seqRangeOk (d : Dev) (ov : KMap Nat) (t : Nat) : Bool :=
  let b := d.view ov 0x6017 0 t
  let c := d.view ov 0x6018 0 t
  Nat.ble (b + c) 65536 &&
  (List.range 64).all (fun u =>
    let b' := d.view ov 0x6017 0 u
    let c' := d.view ov 0x6018 0 u
    u == t || c == 0 || c' == 0 || Nat.ble (b + c) b' || Nat.ble (b' + c') b) &&
  d.kv.seqs.all (fun e => e.2.tenant != t || (Nat.ble b e.1 && decide (e.1 < b + c)))

/-- RING_RESERVED_TILES: at most 8, and 16 over all rings (R147). -/
def Dev.reservedOk (d : Dev) (ov : KMap Nat) (s v : Nat) : Bool :=
  Nat.ble v 8 && Nat.ble ((List.range 64).foldl (fun n k => n + (if k + 1 = s then v else d.view ov 0x301D (k + 1) 0)) 0) 16

/-- SCOUT_TENANT_ARRAYS: present arrays, none of another tenant (Table 15.6). -/
def Dev.arraysOk (d : Dev) (ov : KMap Nat) (t v : Nat) : Bool :=
  (List.range 128).all (fun a => !bitAt v a ||
    (d.has (128 + a) && (List.range 64).all (fun u => u == t || !bitAt (d.view ov 0x7801 0 u) a)))

/-- Legal values of chapters 03 to 06. -/
def Dev.ok03 (d : Dev) (ov : KMap Nat) (i s v : Nat) : Option Bool :=
  match i with
  | 0x2002 => some (if s = 1 then within 400 2000 v && v % 50 == 0 else within 800 3200 v && v % 100 == 0)
  | 0x2010 => some (if s = 3 then Nat.ble v 32 else Nat.ble 250 v)
  | 0x2020 => some (within 600 1400 v)
  | 0x2034 => some (within 400 1950 v && v % 50 == 0)
  | 0x1F01 => some (v == 1)
  | 0x1F12 => some (v == 1)
  | 0x1F30 => some (Nat.ble v 1)
  | 0x1F40 => some (unitMapOk v)
  | 0x2401 => some (within 1 2 v)
  | 0x2402 => some (Nat.ble v 127)
  | 0x1100 => some (Nat.ble 25000000 v)
  | 0x1120 =>
    let b := leBytes v 96
    some (keyOk (beNat (b.take 48)) (beNat (b.drop 48)))
  | 0x3001 => some (Nat.ble v 64)
  | 0x3002 => some (Nat.ble 25000 v)
  | 0x3010 => some (Nat.ble v 63)
  | 0x3013 => some (within 6 16 v)
  | 0x3014 => some (Nat.ble v 0xFFFFF)
  | 0x3015 => some (Nat.ble v 7)
  | 0x3016 => some (within 1 16 v)
  | 0x3017 => some (within 1 2 v)
  | 0x3018 => some (within 1 3 v)
  | 0x3019 => some (Nat.ble 2500 v)
  | 0x301A => some (within 2 31 v)
  | 0x301B => some (within 1 (2 ^ d.view ov 0x3013 s 0) v)
  | 0x301C => some (Nat.ble v 25000000)
  | 0x301D => some (d.reservedOk ov s v)
  | 0x3020 => some (within 1 3 v)
  | _ => none

/-- Legal values of chapters 07 to 10, 13. -/
def Dev.ok07 (d : Dev) (i s v : Nat) : Option Bool :=
  match i with
  | 0x4001 => some (within 1 (if s = 1 then 8 else 24) v)
  | 0x4002 => some (within 2500 25000000 v)
  | 0x4003 => some (within 500 250000 v)
  | 0x4010 => some (d.pasidTableOk v)
  | 0x4011 => some (Nat.ble v 20)
  | 0x3800 => some (d.rotBaseOk v d.carve)
  | 0x3802 => some (coreMapOk v)
  | 0x3803 => some (Nat.ble v 1)
  | 0x3804 => some (Nat.ble v 1)
  | 0x3810 => some (d.rotRangeOk (v % 2 ^ 32) (v / 2 ^ 32))
  | 0x3821 => some (Nat.ble v 128)
  | 0x3822 => some (Nat.ble v 65536)
  | 0x3842 => some (within 1 2 v)
  | 0x5001 => some (Nat.ble v 1)
  | 0x5801 => some (within 2500000 250000000 v)
  | 0x6801 => some (Nat.ble v 100)
  | _ => none

/-- Legal values of chapters 12, 14 and 15. -/
def Dev.ok12 (d : Dev) (ov : KMap Nat) (i s t v : Nat) : Option Bool :=
  let mb := v % 2097152 == 0
  let cur := d.obj i s t
  let same := !d.liveSeqs t || v == cur
  match i with
  | 0x6010 => some (Nat.ble v 0xFFFFF && same)
  | 0x6011 => some (mb && canonical v 57 && same)
  | 0x6012 => some (mb && (!d.liveSeqs t || Nat.ble cur v))
  | 0x6013 => some mb
  | 0x6014 => some (mb && decide (v < 2 ^ 55) && same)
  | 0x6015 => some (mb && (!d.liveSeqs t || Nat.ble cur v))
  | 0x6017 => some (d.seqRangeOk ov t)
  | 0x6018 => some (Nat.ble v 65536 && d.seqRangeOk ov t)
  | 0x7030 => some (!bitAt v 7 && Nat.ble (bitsAt v 4 3) 1 && !bitAt v 3 && bitsAt v 0 3 != 0)
  | 0x7801 => some (d.arraysOk ov t v)
  | 0x7802 => some (Nat.ble v 1)
  | 0x7810 => some (within 8 512 v)
  | 0x7811 => some (within 50 200 v)
  | 0x7812 => some (Nat.ble 25000000 v)
  | 0x7813 => some (within 16 640 v)
  | 0x7820 => some (Nat.ble v 1)
  | 0x7821 => some (Nat.ble v 1)
  | _ => none

/-- Legal values of chapters 16, 17 and 20. -/
def Dev.ok16 (d : Dev) (ov : KMap Nat) (i s v : Nat) : Option Bool :=
  match i with
  | 0x7C01 => some (within 1 0x01000000 v && Nat.ble v (d.view ov 0x7C02 0 0))
  | 0x7C02 => some (within (d.view ov 0x7C01 0 0) 0x10000000 v)
  | 0x7C03 => some (within 2500 12500 v)
  | 0x7C04 => some (within 250 250000 v)
  | 0x7C10 =>
    some (Nat.ble v 63 && (s != 1 || v == 0) && ((d.slot (s - 1)).st == .disabled || v == d.obj 0x7C10 s 0))
  | 0x7C11 => some (v % 64 == 0)
  | 0x7C12 => some (Nat.ble v 0xFFFFF)
  | 0x7C13 => some (within 4 12 v)
  | 0x7C14 => some (within 1 4 v)
  | 0x8001 => some (Nat.ble v 1)
  | 0x8010 => some (Nat.ble 1024 v)
  | 0x8012 => some (Nat.ble v 31)
  | 0x8013 => some (v == 1024 || v == 2048 || v == 4096)
  | 0x8014 => some (within 25 250000 v)
  | 0x8015 => some (within 1 31 v)
  | 0x8016 => some (within 16 4096 v)
  | 0x8021 => some (!bitAt v 7 && !bitAt v 3 && bitsAt v 0 3 != 6 && bitsAt v 4 3 != 6)
  | 0x8030 => some (Nat.ble v 63 && ((d.chan (s - 1)).st == .disabled || v == d.obj 0x8030 s 0))
  | 0x8031 => some (bitsAt v 13 3 == 0 && bitsAt v 6 2 == 0)
  | 0x8032 => some (Nat.ble v 63 || v == 255)
  | 0x8033 => some (Nat.ble v 0xFFFFF)
  | 0x8034 => some (v % 64 == 0)
  | 0x8035 => some (within 4 12 v)
  | 0x8036 => some (v % 64 == 0)
  | 0x8037 => some (Nat.ble v (2 ^ 40))
  | 0x8038 => some (within 1 2 v)
  | 0xA000 => some (if s = 1 then v % 64 == 0 else if s = 2 then within 6 16 v else Nat.ble v 0xFFFFF)
  | 0xA001 => some (Nat.ble v 3)
  | 0xA005 => some (Nat.ble v 25000000)
  | 0xA021 => some (v == 1)
  | 0xA030 => some (within 25 25000 v)
  | 0xD000 => some (Nat.ble v 1)
  | 0xD001 => some (Nat.ble 25000000 v)
  | 0xD010 => some (Nat.ble v 2500000)
  | 0xD011 => some (Nat.ble v 90)
  | 0xD012 => some (Nat.ble v 25000)
  | 0xD013 => some (d.flipOk v)
  | 0xD014 => some (decide (-512 ≤ signed v 16) && decide (signed v 16 ≤ 512))
  | _ => none

/-- A value that the object takes (R11). -/
def Dev.valueOk (d : Dev) (ov : KMap Nat) (i s t v : Nat) : Bool :=
  ((d.ok03 ov i s v).orElse (fun _ => (d.ok07 i s v).orElse (fun _ => (d.ok12 ov i s t v).orElse (fun _ =>
    d.ok16 ov i s v)))).getD true

/-! ### What a write does (R124) -/

/-- Restart the dwell timer of each idle tile (Table 3.6). -/
def Dev.restartDwell (d : Dev) : Dev :=
  { d with tiles := ((List.range 128).filter d.has).foldl (fun m t =>
      if (d.tile t).power == .idle then m.put t { d.tile t with idleSince := d.pwr.tick } else m) d.tiles }

/-- THM_PEAK_TEMP takes the current sample of the die, whatever value is written (R63, Table 3.6). -/
def Dev.peakReset (d : Dev) (n : Nat) : Dev := d.setObj 0x2032 (n + 1) 0 (unsigned (d.die n).sample 16)

/-- KV_HBM_QUOTA below KV_HBM_USED starts background eviction (R257). -/
def Dev.quotaWrite (d : Dev) (t v : Nat) : Dev :=
  let d := d.setObj 0x6013 0 t v
  if v < d.hbmUsed t then d.evict t else d

/-- SCOUT_ENABLE through a request: whether the check of an array passes is the array's own (log 20). -/
def Dev.scoutEnableWrite (d : Dev) (a v : Nat) : Dev :=
  let (c, d) := d.freeBelow 2
  d.scoutEnable a (v == 1) (c == 1)

/-- Control objects (RING_CTL, SOLV_SLOT_CTL, SCALE_CH_CTL, ERR_RING_CTL, TEN_POLICY_CTL, RST_TILE, TEST_UNLOCK ...) and
objects with an effect of their own; every other object stores its value. -/
def Dev.applyWrite (d : Dev) (i s t v : Nat) : Dev :=
  match i with
  | 0x2010 =>
    let d := d.setObj i s t v
    if s = 1 then d.restartDwell
    else if s = 2 then { d with clk := { d.clk with
      chipIdleSince := (List.range 4).foldl (fun m c => m.put c d.pwr.tick) d.clk.chipIdleSince } }
    else d.keepAwake
  | 0x301D => (d.setObj i s t v).keepAwake
  | 0x3015 => (d.setObj i s t v).keepAwake
  | 0x2032 => d.peakReset (s - 1)
  | 0x1F01 => d.completeBoot
  | 0x1F12 => d.failClear
  | 0x2402 => if (d.tile v).resetting then d else d.resetTile v
  | 0x1100 =>
    let d := d.setObj i s t v
    { d with srv := { d.srv with sessions := d.srv.sessions.mapVal (fun x => { x with lastUse := d.pwr.tick }) } }
  | 0x301B => (d.setObj i s t v).irqCheck (s - 1)
  | 0x301C => (d.setObj i s t v).irqCheck (s - 1)
  | 0x3020 => if v = 1 then d.ringEnable (s - 1) else if v = 2 then d.ringDrain (s - 1) else d.ringAbort (s - 1)
  | 0x3842 => if v = 1 then d.policyStart (s - 1) else d.policyStop (s - 1)
  | 0x4010 => d.setPasid i t v
  | 0x4011 => d.setPasid i t v
  | 0x5001 => d.tileEnable (s - 1) (v == 1)
  | 0x6013 => d.quotaWrite t v
  | 0x7030 => d.sfuUnload t (bitAt v 4) (bitsAt v 0 3)
  | 0x7801 => d.tenantArraysWrite t v
  | 0x7802 => d.scoutEnableWrite (s - 1) v
  | 0x7810 => d.guardWrite v
  | 0x7C14 =>
    if v = 1 then d.slotEnable (s - 1) else if v = 2 then d.slotDisable (s - 1)
    else if v = 3 then d.slotAbort (s - 1) else d.slotPoll (s - 1)
  | 0x8001 => d.portEnable (s - 1) (v == 1)
  | 0x8038 => if v = 1 then d.chanEnable (s - 1) else d.chanDisable (s - 1)
  | 0xA001 => if bitAt v 0 then d.errEnable t (bitAt v 1) else d.errDisable t
  | 0xA005 => (d.setObj i s t v).errIrqCheck t
  | 0xA021 => d.ackUnits
  | 0xD000 => if v = 1 then d.unlock else d.relock
  | 0xD013 => d.arm v
  | _ => d.setObj i s t v

/-- THM_PEAK_TEMP is written: the write is UNAVAILABLE while the hub is off and in Beyby mode (R93). -/
def execThmPeakTemp (die : Die) (s : State) : Host.Outcome State Fault Refusal :=
  onDev (fun d => if d.live && !d.boot.beyby then d.peakReset (dieNum die) else d) s

/-- KV_HBM_QUOTA is written. -/
def execKvHbmQuota (tenant : FnId) (value : BitVec 64) (s : State) : Host.Outcome State Fault Refusal :=
  onDev (fun d => if d.serving && value.toNat % 2097152 == 0 then d.quotaWrite tenant.val value.toNat else d) s

end Sys2Proof.Machine
end

