-- ==== Sys2Proof/Machine/JtagI3c.lean ====
section
/-! DEFINITION. Boundary scan (R42 to R46) and the I3C common command codes (R41). -/

namespace Sys2Proof.Machine

/-- Load an instruction while the AON domain is powered: EXTEST, HIGHZ and CLAMP act as BYPASS while PERST_N is
deasserted (R43). -/
def Dev.jtagLoad (d : Dev) (op : BitVec 8) (eff : JtagIr) : Dev :=
  if d.pwr.aon then { d with jtag := { d.jtag with
      ir := op, eff := eff, bypassReg := if eff == .bypass || eff == .highz || eff == .clamp then false else d.jtag.bypassReg } }
  else d

/-- What drives the chain's pins (Table 2.8): the module, the boundary register under EXTEST and CLAMP, nothing under
HIGHZ. -/
inductive PinDrive where
  | mission
  | boundary (pins : BitVec 14)
  | floating
deriving DecidableEq, Repr

/-- The drive of the pins by the instruction in effect. -/
def Dev.pinDrive (d : Dev) : PinDrive :=
  match d.jtag.eff with
  | .extest | .clamp => .boundary d.jtag.boundary
  | .highz => .floating
  | _ => .mission

/-- An instruction that is effective only while PERST_N is asserted (Table 2.8). One loaded while PERST_N is deasserted
stays BYPASS until it is loaded again (R43, log 56). -/
def Dev.jtagPins (d : Dev) (op : BitVec 8) (eff : JtagIr) : Dev := d.jtagLoad op (if d.pwr.perst then eff else .bypass)

/-- Test-logic reset: IDCODE is loaded (R42, Table 2.8). -/
def execJtagTapReset (s : State) : Host.Outcome State Fault Refusal := onDev (fun d => d.jtagLoad 0x01 .idcode) s

/-- EXTEST (R43, R46). -/
def execJtagExtest (s : State) : Host.Outcome State Fault Refusal := onDev (fun d => d.jtagPins 0x00 .extest) s

/-- IDCODE reads 0x1A47_C0E5 (R45). -/
def execJtagIdcode (s : State) : Host.Outcome State Fault Refusal :=
  onDev (fun d => if d.pwr.aon then (d.jtagLoad 0x01 .idcode).emit (.jtag 0x1A47C0E5) else d) s

/-- SAMPLE/PRELOAD captures the chain of R46: PERST_N, PWR_EN, MOD_PWR_OK, THERMTRIP_N, ALERT_N in bits 0 to 4, the
straps from bit 5, MGT_SCL and MGT_SDA in bits 12 and 13 (the order is the model's, log 56). What is shifted in is
preloaded into the update stage of the boundary register. -/
def execJtagSamplePreload (straps : Straps) (lines : I3cLines) (shiftIn : BitVec 14) (s : State) :
    Host.Outcome State Fault Refusal :=
  onDev (fun d =>
    if d.pwr.aon then
      let n := (!d.pwr.perst).toNat + d.pwr.pwrEn.toNat * 2 + d.pwr.modPwrOk.toNat * 4 + (!d.pwr.thermtrip).toNat * 8 +
        (!d.alertAsserted).toNat * 16 + straps.slotId.toNat * 32 + straps.hostSel.toNat * 1024 +
        straps.bootSafe.toNat * 2048 + lines.scl.toNat * 4096 + lines.sda.toNat * 8192
      let d := d.jtagLoad 0x02 .sample
      ({ d with jtag := { d.jtag with scanned := BitVec.ofNat 14 n, boundary := shiftIn } }).emit (.jtag n)
    else d) s

/-- HIGHZ (R43). -/
def execJtagHighz (s : State) : Host.Outcome State Fault Refusal := onDev (fun d => d.jtagPins 0x03 .highz) s

/-- CLAMP (R43). -/
def execJtagClamp (s : State) : Host.Outcome State Fault Refusal := onDev (fun d => d.jtagPins 0x04 .clamp) s

/-- BYPASS, and every opcode that Table 2.8 does not list; a listed opcode is another row's command. -/
def execJtagBypass (opcode : BitVec 8) (s : State) : Host.Outcome State Fault Refusal :=
  onDev (fun d => if opcode.toNat ≤ 4 then d else d.jtagLoad opcode .bypass) s

/-! ### I3C (R41) -/

/-- The MGT port answers while the AON domain is powered, the MET port while the meter is and 54 V is present (R23,
R26). A direct read of a port's registers needs its dynamic address (log 6); `direct` says that it is one. -/
def State.onPort (s : State) (bus : I3cBus) (f : I3cPort → I3cPort) (answer : I3cPort → Option Nat) (direct : Bool := false) : State :=
  match bus with
  | .mgt =>
    if s.dev.pwr.aon && !(direct && s.dev.mgt.addr == 0) then
      { s with dev := ({ s.dev with mgt := f s.dev.mgt }).emit (.i3c .mgt (answer s.dev.mgt)) }
    else s
  | .met => if s.gnt.powered && s.dev.pwr.v54 && !(direct && s.met.addr == 0) then { s with met := f s.met, dev := s.dev.emit (.i3c .met (answer s.met)) } else s

/-- Dynamic address assignment by ENTDAA: a port that has no address takes the one given. -/
def execEntdaa (bus : I3cBus) (addr : BitVec 7) (s : State) : Host.Outcome State Fault Refusal :=
  .next (s.onPort bus (fun p => if p.addr == 0 then { p with addr := addr } else p) (fun _ => none))

/-- SETDASA from the static address 0x08 + SLOT_ID. -/
def execSetdasa (bus : I3cBus) (static addr : BitVec 7) (s : State) : Host.Outcome State Fault Refusal :=
  if static.toNat = 8 + s.dev.pwr.straps.slotId.toNat then
    .next (s.onPort bus (fun p => if p.addr == 0 then { p with addr := addr } else p) (fun _ => none))
  else .next s

/-- RSTDAA: the dynamic address is gone. -/
def execRstdaa (bus : I3cBus) (s : State) : Host.Outcome State Fault Refusal :=
  .next (s.onPort bus (fun p => { p with addr := 0 }) (fun _ => none))

/-- ENEC: the named events are enabled. -/
def execEnec (bus : I3cBus) (events : BitVec 8) (s : State) : Host.Outcome State Fault Refusal :=
  .next (s.onPort bus (fun p => { p with events := p.events ||| events }) (fun _ => none))

/-- DISEC: the named events are disabled. -/
def execDisec (bus : I3cBus) (events : BitVec 8) (s : State) : Host.Outcome State Fault Refusal :=
  .next (s.onPort bus (fun p => { p with events := p.events &&& ~~~events }) (fun _ => none))

/-- Number of a port for the free register values (log 6). -/
def i3cNum : I3cBus → Nat
  | .mgt => 0
  | .met => 1

/-- GETPID answers the provisioned ID, a value the spec does not give (log 6). -/
def execGetpid (bus : I3cBus) (s : State) : Host.Outcome State Fault Refusal :=
  .next (s.onPort bus id (fun _ => some (Config.i3cValue (i3cNum bus) 0x8D)) true)

/-- GETBCR (log 6). -/
def execGetbcr (bus : I3cBus) (s : State) : Host.Outcome State Fault Refusal :=
  .next (s.onPort bus id (fun _ => some (Config.i3cValue (i3cNum bus) 0x8E)) true)

/-- GETDCR (log 6). -/
def execGetdcr (bus : I3cBus) (s : State) : Host.Outcome State Fault Refusal :=
  .next (s.onPort bus id (fun _ => some (Config.i3cValue (i3cNum bus) 0x8F)) true)

/-- GETSTATUS (log 6). -/
def execGetstatus (bus : I3cBus) (s : State) : Host.Outcome State Fault Refusal :=
  .next (s.onPort bus id (fun _ => some (Config.i3cValue (i3cNum bus) 0x90)) true)

/-- GETMRL answers the maximum read length last set. -/
def execGetmrl (bus : I3cBus) (s : State) : Host.Outcome State Fault Refusal :=
  .next (s.onPort bus id (fun p => some p.mrl.toNat) true)

/-- SETMRL. -/
def execSetmrl (bus : I3cBus) (len : BitVec 16) (s : State) : Host.Outcome State Fault Refusal :=
  .next (s.onPort bus (fun p => { p with mrl := len }) (fun _ => none))

/-- GETMWL answers the maximum write length last set. -/
def execGetmwl (bus : I3cBus) (s : State) : Host.Outcome State Fault Refusal :=
  .next (s.onPort bus id (fun p => some p.mwl.toNat) true)

/-- SETMWL. -/
def execSetmwl (bus : I3cBus) (len : BitVec 16) (s : State) : Host.Outcome State Fault Refusal :=
  .next (s.onPort bus (fun p => { p with mwl := len }) (fun _ => none))

/-- A code that R41 does not list is not acknowledged: nothing changes. -/
def execI3cOtherCcc (_bus : I3cBus) (_code : BitVec 8) (s : State) : Host.Outcome State Fault Refusal := .next s

end Sys2Proof.Machine
end

