-- ==== Sys2Proof/Machine/Palren.lean ====
section
/-! DEFINITION. The dictionary server: frames, result codes, requests, sessions, authentication, segmented transfers,
the mailbox, the reduced endpoint, MCTP control (chapter 05; R85, R93, R94, R102 to R104). -/

namespace Sys2Proof.Machine

/-! ### MCTP messages (R118, R119) -/

/-- A message assembled from its packets: the first one starts it, the last one ends it, sequence numbers follow on
modulo 4, each packet but the last carries the 64 bytes of the baseline transmission unit, and Tag Owner is 1, as in a
request; none where the packets are no such message. -/
def mctpJoin (first : Bool) (n : Nat) : List MctpPacket → Option (List Byte)
  | [] => none
  | p :: rest =>
    if p.som != first || !p.tagOwner || p.seq.toNat != n % 4 || p.eom != rest.isEmpty then none
    else if rest.isEmpty then (if p.body.length ≤ 64 then some p.body else none)
    else if p.body.length = 64 then (mctpJoin false (n + 1) rest).map (fun b => p.body ++ b)
    else none

/-- The Palren frame of a message of at most 1,043 bytes: message type 0x7E with the IC bit 0, the PF's PCI vendor
identifier, one frame (R119). Any other message is discarded. -/
def mctpFrame (l : List MctpPacket) : Option (List Byte) :=
  match mctpJoin true ((l.head?.elim 0 (fun p => p.seq.toNat))) l with
  | some (0x7E :: 0x1F :: 0xD8 :: f) => if f.length ≤ 1040 then some f else none
  | _ => none

/-- The packets of a response, Tag Owner 0, sequence numbers from 0 on (log 18); `fuel` bounds their number. -/
def mctpSplit : Nat → Nat → List Byte → List MctpPacket
  | 0, _, _ => []
  | fuel + 1, n, b =>
    let rest := b.drop 64
    ⟨n == 0, rest.isEmpty, BitVec.ofNat 2 n, false, b.take 64⟩ :: (if rest.isEmpty then [] else mctpSplit fuel (n + 1) rest)

/-- The packets of the response message that carries a frame (R119); 17 of them carry 1,043 bytes. -/
def mctpPackets (f : List Byte) : List MctpPacket := mctpSplit 17 0 (0x7E :: 0x1F :: 0xD8 :: f)

/-! ### Frames (R108, R109) -/

/-- A request as it arrived: the header's 128 bits, the payload bytes received (none: a frame cut short), the payload. -/
structure Req where
  src : ReqSrc
  hdr : Nat
  recv : Option Nat
  payload : List Byte
deriving DecidableEq, Repr

def hLength (h : Nat) : Nat := bitsAt h 112 16
def hStatus (h : Nat) : Nat := bitsAt h 96 16
def hIndex (h : Nat) : Nat := bitsAt h 80 16
def hSub (h : Nat) : Nat := bitsAt h 72 8
def hOp (h : Nat) : Nat := bitsAt h 64 8
def hSession (h : Nat) : Nat := bitsAt h 56 8
def hSegment (h : Nat) : Nat := bitsAt h 32 16
def hTenant (h : Nat) : Nat := bitsAt h 24 8
def hLast (h : Nat) : Bool := bitAt h 1

/-- The opcodes of Table 5.4. -/
def opcodes : List Nat := [0x01, 0x02, 0x03, 0x04, 0x05, 0x06, 0x10, 0x11, 0x12, 0x13, 0x20, 0x21]

/-- One entry of a WRITE_SET (R112): the object, its TENANT field, the value's bytes. -/
structure SetEntry where
  index : Nat
  sub : Nat
  tenant : Nat
  value : List Byte
deriving DecidableEq, Repr

/-- The entry list of a WRITE_SET, at most `fuel` entries; none where it is malformed (R109, R112). -/
def parseSet : Nat → List Byte → Option (List SetEntry)
  | _, [] => some []
  | 0, _ => none
  | fuel + 1, b =>
    let h := leNat (b.take 8)
    let n := bitsAt h 0 16
    let m := roundUp n 8
    let body := b.drop 8
    if b.length < 8 || body.length < m || bitsAt h 24 16 != 0 || (((body.take m).drop n).any (fun x => x != 0)) then none
    else (parseSet fuel (body.drop m)).map (fun r =>
      ({ index := bitsAt h 48 16, sub := bitsAt h 40 8, tenant := bitsAt h 16 8, value := body.take n } : SetEntry) :: r)

/-- The entries of a WRITE_SET that is not malformed. -/
def setEntries (b : List Byte) : Option (List SetEntry) :=
  match parseSet 16 b with
  | some [] => none
  | r => r

/-- The frame is rejected as a whole (R109). -/
def Req.rejected (r : Req) : Bool :=
  let h := r.hdr
  let op := hOp h
  !opcodes.contains op || bitsAt h 4 4 != 1 || decide (63 < hTenant h) || decide (1024 < hLength h) ||
  bitsAt h 8 16 != 0 || bitsAt h 2 2 != 0 || hStatus h != 0 || bitAt h 0 ||
  (hSegment h != 0 && op != 3 && op != 4) || (!hLast h && op != 4) ||
  (op == 6 && (hTenant h != 0 || (setEntries r.payload).isNone)) || r.recv != some (hLength h)

/-- The header of a response (R108, R109): RSP, STATUS and LENGTH set, reserved fields zero, LAST as given. -/
def rspHeader (h status len : Nat) (last : Option Bool) : Nat :=
  len * 2 ^ 112 + status * 2 ^ 96 + bitsAt h 32 64 * 2 ^ 32 + hTenant h * 2 ^ 24 + bitsAt h 4 4 * 16 +
    (last.getD (hLast h)).toNat * 2 + 1

/-- The response frame. -/
def rspFrame (h status : Nat) (payload : List Byte) (last : Option Bool) : List Byte :=
  leBytes (rspHeader h status payload.length last) 16 ++ payload

/-- The frame that a request source carries. -/
def Dev.reqOf (d : Dev) (src : ReqSrc) : Req :=
  let cut := fun (b : List Byte) (n : Nat) => ((b.drop 16) ++ List.replicate n 0).take n
  match src with
  | .mailbox fn =>
    let b := (d.fn fn.val).req
    let h := leNat (b.take 16)
    let n := if hLength h ≤ 1024 then hLength h else 0
    ⟨src, h, some n, cut b n⟩
  | .mctp _ _ _ l =>
    let f := (mctpFrame l).getD []
    ⟨src, leNat (f.take 16), if f.length < 16 then none else some (f.length - 16), f.drop 16⟩
  | .firmware w f => ⟨src, leNat (f.take 16), if w.toNat < 16 then none else some (w.toNat - 16), cut f (w.toNat - 16)⟩
  | .policy _ w f => ⟨src, leNat (f.take 16), if w.toNat < 16 then none else some (w.toNat - 16), cut f (w.toNat - 16)⟩

/-! ### Where requests are served (R85, R93, R114, R120, R190) -/

/-- The dictionary server on K0 runs: from stage 2 on, and in Beyby mode. -/
def Dev.server (d : Dev) : Bool := d.live && (d.boot.beyby || Nat.ble 2 d.boot.stage)

/-- What serves a request of this source: the server, the reduced endpoint, or nothing. -/
inductive Served where
  | server
  | reduced
  | nothing
deriving DecidableEq, Repr

/-- The management port takes part in transfers: the AON domain powered (R26), a dynamic address assigned (R41, log 6). -/
def Dev.mgtPort (d : Dev) : Bool := d.pwr.aon && d.mgt.addr != 0

/-- What serves a request; a message that is no Palren message is discarded (R119). -/
def Dev.servedBy (d : Dev) (src : ReqSrc) : Served :=
  match src with
  | .mailbox fn => if d.server && (d.fn fn.val).busy && !(d.fn fn.val).flr then .server else .nothing
  | .mctp .i3c _ _ l => if !d.mgtPort || (mctpFrame l).isNone then .nothing else if d.server then .server else .reduced
  | .mctp .vdm _ _ l => if d.server && d.linkUp && (mctpFrame l).isSome then .server else .nothing
  | .firmware _ _ => if d.server && !d.boot.beyby then .server else .nothing
  | .policy c _ _ => if d.serving && d.policyCore c.val && (d.core c.val).st == 1 then .server else .nothing

/-- The number of a session of an MCTP request, where it is open and belongs to the sender (R114). -/
def Dev.sessionOf (d : Dev) (b : Binding) (eid : BitVec 8) (n : Nat) : Option Session :=
  match KMap.find d.srv.sessions n with
  | some x => if n != 0 && x.binding == b && x.eid == eid then some x else none
  | none => none

/-- The caller of a request (R114). Tenant 0 of Table 19.8 is the caller in role TENANT 0, on whatever path (R99). -/
def Dev.who (d : Dev) (r : Req) : Who :=
  match r.src with
  | .mailbox fn =>
    let n := fn.val
    let op := n == 0 && (d.fn 0).operator
    { caller := .mbx n, role := if op then 2 else 1, tenant := n, fw := false, ten0 := n == 0 && !op }
  | .mctp b e _ _ =>
    let s := hSession r.hdr
    { caller := .mctp s, role := if (d.sessionOf b e s).any (fun x => x.operator) then 2 else 0, tenant := 0, fw := false
      ten0 := false }
  | .firmware _ _ => { caller := .fw, role := 3, tenant := 0, fw := true, ten0 := false }
  | .policy c _ _ =>
    { caller := .policy c.val, role := 1, tenant := d.coreTenant c.val, fw := false, ten0 := d.coreTenant c.val == 0 }

/-- The SESSION check of Table 5.5. -/
def Dev.sessionBad (d : Dev) (r : Req) : Bool :=
  let s := hSession r.hdr
  let op := hOp r.hdr
  match r.src with
  | .mctp b e _ _ => if s = 0 then op != 0x10 else (d.sessionOf b e s).isNone
  | _ => s != 0 || op == 0x10 || op == 0x13

/-! ### Checks of a request that names an object (R110) -/

/-- An index lies in one of the areas given. -/
def inAreas (l : List (Nat × Nat)) (i : Nat) : Bool := l.any (fun a => within a.1 a.2 i)

/-- Areas served before BOOT_COMPLETE (R85), in Beyby mode, and for reading alone in Beyby mode (Table 4.4). -/
def readyAreas : List (Nat × Nat) := [(0x1000, 0x11FF), (0x1F00, 0x1FFF), (0x2000, 0x23FF), (0x2400, 0x2FFF)]
def beybyAreas : List (Nat × Nat) := [(0x1000, 0x11FF), (0x1F00, 0x1FFF), (0x2400, 0x2FFF), (0x9000, 0x9FFF)]
def beybyReadAreas : List (Nat × Nat) := [(0x2000, 0x23FF), (0xA000, 0xCFFF)]

/-- The state's refusal of an object, if any: 4 NOT_READY, 5 UNAVAILABLE. -/
def Dev.gate (d : Dev) (i : Nat) (writing : Bool) : Option Nat :=
  if d.boot.beyby then
    if inAreas beybyAreas i || (inAreas beybyReadAreas i && !writing) then none else some 5
  else if d.boot.complete || inAreas readyAreas i then none
  else some 4

/-- The unit that a sub-index addresses is absent (Table 5.5 and the owning chapters). -/
def Dev.absent (d : Dev) (i s : Nat) : Bool :=
  match i with
  | 0x4021 => !d.has (264 + (s - 1))
  | 0x5001 => !d.has (s - 1)
  | 0x5802 => !d.has (s - 1)
  | 0x5811 => !d.has (s - 1)
  | 0x5812 => !d.has (s - 1)
  | 0x7802 => !d.has (128 + (s - 1))
  | 0x7803 => !d.has (128 + (s - 1))
  | 0x7804 => !d.has (128 + (s - 1))
  | 0x7805 => !d.has (128 + (s - 1))
  | 0xD014 => !d.has (128 + (s - 1))
  | 0xD011 => !d.has (256 + (s - 1))
  | 0x3840 => !d.policyCore (s - 1)
  | 0x3841 => !d.has (280 + (s - 1))
  | 0x3842 => !d.has (280 + (s - 1))
  | 0x8001 => !d.has (288 + (s - 1))
  | 0x8002 => !d.has (288 + (s - 1))
  | 0x8003 => !d.has (288 + (s - 1))
  | 0x8004 => !d.has (288 + (s - 1))
  | _ => within 0x7C01 0x7C23 i && !d.has 268

/-- The unit that a value names is absent (RST_TILE; the tile of PERT_ECC_FLIP). -/
def Dev.absentValue (d : Dev) (i v : Nat) : Bool :=
  match i with
  | 0x2402 => Nat.ble v 127 && !d.has v
  | 0xD013 => bitsAt v 126 2 != 2 && !d.has (bitsAt v 112 7)
  | _ => false

/-- The access right as the path sees it (R102). -/
def ObjRow.access (o : ObjRow) (fw : Bool) : Acc := if fw then o.fwAcc.getD o.acc else o.acc

/-- What a request does with the object it names. -/
inductive Use where
  | read
  | write
  | readSeg
  | writeSeg
  | abort
  | describe
  | set
deriving DecidableEq, Repr

def Use.writes : Use → Bool
  | .write | .writeSeg | .set => true
  | _ => false

/-- ACCESS (R101, R112): the right, and an opcode that suits the type. -/
def accessBad (o : ObjRow) (u : Use) (fw : Bool) : Bool :=
  let a := o.access fw
  let seg := o.ty == .segmented
  match u with
  | .read => a == .wo || seg
  | .readSeg => a == .wo || !seg
  | .write => (a != .rw && a != .wo) || seg
  | .writeSeg => (a != .rw && a != .wo) || !seg
  | .set => a != .rw || seg || o.keep == .flash
  | .abort => !seg
  | .describe => false

/-- The owner of what an object belongs to may write it (R134, R318, R333, Table 17.4): rings, slots, channels. -/
def Dev.owns (d : Dev) (w : Who) (i s : Nat) : Bool :=
  if within 0x3010 0x3025 i then d.ringOwner (s - 1) == w.tenant
  else if within 0x7C10 0x7C23 i then d.slotTenant (s - 1) == w.tenant
  else if within 0x8030 0x803B i then d.obj 0x8030 s 0 == w.tenant
  else true

/-- DENIED for a read: the addresses, sequence numbers and counters of a ring, a slot or a channel of another tenant (R194,
log 108). -/
def Dev.readDenied (d : Dev) (w : Who) (i s : Nat) : Bool :=
  w.role == 1 && (within 0x3011 0x3025 i || within 0x7C11 0x7C23 i || within 0x8031 0x803B i) && !d.owns w i s

/-- DENIED for a write (R103, R134, R333, R396). -/
def Dev.writeDenied (d : Dev) (w : Who) (o : ObjRow) (i s v : Nat) : Bool :=
  (match o.lock with
   | .openL => w.role == 0 || (w.role == 1 && !d.owns w i s)
   | .oper => decide (w.role < 2)
   | .boot => w.role != 3) ||
  (within 0x7C10 0x7C23 i && s == 1 && w.role != 3) || (isPert i && d.err.unlockUntil.isNone) ||
  (i == 0xD000 && v == 1 && d.obj 0x3804 0 0 != 1)

/-- The status of the checks of Table 5.5 up to VALUE_RESERVED; 0 where all pass. -/
def Dev.check (d : Dev) (w : Who) (u : Use) (i s ten : Nat) (value : List Byte) (ov : KMap Nat) : Nat :=
  match objRow? i s with
  | none => 3
  | some o =>
    let t := if o.perTenant then ten else 0
    let v := leNat value
    let sized := u == .write || u == .set
    match d.gate i u.writes with
    | some c => c
    | none =>
      if d.absent i s || (sized && value.length == o.ty.size && d.absentValue i v) then 5
      else if accessBad o u w.fw then 6
      else if o.perTenant && w.role == 1 && ten != w.tenant then 7
      else if (u.writes && d.writeDenied w o i s v) || ((u == .read || u == .readSeg) && d.readDenied w i s) then 7
      else if u.writes && o.lock == .boot && d.boot.lock then 8
      else if sized && value.length != o.ty.size then 9
      else if sized && !d.valueOk ov i s t v then 10
      else 0

/-- The instance that a request names. -/
def keyOf (i s ten : Nat) : ObjKey :=
  ⟨i, s, if (objRow? i s).any (fun o => o.perTenant) then ten else 0⟩

/-! ### Answers -/

/-- What a request leaves: STATUS, payload, LAST where it is set, whether the response waits, what follows it
(1 warm reset, 2 warm reset into Beyby mode). -/
structure Answer where
  status : Nat := 0
  payload : List Byte := []
  last : Option Bool := none
  wait : Bool := false
  after : Nat := 0
deriving DecidableEq, Repr

/-- A response is delivered: into MBX_RSP, or on the path it came from (R108, R119, R122). On the management port an in-band
interrupt, where ENEC has enabled it, tells the controller of it (R41, log 6). -/
def Dev.respond (d : Dev) (src : ReqSrc) (h : Nat) (a : Answer) : Dev :=
  let f := rspFrame h a.status a.payload a.last
  let d := if a.status = 1 || a.status = 2 || a.status = 0xB then d.bump 0x1110 2 0 32 else d
  match src with
  | .mailbox fn =>
    let x := d.fn fn.val
    let d := d.setFn fn.val { x with rsp := f ++ x.rsp.drop f.length, busy := false, done := true }
    if x.irq then d.msix fn.val 0 else d
  | .mctp b e t _ =>
    let d := if b == .i3c && d.mgt.events.getLsbD 0 then d.emit (.ibi .mgt) else d
    d.emit (.palrenMctp b e t (mctpPackets f))
  | _ => d.emit (.palren src f)

/-- The flash write in progress is committed, and its response sent (R106); one whose mailbox was reset has none. -/
def Dev.flashDone (d : Dev) : Dev :=
  match d.srv.flash with
  | none => d
  | some w =>
    let d := { d with srv := { d.srv with flash := none } }
    let d := d.applyWrite w.key.index w.key.sub w.key.tenant w.value
    match w.src with
    | some src => d.respond src w.header {}
    | none => d

/-- READ (R110). -/
def Dev.doRead (d : Dev) (w : Who) (h : Nat) : Answer × Dev :=
  let k := keyOf (hIndex h) (hSub h) (hTenant h)
  let c := d.check w .read k.index k.sub (hTenant h) [] []
  if c != 0 then ({ status := c }, d)
  else
    let n := (objRow? k.index k.sub).elim 0 (fun o => o.ty.size)
    ({ payload := leBytes (d.readObj w k.index k.sub k.tenant) n }, d)

/-- WRITE (R106, R124): a flash-kept object waits for its commit; RST_REQUEST acts after its response; TEN_ROT_INVAL
answers once its invalidation is complete (R187). -/
def Dev.doWrite (d : Dev) (w : Who) (r : Req) : Answer × Dev :=
  let h := r.hdr
  let k := keyOf (hIndex h) (hSub h) (hTenant h)
  let c := d.check w .write k.index k.sub (hTenant h) r.payload []
  let v := leNat r.payload
  if c != 0 then ({ status := c }, d)
  else if (objRow? k.index k.sub).any (fun o => o.keep == .flash) then
    ({ wait := true }, { d with srv := { d.srv with flash := some ⟨some r.src, h, k, v⟩ } })
  else if k.index == 0x2401 then ({ after := v }, d)
  else if k.index == 0x3810 then
    ({ wait := true }, d.rotInvalidate (some r.src) h (v % 2 ^ 32) (v / 2 ^ 32))
  else ({}, d.applyWrite k.index k.sub k.tenant v)

/-- READ_SEG: no segmented object is readable, so that every check ends in a refusal (R101, R111). -/
def Dev.doReadSeg (d : Dev) (w : Who) (h : Nat) : Answer × Dev :=
  ({ status := d.check w .readSeg (hIndex h) (hSub h) (hTenant h) [] [] }, d)

/-- Replace the transfer of an object. -/
def Dev.setXfer (d : Dev) (k : ObjKey) (x : Option SegXfer) : Dev :=
  { d with srv := { d.srv with segs := d.srv.segs.filter (fun y => y.key != k) ++ x.toList } }

/-- Store an image in the slot not booted from (Table 4.7); with none booted, which one is free (log 9). -/
def Dev.storeImage (d : Dev) (b : List Byte) : Dev :=
  let x : FwSlot := { valid := true, version := Config.imageVersion 0 b % 2 ^ 32 }
  let (c, d) := if d.boot.slot = 2 then d.freeBelow 2 else (1 - d.boot.slot, d)
  { d with boot := if c = 0 then { d.boot with slotA := x } else { d.boot with slotB := x } }

/-- The check of a policy module image (R191): its signature over the SHA-384 digest verifies against COMM_OPER_KEY. -/
def Dev.policyImageOk (d : Dev) (b : List Byte) : Bool :=
  ecdsaVerifies (leBytes (d.obj 0x1120 0 0) 96) (Config.policySignature b) (sha384 (Config.policyDigested b))

/-- A policy module image is held; a module that runs is stopped and started again with it (Table 8.3): it reads RUNNING
before and after. -/
def Dev.policyImage (d : Dev) (k : Nat) (b : List Byte) : Dev := d.setCore k { d.core k with image := some b }

/-- The final segment: the owner's check, and the effect (R82, R191, R282, R285, R293); VERIFY where it fails. -/
def Dev.commitImage (d : Dev) (k : ObjKey) (b : List Byte) : Answer × Dev :=
  match k.index with
  | 0x1F30 => if Config.imageVerifies 0 b then ({}, d.storeImage b) else ({ status := 14 }, d)
  | 0x3840 =>
    if d.policyImageOk b then ({}, d.policyImage (k.sub - 1) b) else ({ status := 14 }, d)
  | 0x7010 => if tabOk b then ({}, d.sfuInstall k.tenant false k.sub b) else ({ status := 14 }, d)
  | 0x7020 => if progOk b then ({}, d.sfuInstall k.tenant true k.sub b) else ({ status := 14 }, d)
  | _ => ({ status := 6 }, d)

/-- A slot that retains an old image takes no new one (R293). -/
def Dev.slotRetains (d : Dev) (k : ObjKey) : Bool :=
  (k.index == 0x7010 && (d.sfu.get (sfuKey k.tenant false k.sub) {}).retaining) ||
  (k.index == 0x7020 && (d.sfu.get (sfuKey k.tenant true k.sub) {}).retaining)

/-- WRITE_SEG (R111). -/
def Dev.doWriteSeg (d : Dev) (w : Who) (r : Req) : Answer × Dev :=
  let h := r.hdr
  let k := keyOf (hIndex h) (hSub h) (hTenant h)
  let c := d.check w .writeSeg k.index k.sub (hTenant h) [] []
  let n := r.payload.length
  let held := d.srv.segs.find? (fun x => x.key == k)
  let mine := held.filter (fun x => x.holder == w.caller)
  let have' := mine.elim 0 (fun x => x.data.length)
  let seq := match mine with
    | some x => hSegment h == x.next
    | none => hSegment h == 0
  if c != 0 then ({ status := c }, d)
  else if n = 0 || (!hLast h && n != 1024) || decide (33554432 < have' + n) then ({ status := 9 }, d)
  else if !seq then ({ status := 11 }, if mine.isSome then d.setXfer k none else d)
  else if mine.isNone && (held.isSome || d.slotRetains k) then ({ status := 12 }, d)
  else
    let data := mine.elim [] (fun x => x.data) ++ r.payload
    if hLast h then (d.setXfer k none).commitImage k data
    else ({}, d.setXfer k (some ⟨k, w.caller, hSegment h + 1, data, d.pwr.tick⟩))

/-- ABORT_SEG (R111): it ends the caller's transfer, and no other; it writes nothing, so no lock class refuses it. -/
def Dev.doAbortSeg (d : Dev) (w : Who) (h : Nat) : Answer × Dev :=
  let k := keyOf (hIndex h) (hSub h) (hTenant h)
  let c := d.check w .abort k.index k.sub (hTenant h) [] []
  if c != 0 then ({ status := c }, d)
  else if d.srv.segs.any (fun x => x.key == k && x.holder == w.caller) then ({}, d.setXfer k none) else ({}, d)

/-- The status of one entry of a WRITE_SET, against the values that will stand (R112). -/
def Dev.entryStatus (d : Dev) (w : Who) (ov : KMap Nat) (e : SetEntry) : Nat :=
  if 63 < e.tenant || (e.tenant != 0 && (objRow? e.index e.sub).any (fun o => !o.perTenant)) then 1
  else d.check w .set e.index e.sub e.tenant e.value ov

/-- WRITE_SET (R112): all entries or none. -/
def Dev.doWriteSet (d : Dev) (w : Who) (b : List Byte) : Answer × Dev :=
  let es := (setEntries b).getD []
  let key := fun (e : SetEntry) => keyOf e.index e.sub e.tenant
  let ov : KMap Nat := es.foldl (fun (m : KMap Nat) e => m.put (okey e.index e.sub (key e).tenant) (leNat e.value)) []
  match (es.map (d.entryStatus w ov)).zipIdx.find? (fun x => x.1 != 0) with
  | some (c, n) => ({ status := c, payload := leBytes n 1 }, d)
  | none => ({}, es.foldl (fun (d : Dev) e => d.applyWrite e.index e.sub (key e).tenant (leNat e.value)) d)

/-- DESCRIBE (R113). -/
def Dev.doDescribe (d : Dev) (w : Who) (h : Nat) : Answer × Dev :=
  let k := keyOf (hIndex h) (hSub h) (hTenant h)
  let c := d.check w .describe k.index k.sub (hTenant h) [] []
  match c, objRow? k.index k.sub with
  | 0, some o =>
    let seg := o.ty == .segmented
    let acc := match o.access w.fw with
      | .ro => 0
      | .rw => 1
      | .wo => 2
      | .const => 3
    let lock := match o.lock with
      | .openL => 0
      | .oper => 1
      | .boot => 2
    let flags := o.perTenant.toNat + 2 * (o.keep == .flash).toNat + 4 * seg.toNat
    let head := leBytes (o.ty.code + acc * 256 + lock * 65536 + flags * 2 ^ 24) 4
    ({ payload := if o.dflt.isSome && !seg then
          head ++ leBytes (objDefault d.pwr.straps d.boot.active k.index k.sub k.tenant) o.ty.size
        else head }, d)
  | c, _ => ({ status := c }, d)

/-- The first object of a row that follows a place in index order (R113). -/
def ObjRow.after (o : ObjRow) (i s : Nat) : Option Nat :=
  let from' := if o.index = i then Nat.max o.sub0 (s + 1) else o.sub0
  if o.index < i then none
  else ((List.range (o.sub1 + 1 - from')).map (fun k => from' + k)).findSome? (fun k =>
    if (objRow? o.index k).isSome then some (o.index * 256 + k) else none)

/-- NEXT (R113): the next object that the state serves. -/
def Dev.doNext (d : Dev) (h : Nat) : Answer × Dev :=
  let l := (objRowsUnsorted.filter (fun o => (d.gate o.index false).isNone)).filterMap (fun o => o.after (hIndex h) (hSub h))
  match l with
  | [] => ({ status := 3 }, d)
  | a :: rest =>
    let m := rest.foldl Nat.min a
    ({ payload := leBytes (m / 256) 2 ++ leBytes (m % 256) 1 }, d)

/-! ### Sessions and authentication (R114 to R117) -/

/-- A session closes; its transfers end without effect. -/
def Dev.closeSession (d : Dev) (n : Nat) : Dev :=
  { d with srv := { d.srv with
      sessions := d.srv.sessions.drop n, segs := d.srv.segs.filter (fun x => x.holder != .mctp n) } }

/-- SESSION_OPEN: which number is free is the device's (log 5). -/
def Dev.doOpen (d : Dev) (b : Binding) (eid : BitVec 8) (reduced : Bool) : Answer × Dev :=
  if 8 ≤ d.srv.sessions.length then ({ status := 12 }, d)
  else
    let l := ((List.range 255).map (fun k => k + 1)).filter (fun n => (KMap.find d.srv.sessions n).isNone)
    let (c, d) := d.freeBelow l.length
    let n := l.getD c 1
    let x : Session := { binding := b, eid := eid, lastUse := d.pwr.tick, reduced := reduced }
    ({ payload := leBytes n 1 }, { d with srv := { d.srv with sessions := d.srv.sessions.put n x } })

/-- Nonce and failure count of the session that asks, and a change of them with the OPERATOR role. -/
def Dev.authState (d : Dev) (c : Caller) : Option NonceRec × Nat :=
  match c with
  | .mbx n => ((d.fn n).nonce, (d.fn n).fails)
  | .mctp s => match KMap.find d.srv.sessions s with
    | some x => (x.nonce, x.fails)
    | none => (none, 0)
  | _ => (none, 0)

def Dev.setAuth (d : Dev) (c : Caller) (nonce : Option NonceRec) (fails : Nat) (op : Option Bool) : Dev :=
  match c with
  | .mbx n => d.updFn n (fun f => { f with nonce := nonce, fails := fails, operator := op.getD f.operator })
  | .mctp s => match KMap.find d.srv.sessions s with
    | some x => { d with srv := { d.srv with
        sessions := d.srv.sessions.put s { x with nonce := nonce, fails := fails, operator := op.getD x.operator } } }
    | none => d
  | _ => d

/-- Authentication is refused (Table 5.5): VF mailboxes, policy modules, the firmware path. -/
def mayAuth (c : Caller) : Bool :=
  match c with
  | .mbx n => n == 0
  | .mctp _ => true
  | _ => false

/-- AUTH_CHALLENGE (R115, R116). -/
def Dev.doChallenge (d : Dev) (w : Who) : Answer × Dev :=
  if !mayAuth w.caller then ({ status := 7 }, d)
  else if d.srv.holdUntil.any (fun t => decide (d.pwr.tick < t)) then ({ status := 12 }, d)
  else
    let v := Config.nonce d.nonces % 2 ^ 256
    let d := { d with nonces := d.nonces + 1 }
    ({ payload := leBytes v 32 }, d.setAuth w.caller (some ⟨v, d.pwr.tick⟩) (d.authState w.caller).2 none)

/-- A failed proof (R115, R116): counted; the third of a session closes it, or returns the PF mailbox to its base role. -/
def Dev.authFail (d : Dev) (w : Who) : Dev :=
  let t := d.pwr.tick
  let d := d.bump 0x1110 3 0 32
  let l := (d.srv.fails.filter (fun x => decide (t < x + 1500000000))) ++ [t]
  let d := { d with srv := { d.srv with
    fails := l, holdUntil := if 16 ≤ l.length then some (t + 1500000000) else d.srv.holdUntil } }
  let n := (d.authState w.caller).2 + 1
  if n < 3 then d.setAuth w.caller none n none
  else match w.caller with
    | .mctp s => d.closeSession s
    | c => d.setAuth c none 0 (some false)

/-- AUTH_PROVE (R115): the signature covers the nonce and the session number, with the key of COMM_OPER_KEY. -/
def Dev.doProve (d : Dev) (w : Who) (r : Req) : Answer × Dev :=
  if !mayAuth w.caller then ({ status := 7 }, d)
  else if r.payload.length != 96 then ({ status := 9 }, d)
  else
    let (nonce, fails) := d.authState w.caller
    let good := nonce.any (fun x => decide (d.pwr.tick < x.tick + 25000000) &&
      ecdsaVerifies (leBytes (d.obj 0x1120 0 0) 96) r.payload
        (sha384 (leBytes x.value 32 ++ leBytes (hSession r.hdr) 1)))
    if good then ({}, d.setAuth w.caller none fails (some true)) else ({ status := 13 }, d.authFail w)

/-! ### A request -/

/-- What has run out by now: sessions idle for longer than COMM_SESSION_IDLE, transfers without a segment for 10 s
(R111, R114). -/
def Dev.idleLimit (d : Dev) : Nat := d.obj 0x1100 2 0

def Dev.idleOut (d : Dev) (x : Session) : Bool :=
  d.idleLimit != 0xFFFFFFFF && decide (x.lastUse + d.idleLimit < d.pwr.tick)

def Dev.expire (d : Dev) : Dev :=
  let out := (d.srv.sessions.filter (fun e => d.idleOut e.2)).map (fun e => e.1)
  let d := out.foldl Dev.closeSession d
  { d with srv := { d.srv with segs := d.srv.segs.filter (fun x => decide (d.pwr.tick < x.last + 250000000)) } }

/-- Sessions of the reduced endpoint close when the server takes the port over (R120). -/
def Dev.dropReduced (d : Dev) : Dev :=
  ((d.srv.sessions.filter (fun e => e.2.reduced)).map (fun e => e.1)).foldl Dev.closeSession d

/-- The sender's session is in use. -/
def Dev.touchSession (d : Dev) (r : Req) : Dev :=
  match r.src with
  | .mctp _ _ _ _ =>
    match KMap.find d.srv.sessions (hSession r.hdr) with
    | some x => { d with srv := { d.srv with sessions := d.srv.sessions.put (hSession r.hdr) { x with lastUse := d.pwr.tick } } }
    | none => d
  | _ => d

/-- What the server does with a frame that is not rejected and whose session is open. -/
def Dev.execute (d : Dev) (r : Req) : Answer × Dev :=
  let w := d.who r
  let h := r.hdr
  match hOp h with
  | 0x01 => d.doRead w h
  | 0x02 => d.doWrite w r
  | 0x03 => d.doReadSeg w h
  | 0x04 => d.doWriteSeg w r
  | 0x05 => d.doAbortSeg w h
  | 0x06 => d.doWriteSet w r.payload
  | 0x10 => match r.src with
    | .mctp b e _ _ => d.doOpen b e false
    | _ => ({ status := 2 }, d)
  | 0x11 => d.doChallenge w
  | 0x12 => d.doProve w r
  | 0x13 => ({}, d.closeSession (hSession h))
  | 0x20 => d.doDescribe w h
  | _ => d.doNext h

/-- Objects that the reduced endpoint serves (R120). -/
def reducedObj (i s : Nat) : Bool :=
  i == 0x1000 || i == 0x1001 || i == 0x1F00 || i == 0x1F11 || i == 0x1F13 || i == 0x1F18 || i == 0x2000 ||
  (i == 0x2020 && s == 8) || (i == 0x2030 && s == 6) || i == 0x2035 || i == 0x2400

/-- The status of the first entry of a WRITE_SET on the reduced endpoint, which writes nothing: every entry fails, so the
first is the one named (R112, R120). -/
def reducedSet (b : List Byte) : Nat :=
  match (setEntries b).getD [] with
  | [] => 4
  | e :: _ =>
    if 63 < e.tenant || (e.tenant != 0 && (objRow? e.index e.sub).any (fun o => !o.perTenant)) then 1
    else if (objRow? e.index e.sub).isNone then 3
    else 4

/-- What the reduced endpoint does (R120). -/
def Dev.executeReduced (d : Dev) (r : Req) : Answer × Dev :=
  let w := d.who r
  let h := r.hdr
  let i := hIndex h
  let s := hSub h
  let op := hOp h
  let named := op != 0x11 && op != 0x12 && op != 0x21
  match op, r.src with
  | 0x10, .mctp b e _ _ => d.doOpen b e true
  | 0x13, _ => ({}, d.closeSession (hSession h))
  | 0x06, _ => ({ status := reducedSet r.payload, payload := [0] }, d)
  | _, _ =>
    if named && (objRow? i s).isNone then ({ status := 3 }, d)
    else if op == 0x01 && reducedObj i s then d.doRead w h
    else if op == 0x20 && reducedObj i s then d.doDescribe w h
    else ({ status := 4 }, d)

/-- A request is executed (R110, R123): FORMAT and SESSION first; an earlier flash write commits before it. COMM_FRAMES counts
what the server on K0 executes, COMM_FRAME_ERRS the responses of both (log 109). -/
def Dev.serve (d : Dev) (src : ReqSrc) : Dev :=
  let r := d.reqOf src
  let full := d.servedBy src == .server
  let d := if full then (d.flashDone.expire.dropReduced).bump 0x1110 1 0 32 else d.expire
  let (a, d) : Answer × Dev :=
    if r.rejected then ({ status := 1 }, d)
    else if d.sessionBad r then ({ status := 2 }, d)
    else if full then (d.touchSession r).execute r
    else (d.touchSession r).executeReduced r
  let d := if a.wait then d else d.respond src r.hdr a
  if a.after = 1 then d.requestWarm else if a.after = 2 then d.requestBeyby else d

/-- A request waits for the one that the server executes (R123); a mailbox has one request in flight. -/
def Dev.holdRequest (d : Dev) (op : Nat) (src : ReqSrc) : Dev :=
  let again := match src with
    | .mailbox _ => d.srv.heldFrames.any (fun x => x.src == src)
    | _ => false
  if again then d else { d with srv := { d.srv with heldFrames := d.srv.heldFrames ++ [⟨op, src⟩] } }

/-- A request arrives: executed, or held while a write of TEN_ROT_INVAL waits for its invalidation (R123, R187). `op` is the
opcode of the command: another opcode is another command's frame, a rejected frame is any command's. -/
def Dev.request (d : Dev) (op : Nat) (src : ReqSrc) : Dev :=
  let r := d.reqOf src
  if d.servedBy src == .nothing || !(r.rejected || hOp r.hdr == op) then d
  else if d.servedBy src == .server && !d.srv.rotInvals.isEmpty then d.holdRequest op src
  else d.serve src

/-- The requests held are taken up in the order of their arrival (R123). -/
def Dev.takeHeld (d : Dev) : Dev :=
  if d.srv.rotInvals.isEmpty then
    d.srv.heldFrames.foldl (fun (d : Dev) x => d.request x.op x.src) { d with srv := { d.srv with heldFrames := [] } }
  else d

/-- READ. -/
def execRead (src : ReqSrc) (s : State) : Host.Outcome State Fault Refusal := onDev (fun d => d.request 0x01 src) s

/-- WRITE. -/
def execWrite (src : ReqSrc) (s : State) : Host.Outcome State Fault Refusal := onDev (fun d => d.request 0x02 src) s

/-- READ_SEG. -/
def execReadSeg (src : ReqSrc) (s : State) : Host.Outcome State Fault Refusal := onDev (fun d => d.request 0x03 src) s

/-- WRITE_SEG. -/
def execWriteSeg (src : ReqSrc) (s : State) : Host.Outcome State Fault Refusal := onDev (fun d => d.request 0x04 src) s

/-- ABORT_SEG. -/
def execAbortSeg (src : ReqSrc) (s : State) : Host.Outcome State Fault Refusal := onDev (fun d => d.request 0x05 src) s

/-- WRITE_SET. -/
def execWriteSet (src : ReqSrc) (s : State) : Host.Outcome State Fault Refusal := onDev (fun d => d.request 0x06 src) s

/-- SESSION_OPEN. -/
def execSessionOpen (src : ReqSrc) (s : State) : Host.Outcome State Fault Refusal := onDev (fun d => d.request 0x10 src) s

/-- SESSION_CLOSE. -/
def execSessionClose (src : ReqSrc) (s : State) : Host.Outcome State Fault Refusal := onDev (fun d => d.request 0x13 src) s

/-- AUTH_CHALLENGE. -/
def execAuthChallenge (src : ReqSrc) (s : State) : Host.Outcome State Fault Refusal := onDev (fun d => d.request 0x11 src) s

/-- AUTH_PROVE. -/
def execAuthProve (src : ReqSrc) (s : State) : Host.Outcome State Fault Refusal := onDev (fun d => d.request 0x12 src) s

/-- DESCRIBE. -/
def execDescribe (src : ReqSrc) (s : State) : Host.Outcome State Fault Refusal := onDev (fun d => d.request 0x20 src) s

/-- NEXT. -/
def execNextObject (src : ReqSrc) (s : State) : Host.Outcome State Fault Refusal := onDev (fun d => d.request 0x21 src) s

/-! ### Events of the server -/

/-- A write that a caller entitled to it makes (R124): the object takes the value. -/
def Dev.objectWrite (d : Dev) (key : ObjKey) (value : Nat) : Dev :=
  match objRow? key.index key.sub with
  | some o =>
    let k := keyOf key.index key.sub key.tenant
    let fw := Option.getD (o.fwAcc.map (fun a => a == .rw)) false
    if d.server && (o.acc == .rw || fw) && o.ty != .segmented && decide (value < 256 ^ o.ty.size) && key.tenant < 64 &&
        (d.gate k.index true).isNone && !d.absent k.index k.sub && !(o.lock == .boot && d.boot.lock) &&
        !(isPert k.index && d.err.unlockUntil.isNone) && d.valueOk [] k.index k.sub k.tenant value then
      d.applyWrite k.index k.sub k.tenant value
    else d
  | none => d

/-- OBJECT_WRITE. -/
def execObjectWrite (key : ObjKey) (value : Nat) (s : State) : Host.Outcome State Fault Refusal :=
  onDev (fun d => d.objectWrite key value) s

/-- FLASH_COMMIT_DONE (R106). -/
def execFlashCommitDone (s : State) : Host.Outcome State Fault Refusal := onDev (fun d => if d.live then d.flashDone else d) s

/-- SEG_TRANSFER_TIMEOUT (R111). -/
def execSegTransferTimeout (key : ObjKey) (s : State) : Host.Outcome State Fault Refusal :=
  onDev (fun d =>
    if d.srv.segs.any (fun x => x.key == key && Nat.ble (x.last + 250000000) d.pwr.tick) then d.setXfer key none else d) s

/-- SESSION_IDLE_TIMEOUT (R114). -/
def execSessionIdleTimeout (session : Nat) (s : State) : Host.Outcome State Fault Refusal :=
  onDev (fun d =>
    match KMap.find d.srv.sessions session with
    | some x => if d.idleOut x then d.closeSession session else d
    | none => d) s

/-- NONCE_EXPIRY (R115). -/
def execNonceExpiry (mailboxPath : Bool) (session : Nat) (s : State) : Host.Outcome State Fault Refusal :=
  onDev (fun d =>
    let c : Caller := if mailboxPath then .mbx 0 else .mctp session
    let (n, fails) := d.authState c
    if n.any (fun x => Nat.ble (x.tick + 25000000) d.pwr.tick) then d.setAuth c none fails none else d) s

/-- AUTH_HOLDOFF_END (R116). -/
def execAuthHoldoffEnd (s : State) : Host.Outcome State Fault Refusal :=
  onDev (fun d =>
    if d.srv.holdUntil.any (fun t => Nat.ble t d.pwr.tick) then { d with srv := { d.srv with holdUntil := none } } else d) s

/-- ROT_INVAL_COMPLETE (R187): the response of the write is sent, and the server goes on (R123). -/
def execRotInvalComplete (s : State) : Host.Outcome State Fault Refusal :=
  onDev (fun d =>
    match d.rotInvalDone with
    | (some r, d) => (match r.src with
      | some src => d.respond src r.header {}
      | none => d).takeHeld
    | (none, d) => d) s

/-! ### MCTP control (R118, log 18) -/

/-- A binding answers control messages: I3C while the management port takes part in transfers, VDM while the server runs and the link is
up. -/
def Dev.mctpOn (d : Dev) (b : Binding) : Bool :=
  match b with
  | .i3c => d.mgtPort
  | .vdm => d.server && d.linkUp

def bindNum : Binding → Nat
  | .i3c => 0
  | .vdm => 1

/-- The answer of a control message that the MCTP base specification gives (log 18). -/
def Dev.mctpAnswer (d : Dev) (b : Binding) (cmd : Nat) (head : List Byte) : Dev :=
  if d.mctpOn b then d.emit (.mctp b (head ++ Config.mctpValue (bindNum b) cmd)) else d

/-- SET_ENDPOINT_ID: 0 and 0xFF are no endpoint IDs. -/
def execSetEndpointId (b : Binding) (eid : BitVec 8) (s : State) : Host.Outcome State Fault Refusal :=
  onDev (fun d =>
    let e := eid.toNat
    let d := if d.mctpOn b && e != 0 && e != 255 then
        (match b with
         | .i3c => { d with srv := { d.srv with eidI3c := e } }
         | .vdm => { d with srv := { d.srv with eidVdm := e } })
      else d
    d.mctpAnswer b 0x01 []) s

/-- GET_ENDPOINT_ID: the answer begins with the endpoint ID. -/
def execGetEndpointId (b : Binding) (s : State) : Host.Outcome State Fault Refusal :=
  onDev (fun d =>
    d.mctpAnswer b 0x02 [BitVec.ofNat 8 (match b with
      | .i3c => d.srv.eidI3c
      | .vdm => d.srv.eidVdm)]) s

/-- GET_MCTP_VERSION_SUPPORT. -/
def execGetMctpVersionSupport (b : Binding) (s : State) : Host.Outcome State Fault Refusal :=
  onDev (fun d => d.mctpAnswer b 0x04 []) s

/-- GET_MESSAGE_TYPE_SUPPORT: type 0x7E is supported (R119). -/
def execGetMessageTypeSupport (b : Binding) (s : State) : Host.Outcome State Fault Refusal :=
  onDev (fun d => d.mctpAnswer b 0x05 [0x7E]) s

/-- GET_VENDOR_DEFINED_MESSAGE_SUPPORT: the PCI vendor identifier of the PF (R119). -/
def execGetVendorDefinedMessageSupport (b : Binding) (s : State) : Host.Outcome State Fault Refusal :=
  onDev (fun d => d.mctpAnswer b 0x06 [0x1F, 0xD8]) s

/-! ### The boot watchdog (R80) -/

/-- A command that waits in the same tick writes BOOT_COMPLETE. -/
def Dev.writesComplete (d : Dev) (c : Instr) : Bool :=
  match c with
  | .bootCompleteWrite false => d.completeBoot.boot.complete
  | .write src => (d.request 0x02 src).boot.complete
  | .writeSet src => (d.request 0x06 src).boot.complete
  | .objectWrite key v => (d.objectWrite key v).boot.complete
  | _ => false

/-- BOOT_WATCHDOG: 30 s after time 0 without BOOT_COMPLETE; a write of it that arrives in the same tick wins (R80). All
commands that wait arrive in this tick (log 2). -/
def execBootWatchdog (s : State) : Host.Outcome State Fault Refusal :=
  onDev (fun d =>
    if d.live && d.boot.running && !d.boot.beyby && !d.boot.complete && Nat.ble 750000000 (d.since d.boot.start) &&
        !s.pending.any d.writesComplete then d.bootFail 7 5
    else d) s

end Sys2Proof.Machine
end

