-- ==== Sys2Proof/Machine/Dispatch.lean ====
section
/-! DEFINITION. One arm for each command: a direct call of its meaning. -/

namespace Sys2Proof.Machine

/-- The effect of a command on everything but the queue. -/
def exec (i : Instr) (s : State) : Host.Outcome State Fault Refusal :=
  match i with
  | .input54vPresent => Sys2Proof.Machine.execInput54vPresent s
  | .input54vUndervoltage => Sys2Proof.Machine.execInput54vUndervoltage s
  | .input54vRemoved => Sys2Proof.Machine.execInput54vRemoved s
  | .inputOvervoltage => Sys2Proof.Machine.execInputOvervoltage s
  | .inputOvervoltageClear => Sys2Proof.Machine.execInputOvervoltageClear s
  | .overcurrentTrip => Sys2Proof.Machine.execOvercurrentTrip s
  | .auxPresent => Sys2Proof.Machine.execAuxPresent s
  | .auxAbsent => Sys2Proof.Machine.execAuxAbsent s
  | .coldReset straps => Sys2Proof.Machine.execColdReset straps s
  | .pwrEnHigh => Sys2Proof.Machine.execPwrEnHigh s
  | .pwrEnLow => Sys2Proof.Machine.execPwrEnLow s
  | .tripLatchClear => Sys2Proof.Machine.execTripLatchClear s
  | .bulkChargeDone => Sys2Proof.Machine.execBulkChargeDone s
  | .mainRailsInRegulation => Sys2Proof.Machine.execMainRailsInRegulation s
  | .mainRailsFall => Sys2Proof.Machine.execMainRailsFall s
  | .perstAssert => Sys2Proof.Machine.execPerstAssert s
  | .perstDeassert => Sys2Proof.Machine.execPerstDeassert s
  | .perstHoldExpiry => Sys2Proof.Machine.execPerstHoldExpiry s
  | .hostLinkTrained gen lanes cxl => Sys2Proof.Machine.execHostLinkTrained gen lanes cxl s
  | .configRequest fn op => Sys2Proof.Machine.execConfigRequest fn op s
  | .configOpenTimeout => Sys2Proof.Machine.execConfigOpenTimeout s
  | .jtagTapReset => Sys2Proof.Machine.execJtagTapReset s
  | .jtagExtest => Sys2Proof.Machine.execJtagExtest s
  | .jtagIdcode => Sys2Proof.Machine.execJtagIdcode s
  | .jtagSamplePreload straps lines shiftIn => Sys2Proof.Machine.execJtagSamplePreload straps lines shiftIn s
  | .jtagHighz => Sys2Proof.Machine.execJtagHighz s
  | .jtagClamp => Sys2Proof.Machine.execJtagClamp s
  | .jtagBypass opcode => Sys2Proof.Machine.execJtagBypass opcode s
  | .entdaa bus addr => Sys2Proof.Machine.execEntdaa bus addr s
  | .setdasa bus static addr => Sys2Proof.Machine.execSetdasa bus static addr s
  | .rstdaa bus => Sys2Proof.Machine.execRstdaa bus s
  | .enec bus events => Sys2Proof.Machine.execEnec bus events s
  | .disec bus events => Sys2Proof.Machine.execDisec bus events s
  | .getpid bus => Sys2Proof.Machine.execGetpid bus s
  | .getbcr bus => Sys2Proof.Machine.execGetbcr bus s
  | .getdcr bus => Sys2Proof.Machine.execGetdcr bus s
  | .getstatus bus => Sys2Proof.Machine.execGetstatus bus s
  | .getmrl bus => Sys2Proof.Machine.execGetmrl bus s
  | .setmrl bus len => Sys2Proof.Machine.execSetmrl bus len s
  | .getmwl bus => Sys2Proof.Machine.execGetmwl bus s
  | .setmwl bus len => Sys2Proof.Machine.execSetmwl bus len s
  | .i3cOtherCcc bus code => Sys2Proof.Machine.execI3cOtherCcc bus code s
  | .thermalSample readings => Sys2Proof.Machine.execThermalSample readings s
  | .throttleWindowEnd die => Sys2Proof.Machine.execThrottleWindowEnd die s
  | .trippedRestart aon => Sys2Proof.Machine.execTrippedRestart aon s
  | .freqStep dom => Sys2Proof.Machine.execFreqStep dom s
  | .fastGuardPeriod estMw => Sys2Proof.Machine.execFastGuardPeriod estMw s
  | .excursionTimerExpiry => Sys2Proof.Machine.execExcursionTimerExpiry s
  | .averageLoopPeriod means => Sys2Proof.Machine.execAverageLoopPeriod means s
  | .tileSleepDwellExpiry t => Sys2Proof.Machine.execTileSleepDwellExpiry t s
  | .chipLowDwellExpiry c => Sys2Proof.Machine.execChipLowDwellExpiry c s
  | .unitWakeDone u => Sys2Proof.Machine.execUnitWakeDone u s
  | .bootStageRom => Sys2Proof.Machine.execBootStageRom s
  | .bootStageFw => Sys2Proof.Machine.execBootStageFw s
  | .bootStageHub err => Sys2Proof.Machine.execBootStageHub err s
  | .bootStageUcie links => Sys2Proof.Machine.execBootStageUcie links s
  | .bootStageHbm trained mbps => Sys2Proof.Machine.execBootStageHbm trained mbps s
  | .bootStageUnits unitFail arrayFail pcieOk => Sys2Proof.Machine.execBootStageUnits unitFail arrayFail pcieOk s
  | .bootStageLock cfg => Sys2Proof.Machine.execBootStageLock cfg s
  | .bootStageOpen => Sys2Proof.Machine.execBootStageOpen s
  | .bootWatchdog => Sys2Proof.Machine.execBootWatchdog s
  | .bootCompleteWrite trap => Sys2Proof.Machine.execBootCompleteWrite trap s
  | .bootFailClear => Sys2Proof.Machine.execBootFailClear s
  | .rstRequestWarm => Sys2Proof.Machine.execRstRequestWarm s
  | .rstRequestBeyby => Sys2Proof.Machine.execRstRequestBeyby s
  | .rstTile t => Sys2Proof.Machine.execRstTile t s
  | .tileResetDone t => Sys2Proof.Machine.execTileResetDone t s
  | .vfFlr fn => Sys2Proof.Machine.execVfFlr fn s
  | .pfFlrHotReset kind => Sys2Proof.Machine.execPfFlrHotReset kind s
  | .flrComplete fn => Sys2Proof.Machine.execFlrComplete fn s
  | .ucieRetrain c lost => Sys2Proof.Machine.execUcieRetrain c lost s
  | .read src => Sys2Proof.Machine.execRead src s
  | .write src => Sys2Proof.Machine.execWrite src s
  | .objectWrite key value => Sys2Proof.Machine.execObjectWrite key value s
  | .flashCommitDone => Sys2Proof.Machine.execFlashCommitDone s
  | .readSeg src => Sys2Proof.Machine.execReadSeg src s
  | .writeSeg src => Sys2Proof.Machine.execWriteSeg src s
  | .abortSeg src => Sys2Proof.Machine.execAbortSeg src s
  | .segTransferTimeout key => Sys2Proof.Machine.execSegTransferTimeout key s
  | .writeSet src => Sys2Proof.Machine.execWriteSet src s
  | .sessionOpen src => Sys2Proof.Machine.execSessionOpen src s
  | .sessionClose src => Sys2Proof.Machine.execSessionClose src s
  | .sessionIdleTimeout session => Sys2Proof.Machine.execSessionIdleTimeout session s
  | .authChallenge src => Sys2Proof.Machine.execAuthChallenge src s
  | .authProve src => Sys2Proof.Machine.execAuthProve src s
  | .nonceExpiry mailboxPath session => Sys2Proof.Machine.execNonceExpiry mailboxPath session s
  | .authHoldoffEnd => Sys2Proof.Machine.execAuthHoldoffEnd s
  | .describe src => Sys2Proof.Machine.execDescribe src s
  | .nextObject src => Sys2Proof.Machine.execNextObject src s
  | .setEndpointId b eid => Sys2Proof.Machine.execSetEndpointId b eid s
  | .getEndpointId b => Sys2Proof.Machine.execGetEndpointId b s
  | .getMctpVersionSupport b => Sys2Proof.Machine.execGetMctpVersionSupport b s
  | .getMessageTypeSupport b => Sys2Proof.Machine.execGetMessageTypeSupport b s
  | .getVendorDefinedMessageSupport b => Sys2Proof.Machine.execGetVendorDefinedMessageSupport b s
  | .mbxGo fn request irqEnable => Sys2Proof.Machine.execMbxGo fn request irqEnable s
  | .mbxDoneClear fn => Sys2Proof.Machine.execMbxDoneClear fn s
  | .fnTickLoRead a => Sys2Proof.Machine.execFnTickLoRead a s
  | .msixUnmask fn w => Sys2Proof.Machine.execMsixUnmask fn w s
  | .sqTail fn ring value stores => Sys2Proof.Machine.execSqTail fn ring value stores s
  | .cqHead fn ring value => Sys2Proof.Machine.execCqHead fn ring value s
  | .ringEnable ring => Sys2Proof.Machine.execRingEnable ring s
  | .disableDrain ring => Sys2Proof.Machine.execDisableDrain ring s
  | .disableAbort ring => Sys2Proof.Machine.execDisableAbort ring s
  | .ringFetchEntry => Sys2Proof.Machine.execRingFetchEntry s
  | .nop job => Sys2Proof.Machine.execNop job s
  | .run job => Sys2Proof.Machine.execRun job s
  | .prefetchToHbm job => Sys2Proof.Machine.execPrefetchToHbm job s
  | .prefetchToHost job => Sys2Proof.Machine.execPrefetchToHost job s
  | .advise job => Sys2Proof.Machine.execAdvise job s
  | .barrier job => Sys2Proof.Machine.execBarrier job s
  | .create job => Sys2Proof.Machine.execCreate job s
  | .fork job => Sys2Proof.Machine.execFork job s
  | .commit job => Sys2Proof.Machine.execCommit job s
  | .trim job => Sys2Proof.Machine.execTrim job s
  | .pin job => Sys2Proof.Machine.execPin job s
  | .unpin job => Sys2Proof.Machine.execUnpin job s
  | .seqCtlQuery job => Sys2Proof.Machine.execSeqCtlQuery job s
  | .free job => Sys2Proof.Machine.execFree job s
  | .kvEviction tenant => Sys2Proof.Machine.execKvEviction tenant s
  | .migrationMoveDone dst => Sys2Proof.Machine.execMigrationMoveDone dst s
  | .schedulerDispatch job tiles => Sys2Proof.Machine.execSchedulerDispatch job tiles s
  | .jobComplete job => Sys2Proof.Machine.execJobComplete job s
  | .ringIrqTimer ring => Sys2Proof.Machine.execRingIrqTimer ring s
  | .hdmHostAccess offset op => Sys2Proof.Machine.execHdmHostAccess offset op s
  | .engineHbmAccess source tenant job pa op => Sys2Proof.Machine.execEngineHbmAccess source tenant job pa op s
  | .walkStart => Sys2Proof.Machine.execWalkStart s
  | .walkComplete walk => Sys2Proof.Machine.execWalkComplete walk s
  | .walkTimeout walk => Sys2Proof.Machine.execWalkTimeout walk s
  | .faultQueueSlotFree => Sys2Proof.Machine.execFaultQueueSlotFree s
  | .faultRetry faultId stores => Sys2Proof.Machine.execFaultRetry faultId stores s
  | .faultFail faultId => Sys2Proof.Machine.execFaultFail faultId s
  | .stallLimitExpiry faultId => Sys2Proof.Machine.execStallLimitExpiry faultId s
  | .sfenceBroadcast mode va asid stores => Sys2Proof.Machine.execSfenceBroadcast mode va asid stores s
  | .fenceRetire => Sys2Proof.Machine.execFenceRetire s
  | .fenceTimeout lateTiles lateChips lateStu => Sys2Proof.Machine.execFenceTimeout lateTiles lateChips lateStu s
  | .tenRotInval first count stores => Sys2Proof.Machine.execTenRotInval first count stores s
  | .rotInvalComplete => Sys2Proof.Machine.execRotInvalComplete s
  | .tenantClearDone u found => Sys2Proof.Machine.execTenantClearDone u found s
  | .policyStart core => Sys2Proof.Machine.execPolicyStart core s
  | .policyStop core => Sys2Proof.Machine.execPolicyStop core s
  | .policyTrap core => Sys2Proof.Machine.execPolicyTrap core s
  | .tileEnable t on => Sys2Proof.Machine.execTileEnable t on s
  | .load t w => Sys2Proof.Machine.execLoad t w s
  | .store t w => Sys2Proof.Machine.execStore t w s
  | .copy t w => Sys2Proof.Machine.execCopy t w s
  | .gather t w => Sys2Proof.Machine.execGather t w s
  | .hload t w => Sys2Proof.Machine.execHload t w s
  | .lds t w => Sys2Proof.Machine.execLds t w s
  | .setflag t w => Sys2Proof.Machine.execSetflag t w s
  | .mma t w => Sys2Proof.Machine.execMma t w s
  | .mov t w => Sys2Proof.Machine.execMov t w s
  | .add t w => Sys2Proof.Machine.execAdd t w s
  | .sub t w => Sys2Proof.Machine.execSub t w s
  | .mul t w => Sys2Proof.Machine.execMul t w s
  | .fma t w => Sys2Proof.Machine.execFma t w s
  | .max t w => Sys2Proof.Machine.execMax t w s
  | .min t w => Sys2Proof.Machine.execMin t w s
  | .cvt t w => Sys2Proof.Machine.execCvt t w s
  | .rsum t w => Sys2Proof.Machine.execRsum t w s
  | .scale t w => Sys2Proof.Machine.execScale t w s
  | .xpack t w => Sys2Proof.Machine.execXpack t w s
  | .xcombCombine t w => Sys2Proof.Machine.execXcombCombine t w s
  | .xcombNormalise t w => Sys2Proof.Machine.execXcombNormalise t w s
  | .exp t w => Sys2Proof.Machine.execExp t w s
  | .exp2 t w => Sys2Proof.Machine.execExp2 t w s
  | .expx t w => Sys2Proof.Machine.execExpx t w s
  | .log t w => Sys2Proof.Machine.execLog t w s
  | .log2 t w => Sys2Proof.Machine.execLog2 t w s
  | .rcp t w => Sys2Proof.Machine.execRcp t w s
  | .rsqrt t w => Sys2Proof.Machine.execRsqrt t w s
  | .sqrt t w => Sys2Proof.Machine.execSqrt t w s
  | .tanh t w => Sys2Proof.Machine.execTanh t w s
  | .logistic t w => Sys2Proof.Machine.execLogistic t w s
  | .gated t w => Sys2Proof.Machine.execGated t w s
  | .meanvar t w => Sys2Proof.Machine.execMeanvar t w s
  | .layernorm t w => Sys2Proof.Machine.execLayernorm t w s
  | .rmsnorm t w => Sys2Proof.Machine.execRmsnorm t w s
  | .softmax t w => Sys2Proof.Machine.execSoftmax t w s
  | .table t w => Sys2Proof.Machine.execTable t w s
  | .prog t w => Sys2Proof.Machine.execProg t w s
  | .scoutQuery t w => Sys2Proof.Machine.execScoutQuery t w s
  | .scoutQueryComplete t => Sys2Proof.Machine.execScoutQueryComplete t s
  | .scoutQueryTimeout t => Sys2Proof.Machine.execScoutQueryTimeout t s
  | .scoutLoadDone load => Sys2Proof.Machine.execScoutLoadDone load s
  | .scoutSweepDue a => Sys2Proof.Machine.execScoutSweepDue a s
  | .scoutSweepDone a knownSumsOk => Sys2Proof.Machine.execScoutSweepDone a knownSumsOk s
  | .scoutEnable a on checkPasses => Sys2Proof.Machine.execScoutEnable a on checkPasses s
  | .scoutTenantArrays tenant arrays => Sys2Proof.Machine.execScoutTenantArrays tenant arrays s
  | .scoutGuard value => Sys2Proof.Machine.execScoutGuard value s
  | .fenceWait t w => Sys2Proof.Machine.execFenceWait t w s
  | .poll t w => Sys2Proof.Machine.execPoll t w s
  | .pollSatisfied t => Sys2Proof.Machine.execPollSatisfied t s
  | .loop t w => Sys2Proof.Machine.execLoop t w s
  | .endloop t w => Sys2Proof.Machine.execEndloop t w s
  | .brk t w => Sys2Proof.Machine.execBrk t w s
  | .sli t w => Sys2Proof.Machine.execSli t w s
  | .sadd t w => Sys2Proof.Machine.execSadd t w s
  | .smul t w => Sys2Proof.Machine.execSmul t w s
  | .sand t w => Sys2Proof.Machine.execSand t w s
  | .sxor t w => Sys2Proof.Machine.execSxor t w s
  | .sshr t w => Sys2Proof.Machine.execSshr t w s
  | .setp t w => Sys2Proof.Machine.execSetp t w s
  | .plogic t w => Sys2Proof.Machine.execPlogic t w s
  | .seg t w => Sys2Proof.Machine.execSeg t w s
  | .done t w => Sys2Proof.Machine.execDone t w s
  | .abort t w => Sys2Proof.Machine.execAbort t w s
  | .tcwComplete t op cycles => Sys2Proof.Machine.execTcwComplete t op cycles s
  | .segmentOverrun t => Sys2Proof.Machine.execSegmentOverrun t s
  | .segmentBoundaryTake t => Sys2Proof.Machine.execSegmentBoundaryTake t s
  | .checkpointDrainDone t => Sys2Proof.Machine.execCheckpointDrainDone t s
  | .jobResume job tiles => Sys2Proof.Machine.execJobResume job tiles s
  | .scrubPassDue t => Sys2Proof.Machine.execScrubPassDue t s
  | .scrubGranule t => Sys2Proof.Machine.execScrubGranule t s
  | .scrubLate t => Sys2Proof.Machine.execScrubLate t s
  | .sfuUnload tenant program slot => Sys2Proof.Machine.execSfuUnload tenant program slot s
  | .solvSlotEnable k => Sys2Proof.Machine.execSolvSlotEnable k s
  | .solvSlotDisable k => Sys2Proof.Machine.execSolvSlotDisable k s
  | .solvSlotAbort k => Sys2Proof.Machine.execSolvSlotAbort k s
  | .solvSlotKick k => Sys2Proof.Machine.execSolvSlotKick k s
  | .solverPoll k => Sys2Proof.Machine.execSolverPoll k s
  | .solverBatchFull k => Sys2Proof.Machine.execSolverBatchFull k s
  | .solverBatchDelta k => Sys2Proof.Machine.execSolverBatchDelta k s
  | .solverBatchDone => Sys2Proof.Machine.execSolverBatchDone s
  | .scaleChEnable c => Sys2Proof.Machine.execScaleChEnable c s
  | .scaleChDisable c => Sys2Proof.Machine.execScaleChDisable c s
  | .scalePortEnable p on => Sys2Proof.Machine.execScalePortEnable p on s
  | .portLinkUp p => Sys2Proof.Machine.execPortLinkUp p s
  | .portLinkDown p => Sys2Proof.Machine.execPortLinkDown p s
  | .neighborSolicitation p target => Sys2Proof.Machine.execNeighborSolicitation p target s
  | .lrtSqWake c => Sys2Proof.Machine.execLrtSqWake c s
  | .lrtSendEntry c => Sys2Proof.Machine.execLrtSendEntry c s
  | .lrtData d => Sys2Proof.Machine.execLrtData d s
  | .lrtFlag d => Sys2Proof.Machine.execLrtFlag d s
  | .lrtAck d => Sys2Proof.Machine.execLrtAck d s
  | .lrtNak d => Sys2Proof.Machine.execLrtNak d s
  | .lrtProbe d => Sys2Proof.Machine.execLrtProbe d s
  | .lrtProbeReply d => Sys2Proof.Machine.execLrtProbeReply d s
  | .lrtAckTimer c => Sys2Proof.Machine.execLrtAckTimer c s
  | .lrtRtoExpiry c => Sys2Proof.Machine.execLrtRtoExpiry c s
  | .lrtProbeTimer p => Sys2Proof.Machine.execLrtProbeTimer p s
  | .meterPowerUp coverOpen traceBroken => Sys2Proof.Machine.execMeterPowerUp coverOpen traceBroken s
  | .meterSample v c vOvr iOvr aux => Sys2Proof.Machine.execMeterSample v c vOvr iOvr aux s
  | .senseOpenDetect pair => Sys2Proof.Machine.execSenseOpenDetect pair s
  | .senseClosed pair => Sys2Proof.Machine.execSenseClosed pair s
  | .substitutionEnd => Sys2Proof.Machine.execSubstitutionEnd s
  | .occupancyReportSend => Sys2Proof.Machine.execOccupancyReportSend s
  | .occupancyReport => Sys2Proof.Machine.execOccupancyReport s
  | .journalSetDue => Sys2Proof.Machine.execJournalSetDue s
  | .journalWriteDone verified => Sys2Proof.Machine.execJournalWriteDone verified s
  | .meterWatchdog ramCrcOk => Sys2Proof.Machine.execMeterWatchdog ramCrcOk s
  | .coverSwitchChange ch => Sys2Proof.Machine.execCoverSwitchChange ch s
  | .readRecord seq => Sys2Proof.Machine.execReadRecord seq s
  | .readLive => Sys2Proof.Machine.execReadLive s
  | .readPubkey => Sys2Proof.Machine.execReadPubkey s
  | .writeCal block signature => Sys2Proof.Machine.execWriteCal block signature s
  | .writeFw image signature => Sys2Proof.Machine.execWriteFw image signature s
  | .mirrorFrameSend => Sys2Proof.Machine.execMirrorFrameSend s
  | .gntMirrorLost => Sys2Proof.Machine.execGntMirrorLost s
  | .deadlineMiss job => Sys2Proof.Machine.execDeadlineMiss job s
  | .errRingEnable tenant irq => Sys2Proof.Machine.execErrRingEnable tenant irq s
  | .errRingDisable tenant => Sys2Proof.Machine.execErrRingDisable tenant s
  | .errIrqTimer tenant => Sys2Proof.Machine.execErrIrqTimer tenant s
  | .errAlertClear => Sys2Proof.Machine.execErrAlertClear s
  | .testUnlockActivate => Sys2Proof.Machine.execTestUnlockActivate s
  | .testUnlockEnd => Sys2Proof.Machine.execTestUnlockEnd s
  | .testUnlockExpiry => Sys2Proof.Machine.execTestUnlockExpiry s
  | .pertEccFlip value => Sys2Proof.Machine.execPertEccFlip value s
  | .thmPeakTemp die => Sys2Proof.Machine.execThmPeakTemp die s
  | .memPasidTable tenant base stores => Sys2Proof.Machine.execMemPasidTable tenant base stores s
  | .kvHbmQuota tenant value => Sys2Proof.Machine.execKvHbmQuota tenant value s
  | .overdueSweep a => Sys2Proof.Machine.execOverdueSweep a s
  | .tenantClearDeadline u => Sys2Proof.Machine.execTenantClearDeadline u s
  | .neighborAdvertisement p target linkAddr => Sys2Proof.Machine.execNeighborAdvertisement p target linkAddr s

end Sys2Proof.Machine
end

