-- ==== Sys2Proof/Safety.lean ====
section
/-! DEFINITION. What counts as a safe step: the block answers a next state. -/

namespace Sys2Proof

/-- The step answers a next state: no fault, no refusal. -/
def StepGoesOn (s : Machine.State) : Prop := ∃ t, Machine.step s = .next t

end Sys2Proof
end

