-- ==== Sys2Proof/Certificates/Slice0/Obligations.lean ====
section
/-! DEFINITION. The statements for the provers, family by family of the opcode table, and the vocabulary they share.
Each statement that a command completes gives hypotheses on the state and the operands alone. -/

namespace Sys2Proof.Stm

open Sys2Proof.Machine

/-- The command answers a next state, and that state satisfies `P`. -/
def Nexts (c : Instr) (s : State) (P : State → Prop) : Prop := ∃ t, exec c s = .next t ∧ P t

/-- Nothing but the device changes: the metrology die, its port, both one-way channels and the queue stay. -/
def OnlyDev (s t : State) : Prop := t = { s with dev := t.dev }

/-- Nothing but the inputs, pins, rails and latches changes. -/
def OnlyPwr (s t : State) : Prop := t = { s with dev := { s.dev with pwr := t.dev.pwr } }

/-- Nothing but the boot registers changes. -/
def OnlyBoot (s t : State) : Prop := t = { s with dev := { s.dev with boot := t.dev.boot } }

/-- Nothing but clocks and power loops changes. -/
def OnlyClk (s t : State) : Prop := t = { s with dev := { s.dev with clk := t.dev.clk } }

/-- Nothing but the one tile changes. -/
def OnlyTile (k : TileId) (s t : State) : Prop :=
  t = { s with dev := { s.dev with tiles := t.dev.tiles } } ∧
    ∀ j : TileId, j ≠ k → t.dev.tile j.val = s.dev.tile j.val

/-- A response of the management or metrology port, or a message on another port, is put out last. -/
def Emits (s t : State) (e : Emit) : Prop := t.dev.emits = s.dev.emits ++ [e]

/-- Work in flight and what the hub, the chiplets and their links held are gone (R69, R403, Table 4.1). -/
def WorkLost (d : Dev) : Prop :=
  d.rings = [] ∧ d.jobs = [] ∧ d.tiles = [] ∧ d.cores = [] ∧ d.sfu = [] ∧ d.fns = [] ∧ d.kv = {} ∧ d.stu = {} ∧
    d.scout = {} ∧ d.solv = {} ∧ d.scale = {} ∧ d.numVfs = 0 ∧ ∀ a < hostBase, d.mem.byte a = 0

/-- What no reset but the loss of the AON supply touches (R50, R70, R78, Table 4.1). -/
def AonKept (s t : State) : Prop :=
  OnlyDev s t ∧ t.dev.jtag = s.dev.jtag ∧ t.dev.mgt = s.dev.mgt ∧ t.dev.pwr.tick = s.dev.pwr.tick ∧
    t.dev.pwr.aon = s.dev.pwr.aon ∧ t.dev.boot.fuses = s.dev.boot.fuses ∧ t.dev.boot.slotA = s.dev.boot.slotA ∧
    t.dev.boot.slotB = s.dev.boot.slotB ∧ t.dev.emits = s.dev.emits ∧
    ∀ a, hostBase ≤ a → t.dev.mem.byte a = s.dev.mem.byte a

/-- The input may start the rails: both inputs of R25 hold, no latch of Table 2.4 stands, the capacitance is empty. -/
def MayCharge (p : Pwr) : Bool := p.v54 && p.pwrEn && !p.thermalLatch && !p.ocLatch && !p.overvolt && !p.charged

end Sys2Proof.Stm

open Sys2Proof Sys2Proof.Machine Sys2Proof.Stm

/-! ### Power, pins and the host link -/

/-- From R25, R26, R28, R36, R402: an input that appears, or a cleared condition, begins the charge where R25 and the latches
allow it and changes nothing else; the latches clear after 10 ms without the input or with PWR_EN low. -/
def Obligations.InputsAndLatches : Prop :=
  (∀ s : State, exec .input54vPresent s = .next { s with dev := { s.dev with pwr := { s.dev.pwr with
      v54 := true, charging := s.dev.pwr.charging || MayCharge { s.dev.pwr with v54 := true } } } }) ∧
  (∀ s : State, exec .pwrEnHigh s = .next { s with dev := { s.dev with pwr := { s.dev.pwr with
      pwrEn := true, charging := s.dev.pwr.charging || MayCharge { s.dev.pwr with pwrEn := true } } } }) ∧
  (∀ s : State, exec .inputOvervoltageClear s = .next { s with dev := { s.dev with pwr := { s.dev.pwr with
      overvolt := false, charging := s.dev.pwr.charging || MayCharge { s.dev.pwr with overvolt := false } } } }) ∧
  (∀ s : State, exec .auxPresent s = .next { s with dev := { s.dev with pwr := { s.dev.pwr with aux := true } } }) ∧
  (∀ s : State, s.dev.pwr.v54 = true → exec .auxAbsent s =
      .next { s with dev := { s.dev with pwr := { s.dev.pwr with aux := false } } }) ∧
  (∀ s : State, s.dev.pwr.charging = true → exec .bulkChargeDone s =
      .next { s with dev := { s.dev with pwr := { s.dev.pwr with charging := false, charged := true } } }) ∧
  (∀ s : State, s.dev.pwr.v54 = false → s.dev.pwr.v54Tick + 250000 ≤ s.dev.pwr.tick → exec .input54vRemoved s =
      .next { s with dev := { s.dev with pwr := { s.dev.pwr with thermalLatch := false, ocLatch := false } } }) ∧
  (∀ s : State, s.dev.pwr.pwrEn = false → s.dev.pwr.pwrEnTick + 250000 ≤ s.dev.pwr.tick → exec .tripLatchClear s =
      .next { s with dev := { s.dev with pwr := { s.dev.pwr with thermalLatch := false, ocLatch := false } } }) ∧
  (∀ s : State, s.dev.pwr.pwrEn = false → s.dev.pwr.tick < s.dev.pwr.pwrEnTick + 250000 → exec .tripLatchClear s = .next s)

/-- From R403, R404, R69, R92, R402, Table 2.4: each cause of a turn-off decides it at once: MOD_PWR_OK low, work in flight
lost without a completion, the cause kept; the overcurrent trip latches, also before the rails are up; the second step drops
the rails; a loss of the AON supply leaves the count of the boot's attempts as it is mirrored. -/
def Obligations.TurnOffs : Prop :=
  (∀ s : State, s.dev.live = true → s.dev.pwr.pwrEn = true → Nexts .pwrEnLow s fun t =>
    AonKept s t ∧ WorkLost t.dev ∧ t.dev.pwr.modPwrOk = false ∧ t.dev.pwr.falling = true ∧ t.dev.pwr.rails = s.dev.pwr.rails ∧
      t.dev.pwr.lastOff = .pwrEn ∧ t.dev.pwr.pwrEn = false ∧ t.dev.pwr.pwrEnTick = s.dev.pwr.tick ∧ t.dev.live = false) ∧
  (∀ s : State, s.dev.live = true → s.dev.pwr.v54 = true → s.dev.pwr.aux = true → Nexts .input54vUndervoltage s fun t =>
    AonKept s t ∧ WorkLost t.dev ∧ t.dev.pwr.modPwrOk = false ∧ t.dev.pwr.falling = true ∧ t.dev.pwr.lastOff = .input ∧
      t.dev.pwr.v54 = false ∧ t.dev.pwr.v54Tick = s.dev.pwr.tick ∧ t.dev.pwr.charged = false ∧ t.dev.live = false) ∧
  (∀ s : State, s.dev.live = true → Nexts .inputOvervoltage s fun t =>
    AonKept s t ∧ WorkLost t.dev ∧ t.dev.pwr.modPwrOk = false ∧ t.dev.pwr.falling = true ∧ t.dev.pwr.lastOff = .input ∧
      t.dev.pwr.overvolt = true ∧ t.dev.pwr.ocLatch = s.dev.pwr.ocLatch ∧ t.dev.live = false) ∧
  (∀ s : State, s.dev.live = true → s.dev.pwr.aon = true → Nexts .overcurrentTrip s fun t =>
    AonKept s t ∧ WorkLost t.dev ∧ t.dev.pwr.modPwrOk = false ∧ t.dev.pwr.falling = true ∧ t.dev.pwr.lastOff = .overcurrent ∧
      t.dev.pwr.ocLatch = true ∧ t.dev.live = false) ∧
  (∀ s : State, s.dev.live = false → s.dev.pwr.aon = true → Nexts .overcurrentTrip s fun t =>
    OnlyPwr s t ∧ t.dev.pwr.ocLatch = true ∧ t.dev.pwr.charging = false ∧ t.dev.mayStart = false ∧
      t.dev.pwr.rails = s.dev.pwr.rails ∧ t.dev.pwr.falling = s.dev.pwr.falling) ∧
  (∀ s : State, s.dev.pwr.aon = true → s.dev.pwr.v54 = true → s.dev.pwr.aux = false → Nexts .input54vUndervoltage s fun t =>
    OnlyDev s t ∧ WorkLost t.dev ∧ t.dev.pwr.v54 = false ∧ t.dev.pwr.aon = false ∧ t.dev.live = false ∧
      t.dev.boot.mirror = s.dev.boot.mirror ∧ t.dev.boot.count = s.dev.boot.mirror) ∧
  (∀ s : State, s.dev.pwr.falling = true → Nexts .mainRailsFall s fun t =>
    OnlyPwr s t ∧ t.dev.pwr = { s.dev.pwr with rails := false, falling := false, linkReset := true }) ∧
  (∀ s : State, s.dev.live = true → s.dev.boot.attempt = true → Nexts .pwrEnLow { s with dev := { s.dev with pwr :=
      { s.dev.pwr with pwrEn := true } } } fun t => t.dev.boot.count = s.dev.boot.prior ∧ t.dev.boot.mirror = s.dev.boot.prior)

/-- From R24, R25, R34, R50, R71, R73, R74, R402, R404: the AON supply goes and returns; the rails start and with them the boot,
whose cause, tick and count the reset objects give; PERST_N resets a running module and holds the link. -/
def Obligations.ResetsOfTheModule : Prop :=
  (∀ s : State, s.dev.pwr.aon = true → s.dev.pwr.v54 = false → Nexts .auxAbsent s fun t =>
    OnlyDev s t ∧ t.dev.pwr.aon = false ∧ t.dev.pwr.aux = false ∧ t.dev.pwr.tick = 0 ∧ WorkLost t.dev ∧
      t.dev.boot.count = s.dev.boot.mirror ∧ t.dev.boot.fuses = s.dev.boot.fuses) ∧
  (∀ (s : State) (x : Straps), s.dev.pwr.aon = false → s.dev.pwr.v54 = true ∨ s.dev.pwr.aux = true →
    exec (.coldReset x) s = .next { s with dev := { s.dev with
      pwr := { s.dev.pwr with
        aon := true, tick := 0, straps := x, coldBoot := true, charging := s.dev.pwr.charging || MayCharge s.dev.pwr }
      boot := { s.dev.boot with count := s.dev.boot.mirror, rstCause := 0, rstTick := 0, rstWarm := 0 }
      jtag := {} } }) ∧
  (∀ s : State, s.dev.mayStart = true → s.dev.pwr.coldBoot = true → Nexts .mainRailsInRegulation s fun t =>
    AonKept s t ∧ WorkLost t.dev ∧ t.dev.pwr.rails = true ∧ t.dev.pwr.modPwrOk = true ∧ t.dev.pwr.thermtrip = false ∧
      t.dev.boot.running = true ∧ t.dev.boot.stage = 0 ∧ t.dev.boot.start = s.dev.pwr.tick ∧
      t.dev.boot.rstCause = s.dev.boot.rstCause ∧ t.dev.boot.rstTick = s.dev.boot.rstTick ∧
      t.dev.boot.rstWarm = s.dev.boot.rstWarm) ∧
  (∀ s : State, s.dev.mayStart = true → s.dev.pwr.coldBoot = false → Nexts .mainRailsInRegulation s fun t =>
    AonKept s t ∧ WorkLost t.dev ∧ t.dev.pwr.rails = true ∧ t.dev.pwr.modPwrOk = true ∧ t.dev.boot.running = true ∧
      t.dev.boot.stage = 0 ∧ t.dev.boot.rstTick = s.dev.pwr.tick ∧
      t.dev.boot.rstCause = (match s.dev.pwr.lastOff with
        | .pwrEn => 1
        | .input => 10
        | .overcurrent => 8
        | .thermal => 7) ∧
      t.dev.boot.rstWarm = Nat.min (s.dev.boot.rstWarm + 1) (2 ^ 32 - 1)) ∧
  (∀ s : State, s.dev.pwr.perst = false → s.dev.live = true → Nexts .perstAssert s fun t =>
    AonKept s t ∧ WorkLost t.dev ∧ t.dev.pwr = { s.dev.pwr with perst := true, linkReset := true, perstHeld := false } ∧
      t.dev.boot.running = true ∧ t.dev.boot.stage = 0 ∧ t.dev.boot.rstCause = 2 ∧ t.dev.boot.rstTick = s.dev.pwr.tick ∧
      t.dev.boot.rstWarm = Nat.min (s.dev.boot.rstWarm + 1) (2 ^ 32 - 1) ∧
      (s.dev.boot.attempt = true → t.dev.boot.count = s.dev.boot.prior ∧ t.dev.boot.mirror = s.dev.boot.prior)) ∧
  (∀ s : State, s.dev.live = true → Nexts .rstRequestWarm s fun t =>
    AonKept s t ∧ WorkLost t.dev ∧ t.dev.pwr = s.dev.pwr ∧ t.dev.boot.rstCause = 3 ∧ t.dev.boot.rstTick = s.dev.pwr.tick ∧
      t.dev.boot.beybyReq = false ∧ t.dev.boot.running = true ∧ t.dev.boot.stage = 0) ∧
  (∀ s : State, s.dev.live = true → Nexts .rstRequestBeyby s fun t =>
    AonKept s t ∧ WorkLost t.dev ∧ t.dev.pwr = s.dev.pwr ∧ t.dev.boot.rstCause = 4 ∧ t.dev.boot.rstTick = s.dev.pwr.tick ∧
      t.dev.boot.beybyReq = true ∧ t.dev.boot.running = true ∧ t.dev.boot.stage = 0) ∧
  (∀ s : State, s.dev.pwr.perst = false → s.dev.live = false → exec .perstAssert s = .next { s with dev := { s.dev with
      pwr := { s.dev.pwr with perst := true, linkReset := true, perstHeld := false } } }) ∧
  (∀ s : State, s.dev.pwr.perst = true → exec .perstAssert s = .next s) ∧
  (∀ s : State, s.dev.mayStart = false → exec .mainRailsInRegulation s = .next s) ∧
  (∀ s : State, s.dev.live = false → exec .rstRequestWarm s = .next s ∧ exec .rstRequestBeyby s = .next s)

/-- From R34, R44, R84, R126 to R129, Table 4.4: PERST_N released 100 ms after MOD_PWR_OK starts the link, earlier it is held;
the link trains, configuration space opens, and a request is answered with RRS before that. -/
def Obligations.HostLink : Prop :=
  (∀ s : State, s.dev.pwr.perst = true → s.dev.live = true → s.dev.pwr.okTick + 2500000 ≤ s.dev.pwr.tick →
    Nexts .perstDeassert s fun t =>
      t = { s with dev := { s.dev with pwr := t.dev.pwr, jtag := t.dev.jtag } } ∧
      t.dev.pwr = { s.dev.pwr with perst := false, linkReset := false, perstHeld := false, perstTick := s.dev.pwr.tick } ∧
      (s.dev.jtag.eff = .extest ∨ s.dev.jtag.eff = .highz ∨ s.dev.jtag.eff = .clamp → t.dev.jtag.eff = .bypass ∧
        t.dev.jtag.ir = 0xFF)) ∧
  (∀ s : State, s.dev.pwr.perst = true → s.dev.pwr.tick < s.dev.pwr.okTick + 2500000 → Nexts .perstDeassert s fun t =>
      t = { s with dev := { s.dev with pwr := t.dev.pwr, jtag := t.dev.jtag } } ∧
      t.dev.pwr = { s.dev.pwr with perst := false, perstHeld := true }) ∧
  (∀ s : State, s.dev.live = true → s.dev.pwr.perstHeld = true → s.dev.pwr.perst = false →
    s.dev.pwr.okTick + 2500000 ≤ s.dev.pwr.tick → exec .perstHoldExpiry s = .next { s with dev := { s.dev with pwr :=
      { s.dev.pwr with linkReset := false, perstHeld := false, perstTick := s.dev.pwr.tick } } }) ∧
  (∀ (s : State) (g : Fin 7) (l : Fin 17) (x : CxlMode), s.dev.live = true → s.dev.pwr.linkReset = false →
    s.dev.boot.fuses.testBit 272 = true → g ≠ 0 → (l = 1 ∨ l = 2 ∨ l = 4 ∨ l = 8 ∨ l = 16) →
    Nexts (.hostLinkTrained g l x) s fun t => OnlyBoot s t ∧
      (s.dev.boot.beyby = true → t.dev.boot.pcieGen = 1 ∧ t.dev.boot.pcieLanes = 1 ∧ t.dev.boot.cxl = 0) ∧
      (s.dev.boot.beyby = false → t.dev.boot.pcieGen = g.val ∧ t.dev.boot.pcieLanes = l.val ∧
        (s.dev.pwr.straps.hostSel = true → t.dev.boot.cxl = 0) ∧
        (s.dev.pwr.straps.hostSel = false → (t.dev.boot.cxl = 0 ↔ x = .none)) ∧
        (s.dev.boot.complete = true → t.dev.boot.cxl ≠ 0 → t.dev.boot.memActive = true))) ∧
  (∀ s : State, s.dev.live = true → s.dev.boot.running = true → s.dev.pwr.linkReset = false → s.dev.boot.cfgOpen = false →
    s.dev.pwr.perstTick + 25000000 ≤ s.dev.pwr.tick → Nexts .configOpenTimeout s fun t => OnlyBoot s t ∧
      t.dev.boot = { s.dev.boot with cfgOpen := true, rrsTicks := Nat.min (s.dev.pwr.tick - s.dev.pwr.perstTick) (2 ^ 32 - 1) }) ∧
  (∀ (s : State) (n : FnId) (op : CfgOp), s.dev.live = true → s.dev.boot.pcieGen ≠ 0 → s.dev.boot.cfgOpen = false →
    exec (.configRequest n op) s =
      .next { s with dev := { s.dev with emits := s.dev.emits ++ [.cfgCompletion n.val true 0] } }) ∧
  (∀ (s : State), s.dev.live = true → s.dev.boot.pcieGen ≠ 0 → s.dev.boot.cfgOpen = true → (s.dev.fn 0).flr = false →
    (exec (.configRequest 0 .readIds) s =
      .next { s with dev := { s.dev with emits := s.dev.emits ++ [.cfgCompletion 0 false 0xA47C1FD8] } }) ∧
    (exec (.configRequest 0 .readClassRev) s =
      .next { s with dev := { s.dev with emits := s.dev.emits ++ [.cfgCompletion 0 false 0x12000000] } }) ∧
    (∀ b, exec (.configRequest 0 (.setBusMaster b)) s = .next { s with dev := { s.dev with
      fns := s.dev.fns.put 0 { s.dev.fn 0 with busMaster := b }, emits := s.dev.emits ++ [.cfgCompletion 0 false 0] } }))

/-- R43, R45, Table 2.8: the codes of the test access port. IDCODE reads 0x1A47C0E5: version 1, part number 0xA47C, manufacturer
0x072, 1. EXTEST, HIGHZ and CLAMP loaded while PERST_N is deasserted act as BYPASS; codes above 4 are BYPASS. -/
def Obligations.TestAccessPort : Prop :=
  (∀ s : State, s.dev.pwr.aon = true → exec .jtagTapReset s =
    .next { s with dev := { s.dev with jtag := { s.dev.jtag with ir := 0x01, eff := .idcode } } }) ∧
  (∀ s : State, s.dev.pwr.aon = true → exec .jtagIdcode s = .next { s with dev := { s.dev with
    jtag := { s.dev.jtag with ir := 0x01, eff := .idcode }, emits := s.dev.emits ++ [.jtag 0x1A47C0E5] } }) ∧
  (∀ s : State, s.dev.pwr.aon = true → exec .jtagExtest s = .next { s with dev := { s.dev with
    jtag := { s.dev.jtag with ir := 0x00, eff := if s.dev.pwr.perst then .extest else .bypass
                              bypassReg := s.dev.pwr.perst && s.dev.jtag.bypassReg } } }) ∧
  (∀ s : State, s.dev.pwr.aon = true → exec .jtagHighz s = .next { s with dev := { s.dev with
    jtag := { s.dev.jtag with ir := 0x03, eff := if s.dev.pwr.perst then .highz else .bypass, bypassReg := false } } }) ∧
  (∀ s : State, s.dev.pwr.aon = true → exec .jtagClamp s = .next { s with dev := { s.dev with
    jtag := { s.dev.jtag with ir := 0x04, eff := if s.dev.pwr.perst then .clamp else .bypass, bypassReg := false } } }) ∧
  (∀ (s : State) (op : BitVec 8), s.dev.pwr.aon = true → 4 < op.toNat → exec (.jtagBypass op) s =
    .next { s with dev := { s.dev with jtag := { s.dev.jtag with ir := op, eff := .bypass, bypassReg := false } } }) ∧
  (∀ d : Dev, (d.jtag.eff = .extest ∨ d.jtag.eff = .clamp → d.pinDrive = .boundary d.jtag.boundary) ∧
    (d.jtag.eff = .highz → d.pinDrive = .floating) ∧
    (d.jtag.eff = .idcode ∨ d.jtag.eff = .sample ∨ d.jtag.eff = .bypass → d.pinDrive = .mission)) ∧
  ((0x1A47C0E5 : Nat) = 0x1 * 2 ^ 28 + 0xA47C * 2 ^ 12 + 0x072 * 2 ^ 1 + 1)

/-- SAMPLE captures the fourteen pins (their order: log 56), and PRELOAD loads the boundary register. -/
def Sys2Proof.Stm.SampleCode : Prop :=
  (∀ (s : State) (x : Straps) (scl sda : Bool) (pre : BitVec 14), s.dev.pwr.aon = true →
    Nexts (.jtagSamplePreload x ⟨scl, sda⟩ pre) s fun t =>
    t = { s with dev := { s.dev with jtag := t.dev.jtag, emits := t.dev.emits } } ∧
      Emits s t (.jtag t.dev.jtag.scanned.toNat) ∧ t.dev.jtag.ir = 0x02 ∧ t.dev.jtag.eff = .sample ∧
      t.dev.jtag.boundary = pre ∧
      t.dev.jtag.scanned.getLsbD 0 = !s.dev.pwr.perst ∧ t.dev.jtag.scanned.getLsbD 1 = s.dev.pwr.pwrEn ∧
      t.dev.jtag.scanned.getLsbD 2 = s.dev.pwr.modPwrOk ∧ t.dev.jtag.scanned.getLsbD 3 = !s.dev.pwr.thermtrip ∧
      t.dev.jtag.scanned.getLsbD 4 = !s.dev.alertAsserted ∧ t.dev.jtag.scanned.getLsbD 12 = scl ∧
      t.dev.jtag.scanned.getLsbD 13 = sda)

namespace Sys2Proof.Stm

open Sys2Proof.Machine

/-- A common command code on the management port, the AON domain powered: the port becomes `p`, the answer is `a`. -/
def MgtCcc (c : Instr) (s : State) (p : I3cPort) (a : Option Nat) : Prop :=
  exec c s = .next { s with dev := { s.dev with mgt := p, emits := s.dev.emits ++ [.i3c .mgt a] } }

/-- The same on the metrology port, the meter and 54 V there. -/
def MetCcc (c : Instr) (s : State) (p : I3cPort) (a : Option Nat) : Prop :=
  exec c s = .next { s with met := p, dev := { s.dev with emits := s.dev.emits ++ [.i3c .met a] } }

end Sys2Proof.Stm

/-- R41, R23: the common command codes act on one port and leave the other as it was; a port without an address takes the
one given; without 54 V the metrology port does not respond. Answers that the spec does not give are free, and a direct read
needs the port's dynamic address (log 6). -/
def Sys2Proof.Stm.CommonCodes : Prop :=
  (∀ s : State, s.dev.pwr.aon = true →
    (∀ a, s.dev.mgt.addr = 0 → MgtCcc (.entdaa .mgt a) s { s.dev.mgt with addr := a } none) ∧
    (∀ a, s.dev.mgt.addr ≠ 0 → MgtCcc (.entdaa .mgt a) s s.dev.mgt none) ∧
    (∀ x a, x.toNat = 8 + s.dev.pwr.straps.slotId.toNat → s.dev.mgt.addr = 0 →
      MgtCcc (.setdasa .mgt x a) s { s.dev.mgt with addr := a } none) ∧
    MgtCcc (.rstdaa .mgt) s { s.dev.mgt with addr := 0 } none ∧
    (∀ e, MgtCcc (.enec .mgt e) s { s.dev.mgt with events := s.dev.mgt.events ||| e } none) ∧
    (∀ e, MgtCcc (.disec .mgt e) s { s.dev.mgt with events := s.dev.mgt.events &&& ~~~e } none) ∧
    (∀ n, MgtCcc (.setmrl .mgt n) s { s.dev.mgt with mrl := n } none) ∧
    (∀ n, MgtCcc (.setmwl .mgt n) s { s.dev.mgt with mwl := n } none) ∧
    (s.dev.mgt.addr ≠ 0 →
      MgtCcc (.getpid .mgt) s s.dev.mgt (some (Config.i3cValue 0 0x8D)) ∧
      MgtCcc (.getbcr .mgt) s s.dev.mgt (some (Config.i3cValue 0 0x8E)) ∧
      MgtCcc (.getdcr .mgt) s s.dev.mgt (some (Config.i3cValue 0 0x8F)) ∧
      MgtCcc (.getstatus .mgt) s s.dev.mgt (some (Config.i3cValue 0 0x90)) ∧
      MgtCcc (.getmrl .mgt) s s.dev.mgt (some s.dev.mgt.mrl.toNat) ∧
      MgtCcc (.getmwl .mgt) s s.dev.mgt (some s.dev.mgt.mwl.toNat))) ∧
  (∀ s : State, s.gnt.powered = true → s.dev.pwr.v54 = true →
    (∀ a, s.met.addr = 0 → MetCcc (.entdaa .met a) s { s.met with addr := a } none) ∧
    (∀ x a, x.toNat = 8 + s.dev.pwr.straps.slotId.toNat → s.met.addr = 0 →
      MetCcc (.setdasa .met x a) s { s.met with addr := a } none) ∧
    MetCcc (.rstdaa .met) s { s.met with addr := 0 } none ∧
    (∀ e, MetCcc (.enec .met e) s { s.met with events := s.met.events ||| e } none) ∧
    (∀ e, MetCcc (.disec .met e) s { s.met with events := s.met.events &&& ~~~e } none) ∧
    (∀ n, MetCcc (.setmrl .met n) s { s.met with mrl := n } none) ∧
    (∀ n, MetCcc (.setmwl .met n) s { s.met with mwl := n } none) ∧
    (s.met.addr ≠ 0 →
      MetCcc (.getpid .met) s s.met (some (Config.i3cValue 1 0x8D)) ∧
      MetCcc (.getbcr .met) s s.met (some (Config.i3cValue 1 0x8E)) ∧
      MetCcc (.getdcr .met) s s.met (some (Config.i3cValue 1 0x8F)) ∧
      MetCcc (.getstatus .met) s s.met (some (Config.i3cValue 1 0x90)) ∧
      MetCcc (.getmrl .met) s s.met (some s.met.mrl.toNat) ∧
      MetCcc (.getmwl .met) s s.met (some s.met.mwl.toNat))) ∧
  (∀ s : State, s.gnt.powered = false ∨ s.dev.pwr.v54 = false → (∀ a, exec (.entdaa .met a) s = .next s) ∧
    (∀ x a, exec (.setdasa .met x a) s = .next s) ∧ exec (.getmrl .met) s = .next s ∧ exec (.getpid .met) s = .next s) ∧
  (∀ (s : State) (b : I3cBus) (k : BitVec 8), exec (.i3cOtherCcc b k) s = .next s)

/-- From R23, R41, R42: SAMPLE captures the pins, and the common command codes of the two I3C ports (free values: log 6). -/
def Obligations.ServicePorts : Prop := SampleCode ∧ CommonCodes

/-! ### Thermal monitor, clocks and power loops -/

namespace Sys2Proof.Stm

open Sys2Proof.Machine

/-- Only what the posting of a record touches may differ (R382, R385): counters of the dictionary, error rings, translation
state of their writes, memory of their slots, interrupt state and messages. -/
def ButReport (d d' : Dev) : Prop :=
  d' = { d with dict := d'.dict, err := { d.err with rings := d'.err.rings }, stu := d'.stu, mem := d'.mem, fns := d'.fns,
                emits := d'.emits }

/-- The lowest of the three limits of R57 for die `n` (0 the host cores, 1 to 4 the chiplets), rounded down to a step. -/
def ClockTarget (d : Dev) (n : Nat) : Nat :=
  let step := if n = 0 then 100 else 50
  let t := ((d.die n).limitNow n).getD (if n = 0 then 3200 else 2000)
  let p := if n = 0 then d.clk.hubPower else d.clk.capLimit
  let o := if n = 0 then d.obj 0x2002 2 0 else d.obj 0x2002 1 0
  Nat.min t (Nat.min p o) / step * step

/-- The rising steps of a clock within the last millisecond (R57). -/
def RisesInMs (d : Dev) (n : Nat) : Nat :=
  ((d.clk.rises.get n []).filter (fun x => decide (d.pwr.tick - x < 25000))).length

/-- A period has passed since the last time, or there has been none. -/
def PeriodOver (d : Dev) (last : Option Nat) (period : Nat) : Prop := ∀ x, last = some x → x + period ≤ d.pwr.tick

/-- A millisecond has passed since the last sample of the sensors (R63). -/
def SampleDue (d : Dev) : Prop := ∀ x, d.therm.lastSample = some x → x + 25000 ≤ d.pwr.tick

end Sys2Proof.Stm

/-- R65: one step of a debounce machine: the count moves by one on a high or low sample, holds in the band and at zero, and at 8
the threshold asserts or releases and the count restarts. Each die runs one machine for each of 95, 105 and 115 degrees, once for
each of its samples, and starts with count 0 and nothing asserted (temperatures in 1/16 degree). -/
def Obligations.DebounceMachine : Prop :=
  (∀ (m : Debounce) (t v : Int), m.count < 8 →
    (t ≤ v → m.asserted = false → (m.step t v).1.count = (if m.count = 7 then 0 else m.count + 1) ∧
      (m.step t v).1.asserted = decide (m.count = 7) ∧ (m.step t v).2 = (decide (m.count = 7), false)) ∧
    (v ≤ t - 48 → m.asserted = true → (m.step t v).1.count = (if m.count = 7 then 0 else m.count + 1) ∧
      (m.step t v).1.asserted = !decide (m.count = 7) ∧ (m.step t v).2 = (false, decide (m.count = 7))) ∧
    (t - 48 < v → v < t → (m.step t v) = (m, false, false)) ∧
    (v ≤ t - 48 → m.asserted = false → m.step t v = ({ m with count := m.count - 1 }, false, false)) ∧
    (t ≤ v → m.asserted = true → m.step t v = ({ m with count := m.count - 1 }, false, false)) ∧
    (m.step t v).1.count < 8) ∧
  (∀ (d : Dev) (rs : List (Option Int)) (n : Nat) (v : Int), d.sampled n = true →
    ((d.sensorsOf n).filterMap (fun b => validReading (rs.getD b none))).max? = some v →
    ((d.sampleDie rs n).die n).m95 = ((d.die n).m95.step 1520 v).1 ∧
    ((d.sampleDie rs n).die n).m105 = ((d.die n).m105.step 1680 v).1 ∧
    ((d.sampleDie rs n).die n).m115 = ((d.die n).m115.step 1840 v).1 ∧
    (∀ k, k ≠ n → (d.sampleDie rs n).die k = d.die k)) ∧
  (∀ n, (State.reset.dev.die n).m95 = { count := 0, asserted := false } ∧
    (State.reset.dev.die n).m105 = { count := 0, asserted := false } ∧
    (State.reset.dev.die n).m115 = { count := 0, asserted := false })

/-- From R63, R65, R67, R71, Table 3.5: a sample, once a millisecond, sets the AON reading; the end of a throttling window moves the limit one step;
the wait of a thermal trip ends at 112 degrees. R36, R69, R70,
R403: the SHUTDOWN machine of a die asserts on its eighth high sample, and the module trips. -/
def Obligations.ThermalMonitor : Prop :=
  (∀ (s : State) (rs : List (Option Int)), s.dev.pwr.aon = true → SampleDue s.dev → Nexts (.thermalSample rs) s fun t =>
    OnlyDev s t ∧ t.dev.therm.aon = validReading (rs.getD 80 none) ∧ t.dev.therm.lastSample = some s.dev.pwr.tick ∧
      t.dev.pwr.tick = s.dev.pwr.tick ∧ t.dev.jtag = s.dev.jtag ∧ t.dev.mgt = s.dev.mgt) ∧
  (∀ (s : State) (rs : List (Option Int)), ¬ SampleDue s.dev → exec (.thermalSample rs) s = .next s) ∧
  (∀ (s : State) (rs : List (Option Int)), s.dev.pwr.aon = true → s.dev.live = false → SampleDue s.dev →
    Nexts (.thermalSample rs) s fun t => OnlyDev s t ∧ t.dev.therm.aon = validReading (rs.getD 80 none) ∧ t.dev.therm.dies = s.dev.therm.dies ∧
      t.dev.pwr = s.dev.pwr ∧ t.dev.clk = s.dev.clk ∧ t.dev.boot = s.dev.boot ∧
      t.dev.therm.faultBits.testBit 80 = (validReading (rs.getD 80 none)).isNone) ∧
  (∀ (s : State) (rs : List (Option Int)) (v : Int), s.dev.live = true → s.dev.pwr.aon = true → s.dev.boot.beyby = true →
    SampleDue s.dev → s.dev.therm.faultBits = 0 → (∀ b < 81, rs[b]? = some (some v)) → -640 ≤ v → v < 1472 →
    (s.dev.die 0).m95 = {} → (s.dev.die 0).m105 = {} → (s.dev.die 0).m115 = {} → Nexts (.thermalSample rs) s fun t =>
      (t.dev.die 0).sample = v ∧ (t.dev.die 0).state = 0 ∧ t.dev.therm.aon = some v ∧ t.dev.pwr = s.dev.pwr ∧
      t.dev.boot = s.dev.boot ∧ t.dev.jobs = s.dev.jobs ∧ t.dev.mem = s.dev.mem ∧ t.gnt = s.gnt) ∧
  (∀ (s : State) (x : Die), (s.dev.die (dieNum x)).winOn = true →
    (s.dev.die (dieNum x)).winStart + 1250000 ≤ s.dev.pwr.tick → Nexts (.throttleWindowEnd x) s fun t =>
      t = { s with dev := { s.dev with therm := { s.dev.therm with dies := t.dev.therm.dies } } } ∧
      (∀ n, n ≠ dieNum x → t.dev.die n = s.dev.die n) ∧
      t.dev.die (dieNum x) = { s.dev.die (dieNum x) with
        winStart := (s.dev.die (dieNum x)).winStart + 1250000, winHigh := false, winLow := false
        winOn := (t.dev.die (dieNum x)).winOn, limit := (t.dev.die (dieNum x)).limit } ∧
      ((s.dev.die (dieNum x)).limit = none → (t.dev.die (dieNum x)).limit = none ∧ (t.dev.die (dieNum x)).winOn = false)) ∧
  (∀ (s : State) (x : Die) (l : Nat), (s.dev.die (dieNum x)).winOn = true →
    (s.dev.die (dieNum x)).winStart + 1250000 ≤ s.dev.pwr.tick → (s.dev.die (dieNum x)).limit = some l →
    Nexts (.throttleWindowEnd x) s fun t =>
      t = { s with dev := { s.dev with therm := { s.dev.therm with dies := t.dev.therm.dies } } } ∧
      (∀ n, n ≠ dieNum x → t.dev.die n = s.dev.die n) ∧
      ((s.dev.die (dieNum x)).m95.asserted = true → (s.dev.die (dieNum x)).winHigh = true →
        (s.dev.die (dieNum x)).winLow = false →
        (t.dev.die (dieNum x)).limit = some (Nat.max (if dieNum x = 0 then 800 else 400)
          (l - if dieNum x = 0 then 100 else 50))) ∧
      ((s.dev.die (dieNum x)).m95.asserted = false → l + (if dieNum x = 0 then 100 else 50) <
        (if dieNum x = 0 then 3200 else 2000) →
        (t.dev.die (dieNum x)).limit = some (l + if dieNum x = 0 then 100 else 50)) ∧
      ((s.dev.die (dieNum x)).m95.asserted = false → (if dieNum x = 0 then 3200 else 2000) ≤
        l + (if dieNum x = 0 then 100 else 50) →
        (t.dev.die (dieNum x)).limit = none ∧ (t.dev.die (dieNum x)).winOn = false)) ∧
  (∀ (s : State) (v : Int), s.dev.pwr.aon = true → s.dev.pwr.waitCool = true → s.dev.pwr.thermalLatch = false →
    -640 ≤ v → v ≤ 1792 → Nexts (.trippedRestart (some v)) s fun t =>
      t.dev.pwr.waitCool = false ∧ t.dev.therm.aon = some v ∧
      t = { s with dev := { s.dev with pwr := t.dev.pwr, therm := { s.dev.therm with aon := some v } } } ∧
      t.dev.pwr = { s.dev.pwr with
        waitCool := false, charging := s.dev.pwr.charging || MayCharge { s.dev.pwr with waitCool := false } }) ∧
  (∀ (s : State) (v : Int), s.dev.pwr.aon = true → s.dev.pwr.waitCool = true → 1792 < v →
    Nexts (.trippedRestart (some v)) s fun t => t.dev.pwr = s.dev.pwr) ∧
  (∀ (s : State) (rs : List (Option Int)) (v : Int), s.dev.live = true → s.dev.pwr.aon = true → s.dev.boot.beyby = true →
    SampleDue s.dev → s.dev.therm.faultBits = 0 → (∀ b < 81, rs[b]? = some (some v)) → 1840 ≤ v → v ≤ 2400 →
    (s.dev.die 0).m115.count = 7 → (s.dev.die 0).m115.asserted = false → Nexts (.thermalSample rs) s fun t =>
      t.dev.pwr.thermtrip = true ∧ t.dev.pwr.thermalLatch = true ∧ t.dev.pwr.waitCool = true ∧ t.dev.live = false ∧
      t.dev.pwr.falling = true ∧ t.dev.pwr.modPwrOk = false ∧ t.dev.pwr.lastOff = .thermal ∧ WorkLost t.dev ∧
      t.dev.pwr.tick = s.dev.pwr.tick ∧ t.dev.boot.lastTrip / 2 ^ 64 % 2 ^ 64 = s.dev.pwr.tick % 2 ^ 64 ∧
      t.gnt = s.gnt ∧ t.met = s.met ∧ t.dev.mgt = s.dev.mgt)

/-- From R57, R58, R62, Tables 3.4 and 3.5: each clock moves one step towards the lowest of its three limits, upwards by at most
200 MHz in a millisecond; the fast guard,
the excursion timer and the average loop move the power limits. -/
def Obligations.ClocksAndPowerLoops : Prop :=
  (∀ s : State, s.dev.live = true → Nexts (.freqStep .hub) s fun t => OnlyClk s t ∧
    t.dev.clk = { s.dev.clk with hub := t.dev.clk.hub, rises := t.dev.clk.rises } ∧
      (ClockTarget s.dev 0 ≤ s.dev.clk.hub → t.dev.clk.hub = Nat.max (ClockTarget s.dev 0) (s.dev.clk.hub - 100)) ∧
      (s.dev.clk.hub ≤ ClockTarget s.dev 0 → RisesInMs s.dev 0 < 2 →
        t.dev.clk.hub = Nat.min (ClockTarget s.dev 0) (s.dev.clk.hub + 100)) ∧
      (s.dev.clk.hub ≤ ClockTarget s.dev 0 → 2 ≤ RisesInMs s.dev 0 → t.dev.clk.hub = s.dev.clk.hub) ∧
      (s.dev.clk.hub < t.dev.clk.hub → RisesInMs t.dev 0 = RisesInMs s.dev 0 + 1)) ∧
  (∀ (s : State) (c : ChipId), s.dev.live = true → Nexts (.freqStep (.fab c)) s fun t => OnlyClk s t ∧
    t.dev.clk = { s.dev.clk with fab := t.dev.clk.fab, rises := t.dev.clk.rises } ∧ (∀ k : ChipId, k ≠ c → t.dev.fabMhz k.val = s.dev.fabMhz k.val) ∧
      (ClockTarget s.dev (c.val + 1) ≤ s.dev.fabMhz c.val →
        t.dev.fabMhz c.val = Nat.max (ClockTarget s.dev (c.val + 1)) (s.dev.fabMhz c.val - 50)) ∧
      (s.dev.fabMhz c.val ≤ ClockTarget s.dev (c.val + 1) → RisesInMs s.dev (c.val + 1) < 4 →
        t.dev.fabMhz c.val = Nat.min (ClockTarget s.dev (c.val + 1)) (s.dev.fabMhz c.val + 50)) ∧
      (s.dev.fabMhz c.val ≤ ClockTarget s.dev (c.val + 1) → 4 ≤ RisesInMs s.dev (c.val + 1) →
        t.dev.fabMhz c.val = s.dev.fabMhz c.val) ∧
      (s.dev.fabMhz c.val < t.dev.fabMhz c.val → RisesInMs t.dev (c.val + 1) = RisesInMs s.dev (c.val + 1) + 1)) ∧
  (∀ (s : State) (p : BitVec 32), s.dev.live = true → PeriodOver s.dev s.dev.clk.lastGuard 25 →
    s.dev.clk.guardOn = false → Nexts (.fastGuardPeriod p) s fun t =>
    OnlyClk s t ∧ t.dev.clk.guardOn = decide (1480000 < p.toNat) ∧
      (t.dev.clk.overCap.isSome ↔ s.dev.obj 0x2020 1 0 * 1000 < p.toNat) ∧ t.dev.clk.lastGuard = some s.dev.pwr.tick) ∧
  (∀ (s : State) (p : BitVec 32), s.dev.live = true → PeriodOver s.dev s.dev.clk.lastGuard 25 → s.dev.clk.guardOn = true → s.dev.clk.guardCounted = false →
    s.dev.clk.guardSince + 2500 < s.dev.pwr.tick → Nexts (.fastGuardPeriod p) s fun t =>
      ButReport { s.dev with clk := t.dev.clk } t.dev ∧ OnlyDev s t ∧ t.dev.clk.guardOn = !decide (p.toNat < 1400000) ∧
      t.dev.clk.guardCounted = true ∧ t.dev.obj 0x2020 7 0 = Nat.min (s.dev.obj 0x2020 7 0 + 1) (2 ^ 32 - 1)) ∧
  (∀ (s : State) (k : Nat), s.dev.live = true → s.dev.clk.overCap = some k → k + 200000 ≤ s.dev.pwr.tick →
    Nexts .excursionTimerExpiry s fun t =>
      ButReport { s.dev with clk := { s.dev.clk with capLimit := 400, hubPower := 800, overCap := none } } t.dev ∧
      OnlyDev s t ∧ t.dev.obj 0x2020 6 0 = Nat.min (s.dev.obj 0x2020 6 0 + 1) (2 ^ 32 - 1)) ∧
  (∀ (s : State) (m : PowerMeans), s.dev.pwr.aon = true → PeriodOver s.dev s.dev.clk.lastLoop 25000 → s.dev.live = true → Nexts (.averageLoopPeriod m) s fun t =>
    OnlyClk s t ∧ t.dev.clk.means = m ∧ t.dev.clk.lastLoop = some s.dev.pwr.tick ∧ t.dev.clk.fab = s.dev.clk.fab ∧ t.dev.clk.hub = s.dev.clk.hub ∧
      (m.avg100Mw.toNat ≤ s.dev.obj 0x2020 1 0 * 1000 → t.dev.clk.capLimit = Nat.min 2000 (s.dev.clk.capLimit + 50) ∧
        t.dev.clk.hubPower = Nat.min 3200 (s.dev.clk.hubPower + 100)) ∧
      (s.dev.obj 0x2020 1 0 * 1000 < m.avg100Mw.toNat → t.dev.clk.capLimit = Nat.max 400 (s.dev.clk.capLimit - 50) ∧
        t.dev.clk.hubPower = s.dev.clk.hubPower))

/-- From R52, R53, R54, R147, R169: a tile idle for its dwell sleeps with its micro-TLB empty, a chiplet whose tiles have slept
enters C-LOW with its TLB empty, and work wakes both. -/
def Obligations.SleepAndWake : Prop :=
  (∀ (s : State) (k : TileId), s.dev.tileOk k.val = true → (s.dev.tile k.val).power = .idle →
    (s.dev.tile k.val).scrubWoke = false → (s.dev.tile k.val).scrubOn = false → (s.dev.tile k.val).clearing = false → s.dev.obj 0x2010 1 0 ≠ 0xFFFFFFFF →
    s.dev.obj 0x2010 1 0 + Nat.max (s.dev.tile k.val).idleSince s.dev.boot.start ≤ s.dev.pwr.tick →
    s.dev.obj 0x2010 3 0 < ((s.dev.tilesOf (k.val / 32)).filter s.dev.isAwake).length →
    (s.dev.tile k.val).job.isSome = true ∨ s.dev.reservedTiles < s.dev.idleFree.length →
    Nexts (.tileSleepDwellExpiry k) s fun t =>
      t.dev.tile k.val = { s.dev.tile k.val with power := .sleep, idleSince := s.dev.pwr.tick, uTlb := [] } ∧
      t = { s with dev := { s.dev with tiles := t.dev.tiles } } ∧
      (∀ j : TileId, j ≠ k → t.dev.tile j.val = s.dev.tile j.val)) ∧
  (∀ (s : State) (k : TileId), s.dev.obj 0x2010 1 0 = 0xFFFFFFFF ∨ (s.dev.tile k.val).scrubOn = true ∨
      ((s.dev.tile k.val).job = none ∧ s.dev.idleFree.length ≤ s.dev.reservedTiles) ∨
      ((s.dev.tilesOf (k.val / 32)).filter s.dev.isAwake).length ≤ s.dev.obj 0x2010 3 0 →
    exec (.tileSleepDwellExpiry k) s = .next s) ∧
  (∀ (s : State) (c : ChipId), s.dev.live = true → s.dev.has (264 + c.val) = true →
    s.dev.obj 0x2010 2 0 ≠ 0xFFFFFFFF → s.dev.chipSince c.val + s.dev.obj 0x2010 2 0 ≤ s.dev.pwr.tick → (∀ i ∈ s.dev.tilesOf c.val, (s.dev.tile i).power = .sleep) →
    s.dev.arraysBusy c.val = false → exec (.chipLowDwellExpiry c) s = .next { s with dev := { s.dev with
      clk := { s.dev.clk with chipLow := s.dev.clk.chipLow.put c.val true }
      stu := { s.dev.stu with chipTlb := s.dev.stu.chipTlb.drop c.val } } }) ∧
  (∀ (s : State) (c : ChipId), Nexts (.unitWakeDone (.chip c)) s fun t => OnlyClk s t ∧
    KMap.find t.dev.clk.chipLow c.val = none ∧ KMap.find t.dev.clk.chipScrub c.val = none) ∧
  (∀ (s : State) (k : TileId), (s.dev.tile k.val).power = .sleep → Nexts (.unitWakeDone (.tile k)) s fun t =>
    t.dev.tile k.val = { s.dev.tile k.val with power := .idle, idleSince := s.dev.pwr.tick, scrubWoke := false } ∧
    KMap.find t.dev.clk.chipLow (k.val / 32) = none ∧
    t = { s with dev := { s.dev with tiles := t.dev.tiles, clk := t.dev.clk } } ∧
    (∀ j : TileId, j ≠ k → t.dev.tile j.val = s.dev.tile j.val))

/-! ### Boot and resets -/

namespace Sys2Proof.Stm

open Sys2Proof.Machine

/-- A boot runs in stage `n` with K0 present, outside Beyby mode, and `BOOT_COMPLETE` is not written. -/
def InStage (d : Dev) (n : Nat) : Prop :=
  d.live = true ∧ d.boot.running = true ∧ d.boot.beyby = false ∧ d.boot.complete = false ∧ d.boot.stage = n ∧
    d.boot.fuses.testBit 272 = true

/-- A stage ends in an error code: BOOT_LAST_FAIL is recorded and a warm reset of the cause starts (R80). -/
def BootFails (s t : State) (error cause : Nat) : Prop :=
  t.dev.boot.rstCause = cause ∧ t.dev.boot.rstTick = s.dev.pwr.tick ∧ t.dev.boot.stage = 0 ∧ t.dev.boot.running = true ∧
    t.dev.boot.lastFail = (s.dev.pwr.tick % 2 ^ 64) * 2 ^ 64 + error * 2 ^ 16 + s.dev.boot.count * 2 ^ 8 + s.dev.boot.stage ∧
    t.dev.boot.count = s.dev.boot.count ∧ WorkLost t.dev ∧ OnlyDev s t

/-- A configuration block that the command accepts in a device with the given tables. -/
def GoodBlock (d : Dev) (c : BootCfg) : Prop :=
  c.rotBase % 65536 = 0 ∧ c.rotBase + 2 * d.regions ≤ d.hbmTop - d.carve * 2 ^ 30 ∧ coreMapOk c.coreMap = true ∧
    c.clearPolicy ≤ 1 ∧ c.perturbPermit ≤ 1

end Sys2Proof.Stm

/-- R82, R91, R93, Table 4.4: stage 0 counts the attempt or selects Beyby mode by strap, request or count; stage 1 takes the preferred
slot that verifies, then the other, else Beyby mode with the attempt uncounted. -/
def Sys2Proof.Stm.BootFirst : Prop :=
  (∀ s : State, InStage s.dev 0 → Nexts .bootStageRom s fun t => OnlyBoot s t ∧
    (s.dev.pwr.straps.bootSafe = true → t.dev.boot.beyby = true ∧ t.dev.boot.cause = 1 ∧ t.dev.boot.count = s.dev.boot.count ∧
      t.dev.boot.cxl = 0 ∧ t.dev.boot.pcieGen ≤ 1 ∧ t.dev.boot.pcieLanes ≤ 1) ∧
    (s.dev.pwr.straps.bootSafe = false → s.dev.boot.beybyReq = true → t.dev.boot.beyby = true ∧ t.dev.boot.cause = 2) ∧
    (s.dev.pwr.straps.bootSafe = false → s.dev.boot.beybyReq = false → 3 ≤ s.dev.boot.count →
      t.dev.boot.beyby = true ∧ t.dev.boot.cause = 3 ∧ t.dev.boot.count = s.dev.boot.count) ∧
    (s.dev.pwr.straps.bootSafe = false → s.dev.boot.beybyReq = false → s.dev.boot.count < 3 →
      t.dev.boot.beyby = false ∧ t.dev.boot.stage = 1 ∧ t.dev.boot.prior = s.dev.boot.count ∧
      t.dev.boot.count = s.dev.boot.count + 1 ∧ t.dev.boot.mirror = s.dev.boot.count + 1 ∧ t.dev.boot.attempt = true)) ∧
  (∀ s : State, InStage s.dev 1 → s.dev.obj 0x1F30 2 0 = 0 → Nexts .bootStageFw s fun t => OnlyBoot s t ∧
    (s.dev.boot.slotA.valid = true → t.dev.boot.slot = 0 ∧ t.dev.boot.stage = 2) ∧
    (s.dev.boot.slotA.valid = false → s.dev.boot.slotB.valid = true → t.dev.boot.slot = 1 ∧ t.dev.boot.stage = 2) ∧
    (s.dev.boot.slotA.valid = false → s.dev.boot.slotB.valid = false → t.dev.boot.beyby = true ∧ t.dev.boot.cause = 4 ∧
      (s.dev.boot.attempt = true → t.dev.boot.count = s.dev.boot.prior)))

/-- R80, R85, R89, R90, R96, R97, Table 4.3: stages 2 to 5 end in their result or in their error code. -/
def Sys2Proof.Stm.BootTraining : Prop :=
  (∀ s : State, InStage s.dev 2 → Nexts (.bootStageHub none) s fun t =>
    t.dev.boot.stage = 3 ∧ t.dev.srv = { s.dev.srv with sessions := s.dev.srv.sessions.filter (fun e => !e.2.reduced) } ∧
      t = { s with dev := { s.dev with boot := t.dev.boot, srv := t.dev.srv } }) ∧
  (∀ (s : State) (e : StageErr), InStage s.dev 2 → Nexts (.bootStageHub (some e)) s fun t =>
    BootFails s t (match e with
      | .hubSelftest => 1
      | .stu => 2
      | .fwTrap => 8) 6) ∧
  (∀ (s : State) (ls : List UcieLink), InStage s.dev 3 → (∀ c < 4, s.dev.unitIn (264 + c) = true) →
    (∀ c < 4, ls[c]? = some .full) → Nexts (.bootStageUcie ls) s fun t =>
      OnlyBoot s t ∧ t.dev.boot.stage = 4 ∧ ∀ c < 4, t.dev.boot.width c = 0) ∧
  (∀ (s : State) (ls : List UcieLink), InStage s.dev 3 → (∀ c < 4, ls[c]? = some .down) →
    Nexts (.bootStageUcie ls) s fun t => BootFails s t 3 6) ∧
  (∀ (s : State) (ok : List Bool) (f : List Nat), InStage s.dev 4 → s.dev.boot.hbmDead = 0 →
    (∀ h < 8, s.dev.unitIn (256 + h) = true) → (∀ h < 8, s.dev.boot.width (h / 2) ≠ 2) →
    (∀ h < 8, ok[h]? = some true) → Nexts (.bootStageHbm ok f) s fun t => t.dev.boot.stage = 5 ∧
      (∀ h < 8, t.dev.boot.hbmState.get h 9 = 0) ∧ (∀ a < hostBase, t.dev.mem.byte a = 0) ∧ t.dev.mem.lines = [] ∧
      t = { s with dev := { s.dev with boot := t.dev.boot, mem := t.dev.mem } }) ∧
  (∀ (s : State) (ok : List Bool) (f : List Nat), InStage s.dev 4 → (∀ h < 8, ok.getD h false = false) →
    Nexts (.bootStageHbm ok f) s fun t => BootFails s t 4 6) ∧
  (∀ (s : State) (bad : BitVec 320), InStage s.dev 5 → attnSet (s.dev.sweepMap bad.toNat) = true →
    Nexts (.bootStageUnits bad 0 true) s fun t => t.dev.boot.stage = 6 ∧ t.dev.boot.active = s.dev.sweepMap bad.toNat ∧
      t = { s with dev := { s.dev with boot := t.dev.boot, scout := t.dev.scout } } ∧
      (∀ a : ArrayId, t.dev.boot.active.testBit (128 + a.val) = true → (t.dev.array a.val).st = .exactOnly ∧
        (t.dev.array a.val).sense = some (Config.senseConst a.val)) ∧
      (∀ u < 320, u ≠ 272 → bad.getLsbD u = true ∨ s.dev.boot.operOff.testBit u = true →
        t.dev.boot.active.testBit u = false)) ∧
  (∀ (s : State) (x : BitVec 320) (y : BitVec 128) (up : Bool), InStage s.dev 5 → attnSet (s.dev.sweepMap x.toNat) = false ∨ up = false →
    Nexts (.bootStageUnits x y up) s fun t => BootFails s t 5 6)

/-- From R79 to R92: the boot from its first stage to the trained links. -/
def Obligations.BootToTraining : Prop := Stm.BootFirst ∧ Stm.BootTraining

/-- From R81, R83, R84, R85, R91, R92, R130, R184, R315: the lock, the opening of configuration space, the end of the boot, its
watchdog, and the clearing of the count. -/
def Obligations.BootLastStages : Prop :=
  (∀ (s : State) (c : BootCfg), InStage s.dev 6 → GoodBlock s.dev c → Nexts (.bootStageLock (some c)) s fun t =>
    t.dev.boot.lock = true ∧ t.dev.boot.stage = 7 ∧ t.dev.boot.hdmGib = s.dev.carve ∧ t.dev.obj 0x3800 0 0 = c.rotBase ∧
      t.dev.obj 0x3802 0 0 = c.coreMap ∧ t.dev.obj 0x3803 0 0 = c.clearPolicy ∧ t.dev.obj 0x3804 0 0 = c.perturbPermit ∧
      (∀ a, ¬ (c.rotBase + 2 * (s.dev.regions - s.dev.carve * 512) ≤ a ∧ a < c.rotBase + 2 * s.dev.regions) →
        t.dev.mem.byte a = s.dev.mem.byte a) ∧
      (∀ i < s.dev.carve * 1024, t.dev.mem.byte (c.rotBase + 2 * (s.dev.regions - s.dev.carve * 512) + i) =
        if i % 2 = 0 then 0 else 0x40) ∧
      t = { s with dev := { s.dev with boot := t.dev.boot, mem := t.dev.mem, dict := t.dev.dict } }) ∧
  (∀ (s : State) (o : Option BootCfg), InStage s.dev 6 → (∀ c, o = some c → s.dev.bootCfgOk c = false) →
    Nexts (.bootStageLock o) s fun t => BootFails s t 6 6) ∧
  (∀ s : State, InStage s.dev 7 → KMap.find s.dev.boot.stageTicks 7 = none → s.dev.pwr.linkReset = false →
    Nexts .bootStageOpen s fun t => t.dev.boot.cfgOpen = true ∧ t.dev.boot.stage = 7 ∧
      t = { s with dev := { s.dev with boot := t.dev.boot, scale := t.dev.scale } } ∧
      (∀ p : PortId, t.dev.port p.val = (if s.dev.boot.active.testBit (288 + p.val) = false then PortState.down
        else if s.dev.obj 0x8001 (p.val + 1) 0 = 1 then .training else .off))) ∧
  (∀ s : State, InStage s.dev 7 → (KMap.find s.dev.boot.stageTicks 7).isSome = true → Nexts (.bootCompleteWrite false) s fun t =>
    t.dev.boot = { s.dev.boot with complete := true, stage := 8, count := 0, mirror := 0, attempt := false
                                   memActive := s.dev.boot.cxl != 0 } ∧
      t = { s with dev := { s.dev with boot := t.dev.boot, scout := t.dev.scout } } ∧
      (∀ a : ArrayId, (t.dev.array a.val).due = decide ((s.dev.array a.val).st = .exactOnly))) ∧
  (∀ s : State, s.dev.live = true → s.dev.boot.running = true → s.dev.boot.beyby = false → s.dev.boot.complete = false →
    s.dev.boot.start + 750000000 ≤ s.dev.pwr.tick → s.pending = [] → Nexts .bootWatchdog s fun t => BootFails s t 7 5) ∧
  (∀ s : State, InStage s.dev 7 → (KMap.find s.dev.boot.stageTicks 7).isSome = true → .bootCompleteWrite false ∈ s.pending →
    exec .bootWatchdog s = .next s) ∧
  (∀ (s : State) (n : Nat), InStage s.dev n → 2 ≤ n → n ≤ 7 → Nexts (.bootCompleteWrite true) s fun t =>
    BootFails s t 8 6) ∧
  (∀ s : State, s.dev.live = true → exec .bootFailClear s =
    .next { s with dev := { s.dev with boot := { s.dev.boot with count := 0, mirror := 0, prior := 0 } } }) ∧
  (∀ (s : State) (c : ChipId), s.dev.live = true → 4 ≤ s.dev.boot.stage → s.dev.boot.width c.val ≠ 2 →
    Nexts (.ucieRetrain c 0) s fun t => t = { s with dev := { s.dev with dict := t.dev.dict } } ∧
      t.dev.obj 0x2421 (c.val + 1) 0 = Nat.min (s.dev.obj 0x2421 (c.val + 1) 0 + 1) (2 ^ 32 - 1)) ∧
  (∀ (s : State) (c : ChipId) (l : BitVec 4), s.dev.live = true → 4 ≤ s.dev.boot.stage → s.dev.boot.width c.val ≠ 2 →
    l ≠ 0 → Nexts (.ucieRetrain c l) s fun t => t.dev.boot.width c.val = 1 ∧
      ButReport { s.dev with boot := { s.dev.boot with ucie := t.dev.boot.ucie } } t.dev ∧ OnlyDev s t)

/-- From R75, R76, R77, R154, R178, R399: a function level reset ends everything of its tenant without a completion, keeps other
tenants' rings and jobs, and is over when its tiles are clear; a tile reset stops one tile. -/
def Obligations.FunctionAndTileResets : Prop :=
  (∀ (s : State) (n : FnId), s.dev.live = true → s.dev.boot.pcieGen ≠ 0 → s.dev.boot.cfgOpen = true → n ≠ 0 →
    n.val ≤ s.dev.numVfs → (s.dev.fn n.val).flr = false →
    (∀ m ∈ s.dev.stu.moves, m.tenant ≠ n.val) → Nexts (.vfFlr n) s fun t => OnlyDev s t ∧
      (t.dev.fn n.val).flr = true ∧ t.dev.jobs = s.dev.jobs.filter (fun e => e.2.tenant != n.val) ∧
      (∀ e ∈ t.dev.stu.faults, e.2.tenant ≠ n.val) ∧ (∀ e ∈ t.dev.kv.seqs, e.2.tenant ≠ n.val) ∧
      (t.dev.errRing n.val).st = .disabled ∧ t.dev.mem = s.dev.mem ∧ t.dev.emits = s.dev.emits ∧ t.dev.pwr = s.dev.pwr ∧
      t.dev.boot = s.dev.boot) ∧
  (∀ (s : State) (k : PfReset), s.dev.live = true → s.dev.boot.pcieGen ≠ 0 → s.dev.boot.cfgOpen = true →
    (s.dev.fn 0).flr = false → s.dev.stu.moves = [] → Nexts (.pfFlrHotReset k) s fun t => OnlyDev s t ∧ (t.dev.fn 0).flr = true ∧
      (∀ n : FnId, n.val ≤ s.dev.numVfs → (t.dev.fn n.val).flr = true ∧ (∀ e ∈ t.dev.jobs, e.2.tenant ≠ n.val)) ∧
      t.dev.mem = s.dev.mem ∧ t.dev.emits = s.dev.emits ∧ t.dev.boot = s.dev.boot) ∧
  (∀ (s : State) (n : FnId), s.dev.live = true → n ≠ 0 → (s.dev.fn n.val).flr = true → (s.dev.fn 0).flr = false →
    (∀ e ∈ s.dev.tiles, e.2.owner = some n.val → e.2.clearing = false) → Nexts (.flrComplete n) s fun t => OnlyDev s t ∧
      t.dev.fn n.val = { s.dev.fn n.val with flr := false } ∧ t.dev.mem = s.dev.mem ∧ t.dev.jobs = s.dev.jobs ∧
      t.dev.tiles = s.dev.tiles) ∧
  (∀ s : State, s.dev.live = true → (s.dev.fn 0).flr = true → (∀ e ∈ s.dev.tiles, e.2.clearing = false) →
    Nexts (.flrComplete 0) s fun t => t.dev.numVfs = 0 ∧ (t.dev.fn 0).flr = false ∧ t.dev.mem = s.dev.mem) ∧
  (∀ (s : State) (k : TileId), s.dev.live = true → s.dev.has k.val = true → (s.dev.tile k.val).resetting = false →
    (s.dev.tile k.val).job = none → Nexts (.rstTile k) s fun t =>
      t = { s with dev := { s.dev with tiles := t.dev.tiles, clk := t.dev.clk } } ∧
      (∀ j : TileId, j ≠ k → t.dev.tile j.val = s.dev.tile j.val ∨
        ((t.dev.tile j.val).power = .idle ∧ (t.dev.tile j.val).job = (s.dev.tile j.val).job)) ∧
      (t.dev.tile k.val).resetting = true ∧ (t.dev.tile k.val).active = false ∧ (t.dev.tile k.val).out = [] ∧
      (t.dev.tile k.val).uTlb = [] ∧ (t.dev.tile k.val).mustClear = true ∧ t.dev.tileOk k.val = false) ∧
  (∀ (s : State) (k : TileId) (j : Nat) (x : Job), s.dev.live = true → s.dev.has k.val = true →
    (s.dev.tile k.val).resetting = false → (s.dev.tile k.val).job = some j → KMap.find s.dev.jobs j = some x →
    x.st = .running → x.cancel = false → Nexts (.rstTile k) s fun t => (t.dev.tile k.val).resetting = true ∧
      ∃ y, KMap.find t.dev.jobs j = some y ∧ y.st = .offTile false ∧ y.tiles = [] ∧ y.ckpts = x.ckpts ∧ y.front = true) ∧
  (∀ (s : State) (k : TileId), s.dev.live = true → (s.dev.tile k.val).resetting = true → (s.dev.tile k.val).failed = true →
    Nexts (.tileResetDone k) s fun t => OnlyTile k s t ∧
      t.dev.tile k.val = { s.dev.tile k.val with resetting := false }) ∧
  (∀ (s : State) (k : TileId), s.dev.live = true → (s.dev.tile k.val).resetting = true → (s.dev.tile k.val).failed = false →
    Nexts (.tileResetDone k) s fun t =>
    (t.dev.tile k.val).resetting = false ∧ (t.dev.tile k.val).clearing = true ∧
    (t.dev.tile k.val).clearStart = s.dev.pwr.tick ∧ t.dev.mem = s.dev.mem ∧ t.dev.jobs = s.dev.jobs)

/-! ### The Palren dictionary -/

namespace Sys2Proof.Stm

open Sys2Proof.Machine

/-- The fields of a Palren header that a request varies (Table 5.3). -/
structure Head where
  op : Nat
  index : Nat := 0
  sub : Nat := 0
  session : Nat := 0
  segment : Nat := 0
  tenant : Nat := 0
  last : Bool := true

/-- Fields in their widths; SEGMENT moves only with the segment opcodes. -/
def Head.ok (h : Head) : Prop :=
  h.index < 2 ^ 16 ∧ h.sub < 2 ^ 8 ∧ h.session < 2 ^ 8 ∧ h.segment < 2 ^ 16 ∧ h.tenant < 64 ∧
    (h.segment ≠ 0 → h.op = 3 ∨ h.op = 4) ∧ (h.last = false → h.op = 4)

/-- The header's number: version 1, and LENGTH, STATUS and RSP as given. -/
def Head.num (h : Head) (len status : Nat) (rsp : Bool) : Nat :=
  len * 2 ^ 112 + status * 2 ^ 96 + h.index * 2 ^ 80 + h.sub * 2 ^ 72 + h.op * 2 ^ 64 + h.session * 2 ^ 56 +
    h.segment * 2 ^ 32 + h.tenant * 2 ^ 24 + 16 + h.last.toNat * 2 + rsp.toNat

/-- A request frame. -/
def Head.frame (h : Head) (payload : List Byte) : List Byte := leBytes (h.num payload.length 0 false) 16 ++ payload

/-- Its response frame. -/
def Head.response (h : Head) (status : Nat) (payload : List Byte) : List Byte :=
  leBytes (h.num payload.length status true) 16 ++ payload

/-- The server runs after the boot, with no session, transfer or flash write open. -/
def ServerReady (d : Dev) : Prop :=
  d.live = true ∧ d.boot.complete = true ∧ d.boot.beyby = false ∧ 2 ≤ d.boot.stage ∧ d.srv.flash = none ∧
    d.srv.sessions = [] ∧ d.srv.segs = [] ∧ d.srv.rotInvals = []

/-- The management port takes part in transfers: powered, with a dynamic address (R26, R41). -/
def PortReady (d : Dev) : Prop := d.pwr.aon = true ∧ d.mgt.addr ≠ 0

/-- The one packet of a request message that carries a short frame (R118, R119). -/
def onePacket (f : List Byte) : List MctpPacket := [⟨true, true, 0, true, 0x7E :: 0x1F :: 0xD8 :: f⟩]

/-- What an MCTP response on the management port puts out: an in-band interrupt where ENEC has enabled it (log 6), and the
response message, one packet for a short frame. -/
def mgtAnswer (d : Dev) (eid : BitVec 8) (tag : BitVec 3) (f : List Byte) : List Emit :=
  (if d.mgt.events.getLsbD 0 then [.ibi .mgt] else []) ++
    [.palrenMctp .i3c eid tag [⟨true, true, 0, false, 0x7E :: 0x1F :: 0xD8 :: f⟩]]

/-- Function `n` has submitted a frame with GO, with no interrupt asked for. -/
def Asks (s : State) (n : FnId) (f : List Byte) : Prop :=
  ServerReady s.dev ∧ (s.dev.fn n.val).busy = true ∧ (s.dev.fn n.val).flr = false ∧ (s.dev.fn n.val).irq = false ∧
    (s.dev.fn n.val).req = f ++ List.replicate (1040 - f.length) 0 ∧ f.length ≤ 1040 ∧ (s.dev.fn n.val).rsp.length = 1040

/-- The caller of a mailbox request. -/
def mbxWho (d : Dev) (n : FnId) : Who :=
  { caller := .mbx n.val, role := if n.val = 0 && (d.fn 0).operator then 2 else 1, tenant := n.val, fw := false
    ten0 := n.val == 0 && !(d.fn 0).operator }

/-- The device with one request more counted (COMM_REQUESTS). -/
def Counted (d : Dev) : Dev := d.setObj 0x1110 1 0 (Nat.min (d.obj 0x1110 1 0 + 1) (2 ^ 32 - 1))

/-- The mailbox of `n` holds the response: BUSY clear, DONE set. -/
def Answered (t : State) (n : FnId) (h : Head) (status : Nat) (payload : List Byte) : Prop :=
  (t.dev.fn n.val).busy = false ∧ (t.dev.fn n.val).done = true ∧
    (t.dev.fn n.val).rsp.take (16 + payload.length) = h.response status payload

/-- Nothing but the caller's mailbox and counters changed. -/
def OnlyAnswered (s t : State) (n : FnId) : Prop :=
  t = { s with dev := { (Counted s.dev) with fns := t.dev.fns } } ∧ ∀ m : FnId, m ≠ n → t.dev.fn m.val = s.dev.fn m.val

/-- An object that stores its value when it is written, and nothing else. -/
def Stores (i : Nat) : Prop :=
  i ∉ [0x2010, 0x2032, 0x1F01, 0x1F12, 0x2401, 0x2402, 0x1100, 0x3015, 0x301B, 0x301C, 0x301D, 0x3020, 0x3810, 0x3842, 0x4010, 0x4011,
    0x5001, 0x6013, 0x7030, 0x7801, 0x7802, 0x7810, 0x7C14, 0x8001, 0x8038, 0xA001, 0xA005, 0xA021, 0xD000, 0xD013, 0x1110]

end Sys2Proof.Stm

/-- From R102, R104, R105, R110, R194: READ of an object through a mailbox answers its value; an unlisted object, a write-only
one, another tenant's instance and the objects of another tenant's ring, slot or channel (log 108) are refused; nothing else of the device moves but the request counter. -/
def Obligations.PalrenRead : Prop :=
  ∀ (s : State) (n : FnId) (h : Head), h.ok → h.op = 1 → h.session = 0 → Asks s n (h.frame []) →
    (∀ o, objRow? h.index h.sub = some o → o.acc ≠ .wo → o.ty ≠ .segmented → s.dev.absent h.index h.sub = false →
      (o.perTenant = true → h.tenant = n.val ∨ (n = 0 ∧ (s.dev.fn 0).operator = true)) →
      s.dev.readDenied (mbxWho s.dev n) h.index h.sub = false →
      Nexts (.read (.mailbox n)) s fun t => OnlyAnswered s t n ∧ Answered t n h 0 (leBytes ((Counted s.dev).readObj
        (mbxWho s.dev n) h.index h.sub (if o.perTenant then h.tenant else 0)) o.ty.size)) ∧
    (objRow? h.index h.sub = none → Nexts (.read (.mailbox n)) s fun t => OnlyAnswered s t n ∧ Answered t n h 3 []) ∧
    (∀ o, objRow? h.index h.sub = some o → o.acc = .wo → s.dev.absent h.index h.sub = false →
      Nexts (.read (.mailbox n)) s fun t => OnlyAnswered s t n ∧ Answered t n h 6 []) ∧
    (∀ o, objRow? h.index h.sub = some o → o.acc ≠ .wo → o.ty ≠ .segmented → s.dev.absent h.index h.sub = false →
      (o.perTenant = true ∧ n ≠ 0 ∧ h.tenant ≠ n.val) ∨ s.dev.readDenied (mbxWho s.dev n) h.index h.sub = true →
      Nexts (.read (.mailbox n)) s fun t => OnlyAnswered s t n ∧ Answered t n h 7 [])

/-- From R101, R103, R105, R106, R110, R124: WRITE of an object that stores its value leaves it reading that value; a flash-kept
one waits for its commit; LENGTH, VALUE_RESERVED and ACCESS refusals change no object. -/
def Obligations.PalrenWrite : Prop :=
  (∀ (s : State) (n : FnId) (h : Head) (b : List Byte) (o : ObjRow), h.ok → h.op = 2 → h.session = 0 → b.length ≤ 1024 →
    Asks s n (h.frame b) → objRow? h.index h.sub = some o → s.dev.absent h.index h.sub = false → o.ty ≠ .segmented →
    (o.perTenant = true → h.tenant = n.val ∨ (n = 0 ∧ (s.dev.fn 0).operator = true)) →
    s.dev.writeDenied (mbxWho s.dev n) o h.index h.sub (leNat b) = false → o.lock ≠ .boot →
    s.dev.absentValue h.index (leNat b) = false →
    (o.acc = .rw → Stores h.index → o.keep ≠ .flash → b.length = o.ty.size →
      (Counted s.dev).valueOk [] h.index h.sub (if o.perTenant then h.tenant else 0) (leNat b) = true →
      Nexts (.write (.mailbox n)) s fun t => Answered t n h 0 [] ∧
        t = { s with dev := { (Counted s.dev).setObj h.index h.sub (if o.perTenant then h.tenant else 0) (leNat b) with
          fns := t.dev.fns } } ∧ t.dev.obj h.index h.sub (if o.perTenant then h.tenant else 0) = leNat b) ∧
    (o.acc = .rw → o.keep = .flash → b.length = o.ty.size →
      (Counted s.dev).valueOk [] h.index h.sub (if o.perTenant then h.tenant else 0) (leNat b) = true →
      Nexts (.write (.mailbox n)) s fun t => t.dev.fns = s.dev.fns ∧ t.dev.dict = (Counted s.dev).dict ∧
        t.dev.srv.flash.map (fun w => (w.key, w.value)) =
          some (⟨h.index, h.sub, if o.perTenant then h.tenant else 0⟩, leNat b)) ∧
    (o.acc = .rw → b.length ≠ o.ty.size → Nexts (.write (.mailbox n)) s fun t => OnlyAnswered s t n ∧ Answered t n h 9 []) ∧
    (o.acc = .rw → b.length = o.ty.size →
      (Counted s.dev).valueOk [] h.index h.sub (if o.perTenant then h.tenant else 0) (leNat b) = false →
      Nexts (.write (.mailbox n)) s fun t => OnlyAnswered s t n ∧ Answered t n h 10 []) ∧
    (o.acc = .ro ∨ o.acc = .const → Nexts (.write (.mailbox n)) s fun t => OnlyAnswered s t n ∧ Answered t n h 6 [])) ∧
  (∀ (s : State) (w : FlashWrite) (n : FnId), s.dev.live = true → s.dev.srv.flash = some w → w.src = some (.mailbox n) →
    (s.dev.fn n.val).irq = false → Stores w.key.index → Nexts .flashCommitDone s fun t =>
      t.dev.obj w.key.index w.key.sub w.key.tenant = w.value ∧ t.dev.srv.flash = none ∧ (t.dev.fn n.val).busy = false ∧
      (t.dev.fn n.val).done = true ∧ t.dev.mem = s.dev.mem) ∧
  (∀ (s : State) (k : ObjKey) (v : Nat) (o : ObjRow), s.dev.server = true → objRow? k.index k.sub = some o → o.acc = .rw →
    o.ty ≠ .segmented → o.perTenant = true ∨ k.tenant = 0 → k.tenant < 64 → v < 256 ^ o.ty.size →
    s.dev.boot.complete = true → s.dev.boot.beyby = false → s.dev.absent k.index k.sub = false → o.lock ≠ .boot →
    isPert k.index = false → s.dev.valueOk [] k.index k.sub k.tenant v = true → Stores k.index →
    Nexts (.objectWrite k v) s fun t => t = { s with dev := { s.dev with dict := t.dev.dict } } ∧
      t.dev.obj k.index k.sub k.tenant = v ∧
      (∀ i j u, i * 65536 + j * 256 + u ≠ k.index * 65536 + k.sub * 256 + k.tenant → t.dev.obj i j u = s.dev.obj i j u))

/-- From R111, R112, R113: segmented transfers, sets of writes, DESCRIBE and NEXT through a mailbox. -/
def Obligations.PalrenTransfers : Prop :=
  ∀ (s : State) (n : FnId) (h : Head) (b : List Byte), h.ok → h.session = 0 → b.length ≤ 1024 → Asks s n (h.frame b) →
    (∀ o, h.op = 3 → objRow? h.index h.sub = some o → o.ty = .segmented → o.acc = .wo → s.dev.absent h.index h.sub = false →
      Nexts (.readSeg (.mailbox n)) s fun t => OnlyAnswered s t n ∧ Answered t n h 6 []) ∧
    (∀ o, h.op = 4 → objRow? h.index h.sub = some o → o.ty = .segmented → o.acc = .wo → o.lock ≠ .boot →
      s.dev.absent h.index h.sub = false → (o.perTenant = true → h.tenant = n.val ∨ (n = 0 ∧ (s.dev.fn 0).operator = true)) →
      s.dev.writeDenied (mbxWho s.dev n) o h.index h.sub 0 = false → h.segment = 0 → h.last = false → b.length = 1024 →
      s.dev.slotRetains ⟨h.index, h.sub, if o.perTenant then h.tenant else 0⟩ = false →
      Nexts (.writeSeg (.mailbox n)) s fun t => Answered t n h 0 [] ∧ t.dev.srv = { s.dev.srv with segs :=
        [⟨⟨h.index, h.sub, if o.perTenant then h.tenant else 0⟩, .mbx n.val, 1, b, s.dev.pwr.tick⟩] } ∧
        t = { s with dev := { (Counted s.dev) with fns := t.dev.fns, srv := t.dev.srv } }) ∧
    (h.op = 4 → h.segment ≠ 0 → ∀ o, objRow? h.index h.sub = some o → o.ty = .segmented → o.acc = .wo → o.lock ≠ .boot →
      s.dev.absent h.index h.sub = false → (o.perTenant = true → h.tenant = n.val ∨ (n = 0 ∧ (s.dev.fn 0).operator = true)) →
      s.dev.writeDenied (mbxWho s.dev n) o h.index h.sub 0 = false → b.length = 1024 →
      Nexts (.writeSeg (.mailbox n)) s fun t => Answered t n h 11 [] ∧
        t = { s with dev := { s.dev with fns := t.dev.fns, dict := t.dev.dict } }) ∧
    (∀ o, h.op = 5 → objRow? h.index h.sub = some o → o.ty = .segmented →
      s.dev.absent h.index h.sub = false → (o.perTenant = true → h.tenant = n.val ∨ (n = 0 ∧ (s.dev.fn 0).operator = true)) →
      Nexts (.abortSeg (.mailbox n)) s fun t => OnlyAnswered s t n ∧ Answered t n h 0 []) ∧
    (∀ e : SetEntry, h.op = 6 → h.tenant = 0 → setEntries b = some [e] → Stores e.index →
      (Counted s.dev).entryStatus (mbxWho s.dev n)
        [(okey e.index e.sub (keyOf e.index e.sub e.tenant).tenant, leNat e.value)] e = 0 →
      Nexts (.writeSet (.mailbox n)) s fun t => Answered t n h 0 [] ∧
        t.dev.obj e.index e.sub (keyOf e.index e.sub e.tenant).tenant = leNat e.value ∧
        t = { s with dev := { (Counted s.dev) with fns := t.dev.fns, dict := t.dev.dict } }) ∧
    (∀ e e' : SetEntry, h.op = 6 → h.tenant = 0 → setEntries b = some [e, e'] → objRow? e'.index e'.sub = none →
      e'.tenant = 0 → e.tenant = 0 → objRow? e.index e.sub ≠ none → Nexts (.writeSet (.mailbox n)) s fun t =>
        t.dev.dict = (Counted s.dev).dict ∧ ((t.dev.fn n.val).rsp.take 17 = h.response 3 [1] ∨
          ∃ c, c ≠ 0 ∧ (t.dev.fn n.val).rsp.take 17 = h.response c [0])) ∧
    (∀ o, h.op = 0x20 → b = [] → objRow? h.index h.sub = some o → s.dev.absent h.index h.sub = false →
      (o.perTenant = true → h.tenant = n.val ∨ (n = 0 ∧ (s.dev.fn 0).operator = true)) →
      Nexts (.describe (.mailbox n)) s fun t => OnlyAnswered s t n ∧ (t.dev.fn n.val).busy = false ∧
        leNat (((t.dev.fn n.val).rsp.drop 16).take 1) = o.ty.code ∧
        leNat (((t.dev.fn n.val).rsp.drop 12).take 2) = 0) ∧
    (h.op = 0x21 → b = [] → h.index = 0 → h.sub = 0 → Nexts (.nextObject (.mailbox n)) s fun t => OnlyAnswered s t n ∧
      Answered t n h 0 [0x00, 0x10, 0x00])

/-- From R109, R114 to R117, R123: sessions and their authentication; the events that end them. -/
def Obligations.PalrenSessions : Prop :=
  (∀ (s : State) (eid : BitVec 8) (tag : BitVec 3), ServerReady s.dev → PortReady s.dev →
    Nexts (.sessionOpen (.mctp .i3c eid tag (onePacket ({ op := 0x10 : Head }.frame [])))) s fun t =>
      ∃ k, 1 ≤ k ∧ k ≤ 255 ∧ t.dev.srv.sessions = [(k, { binding := .i3c, eid := eid, lastUse := s.dev.pwr.tick })] ∧
        t.dev.emits = s.dev.emits ++ mgtAnswer s.dev eid tag ({ op := 0x10 : Head }.response 0 (leBytes k 1)) ∧
        t = { s with dev := { (Counted s.dev) with srv := t.dev.srv, emits := t.dev.emits, free := t.dev.free } }) ∧
  (∀ (s : State) (eid : BitVec 8) (tag : BitVec 3) (k : Nat) (x : Session), 1 ≤ k → k ≤ 255 → x.binding = .i3c →
    x.eid = eid → x.reduced = false → s.dev.obj 0x1100 2 0 = 0xFFFFFFFF → ServerReady { s.dev with srv := { s.dev.srv with
      sessions := [] } } → PortReady s.dev → s.dev.srv.sessions = [(k, x)] →
    Nexts (.sessionClose (.mctp .i3c eid tag (onePacket ({ op := 0x13, session := k : Head }.frame [])))) s fun t =>
      t.dev.srv.sessions = [] ∧ t.dev.emits = s.dev.emits ++
        mgtAnswer s.dev eid tag ({ op := 0x13, session := k : Head }.response 0 [])) ∧
  (∀ (s : State) (eid : BitVec 8) (tag : BitVec 3) (l : List MctpPacket), mctpFrame l = none →
    exec (.sessionOpen (.mctp .i3c eid tag l)) s = .next s) ∧
  (∀ (s : State) (h : Head), h.ok → h.op = 0x11 → h.session = 0 → Asks s 0 (h.frame []) → s.dev.srv.holdUntil = none →
    Nexts (.authChallenge (.mailbox 0)) s fun t =>
      Answered t 0 h 0 (leBytes (Config.nonce s.dev.nonces % 2 ^ 256) 32) ∧
      (t.dev.fn 0).nonce = some ⟨Config.nonce s.dev.nonces % 2 ^ 256, s.dev.pwr.tick⟩ ∧
      (t.dev.fn 0).operator = (s.dev.fn 0).operator ∧ t.dev.nonces = s.dev.nonces + 1) ∧
  (∀ (s : State) (n : FnId) (h : Head), h.ok → h.op = 0x11 → h.session = 0 → n ≠ 0 → Asks s n (h.frame []) →
    Nexts (.authChallenge (.mailbox n)) s fun t => OnlyAnswered s t n ∧ Answered t n h 7 []) ∧
  (∀ (s : State) (h : Head) (b : List Byte) (x : NonceRec), h.ok → h.op = 0x12 → h.session = 0 → b.length = 96 →
    Asks s 0 (h.frame b) → (s.dev.fn 0).nonce = some x → s.dev.pwr.tick < x.tick + 25000000 →
    ecdsaVerifies (leBytes (s.dev.obj 0x1120 0 0) 96) b (sha384 (leBytes x.value 32 ++ [0])) = true →
    Nexts (.authProve (.mailbox 0)) s fun t => Answered t 0 h 0 [] ∧ (t.dev.fn 0).operator = true ∧
      (t.dev.fn 0).nonce = none) ∧
  (∀ (s : State) (h : Head) (b : List Byte), h.ok → h.op = 0x12 → h.session = 0 → b.length = 96 → Asks s 0 (h.frame b) →
    (s.dev.fn 0).nonce = none → Nexts (.authProve (.mailbox 0)) s fun t => Answered t 0 h 13 [] ∧
      ((s.dev.fn 0).fails < 2 → (t.dev.fn 0).fails = (s.dev.fn 0).fails + 1 ∧
        (t.dev.fn 0).operator = (s.dev.fn 0).operator) ∧
      (2 ≤ (s.dev.fn 0).fails → (t.dev.fn 0).operator = false) ∧
      t.dev.obj 0x1110 3 0 = Nat.min (s.dev.obj 0x1110 3 0 + 1) (2 ^ 32 - 1)) ∧
  (∀ (s : State) (k : Nat) (x : Session), KMap.find s.dev.srv.sessions k = some x → s.dev.obj 0x1100 2 0 ≠ 0xFFFFFFFF →
    x.lastUse + s.dev.obj 0x1100 2 0 < s.dev.pwr.tick → Nexts (.sessionIdleTimeout k) s fun t =>
      t = { s with dev := { s.dev with srv := t.dev.srv } } ∧ KMap.find t.dev.srv.sessions k = none ∧
      (∀ j, j ≠ k → KMap.find t.dev.srv.sessions j = KMap.find s.dev.srv.sessions j) ∧
      (∀ y ∈ t.dev.srv.segs, y.holder ≠ .mctp k)) ∧
  (∀ (s : State) (x : NonceRec), (s.dev.fn 0).nonce = some x → x.tick + 25000000 ≤ s.dev.pwr.tick →
    exec (.nonceExpiry true 0) s =
      .next { s with dev := { s.dev with fns := s.dev.fns.put 0 { s.dev.fn 0 with nonce := none } } }) ∧
  (∀ (s : State) (x : Nat), s.dev.srv.holdUntil = some x → x ≤ s.dev.pwr.tick → exec .authHoldoffEnd s =
    .next { s with dev := { s.dev with srv := { s.dev.srv with holdUntil := none } } }) ∧
  (∀ (s : State) (k : ObjKey) (x : SegXfer), x ∈ s.dev.srv.segs → x.key = k → x.last + 250000000 ≤ s.dev.pwr.tick →
    exec (.segTransferTimeout k) s = .next { s with dev := { s.dev with srv := { s.dev.srv with
      segs := s.dev.srv.segs.filter (fun y => y.key != k) } } })

/-- From R118, R119: the MCTP control messages that the device answers; the values that the base specification gives are free
(log 18). -/
def Obligations.MctpControl : Prop :=
  ∀ (s : State) (b : Binding), s.dev.pwr.aon = true → s.dev.live = true → s.dev.boot.pcieGen ≠ 0 → 2 ≤ s.dev.boot.stage →
    (b = .i3c → s.dev.mgt.addr ≠ 0) →
    (∀ e : BitVec 8, e ≠ 0 → e ≠ 0xFF → Nexts (.setEndpointId b e) s fun t =>
      t = { s with dev := { s.dev with srv := t.dev.srv, emits := t.dev.emits } } ∧
      Emits s t (.mctp b (Config.mctpValue (bindNum b) 1)) ∧ (b = .i3c → t.dev.srv = { s.dev.srv with eidI3c := e.toNat }) ∧
      (b = .vdm → t.dev.srv = { s.dev.srv with eidVdm := e.toNat })) ∧
    (exec (.getEndpointId b) s = .next { s with dev := { s.dev with emits := s.dev.emits ++ [.mctp b
      (BitVec.ofNat 8 (if b = .i3c then s.dev.srv.eidI3c else s.dev.srv.eidVdm) :: Config.mctpValue (bindNum b) 2)] } }) ∧
    (exec (.getMctpVersionSupport b) s =
      .next { s with dev := { s.dev with emits := s.dev.emits ++ [.mctp b (Config.mctpValue (bindNum b) 4)] } }) ∧
    (exec (.getMessageTypeSupport b) s =
      .next { s with dev := { s.dev with emits := s.dev.emits ++ [.mctp b (0x7E :: Config.mctpValue (bindNum b) 5)] } }) ∧
    (exec (.getVendorDefinedMessageSupport b) s = .next { s with dev := { s.dev with
      emits := s.dev.emits ++ [.mctp b (0x1F :: 0xD8 :: Config.mctpValue (bindNum b) 6)] } })

/-! ### BAR registers, rings and jobs -/

namespace Sys2Proof.Stm

open Sys2Proof.Machine

/-- The BARs of a function answer. -/
def BarUp (d : Dev) (n : FnId) : Prop :=
  d.live = true ∧ d.boot.pcieGen ≠ 0 ∧ d.boot.cfgOpen = true ∧ (n = 0 ∨ n.val ≤ d.numVfs) ∧ (d.fn n.val).flr = false ∧
    (d.fn n.val).d3hot = false

/-- What a read of a BAR other than FN_TICK_LO returns: FN_INFO, the mailbox's state, the doorbell page of the ring's owner; 0
for a partial or misaligned access, a reserved offset, and the page of another function's ring (R121, R132 to R134). -/
def BarValue (d : Dev) (n : FnId) (r : BarRead) : Nat :=
  if r.len ≠ 4 ∨ r.off % 4 ≠ 0 then 0
  else if r.bar = .bar0 then
    if r.off = 0 then n.val + (if d.boot.complete then 256 else 0)
    else if r.off = 0x1004 then (d.fn n.val).busy.toNat + 2 * (d.fn n.val).done.toNat
    else if r.off = 0x1000 ∨ 0x3004 ≤ r.off then 0
    else d.barRead n.val r
  else if r.bar = .bar2 then
    if r.off < 262144 ∧ r.off % 4096 = 8 ∧ d.ringOwner (r.off / 4096) = n.val ∧ d.boot.beyby = false then
      (d.ring (r.off / 4096)).sqHead * 65536 + (d.ring (r.off / 4096)).st.code
    else 0
  else if n ≠ 0 ∨ d.boot.cxl = 0 then 0
  else d.barRead n.val r

/-- The write of a vector's control dword in the MSI-X table (R151). -/
def vectorControl (v : Fin 32) (x : BitVec 32) : BarWrite := ⟨.bar0, 0x2000 + 16 * v.val + 12, 4, x⟩

/-- Nothing but the one ring and the withdrawn reads of its queue changes (R152, R153). -/
def OnlyRingStop (k : RingId) (s t : State) : Prop :=
  t = { s with dev := { s.dev with
    rings := t.dev.rings, stu := (s.dev.withdraw (fun r => r.source == 0x80 && r.ring == k.val && r.tag == 0)).stu } } ∧
    ∀ j : RingId, j ≠ k → t.dev.ring j.val = s.dev.ring j.val

/-- Nothing but the one ring changes. -/
def OnlyRing (k : RingId) (s t : State) : Prop :=
  t = { s with dev := { s.dev with rings := t.dev.rings } } ∧ ∀ j : RingId, j ≠ k → t.dev.ring j.val = s.dev.ring j.val

/-- A job whose turn it is (R145): nothing earlier is in its way, and the scheduler takes no other before it. -/
def Waits (d : Dev) (j op : Nat) (x : Job) : Prop :=
  d.serving = true ∧ KMap.find d.jobs j = some x ∧ x.opcode = op ∧ x.st = .waiting ∧ d.held j x = false ∧
    (x.taken = true ∨ d.inOrder j x = true)

/-- The ring engine's next entry: ring `k` is picked, its slot translates to `ps`, owned, and reads as `e` unmarked. -/
def NextEntry (d : Dev) (k : Nat) (e : Nat) (d' : Dev) : Prop :=
  d.pickRing = some k ∧ ∃ ps d1 d2, d.translateSpan (d.ring k).fn (d.ring k).pasid
      (((d.ring k).sqBase + 64 * (d.ring k).sqHead) % 2 ^ 64) 64 0
      { source := 0x80, ring := k, prio := d.obj 0x3015 (k + 1) 0 } = (some ps, d1) ∧
    d1.ownOkAll (d.ring k).fn ps false = (true, d2) ∧
    d2.busRead (d.ring k).fn (d.ring k).pasid ps = (⟨leBytes e 64, [], 0, 0⟩, d')

/-- The completion slot of ring `k` translates to `ps` and is owned; `d'` is the device after both checks. -/
def SlotOpen (d : Dev) (k j : Nat) (x : Job) (ps : List (Nat × Nat × Nat)) (d' : Dev) : Prop :=
  ∃ d1, d.translateSpan (d.ring k).fn (d.ring k).pasid (((d.ring k).cqBase + 16 * (d.ring k).cqTail) % 2 ^ 64) 16 1
      (cqReq x j (d.obj 0x3015 (k + 1) 0)) = (some ps, d1) ∧ d1.ownOkAll (d.ring k).fn ps true = (true, d')

/-- The completion entry of Table 6.7 for an ended job. -/
def Completion (x : Job) (status elapsed head : Nat) (phase : Bool) : Nat :=
  x.userTag * 2 ^ 96 + Nat.min elapsed (2 ^ 32 - 1) * 2 ^ 64 + head * 2 ^ 48 + x.sqIndex * 2 ^ 32 + status * 2 ^ 24 +
    x.missed.toNat * 2 ^ 23 + x.demoted.toNat * 2 ^ 22 + x.preempted.toNat * 2 ^ 21 + x.clamped.toNat * 2 ^ 20 +
    phase.toNat

end Sys2Proof.Stm

/-- From R121, R122, R132, R137, R138, R150, R151, Tables 6.2 to 6.4: the mailbox, tick, interrupt and doorbell registers. The
stores that a doorbell covers are in memory before it; a value outside the ring is discarded and counted. -/
def Obligations.BarRegisters : Prop :=
  (∀ (s : State) (n : FnId) (b : List Byte) (q : Bool), BarUp s.dev n → (s.dev.fn n.val).busy = false → b.length = 1040 →
    (s.dev.fn n.val).rsp.length = 1040 → exec (.mbxGo n b q) s = .next { s with dev := { s.dev with
      fns := s.dev.fns.put n.val { s.dev.fn n.val with req := b, busy := true, done := false, irq := q } } }) ∧
  (∀ (s : State) (n : FnId) (b : List Byte) (q : Bool), BarUp s.dev n → (s.dev.fn n.val).busy = true →
    exec (.mbxGo n b q) s = .next { s with dev := { s.dev with
      fns := s.dev.fns.put n.val { s.dev.fn n.val with irq := q } } }) ∧
  (∀ (s : State) (n : FnId) (b : List Byte) (q : Bool), ¬ BarUp s.dev n → exec (.mbxGo n b q) s = .next s) ∧
  (∀ (s : State) (n : FnId), BarUp s.dev n → exec (.mbxDoneClear n) s = .next { s with dev := { s.dev with
    fns := s.dev.fns.put n.val { s.dev.fn n.val with done := false } } }) ∧
  (∀ (s : State) (n : FnId), BarUp s.dev n → Nexts (.fnTickLoRead ⟨n, ⟨.bar0, 8, 4⟩⟩) s fun t => ∃ k, k ≤ s.dev.pwr.tick ∧
    s.dev.pwr.tick ≤ k + 2 ∧ Emits s t (.barRead n.val (k % 2 ^ 64 % 2 ^ 32)) ∧
    (t.dev.fn n.val).tickHi = k % 2 ^ 64 / 2 ^ 32 ∧
    t = { s with dev := { s.dev with emits := t.dev.emits, fns := t.dev.fns } }) ∧
  (∀ (s : State) (n : FnId) (r : BarRead), BarUp s.dev n → r.bar ≠ .bar0 ∨ r.off ≠ 8 ∨ r.len ≠ 4 →
    exec (.fnTickLoRead ⟨n, r⟩) s = .next { s with dev := { s.dev with emits := s.dev.emits ++ [.barRead n.val (BarValue s.dev n r)] } }) ∧
  (∀ (s : State) (n : FnId) (w : BarWrite), BarUp s.dev n → w.len ≠ 4 ∨ w.off % 4 ≠ 0 → exec (.msixUnmask n w) s = .next s) ∧
  (∀ (s : State) (n : FnId) (v : Fin 32) (x : BitVec 32), BarUp s.dev n → x.getLsbD 0 = true →
    Nexts (.msixUnmask n (vectorControl v x)) s fun t => t = { s with dev := { s.dev with fns := t.dev.fns } } ∧
      (t.dev.fn n.val).unmasked.testBit v.val = false ∧ (t.dev.fn n.val).pba = (s.dev.fn n.val).pba) ∧
  (∀ (s : State) (n : FnId) (v : Fin 32) (x : BitVec 32), BarUp s.dev n → x.getLsbD 0 = false → (s.dev.fn n.val).msixEn = true →
    (s.dev.fn n.val).pba.testBit v.val = true → Nexts (.msixUnmask n (vectorControl v x)) s fun t =>
      t = { s with dev := { s.dev with fns := t.dev.fns, emits := t.dev.emits } } ∧ Emits s t (.msix n.val v.val) ∧
      (t.dev.fn n.val).unmasked.testBit v.val = true ∧ (t.dev.fn n.val).pba.testBit v.val = false) ∧
  (∀ (s : State) (n : FnId) (v : Fin 32) (x : BitVec 32), BarUp s.dev n → x.getLsbD 0 = false →
    (s.dev.fn n.val).pba.testBit v.val = false →
    Nexts (.msixUnmask n (vectorControl v x)) s fun t => t = { s with dev := { s.dev with fns := t.dev.fns } } ∧
      (t.dev.fn n.val).unmasked.testBit v.val = true ∧ (t.dev.fn n.val).pba = (s.dev.fn n.val).pba) ∧
  (∀ (s : State) (n : FnId) (k : RingId) (v : BitVec 32) (l : List ByteStore), s.dev.serving = true → BarUp s.dev n →
    (s.dev.ring k.val).st = .enabled → (s.dev.ring k.val).fn = n.val → v.toNat < 2 ^ (s.dev.ring k.val).size →
    s.dev.mem.lines = [] → s.dev.mem.armed = [] → Nexts (.sqTail n k v l) s fun t =>
      t = { s with dev := { s.dev with rings := t.dev.rings, mem := t.dev.mem } } ∧
      t.dev.ring k.val = { s.dev.ring k.val with sqTail := v.toNat, firstPend := (t.dev.ring k.val).firstPend } ∧
      (∀ j : RingId, j ≠ k → t.dev.ring j.val = s.dev.ring j.val) ∧
      (∀ a, (∀ w ∈ l, w.addr ≠ a) → t.dev.mem.byte a = s.dev.mem.byte a) ∧
      (∀ w, l.getLast? = some w → t.dev.mem.byte w.addr = w.byte)) ∧
  (∀ (s : State) (n : FnId) (k : RingId) (v : BitVec 32), s.dev.serving = true → BarUp s.dev n →
    (s.dev.ring k.val).st = .enabled → (s.dev.ring k.val).fn = n.val → 2 ^ (s.dev.ring k.val).size ≤ v.toNat →
    Nexts (.sqTail n k v []) s fun t => t = { s with dev := { s.dev with dict := t.dev.dict } } ∧
      t.dev.obj 0x3025 (k.val + 1) 0 = Nat.min (s.dev.obj 0x3025 (k.val + 1) 0 + 1) (2 ^ 32 - 1)) ∧
  (∀ (s : State) (n : FnId) (k : RingId) (v : BitVec 32), s.dev.serving = true → BarUp s.dev n →
    (s.dev.ring k.val).st = .enabled ∨ (s.dev.ring k.val).st = .draining → (s.dev.ring k.val).fn = n.val →
    v.toNat < 2 ^ (s.dev.ring k.val).size →
    (v.toNat + 2 ^ (s.dev.ring k.val).size - (s.dev.ring k.val).cqHead) % 2 ^ (s.dev.ring k.val).size ≤
      ((s.dev.ring k.val).cqTail + 2 ^ (s.dev.ring k.val).size - (s.dev.ring k.val).cqHead) % 2 ^ (s.dev.ring k.val).size →
    Nexts (.cqHead n k v) s fun t => OnlyRing k s t ∧
      t.dev.ring k.val = { s.dev.ring k.val with
        cqHead := v.toNat
        unrel := ((s.dev.ring k.val).cqTail + 2 ^ (s.dev.ring k.val).size - v.toNat) % 2 ^ (s.dev.ring k.val).size })

/-- From R126, R136, R152, R153: a ring latches its configuration at ENABLE, drains, and aborts. -/
def Obligations.RingControl : Prop :=
  (∀ (s : State) (k : RingId), s.dev.serving = true → (s.dev.ring k.val).st = .disabled ∨ (s.dev.ring k.val).st = .error →
    s.dev.obj 0x3011 (k.val + 1) 0 ≠ 0 → s.dev.obj 0x3011 (k.val + 1) 0 % 4096 = 0 → s.dev.obj 0x3012 (k.val + 1) 0 ≠ 0 →
    s.dev.obj 0x3012 (k.val + 1) 0 % 4096 = 0 → s.dev.obj 0x3010 (k.val + 1) 0 ≤ s.dev.numVfs →
    (s.dev.fn (s.dev.obj 0x3010 (k.val + 1) 0)).busMaster = true → Nexts (.ringEnable k) s fun t => OnlyRing k s t ∧
      t.dev.ring k.val = {
        st := .enabled, sqHead := 0, sqTail := 0, cqTail := 0, cqHead := 0, phase := true
        fn := s.dev.obj 0x3010 (k.val + 1) 0, sqBase := s.dev.obj 0x3011 (k.val + 1) 0
        cqBase := s.dev.obj 0x3012 (k.val + 1) 0, size := s.dev.obj 0x3013 (k.val + 1) 0
        pasid := s.dev.obj 0x3014 (k.val + 1) 0, vec := s.dev.obj 0x301A (k.val + 1) 0, lastFetch := s.dev.pwr.tick }) ∧
  (∀ (s : State) (k : RingId), s.dev.serving = true → (s.dev.ring k.val).st = .disabled →
    s.dev.obj 0x3011 (k.val + 1) 0 = 0 → Nexts (.ringEnable k) s fun t => (t.dev.ring k.val).st = .error ∧
      ButReport { s.dev with rings := t.dev.rings } t.dev ∧ OnlyDev s t ∧
      (∀ j : RingId, j ≠ k → t.dev.ring j.val = s.dev.ring j.val)) ∧
  (∀ (s : State) (k : RingId), (s.dev.ring k.val).st = .enabled → Nexts (.disableDrain k) s fun t => OnlyRingStop k s t ∧
    ((∀ e ∈ s.dev.jobs, e.2.ring ≠ k.val) → t.dev.ring k.val = { s.dev.ring k.val with st := .disabled }) ∧
    ((∃ e ∈ s.dev.jobs, e.2.ring = k.val) → t.dev.ring k.val = { s.dev.ring k.val with st := .draining })) ∧
  (∀ (s : State) (k : RingId), (s.dev.ring k.val).st = .enabled → (∀ e ∈ s.dev.jobs, e.2.ring ≠ k.val) →
    Nexts (.disableAbort k) s fun t => OnlyRingStop k s t ∧ t.dev.ring k.val = { s.dev.ring k.val with st := .disabled }) ∧
  (∀ (s : State) (k : RingId) (j : Nat) (x : Job), (s.dev.ring k.val).st = .enabled → s.dev.jobs = [(j, x)] →
    x.ring = k.val → x.st = .waiting → x.tiles = [] → Nexts (.disableAbort k) s fun t =>
      (t.dev.ring k.val).st = .draining ∧ (∃ y, t.dev.jobs = [(j, y)] ∧ y.st = .ended 5 ∧ y.userTag = x.userTag) ∧
      t.dev.tiles = s.dev.tiles ∧ t.dev.mem = s.dev.mem) ∧
  (∀ (s : State) (k : RingId) (j : Nat) (x : Job), (s.dev.ring k.val).st = .enabled → s.dev.jobs = [(j, x)] →
    x.ring = k.val → x.st = .running → x.tiles ≠ [] → (∀ i ∈ x.tiles, (s.dev.tile i).stalls = []) →
    Nexts (.disableAbort k) s fun t => (t.dev.ring k.val).st = .draining ∧ t.dev.jobs = [(j, { x with cancel := true })] ∧
      t = { s with dev := { s.dev with rings := t.dev.rings, jobs := t.dev.jobs, stu := t.dev.stu } })

/-- From R138 to R144, Table 6.5: the ring engine takes one entry of the picked ring as a job, and moves the head by one; an
entry that fails the format check ends with FORMAT. -/
def Obligations.RingFetch : Prop :=
  ∀ (s : State) (k e : Nat) (d : Dev), s.dev.serving = true → NextEntry s.dev k e d → e < 2 ^ 512 →
    d.obj 0xD015 (k + 1) 0 = 0 →
    (sqOk e = false → Nexts .ringFetchEntry s fun t =>
      (∃ x, KMap.find t.dev.jobs d.nextJob = some x ∧ x.st = .ended 1 ∧ x.ring = k ∧ x.userTag = e / 2 ^ 288 % 2 ^ 32) ∧
      t.dev.nextJob = d.nextJob + 1 ∧ (t.dev.ring k).sqHead = ((d.ring k).sqHead + 1) % 2 ^ (d.ring k).size ∧
      t.dev.lastTurn = k ∧ OnlyDev s t) ∧
    (sqOk e = true → e / 2 ^ 264 % 256 = 0 → d.stamp 128 < e / 2 ^ 448 → d.tileLimit (d.ring k).fn < e / 2 ^ 248 % 256 →
      Nexts .ringFetchEntry s fun t => (∃ x, KMap.find t.dev.jobs d.nextJob = some x ∧ x.st = .ended 9 ∧
        x.userTag = e / 2 ^ 288 % 2 ^ 32) ∧ t.dev.nextJob = d.nextJob + 1) ∧
    (sqOk e = true → e / 2 ^ 264 % 256 = 0 → d.stamp 128 < e / 2 ^ 448 → e / 2 ^ 248 % 256 ≤ d.tileLimit (d.ring k).fn →
      Nexts .ringFetchEntry s fun t =>
      (∃ x, KMap.find t.dev.jobs d.nextJob = some x ∧ x.st = .waiting ∧ x.ring = k ∧ x.tenant = (d.ring k).fn ∧
        x.opcode = 0 ∧ x.userTag = e / 2 ^ 288 % 2 ^ 32 ∧ x.deadline = e / 2 ^ 448 ∧ x.sqIndex = (d.ring k).sqHead ∧
        x.fenceBefore = e.testBit 243 ∧ x.noIrq = e.testBit 242) ∧
      t.dev.nextJob = d.nextJob + 1 ∧ (t.dev.ring k).sqHead = ((d.ring k).sqHead + 1) % 2 ^ (d.ring k).size ∧
      (∀ j, j ≠ d.nextJob → KMap.find t.dev.jobs j = KMap.find d.jobs j) ∧ t.dev.mem = d.mem)

/-- From R145, R149, R151, R152, Tables 6.6 and 6.7: NOP and BARRIER end with OK; an ended job's completion is written into the
ring's slot with its phase, and the ring's tail, phase and counts move; the moderation timer sends the message. -/
def Obligations.JobsEnd : Prop :=
  (∀ (s : State) (j : Nat) (x : Job), Waits s.dev j 0 x → x.tiles = [] → Nexts (.nop j) s fun t =>
    KMap.find t.dev.jobs j = some { x with st := .ended 0, ckpts := [], endTick := s.dev.pwr.tick, endKey := 0 } ∧
    (∀ i, i ≠ j → KMap.find t.dev.jobs i = KMap.find s.dev.jobs i) ∧
    t = { s with dev := { s.dev with jobs := t.dev.jobs, stu := t.dev.stu } }) ∧
  (∀ (s : State) (j : Nat) (x : Job), Waits s.dev j 5 x → x.tiles = [] → Nexts (.barrier j) s fun t =>
    KMap.find t.dev.jobs j = some { x with st := .ended 0, ckpts := [], endTick := s.dev.pwr.tick, endKey := 0 } ∧
    (∀ i, i ≠ j → KMap.find t.dev.jobs i = KMap.find s.dev.jobs i) ∧
    t = { s with dev := { s.dev with jobs := t.dev.jobs, stu := t.dev.stu } }) ∧
  (∀ (s : State) (j : Nat) (x : Job) (e : Nat × Job), s.dev.serving = true → KMap.find s.dev.jobs j = some x →
    x.opcode = 5 → e ∈ s.dev.jobs → e.1 < j → e.2.ring = x.ring → exec (.barrier j) s = .next s) ∧
  (∀ (s : State) (j status : Nat) (x : Job) (ps : List (Nat × Nat × Nat)) (d : Dev), s.dev.live = true →
    KMap.find s.dev.jobs j = some x → x.st = .ended status → x.discard = false → (s.dev.ring x.ring).st = .enabled →
    SlotOpen s.dev x.ring j x ps d → x.noIrq = true → (s.dev.ring x.ring).counted = 0 → d.ring x.ring = s.dev.ring x.ring →
    ((d.onBus (s.dev.ring x.ring).fn (s.dev.ring x.ring).pasid true ps).writePieces ps (leBytes (Completion x status
      (d.pwr.tick - x.fetchTick) (s.dev.ring x.ring).sqHead (s.dev.ring x.ring).phase) 16)).2 = 0 →
    Nexts (.jobComplete j) s fun t =>
      t.dev.mem = ((d.onBus (s.dev.ring x.ring).fn (s.dev.ring x.ring).pasid true ps).writePieces ps (leBytes (Completion x
        status (d.pwr.tick - x.fetchTick) (s.dev.ring x.ring).sqHead (s.dev.ring x.ring).phase) 16)).1.mem ∧ KMap.find t.dev.jobs j = none ∧
      (t.dev.ring x.ring).cqTail = ((s.dev.ring x.ring).cqTail + 1) % 2 ^ (s.dev.ring x.ring).size ∧
      ((t.dev.ring x.ring).phase = (s.dev.ring x.ring).phase ↔ (t.dev.ring x.ring).cqTail ≠ 0) ∧
      (t.dev.ring x.ring).done = Nat.min ((s.dev.ring x.ring).done + 1) (2 ^ 32 - 1) ∧
      (t.dev.ring x.ring).unrel = (s.dev.ring x.ring).unrel + 1 ∧
      (t.dev.ring x.ring).st = .enabled ∧
      t.dev.emits = (d.onBus (s.dev.ring x.ring).fn (s.dev.ring x.ring).pasid true ps).emits ∧ OnlyDev s t) ∧
  (∀ (s : State) (j status : Nat) (x : Job), s.dev.live = true → KMap.find s.dev.jobs j = some x → x.st = .ended status →
    x.discard = true → Nexts (.jobComplete j) s fun t => KMap.find t.dev.jobs j = none ∧ t.dev.mem = s.dev.mem ∧
      t.dev.emits = s.dev.emits) ∧
  (∀ (s : State) (k : RingId), s.dev.serving = true → (s.dev.ring k.val).counted ≠ 0 →
    (s.dev.ring k.val).oldest + s.dev.obj 0x301C (k.val + 1) 0 ≤ s.dev.pwr.tick →
    (s.dev.fn (s.dev.ring k.val).fn).msixEn = true →
    (s.dev.fn (s.dev.ring k.val).fn).unmasked.testBit (s.dev.ring k.val).vec = true → Nexts (.ringIrqTimer k) s fun t =>
      Emits s t (.msix (s.dev.ring k.val).fn (s.dev.ring k.val).vec) ∧ (t.dev.ring k.val).counted = 0 ∧
      t = { s with dev := { s.dev with rings := t.dev.rings, emits := t.dev.emits } }) ∧
  (∀ (s : State) (j : Nat) (x : Job), s.dev.serving = true → KMap.find s.dev.jobs j = some x → x.st = .running →
    x.missed = false → x.deadline < s.dev.pwr.tick → x.dlPolicy ≠ 2 → Nexts (.deadlineMiss j) s fun t =>
      KMap.find t.dev.jobs j = some { x with missed := true, demoted := x.demoted || x.dlPolicy == 3 } ∧
      ButReport { s.dev with jobs := t.dev.jobs } t.dev ∧ OnlyDev s t) ∧
  (∀ (s : State) (j : Nat) (x : Job), s.dev.serving = true → KMap.find s.dev.jobs j = some x → x.st = .waiting →
    x.missed = false → x.deadline < s.dev.pwr.tick → x.dlPolicy = 2 → Nexts (.deadlineMiss j) s fun t =>
      ∃ y, KMap.find t.dev.jobs j = some y ∧ y.st = .ended 4 ∧ y.missed = true ∧ y.tiles = [])

/-! ### Scheduling, segments and resume -/

/-- From R142, R145, R146, R183, R193, R196, R197: the scheduler gives a job its tiles, each with its rank, and a tile of another
tenant starts its clear; RUN starts every rank at position 0 with the registers of R196. -/
def Obligations.DispatchAndRun : Prop :=
  (∀ (s : State) (j : Nat) (x : Job) (l : List TileId), KMap.find s.dev.jobs j = some x → s.dev.firstRun j x = true →
    x.nTiles = 0 → s.dev.tilesFit x (l.map (·.val)) = true → Nexts (.schedulerDispatch j l) s fun t => OnlyDev s t ∧
      KMap.find t.dev.jobs j = some { x with st := .assigned, tiles := l.map (·.val), nTiles := l.length } ∧
      (∀ i, i ≠ j → KMap.find t.dev.jobs i = KMap.find s.dev.jobs i) ∧ t.dev.mem = s.dev.mem ∧
      (∀ (r : Nat) (k : TileId), l[r]? = some k → (t.dev.tile k.val).job = some j ∧ (t.dev.tile k.val).rank = r ∧
        (t.dev.tile k.val).owner = some x.tenant ∧ (t.dev.tile k.val).power ≠ .sleep ∧
        ((s.dev.tile k.val).owner ≠ some x.tenant → (t.dev.tile k.val).clearing = true))) ∧
  (∀ (s : State) (j : Nat) (x : Job), s.dev.serving = true → KMap.find s.dev.jobs j = some x → x.opcode = 1 →
    x.st = .assigned → x.ckpts = [] → x.tiles.Nodup → (∀ k ∈ x.tiles, s.dev.tileReady k = true) → Nexts (.run j) s fun t =>
      OnlyDev s t ∧ t.dev.mem = s.dev.mem ∧ t.dev.rings = s.dev.rings ∧
      (∃ y, KMap.find t.dev.jobs j = some y ∧ y.st = .running ∧ y.started = s.dev.pwr.tick ∧ y.tiles = x.tiles) ∧
      (∀ i, i ≠ j → KMap.find t.dev.jobs i = KMap.find s.dev.jobs i) ∧
      (∀ r k : Nat, x.tiles[r]? = some k → (t.dev.tile k).active = true ∧ (t.dev.tile k).power = .run ∧
        (t.dev.tile k).pos = 0 ∧ (t.dev.tile k).seg = 0 ∧ (t.dev.tile k).loops = [] ∧ (t.dev.tile k).preds = 1 ∧
        (t.dev.tile k).out = [] ∧ (t.dev.tile k).s 0 = 0 ∧ (t.dev.tile k).s 1 = x.inline % 2 ^ 64 ∧
        (t.dev.tile k).s 2 = x.inline / 2 ^ 64 % 2 ^ 64 ∧ (t.dev.tile k).s 3 = x.seq % 2 ^ 64 ∧
        (t.dev.tile k).s 4 = r % 2 ^ 64 ∧ (t.dev.tile k).s 5 = x.nTiles % 2 ^ 64 ∧
        (t.dev.tile k).s 6 = x.deadline % 2 ^ 64 ∧ (∀ i, 7 ≤ i → i < 16 → (t.dev.tile k).s i = 0) ∧
        (t.dev.tile k).tb = (s.dev.tile k).tb ∧ (t.dev.tile k).as = (s.dev.tile k).as) ∧
      (∀ k : TileId, k.val ∉ x.tiles → t.dev.tile k.val = s.dev.tile k.val))

/-- From R146, R153, R209, R211, R222: a segment that overruns ends its job; a tile of a job that is being stopped is taken at
its boundary, its checkpoint drains, and the job goes on from its records on as many tiles. -/
def Obligations.SegmentsAndResume : Prop :=
  (∀ (s : State) (k : TileId) (j : Nat) (x : Job), s.dev.serving = true → s.dev.tileJob k.val = some (j, x) →
    (s.dev.tile k.val).active = true → 16384 ≤ (s.dev.tile k.val).seg → Nexts (.segmentOverrun k) s fun t => OnlyDev s t ∧
      (∃ y, KMap.find t.dev.jobs j = some y ∧ y.st = .ended 6 ∧ y.tiles = []) ∧ t.dev.pwr = s.dev.pwr ∧
      t.dev.rings = s.dev.rings) ∧
  (∀ (s : State) (k : TileId) (j : Nat) (x : Job), s.dev.serving = true → s.dev.tileJob k.val = some (j, x) →
    (s.dev.tile k.val).active = true → (s.dev.tile k.val).atBoundary = true → x.stopAtBoundary = true → x.cancel = false →
    s.dev.clearEvery = false → Nexts (.segmentBoundaryTake k) s fun t => OnlyDev s t ∧
      KMap.find t.dev.jobs j = some { x with tiles := x.tiles.filter (· != k.val) } ∧
      (t.dev.tile k.val).draining = some (j, (s.dev.tile k.val).rank) ∧ (t.dev.tile k.val).active = false ∧
      (t.dev.tile k.val).job = none ∧ (t.dev.tile k.val).ckpt = (s.dev.tile k.val).ckpt ∧
      (∀ i : TileId, i ≠ k → t.dev.tile i.val = s.dev.tile i.val) ∧ t.dev.mem = s.dev.mem) ∧
  (∀ (s : State) (k : TileId) (j : Nat) (x : Job), s.dev.serving = true → s.dev.tileJob k.val = some (j, x) →
    (s.dev.tile k.val).active = true → (s.dev.tile k.val).atBoundary = true → x.cancel = true → x.tiles = [k.val] →
    Nexts (.segmentBoundaryTake k) s fun t => ∃ y, KMap.find t.dev.jobs j = some y ∧ y.st = .ended 5 ∧ y.ckpts = []) ∧
  (∀ (s : State) (k : TileId) (j r : Nat) (x : Job) (c : Ckpt), (s.dev.tile k.val).draining = some (j, r) →
    (s.dev.tile k.val).cErr = [] → (s.dev.tile k.val).ckpt = some c → KMap.find s.dev.jobs j = some x →
    x.st = .running → x.stopAtBoundary = true → x.tiles = [] → x.nTiles = 1 → r = 0 →
    Nexts (.checkpointDrainDone k) s fun t => OnlyDev s t ∧ (t.dev.tile k.val).draining = none ∧
      (t.dev.tile k.val).ckpt = none ∧ (∃ y, KMap.find t.dev.jobs j = some y ∧ y.st = .waiting ∧ y.front = true ∧
        y.preempted = true ∧ KMap.find y.ckpts 0 = some c) ∧
      t.dev.obj 0x5003 3 x.tenant = Nat.min (s.dev.obj 0x5003 3 x.tenant + 1) (2 ^ 64 - 1)) ∧
  (∀ (s : State) (j : Nat) (x : Job) (l : List TileId), KMap.find s.dev.jobs j = some x → x.ckpts ≠ [] → x.opcode = 1 →
    x.st = .waiting → s.dev.firstRun j x = true → s.dev.tilesFit x (l.map (·.val)) = true →
    Nexts (.jobResume j l) s fun t => ∃ y, KMap.find t.dev.jobs j = some y ∧ y.st = .assigned ∧
      y.tiles = l.map (·.val) ∧ y.ckpts = x.ckpts) ∧
  (∀ (s : State) (j k : Nat) (x : Job) (c : Ckpt) (l : List TileId), s.dev.serving = true →
    KMap.find s.dev.jobs j = some x → x.opcode = 1 → x.st = .assigned → x.tiles = [k] → x.ckpts = [(0, c)] →
    s.dev.tileReady k = true → Nexts (.jobResume j l) s fun t => OnlyDev s t ∧
      (∃ y, KMap.find t.dev.jobs j = some y ∧ y.st = .running ∧ y.ckpts = []) ∧ (t.dev.tile k).pos = c.pos ∧
      (t.dev.tile k).sregs = c.sregs ∧ (t.dev.tile k).loops = c.loops ∧ (t.dev.tile k).handles = c.handles ∧
      (t.dev.tile k).p 7 = true ∧ (t.dev.tile k).tb = [] ∧ (t.dev.tile k).seg = 0 ∧ (t.dev.tile k).active = true ∧
      (∀ i < c.keepData.length, cellAt (t.dev.tile k).as (c.keepStart + i) = c.keepData.getD i 0) ∧
      (∀ a, ¬ (c.keepStart ≤ a ∧ a < c.keepStart + c.keepData.length) → cellAt (t.dev.tile k).as a = 0))

/-! ### Special-purpose memories of a tile -/

/-- From R220, R226 to R229, R400: a scrub pass starts when its period is over, corrects or poisons the words of a granule, and is
reported late once. -/
def Obligations.Scrubber : Prop :=
  (∀ (s : State) (k : TileId), s.dev.serving = true → s.dev.has k.val = true → (s.dev.tile k.val).failed = false →
    (s.dev.tile k.val).clearing = false → (s.dev.tile k.val).scrubOn = false → (s.dev.tile k.val).power = .idle →
    s.dev.obj 0x5801 0 0 + Nat.max (s.dev.tile k.val).scrubStart s.dev.boot.start ≤ s.dev.pwr.tick →
    Nexts (.scrubPassDue k) s fun t => OnlyTile k s t ∧ t.dev.tile k.val = { s.dev.tile k.val with
      scrubOn := true, scrubPos := 0, scrubStart := s.dev.pwr.tick, scrubLate := false }) ∧
  (∀ (s : State) (k : TileId), s.dev.live = true → (s.dev.tile k.val).scrubOn = true → (s.dev.tile k.val).power ≠ .sleep →
    (s.dev.tile k.val).clearing = false → (s.dev.tile k.val).scrubPos < 6144 → (s.dev.tile k.val).tbErr = [] →
    Nexts (.scrubGranule k) s fun t => OnlyTile k s t ∧
      t.dev.tile k.val = { s.dev.tile k.val with scrubPos := (s.dev.tile k.val).scrubPos + 1 }) ∧
  (∀ (s : State) (k : TileId) (w : Nat), s.dev.live = true → (s.dev.tile k.val).scrubOn = true →
    (s.dev.tile k.val).power ≠ .sleep →
    (s.dev.tile k.val).clearing = false → (s.dev.tile k.val).scrubPos < 6144 → (s.dev.tile k.val).tbErr = [(w, .correctable)] →
    w / 4 = (s.dev.tile k.val).scrubPos → Nexts (.scrubGranule k) s fun t => (t.dev.tile k.val).tbErr = [] ∧
      (t.dev.tile k.val).tb = (s.dev.tile k.val).tb ∧
      t.dev.obj 0x5811 (k.val + 1) 0 = Nat.min (s.dev.obj 0x5811 (k.val + 1) 0 + 1) (2 ^ 32 - 1) ∧
      t = { s with dev := { s.dev with tiles := t.dev.tiles, dict := t.dev.dict } }) ∧
  (∀ (s : State) (k : TileId) (w : Nat), s.dev.live = true → (s.dev.tile k.val).scrubOn = true →
    (s.dev.tile k.val).power ≠ .sleep → (s.dev.tile k.val).clearing = false → (s.dev.tile k.val).scrubPos < 6144 →
    (s.dev.tile k.val).tbErr = [(w, .uncorrectable)] → w / 4 = (s.dev.tile k.val).scrubPos →
    Nexts (.scrubGranule k) s fun t => (t.dev.tile k.val).tbErr = [(w, .poison)] ∧
      (t.dev.tile k.val).scrubPos = (s.dev.tile k.val).scrubPos + 1 ∧ (t.dev.tile k.val).tb = (s.dev.tile k.val).tb) ∧
  (∀ (s : State) (k : TileId), s.dev.live = true → (s.dev.tile k.val).scrubOn = true →
    (s.dev.tile k.val).scrubLate = false → (s.dev.tile k.val).scrubStart + s.dev.obj 0x5801 0 0 ≤ s.dev.pwr.tick →
    Nexts (.scrubLate k) s fun t => t.dev.tile k.val = { s.dev.tile k.val with scrubLate := true } ∧
      ButReport { s.dev with tiles := t.dev.tiles } t.dev ∧ OnlyDev s t) ∧
  (∀ (s : State) (k : TileId), (s.dev.tile k.val).scrubLate = true → exec (.scrubLate k) s = .next s)

/-! ### Memory, translation, faults and fences -/

namespace Sys2Proof.Stm

open Sys2Proof.Machine

/-- No line of memory carries a mark, and no flip is armed. -/
def Clean (m : Mem) : Prop := m.lines = [] ∧ m.armed = []

/-- An access of an engine stays in one 4 KiB page of HBM, and the entry of its region, cached or in the table, is `e`. -/
def InRegion (d : Dev) (pa len e : Nat) : Prop :=
  0 < len ∧ pa / 4096 = (pa + len - 1) / 4096 ∧ pa + len ≤ d.hbmTop ∧
    (KMap.find d.stu.rotCache (pa / 2097152) = some e ∨ (KMap.find d.stu.rotCache (pa / 2097152) = none ∧
      leNat (d.mem.read (d.obj 0x3800 0 0 + 2 * (pa / 2097152)) 2) = e))

/-- A region entry (Table 8.2): PRIVATE to a tenant, or PUBLIC-READ of tenant 0. -/
def privateOf (tenant : Nat) : Nat := 0x4000 + tenant

/-- Bytes of HBM reached through the CXL window at an offset. -/
def windowPa (d : Dev) (off : Nat) : Nat := d.hbmTop - d.boot.hdmGib * 2 ^ 30 + off

/-- Only cached lines of the HDM window may differ, and snoops of them may have been sent to the host (R128). -/
def Snooped (m m' : Mem) (l l' : List Emit) : Prop :=
  m' = { m with hdmLines := m'.hdmLines } ∧ ∃ sn, l' = l ++ sn ∧ ∀ e ∈ sn, ∃ n, e = .backInvalidate n

/-- Memory after stores of single bytes: the last store of an address wins. -/
def StoredBytes (l : List ByteStore) (m m' : Mem) : Prop :=
  (∀ a, (∀ w ∈ l, w.addr ≠ a) → m'.byte a = m.byte a) ∧ (∀ w, l.getLast? = some w → m'.byte w.addr = w.byte)

end Sys2Proof.Stm

/-- From R128, R130, R158, R171, R172, R186, R400: the host reaches the carve-out through the CXL window; an engine's access of
its own region reads or writes exactly its bytes, and an access of another tenant's region is refused, counted, and ends
its job with OWNERSHIP. -/
def Obligations.MemoryAccesses : Prop :=
  (∀ (s : State) (off n : Nat), s.dev.live = true → s.dev.boot.memActive = true → s.dev.boot.cxl ≠ 0 →
    s.dev.boot.hdmDec.on = true → Clean s.dev.mem →
    off + n ≤ s.dev.boot.hdmGib * 2 ^ 30 → Nexts (.hdmHostAccess off (.read n)) s fun t =>
      Emits s t (.hdm (s.dev.mem.read (windowPa s.dev off) n) false) ∧
      (∀ i < n, (windowPa s.dev off + i) / 64 ∈ t.dev.mem.hdmLines) ∧ (∀ i ∈ s.dev.mem.hdmLines, i ∈ t.dev.mem.hdmLines) ∧
      t = { s with dev := { s.dev with mem := { s.dev.mem with hdmLines := t.dev.mem.hdmLines }, emits := t.dev.emits } }) ∧
  (∀ (s : State) (off : Nat) (op : EngineOp), s.dev.boot.hdmDec.on = false → exec (.hdmHostAccess off op) s = .next s) ∧
  (∀ (s : State) (off : Nat) (b : List Byte), s.dev.live = true → s.dev.boot.memActive = true → s.dev.boot.cxl ≠ 0 →
    s.dev.boot.hdmDec.on = true → Clean s.dev.mem → off + b.length ≤ s.dev.boot.hdmGib * 2 ^ 30 → Nexts (.hdmHostAccess off (.write b)) s fun t =>
      t = { s with dev := { s.dev with mem := t.dev.mem } } ∧
      (∀ i < b.length, t.dev.mem.byte (windowPa s.dev off + i) = b.getD i 0) ∧
      (∀ a, ¬ (windowPa s.dev off ≤ a ∧ a < windowPa s.dev off + b.length) → t.dev.mem.byte a = s.dev.mem.byte a)) ∧
  (∀ (s : State) (src : BitVec 8) (n : FnId) (pa len : Nat), s.dev.serving = true → Clean s.dev.mem →
    InRegion s.dev pa len (privateOf n.val) → Nexts (.engineHbmAccess src n none pa (.read len)) s fun t =>
      (∃ l, Snooped s.dev.mem t.dev.mem s.dev.emits l ∧
        t.dev.emits = l ++ [.engineRead src.toNat (s.dev.mem.read pa len) false]) ∧
      (∀ i ∈ t.dev.mem.hdmLines, ¬ (pa / 64 ≤ i ∧ i ≤ (pa + len - 1) / 64)) ∧
      t = { s with dev := { s.dev with
        stu := { s.dev.stu with rotCache := t.dev.stu.rotCache }, mem := t.dev.mem, emits := t.dev.emits } }) ∧
  (∀ (s : State) (src : BitVec 8) (n : FnId) (pa : Nat) (b : List Byte), s.dev.serving = true → Clean s.dev.mem →
    InRegion s.dev pa b.length (privateOf n.val) → Nexts (.engineHbmAccess src n none pa (.write b)) s fun t =>
      t = { s with dev := { s.dev with
        stu := { s.dev.stu with rotCache := t.dev.stu.rotCache }, mem := t.dev.mem, emits := t.dev.emits } } ∧
      (∀ i < b.length, t.dev.mem.byte (pa + i) = b.getD i 0) ∧
      (∀ a, ¬ (pa ≤ a ∧ a < pa + b.length) → t.dev.mem.byte a = s.dev.mem.byte a)) ∧
  (∀ (s : State) (src : BitVec 8) (n m : FnId) (pa : Nat) (op : EngineOp) (j : Nat) (x : Job), s.dev.serving = true →
    InRegion s.dev pa (match op with
      | .read k => k
      | .write b => b.length) (privateOf m.val) → m ≠ n → KMap.find s.dev.jobs j = some x → x.st = .waiting →
    Nexts (.engineHbmAccess src n (some j) pa op) s fun t => OnlyDev s t ∧
      (∃ y, KMap.find t.dev.jobs j = some y ∧ y.st = .ended 3) ∧
      ((s.dev.errRing n.val).st ≠ .enabled → (s.dev.errRing n.val).waiting = [] →
        t.dev.obj 0x4022 0 n.val = Nat.min (s.dev.obj 0x4022 0 n.val + 1) (2 ^ 32 - 1) ∧
        (∀ a, t.dev.mem.byte a = s.dev.mem.byte a) ∧ t.dev.emits = s.dev.emits))

/-- From R159, R161, R162, R164: a walk of a Sv48 context reads four tables, each with the index bits of the address, and gives
the page of a leaf with V, R, U and A set. -/
def Obligations.WalkOfFourTables : Prop :=
  ∀ (d : Dev) (tenant pasid va asid t3 t2 t1 t0 leaf : Nat) (e : CtxEntry), Clean d.mem → d.stu.walkCache = [] →
    d.stu.ctxCache = [e] → e.tenant = tenant → e.pasid = pasid →
    e.entry = 1 + 9 * 2 ^ 44 + asid * 2 ^ 48 + t3 * 2 ^ 64 → asid < 2 ^ 16 → t3 < 2 ^ 44 → t2 < 2 ^ 44 → t1 < 2 ^ 44 →
    t0 < 2 ^ 44 → va < 2 ^ 47 →
    (∀ p ∈ [t3, t2, t1, t0], p * 4096 + 4096 ≤ d.hbmTop) →
    leNat (d.mem.read (t3 * 4096 + 8 * (va / 2 ^ 39 % 512)) 8) = t2 * 1024 + 1 →
    leNat (d.mem.read (t2 * 4096 + 8 * (va / 2 ^ 30 % 512)) 8) = t1 * 1024 + 1 →
    leNat (d.mem.read (t1 * 4096 + 8 * (va / 2 ^ 21 % 512)) 8) = t0 * 1024 + 1 →
    leNat (d.mem.read (t0 * 4096 + 8 * (va / 2 ^ 12 % 512)) 8) = leaf → leaf < 2 ^ 54 → leaf.testBit 0 = true →
    leaf.testBit 1 = true → leaf.testBit 4 = true → leaf.testBit 6 = true →
    ∃ x d', d.walk tenant pasid va = (.leaf x leaf 0 (t0 * 4096 + 8 * (va / 2 ^ 12 % 512)), d') ∧
      x.tenant = tenant ∧ x.pasid = pasid ∧ x.asid = asid ∧ x.vpn ≤ va / 4096 ∧ va / 4096 < x.vpn + x.pages ∧
      x.pa va = (leaf / 2 ^ 10) * 4096 + va % 4096 ∧ x.readable = true ∧ x.writable = leaf.testBit 2 ∧ d'.mem = d.mem

/-- From R163, R165, R166, R173, R175, R391, R401: a waiting walk takes a walker; its end holds the translation, or produces a
fault record that stalls the tile's engine; its expiry restarts it once. -/
def Obligations.WalksAndRecords : Prop :=
  (∀ (s : State) (k : Nat) (w : Walk), s.dev.serving = true →
    s.dev.walkQueue.find? (fun w => (s.dev.walkerFor w.2).isSome) = some (k, w) → Nexts .walkStart s fun t =>
      (∃ y, KMap.find t.dev.stu.walks k = some y ∧ y.active = true ∧ y.start = s.dev.pwr.tick ∧ y.reqs = w.reqs ∧
        y.deadline = s.dev.obj 0xA030 0 0 ∧ (y.reserved = true ↔ s.dev.walkerFor w = some true)) ∧
      t.dev.obj 0x4020 3 0 = Nat.min (s.dev.obj 0x4020 3 0 + 1) (2 ^ 64 - 1) ∧
      (∀ j, j ≠ k → KMap.find t.dev.stu.walks j = KMap.find s.dev.stu.walks j) ∧
      t = { s with dev := { s.dev with stu := { s.dev.stu with walks := t.dev.stu.walks }, dict := t.dev.dict } }) ∧
  (∀ (s : State) (k : Nat) (w : Walk) (r : Requester) (e : TlbEntry) (pte l a : Nat) (d : Dev), s.dev.serving = true →
    KMap.find s.dev.stu.walks k = some w → w.active = true → w.delay ≤ s.dev.pwr.tick - w.start →
    s.dev.pwr.tick - w.start ≤ w.deadline → w.reqs = [r] → 128 ≤ r.source → r.source ≠ 0x8A → r.source ≠ 0x84 →
    r.source ≠ 0x82 →
    ((s.dev.dropWalk k).maxObj 0x4020 4 0 (s.dev.pwr.tick - w.start) 32).walk w.tenant w.pasid w.va =
      (.leaf e pte l a, d) → leafUsable pte = true → leafCause pte r.access = 0 → d.stu.iotlb.length < 16384 →
    Nexts (.walkComplete k) s fun t => e ∈ t.dev.stu.iotlb ∧ t.dev.stu.faults = d.stu.faults ∧ t.dev.mem = d.mem ∧
      t.dev.tiles = d.tiles ∧ t.dev.jobs = d.jobs) ∧
  (∀ (s : State) (k j l : Nat) (w : Walk) (r : Requester) (d : Dev), s.dev.serving = true →
    KMap.find s.dev.stu.walks k = some w → w.active = true → w.delay ≤ s.dev.pwr.tick - w.start →
    s.dev.pwr.tick - w.start ≤ w.deadline → w.reqs = [r] → r.source < 128 → r.job = some j → r.policy = 1 →
    (s.dev.tile r.source).job = some j → (s.dev.tile r.source).stalls = [] →
    (∀ x, KMap.find d.jobs j = some x → x.stopAtBoundary = false ∧ x.cancel = false) →
    ((s.dev.dropWalk k).maxObj 0x4020 4 0 (s.dev.pwr.tick - w.start) 32).walk w.tenant w.pasid w.va = (.fault 1 l, d) →
    d.tiles = s.dev.tiles → d.stu.faults = [] → Nexts (.walkComplete k) s fun t => OnlyDev s t ∧
      (∃ id f, t.dev.stu.faults = [(id, f)] ∧ f.tenant = w.tenant ∧ f.pasid = w.pasid ∧ f.va = r.va ∧
        f.access = r.access ∧ f.cause = 1 ∧ f.level = l) ∧
      (t.dev.tile r.source).stalls = [r.tag] ∧ t.dev.mem = d.mem) ∧
  (∀ (s : State) (k : Nat) (w : Walk), s.dev.serving = true → KMap.find s.dev.stu.walks k = some w → w.active = true →
    w.restarted = false → w.deadline < s.dev.pwr.tick - w.start → w.reqs ≠ [] → s.dev.err.rings = [] →
    Nexts (.walkTimeout k) s fun t => OnlyDev s t ∧
      t.dev.stu = { s.dev.stu with walks := t.dev.stu.walks } ∧
      KMap.find t.dev.stu.walks k = some { w with restarted := true, start := s.dev.pwr.tick } ∧
      (∀ j, j ≠ k → KMap.find t.dev.stu.walks j = KMap.find s.dev.stu.walks j) ∧
      t.dev.obj 0xA010 0x35 0 = Nat.min (s.dev.obj 0xA010 0x35 0 + 1) (2 ^ 32 - 1) ∧
      t.dev.tiles = s.dev.tiles ∧ t.dev.jobs = s.dev.jobs ∧ t.dev.mem = s.dev.mem) ∧
  (∀ (s : State) (f : FaultRec) (r : Requester), s.dev.serving = true → s.dev.stu.faultWait = [f] →
    s.dev.stu.faults = [] → f.reqs = [r] → 128 ≤ r.source → Nexts .faultQueueSlotFree s fun t =>
      t.dev.stu.faultWait = [] ∧ (∃ id g, t.dev.stu.faults = [(id, g)] ∧ g.va = f.va ∧ g.reqs = f.reqs ∧
        g.cause = f.cause ∧ g.tick = f.tick) ∧ t = { s with dev := { s.dev with stu := t.dev.stu, dict := t.dev.dict } })

/-- From R174 to R178, R180: RETRY asks for a fresh walk after the handler's stores, FAIL ends the job with TRANSLATION, and the
stall limit switches a tile's job out with its record open. -/
def Obligations.FaultAnswers : Prop :=
  (∀ (s : State) (id : BitVec 16) (f : FaultRec) (r : Requester) (l : List ByteStore), s.dev.serving = true →
    KMap.find s.dev.stu.faults id.toNat = some f → s.dev.stu.moves = [] → f.reqs = [r] → 128 ≤ r.source →
    s.dev.stu.walks = [] → Clean s.dev.mem → Nexts (.faultRetry id l) s fun t => KMap.find t.dev.stu.faults id.toNat = none ∧
      (∃ w, t.dev.stu.walks = [(s.dev.stu.nextWalk, w)] ∧ w.tenant = f.tenant ∧ w.pasid = f.pasid ∧ w.va = r.va ∧
        w.reqs = [r] ∧ w.active = false) ∧ StoredBytes l s.dev.mem t.dev.mem ∧
      t = { s with dev := { s.dev with stu := t.dev.stu, mem := t.dev.mem, emits := t.dev.emits } }) ∧
  (∀ (s : State) (id : BitVec 16) (f : FaultRec), KMap.find s.dev.stu.faults id.toNat = some f →
    s.dev.moving f.tenant f.pasid f.va = true → exec (.faultFail id) s = .next s ∧
      ∀ l, exec (.faultRetry id l) s = .next s) ∧
  (∀ (s : State) (id : BitVec 16) (f : FaultRec) (r : Requester) (j : Nat) (x : Job), s.dev.serving = true →
    s.dev.moving f.tenant f.pasid f.va = false → KMap.find s.dev.stu.faults id.toNat = some f → f.reqs = [r] → r.source < 128 → r.job = some j →
    KMap.find s.dev.jobs j = some x → x.st = .running → f.tenant < 64 → Nexts (.faultFail id) s fun t => OnlyDev s t ∧
      KMap.find t.dev.stu.faults id.toNat = none ∧ (∃ y, KMap.find t.dev.jobs j = some y ∧ y.st = .ended 2 ∧ y.tiles = []) ∧
      t.dev.obj 0xA010 0x01 f.tenant = Nat.min (s.dev.obj 0xA010 0x01 f.tenant + 1) (2 ^ 32 - 1)) ∧
  (∀ (s : State) (id : BitVec 16) (f : FaultRec) (r : Requester) (j : Nat) (x : Job), s.dev.serving = true →
    KMap.find s.dev.stu.faults id.toNat = some f → f.reqs = [r] → r.source < 128 → r.job = some j →
    r.limit + r.since ≤ s.dev.pwr.tick → KMap.find s.dev.jobs j = some x → x.st = .running → x.cancel = false →
    s.dev.stu.faultWait = [] →
    Nexts (.stallLimitExpiry id) s fun t => OnlyDev s t ∧
      (∃ g, KMap.find t.dev.stu.faults id.toNat = some g ∧ g.reqs = [r]) ∧
      (∃ y, KMap.find t.dev.jobs j = some y ∧ y.st = .offTile true ∧ y.tiles = [] ∧ y.front = true) ∧ t.dev.mem = s.dev.mem)

/-- From R167 to R170, R187, Table 7.10: a fence of M- or HS-mode removes what it names from every cache after the core's stores
and retires in order; a late chiplet is a fatal error; the other invalidations. -/
def Obligations.FencesAndInvalidations : Prop :=
  (∀ (s : State) (m : FenceMode) (va : Option (BitVec 64)) (asid : Option (BitVec 16)) (l : List ByteStore),
    s.dev.hubOn = true → Clean s.dev.mem → m ≠ .vsMode → Nexts (.sfenceBroadcast m va asid l) s fun t => OnlyDev s t ∧
      (∀ e ∈ t.dev.stu.iotlb, e ∈ s.dev.stu.iotlb ∧
        ¬ ((∀ v, va = some v → e.vpn ≤ v.toNat / 4096 ∧ v.toNat / 4096 < e.vpn + e.pages) ∧
          (∀ a, asid = some a → e.asid = a.toNat ∧ e.glob = false))) ∧
      (∀ (k : TileId) (e : TlbEntry), e ∈ (t.dev.tile k.val).uTlb → e ∈ (s.dev.tile k.val).uTlb ∧
        ¬ ((∀ v, va = some v → e.vpn ≤ v.toNat / 4096 ∧ v.toNat / 4096 < e.vpn + e.pages) ∧
          (∀ a, asid = some a → e.asid = a.toNat ∧ e.glob = false))) ∧
      (va = none → asid = none → t.dev.stu.walkCache = [] ∧ t.dev.stu.ctxCache = []) ∧
      t.dev.stu.fences = s.dev.stu.fences ++ [⟨va.map (·.toNat), asid.map (·.toNat), s.dev.pwr.tick, s.dev.obj 0x4003 0 0⟩] ∧
      StoredBytes l s.dev.mem t.dev.mem ∧ t.dev.jobs = s.dev.jobs ∧ t.dev.rings = s.dev.rings) ∧
  (∀ (s : State) (va : Option (BitVec 64)) (asid : Option (BitVec 16)) (l : List ByteStore), s.dev.hubOn = true →
    Clean s.dev.mem → Nexts (.sfenceBroadcast .vsMode va asid l) s fun t =>
      t = { s with dev := { s.dev with mem := t.dev.mem, emits := t.dev.emits } } ∧
      StoredBytes (s.dev.moduleStores l) s.dev.mem t.dev.mem ∧
      (∀ a, (∀ w ∈ l, w.addr ≠ a) → t.dev.mem.byte a = s.dev.mem.byte a)) ∧
  (∀ (s : State) (f : Fence) (l : List Fence), s.dev.hubOn = true → s.dev.stu.fences = f :: l → Nexts .fenceRetire s fun t =>
    t.dev.stu.fences = l ∧ Emits s t .fenceRetired ∧ t = { s with dev := { s.dev with
      stu := { s.dev.stu with fences := l }, dict := t.dev.dict, emits := t.dev.emits } }) ∧
  (∀ (s : State) (f : Fence) (l : List Fence) (c : Fin 4), s.dev.hubOn = true → s.dev.stu.fences = f :: l →
    f.start + f.deadline ≤ s.dev.pwr.tick → s.dev.has (264 + c.val) = true → s.dev.clk.chipLow.get c.val false = false →
    Nexts (.fenceTimeout 0 (BitVec.ofNat 4 (2 ^ c.val)) ⟨false, []⟩) s fun t =>
      t.dev.boot.rstCause = 9 ∧ WorkLost t.dev ∧ t.dev.err.held = [⟨0x50, s.dev.pwr.tick, 9⟩]) ∧
  (∀ (s : State) (f : Fence) (l : List Fence) (k : TileId), s.dev.hubOn = true → s.dev.stu.fences = f :: l →
    f.start + f.deadline ≤ s.dev.pwr.tick → s.dev.has k.val = true → (s.dev.tile k.val).job = none →
    (s.dev.tile k.val).power ≠ .sleep →
    Nexts (.fenceTimeout (BitVec.ofNat 128 (2 ^ k.val)) 0 ⟨false, []⟩) s fun t => t.dev.stu.fences = l ∧
      (t.dev.tile k.val).resetting = true ∧ 0x32 ∈ t.dev.err.unit ∧ t.dev.pwr = s.dev.pwr) ∧
  (∀ (s : State) (f : Fence) (l : List Fence) (k : TileId), s.dev.hubOn = true → s.dev.stu.fences = f :: l →
    f.start + f.deadline ≤ s.dev.pwr.tick → (s.dev.tile k.val).power = .sleep →
    Nexts (.fenceTimeout (BitVec.ofNat 128 (2 ^ k.val)) 0 ⟨false, []⟩) s fun t => t.dev.stu.fences = l ∧
      t.dev.tile k.val = s.dev.tile k.val) ∧
  (∀ (s : State) (f : Fence) (l : List Fence) (n : FnId) (e : Nat) (w : List Nat), s.dev.hubOn = true →
    s.dev.stu.fences = f :: l → f.start + f.deadline ≤ s.dev.pwr.tick → (s.dev.errRing n.val).waiting = e :: w →
    n.val ≠ 0 → Nexts (.fenceTimeout 0 0 ⟨false, [.errRing n]⟩) s fun t => t.dev.stu.fences = l ∧
      (t.dev.errRing n.val).waiting = w ∧ t.dev.obj 0xA004 0 n.val = Nat.min (s.dev.obj 0xA004 0 n.val + 1) (2 ^ 32 - 1)) ∧
  (∀ (s : State) (n : FnId) (b : BitVec 64) (l : List ByteStore), s.dev.serving = true → Clean s.dev.mem → b.toNat % 4096 = 0 →
    b.toNat < s.dev.hbmTop → Nexts (.memPasidTable n b l) s fun t => t.dev.obj 0x4010 0 n.val = b.toNat ∧
      (∀ e ∈ t.dev.stu.ctxCache, e.tenant ≠ n.val ∧ e ∈ s.dev.stu.ctxCache) ∧ StoredBytes l s.dev.mem t.dev.mem ∧
      t = { s with dev := { s.dev with stu := { s.dev.stu with ctxCache := t.dev.stu.ctxCache }, mem := t.dev.mem
                                       dict := t.dev.dict, emits := t.dev.emits } }) ∧
  (∀ (s : State) (a n : Nat) (l : List ByteStore), s.dev.serving = true → Clean s.dev.mem → 1 ≤ n →
    a + n ≤ s.dev.hbmTop / 2097152 → Nexts (.tenRotInval a n l) s fun t =>
      (∀ e ∈ t.dev.stu.rotCache, e ∈ s.dev.stu.rotCache ∧ ¬ (a ≤ e.1 ∧ e.1 < a + n)) ∧
      t.dev.srv.rotInvals = s.dev.srv.rotInvals ++ [⟨none, 0, a, n⟩] ∧
      (∃ m, StoredBytes l s.dev.mem m ∧ ∀ x, t.dev.mem.byte x = m.byte x ∨
        (a * 2097152 ≤ x ∧ x < (a + n) * 2097152 ∧ t.dev.mem.byte x = 0)) ∧ t = { s with dev := { s.dev with
        stu := { s.dev.stu with rotCache := t.dev.stu.rotCache, regionOwner := t.dev.stu.regionOwner }, mem := t.dev.mem
        srv := t.dev.srv, emits := t.dev.emits } }) ∧
  (∀ (s : State) (a old new : Nat), s.dev.serving = true → a + 1 ≤ s.dev.hbmTop / 2097152 → new < 64 → old ≠ new →
    KMap.find s.dev.stu.regionOwner a = some old →
    leNat (s.dev.mem.read (s.dev.obj 0x3800 0 0 + 2 * a) 2) = privateOf new → Nexts (.tenRotInval a 1 []) s fun t =>
      KMap.find t.dev.stu.regionOwner a = some new ∧
      (∀ x, a * 2097152 ≤ x → x < (a + 1) * 2097152 → t.dev.mem.byte x = 0) ∧
      (∀ x, ¬ (a * 2097152 ≤ x ∧ x < (a + 1) * 2097152) → t.dev.mem.byte x = s.dev.mem.byte x)) ∧
  (∀ (s : State) (r : RotInval) (l : List RotInval) (n : FnId), s.dev.live = true → s.dev.srv.rotInvals = r :: l →
    s.dev.srv.heldFrames = [] → r.src = some (.mailbox n) →
    (s.dev.fn n.val).irq = false → Nexts .rotInvalComplete s fun t => t.dev.srv.rotInvals = l ∧
      (t.dev.fn n.val).busy = false ∧ (t.dev.fn n.val).done = true ∧
      t = { s with dev := { s.dev with srv := t.dev.srv, fns := t.dev.fns } })

/-! ### Tenancy -/

namespace Sys2Proof.Stm

open Sys2Proof.Machine

/-- A tile is as it was, or has been woken and nothing else. -/
def Woken (x y : Tile) : Prop :=
  y = { x with power := y.power, idleSince := y.idleSince, scrubWoke := y.scrubWoke } ∧
    (y = x ∨ (y.power = .idle ∧ y.scrubWoke = false))

end Sys2Proof.Stm

/-- From R189 to R193, R213, R391: tenant clears pass or fail; a failed unit is disabled; policy modules start, stop and trap;
TILE_ENABLE 0 takes the tile. -/
def Obligations.Tenancy : Prop :=
  (∀ (s : State) (k : TileId), s.dev.live = true → (s.dev.tile k.val).clearing = true →
    Nexts (.tenantClearDone (.tile k) .zero) s fun t =>
      (t.dev.tile k.val).clearing = false ∧ (t.dev.tile k.val).mustClear = false ∧ (t.dev.tile k.val).tb = [] ∧
      (t.dev.tile k.val).as = [] ∧ (t.dev.tile k.val).tbErr = [] ∧ (t.dev.tile k.val).asErr = [] ∧
      (t.dev.tile k.val).sregs = [] ∧ (t.dev.tile k.val).handles = [] ∧ (t.dev.tile k.val).uTlb = [] ∧
      (t.dev.tile k.val).ckpt = (s.dev.tile k.val).ckpt ∧ (t.dev.tile k.val).scrubStart = s.dev.pwr.tick ∧
      t.dev.obj 0x3830 0 0 = Nat.min (s.dev.obj 0x3830 0 0 + 1) (2 ^ 64 - 1) ∧
      (∀ j : TileId, j ≠ k → t.dev.tile j.val = s.dev.tile j.val) ∧
      t = { s with dev := { s.dev with tiles := t.dev.tiles, dict := t.dev.dict } }) ∧
  (∀ (s : State) (k : SolvSlot), s.dev.live = true → (s.dev.slot k.val).clearing = true →
    Nexts (.tenantClearDone (.solver k) .zero) s fun t => (t.dev.slot k.val).clearing = false ∧
      (t.dev.slot k.val).resident = none ∧ (t.dev.slot k.val).lastTenant = some (s.dev.slotTenant k.val) ∧
      t.dev.obj 0x7C20 (k.val + 1) 0 = 0 ∧ t.dev.obj 0x7C23 (k.val + 1) 0 = 0) ∧
  (∀ (s : State) (a : ArrayId) (b : Fin 2), s.dev.live = true → (s.dev.array a.val).clearing b.val = true →
    Nexts (.tenantClearDone (.bank a b) .zero) s fun t => ((t.dev.array a.val).bank b.val).words = [] ∧
      t.dev.obj 0x3830 0 0 = Nat.min (s.dev.obj 0x3830 0 0 + 1) (2 ^ 64 - 1) ∧ t.dev.mem = s.dev.mem ∧
      t.dev.jobs = s.dev.jobs ∧ OnlyDev s t) ∧
  (∀ (s : State) (k : TileId) (x : Fin 4) (off : Nat), s.dev.live = true → (s.dev.tile k.val).clearing = true →
    (s.dev.tile k.val).job = none → Nexts (.tenantClearDone (.tile k) (.failed x off)) s fun t =>
      (t.dev.tile k.val).failed = true ∧ (t.dev.tile k.val).clearing = false ∧ t.dev.tileOk k.val = false ∧
      0x30 ∈ t.dev.err.unit ∧ t.dev.alertAsserted = true ∧
      t.dev.obj 0x3831 0 0 = Nat.min (s.dev.obj 0x3831 0 0 + 1) (2 ^ 32 - 1) ∧ OnlyDev s t) ∧
  (∀ (s : State) (k : TileId), s.dev.live = true → (s.dev.tile k.val).clearing = true → (s.dev.tile k.val).job = none →
    (s.dev.tile k.val).clearStart + 61 < s.dev.pwr.tick → Nexts (.tenantClearDeadline (.tile k)) s fun t =>
      (t.dev.tile k.val).failed = true ∧ (t.dev.tile k.val).clearing = false ∧ 0x30 ∈ t.dev.err.unit ∧ OnlyDev s t) ∧
  (∀ (s : State) (c : Fin 8), s.dev.serving = true → s.dev.policyCore c.val = true → (s.dev.core c.val).image.isSome = true →
    exec (.policyStart c) s = .next { s with dev := { s.dev with
      cores := s.dev.cores.put c.val { s.dev.core c.val with st := 1 } } }) ∧
  (∀ (s : State) (c : Fin 8), s.dev.serving = true → s.dev.policyCore c.val = true → (s.dev.core c.val).st = 1 →
    exec (.policyStop c) s = .next { s with dev := { s.dev with
      cores := s.dev.cores.put c.val { s.dev.core c.val with st := 2 } } }) ∧
  (∀ (s : State) (c : Fin 8), s.dev.serving = true → s.dev.policyCore c.val = true → (s.dev.core c.val).st = 1 →
    Nexts (.policyTrap c) s fun t => t.dev.core c.val = { s.dev.core c.val with st := 3 } ∧ 0x37 ∈ t.dev.err.unit ∧
      t.dev.alertAsserted = true ∧ t.dev.tiles = s.dev.tiles ∧ t.dev.jobs = s.dev.jobs ∧ OnlyDev s t) ∧
  (∀ (s : State) (k : TileId), s.dev.serving = true → s.dev.has k.val = true → Nexts (.tileEnable k true) s fun t =>
    t.dev.obj 0x5001 (k.val + 1) 0 = 1 ∧ (∀ i : TileId, Woken (s.dev.tile i.val) (t.dev.tile i.val)) ∧
    ((s.dev.tile k.val).power ≠ .sleep → t.dev.clk.chipLow.get (k.val / 32) false = false) ∧
    t = { s with dev := { s.dev with dict := t.dev.dict, tiles := t.dev.tiles, clk := t.dev.clk } }) ∧
  (∀ (s : State) (k : TileId), s.dev.serving = true → s.dev.has k.val = true → (s.dev.tile k.val).job = none →
    Nexts (.tileEnable k false) s fun t => t.dev.obj 0x5001 (k.val + 1) 0 = 0 ∧ t.dev.tileOk k.val = false ∧
      t.dev.tile k.val = { s.dev.tile k.val with mustClear := true } ∧
      (∀ j : TileId, j ≠ k → Woken (s.dev.tile j.val) (t.dev.tile j.val)) ∧
      t = { s with dev := { s.dev with tiles := t.dev.tiles, dict := t.dev.dict, clk := t.dev.clk } })

/-! ### Migration and the KV page store -/

namespace Sys2Proof.Stm

open Sys2Proof.Machine

/-- The checks and reads of a SEQ_CTL operation, and the translation of what it will write, end without a stop. -/
def KvChecked (d : Dev) (j op : Nat) (body : KvCtx → Job → KM KvPlan) (x : Job) (p : KvPlan)
    (ws : List (List (Nat × Nat × Nat) × KvWrite)) (d' : Dev) : Prop :=
  Waits d j 4 x ∧ x.inline / 2 ^ 48 % 256 = op ∧
    let y : Job := { x with taken := true }
    let e : Dev := { d with jobs := d.jobs.put j y }
    let c : KvCtx := { job := j, tenant := x.tenant, pasid := x.pasid, pool := d.obj 0x6010 0 x.tenant
                       req := e.withJob (some j) { source := 0x8B } }
    (do
      let p ← body c y
      let ws ← KM.prepare c p
      pure (p, ws) : KM _).run.run e = (.ok (p, ws), d')

/-- The job has ended with OK. -/
def EndsOk (t : State) (j : Nat) : Prop := ∃ y, KMap.find t.dev.jobs j = some y ∧ y.st = .ended 0

/-- A command that goes through the pages of a PREFETCH or an ADVISE of opcode `op`, of a mode that `ok` names: the walk of the
next page is asked for in the job's class, once, and the job ends with OK after its last page. -/
def ScanCmd (c : Nat → Instr) (op : Nat) (ok : Nat → Bool) : Prop :=
  (∀ (s : State) (j : Nat) (x : Job), Waits s.dev j op x → ok (x.inline % 256) = true →
    (∀ m ∈ s.dev.stu.moves, m.job ≠ some j) → x.scanPos < x.inline / 2 ^ 32 % 2 ^ 32 →
    s.dev.moving x.tenant x.pasid x.scanVa = false → s.dev.stu.walks = [] → s.dev.stu.faults = [] →
    s.dev.stu.faultWait = [] → Nexts (c j) s fun t =>
      (∃ w r, t.dev.stu.walks = [(s.dev.stu.nextWalk, w)] ∧ w.reqs = [r] ∧ w.tenant = x.tenant ∧ w.pasid = x.pasid ∧
        w.va = (x.inline / 2 ^ 64 % 2 ^ 64 + 4096 * x.scanPos) % 2 ^ 64 ∧ w.active = false ∧ r.source = 0x82 ∧
        r.job = some j ∧ r.prio = x.effClass) ∧
      KMap.find t.dev.jobs j = some { x with taken := true } ∧
      t = { s with dev := { s.dev with
        jobs := t.dev.jobs, stu := { s.dev.stu with walks := t.dev.stu.walks, nextWalk := t.dev.stu.nextWalk } } }) ∧
  (∀ (s : State) (j : Nat) (x : Job), Waits s.dev j op x → ok (x.inline % 256) = true →
    (∀ m ∈ s.dev.stu.moves, m.job ≠ some j) → x.inline / 2 ^ 32 % 2 ^ 32 ≤ x.scanPos → Nexts (c j) s fun t =>
      OnlyDev s t ∧ EndsOk t j ∧ t.dev.mem = s.dev.mem ∧ t.dev.stu.moves = s.dev.stu.moves)

/-- The device when walk `k` leaves its walker, and what the walk finds. -/
def walkEndOf (d : Dev) (k : Nat) (w : Walk) : WalkEnd × Dev :=
  ((d.dropWalk k).maxObj 0x4020 4 0 (d.pwr.tick - w.start) 32).walk w.tenant w.pasid w.va

/-- Walk `k` of the migration engine for job `j` ends now, within its deadline. -/
def PageWalked (s : State) (k j : Nat) (w : Walk) (r : Requester) (x : Job) (d : Dev) : Prop :=
  s.dev.serving = true ∧ KMap.find s.dev.stu.walks k = some w ∧ w.active = true ∧ w.delay ≤ s.dev.pwr.tick - w.start ∧
    s.dev.pwr.tick - w.start ≤ w.deadline ∧ w.reqs = [r] ∧ r.source = 0x82 ∧ r.tag = 0 ∧ r.job = some j ∧
    KMap.find d.jobs j = some x ∧ x.st = .waiting ∧ x.tenant = w.tenant ∧ x.pasid = w.pasid

end Sys2Proof.Stm

/-- From R179 to R181, R257, R258, R401, Table 7.9, Table 7.11: PREFETCH and ADVISE ask for the walk of their next page and end
after the last one; a leaf found is made invalid and its move entered, or takes the attribute, or is skipped; an eviction starts
for a tenant over its quota; the end of a move copies the page. -/
def Obligations.Migration : Prop :=
  ScanCmd .prefetchToHbm 2 (fun m => m == 1) ∧ ScanCmd .prefetchToHost 2 (fun m => m == 2) ∧
  ScanCmd .advise 3 (fun _ => true) ∧
  (∀ (s : State) (k j : Nat) (w : Walk) (r : Requester) (x : Job) (e : TlbEntry) (pte l a : Nat) (d : Dev),
    PageWalked s k j w r x d → walkEndOf s.dev k w = (.leaf e pte l a, d) → x.opcode = 2 → x.inline % 256 = 1 →
    2 ^ 55 ≤ (⟨pte, l, a⟩ : Leaf).src → Nexts (.walkComplete k) s fun t => OnlyDev s t ∧
      t.dev.stu.moves = d.stu.moves ++ [{ tenant := w.tenant, pasid := w.pasid, va := (⟨pte, l, a⟩ : Leaf).base r.va, level := l
                                          pteAddr := a, pte := pte, src := (⟨pte, l, a⟩ : Leaf).src
                                          bytes := (⟨pte, l, a⟩ : Leaf).bytes, toHbm := true, job := some j }] ∧
      (∀ e ∈ t.dev.stu.iotlb, ¬ (e.vpn ≤ r.va / 4096 ∧ r.va / 4096 < e.vpn + e.pages)) ∧
      KMap.find t.dev.jobs j = some { x with scanPos := x.scanPos + (⟨pte, l, a⟩ : Leaf).pagesFrom r.va }) ∧
  (∀ (s : State) (k j : Nat) (w : Walk) (r : Requester) (x : Job) (e : TlbEntry) (pte l a : Nat) (d : Dev),
    PageWalked s k j w r x d → walkEndOf s.dev k w = (.leaf e pte l a, d) → x.opcode = 3 → x.inline % 256 ≠ 1 →
    Nexts (.walkComplete k) s fun t => OnlyDev s t ∧ t.dev.mem = d.mem ∧ t.dev.stu.moves = d.stu.moves ∧
      ∀ i < Nat.min ((⟨pte, l, a⟩ : Leaf).pagesFrom r.va) (inlinePages x - x.scanPos),
        (⟨x.tenant, x.pasid, r.va / 4096 + i, x.inline % 256⟩ : Advice) ∈ t.dev.stu.advice) ∧
  (∀ (s : State) (k j : Nat) (w : Walk) (r : Requester) (x : Job) (l : Nat) (d : Dev), PageWalked s k j w r x d →
    walkEndOf s.dev k w = (.fault 1 l, d) → inlinePages x = x.scanPos + 1 → x.opcode = 2 ∨ x.opcode = 3 →
    (∀ m ∈ d.stu.moves, m.job ≠ some j ∧ m.tenant ≠ w.tenant) → Nexts (.walkComplete k) s fun t => OnlyDev s t ∧
      EndsOk t j ∧ t.dev.stu.moves = d.stu.moves ∧ t.dev.mem = d.mem) ∧
  (∀ (s : State) (n : FnId) (q : Seq) (x : PageDesc), s.dev.serving = true → s.dev.evicting n.val = false →
    s.dev.obj 0x6013 0 n.val < s.dev.hbmUsed n.val + s.dev.obj 0x6016 0 n.val → s.dev.evictable n.val = some (q, x) →
    s.dev.stu.walks = [] → Nexts (.kvEviction n) s fun t =>
      t.dev.kv.evicts = s.dev.kv.evicts ++ [⟨n.val, q.pagesOf x⟩] ∧
      (∀ va ∈ q.pagesOf x, s.dev.moving n.val (s.dev.obj 0x6010 0 n.val) va = true ∨
        t.dev.waitingReq n.val (s.dev.obj 0x6010 0 n.val) va { evictReq n.val with va := va } = true) ∧
      t = { s with dev := { s.dev with
        kv := { s.dev.kv with evicts := t.dev.kv.evicts }
        stu := { s.dev.stu with walks := t.dev.stu.walks, nextWalk := t.dev.stu.nextWalk } } }) ∧
  (∀ (s : State) (m : Move) (l : List Move) (dst : Nat), s.dev.serving = true → s.dev.stu.moves = m :: l →
    s.dev.moveFit m dst = .fits → Clean s.dev.mem → m.leaf.napot = false → m.pteAddr % 8 = 0 →
    (s.dev.ownOkAll m.tenant (regionPieces m.src m.bytes) false).1 = true →
    (m.pteAddr + 8 ≤ dst ∨ dst + m.bytes ≤ m.pteAddr) → Nexts (.migrationMoveDone dst) s fun t => OnlyDev s t ∧
      t.dev.stu.moves = l ∧ (∀ i < m.bytes, t.dev.mem.byte (dst + i) = s.dev.mem.byte (m.src + i)) ∧
      leNat (t.dev.mem.read m.pteAddr 8) = (m.pte - ptePpn m.pte * 2 ^ 10 + dst / 4096 * 2 ^ 10) % 2 ^ 64 ∧
      (∀ a, ¬ (dst ≤ a ∧ a < dst + m.bytes) → ¬ (m.pteAddr ≤ a ∧ a < m.pteAddr + 8) →
        t.dev.mem.byte a = s.dev.mem.byte a)) ∧
  (∀ (s : State) (m : Move) (l : List Move) (dst j : Nat) (x : Job), s.dev.serving = true → s.dev.stu.moves = m :: l →
    s.dev.moveFit m dst = .fits → m.job = some j → KMap.find s.dev.jobs j = some x → x.st = .waiting →
    (s.dev.ownOkAll m.tenant (regionPieces m.src m.bytes) false).1 = false → Nexts (.migrationMoveDone dst) s fun t =>
      OnlyDev s t ∧ ∃ y, KMap.find t.dev.jobs j = some y ∧ y.st = .ended 3) ∧
  (∀ (s : State) (n : FnId) (v : BitVec 64), s.dev.serving = true → v.toNat % 2097152 = 0 → s.dev.hbmUsed n.val ≤ v.toNat →
    Nexts (.kvHbmQuota n v) s fun t => t = { s with dev := { s.dev with dict := t.dev.dict } } ∧
      t.dev.obj 0x6013 0 n.val = v.toNat)

/-- From R244 to R254, Table 12.5: the SEQ_CTL operations change the sequence directory as their rules say, all at once after
their checks, and end with OK; QUERY writes the descriptor at ARGS. -/
def Obligations.SequenceOperations : Prop :=
  ∀ (s : State) (j : Nat) (x : Job) (p : KvPlan) (ws : List (List (Nat × Nat × Nat) × KvWrite)) (d : Dev),
    (KvChecked s.dev j 1 kvCreate x p ws d → Nexts (.create j) s fun t => EndsOk t j ∧ OnlyDev s t ∧
      ∃ q, KMap.find t.dev.kv.seqs x.seq = some q ∧ q.tenant = x.tenant ∧ q.tokens = 0 ∧ q.parent = x.seq ∧
        q.pages = (inlineReserve x + 63) / 64) ∧
    (KvChecked s.dev j 2 kvFork x p ws d → Nexts (.fork j) s fun t => EndsOk t j ∧ OnlyDev s t ∧
      ∃ q, KMap.find t.dev.kv.seqs x.seq = some q ∧ q.tenant = x.tenant ∧ q.tokens = inlineN x ∧
        q.parent = inlineParent x ∧ q.pages = (inlineN x + inlineReserve x + 63) / 64) ∧
    (KvChecked s.dev j 3 kvCommit x p ws d → Nexts (.commit j) s fun t => EndsOk t j ∧ OnlyDev s t ∧
      ∃ q0 q, s.dev.seqOf x.tenant x.seq = some q0 ∧ KMap.find t.dev.kv.seqs x.seq = some q ∧
        q = { q0 with tokens := q0.tokens + inlineN x
                      pages := Nat.max q0.pages ((q0.tokens + inlineN x + inlineReserve x + 63) / 64) }) ∧
    (KvChecked s.dev j 4 kvTrim x p ws d → Nexts (.trim j) s fun t => EndsOk t j ∧ OnlyDev s t ∧
      ∃ q0 q, s.dev.seqOf x.tenant x.seq = some q0 ∧ KMap.find t.dev.kv.seqs x.seq = some q ∧ inlineN x ≤ q0.tokens ∧
        q = { q0 with tokens := inlineN x, pages := (inlineN x + inlineReserve x + 63) / 64 }) ∧
    (KvChecked s.dev j 5 (kvPin true) x p ws d → Nexts (.pin j) s fun t => EndsOk t j ∧ OnlyDev s t ∧
      t.dev.kv.seqs = s.dev.kv.seqs) ∧
    (KvChecked s.dev j 6 (kvPin false) x p ws d → Nexts (.unpin j) s fun t => EndsOk t j ∧ OnlyDev s t ∧
      t.dev.kv.seqs = s.dev.kv.seqs) ∧
    (KvChecked s.dev j 7 kvQuery x p ws d → Nexts (.seqCtlQuery j) s fun t => EndsOk t j ∧ OnlyDev s t ∧
      t.dev.kv.seqs = s.dev.kv.seqs ∧ ∃ q, s.dev.seqOf x.tenant x.seq = some q ∧
        p.writes = [⟨x.pasid, x.args, .bytes (leBytes q.bits 64), none⟩]) ∧
    (KvChecked s.dev j 8 kvFree x p ws d → Nexts (.free j) s fun t => EndsOk t j ∧ OnlyDev s t ∧
      KMap.find t.dev.kv.seqs x.seq = none)

/-! ### Tile commands: the sequencer -/

namespace Sys2Proof.Stm

open Sys2Proof.Machine

/-- The sequencer of tile `k` takes the command word `w` now (R195, R199, R200, R207): it may issue, the fetch gives the word,
which is of the group and function given, no loop is being passed over, no outstanding command holds a register of `regs`,
and the predicate lets the command act. `d'` is the device on which it acts. -/
def Issues (d : Dev) (k : Nat) (w : Tcw) (grp fn : Nat) (regs : List Nat) (d' : Dev) : Prop :=
  ∃ j x d1, d.canIssue k = true ∧ d.tileJob k = some (j, x) ∧ d.fetchTcw k j x = (some w.toNat, d1) ∧
    d' = d1.firstTcw j x ∧ tcwGroup w.toNat = grp ∧ tcwFunc w.toNat = fn ∧ (d1.tile k).skip = none ∧
    (∀ o ∈ (d1.tile k).out, o.holdsReg regs = false) ∧
    (d1.tile k).p (w.toNat / 2 ^ 115 % 8) ≠ w.toNat.testBit 114

/-- Of the device `d'`, only tile `k` changes. -/
def OnlyTileOf (k : TileId) (d' : Dev) (s t : State) : Prop :=
  t = { s with dev := { d' with tiles := t.dev.tiles } } ∧ ∀ j : TileId, j ≠ k → t.dev.tile j.val = d'.tile j.val

/-- Tile `k` becomes `y`, goes on to position `pos` and counts one cycle (R206, R209). -/
def Goes (k : TileId) (d' : Dev) (s t : State) (y : Tile) (pos : Nat) (boundary : Bool) : Prop :=
  OnlyTileOf k d' s t ∧ t.dev.tile k.val = { y.pass 1 with pos := pos, atBoundary := boundary }

/-- The effect of a scalar command: register SD holds `v`, no other register changes, nor anything else but the position. -/
def SetsReg (k : TileId) (d' : Dev) (s t : State) (sd v : Nat) : Prop :=
  OnlyTileOf k d' s t ∧ (t.dev.tile k.val).s sd = v % 2 ^ 64 ∧
    (∀ i, i ≠ sd → (t.dev.tile k.val).s i = (d'.tile k.val).s i) ∧ (t.dev.tile k.val).pos = (d'.tile k.val).pos + 1 ∧
    t.dev.tile k.val = { d'.tile k.val with
      sregs := (t.dev.tile k.val).sregs, pos := (t.dev.tile k.val).pos, seg := (t.dev.tile k.val).seg, atBoundary := false }

/-- The registers of a scalar word: SD, SA, SB, and its immediate (Table 9.5). -/
def fieldOf (w : Tcw) (lo width : Nat) : Nat := w.toNat / 2 ^ lo % 2 ^ width

/-- A scalar command of function code `fn` sets SD to `f` of S[SA], S[SB] and IMM. -/
def ScalarCmd (c : TileId → Tcw → Instr) (fn : Nat) (extra : List (Nat × Nat)) (f : Nat → Nat → Nat → Nat) : Prop :=
  ∀ (s : State) (k : TileId) (w : Tcw) (d' : Dev),
    Issues s.dev k.val w 7 fn [fieldOf w 108 4, fieldOf w 104 4, fieldOf w 100 4] d' → fieldOf w 108 4 ≠ 0 →
    onlyBits w.toNat ((111, 108) :: (99, 36) :: extra) = true → Nexts (c k w) s fun t =>
      SetsReg k d' s t (fieldOf w 108 4)
        (f ((d'.tile k.val).s (fieldOf w 104 4)) ((d'.tile k.val).s (fieldOf w 100 4)) (fieldOf w 36 64))

/-- The effect of a predicate command: P[PD] holds `b`, no other predicate changes, nor anything else but the position. -/
def SetsPred (k : TileId) (d' : Dev) (s t : State) (pd : Nat) (b : Bool) : Prop :=
  OnlyTileOf k d' s t ∧ (t.dev.tile k.val).p pd = b ∧
    (∀ i < 8, i ≠ pd → (t.dev.tile k.val).p i = (d'.tile k.val).p i) ∧
    t.dev.tile k.val = { d'.tile k.val with
      preds := (t.dev.tile k.val).preds, pos := (d'.tile k.val).pos + 1, seg := (t.dev.tile k.val).seg, atBoundary := false }

/-- A comparison by its code (Table 9.5): EQ, NE, LTU, GEU, LTS, GES on 64-bit values. -/
def cmpOf (c : Nat) (a b : BitVec 64) : Bool :=
  if c = 0 then a == b else if c = 1 then a != b else if c = 2 then a.ult b else if c = 3 then b.ule a
  else if c = 4 then a.slt b else b.sle a

end Sys2Proof.Stm

/-- From R196, R203, Table 9.5: the scalar functions write SD alone, and SETP and PLOGIC their predicate alone. -/
def Obligations.ScalarAndPredicate : Prop :=
  ScalarCmd .sli 0x08 [] (fun _ _ i => i) ∧
  ScalarCmd .sadd 0x09 [(107, 104), (103, 100)] (fun a b i => a + b + i) ∧
  ScalarCmd .smul 0x0A [(107, 104)] (fun a _ i => a * i) ∧
  ScalarCmd .sand 0x0B [(107, 104)] (fun a _ i => a &&& i) ∧
  ScalarCmd .sxor 0x0C [(107, 104)] (fun a _ i => a ^^^ i) ∧
  ScalarCmd .sshr 0x0D [(107, 104)] (fun a _ i => a / 2 ^ (i % 64)) ∧
  (∀ (s : State) (k : TileId) (w : Tcw) (d' : Dev), Issues s.dev k.val w 8 0 [fieldOf w 105 4, fieldOf w 101 4] d' →
    1 ≤ fieldOf w 109 3 → fieldOf w 109 3 ≤ 6 → fieldOf w 98 3 ≤ 5 → onlyBits w.toNat [(111, 34)] = true →
    Nexts (.setp k w) s fun t => SetsPred k d' s t (fieldOf w 109 3)
      (cmpOf (fieldOf w 98 3) (BitVec.ofNat 64 ((d'.tile k.val).s (fieldOf w 105 4)))
        (BitVec.ofNat 64 ((d'.tile k.val).s (fieldOf w 101 4) + fieldOf w 34 64)))) ∧
  (∀ (s : State) (k : TileId) (w : Tcw) (d' : Dev), Issues s.dev k.val w 8 1 [] d' →
    1 ≤ fieldOf w 109 3 → fieldOf w 109 3 ≤ 6 → onlyBits w.toNat [(111, 101)] = true → Nexts (.plogic k w) s fun t =>
      SetsPred k d' s t (fieldOf w 109 3)
        (let a := (d'.tile k.val).p (fieldOf w 106 3)
         let b := (d'.tile k.val).p (fieldOf w 103 3)
         if fieldOf w 101 2 = 0 then a && b else if fieldOf w 101 2 = 1 then a || b
         else if fieldOf w 101 2 = 2 then xor a b else a && !b))

/-- From R206: LOOP pushes a level or passes its loop over, ENDLOOP goes back or pops, BREAK leaves; R197, R209, R210: SEG keeps a
checkpoint and starts a segment, DONE ends its rank, ABORT ends its job with a fault. -/
def Obligations.LoopsAndSegments : Prop :=
  (∀ (s : State) (k : TileId) (w : Tcw) (d' : Dev) (n : Nat),
    Issues s.dev k.val w 7 0 [fieldOf w 108 4, fieldOf w 104 4] d' → fieldOf w 114 4 = 0 →
    onlyBits w.toNat [(111, 108), (107, 104), (103, 72)] = true → (d'.tile k.val).loops.length < 4 →
    n = (if fieldOf w 108 4 = 0 then fieldOf w 72 32 else (d'.tile k.val).s (fieldOf w 108 4)) →
    Nexts (.loop k w) s fun t =>
      (n = 0 → Goes k d' s t { d'.tile k.val with skip := some 0 } ((d'.tile k.val).pos + 1) false) ∧
      (n ≠ 0 → OnlyTileOf k d' s t ∧ (t.dev.tile k.val).pos = (d'.tile k.val).pos + 1 ∧
        (t.dev.tile k.val).loops = ⟨(d'.tile k.val).pos + 1, n, 0, fieldOf w 104 4⟩ :: (d'.tile k.val).loops ∧
        (t.dev.tile k.val).s (fieldOf w 104 4) = 0 ∧
        (∀ i, i ≠ fieldOf w 104 4 → (t.dev.tile k.val).s i = (d'.tile k.val).s i))) ∧
  (∀ (s : State) (k : TileId) (w : Tcw) (d' : Dev) (l : LoopLevel) (r : List LoopLevel), Issues s.dev k.val w 7 1 [] d' →
    fieldOf w 114 4 = 0 → onlyBits w.toNat [] = true → (d'.tile k.val).loops = l :: r →
    (∀ o ∈ (d'.tile k.val).out, o.holdsReg [l.idxReg] = false) → Nexts (.endloop k w) s fun t =>
      (l.left ≤ 1 → Goes k d' s t { d'.tile k.val with loops := r } ((d'.tile k.val).pos + 1) false) ∧
      (1 < l.left → OnlyTileOf k d' s t ∧ (t.dev.tile k.val).pos = l.start ∧
        (t.dev.tile k.val).loops = { l with left := l.left - 1, index := l.index + 1 } :: r ∧
        (l.idxReg ≠ 0 → (t.dev.tile k.val).s l.idxReg = (l.index + 1) % 2 ^ 64) ∧
        (∀ i, i ≠ l.idxReg → (t.dev.tile k.val).s i = (d'.tile k.val).s i))) ∧
  (∀ (s : State) (k : TileId) (w : Tcw) (d' : Dev) (l : LoopLevel) (r : List LoopLevel), Issues s.dev k.val w 7 2 [] d' →
    onlyBits w.toNat [] = true → (d'.tile k.val).loops = l :: r → Nexts (.brk k w) s fun t =>
      Goes k d' s t { d'.tile k.val with loops := r, skip := some 0 } ((d'.tile k.val).pos + 1) false) ∧
  (∀ (s : State) (k : TileId) (w : Tcw) (d' : Dev) (j : Nat) (x : Job), Issues s.dev k.val w 9 0 [fieldOf w 102 4] d' →
    fieldOf w 114 4 = 0 → onlyBits w.toNat [(111, 93)] = true → fieldOf w 93 9 = 0 → (d'.tile k.val).out = [] →
    (d'.tile k.val).hErr = [] →
    (d'.tile k.val).seg + 16 < 16384 → d'.tileJob k.val = some (j, x) → Nexts (.seg k w) s fun t =>
      (t.dev.tile k.val).pos = (d'.tile k.val).pos + 1 ∧ (t.dev.tile k.val).atBoundary = true ∧
      (t.dev.tile k.val).seg = 0 ∧ (t.dev.tile k.val).p 7 = false ∧ (t.dev.tile k.val).copied = true ∧
      (∃ c, (t.dev.tile k.val).ckpt = some c ∧ c.pos = (d'.tile k.val).pos + 1 ∧ c.sregs = (d'.tile k.val).sregs ∧
        c.loops = (d'.tile k.val).loops ∧ c.handles = (d'.tile k.val).handles ∧ c.keepData = []) ∧
      t.dev.obj 0x5002 0 x.tenant = Nat.max (d'.obj 0x5002 0 x.tenant) ((d'.tile k.val).seg + 16) ∧
      t = { s with dev := { d' with tiles := t.dev.tiles, dict := t.dev.dict } } ∧
      (∀ i : TileId, i ≠ k → t.dev.tile i.val = d'.tile i.val)) ∧
  (∀ (s : State) (k : TileId) (w : Tcw) (d' : Dev) (e : Span), Issues s.dev k.val w 9 0 [fieldOf w 102 4] d' →
    fieldOf w 114 4 = 0 → onlyBits w.toNat [(111, 93)] = true → 1 ≤ fieldOf w 93 9 → fieldOf w 93 9 ≤ 256 →
    (d'.tile k.val).out = [] → (d'.tile k.val).hErr = [] → (d'.tile k.val).asErr = [] →
    (d'.tile k.val).operand (fieldOf w 102 10) (64 * fieldOf w 93 9) [2] false = some e →
    (d'.tile k.val).seg + 16 + (64 * fieldOf w 93 9 + 255) / 256 < 16384 → Nexts (.seg k w) s fun t =>
      (∃ c, (t.dev.tile k.val).ckpt = some c ∧ c.pos = (d'.tile k.val).pos + 1 ∧ c.keepStart = e.start ∧
        c.keepData = cellsRead (d'.tile k.val).as e.start e.len) ∧ (t.dev.tile k.val).atBoundary = true ∧
      (t.dev.tile k.val).seg = 0) ∧
  (∀ (s : State) (k : TileId) (w : Tcw) (d' : Dev) (j : Nat) (x : Job), Issues s.dev k.val w 0xF 0 [] d' →
    onlyBits w.toNat [] = true → (d'.tile k.val).out = [] → d'.tileJob k.val = some (j, x) → Nexts (.done k w) s fun t =>
      (x.doneRanks.length + 1 = x.nTiles → ∃ y, KMap.find t.dev.jobs j = some y ∧ y.st = .ended 0 ∧ y.tiles = []) ∧
      (x.doneRanks.length + 1 ≠ x.nTiles → x.cancel = false → x.stopAtBoundary = false → (t.dev.tile k.val).active = false ∧
        KMap.find t.dev.jobs j = some { x with doneRanks := x.doneRanks ++ [(d'.tile k.val).rank] }) ∧
      (x.doneRanks.length + 1 ≠ x.nTiles → x.cancel = true → (∀ i ∈ x.tiles, i ≠ k.val → (d'.tile i).active = false) →
        ∃ y, KMap.find t.dev.jobs j = some y ∧ y.st = .ended 5) ∧
      (∀ i, i ≠ j → KMap.find t.dev.jobs i = KMap.find d'.jobs i) ∧ t.dev.mem = d'.mem ∧ OnlyDev s t) ∧
  (∀ (s : State) (k : TileId) (w : Tcw) (d' : Dev) (j : Nat) (x : Job), Issues s.dev k.val w 0xF 1 [] d' →
    onlyBits w.toNat [(111, 96)] = true → d'.tileJob k.val = some (j, x) → x.tenant < 64 → Nexts (.abort k w) s fun t =>
      (∃ y, KMap.find t.dev.jobs j = some y ∧ y.st = .ended 6 ∧ y.tiles = []) ∧
      t.dev.obj 0x5003 5 x.tenant = Nat.min (d'.obj 0x5003 5 x.tenant + 1) (2 ^ 32 - 1) ∧
      t.dev.obj 0xA010 0x0D x.tenant = Nat.min (d'.obj 0xA010 0x0D x.tenant + 1) (2 ^ 32 - 1) ∧ OnlyDev s t)

/-! ### Tile commands: memory, fences, POLL, completions -/

namespace Sys2Proof.Stm

open Sys2Proof.Machine

/-- No word of a tile's handle table or stores is marked, no flip is armed, nothing is outstanding. -/
def Fresh (y : Tile) : Prop :=
  y.out = [] ∧ y.hErr = [] ∧ y.tbErr = [] ∧ y.asErr = [] ∧ y.tbArm = [] ∧ y.asArm = []

/-- The command enters its queue, and the sequencer goes on (R207): one outstanding item more. -/
def Queues (k : TileId) (d' : Dev) (s t : State) (unit : Nat) (body : MemOp) (reads writes : List Span) (regs : List Nat) :
    Prop :=
  Goes k d' s t { d'.tile k.val with
    out := [.op (d'.tile k.val).nextOp unit (d'.tile k.val).pos body reads writes regs]
    nextOp := (d'.tile k.val).nextOp + 1 } ((d'.tile k.val).pos + 1) false

/-- The length of a MOVE word: LEN, or S[LENREG] (Table 9.5). -/
def MoveLen (y : Tile) (w : Tcw) (n : Nat) : Prop :=
  n = (if fieldOf w 86 4 = 0 then fieldOf w 64 22 else y.s (fieldOf w 86 4)) ∧ 1 ≤ n ∧ n ≤ 4194303

/-- LOAD, STORE and COPY at issue: source and destination resolve, and the command enters the queue of bits 111:110. -/
def MoveCmd (c : TileId → Tcw → Instr) (fn : Nat) (src dst : List Nat) (op : Span → Span → MemOp) : Prop :=
  ∀ (s : State) (k : TileId) (w : Tcw) (d' : Dev) (n : Nat) (a b : Span),
    Issues s.dev k.val w 1 fn [fieldOf w 100 4, fieldOf w 90 4, fieldOf w 86 4] d' →
    onlyBits w.toNat [(111, 64)] = true → Fresh (d'.tile k.val) → MoveLen (d'.tile k.val) w n →
    (fieldOf w 86 4 ≠ 0 ∨ fieldOf w 64 22 ≠ 0) →
    (d'.tile k.val).operand (fieldOf w 100 10) n src false = some a →
    (d'.tile k.val).operand (fieldOf w 90 10) n dst true = some b → Nexts (c k w) s fun t =>
      Queues k d' s t (fieldOf w 110 2) (op a b) ([a].filter (fun x => x.kind != 3)) ([b].filter (fun x => x.kind != 3)) []

/-- The one outstanding command of tile `k` is `body` in queue `u`; its job runs. -/
def Outstanding (d : Dev) (k : TileId) (i u pos : Nat) (body : MemOp) (j : Nat) (x : Job) : Prop :=
  d.serving = true ∧ (d.tile k.val).active = true ∧ d.tileJob k.val = some (j, x) ∧ u < 4 ∧
    ∃ r w g, (d.tile k.val).out = [.op i u pos body r w g]

/-- The request of a DMA queue for the command `i`. -/
def queueReq (d : Dev) (k : TileId) (u i : Nat) : Requester := d.tileReq k.val (u + 1) (16 + i)

/-- The bytes of store `kind` of a tile at a span, after a completion, are `bs`; every other byte of its stores is as in `y`. -/
def StoreHolds (y z : Tile) (e : Span) (bs : List Byte) : Prop :=
  cellsRead (z.cells e.kind) e.start e.len = bs ∧
    ∀ kind a, kind = 1 ∨ kind = 2 → ¬ (kind = e.kind ∧ e.start ≤ a ∧ a < e.start + e.len) →
      cellAt (z.cells kind) a = cellAt (y.cells kind) a

end Sys2Proof.Stm

/-- From R204, R207, R208, R217, R255, R349, R350: memory commands enter their queue with their operands resolved; FENCE WAIT lets
the sequencer go on once its units are empty; POLL forms a boundary and waits, and ends when its word compares true. -/
def Obligations.MemoryCommands : Prop :=
  MoveCmd .load 0 [3] [1, 2] (fun a b => .load a.start b) ∧
  MoveCmd .store 1 [1, 2] [3] (fun a b => .store b.start a) ∧
  MoveCmd .copy 2 [1, 2] [1, 2] (fun a b => .copy a b) ∧
  (∀ (s : State) (k : TileId) (w : Tcw) (d' : Dev) (a : Span), Issues s.dev k.val w 1 4 [fieldOf w 100 4] d' →
    onlyBits w.toNat [(111, 100), (85, 73)] = true → Fresh (d'.tile k.val) → 1 ≤ fieldOf w 73 7 →
    fieldOf w 80 6 + fieldOf w 73 7 ≤ 64 →
    (d'.tile k.val).operand (fieldOf w 100 10) (16 * fieldOf w 73 7) [3] false = some a → Nexts (.hload k w) s fun t =>
      Queues k d' s t (fieldOf w 110 2) (.hload a.start (fieldOf w 80 6) (fieldOf w 73 7)) [] [] []) ∧
  (∀ (s : State) (k : TileId) (w : Tcw) (d' : Dev) (a : Span),
    Issues s.dev k.val w 1 5 [fieldOf w 100 4, fieldOf w 60 4] d' →
    onlyBits w.toNat [(111, 100), (63, 60)] = true → Fresh (d'.tile k.val) →
    (d'.tile k.val).operand (fieldOf w 100 10) 8 [3] false = some a → Nexts (.lds k w) s fun t =>
      Queues k d' s t (fieldOf w 110 2) (.lds a.start (fieldOf w 60 4)) [] [] [fieldOf w 60 4]) ∧
  (∀ (s : State) (k : TileId) (w : Tcw) (d' : Dev) (b : Span),
    Issues s.dev k.val w 1 6 [fieldOf w 90 4, fieldOf w 60 4] d' →
    onlyBits w.toNat [(111, 110), (99, 90), (63, 60)] = true → Fresh (d'.tile k.val) →
    (d'.tile k.val).operand (fieldOf w 90 10) 8 [3] true = some b → Nexts (.setflag k w) s fun t =>
      Queues k d' s t (fieldOf w 110 2)
        (.setflag b.start (BitVec.ofNat 64 ((d'.tile k.val).s (fieldOf w 60 4)))) [] [] []) ∧
  (∀ (s : State) (k : TileId) (w : Tcw) (d' : Dev) (q : Seq) (a b : Span) (start limit count : Nat)
    (pages : List Nat), Issues s.dev k.val w 1 3 [fieldOf w 100 4, fieldOf w 90 4, 3, fieldOf w 60 4, fieldOf w 56 4, fieldOf w 52 4,
      fieldOf w 48 4, fieldOf w 44 4] d' → onlyBits w.toNat [(111, 90), (63, 42)] = true → Fresh (d'.tile k.val) →
    d'.seqOf (d'.tileTenant k.val) ((d'.tile k.val).s 3) = some q →
    (d'.tile k.val).s (fieldOf w 48 4) < q.layers → (d'.tile k.val).s (fieldOf w 44 4) < q.groups →
    start = (d'.tile k.val).s (fieldOf w 60 4) → limit = (d'.tile k.val).s (fieldOf w 52 4) → limit ≤ q.pageCap →
    count = (d'.tile k.val).s (fieldOf w 56 4) → (d'.tile k.val).operandAt (fieldOf w 100 10) (start / 8)
      (if limit ≤ start then 0 else (limit + 7) / 8 - start / 8) [1, 2] = some a →
    pages = ((List.range' start (limit - start)).filter (fun p =>
      (cellAt ((d'.tile k.val).cells a.kind) (a.start + p / 8 - start / 8)).toNat.testBit (p % 8))).take count →
    (d'.tile k.val).operand (fieldOf w 90 10) (pages.length * q.payload (w.toNat.testBit 43)) [1] true = some b →
    Nexts (.gather k w) s fun t => Queues k d' s t (fieldOf w 110 2)
      (.gather ((d'.tile k.val).s 3) ((d'.tile k.val).s (fieldOf w 48 4)) ((d'.tile k.val).s (fieldOf w 44 4))
        (w.toNat.testBit 43) pages b (fieldOf w 56 4) (if w.toNat.testBit 42 then fieldOf w 60 4 else 0)
        (if count = 0 ∨ limit ≤ start then start else if pages.length < count then limit else pages.getLastD start + 1))
      [] [b] (fieldOf w 56 4 :: if w.toNat.testBit 42 then [fieldOf w 60 4] else [])) ∧
  (∀ (s : State) (k : TileId) (w : Tcw) (d' : Dev), Issues s.dev k.val w 6 0 [] d' → onlyBits w.toNat [(111, 102)] = true →
    (d'.tile k.val).out = [] → Nexts (.fenceWait k w) s fun t =>
      Goes k d' s t (d'.tile k.val) ((d'.tile k.val).pos + 1) false) ∧
  (∀ (s : State) (k : TileId) (w : Tcw) (d' : Dev), Issues s.dev k.val w 6 0 [] d' → onlyBits w.toNat [(111, 102)] = true →
    (∀ o ∈ (d'.tile k.val).out, ∀ u, o.unit? = some u → u ∉ fenceUnits w.toNat) → fieldOf w 102 2 = 2 →
    (∃ o ∈ (d'.tile k.val).out, o.readsMem = true ∨ o.writesMem = true) → Nexts (.fenceWait k w) s fun t =>
      Goes k d' s t { d'.tile k.val with out := (d'.tile k.val).out ++ [.fence 2] } ((d'.tile k.val).pos + 1) false) ∧
  (∀ (s : State) (k : TileId) (w : Tcw) (d' : Dev) (a : Span) (j : Nat) (x : Job),
    Issues s.dev k.val w 6 1 [fieldOf w 98 4, fieldOf w 102 4] d' → fieldOf w 114 4 = 0 → fieldOf w 96 2 ≠ 3 →
    onlyBits w.toNat [(111, 96)] = true → Fresh (d'.tile k.val) → d'.tileJob k.val = some (j, x) →
    (d'.tile k.val).operand (fieldOf w 102 10) 8 [2, 3] false = some a → a.start % 8 = 0 → Nexts (.poll k w) s fun t =>
      (t.dev.tile k.val).poll = some ⟨a.kind == 3, a.start, BitVec.ofNat 64 ((d'.tile k.val).s (fieldOf w 98 4)),
        fieldOf w 96 2⟩ ∧ (t.dev.tile k.val).pos = (d'.tile k.val).pos ∧ (t.dev.tile k.val).seg = 0 ∧
      (∃ c, (t.dev.tile k.val).ckpt = some c ∧ c.pos = (d'.tile k.val).pos ∧ c.sregs = (d'.tile k.val).sregs) ∧
      t = { s with dev := { d' with tiles := t.dev.tiles, dict := t.dev.dict } }) ∧
  (∀ (s : State) (k : TileId) (p : PollWait) (j : Nat) (x : Job) (r : ReadResult) (d : Dev), s.dev.serving = true →
    (s.dev.tile k.val).poll = some p → s.dev.tileJob k.val = some (j, x) → (s.dev.tile k.val).active = true →
    (s.dev.tile k.val).flagged = false → s.dev.wantsStop x = false → p.memory = true →
    s.dev.engRead x.tenant x.pasid p.addr 8 (s.dev.tileReq k.val 0 1) = (.data r, d) → r.bad = [] →
    pollTrue p.cmp (leNat r.bytes) p.value.toNat = true → Nexts (.pollSatisfied k) s fun t =>
      OnlyTileOf k d s t ∧ t.dev.tile k.val = { d.tile k.val with
        poll := none, pos := (d.tile k.val).pos + 1, atBoundary := false
        stalls := (d.tile k.val).stalls.filter (fun n => n != 1) }) ∧
  (∀ (s : State) (k : TileId) (p : PollWait) (j : Nat) (x : Job), s.dev.serving = true →
    (s.dev.tile k.val).poll = some p → s.dev.tileJob k.val = some (j, x) → (s.dev.tile k.val).active = true →
    (s.dev.tile k.val).flagged = false → s.dev.wantsStop x = false → p.memory = false → (s.dev.tile k.val).asErr = [] →
    pollTrue p.cmp (leNat (cellsRead (s.dev.tile k.val).as p.addr 8)) p.value.toNat = true →
    Nexts (.pollSatisfied k) s fun t => OnlyTile k s t ∧
      t.dev.tile k.val = { s.dev.tile k.val with poll := none, pos := (s.dev.tile k.val).pos + 1, atBoundary := false })

/-- From R204, R207, R217, R218, R223, R255, R351: an outstanding command completes: LOAD and GATHER bring the bytes of memory, STORE
and SETFLAG write them, COPY moves bytes between stores, LDS writes its register, HLOAD replaces its handles. -/
def Obligations.Completions : Prop :=
  (∀ (s : State) (k : TileId) (i u pos n j va : Nat) (x : Job) (e : Span) (r : ReadResult) (d : Dev),
    Outstanding s.dev k i u pos (.load va e) j x → e.kind = 1 ∨ e.kind = 2 →
    s.dev.engRead x.tenant x.pasid va e.len (queueReq s.dev k u i) = (.data r, d) → r.bad = [] → r.bytes.length = e.len →
    (d.tile k.val).tbErr = [] → (d.tile k.val).asErr = [] → (d.tile k.val).tbArm = [] → (d.tile k.val).asArm = [] →
    Nexts (.tcwComplete k i n) s fun t => StoreHolds (d.tile k.val) (t.dev.tile k.val) e r.bytes ∧
      (t.dev.tile k.val).out = [] ∧ (t.dev.tile k.val).sregs = (d.tile k.val).sregs ∧
      (t.dev.tile k.val).pos = (d.tile k.val).pos ∧ OnlyTileOf k d s t) ∧
  (∀ (s : State) (k : TileId) (i u pos n j va : Nat) (x : Job) (e : Span) (ps : List (Nat × Nat × Nat)) (d d1 : Dev),
    Outstanding s.dev k i u pos (.store va e) j x → e.kind = 1 ∨ e.kind = 2 →
    s.dev.translateSpan x.tenant x.pasid va e.len 1 (queueReq s.dev k u i) = (some ps, d) →
    d.ownOkAll x.tenant ps true = (true, d1) → Clean d1.mem → (d1.tile k.val).tbErr = [] → (d1.tile k.val).asErr = [] →
    Nexts (.tcwComplete k i n) s fun t => (t.dev.tile k.val).out = [] ∧
      t.dev.mem = ((d1.onBus x.tenant x.pasid true ps).writePieces ps
        (cellsRead ((d1.tile k.val).cells e.kind) e.start e.len)).1.mem ∧
      (∀ kind a, cellAt ((t.dev.tile k.val).cells kind) a = cellAt ((d1.tile k.val).cells kind) a) ∧
      (t.dev.tile k.val).sregs = (d1.tile k.val).sregs ∧
      t = { s with dev := { d1.onBus x.tenant x.pasid true ps with tiles := t.dev.tiles, mem := t.dev.mem } }) ∧
  (∀ (s : State) (k : TileId) (i u pos n j : Nat) (x : Job) (a e : Span),
    Outstanding s.dev k i u pos (.copy a e) j x → a.kind = 1 ∨ a.kind = 2 → e.kind = 1 ∨ e.kind = 2 → a.len = e.len →
    (s.dev.tile k.val).tbErr = [] → (s.dev.tile k.val).asErr = [] → (s.dev.tile k.val).tbArm = [] →
    (s.dev.tile k.val).asArm = [] → Nexts (.tcwComplete k i n) s fun t => OnlyTile k s t ∧
      StoreHolds (s.dev.tile k.val) (t.dev.tile k.val) e (cellsRead ((s.dev.tile k.val).cells a.kind) a.start a.len) ∧
      (t.dev.tile k.val).out = [] ∧ (t.dev.tile k.val).sregs = (s.dev.tile k.val).sregs) ∧
  (∀ (s : State) (k : TileId) (i u pos n j va reg : Nat) (x : Job) (r : ReadResult) (d : Dev),
    Outstanding s.dev k i u pos (.lds va reg) j x →
    s.dev.engRead x.tenant x.pasid va 8 (queueReq s.dev k u i) = (.data r, d) → r.bad = [] →
    Nexts (.tcwComplete k i n) s fun t => OnlyTileOf k d s t ∧ (t.dev.tile k.val).out = [] ∧
      (reg ≠ 0 → (t.dev.tile k.val).s reg = leNat r.bytes % 2 ^ 64) ∧
      (∀ m, m ≠ reg → (t.dev.tile k.val).s m = (d.tile k.val).s m)) ∧
  (∀ (s : State) (k : TileId) (i u pos n j va : Nat) (v : Qword) (x : Job) (r : ReadResult) (d : Dev),
    Outstanding s.dev k i u pos (.setflag va v) j x →
    s.dev.engWrite x.tenant x.pasid va (leBytes v.toNat 8) (queueReq s.dev k u i) = (.data r, d) →
    Nexts (.tcwComplete k i n) s fun t => OnlyTileOf k d s t ∧ (t.dev.tile k.val).out = [] ∧
      (t.dev.tile k.val).sregs = (d.tile k.val).sregs ∧ t.dev.mem = d.mem) ∧
  (∀ (s : State) (k : TileId) (i u pos n j va first count : Nat) (x : Job) (r : ReadResult) (d : Dev),
    Outstanding s.dev k i u pos (.hload va first count) j x →
    s.dev.engRead x.tenant x.pasid va (16 * count) (queueReq s.dev k u i) = (.data r, d) → r.bad = [] →
    (∀ m < count, (handleOf (leNat r.bytes / 2 ^ (128 * m) % 2 ^ 128)).isSome = true) →
    Nexts (.tcwComplete k i n) s fun t => t = { s with dev := { d with tiles := t.dev.tiles, dict := t.dev.dict } } ∧
      (∀ i : TileId, i ≠ k → t.dev.tile i.val = d.tile i.val) ∧ (t.dev.tile k.val).out = [] ∧
      (∀ m < count, handleOf (leNat r.bytes / 2 ^ (128 * m) % 2 ^ 128) =
        some ((t.dev.tile k.val).handles.get (first + m) {})) ∧
      (∀ m, ¬ (first ≤ m ∧ m < first + count) →
        (t.dev.tile k.val).handles.get m {} = (d.tile k.val).handles.get m {})) ∧
  (∀ (s : State) (k : TileId) (i u pos n j seq layer group creg sreg next : Nat) (v : Bool) (e : Span) (x : Job) (q : Seq),
    Outstanding s.dev k i u pos (.gather seq layer group v [] e creg sreg next) j x → e.len = 0 →
    s.dev.seqOf x.tenant seq = some q → Nexts (.tcwComplete k i n) s fun t => OnlyTile k s t ∧
      (t.dev.tile k.val).out = [] ∧ (creg ≠ 0 → creg ≠ sreg → (t.dev.tile k.val).s creg = 0) ∧
      (sreg ≠ 0 → (t.dev.tile k.val).s sreg = next % 2 ^ 64) ∧
      (∀ m, m ≠ creg → m ≠ sreg → (t.dev.tile k.val).s m = (s.dev.tile k.val).s m) ∧
      (∀ kind a, cellAt ((t.dev.tile k.val).cells kind) a = cellAt ((s.dev.tile k.val).cells kind) a)) ∧
  (∀ (s : State) (k : TileId) (i u pos n j seq layer group p creg : Nat) (e : Span) (x : Job) (q : Seq) (r1 r2 : ReadResult)
    (d1 d2 : Dev), Outstanding s.dev k i u pos (.gather seq layer group false [p] e creg 0 0) j x →
    e.kind = 1 → s.dev.seqOf x.tenant seq = some q →
    s.dev.engRead x.tenant (s.dev.obj 0x6010 0 x.tenant) (q.descVa layer group p) 16 (queueReq s.dev k u i) = (.data r1, d1) →
    r1.bad = [] → (descOf (leNat r1.bytes)).st ≠ 0 → d1.tileJob k.val = some (j, x) →
    d1.engRead x.tenant (s.dev.obj 0x6010 0 x.tenant) (descOf (leNat r1.bytes)).key (q.payload false) (queueReq d1 k u i) =
      (.data r2, d2) → r2.bad = [] → r2.bytes.length = e.len → (d2.tile k.val).tbErr = [] → (d2.tile k.val).tbArm = [] →
    Nexts (.tcwComplete k i n) s fun t => OnlyTileOf k d2 s t ∧ (t.dev.tile k.val).out = [] ∧
      StoreHolds (d2.tile k.val) (t.dev.tile k.val) e r2.bytes ∧ (creg ≠ 0 → (t.dev.tile k.val).s creg = 1))

/-! ### Tile commands: the vector and matrix units -/

namespace Sys2Proof.Stm

open Sys2Proof.Machine

/-- What a computing command leaves on its tile: each span of `l` holds its bytes, no other byte of the stores changes, the
command stands in its unit as the one outstanding item, and the position moves on. -/
def TileComputes (y z : Tile) (unit : Nat) (l : List (Span × List Byte)) : Prop :=
  (∀ e ∈ l, cellsRead (z.cells e.1.kind) e.1.start e.1.len = e.2) ∧
    (∀ kind a, kind = 1 ∨ kind = 2 → (∀ e ∈ l, ¬ (kind = e.1.kind ∧ e.1.start ≤ a ∧ a < e.1.start + e.1.len)) →
      cellAt (z.cells kind) a = cellAt (y.cells kind) a) ∧
    (∃ r w, z.out = [.op y.nextOp unit y.pos .compute r w []]) ∧
    z = { y with
      tb := z.tb, as := z.as, out := z.out, nextOp := y.nextOp + 1, pos := y.pos + 1, seg := z.seg, atBoundary := false
      masks := z.masks, sfuTabs := z.sfuTabs, sfuProgs := z.sfuProgs }

/-- A computing command changes its tile only. -/
def Computes (k : TileId) (d' : Dev) (s t : State) (unit : Nat) (l : List (Span × List Byte)) : Prop :=
  OnlyTileOf k d' s t ∧ TileComputes (d'.tile k.val) (t.dev.tile k.val) unit l ∧
    (t.dev.tile k.val).masks = (d'.tile k.val).masks ∧ (t.dev.tile k.val).sfuTabs = (d'.tile k.val).sfuTabs ∧
    (t.dev.tile k.val).sfuProgs = (d'.tile k.val).sfuProgs

/-- A computing command changes its tile, and counters and the CLAMPED flag of its job (R260). -/
def Counts (k : TileId) (d' : Dev) (s t : State) (unit : Nat) (l : List (Span × List Byte)) : Prop :=
  t = { s with dev := { d' with tiles := t.dev.tiles, dict := t.dev.dict, jobs := t.dev.jobs } } ∧
    (∀ j : TileId, j ≠ k → t.dev.tile j.val = d'.tile j.val) ∧
    TileComputes (d'.tile k.val) (t.dev.tile k.val) unit l

/-- Registers of a VECTOR or SFU word (Table 9.5). -/
def vecRegsOf (w : Tcw) : List Nat := [fieldOf w 102 4, fieldOf w 92 4, fieldOf w 82 4, fieldOf w 70 4, fieldOf w 28 4]

/-- Formats of a VECTOR or SFU word. -/
def finOf (w : Tcw) : Nat := fieldOf w 78 4
def foutOf (w : Tcw) : Nat := fieldOf w 74 4

/-- The length of a VECTOR or SFU word: LEN, or S[LENREG]. -/
def VecLen (y : Tile) (w : Tcw) (n : Nat) : Prop :=
  n = (if fieldOf w 70 4 = 0 then fieldOf w 48 22 else y.s (fieldOf w 70 4)) ∧ 1 ≤ n ∧ n ≤ 4194303 ∧
    (fieldOf w 70 4 ≠ 0 ∨ fieldOf w 48 22 ≠ 0)

/-- Bytes of a span of a tile's stores. -/
def bytesAt (y : Tile) (e : Span) : List Byte := cellsRead (y.cells e.kind) e.start e.len

/-- Element `i` of `n` packed elements of format `c` in a span. -/
def elemAt (y : Tile) (c n : Nat) (e : Span) (i : Nat) : Val :=
  (fmtGet c).decode ((unpack (fmtBits c) n (bytesAt y e)).getD i 0)

/-- Packed elements of format `c`. -/
def packed (c : Nat) (vs : List Val) : List Byte := pack (fmtBits c) (vs.map (fmtGet c).encode)

/-- An elementwise VECTOR command: element i of D becomes `f` of the elements i of A, B and D and of the scalar S[SREG]. -/
def EltCmd (c : TileId → Tcw → Instr) (fn : Nat) (useB : Bool) (f : Nat → Nat → Val → Val → Val → Val → Val) : Prop :=
  ∀ (s : State) (k : TileId) (w : Tcw) (d' : Dev) (n : Nat) (a b e : Span), Issues s.dev k.val w 3 fn (vecRegsOf w) d' →
    onlyBits w.toNat [(111, 28)] = true → finOf w ≤ 0xA → foutOf w ≤ 0xA → Fresh (d'.tile k.val) →
    VecLen (d'.tile k.val) w n → countOk (finOf w) n = true → countOk (foutOf w) n = true →
    (d'.tile k.val).operand (fieldOf w 102 10) (packedBytes (finOf w) n) [1, 2] false = some a →
    (useB = true → (d'.tile k.val).operand (fieldOf w 92 10) (packedBytes (finOf w) n) [1, 2] false = some b) →
    (d'.tile k.val).operand (fieldOf w 82 10) (packedBytes (foutOf w) n) [1, 2] true = some e → Nexts (c k w) s fun t =>
      Computes k d' s t 5 [(e, packed (foutOf w) ((List.range n).map (fun i =>
        f (finOf w) (foutOf w) (elemAt (d'.tile k.val) (finOf w) n a i) (elemAt (d'.tile k.val) (finOf w) n b i)
          (elemAt (d'.tile k.val) (foutOf w) n e i) (scalarOf (finOf w) ((d'.tile k.val).s (fieldOf w 28 4))))))]

end Sys2Proof.Stm

/-- From R238, R240: the elementwise functions of the vector unit, each result rounded once, in XR where an operand is in XR and
otherwise in the domain of FMTIN, and converted to FMTOUT; RSUM sums each row in ascending order. -/
def Obligations.VectorUnit : Prop :=
  EltCmd .mov 0x00 false (fun _ _ a _ _ _ => a) ∧
  EltCmd .add 0x01 true (fun c _ a b _ _ => domRound c (a.add b)) ∧
  EltCmd .sub 0x02 true (fun c _ a b _ _ => domRound c (a.sub b)) ∧
  EltCmd .mul 0x03 true (fun c _ a b _ _ => domRound c (a.mul b)) ∧
  EltCmd .fma 0x04 true (fun c o a b d _ => if o = 0xA then xr.round ((a.mul b).add d) else domRound c ((a.mul b).add d)) ∧
  EltCmd .max 0x05 true (fun c _ a b _ _ => domRound c (a.max b)) ∧
  EltCmd .min 0x06 true (fun c _ a b _ _ => domRound c (a.min b)) ∧
  EltCmd .cvt 0x07 false (fun _ _ a _ _ _ => a) ∧
  EltCmd .scale 0x09 false (fun c _ a _ _ x => domRound c (a.mul x)) ∧
  (∀ (s : State) (k : TileId) (w : Tcw) (d' : Dev) (n row : Nat) (a e : Span), Issues s.dev k.val w 3 0x08 (vecRegsOf w) d' →
    onlyBits w.toNat [(111, 28)] = true → finOf w ≤ 0xA → foutOf w ≤ 0xA → Fresh (d'.tile k.val) →
    VecLen (d'.tile k.val) w n → row = (if fieldOf w 32 16 = 0 then n else fieldOf w 32 16) → n % row = 0 →
    countOk (finOf w) n = true → countOk (foutOf w) (n / row) = true →
    (d'.tile k.val).operand (fieldOf w 102 10) (packedBytes (finOf w) n) [1, 2] false = some a →
    (d'.tile k.val).operand (fieldOf w 82 10) (packedBytes (foutOf w) (n / row)) [1, 2] true = some e →
    Nexts (.rsum k w) s fun t => Computes k d' s t 5 [(e, packed (foutOf w) ((List.range (n / row)).map (fun r =>
      rowSum (domRound (finOf w)) ((List.range row).map (fun c => elemAt (d'.tile k.val) (finOf w) n a (r * row + c))))))])

/-- From R205, R233, R235, R239: MMA writes M × N results from its operands and their scales; a pair of integer formats without
scales and without accumulation gives the exact dot products. -/
def Obligations.MatrixUnit : Prop :=
  (∀ (s : State) (k : TileId) (w : Tcw) (d' : Dev) (o : MmaOp) (a b e sa sb : Span),
    Issues s.dev k.val w 2 0 [fieldOf w 102 4, fieldOf w 92 4, fieldOf w 82 4] d' →
    onlyBits w.toNat [(111, 36)] = true → o = mmaOf w.toNat → o.legal = true → Fresh (d'.tile k.val) →
    (d'.tile k.val).operand (fieldOf w 102 10) (packedBytes o.fmtA (o.m * o.k)) [1, 2] false = some a →
    (d'.tile k.val).operand (fieldOf w 92 10) (packedBytes o.fmtB (o.n * o.k)) [1, 2] false = some b →
    (d'.tile k.val).operand (fieldOf w 82 10) (o.m * o.n * outBytes o.outf) [1, 2] true = some e →
    sa = ⟨a.kind, roundUp (a.start + a.len) 64, if o.mxA then o.m * (o.k / 32) else 0⟩ →
    sb = ⟨b.kind, roundUp (b.start + b.len) 64, if o.mxB then o.n * (o.k / 32) else 0⟩ →
    (o.mxA = true → (d'.tile k.val).operand (fieldOf w 102 10) (sa.start + sa.len - a.start) [1, 2] false ≠ none) →
    (o.mxB = true → (d'.tile k.val).operand (fieldOf w 92 10) (sb.start + sb.len - b.start) [1, 2] false ≠ none) →
    Nexts (.mma k w) s fun t => Computes k d' s t 6 [(e, o.result
      { a := unpack (fmtBits o.fmtA) (o.m * o.k) (bytesAt (d'.tile k.val) a)
        b := unpack (fmtBits o.fmtB) (o.n * o.k) (bytesAt (d'.tile k.val) b)
        sa := (bytesAt (d'.tile k.val) sa).map (·.toNat), sb := (bytesAt (d'.tile k.val) sb).map (·.toNat)
        d := if o.acc then unpack (8 * outBytes o.outf) (o.m * o.n) (bytesAt (d'.tile k.val) e)
          else List.replicate (o.m * o.n) 0 })]) ∧
  (∀ (o : MmaOp) (x : MmaIn) (wa wb m n : Nat), o.mxA = false → o.mxB = false → 1 ≤ wa → wa ≤ 8 → 1 ≤ wb → wb ≤ 8 →
    o.k ≤ 65536 → o.intAt x wa wb 0 m n = ((List.range o.k).map (fun i =>
      signed (x.a.getD (m * o.k + i) 0) wa * signed (x.b.getD (if o.bt then i * o.n + n else n * o.k + i) 0) wb)).sum)

/-- From R260 to R268: XPACK writes its elements, block scales and row headers and counts the rows that saturate; XCOMB COMBINE joins
two partials row by row; NORMALISE divides each row by its sum and writes the log-sum-exp. -/
def Obligations.Partials : Prop :=
  (∀ (s : State) (k : TileId) (w : Tcw) (d' : Dev) (n row rows j : Nat) (x : Job) (a h e sc : Span) (f : FloatFmt)
    (rs : List ((List Nat × List Nat × RowHdr) × Bool)), Issues s.dev k.val w 3 0x0B (vecRegsOf w) d' →
    onlyBits w.toNat [(111, 28), (27, 27)] = true → finOf w = 0xA → 3 ≤ foutOf w → foutOf w ≤ 7 → row = fieldOf w 32 16 →
    row ≠ 0 → row % 32 = 0 → Fresh (d'.tile k.val) → VecLen (d'.tile k.val) w n → n % row = 0 → rows = n / row →
    countOk (foutOf w) n = true → d'.tileJob k.val = some (j, x) → x.tenant < 64 → fmtGet (foutOf w) = .float f →
    (d'.tile k.val).operand (fieldOf w 102 10) (4 * n) [1, 2] false = some a →
    (d'.tile k.val).operand (fieldOf w 92 10) (8 * rows) [1, 2] true = some h →
    (d'.tile k.val).operand (fieldOf w 82 10) (packedBytes (foutOf w) n) [1, 2] true = some e →
    sc = ⟨e.kind, roundUp (e.start + e.len) 64, n / 32⟩ →
    (d'.tile k.val).operand (fieldOf w 82 10) (sc.start + sc.len - e.start) [1, 2] true ≠ none →
    h.overlaps e = false → h.overlaps sc = false →
    rs = (rowsOf (unpack 32 n (bytesAt (d'.tile k.val) a)) row rows).zipIdx.map (fun p =>
      let old := if w.toNat.testBit 27 then {}
        else hdrOf ((unpack 64 rows (bytesAt (d'.tile k.val) h)).getD p.2 0)
      (packRow f (emaxOf (foutOf w)) x.headroom (w.toNat.testBit 27) { old with sat := false } p.1, old.sat)) →
    Nexts (.xpack k w) s fun t => Counts k d' s t 5
      [(e, pack (fmtBits (foutOf w)) (rs.flatMap (fun r => r.1.1))), (sc, (rs.flatMap (fun r => r.1.2.1)).map (BitVec.ofNat 8)),
        (h, pack 64 (rs.map (fun r => { r.1.2.2 with sat := r.1.2.2.sat || r.2 }.bits)))] ∧
      ((∀ r ∈ rs, r.1.2.2.sat = false) → t.dev.jobs = d'.jobs ∧ t.dev.dict = d'.dict) ∧
      ((∃ r ∈ rs, r.1.2.2.sat = true) → KMap.find t.dev.jobs j = some { x with clamped := true } ∧
        t.dev.obj 0x6810 2 x.tenant = Nat.min (d'.obj 0x6810 2 x.tenant + (rs.filter (fun r => r.1.2.2.sat)).length)
          (2 ^ 64 - 1))) ∧
  (∀ (s : State) (k : TileId) (w : Tcw) (d' : Dev) (n row : Nat) (a b e : Span), Issues s.dev k.val w 3 0x0A (vecRegsOf w) d' →
    onlyBits w.toNat [(111, 26)] = true → finOf w = 0 → foutOf w = 0 → fieldOf w 26 2 = 0 → row = fieldOf w 32 16 → row ≠ 0 →
    Fresh (d'.tile k.val) → VecLen (d'.tile k.val) w n → n % row = 0 → n % 2 = 0 →
    (d'.tile k.val).operand (fieldOf w 102 10) (4 * n + 8 * (n / row)) [1, 2] false = some a →
    (d'.tile k.val).operand (fieldOf w 92 10) (4 * n + 8 * (n / row)) [1, 2] false = some b →
    (d'.tile k.val).operand (fieldOf w 82 10) (4 * n + 8 * (n / row)) [1, 2] true = some e →
    Nexts (.xcombCombine k w) s fun t => Computes k d' s t 5 [(e, partialBytes (List.zipWith combineRow
      (partialOf (n / row) row (bytesAt (d'.tile k.val) a)) (partialOf (n / row) row (bytesAt (d'.tile k.val) b))))]) ∧
  (∀ (s : State) (k : TileId) (w : Tcw) (d' : Dev) (n row : Nat) (a b e : Span), Issues s.dev k.val w 3 0x0A (vecRegsOf w) d' →
    onlyBits w.toNat [(111, 26)] = true → finOf w = 0 → foutOf w ≤ 7 → fieldOf w 26 2 = 1 → row = fieldOf w 32 16 → row ≠ 0 →
    Fresh (d'.tile k.val) → VecLen (d'.tile k.val) w n → n % row = 0 → n % 2 = 0 → countOk (foutOf w) n = true →
    (d'.tile k.val).operand (fieldOf w 102 10) (4 * n + 8 * (n / row)) [1, 2] false = some a →
    (d'.tile k.val).operand (fieldOf w 92 10) (4 * (n / row)) [1, 2] true = some b →
    (d'.tile k.val).operand (fieldOf w 82 10) (packedBytes (foutOf w) n) [1, 2] true = some e → b.overlaps e = false →
    Nexts (.xcombNormalise k w) s fun t => Computes k d' s t 5
      [(e, pack (fmtBits (foutOf w)) (((partialOf (n / row) row (bytesAt (d'.tile k.val) a)).map
          (normaliseRow (foutOf w))).flatMap (fun r => r.1))),
        (b, pack 32 (((partialOf (n / row) row (bytesAt (d'.tile k.val) a)).map (normaliseRow (foutOf w))).map (fun r => r.2)))]) ∧
  (∀ (a b : PRow), a.v.length = b.v.length → a.h.empty = false ∨ b.h.empty = false → combineRow a b = combineRow b a)

/-! ### Tile commands: the special-function unit -/

namespace Sys2Proof.Stm

open Sys2Proof.Machine

/-- OPD overlaps OPA only where R277 permits it: the same start and the same width. -/
def OverlapOk (a e : Span) (wa wd : Nat) : Prop := e.overlaps a = false ∨ (e.start = a.start ∧ wa = wd)

/-- The formats, length and operands A and D of an SFU command with `outs` elements of result. -/
def SfuOperands (y : Tile) (w : Tcw) (n outs : Nat) (a e : Span) : Prop :=
  Fresh y ∧ VecLen y w n ∧ countOk (finOf w) n = true ∧ countOk (foutOf w) outs = true ∧
    y.operand (fieldOf w 102 10) (packedBytes (finOf w) n) [1, 2] false = some a ∧
    y.operand (fieldOf w 82 10) (packedBytes (foutOf w) outs) [1, 2] true = some e ∧
    OverlapOk a e (fmtBits (finOf w)) (fmtBits (foutOf w))

/-- A built-in function of Table 14.1: element i of D is the function of element i of A, in FMTOUT. -/
def BuiltinCmd (c : TileId → Tcw → Instr) (fn : Nat) (xrIn xrOut : Bool) : Prop :=
  ∀ (s : State) (k : TileId) (w : Tcw) (d' : Dev) (n : Nat) (a e : Span), Issues s.dev k.val w 4 fn (vecRegsOf w) d' →
    onlyBits w.toNat [(111, 20)] = true → finOf w ≤ 7 ∨ (xrIn = true ∧ finOf w = 0xA) →
    foutOf w ≤ 7 ∨ (xrOut = true ∧ foutOf w = 0xA) → fieldOf w 20 8 = 0 → fieldOf w 92 10 = 0 →
    SfuOperands (d'.tile k.val) w n n a e → Nexts (c k w) s fun t =>
      Computes k d' s t 4 [(e, pack (fmtBits (foutOf w)) ((List.range n).map (fun i =>
        builtin fn (elemAt (d'.tile k.val) (finOf w) n a i)
          (if finOf w = 0xA then 2 ^ 32 + (unpack 32 n (bytesAt (d'.tile k.val) a)).getD i 0
            else fp32.encode (elemAt (d'.tile k.val) (finOf w) n a i)) (fmtGet (foutOf w)))))]

/-- The mask of a command: none where MASK is 0; otherwise the descriptor that OPB names in a store, none of its fields
reserved, with the registers and vectors that it names (R270 to R273). -/
def MaskOf (y : Tile) (w : Tcw) (n : Nat) : Option MaskCtx → List Span → Prop
  | none, sp => w.toNat.testBit 27 = false ∧ sp = []
  | some m, sp => w.toNat.testBit 27 = true ∧ y.masks = [] ∧
      ∃ e ss bs v k0 lim, y.operand (fieldOf w 92 10) 32 [1, 2] false = some e ∧ v = leNat (bytesAt y e) ∧
        maskOk v = true ∧ k0 = y.s (maskOf v).kposReg ∧ lim = y.s (maskOf v).limReg ∧
        (if (maskOf v).select then y.operandAt (maskOf v).sel (k0 / 8) (if lim ≤ k0 then 0 else (lim + 7) / 8 - k0 / 8) [1, 2]
          else some ⟨1, 0, 0⟩) = some ss ∧
        (if (maskOf v).bmpEn then y.operandAt (maskOf v).bmp 0 ((n + 7) / 8) [1, 2] else some ⟨1, 0, 0⟩) = some bs ∧
        m = { desc := maskOf v, qpos0 := y.s (maskOf v).qposReg, kpos0 := k0, ncol := y.s (maskOf v).ncolReg
              pages := oneBits (bytesAt y ss) k0 lim, bmp := leNat (bytesAt y bs) } ∧ sp = [e, ss, bs]

/-- The score of element i of `n`: the element of A, or what the micro-program of the slot makes of it (R286). -/
def scoreAt (y : Tile) (w : Tcw) (n row : Nat) (a : Span) (pr : Option (List Byte)) (m : Option MaskCtx) (i : Nat) : Val :=
  match pr with
  | none => elemAt y (finOf w) n a i
  | some b => progRun b [] (progEnv m ((List.range n).map (elemAt y (finOf w) n a)) n row (i / row) (i % row) i .zero)

/-- The program of the slot that a word names, in the generation that the job latched, with no table step; none for slot 0. -/
def ProgOf (d' : Dev) (x : Job) (w : Tcw) : Option (List Byte) → Prop
  | none => fieldOf w 24 3 = 0
  | some b => fieldOf w 24 3 ≠ 0 ∧ d'.sfuImage x true (fieldOf w 24 3) = some b ∧ progTabs b = []

/-- No span of a mask overlaps the result. -/
def MaskClear (e : Span) (sp : List Span) : Prop := ∀ x ∈ sp, e.overlaps x = false

/-- Element i of GATED by its activation ACT (R288): SiLU, GELU, ReLU, a table on FP32, or a program of both operands. -/
def GateOf (d' : Dev) (x : Job) (y : Tile) (w : Tcw) (n row : Nat) (a b : Span) (v : Nat → Val) : Prop :=
  (fieldOf w 21 3 = 0 ∧ fieldOf w 24 3 = 0 ∧ ∀ i, v i = (silu32 (elemAt y (finOf w) n a i)).mul (elemAt y (finOf w) n b i)) ∨
  (fieldOf w 21 3 = 1 ∧ fieldOf w 24 3 = 0 ∧ ∀ i, v i = (gelu32 (elemAt y (finOf w) n a i)).mul (elemAt y (finOf w) n b i)) ∨
  (fieldOf w 21 3 = 2 ∧ fieldOf w 24 3 = 0 ∧
    ∀ i, v i = ((elemAt y (finOf w) n a i).max .zero).mul (elemAt y (finOf w) n b i)) ∨
  (fieldOf w 21 3 = 3 ∧ fieldOf w 24 3 ≠ 0 ∧ ∃ img, d'.sfuImage x false (fieldOf w 24 3) = some img ∧ (tabOf img).fin = 0 ∧ (tabOf img).fout = 0 ∧
    ∀ i, v i = ((tabOf img).eval32 (elemAt y (finOf w) n a i)).mul (elemAt y (finOf w) n b i)) ∨
  (fieldOf w 21 3 = 4 ∧ fieldOf w 24 3 ≠ 0 ∧ ∃ img, d'.sfuImage x true (fieldOf w 24 3) = some img ∧ progTabs img = [] ∧
    ∀ i, v i = progRun img [] (progEnv none ((List.range n).map (elemAt y (finOf w) n a)) n row (i / row) (i % row) i
      (elemAt y (finOf w) n b i)))

/-- LAYERNORM and RMSNORM: each row of D is `f` of a row of A, EPS in S[SREG] and the gains of OPB where GAIN is 1 (R290). -/
def NormCmd (c : TileId → Tcw → Instr) (fn : Nat) (f : VecOp → Val → List Val → Option (List Val) → List Nat) : Prop :=
  ∀ (s : State) (k : TileId) (w : Tcw) (d' : Dev) (n row : Nat) (a b e : Span) (g : Option (List Val)),
    Issues s.dev k.val w 4 fn (vecRegsOf w) d' →
    onlyBits w.toNat [(111, 20)] = true → finOf w ≤ 7 → foutOf w ≤ 7 → fieldOf w 21 7 = 0 →
    row = (if fieldOf w 32 16 = 0 then n else fieldOf w 32 16) → n % row = 0 → SfuOperands (d'.tile k.val) w n n a e →
    (w.toNat.testBit 20 = false → fieldOf w 92 10 = 0 ∧ g = none) →
    (w.toNat.testBit 20 = true → countOk (finOf w) row = true ∧ e.overlaps b = false ∧
      (d'.tile k.val).operand (fieldOf w 92 10) (packedBytes (finOf w) row) [1, 2] false = some b ∧
      g = some ((List.range row).map (elemAt (d'.tile k.val) (finOf w) row b))) →
    Nexts (c k w) s fun t =>
      Computes k d' s t 4 [(e, pack (fmtBits (foutOf w)) ((List.range (n / row)).flatMap (fun r =>
        f (vecOf w.toNat) (fp32.decode ((d'.tile k.val).s (fieldOf w 28 4) % 2 ^ 32))
          ((List.range row).map (fun c => elemAt (d'.tile k.val) (finOf w) n a (r * row + c))) g)))]

/-- Elements clamped are counted for the tenant and mark the job (R260). -/
def ClampCount (d' : Dev) (t : State) (j : Nat) (x : Job) (n : Nat) : Prop :=
  (n = 0 → t.dev.jobs = d'.jobs) ∧ (n ≠ 0 → KMap.find t.dev.jobs j = some { x with clamped := true } ∧
    t.dev.obj 0x6810 1 x.tenant = Nat.min (d'.obj 0x6810 1 x.tenant + n) (2 ^ 64 - 1))

end Sys2Proof.Stm

/-- From R259, R270 to R280, Table 14.1: the built-in functions, element by element, and the attention exponential with its mask. -/
def Obligations.SpecialFunctions : Prop :=
  BuiltinCmd .exp 0x00 false true ∧ BuiltinCmd .exp2 0x01 false true ∧ BuiltinCmd .log 0x03 true true ∧
  BuiltinCmd .log2 0x04 true true ∧ BuiltinCmd .rcp 0x05 true true ∧ BuiltinCmd .rsqrt 0x06 false false ∧
  BuiltinCmd .sqrt 0x07 false false ∧ BuiltinCmd .tanh 0x08 false false ∧ BuiltinCmd .logistic 0x09 false false ∧
  (∀ (s : State) (k : TileId) (w : Tcw) (d' : Dev) (n row j : Nat) (x : Job) (a e : Span) (m : Option MaskCtx)
    (sp : List Span) (pr : Option (List Byte)) (out : List (Nat × Bool)), Issues s.dev k.val w 4 0x02 (vecRegsOf w) d' →
    onlyBits w.toNat [(111, 20)] = true → finOf w ≤ 2 → foutOf w = 0xA → fieldOf w 20 4 = 0 → ProgOf d' x w pr →
    (w.toNat.testBit 27 = false → fieldOf w 92 10 = 0) → SfuOperands (d'.tile k.val) w n n a e →
    row = (if fieldOf w 32 16 = 0 then n else fieldOf w 32 16) → MaskOf (d'.tile k.val) w n m sp → MaskClear e sp →
    d'.tileJob k.val = some (j, x) → x.tenant < 64 →
    out = (List.range n).map (fun i =>
      expScore (if m.any (fun x => x.masked row (i / row) (i % row)) then maskVal
        else scoreAt (d'.tile k.val) w n row a pr m i)) → Nexts (.expx k w) s fun t =>
      Counts k d' s t 4 [(e, pack 32 (out.map (fun p => p.1)))] ∧
      ClampCount d' t j x (out.filter (fun p => p.2)).length)

/-- From R282 to R293, R288 to R292: the functions of a row and the gate; tables and micro-programs are those of the generation that
the job latched; SFU_UNLOAD empties a slot for later jobs. -/
def Obligations.RowsTablesAndPrograms : Prop :=
  (∀ (s : State) (k : TileId) (w : Tcw) (d' : Dev) (n row j : Nat) (x : Job) (a b e : Span) (v : Nat → Val),
    Issues s.dev k.val w 4 0x10 (vecRegsOf w) d' → onlyBits w.toNat [(111, 20)] = true → finOf w ≤ 7 → foutOf w ≤ 7 →
    fieldOf w 20 1 = 0 → fieldOf w 27 1 = 0 → SfuOperands (d'.tile k.val) w n n a e →
    row = (if fieldOf w 32 16 = 0 then n else fieldOf w 32 16) → d'.tileJob k.val = some (j, x) →
    (d'.tile k.val).operand (fieldOf w 92 10) (packedBytes (finOf w) n) [1, 2] false = some b → e.overlaps b = false →
    GateOf d' x (d'.tile k.val) w n row a b v → Nexts (.gated k w) s fun t =>
      Counts k d' s t 4 [(e, packed (foutOf w) ((List.range n).map v))] ∧ t.dev.dict = d'.dict ∧ t.dev.jobs = d'.jobs) ∧
  (∀ (s : State) (k : TileId) (w : Tcw) (d' : Dev) (n row : Nat) (a e : Span), Issues s.dev k.val w 4 0x18 (vecRegsOf w) d' →
    onlyBits w.toNat [(111, 20)] = true → finOf w ≤ 7 → foutOf w = 0 → fieldOf w 20 8 = 0 → fieldOf w 92 10 = 0 →
    row = (if fieldOf w 32 16 = 0 then n else fieldOf w 32 16) → n % row = 0 →
    SfuOperands (d'.tile k.val) w n (n / row * 2) a e → Nexts (.meanvar k w) s fun t =>
      Computes k d' s t 4 [(e, pack 32 ((List.range (n / row)).flatMap (fun r =>
        let v := meanVar ((List.range row).map (fun c => elemAt (d'.tile k.val) (finOf w) n a (r * row + c)))
        [fp32.encode v.1, fp32.encode v.2])))]) ∧
  NormCmd .layernorm 0x19 layerRow ∧ NormCmd .rmsnorm 0x1A rmsRow ∧
  (∀ (s : State) (k : TileId) (w : Tcw) (d' : Dev) (n row j : Nat) (x : Job) (a e rec : Span) (m : Option MaskCtx)
    (sp : List Span) (out : List SoftRow), Issues s.dev k.val w 4 0x20 (vecRegsOf w) d' →
    onlyBits w.toNat [(111, 20)] = true → finOf w ≤ 2 → foutOf w ≤ 7 → fieldOf w 20 7 = 0 →
    (w.toNat.testBit 27 = false → fieldOf w 92 10 = 0) → SfuOperands (d'.tile k.val) w n n a e →
    row = (if fieldOf w 32 16 = 0 then n else fieldOf w 32 16) → n % row = 0 →
    rec = ⟨e.kind, roundUp (e.start + e.len) 64, 8 * (n / row)⟩ → rec.overlaps a = false →
    (d'.tile k.val).operand (fieldOf w 82 10) (rec.start + rec.len - e.start) [1, 2] true ≠ none →
    MaskOf (d'.tile k.val) w n m sp → MaskClear e sp → MaskClear rec sp → d'.tileJob k.val = some (j, x) →
    x.tenant < 64 → out = (List.range (n / row)).map (fun r => softRow (foutOf w) ((List.range row).map (fun c =>
      if m.any (fun x => x.masked row r c) then maskVal else elemAt (d'.tile k.val) (finOf w) n a (r * row + c)))) →
    Nexts (.softmax k w) s fun t =>
      Counts k d' s t 4 [(e, pack (fmtBits (foutOf w)) (out.flatMap (fun r => r.p))),
        (rec, pack 64 (out.map (fun r => r.lse * 2 ^ 32 + r.flags)))] ∧
      ClampCount d' t j x (out.foldl (fun n r => n + r.clamped) 0)) ∧
  (∀ (s : State) (k : TileId) (w : Tcw) (d' : Dev) (n j : Nat) (x : Job) (a e : Span) (b : List Byte),
    Issues s.dev k.val w 4 0x28 (vecRegsOf w) d' → onlyBits w.toNat [(111, 20)] = true → finOf w ≤ 9 → foutOf w ≤ 9 →
    fieldOf w 24 3 ≠ 0 → fieldOf w 27 1 = 0 → fieldOf w 20 4 = 0 → fieldOf w 92 10 = 0 →
    SfuOperands (d'.tile k.val) w n n a e → d'.tileJob k.val = some (j, x) →
    d'.sfuImage x false (fieldOf w 24 3) = some b → (tabOf b).fin = finOf w → (tabOf b).fout = foutOf w →
    Nexts (.table k w) s fun t => Counts k d' s t 4 [(e, pack (fmtBits (foutOf w))
      ((unpack (fmtBits (finOf w)) n (bytesAt (d'.tile k.val) a)).map (tabOf b).eval))] ∧
      t.dev.dict = d'.dict ∧ t.dev.jobs = d'.jobs) ∧
  (∀ (s : State) (k : TileId) (w : Tcw) (d' : Dev) (n row j : Nat) (x : Job) (a e : Span) (b : List Byte)
    (m : Option MaskCtx) (sp : List Span), Issues s.dev k.val w 4 0x29 (vecRegsOf w) d' →
    onlyBits w.toNat [(111, 20)] = true → finOf w ≤ 7 → foutOf w ≤ 7 → fieldOf w 24 3 ≠ 0 → fieldOf w 20 4 = 0 →
    (w.toNat.testBit 27 = false → fieldOf w 92 10 = 0) → SfuOperands (d'.tile k.val) w n n a e →
    row = (if fieldOf w 32 16 = 0 then n else fieldOf w 32 16) → MaskOf (d'.tile k.val) w n m sp → MaskClear e sp →
    d'.tileJob k.val = some (j, x) → d'.sfuImage x true (fieldOf w 24 3) = some b → progTabs b = [] →
    Nexts (.prog k w) s fun t => Counts k d' s t 4 [(e, packed (foutOf w) ((List.range n).map
      (scoreAt (d'.tile k.val) w n row a (some b) m)))] ∧ t.dev.dict = d'.dict ∧ t.dev.jobs = d'.jobs) ∧
  (∀ (s : State) (n : FnId) (p : Bool) (i : Fin 8), s.dev.serving = true → i ≠ 0 → Nexts (.sfuUnload n p i) s fun t =>
    t = { s with dev := { s.dev with sfu := t.dev.sfu } } ∧ (t.dev.sfu.get (sfuKey n.val p i.val) {}).cur = none ∧
    (∀ m, m ≠ sfuKey n.val p i.val → (t.dev.sfu.get m {}).cur = (s.dev.sfu.get m {}).cur) ∧
    (∀ m g, g ∈ (t.dev.sfu.get m {}).held → g ∈ (s.dev.sfu.get m {}).held) ∧
    (∀ e ∈ s.dev.jobs, ∀ l ∈ e.2.gens, ∀ g ∈ (s.dev.sfu.get l.1 {}).held, g.gen = l.2 →
      g ∈ (t.dev.sfu.get l.1 {}).held))

/-! ### Scout and solver -/

namespace Sys2Proof.Stm

open Sys2Proof.Machine

/-- No tile waits for a query, and no span has a prefetch to start: the scout manager has nothing to go on with. -/
def ScoutQuiet (d : Dev) : Prop := (∀ e ∈ d.tiles, e.2.query = none) ∧ ∀ sp ∈ d.scout.spans, sp.next = none

/-- Only one array changes. -/
def OnlyArray (a : ArrayId) (s t : State) : Prop :=
  t = { s with dev := { s.dev with scout := { s.dev.scout with arrays := t.dev.scout.arrays } } } ∧
    ∀ b : ArrayId, b ≠ a → t.dev.array b.val = s.dev.array b.val

/-- What a completed query leaves on its tile: RESULT holds the bits, COUNTREG their number, nothing waits any more. -/
def QueryAnswered (k : TileId) (d1 : Dev) (q : Query) (bits : List Bool) (t : State) : Prop :=
  (t.dev.tile k.val).query = none ∧
    StoreHolds (d1.tile k.val) (t.dev.tile k.val) q.result (bitBytes bits q.result.len) ∧
    (q.countReg ≠ 0 → (t.dev.tile k.val).s q.countReg = (bits.filter (fun b => b)).length % 2 ^ 64) ∧
    (∀ i, i ≠ q.countReg → (t.dev.tile k.val).s i = (d1.tile k.val).s i) ∧
    (t.dev.tile k.val).pos = (d1.tile k.val).pos

/-- A tile whose query can be answered. -/
def QueryTile (d : Dev) (k : TileId) (q : Query) (j : Nat) (x : Job) : Prop :=
  (d.tile k.val).query = some q ∧ d.tileJob k.val = some (j, x) ∧ (q.result.kind = 1 ∨ q.result.kind = 2)

/-- The bits of a query that is late (R316): every page of the layer it runs on, or every allocated page of its sequence. -/
def LatePages (d : Dev) (q : Query) (n : Nat) : Prop :=
  (∃ sn, q.snap = some sn ∧ n = sn.bits.length) ∨
    (q.snap = none ∧ ∃ sq, KMap.find d.kv.seqs q.seq = some sq ∧ sq.tenant = q.tenant ∧ n = sq.pages)

/-- The column of page `p` of a query's group in a span (R306). -/
def ColumnIs (q : Query) (sp : ScSpan) (p a col : Nat) : Prop :=
  ∃ slot, sp.slots[(q.group * sp.np + p) / 64]? = some (a, slot) ∧ col = slot * 64 + (q.group * sp.np + p) % 64

/-- The code of component `i` of the sketch in a column. -/
def codeAt (d : Dev) (a b col i : Nat) : Nat := (((d.array a).bank b).words.get col 0) / 2 ^ (2 * i) % 4

/-- The stores of a tile carry no mark and no armed flip. -/
def Unmarked (y : Tile) : Prop := y.tbErr = [] ∧ y.asErr = [] ∧ y.tbArm = [] ∧ y.asArm = []

end Sys2Proof.Stm

/-- From R297 to R306, R316: SCOUT QUERY enters its query; it completes with the bits of its pages and their number; after the limit it
selects every allocated page; in exact mode a page is selected exactly when it is always selected or reaches the threshold. -/
def Obligations.ScoutQueries : Prop :=
  (∀ (s : State) (k : TileId) (w : Tcw) (d' : Dev) (q : Seq) (blk res : Span), Issues s.dev k.val w 5 0
      [fieldOf w 102 4, fieldOf w 92 4, 3, fieldOf w 88 4, fieldOf w 84 4, fieldOf w 80 4] d' →
    onlyBits w.toNat [(111, 79)] = true → Fresh (d'.tile k.val) → (d'.tile k.val).query = none →
    d'.seqOf (d'.tileTenant k.val) ((d'.tile k.val).s 3) = some q →
    (d'.tile k.val).operand (fieldOf w 102 10) 136 [1, 2] false = some blk →
    (d'.tile k.val).operand (fieldOf w 92 10) (((q.pageCap + 511) / 512) * 64) [1, 2] true = some res →
    (d'.tile k.val).s (fieldOf w 88 4) < q.layers → (d'.tile k.val).s (fieldOf w 84 4) < q.groups →
    leNat (((bytesAt (d'.tile k.val) blk).drop 128).take 4) = 0 → Nexts (.scoutQuery k w) s fun t =>
      (∃ z, (t.dev.tile k.val).query = some z ∧ z.seq = (d'.tile k.val).s 3 ∧ z.layer = (d'.tile k.val).s (fieldOf w 88 4) ∧
        z.group = (d'.tile k.val).s (fieldOf w 84 4) ∧ z.block = bytesAt (d'.tile k.val) blk ∧ z.result = res ∧
        z.countReg = fieldOf w 80 4 ∧ z.start = d'.pwr.tick) ∧
      (t.dev.tile k.val).pos = (d'.tile k.val).pos + 1 ∧ (t.dev.tile k.val).sregs = (d'.tile k.val).sregs ∧
      (∃ i p, (t.dev.tile k.val).out = [.op i 7 p .compute [] [res] [fieldOf w 80 4]]) ∧
      (∀ kind a, cellAt ((t.dev.tile k.val).cells kind) a = cellAt ((d'.tile k.val).cells kind) a) ∧
      t = { s with dev := { d' with
        tiles := t.dev.tiles, scout := t.dev.scout, dict := t.dev.dict, clk := t.dev.clk } }) ∧
  (∀ (s : State) (k : TileId) (q : Query) (j : Nat) (x : Job) (d1 : Dev), d1 = s.dev.scoutPump →
    d1.serving = true → QueryTile d1 k q j x → Unmarked (d1.tile k.val) → q.forced = true ∨ q.snap.isSome = true →
    s.dev.pwr.tick - q.start < q.limit → Nexts (.scoutQueryComplete k) s fun t =>
      QueryAnswered k d1 q (d1.queryBits q false) t ∧ t.dev.mem = d1.mem ∧ t.dev.jobs = d1.jobs) ∧
  (∀ (s : State) (k : TileId) (q : Query) (j n : Nat) (x : Job), s.dev.serving = true →
    QueryTile s.dev k q j x → Unmarked (s.dev.tile k.val) → q.limit + q.start ≤ s.dev.pwr.tick → LatePages s.dev q n →
    Nexts (.scoutQueryTimeout k) s fun t =>
      QueryAnswered k s.dev q (List.replicate n true) t ∧ t.dev.mem = s.dev.mem ∧ t.dev.jobs = s.dev.jobs) ∧
  (∀ (d : Dev) (q : Query) (sp : ScSpan) (b : Nat) (l : Layer) (qs : List Int) (p a col : Nat), p < l.np →
    ColumnIs q sp p a col → l.failed = false → d.silentArray q a = false → d.exactOn q a = true →
    q.group * sp.np + p < l.always.length →
    (d.pageBit q sp b l qs p = true ↔ l.always[q.group * sp.np + p]? = some true ∨
      threshOf q.block ≤ (((qs.zip ((List.range 256).map (fun i => 2 * ((codeAt d a b col i : Nat) : Int) - 3))).map
        (fun e => e.1 * e.2)).sum))) ∧
  (∀ (d : Dev) (q : Query) (sp : ScSpan) (b : Nat) (l : Layer) (qs : List Int) (p a col : Nat) (e : Int), p < l.np →
    ColumnIs q sp p a col → l.failed = false → d.silentArray q a = false → d.exactOn q a = false →
    l.always[q.group * sp.np + p]? = some false → (d.array a).suspect.testBit col = false → KMap.find q.shift a = none →
    e = (((qs.zip ((List.range 256).map (fun i => 2 * ((codeAt d a b col i : Nat) : Int) - 3))).map
      (fun x => x.1 / 4 * x.2)).sum) →
    (threshCOf q.block ≤ e → d.pageBit q sp b l qs p = true) ∧
    (e < threshCOf q.block - 2 * (d.obj 0x7810 0 0 : Int) → d.pageBit q sp b l qs p = false)) ∧
  (∀ (d : Dev) (q : Query) (sn : QSnap) (p : Nat) (b : Bool) (a : Nat), q.snap = some sn → sn.bits[p]? = some b →
    sn.arrays[p]? = some a → (d.queryBits q false)[p]? = some (b || q.forcedArrays.contains a))

/-- From R306, R307, R312 to R315, R317: a layer load ends with the layer's sketches in its bank; sweeps, fits and checks move an array
between its states; disabling and reassigning end the work on an array and clear its banks. -/
def Obligations.ScoutArrays : Prop :=
  (∀ (s : State) (l b : Nat) (sp : ScSpan) (la : Layer) (q : Seq) (ds sk : List Byte) (d1 d2 : Dev), s.dev.serving = true →
    ScoutQuiet s.dev → s.dev.loadOf l = some (sp, b, la) → s.dev.seqOf sp.tenant sp.seq = some q →
    sp.slots.Nodup → q.groups * sp.np ≤ 64 * sp.slots.length → (∀ e ∈ sp.slots, e.2 < 16) →
    (∀ a ∈ sp.arrays, (s.dev.array a).clearing b = false) →
    Dev.loadRead sp.tenant (loadReq l la.prio) ((List.range q.groups).map (fun g => (q.descVa la.layer g 0, 16 * sp.np))) s.dev
      [] = (.ok ds, d1) →
    Dev.loadRead sp.tenant (loadReq l la.prio) ((List.range q.groups).map (fun g => (q.sketchVa la.layer g 0, 64 * sp.np))) d1
      [] = (.ok sk, d2) → Nexts (.scoutLoadDone l) s fun t =>
      (∃ z ∈ t.dev.scout.spans, z.seq = sp.seq ∧ ∃ y, z.bank b = some y ∧ y.layer = la.layer ∧ y.loading = none ∧
        y.failed = la.failed) ∧
      (∀ i < q.groups * sp.np, ∀ a slot, sp.slots[i / 64]? = some (a, slot) →
        ((t.dev.array a).bank b).words.get (slot * 64 + i % 64) 0 = (chunks sk 64 (q.groups * sp.np)).getD i 0) ∧
      (∀ z ∈ s.dev.scout.spans, z.seq ≠ sp.seq → z ∈ t.dev.scout.spans) ∧
      t = { s with dev := { d2 with scout := { d2.scout with
        spans := t.dev.scout.spans, arrays := t.dev.scout.arrays } } }) ∧
  (∀ (s : State) (a : ArrayId), s.dev.serving = true → s.dev.sweepDue a.val = true → (s.dev.array a.val).sweeping = false →
    s.dev.arrayQueried a.val = false → s.dev.bankLast a.val 0 = none ∨ s.dev.bankLast a.val 1 = none →
    Nexts (.scoutSweepDue a) s fun t => (∃ b, (b = 0 ∨ b = 1) ∧ s.dev.bankLast a.val b = none ∧
        t.dev.array a.val = { (s.dev.array a.val).setBank b { (s.dev.array a.val).bank b with known := true, words := [] } with
          sweeping := true, due := false }) ∧
      t.dev.clk.chipLow.get (a.val / 32) false = false ∧
      (∀ b : ArrayId, b ≠ a → t.dev.array b.val = s.dev.array b.val) ∧
      t = { s with dev := { s.dev with
        clk := t.dev.clk, scout := { s.dev.scout with arrays := t.dev.scout.arrays } } }) ∧
  (∀ (s : State) (a : ArrayId) (ok : Bool), s.dev.arrayQueried a.val = true → exec (.scoutSweepDone a ok) s = .next s ∧
    exec (.scoutSweepDue a) s = .next s) ∧
  (∀ (s : State) (a : ArrayId), s.dev.serving = true → (s.dev.array a.val).sweeping = true →
    s.dev.arrayQueried a.val = false → Nexts (.scoutSweepDone a false) s fun t => OnlyDev s t ∧
      t.dev.array a.val = { s.dev.array a.val with st := .unverified, sweeping := false, due := false } ∧
      0x31 ∈ t.dev.err.unit ∧ t.dev.obj 0x7831 2 0 = Nat.min (s.dev.obj 0x7831 2 0 + 1) (2 ^ 32 - 1)) ∧
  (∀ (s : State) (a : ArrayId), s.dev.serving = true → (s.dev.array a.val).sweeping = true → s.dev.has 268 = false →
    s.dev.arrayQueried a.val = false →
    Nexts (.scoutSweepDone a true) s fun t =>
      t.dev.array a.val = { s.dev.array a.val with st := .exactOnly, sweeping := false, due := true } ∧
      t.dev.obj 0x7831 1 0 = Nat.min (s.dev.obj 0x7831 1 0 + 1) (2 ^ 64 - 1) ∧
      t = { s with dev := { s.dev with scout := t.dev.scout, dict := t.dev.dict } }) ∧
  (∀ (s : State) (a : ArrayId), s.dev.serving = true → (s.dev.array a.val).sweeping = true → s.dev.has 268 = true →
    s.dev.arrayQueried a.val = false →
    (s.dev.slot 0).failed = false → Nexts (.scoutSweepDone a true) s fun t =>
      (t.dev.array a.val).st = .fitted ∧ (t.dev.array a.val).sweeping = false ∧ (t.dev.array a.val).everFit = true ∧
      (t.dev.array a.val).lastFit = s.dev.pwr.tick ∧
      t = { s with dev := { s.dev with scout := t.dev.scout, dict := t.dev.dict } }) ∧
  (∀ (s : State) (a : ArrayId), s.dev.serving = true → (s.dev.array a.val).everFit = true →
    (s.dev.array a.val).st = .fitted → 2 * s.dev.obj 0x7812 0 0 + (s.dev.array a.val).lastFit ≤ s.dev.pwr.tick →
    Nexts (.overdueSweep a) s fun t => OnlyArray a s t ∧
      t.dev.array a.val = { s.dev.array a.val with st := .exactOnly, due := true }) ∧
  (∀ (s : State) (v : BitVec 16), s.dev.serving = true → 8 ≤ v.toNat → v.toNat ≤ 512 → Nexts (.scoutGuard v) s fun t =>
    t.dev.obj 0x7810 0 0 = v.toNat ∧ (∀ a : ArrayId, t.dev.array a.val = (if (s.dev.array a.val).st = .fitted then
      { s.dev.array a.val with st := .exactOnly, due := true } else s.dev.array a.val)) ∧
    t = { s with dev := { s.dev with scout := { s.dev.scout with arrays := t.dev.scout.arrays }, dict := t.dev.dict } }) ∧
  (∀ (s : State) (a : ArrayId), s.dev.serving = true → s.dev.has (128 + a.val) = true →
    (s.dev.array a.val).st = .disabled → (s.dev.array a.val).failed = false → Nexts (.scoutEnable a true true) s fun t =>
      t.dev.array a.val = { s.dev.array a.val with st := .exactOnly, due := true, sense := some (Config.senseConst a.val) } ∧
      t.dev.obj 0x7802 (a.val + 1) 0 = 1 ∧ t.dev.clk.chipLow.get (a.val / 32) false = false ∧
      t = { s with dev := { s.dev with scout := t.dev.scout, dict := t.dev.dict, clk := t.dev.clk } }) ∧
  (∀ (s : State) (a : ArrayId), s.dev.serving = true → s.dev.has (128 + a.val) = true →
    (s.dev.array a.val).st = .disabled → (s.dev.array a.val).failed = false → Nexts (.scoutEnable a true false) s fun t =>
      (t.dev.array a.val).st = .unverified ∧ 0x31 ∈ t.dev.err.unit ∧ OnlyDev s t) ∧
  (∀ (s : State) (a : ArrayId), s.dev.serving = true → s.dev.has (128 + a.val) = true →
    (s.dev.array a.val).st ≠ .disabled → ScoutQuiet s.dev → Nexts (.scoutEnable a false true) s fun t =>
      (t.dev.array a.val).st = .disabled ∧ (t.dev.array a.val).tenant0 = none ∧ (t.dev.array a.val).tenant1 = none ∧
      ((s.dev.array a.val).tenant0.isSome = true → (t.dev.array a.val).clearing0 = true) ∧
      ((s.dev.array a.val).tenant1.isSome = true → (t.dev.array a.val).clearing1 = true) ∧
      t.dev.obj 0x7802 (a.val + 1) 0 = 0 ∧ (∀ sp ∈ t.dev.scout.spans, ∀ e ∈ sp.slots, e.1 ≠ a.val) ∧
      (∀ b : ArrayId, b ≠ a → t.dev.array b.val = s.dev.array b.val) ∧ t.dev.tiles = s.dev.tiles ∧ t.dev.mem = s.dev.mem) ∧
  (∀ (s : State) (n : FnId) (v : BitVec 128), s.dev.serving = true → s.dev.arraySetOk n.val v.toNat = true → ScoutQuiet s.dev →
    Nexts (.scoutTenantArrays n v) s fun t => t.dev.obj 0x7801 0 n.val = v.toNat ∧
      (∀ a : ArrayId, (s.dev.obj 0x7801 0 n.val).testBit a.val = true → v.toNat.testBit a.val = false →
        (t.dev.array a.val).tenant0 = none ∧ (t.dev.array a.val).st = (s.dev.array a.val).st ∧
        ((s.dev.array a.val).tenant0.isSome = true → (t.dev.array a.val).clearing0 = true) ∧
        ∀ sp ∈ t.dev.scout.spans, sp.tenant = n.val → ∀ e ∈ sp.slots, e.1 ≠ a.val) ∧
      (∀ a : ArrayId, (s.dev.obj 0x7801 0 n.val).testBit a.val = false ∨ v.toNat.testBit a.val = true →
        t.dev.array a.val = s.dev.array a.val) ∧ t.dev.tiles = s.dev.tiles ∧ t.dev.mem = s.dev.mem)

namespace Sys2Proof.Stm

open Sys2Proof.Machine

/-- Only the one slot and the walks and faults of its withdrawn requests change. -/
def OnlySlot (k : SolvSlot) (s t : State) : Prop :=
  t = { s with dev := { s.dev with solv := { s.dev.solv with slots := t.dev.solv.slots }, stu := t.dev.stu } } ∧
    ∀ i : SolvSlot, i ≠ k → t.dev.slot i.val = s.dev.slot i.val

/-- A slot that has latched its objects at ENABLE and reads its consumer index next (R333). -/
def slotLatched (d : Dev) (k : Nat) : SSlot :=
  { d.slot k with
    st := .enabled, ready := false, base := d.obj 0x7C11 (k + 1) 0, pasid := d.obj 0x7C12 (k + 1) 0
    size := d.obj 0x7C13 (k + 1) 0, pi := 0, ci := 0 }

/-- The batch of slot `k` that the descriptor at `va` names has started (R323, R331). -/
def batchStarted (d : Dev) (k va : Nat) : Dev :=
  let d := d.setSlot k { d.slot k with lastTenant := some (d.slotTenant k) }
  { d with solv := { d.solv with
      batch := some { slot := k, desc := va, start := d.pwr.tick, status := 0 }
      lastServed := if k = 0 then d.solv.lastServed else k } }

/-- Slot `k` is served next, needs no clear, and its descriptor reads as `raw`. -/
def BatchReady (d : Dev) (k va : Nat) (raw : List Byte) (d1 : Dev) : Prop :=
  d.solverOn = true ∧ d.solv.batch = none ∧ d.nextSlot = some k ∧ d.slotClear k = none ∧
    va = ((d.slot k).base + 64 + 64 * (d.slot k).ci) % 2 ^ 64 ∧ d.slotRead k va 64 = (some raw, d1)

/-- The write of the consumer index of slot `k` (R323). -/
def IndexWrite (d : Dev) (k : Nat) (r : ReadResult) (d' : Dev) : Prop :=
  d.engWrite (d.slotTenant k) (d.slot k).pasid (((d.slot k).base + 8) % 2 ^ 64)
    (leBytes (((d.slot k).ci + 1) % 2 ^ (d.slot k).size) 4) (slotReq k true) = (.data r, d')

/-- Slot `k` after its batch (R323, R333): the next descriptor, and DISABLED where it drained; memory is that of `d`. -/
def SlotServed (k : Nat) (d : Dev) (s t : State) : Prop :=
  t.dev.slot k = { d.slot k with
    ci := ((d.slot k).ci + 1) % 2 ^ (d.slot k).size, st := if (d.slot k).st = .draining then .disabled else (d.slot k).st } ∧
    (∀ i, i ≠ k → t.dev.slot i = d.slot i) ∧ t = { s with dev := { d with solv := t.dev.solv } }

/-- A poll of a slot: the consumer index is read where ENABLE has not read it, then the producer index (R322, R333). `due`: what
the poll waits for besides. -/
def PollCmd (c : SolvSlot → Instr) (due : Dev → SSlot → Prop) : Prop :=
  ∀ (s : State) (k : SolvSlot) (b ci : List Byte) (d0 d1 d : Dev), s.dev.solverOn = true → due s.dev (s.dev.slot k.val) →
    (s.dev.slot k.val).st = .enabled → (s.dev.slot k.val).failed = false →
    ((s.dev.slot k.val).ready = true → d1 = s.dev) →
    ((s.dev.slot k.val).ready = false → s.dev.slotRead k.val ((s.dev.slot k.val).base + 8) 4 = (some ci, d0) ∧
      d1 = d0.setSlot k.val { d0.slot k.val with ready := true, ci := leNat ci % 2 ^ (s.dev.slot k.val).size }) →
    d1.slotRead k.val (s.dev.slot k.val).base 4 = (some b, d) → leNat b < 2 ^ (s.dev.slot k.val).size →
    Nexts (c k) s fun t => t.dev.slot k.val = { d.slot k.val with pi := leNat b, lastPoll := d.pwr.tick } ∧
      (∀ i : SolvSlot, i ≠ k → t.dev.slot i.val = d.slot i.val) ∧
      t = { s with dev := { d with solv := { d.solv with slots := t.dev.solv.slots } } }

end Sys2Proof.Stm

/-- From R322 to R326, R331 to R333: a slot latches its objects at ENABLE, drains or stops, reads its producer index; a batch runs to
its results, and its end writes results, completion word and consumer index and counts. -/
def Obligations.SolverSlots : Prop :=
  (∀ (s : State) (k : SolvSlot) (d : Dev), s.dev.solverOn = true → (s.dev.slot k.val).failed = false →
    (s.dev.slot k.val).st = .disabled ∨ (s.dev.slot k.val).st = .error →
    (s.dev.setSlot k.val (slotLatched s.dev k.val)).engRead (s.dev.slotTenant k.val) (s.dev.obj 0x7C12 (k.val + 1) 0)
      ((s.dev.obj 0x7C11 (k.val + 1) 0 + 8) % 2 ^ 64) 4 (slotReq k.val true) = (.wait, d) →
    Nexts (.solvSlotEnable k) s fun t => t = { s with dev := d } ∧ t.dev.slot k.val = slotLatched s.dev k.val ∧
      (∀ i : SolvSlot, i ≠ k → t.dev.slot i.val = s.dev.slot i.val)) ∧
  PollCmd .solvSlotKick (fun _ _ => True) ∧
  PollCmd .solverPoll (fun d x => d.obj 0x7C04 0 0 + x.lastPoll ≤ d.pwr.tick) ∧
  (∀ (s : State) (k : SolvSlot), s.dev.pwr.tick - (s.dev.slot k.val).lastPoll < s.dev.obj 0x7C04 0 0 →
    exec (.solverPoll k) s = .next s) ∧
  (∀ (s : State) (k : SolvSlot), (s.dev.slot k.val).st = .enabled → s.dev.slotBusy k.val = false →
    Nexts (.solvSlotDisable k) s fun t => OnlySlot k s t ∧ t.dev.slot k.val = { s.dev.slot k.val with st := .disabled }) ∧
  (∀ (s : State) (k : SolvSlot), (s.dev.slot k.val).st = .enabled → s.dev.slotBusy k.val = true →
    Nexts (.solvSlotDisable k) s fun t => OnlySlot k s t ∧ t.dev.slot k.val = { s.dev.slot k.val with st := .draining }) ∧
  (∀ (s : State) (k : SolvSlot), (s.dev.slot k.val).st ≠ .disabled → s.dev.slotBusy k.val = false →
    Nexts (.solvSlotAbort k) s fun t => OnlySlot k s t ∧ t.dev.slot k.val = { s.dev.slot k.val with st := .disabled }) ∧
  (∀ (s : State) (k : SolvSlot), (s.dev.slot k.val).st ≠ .disabled → s.dev.slotBusy k.val = true →
    Nexts (.solvSlotAbort k) s fun t => (t.dev.slot k.val).st = .disabled ∧ t.dev.solv.batch = none ∧
      t.dev.jobs = s.dev.jobs ∧ t.dev.tiles = s.dev.tiles ∧ OnlyDev s t) ∧
  (∀ (s : State) (k : SolvSlot) (va piv rng : Nat) (raw out : List Byte) (r : Resident) (d1 d2 : Dev),
    BatchReady s.dev k.val va raw d1 → (batchDesc (leNat raw)).ok = true → (batchDesc (leNat raw)).delta = false →
    (fullBatch k.val (batchDesc (leNat raw))).run.run (batchStarted d1 k.val va) = (.ok (out, piv, rng, r), d2) →
    Nexts (.solverBatchFull k) s fun t => t = { s with dev := { d2 with solv := t.dev.solv } } ∧
      t.dev.solv.batch = some { slot := k.val, desc := va, start := d1.pwr.tick, status := 1, pivots := piv, ranges := rng
                                out := out, outVa := (batchDesc (leNat raw)).outVa, resident := some (some r) } ∧
      t.dev.solv.slots = d2.solv.slots) ∧
  (∀ (s : State) (k : SolvSlot) (va : Nat) (raw : List Byte) (d1 : Dev), BatchReady s.dev k.val va raw d1 →
    (batchDesc (leNat raw)).ok = false → Nexts (.solverBatchFull k) s fun t => OnlyDev s t ∧
      t.dev.solv.batch = some { slot := k.val, desc := va, start := d1.pwr.tick, status := 2 } ∧ t.dev.mem = d1.mem) ∧
  (∀ (s : State) (k : SolvSlot) (va piv rng : Nat) (raw out : List Byte) (r : Resident) (d1 d2 : Dev),
    BatchReady s.dev k.val va raw d1 → (batchDesc (leNat raw)).ok = true → (batchDesc (leNat raw)).delta = true →
    (deltaBatch k.val (batchDesc (leNat raw))).run.run (batchStarted d1 k.val va) = (.ok (out, piv, rng, r), d2) →
    Nexts (.solverBatchDelta k) s fun t => t = { s with dev := { d2 with solv := t.dev.solv } } ∧
      t.dev.solv.batch = some { slot := k.val, desc := va, start := d1.pwr.tick, status := 1, pivots := piv, ranges := rng
                                out := out, outVa := (batchDesc (leNat raw)).outVa, resident := some (some r) } ∧
      t.dev.solv.slots = d2.solv.slots) ∧
  (∀ (s : State) (b c : SolvBatch) (r1 r2 r3 : ReadResult) (d0 d1 d2 d3 : Dev), s.dev.solverOn = true →
    s.dev.solv.batch = some b → b.status ≠ 0 → b.posted = false → c = { b with out := [] } → (b.out = [] → d1 = s.dev) →
    (b.out ≠ [] →
      s.dev.engWrite (s.dev.slotTenant b.slot) (s.dev.slot b.slot).pasid b.outVa b.out (slotReq b.slot false) = (.data r1, d0) ∧
      d1 = { d0 with solv := { d0.solv with batch := some c } }) →
    d1.engWrite (d1.slotTenant b.slot) (d1.slot b.slot).pasid b.desc (leBytes (b.status * 2 ^ 56 +
      Nat.min b.pivots 65535 * 2 ^ 40 + Nat.min b.ranges 65535 * 2 ^ 24 + Nat.min (d1.pwr.tick - b.start) (2 ^ 24 - 1)) 8)
      (slotReq b.slot true) = (.data r2, d2) →
    IndexWrite (d2.postBatch c) b.slot r3 d3 → Nexts .solverBatchDone s fun t =>
      t.dev.solv.batch = none ∧
      (∀ r, b.resident = some r → ((d2.postBatch c).slot b.slot).resident = r) ∧
      (d2.postBatch c).obj 0x7C20 (b.slot + 1) 0 = Nat.min (d2.obj 0x7C20 (b.slot + 1) 0 + 1) (2 ^ 64 - 1) ∧
      SlotServed b.slot d3 s t) ∧
  (∀ (s : State) (b : SolvBatch) (r3 : ReadResult) (d3 : Dev), s.dev.solverOn = true → s.dev.solv.batch = some b →
    b.status ≠ 0 → b.posted = true → IndexWrite s.dev b.slot r3 d3 → Nexts .solverBatchDone s fun t =>
      t.dev.solv.batch = none ∧ SlotServed b.slot d3 s t)

/-! ### Scale-out -/

namespace Sys2Proof.Stm

open Sys2Proof.Machine

/-- Only ports, peers and channels, and their objects, change. -/
def OnlyScale (s t : State) : Prop := t = { s with dev := { s.dev with scale := t.dev.scale, dict := t.dev.dict } }

/-- Every UP peer has an UP port other than `p` (R343). -/
def Reachable (d : Dev) (p : Nat) : Prop :=
  ∀ m < 32, (d.peer m).st = 1 → ∃ b, d.peerPort m b ≠ p ∧ d.portUp (d.peerPort m b) = true

/-- What the loss of port `p` does to the peers (R343): those whose primary port it is use their alternate port. -/
def PeersMove (p : Nat) (s t : State) : Prop :=
  ∀ m < 32, t.dev.peer m = (if s.dev.peerPort m false = p ∧ (s.dev.peer m).st ≠ 0 then { s.dev.peer m with alternate := true }
    else s.dev.peer m)

/-- Every other port keeps its state. -/
def OtherPorts (p : PortId) (s t : State) : Prop := ∀ i : PortId, i ≠ p → t.dev.port i.val = s.dev.port i.val

/-- Channel `c` of the device `d` becomes `x`; only it and the messages put out differ. -/
def OnlyChan (c : Nat) (d : Dev) (s t : State) (x : Chan) : Prop :=
  t.dev.chan c = x ∧ (∀ i, i ≠ c → t.dev.chan i = d.chan i) ∧
    t = { s with dev := { d with scale := { d.scale with chans := t.dev.scale.chans }, emits := t.dev.emits } }

/-- The path of a peer: its primary port where that is UP and not given up, otherwise the other one (R343). -/
def PathTo (d : Dev) (m p l : Nat) : Prop := d.pathOf m = some p ∧ KMap.find (d.peer m).link p = some l

/-- A DATA or FLAG packet of open channel `h.dstCh` that arrives in order, in the window, its place translated and owned. -/
def Lands (s : State) (g : LrtDatagram) (type : Nat) (h : LrtHeader) (pl data : List Byte) (ps : List (Nat × Nat × Nat))
    (d d1 : Dev) : Prop :=
  s.dev.lrtIn g type = some (h, pl) ∧ (s.dev.chan h.dstCh).accepts h = true ∧ (s.dev.chan h.dstCh).held = none ∧
    h.psn = (s.dev.chan h.dstCh).expected ∧ h.psn < 2 ^ 24 ∧
    h.offset + data.length ≤ (s.dev.chan h.dstCh).rxBytes ∧
    s.dev.translateSpan (s.dev.chan h.dstCh).tenant (s.dev.chan h.dstCh).pasid
      (((s.dev.chan h.dstCh).rxBase + h.offset) % 2 ^ 64) data.length 1 (s.dev.chanReq h.dstCh 2) = (some ps, d) ∧
    d.ownOkAll (s.dev.chan h.dstCh).tenant ps true = (true, d1) ∧ Clean d1.mem

/-- The effect of a landed packet: its bytes are stored, EXPECTED advances, an ACK goes out with every sixteenth (R341). -/
def Landed (t s : State) (c : Nat) (data : List Byte) (ps : List (Nat × Nat × Nat)) (d1 : Dev) : Prop :=
  t.dev.mem = ((d1.onBus (s.dev.chan c).tenant (s.dev.chan c).pasid true ps).writePieces ps data).1.mem ∧
    (t.dev.chan c).expected = ((d1.chan c).expected + 1) % 2 ^ 24 ∧
    (t.dev.chan c).toAck = (if 16 ≤ (d1.chan c).toAck + 1 then 0 else (d1.chan c).toAck + 1) ∧
    (t.dev.chan c).held = none ∧ (∀ i, i ≠ c → t.dev.chan i = d1.chan i) ∧ t.dev.jobs = d1.jobs ∧
    t = { s with dev := { d1 with
      scale := { d1.scale with chans := t.dev.scale.chans }, mem := t.dev.mem, emits := t.dev.emits } }

end Sys2Proof.Stm

/-- From R335, R336, R343, Tables 17.4 and 17.5: ports train, come up and go down, and peers change to their alternate port; neighbour
messages are answered and learnt from; a LOST peer that answers a probe is UP again. -/
def Obligations.PortsAndPeers : Prop :=
  (∀ (s : State) (p : PortId), s.dev.serving = true → s.dev.etherOn p.val = true → s.dev.port p.val = .off →
    Nexts (.scalePortEnable p true) s fun t => OnlyScale s t ∧ t.dev.port p.val = .training ∧ OtherPorts p s t ∧
      t.dev.obj 0x8001 (p.val + 1) 0 = 1 ∧ t.dev.scale.peers = s.dev.scale.peers ∧ t.dev.scale.chans = s.dev.scale.chans) ∧
  (∀ (s : State) (p : PortId), s.dev.serving = true → s.dev.has (288 + p.val) = true → Reachable s.dev p.val →
    Nexts (.scalePortEnable p false) s fun t => OnlyScale s t ∧ t.dev.port p.val = .off ∧ OtherPorts p s t ∧
      t.dev.obj 0x8001 (p.val + 1) 0 = 0 ∧ PeersMove p.val s t ∧ t.dev.scale.chans = s.dev.scale.chans) ∧
  (∀ (s : State) (p : PortId), s.dev.etherOn p.val = true → s.dev.port p.val = .training → Nexts (.portLinkUp p) s fun t =>
    OnlyScale s t ∧ t.dev.port p.val = .up ∧ OtherPorts p s t ∧ t.dev.scale.peers = s.dev.scale.peers ∧
      t.dev.scale.chans = s.dev.scale.chans ∧ t.dev.dict = s.dev.dict) ∧
  (∀ (s : State) (p : PortId), s.dev.live = true → s.dev.port p.val = .up → Reachable s.dev p.val →
    Nexts (.portLinkDown p) s fun t => OnlyScale s t ∧ t.dev.port p.val = .training ∧ OtherPorts p s t ∧
      PeersMove p.val s t ∧ t.dev.scale.chans = s.dev.scale.chans ∧ t.dev.dict = s.dev.dict) ∧
  (∀ (s : State) (p : PortId) (a : BitVec 128), s.dev.live = true → s.dev.port p.val = .up → a ≠ 0 →
    a.toNat = s.dev.obj 0x8003 (p.val + 1) 0 → exec (.neighborSolicitation p a) s = .next { s with dev := { s.dev with
      emits := s.dev.emits ++ [.neighborAdv p.val a.toNat] } }) ∧
  (∀ (s : State) (p : PortId) (a : BitVec 128) (l : BitVec 48), s.dev.live = true → s.dev.port p.val = .up → a ≠ 0 →
    (∀ e ∈ s.dev.scale.chans, e.2.unacked = []) → Nexts (.neighborAdvertisement p a l) s fun t =>
      (∀ m < 32, s.dev.obj 0x8020 (m + 1) 0 = a.toNat → KMap.find (t.dev.peer m).link p.val = some l.toNat) ∧
      (∀ m < 32, s.dev.obj 0x8020 (m + 1) 0 ≠ a.toNat → t.dev.peer m = s.dev.peer m) ∧
      (∀ m < 32, (t.dev.peer m).st = (s.dev.peer m).st ∧ (t.dev.peer m).alternate = (s.dev.peer m).alternate) ∧
      t = { s with dev := { s.dev with scale := { s.dev.scale with peers := t.dev.scale.peers } } }) ∧
  (∀ (s : State) (g : LrtDatagram) (h : LrtHeader) (pl : List Byte) (l : Nat), s.dev.lrtIn g 5 = some (h, pl) →
    h.group = s.dev.obj 0x8011 0 0 → h.dstMember = s.dev.obj 0x8012 0 0 → s.dev.obj 0x8020 (h.srcMember + 1) 0 ≠ 0 →
    KMap.find (s.dev.peer h.srcMember).link g.port.val = some l → exec (.lrtProbe g) s = .next { s with dev := { s.dev with
      emits := s.dev.emits ++ [.packet g.port.val l (s.dev.obj 0x8020 (h.srcMember + 1) 0) (0xC000 + h.dstCh)
        (s.dev.obj 0x8010 0 0) (lrtBytes { type := 6, srcMember := h.dstMember, dstMember := h.srcMember, dstCh := h.srcCh
                                           srcCh := h.dstCh, group := h.group } [])] } }) ∧
  (∀ (s : State) (g : LrtDatagram) (h : LrtHeader) (pl : List Byte), s.dev.lrtIn g 6 = some (h, pl) →
    h.group = s.dev.obj 0x8011 0 0 → h.dstMember = s.dev.obj 0x8012 0 0 → (s.dev.peer h.srcMember).st = 2 →
    Nexts (.lrtProbeReply g) s fun t => t.dev.peer h.srcMember = { s.dev.peer h.srcMember with st := 1 } ∧
      (∀ m, m ≠ h.srcMember → t.dev.peer m = s.dev.peer m) ∧
      t = { s with dev := { s.dev with scale := { s.dev.scale with peers := t.dev.scale.peers } } }) ∧
  (∀ (s : State) (m : PeerId) (p l : Nat), s.dev.serving = true → (s.dev.peer m.val).st = 2 → PathTo s.dev m.val p l →
    PeriodOver s.dev (s.dev.peer m.val).lastProbe 25000 → Nexts (.lrtProbeTimer m) s fun t =>
      t.dev.peer m.val = { s.dev.peer m.val with lastProbe := some s.dev.pwr.tick } ∧
      (∀ i : PeerId, i ≠ m → t.dev.peer i.val = s.dev.peer i.val) ∧
      t = { s with dev := { s.dev with
        scale := { s.dev.scale with peers := t.dev.scale.peers }
        emits := s.dev.emits ++ [.packet p l (s.dev.obj 0x8020 (m.val + 1) 0) 0xC000 (s.dev.obj 0x8010 0 0)
          (lrtBytes { type := 5, srcMember := s.dev.obj 0x8012 0 0, dstMember := m.val, dstCh := 0, srcCh := 0
                      group := s.dev.obj 0x8011 0 0 } [])] } }) ∧
  (∀ (s : State) (m : PeerId) (x : Nat), (s.dev.peer m.val).lastProbe = some x → s.dev.pwr.tick - x < 25000 →
    exec (.lrtProbeTimer m) s = .next s)

/-- From R337 to R344: a channel latches its objects at ENABLE and drains at DISABLE; send entries become packets in order; received
packets are performed in order and acknowledged; acknowledged packets leave the window; a timeout resends, changes to the
alternate port, and at last loses the peer. -/
def Obligations.Channels : Prop :=
  (∀ (s : State) (c : ChanId) (m : Nat) (x : Chan) (pa : Option Nat) (d : Dev), s.dev.serving = true →
    (s.dev.chan c.val).st ≠ .openSt → m = s.dev.obj 0x8031 (c.val + 1) 0 / 2 ^ 8 % 2 ^ 5 →
    x = { st := .openSt, tenant := s.dev.obj 0x8030 (c.val + 1) 0, pasid := s.dev.obj 0x8033 (c.val + 1) 0
          sqBase := s.dev.obj 0x8034 (c.val + 1) 0, sqSize := s.dev.obj 0x8035 (c.val + 1) 0
          rxBase := s.dev.obj 0x8036 (c.val + 1) 0, rxBytes := s.dev.obj 0x8037 (c.val + 1) 0, peer := m
          peerAddr := s.dev.obj 0x8020 (m + 1) 0, peerChan := s.dev.obj 0x8031 (c.val + 1) 0 % 2 ^ 6
          member := s.dev.obj 0x8012 0 0, group := s.dev.obj 0x8011 0 0, udpPort := s.dev.obj 0x8010 0 0 } →
    x.peerAddr ≠ 0 → s.dev.fnExists x.tenant = true →
    s.dev.translate x.tenant x.pasid x.sqBase 0 (s.dev.checkReq c.val) = (pa, d) →
    (∀ a, pa = some a → a < d.hbmTop) →
    (∀ i < 32, (s.dev.peer i).st = 1 ∨ (i = m ∧ (s.dev.peer i).st = 0) → (s.dev.pathOf i).isSome = true) →
    Nexts (.scaleChEnable c) s fun t =>
      (pa.isSome = true → t.dev.chan c.val = x ∧ (∀ i : ChanId, i ≠ c → t.dev.chan i.val = s.dev.chan i.val) ∧
        (t.dev.peer m).st = (if (s.dev.peer m).st = 0 then 1 else (s.dev.peer m).st) ∧
        (∀ i, i ≠ m → t.dev.peer i = s.dev.peer i) ∧ KMap.find t.dev.scale.enabling c.val = none ∧
        t = { s with dev := { d with scale := { s.dev.scale with
          chans := t.dev.scale.chans, peers := t.dev.scale.peers, enabling := t.dev.scale.enabling } } }) ∧
      (pa = none → KMap.find t.dev.scale.enabling c.val = some x ∧
        t = { s with dev := { d with scale := { d.scale with enabling := t.dev.scale.enabling } } })) ∧
  (∀ (s : State) (c : ChanId), s.dev.serving = true → (s.dev.chan c.val).st ≠ .openSt →
    s.dev.obj 0x8020 (s.dev.obj 0x8031 (c.val + 1) 0 / 2 ^ 8 % 2 ^ 5 + 1) 0 = 0 → Nexts (.scaleChEnable c) s fun t =>
      (t.dev.chan c.val).st = .error ∧ (t.dev.chan c.val).tenant = s.dev.obj 0x8030 (c.val + 1) 0 ∧
      t.dev.mem = s.dev.mem ∧ OnlyDev s t) ∧
  (∀ (s : State) (c : ChanId), s.dev.serving = true → (s.dev.chan c.val).st = .openSt → (s.dev.chan c.val).unacked = [] →
    (s.dev.chan c.val).queued = [] → (s.dev.chan c.val).ciDirty = false → Nexts (.scaleChDisable c) s fun t =>
      t.dev.chan c.val = { s.dev.chan c.val with st := .disabled, draining := false, held := none } ∧
      (∀ i : ChanId, i ≠ c → t.dev.chan i.val = s.dev.chan i.val) ∧ t.dev.mem = s.dev.mem ∧ t.dev.jobs = s.dev.jobs) ∧
  (∀ (s : State) (c : ChanId), s.dev.serving = true → (s.dev.chan c.val).st = .openSt → (s.dev.chan c.val).unacked ≠ [] →
    Nexts (.scaleChDisable c) s fun t =>
      OnlyChan c.val { s.dev with scale := { s.dev.scale with enabling := s.dev.scale.enabling.drop c.val } } s t
        { s.dev.chan c.val with draining := true } ∧ t.dev.emits = s.dev.emits) ∧
  (∀ (s : State) (c : ChanId), s.dev.serving = true → (s.dev.chan c.val).st = .error → Nexts (.scaleChDisable c) s fun t =>
    OnlyChan c.val { s.dev with scale := { s.dev.scale with enabling := s.dev.scale.enabling.drop c.val } } s t
      { s.dev.chan c.val with st := .disabled }) ∧
  (∀ (s : State) (c : ChanId) (r : ReadResult) (d : Dev), s.dev.serving = true → (s.dev.chan c.val).st = .openSt →
    (s.dev.chan c.val).draining = false → (s.dev.chan c.val).ciDirty = false →
    s.dev.engRead (s.dev.chan c.val).tenant (s.dev.chan c.val).pasid ((s.dev.chan c.val).sqBase % 2 ^ 64) 12
      (s.dev.chanReq c.val 0) = (.data r, d) → r.bad = [] → leNat (r.bytes.take 4) < 2 ^ (s.dev.chan c.val).sqSize →
    Nexts (.lrtSqWake c) s fun t => OnlyChan c.val d s t (if (d.chan c.val).ready then
        { d.chan c.val with pi := leNat (r.bytes.take 4) }
      else { d.chan c.val with
        pi := leNat (r.bytes.take 4), ready := true, ci := leNat (r.bytes.drop 8) % 2 ^ (s.dev.chan c.val).sqSize
        sendIdx := leNat (r.bytes.drop 8) % 2 ^ (s.dev.chan c.val).sqSize })) ∧
  (∀ (s : State) (c : ChanId) (b data : List Byte) (d1 d : Dev), s.dev.serving = true → (s.dev.chan c.val).st = .openSt →
    (s.dev.chan c.val).draining = false → (s.dev.chan c.val).ciDirty = false → (s.dev.chan c.val).ready = true →
    (s.dev.chan c.val).sendIdx ≠ (s.dev.chan c.val).pi → (s.dev.chan c.val).queued = [] →
    s.dev.chanRead c.val ((s.dev.chan c.val).sqBase + 64 + 32 * (s.dev.chan c.val).sendIdx) 32 0 = (some b, d1) →
    sendOk (leNat b) = true → leNat b / 2 ^ 128 % 2 ^ 24 ≠ 0 →
    d1.chanRead c.val (leNat b / 2 ^ 192 % 2 ^ 64) (leNat b / 2 ^ 128 % 2 ^ 24) 0 = (some data, d) →
    (d.chan c.val).st = .openSt → Nexts (.lrtSendEntry c) s fun t =>
      (t.dev.chan c.val).unacked ++ (t.dev.chan c.val).queued = (d.chan c.val).unacked ++
        entryPkts (s.dev.chan c.val).psn (d.obj 0x8013 0 0) (leNat b / 2 ^ 152 % 2 ^ 40) data
          (if (leNat b).testBit 80 then some (leNat b / 2 ^ 88 % 2 ^ 40, leNat b % 2 ^ 64) else none) ∧
      ((d.chan c.val).unacked.length ≤ d.obj 0x8016 0 0 → (t.dev.chan c.val).unacked.length ≤ d.obj 0x8016 0 0) ∧
      (t.dev.chan c.val).sendIdx = ((d.chan c.val).sendIdx + 1) % 2 ^ (d.chan c.val).sqSize ∧
      OnlyChan c.val d s t (t.dev.chan c.val)) ∧
  (∀ (s : State) (g : LrtDatagram) (h : LrtHeader) (pl : List Byte) (ps : List (Nat × Nat × Nat)) (d d1 : Dev),
    Lands s g 1 h pl pl ps d d1 → Nexts (.lrtData g) s fun t => Landed t s h.dstCh pl ps d1) ∧
  (∀ (s : State) (g : LrtDatagram) (h : LrtHeader) (pl : List Byte) (ps : List (Nat × Nat × Nat)) (d d1 : Dev),
    Lands s g 2 h pl (leBytes h.value 8) ps d d1 → Nexts (.lrtFlag g) s fun t => Landed t s h.dstCh (leBytes h.value 8) ps d1) ∧
  (∀ (s : State) (g : LrtDatagram) (h : LrtHeader) (pl : List Byte), s.dev.lrtIn g 1 = some (h, pl) →
    (s.dev.chan h.dstCh).accepts h = true → (s.dev.chan h.dstCh).held = none →
    1 ≤ (h.psn + 2 ^ 24 - (s.dev.chan h.dstCh).expected) % 2 ^ 24 → Nexts (.lrtData g) s fun t =>
      OnlyChan h.dstCh s.dev s t (if 2 ^ 23 ≤ (h.psn + 2 ^ 24 - (s.dev.chan h.dstCh).expected) % 2 ^ 24 then
        { s.dev.chan h.dstCh with toAck := 0 } else s.dev.chan h.dstCh)) ∧
  (∀ (s : State) (g : LrtDatagram) (h : LrtHeader) (pl : List Byte) (n : Nat), s.dev.lrtIn g 3 = some (h, pl) →
    (s.dev.chan h.dstCh).accepts h = true → (s.dev.chan h.dstCh).queued = [] → (s.dev.chan h.dstCh).ciDirty = false →
    (s.dev.chan h.dstCh).draining = false → n = (h.ackPsn + 2 ^ 24 - (s.dev.chan h.dstCh).ackPsn) % 2 ^ 24 → 1 ≤ n →
    n ≤ (s.dev.chan h.dstCh).unacked.length → (∀ k ∈ (s.dev.chan h.dstCh).unacked.take n, k.last = false) →
    Nexts (.lrtAck g) s fun t => OnlyChan h.dstCh s.dev s t { s.dev.chan h.dstCh with
      ackPsn := h.ackPsn, unacked := (s.dev.chan h.dstCh).unacked.drop n, timeouts := 0, rtoStart := s.dev.pwr.tick
      rto := s.dev.obj 0x8014 0 0, ci := (s.dev.chan h.dstCh).ci % 2 ^ (s.dev.chan h.dstCh).sqSize }) ∧
  (∀ (s : State) (g : LrtDatagram) (h : LrtHeader) (pl : List Byte), s.dev.lrtIn g 4 = some (h, pl) →
    (s.dev.chan h.dstCh).accepts h = true → h.nak = 0 → h.ackPsn = (s.dev.chan h.dstCh).ackPsn → h.ackPsn < 2 ^ 24 →
    Nexts (.lrtNak g) s fun t => t.dev.chan h.dstCh = { s.dev.chan h.dstCh with
        rtoStart := s.dev.pwr.tick, rto := s.dev.obj 0x8014 0 0 } ∧
      t.dev.obj 0x803A (h.dstCh + 1) 0 = Nat.min (s.dev.obj 0x803A (h.dstCh + 1) 0 + (s.dev.chan h.dstCh).unacked.length)
        (2 ^ 64 - 1) ∧
      t = { s with dev := { s.dev with scale := { s.dev.scale with chans := t.dev.scale.chans }, dict := t.dev.dict
                                       emits := t.dev.emits } }) ∧
  (∀ (s : State) (g : LrtDatagram) (h : LrtHeader) (pl : List Byte), s.dev.lrtIn g 4 = some (h, pl) →
    (s.dev.chan h.dstCh).accepts h = true → h.nak ≠ 0 → Nexts (.lrtNak g) s fun t =>
      (t.dev.chan h.dstCh).st = .error ∧ (t.dev.chan h.dstCh).unacked = [] ∧ (t.dev.chan h.dstCh).queued = [] ∧ OnlyDev s t) ∧
  (∀ (s : State) (c : ChanId), s.dev.serving = true → (s.dev.chan c.val).st = .openSt → (s.dev.chan c.val).toAck ≠ 0 →
    50 + (s.dev.chan c.val).ackSince ≤ s.dev.pwr.tick → Nexts (.lrtAckTimer c) s fun t =>
      OnlyChan c.val s.dev s t { s.dev.chan c.val with toAck := 0 }) ∧
  (∀ (s : State) (c : ChanId), s.dev.serving = true → (s.dev.chan c.val).st = .openSt → (s.dev.chan c.val).unacked ≠ [] →
    (s.dev.chan c.val).rtoStart + (s.dev.chan c.val).rto ≤ s.dev.pwr.tick → Nexts (.lrtRtoExpiry c) s fun t =>
      ((s.dev.chan c.val).timeouts + 1 < s.dev.obj 0x8015 0 0 →
        t.dev.chan c.val = { s.dev.chan c.val with
          timeouts := (s.dev.chan c.val).timeouts + 1, rtoStart := s.dev.pwr.tick, rto := s.dev.obj 0x8014 0 0 } ∧
        t.dev.scale.peers = s.dev.scale.peers) ∧
      (s.dev.obj 0x8015 0 0 ≤ (s.dev.chan c.val).timeouts + 1 → (s.dev.peer (s.dev.chan c.val).peer).alternate = false →
        (t.dev.chan c.val).timeouts = 0 ∧ (t.dev.peer (s.dev.chan c.val).peer).alternate = true ∧
        (t.dev.chan c.val).st = .openSt) ∧
      (s.dev.obj 0x8015 0 0 ≤ (s.dev.chan c.val).timeouts + 1 → (s.dev.peer (s.dev.chan c.val).peer).alternate = true →
        (t.dev.peer (s.dev.chan c.val).peer).st = 2))

/-- From Table 17.2: a packet that is put on the wire is read back as it was, header and payload. -/
def Obligations.PacketsReadBack : Prop :=
  ∀ (h : LrtHeader) (pl : List Byte) (mx : Nat), 1 ≤ h.type → h.type ≤ 6 → h.srcMember < 32 → h.dstMember < 32 → h.dstCh < 64 →
    h.srcCh < 64 → h.group < 2 ^ 16 → h.psn < 2 ^ 24 → h.ackPsn < 2 ^ 24 → h.offset < 2 ^ 40 → h.value < 2 ^ 64 →
    (h.type = 4 → h.nak < 3) → (h.type ≠ 4 → h.nak = 0) → (h.type ≠ 2 → h.value = 0) → h.len = pl.length →
    (h.type = 1 → 1 ≤ pl.length ∧ pl.length ≤ mx) → (h.type ≠ 1 → pl = []) → mx < 2 ^ 16 →
    lrtParse mx (lrtBytes h pl) = some (h, pl)

/-! ### Metrology -/

namespace Sys2Proof.Stm

open Sys2Proof.Machine

/-- A change of the meter: the hub hears of it over the mirror channel only; the faults it then holds pending are those of
the meter (R357, R380, R388). -/
def MeterGoes (s t : State) : Prop :=
  t = { s with dev := t.dev, gnt := t.gnt } ∧ (s.dev.live = false → t.dev = s.dev) ∧
    (t.gnt.faults = s.gnt.faults → t.gnt.journal = s.gnt.journal → (∀ r ∈ s.gnt.journal, r.seq ≤ s.gnt.seq) →
      t.dev = s.dev) ∧
    (s.dev.live = true → t.gnt.faults ≠ s.gnt.faults → ∀ f ∈ t.gnt.faults, t.dev.err.board.contains f.1 = f.2.1)

/-- What a sample may change: measuring, energies in progress and the AUX readings; not the journal, the calibration, the
restored registers, the audit counter, the seal. -/
def Measures (g h : Gnt) : Prop :=
  h = { g with
    met := h.met, sinceSet := h.sinceSet, lowV := h.lowV, settle := h.settle, live := h.live, auxCount := h.auxCount
    auxGroup := h.auxGroup, a1 := h.a1, a2 := h.a2, a3 := h.a3, mode := h.mode, pendingE := h.pendingE
    remainder := h.remainder, substRem := h.substRem, lastGood := h.lastGood, goodRun := h.goodRun, window := h.window
    regs := h.regs, flagsSeen := h.flagsSeen, delayed := h.delayed }

/-- The records in writing and waiting, oldest first. -/
def Pend (g : Gnt) : List JReq := (g.writing.map (fun w => w.req)).toList ++ g.queued

/-- Energy that enters: pending energy and remainder together lose nothing (R364). -/
def Enters (g h : Gnt) (e : Nat) : Prop :=
  h.pendingE * energyDen + h.remainder = g.pendingE * energyDen + g.remainder + e

/-- A sample that counts: no SETTLE, no open pair. -/
def Good (g : Gnt) : Prop := g.settle = 0 ∧ g.openPairs = 0

/-- The next record is made from the chain's end (Table 19.5). -/
def MadeOf (g : Gnt) (q : JReq) (r : JRec) : Prop :=
  r.seq = g.seq + 1 ∧ r.metMs = g.met / 16 ∧ r.audit = g.audit ∧ r.set = q.set ∧ r.kind = q.kind ∧ r.code = q.code ∧
    r.prev = g.lastDigest ∧ (q.kind ≠ 5 → r.body = q.body)

/-- The meter port answers private transfers (R23, R41): the 54 V input is present, the meter runs, a dynamic address is assigned. -/
def PortAnswers (s : State) : Prop := s.gnt.powered = true ∧ s.dev.pwr.v54 = true ∧ s.met.addr ≠ 0

/-- `q` is `n / den` rounded to the nearest integer, ties to even (R237). -/
def Nearest (q n den : Nat) : Prop :=
  2 * (q * den) ≤ 2 * n + den ∧ 2 * n ≤ 2 * (q * den) + den ∧
    (2 * n = 2 * (q * den) + den ∨ 2 * (q * den) = 2 * n + den → q % 2 = 0)

/-- A change of parameters that R378 accepts: trace broken, cover open, signature good. -/
def Accepted (g : Gnt) (b sig : List Byte) : Prop :=
  g.traceBroken = true ∧ g.coverOpen = true ∧ g.audit < 2 ^ 32 - 1 ∧
    ecdsaVerifies (beBytes Config.calKey 96) sig (sha384 (b ++ leBytes g.audit 4)) = true

end Sys2Proof.Stm

/-- From R360, R361, R364, R367, R375: a sample is accrued two samples later; a valid one adds its energy, another adds last-good
power in the first second of its run, and unmeasured time after that; AUX conversions after the third are taken. -/
def Obligations.MeterMeasures : Prop :=
  (∀ (s : State) (v i : BitVec 24) (vo io : Bool) (x : AuxSample) (a b : MSample), s.gnt.powered = true →
    s.gnt.auxCount < 15 → s.gnt.lowV = 0 → s.gnt.delayed = [a, b] → Nexts (.meterSample v i vo io x) s fun t =>
      MeterGoes s t ∧ Measures s.gnt t.gnt ∧ t.gnt.met = s.gnt.met + 1 ∧
      t.gnt.settle = s.gnt.settle - 1 ∧
      (s.gnt.mode ≠ .overtemp → Good s.gnt → t.gnt.delayed = [b,
        { num := samplePower (s.gnt.cal.volts (meterCode v vo)) (s.gnt.cal.amps t.gnt.a1 (meterCode i io)), valid := true
          ovr := vo || io, fresh := true }]) ∧
      (s.gnt.mode = .overtemp ∨ ¬ Good s.gnt → t.gnt.delayed = [b,
        { num := 0, valid := false, ovr := false, fresh := t.gnt.settle == 0 }]) ∧
      (s.gnt.mode ≠ .overtemp → a.valid = true → t.gnt.mode = .measuring ∧ Enters s.gnt t.gnt (16 * a.num) ∧
        t.gnt.remainder < energyDen ∧ t.gnt.regs = { s.gnt.regs with ovr := s.gnt.regs.ovr + a.ovr.toNat } ∧
        t.gnt.lastGood = (if a.fresh then (a.num :: s.gnt.lastGood).take 16 else s.gnt.lastGood)) ∧
      (s.gnt.mode ≠ .overtemp → a.valid = false → s.gnt.lastGood.length = 16 → s.gnt.window < 16000 →
        t.gnt.mode = .substituting ∧ Enters s.gnt t.gnt (s.gnt.lastGood.foldl (fun a b => a + b) 0) ∧
        t.gnt.regs.subst * energyDen + t.gnt.substRem =
          s.gnt.regs.subst * energyDen + s.gnt.substRem + s.gnt.lastGood.foldl (fun a b => a + b) 0 ∧
        t.gnt.regs = { s.gnt.regs with subst := t.gnt.regs.subst } ∧ t.gnt.window = s.gnt.window + 1) ∧
      (s.gnt.mode ≠ .overtemp → a.valid = false → s.gnt.lastGood.length ≠ 16 ∨ 16000 ≤ s.gnt.window →
        t.gnt.mode = .unmeasured ∧ Enters s.gnt t.gnt 0 ∧
        t.gnt.regs = { s.gnt.regs with unmeas := s.gnt.regs.unmeas + 1 }) ∧
      (s.gnt.mode = .overtemp → t.gnt.mode = .overtemp ∧ Enters s.gnt t.gnt 0 ∧
        t.gnt.regs = { s.gnt.regs with unmeas := s.gnt.regs.unmeas + 1 }) ∧
      t.gnt.a1 = (if x.input.val = s.gnt.auxMux ∧ x.input.val = 1 ∧ 3 ≤ s.gnt.auxCount ∧ s.gnt.settle = 0 then x.value
        else s.gnt.a1)) ∧
  (∀ s : State, s.gnt.powered = true → s.gnt.mode = .substituting → 16000 ≤ s.gnt.window → Nexts .substitutionEnd s fun t =>
    MeterGoes s t ∧ t.gnt = { s.gnt with mode := .unmeasured })

/-- From R374, R375: two V readings below 40 V halt the meter after a POWER_FAIL record; two hot A0 groups stop measuring and two
cool ones write OVERTEMP and TEMP_NORMAL and resume after a synchronising reset. -/
def Obligations.MeterStops : Prop :=
  (∀ (s : State) (v i : BitVec 24) (vo io : Bool) (x : AuxSample), s.gnt.powered = true → s.gnt.auxCount < 15 →
    Good s.gnt → 1 ≤ s.gnt.lowV → s.gnt.cal.volts (meterCode v vo) < 2 ^ 52 → Nexts (.meterSample v i vo io x) s fun t =>
      t = { s with dev := t.dev, gnt := t.gnt } ∧ t.gnt.powered = false ∧ t.gnt.queued = [] ∧ t.gnt.writing = none ∧
      (∀ w, s.gnt.writing = some w → w.record ∈ t.gnt.journal) ∧
      (∃ r, t.gnt.journal.getLast? = some r ∧ r.kind = 3 ∧ r.code = 2 ∧ r.seq = t.gnt.seq ∧
        leNat (r.body.take 8) = Nat.min (s.gnt.regs.total + s.gnt.pendingE - t.gnt.saved.total) (2 ^ 63 - 1) ∧
        (s.gnt.mode = .overtemp → leNat (r.body.drop 8) = unsigned s.gnt.stopA0 64)) ∧
      t.gnt.regs = s.gnt.regs ∧ t.gnt.cal = s.gnt.cal ∧ t.gnt.audit = s.gnt.audit) ∧
  (∀ (s : State) (v i : BitVec 24) (vo io : Bool) (x : AuxSample), s.gnt.powered = true → s.gnt.settle = 0 →
    x.input.val = 0 → s.gnt.auxMux = 0 → s.gnt.auxCount = 15 → s.gnt.lowV = 0 → s.gnt.mode ≠ .overtemp →
    1 ≤ s.gnt.a0Hot → 2000 ≤ groupReading (s.gnt.auxGroup ++ [x.value]) → Nexts (.meterSample v i vo io x) s fun t =>
      MeterGoes s t ∧ t.gnt.mode = .overtemp ∧ t.gnt.stopA0 = groupReading (s.gnt.auxGroup ++ [x.value]) ∧
      t.gnt.pendingE = s.gnt.pendingE ∧ t.gnt.queued = s.gnt.queued.filter (fun q => !q.ofSet) ∧
      t.gnt.writing = s.gnt.writing ∧ t.gnt.auxMux = 1 ∧ t.gnt.auxCount = 0 ∧
      (s.dev.live = true → t.dev.err.board.contains 0x46 = true)) ∧
  (∀ (s : State) (v i : BitVec 24) (vo io : Bool) (x : AuxSample), s.gnt.powered = true → s.gnt.settle = 0 →
    x.input.val = 0 → s.gnt.auxMux = 0 → s.gnt.auxCount = 15 → s.gnt.lowV = 0 → s.gnt.mode = .overtemp →
    1 ≤ s.gnt.a0Cool → groupReading (s.gnt.auxGroup ++ [x.value]) ≤ 1840 → s.gnt.writing = none →
    Nexts (.meterSample v i vo io x) s fun t => MeterGoes s t ∧ t.gnt.mode ≠ .overtemp ∧
      Pend t.gnt = s.gnt.eventReq 0x09 (unsigned s.gnt.stopA0 64) ::
        s.gnt.eventReq 0x0A (unsigned (groupReading (s.gnt.auxGroup ++ [x.value])) 64) :: s.gnt.queued ∧
      t.gnt.sinceSet = 0 ∧ (Good s.gnt → t.gnt.settle = 3) ∧ (s.dev.live = true → t.dev.err.board.contains 0x46 = false)) ∧
  (∀ (s : State) (q : JReq), s.gnt.powered = true → s.gnt.mode = .overtemp → s.gnt.writing = none →
    s.gnt.queue q = { s.gnt with queued := s.gnt.queued ++ [q] })

/-- From R360, R366, R368, R373, R376, R377, Table 19.7: breaks, power-up, the watchdog and the seal. -/
def Obligations.MeterBreaksAndRestarts : Prop :=
  (∀ (s : State) (p : Fin 2), s.gnt.powered = true → s.gnt.openPairs.testBit p.val = false → Nexts (.senseOpenDetect p) s fun t =>
    MeterGoes s t ∧ t.gnt.openPairs = s.gnt.openPairs + 2 ^ p.val ∧ (∀ x ∈ t.gnt.delayed, x.valid = false) ∧
      t.gnt.delayed.length = s.gnt.delayed.length ∧
      t.gnt.mode = (if s.gnt.mode = .overtemp then .overtemp
        else if s.gnt.lastGood.length = 16 ∧ s.gnt.window < 16000 then .substituting else .unmeasured) ∧
      Pend t.gnt = Pend s.gnt ++ [s.gnt.eventReq 0x03 p.val] ∧ t.gnt.regs = s.gnt.regs ∧ t.gnt.pendingE = s.gnt.pendingE ∧
      t.gnt.journal = s.gnt.journal) ∧
  (∀ (s : State) (p : Fin 2), s.gnt.powered = true → s.gnt.openPairs.testBit p.val = true → Nexts (.senseClosed p) s fun t =>
    MeterGoes s t ∧ t.gnt.openPairs = s.gnt.openPairs - 2 ^ p.val ∧ t.gnt.settle = 3 ∧ t.gnt.lastGood = [] ∧
      t.gnt.regs = { s.gnt.regs with breaks := Nat.min (s.gnt.regs.breaks + 1) (2 ^ 32 - 1) } ∧
      Pend t.gnt = Pend s.gnt ++ [s.gnt.eventReq 0x04 p.val] ∧ t.gnt.pendingE = s.gnt.pendingE ∧
      t.gnt.journal = s.gnt.journal) ∧
  (∀ (s : State) (cover trace : Bool), s.dev.pwr.v54 = false → exec (.meterPowerUp cover trace) s = .next s) ∧
  (∀ (s : State) (cover trace : Bool), s.dev.pwr.v54 = true → s.gnt.powered = false → Nexts (.meterPowerUp cover trace) s fun t => MeterGoes s t ∧
    t.gnt.powered = true ∧ t.gnt.settle = 3 ∧ t.gnt.openPairs = 0 ∧ t.gnt.pendingE = 0 ∧ t.gnt.coverOpen = cover ∧
      t.gnt.traceBroken = trace ∧ t.gnt.journal = s.gnt.journal ∧ t.gnt.seq = s.gnt.seq ∧ t.gnt.audit = s.gnt.audit ∧
      t.gnt.cal = s.gnt.cal ∧ t.gnt.met = s.gnt.met ∧ t.gnt.regs.tenants = s.gnt.saved.tenants ∧
      t.gnt.regs.powerUps = Nat.min (s.gnt.saved.powerUps + 1) (2 ^ 32 - 1) ∧
      (Pend t.gnt).head? = some ({ s.gnt with flagsSeen := 0 }.eventReq 0x01 t.gnt.regs.powerUps) ∧
      (∀ r, s.gnt.journal.getLast? = some r → r.kind = 3 → r.code = 2 →
        t.gnt.regs.total = s.gnt.saved.total + leNat (r.body.take 8) ∧
        t.gnt.regs.unattr = s.gnt.saved.unattr + leNat (r.body.take 8)) ∧
      (∀ r, s.gnt.journal.getLast? = some r → r.kind = 5 → t.gnt.regs.total = s.gnt.saved.total ∧
        t.gnt.regs.unattr = s.gnt.saved.unattr)) ∧
  (∀ s : State, s.gnt.powered = true → Nexts (.meterWatchdog true) s fun t => MeterGoes s t ∧ t.gnt.settle = 3 ∧
    t.gnt.regs = { s.gnt.regs with watchdogs := Nat.min (s.gnt.regs.watchdogs + 1) (2 ^ 32 - 1) } ∧
    t.gnt.pendingE = s.gnt.pendingE ∧ (∀ x ∈ t.gnt.delayed, x.valid = false) ∧
    Pend t.gnt = Pend s.gnt ++ [s.gnt.eventReq 0x0B t.gnt.regs.watchdogs] ∧ t.gnt.journal = s.gnt.journal) ∧
  (∀ s : State, s.gnt.powered = true → Nexts (.meterWatchdog false) s fun t => MeterGoes s t ∧ t.gnt.settle = 3 ∧
    t.gnt.regs = { s.gnt.restored with watchdogs := Nat.min (s.gnt.saved.watchdogs + 1) (2 ^ 32 - 1) } ∧
    t.gnt.pendingE = 0 ∧ Pend t.gnt = Pend s.gnt ++ [s.gnt.eventReq 0x0B t.gnt.regs.watchdogs]) ∧
  (∀ (s : State) (ch : SealChange) (c b : Bool) (q : List JReq), s.gnt.powered = true → (c, b, q) = (match ch with
      | .coverOpen => (true, s.gnt.traceBroken, if s.gnt.coverOpen then [] else [s.gnt.eventReq 0x05 0])
      | .coverClosed => (false, s.gnt.traceBroken, if s.gnt.coverOpen then [s.gnt.eventReq 0x06 0] else [])
      | .traceBroken => (s.gnt.coverOpen, true, if s.gnt.traceBroken then [] else [s.gnt.eventReq 0x07 0])
      | .traceIntact => (s.gnt.coverOpen, false, if s.gnt.traceBroken then [s.gnt.eventReq 0x08 0] else [])) →
    Nexts (.coverSwitchChange ch) s fun t => MeterGoes s t ∧ t.gnt.coverOpen = c ∧ t.gnt.traceBroken = b ∧
      Pend t.gnt = Pend s.gnt ++ q ∧ t.gnt.regs = s.gnt.regs ∧ t.gnt.journal = s.gnt.journal ∧ t.gnt.mode = s.gnt.mode)

/-- From R371, R372, R378, R379, Table 19.5: sets, record writes, the answers of the meter port and changes of parameters. -/
def Obligations.JournalAndPort : Prop :=
  (∀ s : State, s.gnt.powered = true → s.gnt.cal.setPeriod * 16000 ≤ s.gnt.sinceSet → Nexts .journalSetDue s fun t =>
    MeterGoes s t ∧ t.gnt.sinceSet = 0 ∧ t.gnt.regs = s.gnt.regs ∧ t.gnt.journal = s.gnt.journal ∧
      (s.gnt.mode = .overtemp → t.gnt = { s.gnt with sinceSet := 0 }) ∧
      (s.gnt.mode ≠ .overtemp → (Pend t.gnt).map (fun q => (q.kind, q.code)) = (Pend s.gnt).map (fun q => (q.kind, q.code)) ++
          [(1, 0), (2, 0), (2, 20), (2, 40), (2, 60), (5, 0)] ∧
        (∀ q ∈ (Pend t.gnt).drop (Pend s.gnt).length, q.set = (s.gnt.setNo + 1) % 2 ^ 32) ∧
        ((Pend t.gnt).getLast?.map (fun q => q.regs)) = some s.gnt.regs) ∧
      (s.gnt.mode ≠ .overtemp → Pend s.gnt = [] → ∃ w, t.gnt.writing = some w ∧ w.req.kind = 1 ∧ MadeOf s.gnt w.req w.record)) ∧
  (∀ (s : State) (w : JWrite), s.gnt.powered = true → s.gnt.writing = some w → Nexts (.journalWriteDone true) s fun t =>
    t = { s with dev := t.dev, gnt := t.gnt } ∧ t.gnt.journal.getLast? = some w.record ∧ t.gnt.seq = w.record.seq ∧
      t.gnt.journal.length ≤ 1048576 ∧ (∀ r ∈ t.gnt.journal, r = w.record ∨ r ∈ s.gnt.journal) ∧
      t.gnt.lastDigest = beNat (sha384 w.record.bytes) ∧ Pend t.gnt = s.gnt.queued ∧ t.gnt.regs = s.gnt.regs ∧
      (w.req.kind = 5 → t.gnt.saved = w.req.regs ∧ t.gnt.setNo = w.req.set ∧ t.gnt.setFailed = false) ∧
      (w.req.kind ≠ 5 → t.gnt.saved = s.gnt.saved ∧ t.gnt.setNo = s.gnt.setNo) ∧
      (∀ w', t.gnt.writing = some w' → MadeOf t.gnt w'.req w'.record) ∧
      (s.dev.live = true → (∀ r ∈ s.gnt.journal, r.seq ≤ s.gnt.seq) → w.record.seq = s.gnt.seq + 1 →
        t.dev.mirror.lastRecord = w.record.bytes ∧ t.dev.mirror.recordSeq = w.record.seq)) ∧
  (∀ (s : State) (w : JWrite), s.gnt.powered = true → s.gnt.writing = some w → s.gnt.mode ≠ .overtemp →
    s.gnt.retried = false → Nexts (.journalWriteDone false) s fun t => MeterGoes s t ∧ t.gnt = { s.gnt with retried := true }) ∧
  (∀ (s : State) (w : JWrite), s.gnt.powered = true → s.gnt.writing = some w → s.gnt.mode ≠ .overtemp →
    s.gnt.retried = true → Nexts (.journalWriteDone false) s fun t => MeterGoes s t ∧ t.gnt.setFailed = true ∧
      t.gnt.journal = s.gnt.journal ∧ Pend t.gnt = (if w.req.ofSet then s.gnt.queued.filter (fun q => !q.ofSet) else s.gnt.queued) ∧
      (s.dev.live = true → s.gnt.setFailed = false → t.dev.err.board.contains 0x47 = true)) ∧
  (∀ (s : State) (n : BitVec 56), PortAnswers s → Nexts (.readRecord n) s fun t =>
    (∃ b, t = { s with meterOut := s.meterOut ++ [b] } ∧ b.length = 256 ∧
      ((∀ r ∈ s.gnt.journal, r.seq ≠ n.toNat) → b = List.replicate 256 0xFF) ∧
      (∀ r, s.gnt.journal.find? (fun r => r.seq == n.toNat) = some r → b = r.bytes ∧ b.take 252 = r.front ∧
        leNat (b.drop 252) = crc32 r.front))) ∧
  (∀ s : State, PortAnswers s → Nexts .readLive s fun t =>
    (∃ b, t = { s with meterOut := s.meterOut ++ [b] } ∧ b.length = 64 ∧ leNat ((b.drop 12).take 8) = s.gnt.met / 16 % 2 ^ 64 ∧
      leNat ((b.drop 20).take 8) = Nat.min s.gnt.regs.total (2 ^ 63 - 1) ∧
      leNat ((b.drop 28).take 8) = Nat.min s.gnt.pendingE (2 ^ 63 - 1) ∧
      leNat ((b.drop 36).take 4) = s.gnt.audit % 2 ^ 32 ∧ leNat ((b.drop 40).take 8) = s.gnt.seq % 2 ^ 64 ∧
      b.drop 48 = List.replicate 16 0)) ∧
  (∀ s : State, PortAnswers s → Nexts .readPubkey s fun t =>
    (∃ b, t = { s with meterOut := s.meterOut ++ [b] } ∧ b.length = 96 ∧ beNat b = Config.meterKey % 2 ^ 768)) ∧
  (∀ (s : State) (b sig : List Byte) (c : Cal), PortAnswers s → calOf b = some c → Accepted s.gnt b sig →
    s.gnt.mode ≠ .overtemp → Nexts (.writeCal b sig) s fun t => t = { s with dev := t.dev, gnt := t.gnt, meterOut := t.meterOut } ∧
      t.meterOut = s.meterOut ++ [[0]] ∧ t.gnt.audit = s.gnt.audit + 1 ∧ t.gnt.cal = c ∧ t.gnt.settle = 3 ∧
      t.gnt.regs = s.gnt.regs ∧ t.gnt.journal = s.gnt.journal ∧ t.gnt.fwVersion = s.gnt.fwVersion ∧
      Pend t.gnt = Pend s.gnt ++
        [{ kind := 4, code := 0, flags := s.gnt.flagsSeen, body := s.gnt.cal.bytes ++ c.bytes }] ++ s.gnt.setReqs) ∧
  (∀ (s : State) (b sig : List Byte), PortAnswers s → calOf b = none ∨ ¬ Accepted s.gnt b sig →
    Nexts (.writeCal b sig) s fun t => t = { s with dev := t.dev, meterOut := s.meterOut ++ [[1]] }) ∧
  (∀ (s : State) (b sig : List Byte) (v : Nat), PortAnswers s → b.length + sig.length ≤ 1048576 → Accepted s.gnt b sig →
    s.gnt.mode ≠ .overtemp → v = Config.imageVersion 2 b % 2 ^ 32 → Nexts (.writeFw b sig) s fun t =>
      t = { s with dev := t.dev, gnt := t.gnt, meterOut := t.meterOut } ∧ t.meterOut = s.meterOut ++ [[0]] ∧
      t.gnt.audit = s.gnt.audit + 1 ∧ t.gnt.cal = s.gnt.cal ∧ t.gnt.settle = s.gnt.settle ∧ t.gnt.regs = s.gnt.regs ∧
      t.gnt.journal = s.gnt.journal ∧ t.gnt.fwVersion = v ∧
      Pend t.gnt = Pend s.gnt ++
        [{ kind := 4, code := 1, flags := s.gnt.flagsSeen, body := leBytes s.gnt.fwVersion 4 ++ leBytes v 4 }] ++ s.gnt.setReqs) ∧
  (∀ (s : State) (b sig : List Byte), PortAnswers s → 1048576 < b.length + sig.length ∨ ¬ Accepted s.gnt b sig →
    Nexts (.writeFw b sig) s fun t => t = { s with dev := t.dev, meterOut := s.meterOut ++ [[1]] }) ∧
  (∀ (s : State) (n : BitVec 56) (b sig : List Byte), ¬ PortAnswers s → exec (.readRecord n) s = .next s ∧
    exec .readLive s = .next s ∧ exec .readPubkey s = .next s ∧ exec (.writeCal b sig) s = .next s ∧
    exec (.writeFw b sig) s = .next s)

/-- From R369: a report in the chain within 20 ms apportions the pending energy; any other valid one sends it to UNATTR_WH. -/
def Obligations.Apportionment : Prop :=
  ∀ (s : State) (r : OccReport) (rest : List OccReport) (e base b0 w iv : Nat) (tot : Nat → Nat),
    s.occChan = r :: rest → s.gnt.powered = true → e = s.gnt.pendingE → iv = s.gnt.met - s.gnt.reportAt →
    Nearest b0 (s.gnt.cal.baseMw * iv * 625 * 2 ^ 32) 36000000000000 → base = Nat.min e b0 → w = r.weights.sum →
    (∀ n, tot n = (e - base) * r.weights.getD n 0 / w) → Nexts .occupancyReport s fun t =>
      t = { s with dev := t.dev, gnt := t.gnt, occChan := rest } ∧
      (r.weights.length ≠ 64 ∨ (r.noTenant = true ∧ w ≠ 0) → t.gnt = s.gnt) ∧
      (r.weights.length = 64 → (r.noTenant = true → w = 0) → t.gnt.pendingE = 0 ∧ t.gnt.lastReport = some r.seq ∧
        t.gnt.reportAt = s.gnt.met ∧ t.gnt.regs.total = s.gnt.regs.total + e ∧
        t.gnt = { s.gnt with regs := t.gnt.regs, pendingE := 0, lastReport := t.gnt.lastReport, reportAt := t.gnt.reportAt
                             testNow := r.test } ∧
        (∀ k, s.gnt.lastReport = some k → (k + 1) % 2 ^ 32 = r.seq → iv ≤ 320 →
          t.gnt.regs.missed = s.gnt.regs.missed ∧ t.gnt.regs.test = s.gnt.regs.test + (if r.test then e else 0) ∧
          (w = 0 → t.gnt.regs.unattr = s.gnt.regs.unattr + e ∧ t.gnt.regs.tenants = s.gnt.regs.tenants) ∧
          (w ≠ 0 → (∀ n < 64, t.gnt.regs.tenants.get n 0 = s.gnt.regs.tenants.get n 0 + tot n) ∧
            t.gnt.regs.unattr = s.gnt.regs.unattr + base + ((e - base) - ((List.range 64).map tot).sum))) ∧
        (s.gnt.lastReport = none ∨ (∃ k, s.gnt.lastReport = some k ∧ (k + 1) % 2 ^ 32 ≠ r.seq) ∨ 320 < iv →
          t.gnt.regs = { s.gnt.regs with total := s.gnt.regs.total + e, unattr := s.gnt.regs.unattr + e
                                         missed := Nat.min (s.gnt.regs.missed + 1) (2 ^ 32 - 1) }))

/-- From R94, R380, Tables 19.4 and 19.8: the hub sends a report each interval; a mirror frame fills the mirror objects; a silent
mirror channel is reported. -/
def Obligations.OccupancyAndMirror : Prop :=
  (∀ s : State, s.dev.live = true → s.dev.mirror.occFrom + 250000 ≤ s.dev.pwr.tick → Nexts .occupancyReportSend s fun t =>
    (∃ r, t.occChan = s.occChan ++ [r] ∧ r.seq = s.dev.mirror.occSeq ∧ r.tick = s.dev.stamp 128 ∧ r.weights.length = 64 ∧
      r.test = s.dev.err.testSeen ∧ r.noTenant = (!s.dev.boot.complete || s.dev.boot.beyby) ∧
      (r.noTenant = true → r.weights = List.replicate 64 0) ∧
      (r.noTenant = false → s.dev.tiles = [] →
        ∀ n < 64, r.weights.getD n 0 = s.dev.mirror.occAcc.get n 0 % 2 ^ 32)) ∧
    t = { s with occChan := t.occChan, dev := { s.dev with
      mirror := { s.dev.mirror with occSeq := (s.dev.mirror.occSeq + 1) % 2 ^ 32, occFrom := s.dev.pwr.tick, occAcc := [] }
      err := { s.dev.err with testSeen := s.dev.err.unlockUntil.isSome } } }) ∧
  (∀ s : State, s.gnt.powered = true → s.dev.live = true → (∀ x, s.gnt.lastFrame = some x → x + 16 ≤ s.gnt.met) →
    Nexts .mirrorFrameSend s fun t => t = { s with dev := t.dev, gnt := { s.gnt with lastFrame := some s.gnt.met } } ∧
    t.dev.mirror = { s.dev.mirror with
      st := (match s.gnt.mode with
        | .measuring => 1
        | .substituting => 2
        | .unmeasured => 3
        | .overtemp => 4)
      regs := s.gnt.regs, pendingE := s.gnt.pendingE, live := s.gnt.liveValues, audit := s.gnt.audit
      sealBits := s.gnt.coverOpen.toNat + 2 * s.gnt.traceBroken.toNat, cal := s.gnt.cal, fwVersion := s.gnt.fwVersion
      lastFrame := s.dev.pwr.tick } ∧
    (∀ f ∈ s.gnt.faults, t.dev.err.board.contains f.1 = f.2.1) ∧ t.dev.err.board.contains 0x48 = false ∧
    ButReport { s.dev with mirror := t.dev.mirror, err := { s.dev.err with board := t.dev.err.board } } t.dev) ∧
  (∀ s : State, s.dev.live = true → s.dev.pwr.v54 = true → s.dev.mirror.lastFrame + 250000 ≤ s.dev.pwr.tick →
    Nexts .gntMirrorLost s fun t => OnlyDev s t ∧ t.dev.mirror = { s.dev.mirror with st := 0 } ∧
      t.dev.err.board.contains 0x48 = true ∧
      ButReport { s.dev with mirror := t.dev.mirror, err := { s.dev.err with board := t.dev.err.board } } t.dev)

/-! ### Errors, alert, test perturbation -/

namespace Sys2Proof.Stm

open Sys2Proof.Machine

/-- The unlock has ended (R396): every perturbation object reads its default, no flip stays armed, no other object differs. -/
def Relocked (s t : State) : Prop :=
  t.dev.err.unlockUntil = none ∧ t.dev.err.board.contains 0x49 = false ∧ t.dev.mem = { s.dev.mem with armed := [] } ∧
    (∀ k : TileId, t.dev.tile k.val = { s.dev.tile k.val with tbArm := [], asArm := [] }) ∧
    (∀ i u n, 0xD010 ≤ i → i ≤ 0xD015 → u < 256 → n < 256 →
      t.dev.obj i u n = objDefault s.dev.pwr.straps s.dev.boot.active i u n) ∧
    (∀ i u n, i < 0xD010 ∨ 0xD015 < i → u < 256 → n < 256 → t.dev.obj i u n = s.dev.obj i u n) ∧
    t = { s with dev := { s.dev with
      err := { s.dev.err with unlockUntil := none, board := t.dev.err.board }, dict := t.dev.dict
      mem := t.dev.mem, tiles := t.dev.tiles } }

/-- The value of PERT_ECC_FLIP with its fields (Table 20.9). -/
def flipValue (store bits unit off : Nat) : Nat := store * 2 ^ 126 + bits * 2 ^ 124 + unit * 2 ^ 112 + off

end Sys2Proof.Stm

/-- From R384 to R388, R396 to R398, R71, Tables 20.8 and 20.9: error rings start, stop and send their message by time; units are
acknowledged; the test unlock starts and ends; flips are armed for the next write of their word; a peak starts again. -/
def Obligations.ErrorControl : Prop :=
  (∀ (s : State) (n : FnId) (irq : Bool), s.dev.serving = true → (s.dev.errRing n.val).st ≠ .enabled →
    s.dev.obj 0xA000 1 n.val ≠ 0 → n.val ≠ 0 ∨ s.dev.err.held = [] → Nexts (.errRingEnable n irq) s fun t =>
      t.dev.errRing n.val = { st := .enabled, irq := irq, base := s.dev.obj 0xA000 1 n.val, size := s.dev.obj 0xA000 2 n.val
                              pasid := s.dev.obj 0xA000 3 n.val, seq := 0, uncovered := none, waiting := [] } ∧
      (∀ m : FnId, m ≠ n → t.dev.errRing m.val = s.dev.errRing m.val) ∧
      t = { s with dev := { s.dev with err := { s.dev.err with rings := t.dev.err.rings } } }) ∧
  (∀ (s : State) (irq : Bool), s.dev.serving = true → (s.dev.errRing 0).st ≠ .enabled → s.dev.obj 0xA000 1 0 ≠ 0 →
    Nexts (.errRingEnable 0 irq) s fun t => t.dev.err.held = [] ∧ OnlyDev s t ∧
      ButReport { s.dev with err := { s.dev.err with held := [] } } t.dev) ∧
  (∀ (s : State) (n : FnId) (irq : Bool), s.dev.serving = true → (s.dev.errRing n.val).st ≠ .enabled →
    s.dev.obj 0xA000 1 n.val = 0 → Nexts (.errRingEnable n irq) s fun t =>
      t.dev.errRing n.val = { s.dev.errRing n.val with st := .error, waiting := [] } ∧
      t = { s with dev := { s.dev with err := { s.dev.err with rings := t.dev.err.rings } } }) ∧
  (∀ (s : State) (n : FnId) (irq : Bool), s.dev.serving = true → (s.dev.errRing n.val).st = .enabled →
    Nexts (.errRingEnable n irq) s fun t => t.dev.errRing n.val = { s.dev.errRing n.val with irq := irq } ∧
      t = { s with dev := { s.dev with err := { s.dev.err with rings := t.dev.err.rings } } }) ∧
  (∀ (s : State) (n : FnId), s.dev.serving = true → Nexts (.errRingDisable n) s fun t =>
    t.dev.errRing n.val = { s.dev.errRing n.val with st := .disabled, waiting := [], uncovered := none } ∧
      (∀ m : FnId, m ≠ n → t.dev.errRing m.val = s.dev.errRing m.val) ∧
      t.dev.obj 0xA004 0 n.val = Nat.min (s.dev.obj 0xA004 0 n.val + (s.dev.errRing n.val).waiting.length) (2 ^ 32 - 1) ∧
      t = { s with dev := { s.dev with
        err := { s.dev.err with rings := t.dev.err.rings }, dict := t.dev.dict, stu := t.dev.stu } }) ∧
  (∀ (s : State) (n : FnId) (u : Nat), s.dev.serving = true → (s.dev.errRing n.val).irq = true →
    (s.dev.errRing n.val).uncovered = some u → u + s.dev.obj 0xA005 0 n.val ≤ s.dev.pwr.tick → Nexts (.errIrqTimer n) s fun t =>
      t.dev.errRing n.val = { s.dev.errRing n.val with uncovered := none } ∧
      ((s.dev.fn n.val).msixEn = true → (s.dev.fn n.val).unmasked.testBit 1 = true → Emits s t (.msix n.val 1) ∧
        t.dev.fns = s.dev.fns) ∧
      ((s.dev.fn n.val).msixEn = true → (s.dev.fn n.val).unmasked.testBit 1 = false → t.dev.emits = s.dev.emits ∧
        (t.dev.fn n.val).pba.testBit 1 = true) ∧
      ((s.dev.fn n.val).msixEn = false → t.dev.emits = s.dev.emits ∧ t.dev.fns = s.dev.fns) ∧
      t = { s with dev := { s.dev with
        err := { s.dev.err with rings := t.dev.err.rings }, fns := t.dev.fns, emits := t.dev.emits } }) ∧
  (∀ s : State, s.dev.serving = true →
    exec .errAlertClear s = .next { s with dev := { s.dev with err := { s.dev.err with unit := [] } } }) ∧
  (∀ s : State, s.dev.serving = true → s.dev.obj 0x3804 0 0 = 1 → Nexts .testUnlockActivate s fun t =>
    t.dev.err.unlockUntil = some (s.dev.pwr.tick + s.dev.obj 0xD001 0 0) ∧ t.dev.err.testSeen = true ∧
      t.dev.err.board.contains 0x49 = true ∧ OnlyDev s t ∧
      ButReport { s.dev with err := { s.dev.err with
        unlockUntil := t.dev.err.unlockUntil, testSeen := true, board := t.dev.err.board } } t.dev) ∧
  (∀ s : State, s.dev.serving = true → s.dev.obj 0x3804 0 0 ≠ 1 → exec .testUnlockActivate s = .next s) ∧
  (∀ s : State, s.dev.live = true → s.dev.err.unlockUntil ≠ none → Nexts .testUnlockEnd s fun t => Relocked s t) ∧
  (∀ (s : State) (u : Nat), s.dev.live = true → s.dev.err.unlockUntil = some u → u ≤ s.dev.pwr.tick →
    Nexts .testUnlockExpiry s fun t => Relocked s t) ∧
  (∀ (s : State) (u : Nat), s.dev.live = true → s.dev.err.unlockUntil = some u → s.dev.pwr.tick < u →
    exec .testUnlockExpiry s = .next s) ∧
  (∀ (s : State) (v : BitVec 128) (bits off : Nat), s.dev.live = true → s.dev.err.unlockUntil ≠ none → 1 ≤ bits → bits ≤ 2 →
    v.toNat = flipValue 2 bits 0 off → off < s.dev.hbmTop → off < 2 ^ 112 → Nexts (.pertEccFlip v) s fun t =>
      t = { s with dev := { s.dev with mem := { s.dev.mem with
        armed := s.dev.mem.armed.filter (fun a => a.word != off / 64) ++ [⟨off / 64, bits⟩] } } }) ∧
  (∀ (s : State) (v : BitVec 128) (k : TileId) (bits off : Nat), s.dev.live = true → s.dev.err.unlockUntil ≠ none → 1 ≤ bits →
    bits ≤ 2 → v.toNat = flipValue 0 bits k.val off → off < 393216 → s.dev.has k.val = true → Nexts (.pertEccFlip v) s fun t =>
      OnlyTile k s t ∧ t.dev.tile k.val = { s.dev.tile k.val with
        tbArm := (s.dev.tile k.val).tbArm.filter (fun a => a.word != off / 16) ++ [⟨off / 16, bits⟩] }) ∧
  (∀ (s : State) (v : BitVec 128) (k : TileId) (bits off : Nat), s.dev.live = true → s.dev.err.unlockUntil ≠ none → 1 ≤ bits →
    bits ≤ 2 → v.toNat = flipValue 1 bits k.val off → off < 2097152 → s.dev.has k.val = true → Nexts (.pertEccFlip v) s fun t =>
      OnlyTile k s t ∧ t.dev.tile k.val = { s.dev.tile k.val with
        asArm := (s.dev.tile k.val).asArm.filter (fun a => a.word != off / 8) ++ [⟨off / 8, bits⟩] }) ∧
  (∀ (s : State) (v : BitVec 128), s.dev.err.unlockUntil = none → exec (.pertEccFlip v) s = .next s) ∧
  (∀ (m : Mem) (l : Nat) (bs : List Byte) (a : Arm), bs.length = 64 → m.armed.find? (fun a => a.word == l) = some a →
    (m.writeMarks (64 * l) bs).1.mark l = some (if a.bits = 1 then .correctable else .uncorrectable) ∧
      (∀ b ∈ (m.writeMarks (64 * l) bs).1.armed, b.word ≠ l)) ∧
  (∀ (s : State) (x : Die), s.dev.live = true → s.dev.boot.beyby = false → -32768 ≤ (s.dev.die (dieNum x)).sample →
    (s.dev.die (dieNum x)).sample < 32768 → Nexts (.thmPeakTemp x) s fun t =>
      signed (t.dev.obj 0x2032 (dieNum x + 1) 0) 16 = (s.dev.die (dieNum x)).sample ∧
      t = { s with dev := { s.dev with dict := t.dev.dict } } ∧
      (∀ i u n, u < 256 → n < 256 → (i, u, n) ≠ (0x2032, dieNum x + 1, 0) → t.dev.obj i u n = s.dev.obj i u n))

/-- From R382, R385, R386, R387, Table 20.3: a record counts once in the counters of every ring it goes to, whatever its ring
does, and touches nothing else; an entry goes to the slot of its SEQ with one write, and a message covers it. -/
def Obligations.RecordsAndEntries : Prop :=
  (∀ (d : Dev) (r : Rec), r.tenant < 64 → r.code < 256 →
    (r.code = 0x02 ∨ r.code = 0x26 → ∀ n, (d.errRing n).st ≠ .enabled ∧ (d.errRing n).waiting = []) →
    ButReport d (d.report r) ∧
    (pathEr r.code = true → (d.report r).obj 0xA010 r.code r.tenant =
      Nat.min (d.obj 0xA010 r.code r.tenant + 1) (2 ^ 32 - 1)) ∧
    (pathEr0 r.code = true → (d.report r).obj 0xA010 r.code 0 = Nat.min (d.obj 0xA010 r.code 0 + 1) (2 ^ 32 - 1)) ∧
    (pathEr r.code = false → pathEr0 r.code = false → d.report r = d)) ∧
  (∀ (d d1 d2 : Dev) (n e q : Nat) (ps : List (Nat × Nat × Nat)), (d.errRing n).waiting = [e] →
    q = (if ((d.errRing n).seq + 1) % 2 ^ 32 = 0 then 1 else ((d.errRing n).seq + 1) % 2 ^ 32) →
    d.translateSpan n (d.errRing n).pasid (((d.errRing n).base + 64 * (q % 2 ^ (d.errRing n).size)) % 2 ^ 64) 64 1
      { source := 0x8A, tag := n } = (some ps, d1) → d1.ownOkAll n ps true = (true, d2) →
    (d.errWrite n).mem =
      ((d2.onBus n (d.errRing n).pasid true ps).writePieces ps (leBytes (e + q * 2 ^ 416) 64)).1.mem ∧
    ((d.errWrite n).errRing n).seq = q ∧ ((d.errWrite n).errRing n).waiting = [] ∧
    ((d.errRing n).irq = true → d.obj 0xA005 0 n = 0 → ((d.errWrite n).errRing n).uncovered = none ∧
      ((d.fn n).msixEn = true → (d.fn n).unmasked.testBit 1 = true → (d.errWrite n).emits =
        (d2.onBus n (d.errRing n).pasid true ps).emits ++ [.msix n 1])) ∧
    ((d.errRing n).irq = false ∨ d.obj 0xA005 0 n ≠ 0 → (d.errWrite n).emits =
        (d2.onBus n (d.errRing n).pasid true ps).emits ∧
      ((d.errWrite n).errRing n).uncovered = some ((d.errRing n).uncovered.getD d.pwr.tick))) ∧
  (∀ (d d1 d2 : Dev) (n e q : Nat) (ps : List (Nat × Nat × Nat)), n ≠ 0 → (d.errRing n).waiting = [e] →
    (d.errRing 0).st ≠ .enabled → (d.errRing 0).waiting = [] →
    q = (if ((d.errRing n).seq + 1) % 2 ^ 32 = 0 then 1 else ((d.errRing n).seq + 1) % 2 ^ 32) →
    d.translateSpan n (d.errRing n).pasid (((d.errRing n).base + 64 * (q % 2 ^ (d.errRing n).size)) % 2 ^ 64) 64 1
      { source := 0x8A, tag := n } = (some ps, d1) → d1.ownOkAll n ps true = (false, d2) → n < 64 →
    ((d.errWrite n).errRing n).st = .error ∧ ((d.errWrite n).errRing n).waiting = [] ∧ (d.errWrite n).mem = d2.mem ∧
    (d.errWrite n).obj 0xA004 0 n = Nat.min (d.obj 0xA004 0 n + 2) (2 ^ 32 - 1) ∧
    (d.errWrite n).obj 0x4022 0 n = Nat.min (d.obj 0x4022 0 n + 1) (2 ^ 32 - 1) ∧
    (d.errWrite n).obj 0xA010 0x02 n = Nat.min (d.obj 0xA010 0x02 n + 1) (2 ^ 32 - 1) ∧
    (d.errWrite n).obj 0xA010 0x26 0 = Nat.min (d.obj 0xA010 0x26 0 + 1) (2 ^ 32 - 1))

/-! ### The queue and the whole block -/

namespace Sys2Proof.Stm

open Sys2Proof.Machine

/-- The events of the metrology die itself, its port, and the one report that reaches it. -/
def MeterCommand (c : Instr) : Prop :=
  (∃ a b, c = .meterPowerUp a b) ∨ (∃ v i a b x, c = .meterSample v i a b x) ∨ (∃ p, c = .senseOpenDetect p) ∨
    (∃ p, c = .senseClosed p) ∨ c = .substitutionEnd ∨ c = .occupancyReport ∨ c = .journalSetDue ∨
    (∃ b, c = .journalWriteDone b) ∨ (∃ b, c = .meterWatchdog b) ∨ (∃ x, c = .coverSwitchChange x) ∨
    (∃ b g, c = .writeCal b g) ∨ (∃ b g, c = .writeFw b g)

/-- R370: the tenants' registers and UNATTR_WH add up to TOTAL_WH. -/
def Balanced (r : GntRegs) : Prop := ((List.range 64).map (fun n => r.tenants.get n 0)).sum + r.unattr = r.total

/-- The registers of the meter, those of the latest complete set, and those of every set that waits or is written. -/
def MeterInv (s : State) : Prop :=
  Balanced s.gnt.regs ∧ Balanced s.gnt.saved ∧ ∀ q ∈ Pend s.gnt, q.kind = 5 → Balanced q.regs

end Sys2Proof.Stm

/-- A step takes the command at the front of the queue and runs it on the state with the queue's rest; on an empty queue one
tick of the AON counter passes while its supply is present (the model's choice, log 2). -/
def Obligations.FrontOfTheQueue : Prop :=
  (∀ (c : Instr) (s : State) (rest : List Instr),
    step { s with pending := c :: rest } = exec c { s with pending := rest }) ∧
  (∀ s : State, s.pending = [] → s.dev.pwr.aon = true → step s = .next { s with dev := { s.dev with
    pwr := { s.dev.pwr with tick := (s.dev.pwr.tick + 1) % 2 ^ 64 } } }) ∧
  (∀ s : State, s.pending = [] → s.dev.pwr.aon = false → step s = .next s)

/-- R78, R357: every command answers a next state, and no command but the meter's own and the report of the occupancy channel
changes the metrology die; that report changes its registers of energy only as R369 says, never its calibration, firmware,
journal or audit counter; the queue is never touched. -/
def Obligations.MeterApart : Prop :=
  (∀ (c : Instr) (s : State), ∃ t, exec c s = .next t ∧ t.pending = s.pending ∧
    (¬ MeterCommand c → c ≠ .mirrorFrameSend → t.gnt = s.gnt) ∧
    (c = .mirrorFrameSend → t.gnt = { s.gnt with lastFrame := t.gnt.lastFrame }) ∧
    (c ≠ .occupancyReportSend → c ≠ .occupancyReport → t.occChan = s.occChan)) ∧
  (∀ (s t : State), exec .occupancyReport s = .next t → t.gnt = { s.gnt with
    regs := { s.gnt.regs with
      total := t.gnt.regs.total, unattr := t.gnt.regs.unattr, test := t.gnt.regs.test, tenants := t.gnt.regs.tenants
      missed := t.gnt.regs.missed }
    pendingE := t.gnt.pendingE, lastReport := t.gnt.lastReport, reportAt := t.gnt.reportAt, testNow := t.gnt.testNow })

/-- From R370: every step keeps the sum of the 64 tenant registers and UNATTR_WH equal to TOTAL_WH, in the registers, in the latest
complete set and in every set on its way to the journal. -/
def Obligations.EnergyBalanceKept : Prop := ∀ s t : State, MeterInv s → step s = .next t → MeterInv t

/-- R370 right after reset. -/
def Obligations.EnergyBalanceAtReset : Prop :=
  MeterInv State.reset ∧ State.reset.pending = [] ∧ State.reset.occChan = [] ∧ State.reset.gnt.powered = false ∧
    State.reset.dev.mem.wf = true
end

