-- ==== Sys2Proof/Laws/Maps.lean ====
section
/-! SUPPORT. Laws of maps with natural keys, of byte strings read as numbers, and of bit fields. -/

namespace Sys2Proof

/-! ### Maps -/

@[simp] theorem KMap.find_nil {α : Type} (k : Nat) : KMap.find ([] : KMap α) k = none := rfl

theorem KMap.find_cons {α : Type} (a : Nat) (v : α) (m : KMap α) (k : Nat) :
    KMap.find ((a, v) :: m : KMap α) k = if a = k then some v else KMap.find m k := rfl

@[simp] theorem KMap.find_put_same {α : Type} (m : KMap α) (k : Nat) (v : α) : KMap.find (KMap.put m k v) k = some v := by
  induction m with
  | nil => simp [KMap.put, KMap.find]
  | cons c m ih =>
    obtain ⟨a, w⟩ := c
    by_cases h : a = k
    · simp [KMap.put, KMap.find, h]
    · by_cases h' : k < a <;> simp [KMap.put, KMap.find, h, h', ih]

theorem KMap.find_put_other {α : Type} (m : KMap α) (k j : Nat) (v : α) (h : j ≠ k) :
    KMap.find (KMap.put m k v) j = KMap.find m j := by
  induction m with
  | nil => simp [KMap.put, KMap.find, Ne.symm h]
  | cons c m ih =>
    obtain ⟨a, w⟩ := c
    by_cases h1 : a = k
    · subst h1; simp [KMap.put, KMap.find, Ne.symm h]
    · by_cases h2 : k < a
      · simp [KMap.put, KMap.find, h1, h2, Ne.symm h]
      · simp [KMap.put, KMap.find, h1, h2, ih]

/-- A map after a put, at any key. -/
theorem KMap.find_put {α : Type} (m : KMap α) (k j : Nat) (v : α) :
    KMap.find (KMap.put m k v) j = if j = k then some v else KMap.find m j := by
  by_cases h : j = k
  · simp [h]
  · simp [h, KMap.find_put_other m k j v h]

@[simp] theorem KMap.get_put_same {α : Type} (m : KMap α) (k : Nat) (v d : α) : KMap.get (KMap.put m k v) k d = v := by
  simp [KMap.get]

theorem KMap.get_put_other {α : Type} (m : KMap α) (k j : Nat) (v d : α) (h : j ≠ k) :
    KMap.get (KMap.put m k v) j d = KMap.get m j d := by
  simp [KMap.get, KMap.find_put_other m k j v h]

theorem KMap.get_put {α : Type} (m : KMap α) (k j : Nat) (v d : α) :
    KMap.get (KMap.put m k v) j d = if j = k then v else KMap.get m j d := by
  by_cases h : j = k
  · simp [h]
  · simp [h, KMap.get_put_other m k j v d h]

@[simp] theorem KMap.put_put {α : Type} (m : KMap α) (k : Nat) (v w : α) : KMap.put (KMap.put m k v) k w = KMap.put m k w := by
  induction m with
  | nil => simp [KMap.put]
  | cons c m ih =>
    obtain ⟨a, x⟩ := c
    by_cases h : a = k
    · simp [KMap.put, h]
    · by_cases h' : k < a <;> simp [KMap.put, h, h', ih]

/-- A map with some keys left out: the values of the other keys. -/
theorem KMap.find_filter {α : Type} (m : KMap α) (p : Nat → Bool) (k : Nat) (h : p k = true) :
    KMap.find (m.filter (fun c => p c.1) : KMap α) k = KMap.find m k := by
  induction m with
  | nil => rfl
  | cons c m ih =>
    obtain ⟨a, v⟩ := c
    by_cases hk : a = k
    · subst hk; simp [h, KMap.find]
    · by_cases hp : p a = true
      · simp [hp, KMap.find, hk, ih]
      · simp [hp, KMap.find, hk, ih]

/-- A map with some keys left out: nothing is held under them. -/
theorem KMap.find_filter_none {α : Type} (m : KMap α) (p : Nat → Bool) (k : Nat) (h : p k = false) :
    KMap.find (m.filter (fun c => p c.1) : KMap α) k = none := by
  induction m with
  | nil => rfl
  | cons c m ih =>
    obtain ⟨a, v⟩ := c
    by_cases hp : p a = true
    · have : a ≠ k := by rintro rfl; simp [h] at hp
      simp [hp, KMap.find, this, ih]
    · simp [hp, ih]

@[simp] theorem KMap.find_drop_same {α : Type} (m : KMap α) (k : Nat) : KMap.find (KMap.drop m k) k = none :=
  KMap.find_filter_none m (fun a => a != k) k (by simp)

theorem KMap.find_drop_other {α : Type} (m : KMap α) (k j : Nat) (h : j ≠ k) : KMap.find (KMap.drop m k) j = KMap.find m j :=
  KMap.find_filter m (fun a => a != k) j (by simpa using h)

theorem KMap.find_mapVal {α : Type} (m : KMap α) (f : α → α) (k : Nat) :
    KMap.find (KMap.mapVal m f) k = (KMap.find m k).map f := by
  induction m with
  | nil => rfl
  | cons c m ih =>
    obtain ⟨a, v⟩ := c
    by_cases h : a = k
    · simp [KMap.mapVal, KMap.find, h]
    · simpa [KMap.mapVal, KMap.find, h] using ih

theorem KMap.get_mapVal {α : Type} (m : KMap α) (f : α → α) (k : Nat) (d : α) (h : f d = d) :
    KMap.get (KMap.mapVal m f) k d = f (KMap.get m k d) := by
  simp only [KMap.get, KMap.find_mapVal]
  cases KMap.find m k <;> simp [h]

/-- Every value that a key finds stands in the map. -/
theorem KMap.find_mem {α : Type} {m : KMap α} {k : Nat} {v : α} (h : KMap.find m k = some v) : (k, v) ∈ m := by
  induction m with
  | nil => cases h
  | cons c m ih =>
    obtain ⟨a, w⟩ := c
    by_cases hk : a = k
    · subst hk
      have : w = v := by simpa [KMap.find] using h
      simp [this]
    · exact List.mem_cons_of_mem _ (ih (by simpa [KMap.find, hk] using h))

end Sys2Proof

namespace Sys2Proof.Machine

/-! ### Byte strings -/

@[simp] theorem leBytes_length (n len : Nat) : (leBytes n len).length = len := by
  induction len generalizing n with
  | zero => rfl
  | succ len ih => simp [leBytes, ih]

@[simp] theorem beBytes_length (n len : Nat) : (beBytes n len).length = len := by simp [beBytes]

/-- A number written in `len` bytes reads as its low bits. -/
theorem leNat_leBytes (n len : Nat) : leNat (leBytes n len) = n % 256 ^ len := by
  induction len generalizing n with
  | zero => simp [leBytes, leNat, Nat.mod_one]
  | succ len ih =>
    rw [leBytes, leNat, ih, pow_succ', Nat.mod_mul]
    rfl

theorem beNat_beBytes (n len : Nat) : beNat (beBytes n len) = n % 256 ^ len := by simp [beNat, beBytes, leNat_leBytes]

theorem leNat_lt (b : List Byte) : leNat b < 256 ^ b.length := by
  induction b with
  | nil => simp [leNat]
  | cons x b ih =>
    have := x.isLt
    simp only [leNat, List.length_cons, pow_succ]
    omega

theorem leNat_append (a b : List Byte) : leNat (a ++ b) = leNat a + 256 ^ a.length * leNat b := by
  induction a with
  | nil => simp [leNat]
  | cons x a ih => simp only [List.cons_append, leNat, ih, List.length_cons, pow_succ]; ring

/-- The first bytes of a number written out. -/
theorem take_leBytes (n len k : Nat) (h : k ≤ len) : (leBytes n len).take k = leBytes n k := by
  induction len generalizing n k with
  | zero => have : k = 0 := by omega
            simp [this, leBytes]
  | succ len ih =>
    cases k with
    | zero => simp [leBytes]
    | succ k => simp [leBytes, ih (n / 256) k (by omega)]

/-- The bytes of a number written out, from one on. -/
theorem drop_leBytes (n len k : Nat) : (leBytes n len).drop k = leBytes (n / 256 ^ k) (len - k) := by
  induction len generalizing n k with
  | zero => simp [leBytes]
  | succ len ih =>
    cases k with
    | zero => simp [leBytes]
    | succ k =>
      simp only [leBytes, List.drop_succ_cons, ih]
      rw [Nat.div_div_eq_div_mul, ← Nat.pow_succ', show len + 1 - (k + 1) = len - k by omega]

/-! ### Bit fields -/

theorem bitsAt_eq (n lo w : Nat) : bitsAt n lo w = n / 2 ^ lo % 2 ^ w := by simp [bitsAt, Nat.shiftRight_eq_div_pow]

theorem bitsAt_lt (n lo w : Nat) : bitsAt n lo w < 2 ^ w := Nat.mod_lt _ (by positivity)

@[simp] theorem putBit_testBit_same (n i : Nat) : (putBit n i true).testBit i = true := by simp [putBit]

/-- A number of `w` bits read back from its two's complement encoding. -/
theorem signed_unsigned (x : Int) (w : Nat) (hw : 1 ≤ w) (lo : -(2 ^ (w - 1) : Nat) ≤ x) (hi : x < (2 ^ (w - 1) : Nat)) :
    signed (unsigned x w) w = x := by
  have hp : (2 : Nat) ^ w = 2 ^ (w - 1) + 2 ^ (w - 1) := by
    rw [← two_mul, ← pow_succ', Nat.sub_add_cancel hw]
  have hpos : (0 : Nat) < 2 ^ (w - 1) := by positivity
  have hx : unsigned x w = (if 0 ≤ x then x else x + (2 ^ w : Nat)).toNat := by
    unfold unsigned
    congr 1
    split
    · exact Int.emod_eq_of_lt (by assumption) (by omega)
    · rw [← Int.add_emod_right, Int.emod_eq_of_lt (by omega) (by omega)]
  have hlt : unsigned x w < 2 ^ w := by rw [hx]; split <;> omega
  unfold signed
  rw [Nat.mod_eq_of_lt hlt]
  simp only
  rw [hx]
  split <;> split <;> omega

end Sys2Proof.Machine
end

