-- ==== Sys2Proof/Laws/Memory.lean ====
section
/-! SUPPORT. Laws of memory: what a byte reads as after each operation, and that every operation keeps the canonical form. -/

namespace Sys2Proof.Machine

/-! ### Sparse bytes -/

theorem cellAt_eq (m : List Host.Cell) (a : Nat) : cellAt m a = (KMap.find m a).getD 0 := by
  induction m with
  | nil => rfl
  | cons c m ih =>
    obtain ⟨b, v⟩ := c
    by_cases h : b = a
    · simp [cellAt, KMap.find, h]
    · simp [cellAt, KMap.find, h, ih]

theorem find_append (l r : List Host.Cell) (a : Nat) :
    KMap.find (l ++ r : List Host.Cell) a = (KMap.find l a).or (KMap.find r a) := by
  induction l with
  | nil => simp [KMap.find]
  | cons c l ih =>
    obtain ⟨b, v⟩ := c
    by_cases h : b = a
    · simp [KMap.find, h]
    · simp [KMap.find, h, ih]

theorem listed_ge (a : Nat) (bs : List Byte) : ∀ c ∈ listed a bs, a ≤ c.1 ∧ c.1 < a + bs.length ∧ c.2 ≠ 0 := by
  induction bs generalizing a with
  | nil => simp [listed]
  | cons b bs ih =>
    intro c hc
    rw [listed] at hc
    split at hc
    · obtain ⟨h1, h2, h3⟩ := ih (a + 1) c hc
      simp only [List.length_cons]
      exact ⟨by omega, by omega, h3⟩
    · rename_i hb
      rcases List.mem_cons.mp hc with rfl | hc
      · exact ⟨Nat.le_refl _, by simp, hb⟩
      · obtain ⟨h1, h2, h3⟩ := ih (a + 1) c hc
        simp only [List.length_cons]
        exact ⟨by omega, by omega, h3⟩

theorem find_listed (a : Nat) (bs : List Byte) (x : Nat) :
    (KMap.find (listed a bs) x).getD 0 = if a ≤ x ∧ x < a + bs.length then byteAt bs (x - a) else 0 := by
  induction bs generalizing a with
  | nil =>
    simp [listed]
  | cons b bs ih =>
    have hl : (KMap.find (listed a (b :: bs)) x).getD 0 =
        if a = x then b else (KMap.find (listed (a + 1) bs) x).getD 0 := by
      rw [listed]
      split
      · rename_i hb
        split
        · rename_i hx
          rw [ih, if_neg (by omega), hb]
        · rfl
      · simp only [KMap.find]
        split <;> rfl
    rw [hl, ih]
    simp only [List.length_cons]
    by_cases h1 : a = x
    · subst h1; simp [byteAt]
    · rw [if_neg h1]
      by_cases h2 : a + 1 ≤ x ∧ x < a + 1 + bs.length
      · rw [if_pos h2, if_pos (by omega)]
        obtain ⟨k, rfl⟩ : ∃ k, x = a + 1 + k := ⟨x - (a + 1), by omega⟩
        simp [byteAt, show a + 1 + k - a = k + 1 by omega]
      · rw [if_neg h2, if_neg (by omega)]

/-- A byte after a store: the byte stored there, or the old one. -/
theorem cellAt_write (m : List Host.Cell) (a : Nat) (bs : List Byte) (x : Nat) :
    cellAt (cellsWrite m a bs) x = if a ≤ x ∧ x < a + bs.length then byteAt bs (x - a) else cellAt m x := by
  have hlist := find_listed a bs x
  simp only [cellAt_eq, cellsWrite, find_append]
  by_cases h1 : x < a
  · have e1 : KMap.find (m.filter (fun c => decide (c.1 < a)) : List Host.Cell) x = KMap.find m x :=
      KMap.find_filter m (fun k => decide (k < a)) x (by simpa using h1)
    have e2 : KMap.find (m.filter (fun c => decide (a + bs.length ≤ c.1)) : List Host.Cell) x = none :=
      KMap.find_filter_none m (fun k => decide (a + bs.length ≤ k)) x (by simp; omega)
    have e3 : ∀ y, KMap.find (listed a bs) x ≠ some y := by
      intro y hy
      have := listed_ge a bs _ (KMap.find_mem hy)
      simp only at this
      omega
    have e4 : KMap.find (listed a bs) x = none := Option.eq_none_iff_forall_ne_some.mpr e3
    rw [e1, e2, e4, if_neg (by omega)]
    cases KMap.find m x <;> rfl
  · have e1 : KMap.find (m.filter (fun c => decide (c.1 < a)) : List Host.Cell) x = none :=
      KMap.find_filter_none m (fun k => decide (k < a)) x (by simpa using h1)
    by_cases h2 : x < a + bs.length
    · have e2 : KMap.find (m.filter (fun c => decide (a + bs.length ≤ c.1)) : List Host.Cell) x = none :=
        KMap.find_filter_none m (fun k => decide (a + bs.length ≤ k)) x (by simpa using h2)
      rw [if_pos ⟨by omega, h2⟩] at hlist ⊢
      rw [e1, e2, ← hlist]
      cases KMap.find (listed a bs) x <;> rfl
    · have e2 : KMap.find (m.filter (fun c => decide (a + bs.length ≤ c.1)) : List Host.Cell) x = KMap.find m x :=
        KMap.find_filter m (fun k => decide (a + bs.length ≤ k)) x (by simp; omega)
      have e3 : ∀ y, KMap.find (listed a bs) x ≠ some y := by
        intro y hy
        have := listed_ge a bs _ (KMap.find_mem hy)
        simp only at this
        omega
      have e4 : KMap.find (listed a bs) x = none := Option.eq_none_iff_forall_ne_some.mpr e3
      rw [e1, e2, e4, if_neg (by omega)]
      simp

/-- Bytes read one by one. -/
theorem cellsRead_eq (m : List Host.Cell) (a len : Nat) : cellsRead m a len = (List.range len).map (fun i => cellAt m (a + i)) := by
  unfold cellsRead
  simp only
  refine List.map_congr_left fun i hi => ?_
  have hi := List.mem_range.mp hi
  rw [cellAt_eq, cellAt_eq]
  congr 1
  exact KMap.find_filter m (fun k => decide (a ≤ k) && decide (k < a + len)) (a + i) (by simp; omega)

@[simp] theorem cellsRead_length (m : List Host.Cell) (a len : Nat) : (cellsRead m a len).length = len := by simp [cellsRead]

/-- A read after a store of the same bytes gives them. -/
theorem cellsRead_write (m : List Host.Cell) (a : Nat) (bs : List Byte) : cellsRead (cellsWrite m a bs) a bs.length = bs := by
  rw [cellsRead_eq]
  apply List.ext_getElem
  · simp
  · intro i h1 h2
    simp only [List.getElem_map, List.getElem_range, cellAt_write]
    rw [if_pos (by omega)]
    simp [byteAt, h2]

/-! ### The canonical form -/

/-- The canonical form, said of all entries at once. -/
theorem cellsWf_iff (m : List Host.Cell) : cellsWf m = true ↔ m.Pairwise (fun c e => c.1 < e.1) ∧ ∀ c ∈ m, c.2 ≠ 0 := by
  induction m with
  | nil => simp [cellsWf]
  | cons c m ih =>
    obtain ⟨a, b⟩ := c
    cases m with
    | nil => simp [cellsWf]
    | cons e m =>
      obtain ⟨a', b'⟩ := e
      have hstep : cellsWf ((a, b) :: (a', b') :: m) = (b != 0 && decide (a < a') && cellsWf ((a', b') :: m)) := rfl
      rw [hstep, Bool.and_eq_true, Bool.and_eq_true, ih]
      simp only [List.pairwise_cons, List.forall_mem_cons, bne_iff_ne, ne_eq, decide_eq_true_eq]
      constructor
      · rintro ⟨⟨hb, hl⟩, ⟨h1, h2⟩, h3⟩
        exact ⟨⟨⟨hl, fun e he => lt_trans hl (h1 e he)⟩, h1, h2⟩, hb, h3⟩
      · rintro ⟨⟨⟨hl, _⟩, h1, h2⟩, hb, h3⟩
        exact ⟨⟨hb, hl⟩, ⟨h1, h2⟩, h3⟩

theorem listed_rising (a : Nat) (bs : List Byte) : (listed a bs).Pairwise (fun c e => c.1 < e.1) := by
  induction bs generalizing a with
  | nil => simp [listed]
  | cons b bs ih =>
    rw [listed]
    split
    · exact ih (a + 1)
    · refine List.pairwise_cons.mpr ⟨fun e he => ?_, ih (a + 1)⟩
      have := listed_ge (a + 1) bs e he
      simp only
      omega

/-- A store keeps the canonical form. -/
theorem cellsWf_write {m : List Host.Cell} (h : cellsWf m = true) (a : Nat) (bs : List Byte) :
    cellsWf (cellsWrite m a bs) = true := by
  obtain ⟨hp, hn⟩ := (cellsWf_iff m).mp h
  refine (cellsWf_iff _).mpr ⟨?_, ?_⟩
  · unfold cellsWrite
    refine List.pairwise_append.mpr ⟨List.pairwise_append.mpr ⟨hp.filter _, listed_rising a bs, ?_⟩, hp.filter _, ?_⟩
    · intro c hc e he
      have h1 := (List.mem_filter.mp hc).2
      have h2 := listed_ge a bs e he
      simp only [decide_eq_true_eq] at h1
      omega
    · intro c hc e he
      have h2 := (List.mem_filter.mp he).2
      simp only [decide_eq_true_eq] at h2
      rcases List.mem_append.mp hc with hc | hc
      · have h1 := (List.mem_filter.mp hc).2
        simp only [decide_eq_true_eq] at h1
        omega
      · have h1 := listed_ge a bs c hc
        omega
  · intro c hc
    unfold cellsWrite at hc
    rcases List.mem_append.mp hc with hc | hc
    · rcases List.mem_append.mp hc with hc | hc
      · exact hn c (List.mem_filter.mp hc).1
      · exact (listed_ge a bs c hc).2.2
    · exact hn c (List.mem_filter.mp hc).1

/-- Leaving entries out keeps the canonical form. -/
theorem cellsWf_filter {m : List Host.Cell} (h : cellsWf m = true) (p : Host.Cell → Bool) : cellsWf (m.filter p) = true := by
  obtain ⟨hp, hn⟩ := (cellsWf_iff m).mp h
  exact (cellsWf_iff _).mpr ⟨hp.filter _, fun c hc => hn c (List.mem_filter.mp hc).1⟩

/-! ### Memory operations -/

@[simp] theorem Mem.poke_lines (m : Mem) (a : Nat) (bs : List Byte) : (m.poke a bs).lines = m.lines := rfl
@[simp] theorem Mem.poke_armed (m : Mem) (a : Nat) (bs : List Byte) : (m.poke a bs).armed = m.armed := rfl
@[simp] theorem Mem.poke_hdmLines (m : Mem) (a : Nat) (bs : List Byte) : (m.poke a bs).hdmLines = m.hdmLines := rfl

theorem Mem.poke_wf {m : Mem} (h : m.wf = true) (a : Nat) (bs : List Byte) : (m.poke a bs).wf = true := cellsWf_write h a bs

theorem Mem.byte_poke (m : Mem) (a : Nat) (bs : List Byte) (x : Nat) :
    (m.poke a bs).byte x = if a ≤ x ∧ x < a + bs.length then byteAt bs (x - a) else m.byte x := cellAt_write m.cells a bs x

theorem Mem.read_poke (m : Mem) (a : Nat) (bs : List Byte) : (m.poke a bs).read a bs.length = bs :=
  cellsRead_write m.cells a bs

/-- A read corrects lines and stores no byte. -/
theorem Mem.readMarks_cells (m : Mem) (pa len : Nat) : (m.readMarks pa len).2.cells = m.cells := rfl

theorem Mem.readMarks_wf {m : Mem} (h : m.wf = true) (pa len : Nat) : (m.readMarks pa len).2.wf = true := h

theorem Mem.readMarks_bytes (m : Mem) (pa len : Nat) : (m.readMarks pa len).1.bytes = m.read pa len := rfl

/-- A property of the start that every step of a fold keeps holds at its end. -/
theorem foldl_keeps {α β : Type} (P : α → Prop) (f : α → β → α) (h : ∀ a b, P a → P (f a b)) (l : List β) (a : α) (h0 : P a) :
    P (l.foldl f a) := by
  induction l generalizing a with
  | nil => exact h0
  | cons b l ih => exact ih _ (h a b h0)

/-- A checked write keeps the canonical form. -/
theorem Mem.writeMarks_wf {m : Mem} (h : m.wf = true) (pa : Nat) (bs : List Byte) : (m.writeMarks pa bs).1.wf = true := by
  unfold Mem.writeMarks
  refine foldl_keeps (fun (acc : Mem × Nat) => acc.1.wf = true) _ (fun acc l ha => ?_) _ _ h
  simp only
  split
  · exact ha
  · split <;> exact cellsWf_write ha _ _

/-- Writes of translated pieces touch memory alone and keep its canonical form. -/
theorem Dev.writePieces_frame (d : Dev) (ps : List (Nat × Nat × Nat)) (bs : List Byte) :
    (d.writePieces ps bs).1 = { d with mem := (d.writePieces ps bs).1.mem } ∧
      (d.mem.wf = true → (d.writePieces ps bs).1.mem.wf = true) := by
  unfold Dev.writePieces
  refine foldl_keeps (fun (acc : Dev × Nat) => acc.1 = { d with mem := acc.1.mem } ∧
    (d.mem.wf = true → acc.1.mem.wf = true)) _ (fun acc p ha => ?_) _ _ ⟨rfl, fun h => h⟩
  simp only
  exact ⟨by rw [ha.1], fun h => Mem.writeMarks_wf (ha.2 h) _ _⟩

/-- Reads of translated pieces correct lines of memory alone. -/
theorem Dev.readPieces_frame (d : Dev) (ps : List (Nat × Nat × Nat)) :
    (d.readPieces ps).2 = { d with mem := (d.readPieces ps).2.mem } ∧ (d.readPieces ps).2.mem.cells = d.mem.cells := by
  unfold Dev.readPieces
  refine foldl_keeps (fun (acc : ReadResult × Dev) => acc.2 = { d with mem := acc.2.mem } ∧
    acc.2.mem.cells = d.mem.cells) _ (fun acc p ha => ?_) _ _ ⟨rfl, rfl⟩
  simp only
  exact ⟨by rw [ha.1], ha.2⟩

/-- Memory after reset has the canonical form. -/
theorem reset_mem_wf : ({} : Dev).mem.wf = true := rfl

end Sys2Proof.Machine
end

