-- ==== Sys2Proof/Laws/Objects.lean ====
section
/-! SUPPORT. Laws of dictionary values and of the parts of the device that stand in maps. -/

namespace Sys2Proof.Machine

/-! ### Dictionary values -/

theorem okey_inj {i u n i' u' n' : Nat} (hu : u < 256) (hn : n < 256) (hu' : u' < 256) (hn' : n' < 256)
    (h : okey i u n = okey i' u' n') : i = i' ∧ u = u' ∧ n = n' := by
  simp only [okey] at h
  omega

@[simp] theorem Dev.obj_setObj_same (d : Dev) (i u n v : Nat) : (d.setObj i u n v).obj i u n = v := by
  simp [Dev.obj, Dev.setObj]

theorem Dev.obj_setObj_other (d : Dev) {i u n v i' u' n' : Nat} (h : okey i' u' n' ≠ okey i u n) :
    (d.setObj i u n v).obj i' u' n' = d.obj i' u' n' := by
  simp [Dev.obj, Dev.setObj, KMap.find_put_other _ _ _ _ h]

@[simp] theorem Dev.obj_bump_same (d : Dev) (i u n w b : Nat) :
    (d.bump i u n w b).obj i u n = Nat.min (d.obj i u n + b) (2 ^ w - 1) := by
  simp [Dev.bump, satAdd]

theorem Dev.obj_bump_other (d : Dev) {i u n w b i' u' n' : Nat} (h : okey i' u' n' ≠ okey i u n) :
    (d.bump i u n w b).obj i' u' n' = d.obj i' u' n' := Dev.obj_setObj_other d h

/-- A value depends on the dictionary, the straps and the unit map alone. -/
theorem Dev.obj_congr {d e : Dev} (hd : d.dict = e.dict) (hp : d.pwr.straps = e.pwr.straps)
    (ha : d.boot.active = e.boot.active) (i u n : Nat) : d.obj i u n = e.obj i u n := by
  simp [Dev.obj, hd, hp, ha]

/-! ### Parts of the device -/

@[simp] theorem Dev.tile_setTile_same (d : Dev) (k : Nat) (x : Tile) : (d.setTile k x).tile k = x := by
  simp [Dev.tile, Dev.setTile]
theorem Dev.tile_setTile_other (d : Dev) {k j : Nat} (x : Tile) (h : j ≠ k) : (d.setTile k x).tile j = d.tile j := by
  simp [Dev.tile, Dev.setTile, KMap.get_put_other _ _ _ _ _ h]
@[simp] theorem Dev.tile_updTile_same (d : Dev) (k : Nat) (f : Tile → Tile) : (d.updTile k f).tile k = f (d.tile k) := by
  simp [Dev.updTile]
theorem Dev.tile_updTile_other (d : Dev) {k j : Nat} (f : Tile → Tile) (h : j ≠ k) : (d.updTile k f).tile j = d.tile j :=
  Dev.tile_setTile_other d _ h
@[simp] theorem Dev.ring_setRing_same (d : Dev) (k : Nat) (x : Ring) : (d.setRing k x).ring k = x := by
  simp [Dev.ring, Dev.setRing]
theorem Dev.ring_setRing_other (d : Dev) {k j : Nat} (x : Ring) (h : j ≠ k) : (d.setRing k x).ring j = d.ring j := by
  simp [Dev.ring, Dev.setRing, KMap.get_put_other _ _ _ _ _ h]
@[simp] theorem Dev.find_setJob_same (d : Dev) (k : Nat) (x : Job) : KMap.find (d.setJob k x).jobs k = some x := by
  simp [Dev.setJob]
theorem Dev.find_setJob_other (d : Dev) {k j : Nat} (x : Job) (h : j ≠ k) :
    KMap.find (d.setJob k x).jobs j = KMap.find d.jobs j := KMap.find_put_other _ _ _ _ h
@[simp] theorem Dev.fn_setFn_same (d : Dev) (k : Nat) (x : Fn) : (d.setFn k x).fn k = x := by simp [Dev.fn, Dev.setFn]
theorem Dev.fn_setFn_other (d : Dev) {k j : Nat} (x : Fn) (h : j ≠ k) : (d.setFn k x).fn j = d.fn j := by
  simp [Dev.fn, Dev.setFn, KMap.get_put_other _ _ _ _ _ h]
@[simp] theorem Dev.array_setArray_same (d : Dev) (k : Nat) (x : SArray) : (d.setArray k x).array k = x := by
  simp [Dev.array, Dev.setArray]
theorem Dev.array_setArray_other (d : Dev) {k j : Nat} (x : SArray) (h : j ≠ k) : (d.setArray k x).array j = d.array j := by
  simp [Dev.array, Dev.setArray, KMap.get_put_other _ _ _ _ _ h]
@[simp] theorem Dev.errRing_setErrRing_same (d : Dev) (k : Nat) (x : ErrRing) : (d.setErrRing k x).errRing k = x := by
  simp [Dev.errRing, Dev.setErrRing]
theorem Dev.errRing_setErrRing_other (d : Dev) {k j : Nat} (x : ErrRing) (h : j ≠ k) :
    (d.setErrRing k x).errRing j = d.errRing j := by
  simp [Dev.errRing, Dev.setErrRing, KMap.get_put_other _ _ _ _ _ h]
@[simp] theorem Dev.slot_setSlot_same (d : Dev) (k : Nat) (x : SSlot) : (d.setSlot k x).slot k = x := by
  simp [Dev.slot, Dev.setSlot]
theorem Dev.slot_setSlot_other (d : Dev) {k j : Nat} (x : SSlot) (h : j ≠ k) : (d.setSlot k x).slot j = d.slot j := by
  simp [Dev.slot, Dev.setSlot, KMap.get_put_other _ _ _ _ _ h]
@[simp] theorem Dev.chan_setChan_same (d : Dev) (k : Nat) (x : Chan) : (d.setChan k x).chan k = x := by
  simp [Dev.chan, Dev.setChan]
theorem Dev.chan_setChan_other (d : Dev) {k j : Nat} (x : Chan) (h : j ≠ k) : (d.setChan k x).chan j = d.chan j := by
  simp [Dev.chan, Dev.setChan, KMap.get_put_other _ _ _ _ _ h]
@[simp] theorem Dev.peer_setPeer_same (d : Dev) (k : Nat) (x : Peer) : (d.setPeer k x).peer k = x := by
  simp [Dev.peer, Dev.setPeer]
theorem Dev.peer_setPeer_other (d : Dev) {k j : Nat} (x : Peer) (h : j ≠ k) : (d.setPeer k x).peer j = d.peer j := by
  simp [Dev.peer, Dev.setPeer, KMap.get_put_other _ _ _ _ _ h]
@[simp] theorem Dev.port_setPort_same (d : Dev) (k : Nat) (x : PortState) : (d.setPort k x).port k = x := by
  simp [Dev.port, Dev.setPort]
theorem Dev.port_setPort_other (d : Dev) {k j : Nat} (x : PortState) (h : j ≠ k) : (d.setPort k x).port j = d.port j := by
  simp [Dev.port, Dev.setPort, KMap.get_put_other _ _ _ _ _ h]

end Sys2Proof.Machine
end

