-- ==== Sys2Proof/Laws/Translation.lean ====
section
/-! SUPPORT. What translating, checking ownership, reading, writing and reporting may change: one frame for each shared
operation, with the canonical form of memory kept. -/

namespace Sys2Proof.Machine

/-! ### Translation -/

/-- Only the state of translation, its counters, the micro-TLBs and the free values differ. -/
def Dev.Xl (d e : Dev) : Prop :=
  e = { d with dict := e.dict, stu := e.stu, tiles := e.tiles, free := e.free } ∧
    ∀ k, e.tile k = { d.tile k with uTlb := (e.tile k).uTlb }

/-- Of a requester that is no tile, only translation state and its counters differ. -/
def Dev.XlHub (d e : Dev) : Prop := e = { d with dict := e.dict, stu := e.stu }

theorem Dev.XlHub.refl (d : Dev) : d.XlHub d := rfl

theorem Dev.XlHub.trans {a b c : Dev} (h : a.XlHub b) (h' : b.XlHub c) : a.XlHub c := by
  unfold Dev.XlHub at *
  rw [h', h]

theorem Dev.XlHub.mem {d e : Dev} (h : d.XlHub e) : e.mem = d.mem := by rw [h]
theorem Dev.XlHub.err {d e : Dev} (h : d.XlHub e) : e.err = d.err := by rw [h]
theorem Dev.XlHub.fns {d e : Dev} (h : d.XlHub e) : e.fns = d.fns := by rw [h]
theorem Dev.XlHub.pwr {d e : Dev} (h : d.XlHub e) : e.pwr = d.pwr := by rw [h]
theorem Dev.XlHub.boot {d e : Dev} (h : d.XlHub e) : e.boot = d.boot := by rw [h]
theorem Dev.XlHub.emits {d e : Dev} (h : d.XlHub e) : e.emits = d.emits := by rw [h]
theorem Dev.XlHub.tiles {d e : Dev} (h : d.XlHub e) : e.tiles = d.tiles := by rw [h]
theorem Dev.XlHub.jobs {d e : Dev} (h : d.XlHub e) : e.jobs = d.jobs := by rw [h]
theorem Dev.XlHub.rings {d e : Dev} (h : d.XlHub e) : e.rings = d.rings := by rw [h]

theorem Dev.Xl.refl (d : Dev) : d.Xl d := ⟨rfl, fun _ => rfl⟩

theorem Dev.Xl.trans {a b c : Dev} (h : a.Xl b) (h' : b.Xl c) : a.Xl c := by
  refine ⟨by rw [h'.1, h.1], fun k => ?_⟩
  rw [h'.2 k, h.2 k]

theorem Dev.XlHub.xl {d e : Dev} (h : d.XlHub e) : d.Xl e := by
  refine ⟨by rw [h], fun k => ?_⟩
  simp only [Dev.tile, h.tiles]

theorem Dev.Xl.mem {d e : Dev} (h : d.Xl e) : e.mem = d.mem := by rw [h.1]
theorem Dev.Xl.err {d e : Dev} (h : d.Xl e) : e.err = d.err := by rw [h.1]
theorem Dev.Xl.jobs {d e : Dev} (h : d.Xl e) : e.jobs = d.jobs := by rw [h.1]
theorem Dev.Xl.rings {d e : Dev} (h : d.Xl e) : e.rings = d.rings := by rw [h.1]
theorem Dev.Xl.fns {d e : Dev} (h : d.Xl e) : e.fns = d.fns := by rw [h.1]
theorem Dev.Xl.pwr {d e : Dev} (h : d.Xl e) : e.pwr = d.pwr := by rw [h.1]
theorem Dev.Xl.boot {d e : Dev} (h : d.Xl e) : e.boot = d.boot := by rw [h.1]
theorem Dev.Xl.emits {d e : Dev} (h : d.Xl e) : e.emits = d.emits := by rw [h.1]
theorem Dev.Xl.kv {d e : Dev} (h : d.Xl e) : e.kv = d.kv := by rw [h.1]

theorem tlbPut_snd (d : Dev) (l : List TlbEntry) (cap : Nat) (e : TlbEntry) :
    (tlbPut d l cap e).2 = { d with free := (tlbPut d l cap e).2.free } := by
  unfold tlbPut
  simp only
  split <;> rfl

theorem Dev.putChipTlb_xl (d : Dev) (c : Nat) (e : TlbEntry) : d.Xl (d.putChipTlb c e) := by
  have h := tlbPut_snd d (d.stu.chipTlb.get c []) 4096 e
  unfold Dev.putChipTlb
  simp only
  refine ⟨?_, fun k => ?_⟩
  · rw [h]
  · simp only [Dev.tile]
    rw [h]

theorem Dev.putMicroTlb_xl (d : Dev) (t : Nat) (e : TlbEntry) : d.Xl (d.putMicroTlb t e) := by
  have h := tlbPut_snd d (d.tile t).uTlb 64 e
  unfold Dev.putMicroTlb
  simp only
  refine ⟨?_, fun k => ?_⟩
  · simp only [Dev.updTile, Dev.setTile]
    rw [h]
  · by_cases hk : k = t
    · subst hk
      have ht : (tlbPut d (d.tile k).uTlb 64 e).2.tile k = d.tile k := by rw [h]; rfl
      rw [Dev.tile_updTile_same, ht]
    · have ht : (tlbPut d (d.tile t).uTlb 64 e).2.tile k = d.tile k := by rw [h]; rfl
      rw [Dev.tile_updTile_other _ _ hk, ht]

theorem Dev.putNear_xl (d : Dev) (src : Nat) (e : TlbEntry) : d.Xl (d.putNear src e) := by
  unfold Dev.putNear
  split
  · exact (Dev.putChipTlb_xl d _ e).trans (Dev.putMicroTlb_xl _ _ e)
  · exact Dev.Xl.refl d

theorem Dev.bump_xlHub (d : Dev) (i u n w b : Nat) : d.XlHub (d.bump i u n w b) := rfl

theorem Dev.requestWalk_xlHub (d : Dev) (tenant pasid va : Nat) (r : Requester) :
    d.XlHub (d.requestWalk tenant pasid va r) := by
  unfold Dev.requestWalk
  simp only
  split <;> rfl

theorem Dev.missWalk_xlHub (d : Dev) (tenant pasid va : Nat) (r : Requester) : d.XlHub (d.missWalk tenant pasid va r) :=
  (Dev.bump_xlHub d _ _ _ _ _).trans (Dev.requestWalk_xlHub _ _ _ _ _)

/-- A translation changes translation state alone. -/
theorem Dev.translate_xl (d : Dev) (tenant pasid va access : Nat) (req : Requester) :
    d.Xl (d.translate tenant pasid va access req).2 := by
  unfold Dev.translate
  simp only
  split
  · exact Dev.Xl.refl d
  · split
    · split
      · exact Dev.Xl.refl d
      · split
        · exact Dev.putMicroTlb_xl _ _ _
        · split
          · exact (((Dev.bump_xlHub d _ _ _ _ _).trans (Dev.bump_xlHub _ _ _ _ _ _)).xl).trans (Dev.putNear_xl _ _ _)
          · exact ((Dev.bump_xlHub d _ _ _ _ _).trans (Dev.missWalk_xlHub _ _ _ _ _)).xl
    · split
      · exact (Dev.bump_xlHub d _ _ _ _ _).xl
      · exact (Dev.missWalk_xlHub _ _ _ _ _).xl

/-- A translation for a requester that is no tile touches no tile. -/
theorem Dev.translate_xlHub (d : Dev) (tenant pasid va access : Nat) (req : Requester) (h : 128 ≤ req.source) :
    d.XlHub (d.translate tenant pasid va access req).2 := by
  unfold Dev.translate
  simp only
  split
  · exact Dev.XlHub.refl d
  · rw [if_neg (by omega)]
    split
    · exact Dev.bump_xlHub d _ _ _ _ _
    · exact Dev.missWalk_xlHub _ _ _ _ _

theorem Dev.translateSpan_xl (d : Dev) (tenant pasid va len access : Nat) (req : Requester) :
    d.Xl (d.translateSpan tenant pasid va len access req).2 := by
  unfold Dev.translateSpan
  refine foldl_keeps (fun (acc : Option (List (Nat × Nat × Nat)) × Dev) => d.Xl acc.2) _ (fun acc p ha => ?_) _ _ (Dev.Xl.refl d)
  obtain ⟨o, e⟩ := acc
  cases o with
  | none => exact ha
  | some l =>
    have := Dev.translate_xl e tenant pasid ((va + p.1) % 2 ^ 64) access req
    simp only
    split <;> rename_i heq <;> rw [heq] at this <;> exact ha.trans this

theorem Dev.translateSpan_xlHub (d : Dev) (tenant pasid va len access : Nat) (req : Requester) (h : 128 ≤ req.source) :
    d.XlHub (d.translateSpan tenant pasid va len access req).2 := by
  unfold Dev.translateSpan
  refine foldl_keeps (fun (acc : Option (List (Nat × Nat × Nat)) × Dev) => d.XlHub acc.2) _ (fun acc p ha => ?_) _ _
    (Dev.XlHub.refl d)
  obtain ⟨o, e⟩ := acc
  cases o with
  | none => exact ha
  | some l =>
    have := Dev.translate_xlHub e tenant pasid ((va + p.1) % 2 ^ 64) access req h
    simp only
    split <;> rename_i heq <;> rw [heq] at this <;> exact ha.trans this

/-! ### Reports -/

/-- Only what the posting of a record touches may differ (R382, R385), and the canonical form of memory is kept. -/
def Dev.Rep (d e : Dev) : Prop :=
  e = { d with dict := e.dict, err := { d.err with rings := e.err.rings }, stu := e.stu, mem := e.mem, fns := e.fns
               emits := e.emits } ∧
    (d.mem.wf = true → e.mem.wf = true)

theorem Dev.Rep.refl (d : Dev) : d.Rep d := ⟨rfl, fun h => h⟩

theorem Dev.Rep.trans {a b c : Dev} (h : a.Rep b) (h' : b.Rep c) : a.Rep c :=
  ⟨by rw [h'.1, h.1], fun hm => h'.2 (h.2 hm)⟩

theorem Dev.XlHub.rep {d e : Dev} (h : d.XlHub e) : d.Rep e :=
  ⟨by rw [h], fun hm => by rw [h.mem]; exact hm⟩

theorem Dev.bump_rep (d : Dev) (i u n w b : Nat) : d.Rep (d.bump i u n w b) := (Dev.bump_xlHub d i u n w b).rep

theorem Dev.setErrRing_rep (d : Dev) (n : Nat) (x : ErrRing) : d.Rep (d.setErrRing n x) := ⟨rfl, fun h => h⟩

theorem Dev.msix_rep (d : Dev) (n v : Nat) : d.Rep (d.msix n v) := by
  unfold Dev.msix
  simp only
  split
  · exact Dev.Rep.refl d
  · split
    · exact ⟨rfl, fun h => h⟩
    · exact ⟨rfl, fun h => h⟩

theorem Dev.writePieces_rep (d : Dev) (ps : List (Nat × Nat × Nat)) (bs : List Byte) : d.Rep (d.writePieces ps bs).1 :=
  ⟨by rw [(Dev.writePieces_frame d ps bs).1], (Dev.writePieces_frame d ps bs).2⟩

/-! ### Ownership and the host link -/

theorem Dev.rotEntry_rep (d : Dev) (region : Nat) : d.Rep (d.rotEntry region).2 := by
  unfold Dev.rotEntry
  split
  · exact Dev.Rep.refl d
  · have h : ∀ m : Mem, (d.mem.wf = true → m.wf = true) → d.Rep { d with mem := m } := fun m hm => ⟨rfl, hm⟩
    have hm := h _ (fun hw => Mem.readMarks_wf hw (d.obj 0x3800 0 0 + 2 * region) 2)
    simp only
    split
    · exact hm.trans (Dev.bump_rep _ _ _ _ _ _)
    · refine Dev.Rep.trans ?_ ⟨rfl, fun hw => hw⟩
      split
      · exact hm
      · exact hm.trans (Dev.bump_rep _ _ _ _ _ _)

/-- The ownership check may fill the entry's cache and correct the line that it reads. -/
theorem Dev.ownOk_rep (d : Dev) (tenant pa len : Nat) (write : Bool) : d.Rep (d.ownOk tenant pa len write).2 := by
  unfold Dev.ownOk
  split
  · exact Dev.rotEntry_rep d _
  · exact Dev.Rep.refl d

theorem Dev.ownOkAll_rep (d : Dev) (tenant : Nat) (ps : List (Nat × Nat × Nat)) (write : Bool) :
    d.Rep (d.ownOkAll tenant ps write).2 := by
  unfold Dev.ownOkAll
  exact foldl_keeps (fun (acc : Bool × Dev) => d.Rep acc.2) _
    (fun acc p ha => ha.trans (Dev.ownOk_rep acc.2 tenant p.1 p.2.2 write)) _ _ (Dev.Rep.refl d)

theorem Dev.emit_rep (d : Dev) (e : Emit) : d.Rep (d.emit e) := ⟨rfl, fun h => h⟩

theorem Dev.snoop_rep (d : Dev) (pa len : Nat) : d.Rep (d.snoop pa len) :=
  (foldl_keeps (fun e => d.Rep e) _ (fun e _ he => he.trans (Dev.emit_rep e _)) _ _ (Dev.Rep.refl d)).trans
    ⟨rfl, fun h => h⟩

/-- What an access puts on the host link is emitted; the lines that the host caches may lose some. -/
theorem Dev.onBus_rep (d : Dev) (tenant pasid : Nat) (write : Bool) (ps : List (Nat × Nat × Nat)) :
    d.Rep (d.onBus tenant pasid write ps) :=
  foldl_keeps (fun e => d.Rep e) _ (fun e _ he => he.trans (Dev.snoop_rep e _ _)) _ _
    (foldl_keeps (fun e => d.Rep e) _ (fun e _ he => he.trans (Dev.emit_rep e _)) _ _ (Dev.Rep.refl d))

theorem Dev.readPieces_rep (d : Dev) (ps : List (Nat × Nat × Nat)) : d.Rep (d.readPieces ps).2 := by
  obtain ⟨h1, h2⟩ := Dev.readPieces_frame d ps
  refine ⟨by rw [h1], fun hm => ?_⟩
  simp only [Mem.wf, h2]
  exact hm

theorem Dev.busRead_rep (d : Dev) (tenant pasid : Nat) (ps : List (Nat × Nat × Nat)) : d.Rep (d.busRead tenant pasid ps).2 :=
  (Dev.onBus_rep d tenant pasid false ps).trans (Dev.readPieces_rep _ ps)

/-! ### The error rings -/

theorem Dev.errQueue_rep (d : Dev) (n e : Nat) : d.Rep (d.errQueue n e) := by
  unfold Dev.errQueue
  simp only
  split
  · exact Dev.setErrRing_rep d _ _
  · exact Dev.bump_rep d _ _ _ _ _

theorem Dev.errFlush_rep (n : Nat) (l : List Nat) : ∀ d : Dev, d.Rep (d.errFlush n l).1 := by
  induction l with
  | nil => intro d; exact Dev.Rep.refl d
  | cons e l ih =>
    intro d
    have h1 := (Dev.translateSpan_xlHub d n (d.errRing n).pasid
      (((d.errRing n).base + 64 * (nextSeq (d.errRing n).seq % 2 ^ (d.errRing n).size)) % 2 ^ 64) 64 1 (errReq n)
      (by simp [errReq])).rep
    rw [Dev.errFlush]
    simp only
    split
    · rename_i heq; rw [heq] at h1; exact h1
    · rename_i ps d1 heq
      rw [heq] at h1
      have h2 := Dev.ownOkAll_rep d1 n ps true
      split
      · rename_i heq'; rw [heq'] at h2; exact h1.trans h2
      · rename_i d2 heq'
        rw [heq'] at h2
        have h3 := (Dev.onBus_rep d2 n (d.errRing n).pasid true ps).trans
          (Dev.writePieces_rep _ ps (leBytes (e + nextSeq (d.errRing n).seq * 2 ^ 416) 64))
        refine ((h1.trans h2).trans h3).trans ?_
        generalize ((d2.onBus n (d.errRing n).pasid true ps).writePieces ps
          (leBytes (e + nextSeq (d.errRing n).seq * 2 ^ 416) 64)).1 = d3
        refine Dev.Rep.trans ?_ (ih _)
        split
        · exact ((Dev.setErrRing_rep d3 n _).trans (Dev.setErrRing_rep _ n _)).trans (Dev.msix_rep _ _ _)
        · exact Dev.setErrRing_rep d3 n _

theorem Dev.errRingFail_rep (d : Dev) (n : Nat) : d.Rep (d.errRingFail n) :=
  (Dev.setErrRing_rep d n _).trans (Dev.bump_rep _ _ _ _ _ _)

theorem Dev.errOwn_rep (d : Dev) (n : Nat) : d.Rep (d.errOwn n) :=
  ((Dev.bump_rep d _ _ _ _ _).trans (Dev.bump_rep _ _ _ _ _ _)).trans (Dev.errQueue_rep _ _ _)

theorem Dev.errWrite_rep (d : Dev) (n : Nat) : d.Rep (d.errWrite n) := by
  have h1 := Dev.errFlush_rep n (d.errRing n).waiting d
  unfold Dev.errWrite
  split
  · rename_i heq; rw [heq] at h1; exact h1
  · rename_i d1 heq
    rw [heq] at h1
    have h2 := h1.trans (((Dev.errRingFail_rep d1 n).trans (Dev.errOwn_rep _ n)).trans (Dev.bump_rep _ 0xA010 0x26 0 32 1))
    simp only
    split
    · exact h2.trans (Dev.errQueue_rep _ _ _)
    · generalize hq : Dev.errQueue _ 0 _ = dq
      have h3 : d.Rep dq := by rw [← hq]; exact h2.trans (Dev.errQueue_rep _ _ _)
      have h4 := Dev.errFlush_rep 0 (dq.errRing 0).waiting dq
      split
      · rename_i heq'; rw [heq'] at h4; exact h3.trans h4
      · rename_i d3 heq'
        rw [heq'] at h4
        exact ((h3.trans h4).trans (((Dev.errRingFail_rep d3 0).trans (Dev.errOwn_rep _ 0)).trans (Dev.bump_rep _ _ _ _ _ _))).trans
          (Dev.errQueue_rep _ _ _)

/-- A report changes counters, error rings, their translations and writes, and interrupts alone. -/
theorem Dev.report_rep (d : Dev) (r : Rec) : d.Rep (d.report r) := by
  unfold Dev.report
  simp only
  have h1 : d.Rep (if pathEr r.code = true then
      ((d.bump 0xA010 r.code r.tenant 32).errQueue r.tenant (entryBits (d.stamp 128) r.code
        (r.cls.getD (faultClass r.code)) r.tenant r.source (d.jobBits r.job) r.detail)).errWrite r.tenant else d) := by
    split
    · exact ((Dev.bump_rep d _ _ _ _ _).trans (Dev.errQueue_rep _ _ _)).trans (Dev.errWrite_rep _ _)
    · exact Dev.Rep.refl d
  split
  · exact h1.trans (((Dev.bump_rep _ _ _ _ _ _).trans (Dev.errQueue_rep _ _ _)).trans (Dev.errWrite_rep _ _))
  · exact h1

theorem Dev.countOnly_rep (d : Dev) (c t n : Nat) : d.Rep (d.countOnly c t n) := by
  unfold Dev.countOnly
  split
  · exact Dev.Rep.refl d
  · exact Dev.bump_rep d _ _ _ _ _

theorem Dev.hbmErrors_rep (d : Dev) (tenant source : Nat) (job : Option Nat) (ue ce : Nat) :
    d.Rep (d.hbmErrors tenant source job ue ce) := by
  unfold Dev.hbmErrors
  simp only
  split
  · exact Dev.countOnly_rep d _ _ _
  · exact (Dev.countOnly_rep d _ _ _).trans (Dev.report_rep _ _)

/-- A write of translated pieces touches memory, and what counting corrections and reporting refused merges touches. -/
theorem Dev.markWrite_rep (d : Dev) (tenant source : Nat) (job : Option Nat) (ps : List (Nat × Nat × Nat))
    (bs : List Byte) : d.Rep (d.markWrite tenant source job ps bs) :=
  (Dev.writePieces_rep d ps bs).trans (Dev.hbmErrors_rep _ _ _ _ _ _)

theorem Dev.busWrite_rep (d : Dev) (tenant pasid source : Nat) (job : Option Nat) (ps : List (Nat × Nat × Nat))
    (bs : List Byte) : d.Rep (d.busWrite tenant pasid source job ps bs) :=
  (Dev.onBus_rep d tenant pasid true ps).trans (Dev.markWrite_rep _ tenant source job ps bs)

/-- Stores that software made visible before a command touch no more. -/
theorem Dev.stores_rep (d : Dev) (source : Nat) (l : List ByteStore) : d.Rep (d.stores source l) := by
  unfold Dev.stores
  refine foldl_keeps (fun e => d.Rep e) _ (fun e r he => he.trans ?_) _ _ (Dev.Rep.refl d)
  refine Dev.Rep.trans ?_ (Dev.markWrite_rep _ 0 source none _ _)
  split
  · exact Dev.Rep.refl e
  · exact Dev.snoop_rep e _ _

theorem Dev.Rep.pwr {d e : Dev} (h : d.Rep e) : e.pwr = d.pwr := by rw [h.1]
theorem Dev.Rep.boot {d e : Dev} (h : d.Rep e) : e.boot = d.boot := by rw [h.1]
theorem Dev.Rep.jobs {d e : Dev} (h : d.Rep e) : e.jobs = d.jobs := by rw [h.1]
theorem Dev.Rep.rings {d e : Dev} (h : d.Rep e) : e.rings = d.rings := by rw [h.1]
theorem Dev.Rep.tiles {d e : Dev} (h : d.Rep e) : e.tiles = d.tiles := by rw [h.1]
theorem Dev.Rep.scale {d e : Dev} (h : d.Rep e) : e.scale = d.scale := by rw [h.1]
theorem Dev.Rep.mirror {d e : Dev} (h : d.Rep e) : e.mirror = d.mirror := by rw [h.1]
theorem Dev.Rep.board {d e : Dev} (h : d.Rep e) : e.err.board = d.err.board := by rw [h.1]
theorem Dev.Rep.unit {d e : Dev} (h : d.Rep e) : e.err.unit = d.err.unit := by rw [h.1]
theorem Dev.Rep.held {d e : Dev} (h : d.Rep e) : e.err.held = d.err.held := by rw [h.1]
theorem Dev.Rep.kv {d e : Dev} (h : d.Rep e) : e.kv = d.kv := by rw [h.1]

/-- A condition that is set is pending; the others stay as they were. -/
theorem Dev.boardSet_board (d : Dev) (r : Rec) (c : Nat) :
    (d.boardSet r).err.board.contains c = (d.err.board.contains c || c == r.code) := by
  unfold Dev.boardSet
  split
  · rename_i h
    by_cases hc : c = r.code
    · subst hc; simpa using h
    · simp [hc]
  · rw [(Dev.report_rep _ _).board]
    simp only [List.contains_eq_any_beq, List.any_append, List.any_cons, List.any_nil, Bool.or_false]

theorem Dev.boardClear_board (d : Dev) (k c : Nat) :
    (d.boardClear k).err.board.contains c = (d.err.board.contains c && c != k) := by
  rw [Bool.eq_iff_iff]
  simp [Dev.boardClear]

end Sys2Proof.Machine
end

