-- ==== Sys2Proof/Laws/Engines.lean ====
section
/-! SUPPORT. What an engine's access to memory may change, and what a command of a tile's sequencer may change. -/

namespace Sys2Proof.Machine

/-- What the access of an engine may touch: translation state, micro-TLBs, free values, memory, and what a report touches. -/
def Dev.Eng (d e : Dev) : Prop :=
  e = { d with dict := e.dict, stu := e.stu, tiles := e.tiles, free := e.free, mem := e.mem, fns := e.fns, emits := e.emits
               err := { d.err with rings := e.err.rings } } ∧
    (∀ k, e.tile k = { d.tile k with uTlb := (e.tile k).uTlb }) ∧ (d.mem.wf = true → e.mem.wf = true)

theorem Dev.Eng.refl (d : Dev) : d.Eng d := ⟨rfl, fun _ => rfl, fun h => h⟩

theorem Dev.Eng.trans {a b c : Dev} (h : a.Eng b) (h' : b.Eng c) : a.Eng c :=
  ⟨by rw [h'.1, h.1], fun k => by rw [h'.2.1 k, h.2.1 k], fun hm => h'.2.2 (h.2.2 hm)⟩

theorem Dev.Xl.eng {d e : Dev} (h : d.Xl e) : d.Eng e :=
  ⟨by rw [h.1], h.2, fun hm => by rw [h.mem]; exact hm⟩

theorem Dev.Rep.eng {d e : Dev} (h : d.Rep e) : d.Eng e := by
  refine ⟨by rw [h.1], fun k => ?_, h.2⟩
  have : e.tile k = d.tile k := by simp only [Dev.tile, h.tiles]
  rw [this]

theorem Dev.Eng.jobs {d e : Dev} (h : d.Eng e) : e.jobs = d.jobs := by rw [h.1]
theorem Dev.Eng.rings {d e : Dev} (h : d.Eng e) : e.rings = d.rings := by rw [h.1]
theorem Dev.Eng.pwr {d e : Dev} (h : d.Eng e) : e.pwr = d.pwr := by rw [h.1]
theorem Dev.Eng.boot {d e : Dev} (h : d.Eng e) : e.boot = d.boot := by rw [h.1]
theorem Dev.Eng.kv {d e : Dev} (h : d.Eng e) : e.kv = d.kv := by rw [h.1]
theorem Dev.Eng.scale {d e : Dev} (h : d.Eng e) : e.scale = d.scale := by rw [h.1]
theorem Dev.Eng.mirror {d e : Dev} (h : d.Eng e) : e.mirror = d.mirror := by rw [h.1]

theorem Dev.ownReport_rep (d : Dev) (tenant pasid va access : Nat) (req : Requester) :
    d.Rep (d.ownReport tenant pasid va access req) := by
  unfold Dev.ownReport
  exact (Dev.bump_rep d 0x4022 0 tenant 32 1).trans (Dev.report_rep _ _)

/-- A read of an engine: it waits, fails the ownership check, or gives data; whatever it answers, this is all it touches. -/
theorem Dev.engRead_eng (d : Dev) (tenant pasid va len : Nat) (req : Requester) (access : Nat) :
    d.Eng (d.engRead tenant pasid va len req access).2 := by
  have h1 := (Dev.translateSpan_xl d tenant pasid va len access req).eng
  unfold Dev.engRead
  split
  · rename_i heq; rw [heq] at h1; exact h1
  · rename_i ps d1 heq
    rw [heq] at h1
    have h2 := h1.trans (Dev.ownOkAll_rep d1 tenant ps false).eng
    split
    · rename_i heq'; rw [heq'] at h2; exact h2.trans (Dev.ownReport_rep _ _ _ _ _ _).eng
    · rename_i heq'
      rw [heq'] at h2
      exact (h2.trans (Dev.busRead_rep _ tenant pasid ps).eng).trans (Dev.hbmErrors_rep _ _ _ _ _ _).eng

/-- A write of an engine touches the same. -/
theorem Dev.engWrite_eng (d : Dev) (tenant pasid va : Nat) (bs : List Byte) (req : Requester) :
    d.Eng (d.engWrite tenant pasid va bs req).2 := by
  have h1 := (Dev.translateSpan_xl d tenant pasid va bs.length 1 req).eng
  unfold Dev.engWrite
  split
  · rename_i heq; rw [heq] at h1; exact h1
  · rename_i ps d1 heq
    rw [heq] at h1
    have h2 := h1.trans (Dev.ownOkAll_rep d1 tenant ps true).eng
    split
    · rename_i heq'; rw [heq'] at h2; exact h2.trans (Dev.ownReport_rep _ _ _ _ _ _).eng
    · rename_i heq'
      rw [heq'] at h2
      exact h2.trans (Dev.busWrite_rep _ tenant pasid req.source req.job ps bs).eng

/-- A command of a sequencer answers a next state whose device is `Dev.tcw`'s. -/
theorem tcwStep_next (t : TileId) (w : Tcw) (c : Cmd) (body : TcwBody) (s : State) :
    tcwStep t w c body s = .next { s with dev := s.dev.tcw t.val w c body } := rfl

end Sys2Proof.Machine
end

