-- ==== Sys2Proof/Laws/Meter.lean ====
section
/-! SUPPORT. Laws of the metrology die: what starting and queueing a record may change. -/

namespace Sys2Proof.Machine

/-- Starting a write changes what is written, waits or was retried alone. -/
theorem Gnt.startWrite_frame (g : Gnt) : g.startWrite = { g with writing := g.startWrite.writing, queued := g.startWrite.queued, retried := g.startWrite.retried } := by
  unfold Gnt.startWrite
  split
  · split <;> rfl
  · rfl

@[simp] theorem Gnt.startWrite_powered (g : Gnt) : g.startWrite.powered = g.powered := by rw [Gnt.startWrite_frame]
@[simp] theorem Gnt.startWrite_mode (g : Gnt) : g.startWrite.mode = g.mode := by rw [Gnt.startWrite_frame]
@[simp] theorem Gnt.startWrite_regs (g : Gnt) : g.startWrite.regs = g.regs := by rw [Gnt.startWrite_frame]
@[simp] theorem Gnt.startWrite_saved (g : Gnt) : g.startWrite.saved = g.saved := by rw [Gnt.startWrite_frame]
@[simp] theorem Gnt.startWrite_pendingE (g : Gnt) : g.startWrite.pendingE = g.pendingE := by rw [Gnt.startWrite_frame]
@[simp] theorem Gnt.startWrite_remainder (g : Gnt) : g.startWrite.remainder = g.remainder := by rw [Gnt.startWrite_frame]
@[simp] theorem Gnt.startWrite_substRem (g : Gnt) : g.startWrite.substRem = g.substRem := by rw [Gnt.startWrite_frame]
@[simp] theorem Gnt.startWrite_testNow (g : Gnt) : g.startWrite.testNow = g.testNow := by rw [Gnt.startWrite_frame]
@[simp] theorem Gnt.startWrite_met (g : Gnt) : g.startWrite.met = g.met := by rw [Gnt.startWrite_frame]
@[simp] theorem Gnt.startWrite_audit (g : Gnt) : g.startWrite.audit = g.audit := by rw [Gnt.startWrite_frame]
@[simp] theorem Gnt.startWrite_cal (g : Gnt) : g.startWrite.cal = g.cal := by rw [Gnt.startWrite_frame]
@[simp] theorem Gnt.startWrite_fwVersion (g : Gnt) : g.startWrite.fwVersion = g.fwVersion := by rw [Gnt.startWrite_frame]
@[simp] theorem Gnt.startWrite_coverOpen (g : Gnt) : g.startWrite.coverOpen = g.coverOpen := by rw [Gnt.startWrite_frame]
@[simp] theorem Gnt.startWrite_traceBroken (g : Gnt) : g.startWrite.traceBroken = g.traceBroken := by rw [Gnt.startWrite_frame]
@[simp] theorem Gnt.startWrite_settle (g : Gnt) : g.startWrite.settle = g.settle := by rw [Gnt.startWrite_frame]
@[simp] theorem Gnt.startWrite_lastGood (g : Gnt) : g.startWrite.lastGood = g.lastGood := by rw [Gnt.startWrite_frame]
@[simp] theorem Gnt.startWrite_window (g : Gnt) : g.startWrite.window = g.window := by rw [Gnt.startWrite_frame]
@[simp] theorem Gnt.startWrite_goodRun (g : Gnt) : g.startWrite.goodRun = g.goodRun := by rw [Gnt.startWrite_frame]
@[simp] theorem Gnt.startWrite_openPairs (g : Gnt) : g.startWrite.openPairs = g.openPairs := by rw [Gnt.startWrite_frame]
@[simp] theorem Gnt.startWrite_lowV (g : Gnt) : g.startWrite.lowV = g.lowV := by rw [Gnt.startWrite_frame]
@[simp] theorem Gnt.startWrite_a0Hot (g : Gnt) : g.startWrite.a0Hot = g.a0Hot := by rw [Gnt.startWrite_frame]
@[simp] theorem Gnt.startWrite_a0Cool (g : Gnt) : g.startWrite.a0Cool = g.a0Cool := by rw [Gnt.startWrite_frame]
@[simp] theorem Gnt.startWrite_stopA0 (g : Gnt) : g.startWrite.stopA0 = g.stopA0 := by rw [Gnt.startWrite_frame]
@[simp] theorem Gnt.startWrite_auxMux (g : Gnt) : g.startWrite.auxMux = g.auxMux := by rw [Gnt.startWrite_frame]
@[simp] theorem Gnt.startWrite_auxCount (g : Gnt) : g.startWrite.auxCount = g.auxCount := by rw [Gnt.startWrite_frame]
@[simp] theorem Gnt.startWrite_auxGroup (g : Gnt) : g.startWrite.auxGroup = g.auxGroup := by rw [Gnt.startWrite_frame]
@[simp] theorem Gnt.startWrite_a1 (g : Gnt) : g.startWrite.a1 = g.a1 := by rw [Gnt.startWrite_frame]
@[simp] theorem Gnt.startWrite_a2 (g : Gnt) : g.startWrite.a2 = g.a2 := by rw [Gnt.startWrite_frame]
@[simp] theorem Gnt.startWrite_a3 (g : Gnt) : g.startWrite.a3 = g.a3 := by rw [Gnt.startWrite_frame]
@[simp] theorem Gnt.startWrite_delayed (g : Gnt) : g.startWrite.delayed = g.delayed := by rw [Gnt.startWrite_frame]
@[simp] theorem Gnt.startWrite_journal (g : Gnt) : g.startWrite.journal = g.journal := by rw [Gnt.startWrite_frame]
@[simp] theorem Gnt.startWrite_seq (g : Gnt) : g.startWrite.seq = g.seq := by rw [Gnt.startWrite_frame]
@[simp] theorem Gnt.startWrite_setNo (g : Gnt) : g.startWrite.setNo = g.setNo := by rw [Gnt.startWrite_frame]
@[simp] theorem Gnt.startWrite_lastDigest (g : Gnt) : g.startWrite.lastDigest = g.lastDigest := by rw [Gnt.startWrite_frame]
@[simp] theorem Gnt.startWrite_setFailed (g : Gnt) : g.startWrite.setFailed = g.setFailed := by rw [Gnt.startWrite_frame]
@[simp] theorem Gnt.startWrite_sinceSet (g : Gnt) : g.startWrite.sinceSet = g.sinceSet := by rw [Gnt.startWrite_frame]
@[simp] theorem Gnt.startWrite_lastFrame (g : Gnt) : g.startWrite.lastFrame = g.lastFrame := by rw [Gnt.startWrite_frame]
@[simp] theorem Gnt.startWrite_flagsSeen (g : Gnt) : g.startWrite.flagsSeen = g.flagsSeen := by rw [Gnt.startWrite_frame]
@[simp] theorem Gnt.startWrite_lastReport (g : Gnt) : g.startWrite.lastReport = g.lastReport := by rw [Gnt.startWrite_frame]
@[simp] theorem Gnt.startWrite_reportAt (g : Gnt) : g.startWrite.reportAt = g.reportAt := by rw [Gnt.startWrite_frame]
@[simp] theorem Gnt.startWrite_live (g : Gnt) : g.startWrite.live = g.live := by rw [Gnt.startWrite_frame]

@[simp] theorem Gnt.queue_powered (g : Gnt) (q : JReq) : (g.queue q).powered = g.powered := by simp [Gnt.queue]
@[simp] theorem Gnt.queue_mode (g : Gnt) (q : JReq) : (g.queue q).mode = g.mode := by simp [Gnt.queue]
@[simp] theorem Gnt.queue_regs (g : Gnt) (q : JReq) : (g.queue q).regs = g.regs := by simp [Gnt.queue]
@[simp] theorem Gnt.queue_saved (g : Gnt) (q : JReq) : (g.queue q).saved = g.saved := by simp [Gnt.queue]
@[simp] theorem Gnt.queue_pendingE (g : Gnt) (q : JReq) : (g.queue q).pendingE = g.pendingE := by simp [Gnt.queue]
@[simp] theorem Gnt.queue_remainder (g : Gnt) (q : JReq) : (g.queue q).remainder = g.remainder := by simp [Gnt.queue]
@[simp] theorem Gnt.queue_substRem (g : Gnt) (q : JReq) : (g.queue q).substRem = g.substRem := by simp [Gnt.queue]
@[simp] theorem Gnt.queue_testNow (g : Gnt) (q : JReq) : (g.queue q).testNow = g.testNow := by simp [Gnt.queue]
@[simp] theorem Gnt.queue_met (g : Gnt) (q : JReq) : (g.queue q).met = g.met := by simp [Gnt.queue]
@[simp] theorem Gnt.queue_audit (g : Gnt) (q : JReq) : (g.queue q).audit = g.audit := by simp [Gnt.queue]
@[simp] theorem Gnt.queue_cal (g : Gnt) (q : JReq) : (g.queue q).cal = g.cal := by simp [Gnt.queue]
@[simp] theorem Gnt.queue_fwVersion (g : Gnt) (q : JReq) : (g.queue q).fwVersion = g.fwVersion := by simp [Gnt.queue]
@[simp] theorem Gnt.queue_coverOpen (g : Gnt) (q : JReq) : (g.queue q).coverOpen = g.coverOpen := by simp [Gnt.queue]
@[simp] theorem Gnt.queue_traceBroken (g : Gnt) (q : JReq) : (g.queue q).traceBroken = g.traceBroken := by simp [Gnt.queue]
@[simp] theorem Gnt.queue_settle (g : Gnt) (q : JReq) : (g.queue q).settle = g.settle := by simp [Gnt.queue]
@[simp] theorem Gnt.queue_lastGood (g : Gnt) (q : JReq) : (g.queue q).lastGood = g.lastGood := by simp [Gnt.queue]
@[simp] theorem Gnt.queue_window (g : Gnt) (q : JReq) : (g.queue q).window = g.window := by simp [Gnt.queue]
@[simp] theorem Gnt.queue_goodRun (g : Gnt) (q : JReq) : (g.queue q).goodRun = g.goodRun := by simp [Gnt.queue]
@[simp] theorem Gnt.queue_openPairs (g : Gnt) (q : JReq) : (g.queue q).openPairs = g.openPairs := by simp [Gnt.queue]
@[simp] theorem Gnt.queue_lowV (g : Gnt) (q : JReq) : (g.queue q).lowV = g.lowV := by simp [Gnt.queue]
@[simp] theorem Gnt.queue_a0Hot (g : Gnt) (q : JReq) : (g.queue q).a0Hot = g.a0Hot := by simp [Gnt.queue]
@[simp] theorem Gnt.queue_a0Cool (g : Gnt) (q : JReq) : (g.queue q).a0Cool = g.a0Cool := by simp [Gnt.queue]
@[simp] theorem Gnt.queue_stopA0 (g : Gnt) (q : JReq) : (g.queue q).stopA0 = g.stopA0 := by simp [Gnt.queue]
@[simp] theorem Gnt.queue_auxMux (g : Gnt) (q : JReq) : (g.queue q).auxMux = g.auxMux := by simp [Gnt.queue]
@[simp] theorem Gnt.queue_auxCount (g : Gnt) (q : JReq) : (g.queue q).auxCount = g.auxCount := by simp [Gnt.queue]
@[simp] theorem Gnt.queue_auxGroup (g : Gnt) (q : JReq) : (g.queue q).auxGroup = g.auxGroup := by simp [Gnt.queue]
@[simp] theorem Gnt.queue_a1 (g : Gnt) (q : JReq) : (g.queue q).a1 = g.a1 := by simp [Gnt.queue]
@[simp] theorem Gnt.queue_a2 (g : Gnt) (q : JReq) : (g.queue q).a2 = g.a2 := by simp [Gnt.queue]
@[simp] theorem Gnt.queue_a3 (g : Gnt) (q : JReq) : (g.queue q).a3 = g.a3 := by simp [Gnt.queue]
@[simp] theorem Gnt.queue_delayed (g : Gnt) (q : JReq) : (g.queue q).delayed = g.delayed := by simp [Gnt.queue]
@[simp] theorem Gnt.queue_journal (g : Gnt) (q : JReq) : (g.queue q).journal = g.journal := by simp [Gnt.queue]
@[simp] theorem Gnt.queue_seq (g : Gnt) (q : JReq) : (g.queue q).seq = g.seq := by simp [Gnt.queue]
@[simp] theorem Gnt.queue_setNo (g : Gnt) (q : JReq) : (g.queue q).setNo = g.setNo := by simp [Gnt.queue]
@[simp] theorem Gnt.queue_lastDigest (g : Gnt) (q : JReq) : (g.queue q).lastDigest = g.lastDigest := by simp [Gnt.queue]
@[simp] theorem Gnt.queue_setFailed (g : Gnt) (q : JReq) : (g.queue q).setFailed = g.setFailed := by simp [Gnt.queue]
@[simp] theorem Gnt.queue_sinceSet (g : Gnt) (q : JReq) : (g.queue q).sinceSet = g.sinceSet := by simp [Gnt.queue]
@[simp] theorem Gnt.queue_lastFrame (g : Gnt) (q : JReq) : (g.queue q).lastFrame = g.lastFrame := by simp [Gnt.queue]
@[simp] theorem Gnt.queue_flagsSeen (g : Gnt) (q : JReq) : (g.queue q).flagsSeen = g.flagsSeen := by simp [Gnt.queue]
@[simp] theorem Gnt.queue_lastReport (g : Gnt) (q : JReq) : (g.queue q).lastReport = g.lastReport := by simp [Gnt.queue]
@[simp] theorem Gnt.queue_reportAt (g : Gnt) (q : JReq) : (g.queue q).reportAt = g.reportAt := by simp [Gnt.queue]
@[simp] theorem Gnt.queue_live (g : Gnt) (q : JReq) : (g.queue q).live = g.live := by simp [Gnt.queue]

/-- The records in writing and waiting stay the same ones, in order. -/
theorem Gnt.startWrite_waiting (g : Gnt) :
    (g.startWrite.writing.map (fun w => w.req)).toList ++ g.startWrite.queued = (g.writing.map (fun w => w.req)).toList ++ g.queued := by
  unfold Gnt.startWrite
  split
  · rename_i q rest hw hq
    split
    · rfl
    · simp [hw, hq]
  · rfl

theorem Gnt.queue_waiting (g : Gnt) (q : JReq) :
    ((g.queue q).writing.map (fun w => w.req)).toList ++ (g.queue q).queued =
      (g.writing.map (fun w => w.req)).toList ++ g.queued ++ [q] := by
  unfold Gnt.queue
  rw [Gnt.startWrite_waiting]
  simp

/-- A synchronising reset (R360) touches the filters' state alone. -/
theorem Gnt.syncReset_frame (g : Gnt) :
    g.syncReset = { g with settle := 3, lastGood := [], delayed := g.syncReset.delayed } := rfl

/-- The meter after a command of its own. -/
theorem State.meter_gnt (s : State) (f : Gnt → Gnt) : (s.meter f).gnt = f s.gnt := rfl

theorem State.meter_frame (s : State) (f : Gnt → Gnt) : s.meter f = { s with gnt := f s.gnt, dev := (s.meter f).dev } := rfl

end Sys2Proof.Machine
end

