-- ==== Sys2Proof/Laws/Reset.lean ====
section
/-! SUPPORT. What the clearing of the hub leaves. -/

namespace Sys2Proof.Machine

theorem hostOnly_byte (m : Mem) (a : Nat) : (hostOnly m).byte a = if hostBase ≤ a then m.byte a else 0 := by
  simp only [Mem.byte, hostOnly, cellAt_eq]
  by_cases h : hostBase ≤ a
  · rw [if_pos h]
    congr 1
    exact KMap.find_filter m.cells (fun k => decide (hostBase ≤ k)) a (by simpa using h)
  · rw [if_neg h]
    have e : KMap.find (m.cells.filter (fun c => decide (hostBase ≤ c.1)) : List Host.Cell) a = none :=
      KMap.find_filter_none m.cells (fun k => decide (hostBase ≤ k)) a (by simpa using h)
    rw [e]
    rfl

theorem hostOnly_wf {m : Mem} (h : m.wf = true) : (hostOnly m).wf = true := cellsWf_filter h _

@[simp] theorem hostOnly_lines (m : Mem) : (hostOnly m).lines = [] := rfl
@[simp] theorem hostOnly_armed (m : Mem) : (hostOnly m).armed = [] := rfl

/-- A torn flash write changes values of the dictionary and the free values alone. -/
theorem Dev.tearFlash_frame (d : Dev) : d.tearFlash = { d with dict := d.tearFlash.dict, free := d.tearFlash.free } := by
  unfold Dev.tearFlash Dev.freeBelow
  split
  · by_cases hc : Config.freeNat d.free % 2 = 0
    · simp [hc]
    · simp [hc, Dev.setObj]
  · rfl

theorem Dev.hubClear_mem (d : Dev) : d.hubClear.mem = hostOnly d.mem := by
  unfold Dev.hubClear
  rw [Dev.tearFlash_frame]

theorem Dev.hubClear_pwr (d : Dev) : d.hubClear.pwr = d.pwr := by
  unfold Dev.hubClear
  rw [Dev.tearFlash_frame]

theorem Dev.hubClear_boot (d : Dev) : d.hubClear.boot = d.boot := by
  unfold Dev.hubClear
  rw [Dev.tearFlash_frame]

theorem Dev.hubClear_jtag (d : Dev) : d.hubClear.jtag = d.jtag := by
  unfold Dev.hubClear
  rw [Dev.tearFlash_frame]

theorem Dev.hubClear_mgt (d : Dev) : d.hubClear.mgt = d.mgt := by
  unfold Dev.hubClear
  rw [Dev.tearFlash_frame]

theorem Dev.hubClear_emits (d : Dev) : d.hubClear.emits = d.emits := by
  unfold Dev.hubClear
  rw [Dev.tearFlash_frame]

@[simp] theorem Dev.hubClear_rings (d : Dev) : d.hubClear.rings = [] := rfl
@[simp] theorem Dev.hubClear_jobs (d : Dev) : d.hubClear.jobs = [] := rfl
@[simp] theorem Dev.hubClear_tiles (d : Dev) : d.hubClear.tiles = [] := rfl
@[simp] theorem Dev.hubClear_cores (d : Dev) : d.hubClear.cores = [] := rfl
@[simp] theorem Dev.hubClear_sfu (d : Dev) : d.hubClear.sfu = [] := rfl
@[simp] theorem Dev.hubClear_fns (d : Dev) : d.hubClear.fns = [] := rfl
@[simp] theorem Dev.hubClear_stu (d : Dev) : d.hubClear.stu = {} := rfl
@[simp] theorem Dev.hubClear_kv (d : Dev) : d.hubClear.kv = {} := rfl
@[simp] theorem Dev.hubClear_scout (d : Dev) : d.hubClear.scout = {} := rfl
@[simp] theorem Dev.hubClear_solv (d : Dev) : d.hubClear.solv = {} := rfl
@[simp] theorem Dev.hubClear_scale (d : Dev) : d.hubClear.scale = {} := rfl
@[simp] theorem Dev.hubClear_numVfs (d : Dev) : d.hubClear.numVfs = 0 := rfl

end Sys2Proof.Machine
end

