-- ==== Sys2Proof/Laws/State.lean ====
section
/-! SUPPORT. One lemma per field and named update of the device: a field that an update does not name stays. -/

namespace Sys2Proof.Machine

/-! ### setTile -/

@[simp] theorem Dev.setTile_pwr (d : Dev) (k : Nat) (x : Tile) : (d.setTile k x).pwr = d.pwr := rfl
@[simp] theorem Dev.setTile_jtag (d : Dev) (k : Nat) (x : Tile) : (d.setTile k x).jtag = d.jtag := rfl
@[simp] theorem Dev.setTile_mgt (d : Dev) (k : Nat) (x : Tile) : (d.setTile k x).mgt = d.mgt := rfl
@[simp] theorem Dev.setTile_therm (d : Dev) (k : Nat) (x : Tile) : (d.setTile k x).therm = d.therm := rfl
@[simp] theorem Dev.setTile_clk (d : Dev) (k : Nat) (x : Tile) : (d.setTile k x).clk = d.clk := rfl
@[simp] theorem Dev.setTile_boot (d : Dev) (k : Nat) (x : Tile) : (d.setTile k x).boot = d.boot := rfl
@[simp] theorem Dev.setTile_dict (d : Dev) (k : Nat) (x : Tile) : (d.setTile k x).dict = d.dict := rfl
@[simp] theorem Dev.setTile_srv (d : Dev) (k : Nat) (x : Tile) : (d.setTile k x).srv = d.srv := rfl
@[simp] theorem Dev.setTile_fns (d : Dev) (k : Nat) (x : Tile) : (d.setTile k x).fns = d.fns := rfl
@[simp] theorem Dev.setTile_numVfs (d : Dev) (k : Nat) (x : Tile) : (d.setTile k x).numVfs = d.numVfs := rfl
@[simp] theorem Dev.setTile_nonces (d : Dev) (k : Nat) (x : Tile) : (d.setTile k x).nonces = d.nonces := rfl
@[simp] theorem Dev.setTile_rings (d : Dev) (k : Nat) (x : Tile) : (d.setTile k x).rings = d.rings := rfl
@[simp] theorem Dev.setTile_jobs (d : Dev) (k : Nat) (x : Tile) : (d.setTile k x).jobs = d.jobs := rfl
@[simp] theorem Dev.setTile_nextJob (d : Dev) (k : Nat) (x : Tile) : (d.setTile k x).nextJob = d.nextJob := rfl
@[simp] theorem Dev.setTile_lastTurn (d : Dev) (k : Nat) (x : Tile) : (d.setTile k x).lastTurn = d.lastTurn := rfl
@[simp] theorem Dev.setTile_mem (d : Dev) (k : Nat) (x : Tile) : (d.setTile k x).mem = d.mem := rfl
@[simp] theorem Dev.setTile_stu (d : Dev) (k : Nat) (x : Tile) : (d.setTile k x).stu = d.stu := rfl
@[simp] theorem Dev.setTile_cores (d : Dev) (k : Nat) (x : Tile) : (d.setTile k x).cores = d.cores := rfl
@[simp] theorem Dev.setTile_kv (d : Dev) (k : Nat) (x : Tile) : (d.setTile k x).kv = d.kv := rfl
@[simp] theorem Dev.setTile_sfu (d : Dev) (k : Nat) (x : Tile) : (d.setTile k x).sfu = d.sfu := rfl
@[simp] theorem Dev.setTile_scout (d : Dev) (k : Nat) (x : Tile) : (d.setTile k x).scout = d.scout := rfl
@[simp] theorem Dev.setTile_solv (d : Dev) (k : Nat) (x : Tile) : (d.setTile k x).solv = d.solv := rfl
@[simp] theorem Dev.setTile_scale (d : Dev) (k : Nat) (x : Tile) : (d.setTile k x).scale = d.scale := rfl
@[simp] theorem Dev.setTile_mirror (d : Dev) (k : Nat) (x : Tile) : (d.setTile k x).mirror = d.mirror := rfl
@[simp] theorem Dev.setTile_err (d : Dev) (k : Nat) (x : Tile) : (d.setTile k x).err = d.err := rfl
@[simp] theorem Dev.setTile_emits (d : Dev) (k : Nat) (x : Tile) : (d.setTile k x).emits = d.emits := rfl
@[simp] theorem Dev.setTile_free (d : Dev) (k : Nat) (x : Tile) : (d.setTile k x).free = d.free := rfl

/-! ### updTile -/

@[simp] theorem Dev.updTile_pwr (d : Dev) (k : Nat) (f : Tile → Tile) : (d.updTile k f).pwr = d.pwr := rfl
@[simp] theorem Dev.updTile_jtag (d : Dev) (k : Nat) (f : Tile → Tile) : (d.updTile k f).jtag = d.jtag := rfl
@[simp] theorem Dev.updTile_mgt (d : Dev) (k : Nat) (f : Tile → Tile) : (d.updTile k f).mgt = d.mgt := rfl
@[simp] theorem Dev.updTile_therm (d : Dev) (k : Nat) (f : Tile → Tile) : (d.updTile k f).therm = d.therm := rfl
@[simp] theorem Dev.updTile_clk (d : Dev) (k : Nat) (f : Tile → Tile) : (d.updTile k f).clk = d.clk := rfl
@[simp] theorem Dev.updTile_boot (d : Dev) (k : Nat) (f : Tile → Tile) : (d.updTile k f).boot = d.boot := rfl
@[simp] theorem Dev.updTile_dict (d : Dev) (k : Nat) (f : Tile → Tile) : (d.updTile k f).dict = d.dict := rfl
@[simp] theorem Dev.updTile_srv (d : Dev) (k : Nat) (f : Tile → Tile) : (d.updTile k f).srv = d.srv := rfl
@[simp] theorem Dev.updTile_fns (d : Dev) (k : Nat) (f : Tile → Tile) : (d.updTile k f).fns = d.fns := rfl
@[simp] theorem Dev.updTile_numVfs (d : Dev) (k : Nat) (f : Tile → Tile) : (d.updTile k f).numVfs = d.numVfs := rfl
@[simp] theorem Dev.updTile_nonces (d : Dev) (k : Nat) (f : Tile → Tile) : (d.updTile k f).nonces = d.nonces := rfl
@[simp] theorem Dev.updTile_rings (d : Dev) (k : Nat) (f : Tile → Tile) : (d.updTile k f).rings = d.rings := rfl
@[simp] theorem Dev.updTile_jobs (d : Dev) (k : Nat) (f : Tile → Tile) : (d.updTile k f).jobs = d.jobs := rfl
@[simp] theorem Dev.updTile_nextJob (d : Dev) (k : Nat) (f : Tile → Tile) : (d.updTile k f).nextJob = d.nextJob := rfl
@[simp] theorem Dev.updTile_lastTurn (d : Dev) (k : Nat) (f : Tile → Tile) : (d.updTile k f).lastTurn = d.lastTurn := rfl
@[simp] theorem Dev.updTile_mem (d : Dev) (k : Nat) (f : Tile → Tile) : (d.updTile k f).mem = d.mem := rfl
@[simp] theorem Dev.updTile_stu (d : Dev) (k : Nat) (f : Tile → Tile) : (d.updTile k f).stu = d.stu := rfl
@[simp] theorem Dev.updTile_cores (d : Dev) (k : Nat) (f : Tile → Tile) : (d.updTile k f).cores = d.cores := rfl
@[simp] theorem Dev.updTile_kv (d : Dev) (k : Nat) (f : Tile → Tile) : (d.updTile k f).kv = d.kv := rfl
@[simp] theorem Dev.updTile_sfu (d : Dev) (k : Nat) (f : Tile → Tile) : (d.updTile k f).sfu = d.sfu := rfl
@[simp] theorem Dev.updTile_scout (d : Dev) (k : Nat) (f : Tile → Tile) : (d.updTile k f).scout = d.scout := rfl
@[simp] theorem Dev.updTile_solv (d : Dev) (k : Nat) (f : Tile → Tile) : (d.updTile k f).solv = d.solv := rfl
@[simp] theorem Dev.updTile_scale (d : Dev) (k : Nat) (f : Tile → Tile) : (d.updTile k f).scale = d.scale := rfl
@[simp] theorem Dev.updTile_mirror (d : Dev) (k : Nat) (f : Tile → Tile) : (d.updTile k f).mirror = d.mirror := rfl
@[simp] theorem Dev.updTile_err (d : Dev) (k : Nat) (f : Tile → Tile) : (d.updTile k f).err = d.err := rfl
@[simp] theorem Dev.updTile_emits (d : Dev) (k : Nat) (f : Tile → Tile) : (d.updTile k f).emits = d.emits := rfl
@[simp] theorem Dev.updTile_free (d : Dev) (k : Nat) (f : Tile → Tile) : (d.updTile k f).free = d.free := rfl

/-! ### setRing -/

@[simp] theorem Dev.setRing_pwr (d : Dev) (k : Nat) (x : Ring) : (d.setRing k x).pwr = d.pwr := rfl
@[simp] theorem Dev.setRing_jtag (d : Dev) (k : Nat) (x : Ring) : (d.setRing k x).jtag = d.jtag := rfl
@[simp] theorem Dev.setRing_mgt (d : Dev) (k : Nat) (x : Ring) : (d.setRing k x).mgt = d.mgt := rfl
@[simp] theorem Dev.setRing_therm (d : Dev) (k : Nat) (x : Ring) : (d.setRing k x).therm = d.therm := rfl
@[simp] theorem Dev.setRing_clk (d : Dev) (k : Nat) (x : Ring) : (d.setRing k x).clk = d.clk := rfl
@[simp] theorem Dev.setRing_boot (d : Dev) (k : Nat) (x : Ring) : (d.setRing k x).boot = d.boot := rfl
@[simp] theorem Dev.setRing_dict (d : Dev) (k : Nat) (x : Ring) : (d.setRing k x).dict = d.dict := rfl
@[simp] theorem Dev.setRing_srv (d : Dev) (k : Nat) (x : Ring) : (d.setRing k x).srv = d.srv := rfl
@[simp] theorem Dev.setRing_fns (d : Dev) (k : Nat) (x : Ring) : (d.setRing k x).fns = d.fns := rfl
@[simp] theorem Dev.setRing_numVfs (d : Dev) (k : Nat) (x : Ring) : (d.setRing k x).numVfs = d.numVfs := rfl
@[simp] theorem Dev.setRing_nonces (d : Dev) (k : Nat) (x : Ring) : (d.setRing k x).nonces = d.nonces := rfl
@[simp] theorem Dev.setRing_jobs (d : Dev) (k : Nat) (x : Ring) : (d.setRing k x).jobs = d.jobs := rfl
@[simp] theorem Dev.setRing_nextJob (d : Dev) (k : Nat) (x : Ring) : (d.setRing k x).nextJob = d.nextJob := rfl
@[simp] theorem Dev.setRing_lastTurn (d : Dev) (k : Nat) (x : Ring) : (d.setRing k x).lastTurn = d.lastTurn := rfl
@[simp] theorem Dev.setRing_mem (d : Dev) (k : Nat) (x : Ring) : (d.setRing k x).mem = d.mem := rfl
@[simp] theorem Dev.setRing_stu (d : Dev) (k : Nat) (x : Ring) : (d.setRing k x).stu = d.stu := rfl
@[simp] theorem Dev.setRing_tiles (d : Dev) (k : Nat) (x : Ring) : (d.setRing k x).tiles = d.tiles := rfl
@[simp] theorem Dev.setRing_cores (d : Dev) (k : Nat) (x : Ring) : (d.setRing k x).cores = d.cores := rfl
@[simp] theorem Dev.setRing_kv (d : Dev) (k : Nat) (x : Ring) : (d.setRing k x).kv = d.kv := rfl
@[simp] theorem Dev.setRing_sfu (d : Dev) (k : Nat) (x : Ring) : (d.setRing k x).sfu = d.sfu := rfl
@[simp] theorem Dev.setRing_scout (d : Dev) (k : Nat) (x : Ring) : (d.setRing k x).scout = d.scout := rfl
@[simp] theorem Dev.setRing_solv (d : Dev) (k : Nat) (x : Ring) : (d.setRing k x).solv = d.solv := rfl
@[simp] theorem Dev.setRing_scale (d : Dev) (k : Nat) (x : Ring) : (d.setRing k x).scale = d.scale := rfl
@[simp] theorem Dev.setRing_mirror (d : Dev) (k : Nat) (x : Ring) : (d.setRing k x).mirror = d.mirror := rfl
@[simp] theorem Dev.setRing_err (d : Dev) (k : Nat) (x : Ring) : (d.setRing k x).err = d.err := rfl
@[simp] theorem Dev.setRing_emits (d : Dev) (k : Nat) (x : Ring) : (d.setRing k x).emits = d.emits := rfl
@[simp] theorem Dev.setRing_free (d : Dev) (k : Nat) (x : Ring) : (d.setRing k x).free = d.free := rfl

/-! ### updRing -/

@[simp] theorem Dev.updRing_pwr (d : Dev) (k : Nat) (f : Ring → Ring) : (d.updRing k f).pwr = d.pwr := rfl
@[simp] theorem Dev.updRing_jtag (d : Dev) (k : Nat) (f : Ring → Ring) : (d.updRing k f).jtag = d.jtag := rfl
@[simp] theorem Dev.updRing_mgt (d : Dev) (k : Nat) (f : Ring → Ring) : (d.updRing k f).mgt = d.mgt := rfl
@[simp] theorem Dev.updRing_therm (d : Dev) (k : Nat) (f : Ring → Ring) : (d.updRing k f).therm = d.therm := rfl
@[simp] theorem Dev.updRing_clk (d : Dev) (k : Nat) (f : Ring → Ring) : (d.updRing k f).clk = d.clk := rfl
@[simp] theorem Dev.updRing_boot (d : Dev) (k : Nat) (f : Ring → Ring) : (d.updRing k f).boot = d.boot := rfl
@[simp] theorem Dev.updRing_dict (d : Dev) (k : Nat) (f : Ring → Ring) : (d.updRing k f).dict = d.dict := rfl
@[simp] theorem Dev.updRing_srv (d : Dev) (k : Nat) (f : Ring → Ring) : (d.updRing k f).srv = d.srv := rfl
@[simp] theorem Dev.updRing_fns (d : Dev) (k : Nat) (f : Ring → Ring) : (d.updRing k f).fns = d.fns := rfl
@[simp] theorem Dev.updRing_numVfs (d : Dev) (k : Nat) (f : Ring → Ring) : (d.updRing k f).numVfs = d.numVfs := rfl
@[simp] theorem Dev.updRing_nonces (d : Dev) (k : Nat) (f : Ring → Ring) : (d.updRing k f).nonces = d.nonces := rfl
@[simp] theorem Dev.updRing_jobs (d : Dev) (k : Nat) (f : Ring → Ring) : (d.updRing k f).jobs = d.jobs := rfl
@[simp] theorem Dev.updRing_nextJob (d : Dev) (k : Nat) (f : Ring → Ring) : (d.updRing k f).nextJob = d.nextJob := rfl
@[simp] theorem Dev.updRing_lastTurn (d : Dev) (k : Nat) (f : Ring → Ring) : (d.updRing k f).lastTurn = d.lastTurn := rfl
@[simp] theorem Dev.updRing_mem (d : Dev) (k : Nat) (f : Ring → Ring) : (d.updRing k f).mem = d.mem := rfl
@[simp] theorem Dev.updRing_stu (d : Dev) (k : Nat) (f : Ring → Ring) : (d.updRing k f).stu = d.stu := rfl
@[simp] theorem Dev.updRing_tiles (d : Dev) (k : Nat) (f : Ring → Ring) : (d.updRing k f).tiles = d.tiles := rfl
@[simp] theorem Dev.updRing_cores (d : Dev) (k : Nat) (f : Ring → Ring) : (d.updRing k f).cores = d.cores := rfl
@[simp] theorem Dev.updRing_kv (d : Dev) (k : Nat) (f : Ring → Ring) : (d.updRing k f).kv = d.kv := rfl
@[simp] theorem Dev.updRing_sfu (d : Dev) (k : Nat) (f : Ring → Ring) : (d.updRing k f).sfu = d.sfu := rfl
@[simp] theorem Dev.updRing_scout (d : Dev) (k : Nat) (f : Ring → Ring) : (d.updRing k f).scout = d.scout := rfl
@[simp] theorem Dev.updRing_solv (d : Dev) (k : Nat) (f : Ring → Ring) : (d.updRing k f).solv = d.solv := rfl
@[simp] theorem Dev.updRing_scale (d : Dev) (k : Nat) (f : Ring → Ring) : (d.updRing k f).scale = d.scale := rfl
@[simp] theorem Dev.updRing_mirror (d : Dev) (k : Nat) (f : Ring → Ring) : (d.updRing k f).mirror = d.mirror := rfl
@[simp] theorem Dev.updRing_err (d : Dev) (k : Nat) (f : Ring → Ring) : (d.updRing k f).err = d.err := rfl
@[simp] theorem Dev.updRing_emits (d : Dev) (k : Nat) (f : Ring → Ring) : (d.updRing k f).emits = d.emits := rfl
@[simp] theorem Dev.updRing_free (d : Dev) (k : Nat) (f : Ring → Ring) : (d.updRing k f).free = d.free := rfl

/-! ### setJob -/

@[simp] theorem Dev.setJob_pwr (d : Dev) (k : Nat) (x : Job) : (d.setJob k x).pwr = d.pwr := rfl
@[simp] theorem Dev.setJob_jtag (d : Dev) (k : Nat) (x : Job) : (d.setJob k x).jtag = d.jtag := rfl
@[simp] theorem Dev.setJob_mgt (d : Dev) (k : Nat) (x : Job) : (d.setJob k x).mgt = d.mgt := rfl
@[simp] theorem Dev.setJob_therm (d : Dev) (k : Nat) (x : Job) : (d.setJob k x).therm = d.therm := rfl
@[simp] theorem Dev.setJob_clk (d : Dev) (k : Nat) (x : Job) : (d.setJob k x).clk = d.clk := rfl
@[simp] theorem Dev.setJob_boot (d : Dev) (k : Nat) (x : Job) : (d.setJob k x).boot = d.boot := rfl
@[simp] theorem Dev.setJob_dict (d : Dev) (k : Nat) (x : Job) : (d.setJob k x).dict = d.dict := rfl
@[simp] theorem Dev.setJob_srv (d : Dev) (k : Nat) (x : Job) : (d.setJob k x).srv = d.srv := rfl
@[simp] theorem Dev.setJob_fns (d : Dev) (k : Nat) (x : Job) : (d.setJob k x).fns = d.fns := rfl
@[simp] theorem Dev.setJob_numVfs (d : Dev) (k : Nat) (x : Job) : (d.setJob k x).numVfs = d.numVfs := rfl
@[simp] theorem Dev.setJob_nonces (d : Dev) (k : Nat) (x : Job) : (d.setJob k x).nonces = d.nonces := rfl
@[simp] theorem Dev.setJob_rings (d : Dev) (k : Nat) (x : Job) : (d.setJob k x).rings = d.rings := rfl
@[simp] theorem Dev.setJob_nextJob (d : Dev) (k : Nat) (x : Job) : (d.setJob k x).nextJob = d.nextJob := rfl
@[simp] theorem Dev.setJob_lastTurn (d : Dev) (k : Nat) (x : Job) : (d.setJob k x).lastTurn = d.lastTurn := rfl
@[simp] theorem Dev.setJob_mem (d : Dev) (k : Nat) (x : Job) : (d.setJob k x).mem = d.mem := rfl
@[simp] theorem Dev.setJob_stu (d : Dev) (k : Nat) (x : Job) : (d.setJob k x).stu = d.stu := rfl
@[simp] theorem Dev.setJob_tiles (d : Dev) (k : Nat) (x : Job) : (d.setJob k x).tiles = d.tiles := rfl
@[simp] theorem Dev.setJob_cores (d : Dev) (k : Nat) (x : Job) : (d.setJob k x).cores = d.cores := rfl
@[simp] theorem Dev.setJob_kv (d : Dev) (k : Nat) (x : Job) : (d.setJob k x).kv = d.kv := rfl
@[simp] theorem Dev.setJob_sfu (d : Dev) (k : Nat) (x : Job) : (d.setJob k x).sfu = d.sfu := rfl
@[simp] theorem Dev.setJob_scout (d : Dev) (k : Nat) (x : Job) : (d.setJob k x).scout = d.scout := rfl
@[simp] theorem Dev.setJob_solv (d : Dev) (k : Nat) (x : Job) : (d.setJob k x).solv = d.solv := rfl
@[simp] theorem Dev.setJob_scale (d : Dev) (k : Nat) (x : Job) : (d.setJob k x).scale = d.scale := rfl
@[simp] theorem Dev.setJob_mirror (d : Dev) (k : Nat) (x : Job) : (d.setJob k x).mirror = d.mirror := rfl
@[simp] theorem Dev.setJob_err (d : Dev) (k : Nat) (x : Job) : (d.setJob k x).err = d.err := rfl
@[simp] theorem Dev.setJob_emits (d : Dev) (k : Nat) (x : Job) : (d.setJob k x).emits = d.emits := rfl
@[simp] theorem Dev.setJob_free (d : Dev) (k : Nat) (x : Job) : (d.setJob k x).free = d.free := rfl

/-! ### setFn -/

@[simp] theorem Dev.setFn_pwr (d : Dev) (k : Nat) (x : Fn) : (d.setFn k x).pwr = d.pwr := rfl
@[simp] theorem Dev.setFn_jtag (d : Dev) (k : Nat) (x : Fn) : (d.setFn k x).jtag = d.jtag := rfl
@[simp] theorem Dev.setFn_mgt (d : Dev) (k : Nat) (x : Fn) : (d.setFn k x).mgt = d.mgt := rfl
@[simp] theorem Dev.setFn_therm (d : Dev) (k : Nat) (x : Fn) : (d.setFn k x).therm = d.therm := rfl
@[simp] theorem Dev.setFn_clk (d : Dev) (k : Nat) (x : Fn) : (d.setFn k x).clk = d.clk := rfl
@[simp] theorem Dev.setFn_boot (d : Dev) (k : Nat) (x : Fn) : (d.setFn k x).boot = d.boot := rfl
@[simp] theorem Dev.setFn_dict (d : Dev) (k : Nat) (x : Fn) : (d.setFn k x).dict = d.dict := rfl
@[simp] theorem Dev.setFn_srv (d : Dev) (k : Nat) (x : Fn) : (d.setFn k x).srv = d.srv := rfl
@[simp] theorem Dev.setFn_numVfs (d : Dev) (k : Nat) (x : Fn) : (d.setFn k x).numVfs = d.numVfs := rfl
@[simp] theorem Dev.setFn_nonces (d : Dev) (k : Nat) (x : Fn) : (d.setFn k x).nonces = d.nonces := rfl
@[simp] theorem Dev.setFn_rings (d : Dev) (k : Nat) (x : Fn) : (d.setFn k x).rings = d.rings := rfl
@[simp] theorem Dev.setFn_jobs (d : Dev) (k : Nat) (x : Fn) : (d.setFn k x).jobs = d.jobs := rfl
@[simp] theorem Dev.setFn_nextJob (d : Dev) (k : Nat) (x : Fn) : (d.setFn k x).nextJob = d.nextJob := rfl
@[simp] theorem Dev.setFn_lastTurn (d : Dev) (k : Nat) (x : Fn) : (d.setFn k x).lastTurn = d.lastTurn := rfl
@[simp] theorem Dev.setFn_mem (d : Dev) (k : Nat) (x : Fn) : (d.setFn k x).mem = d.mem := rfl
@[simp] theorem Dev.setFn_stu (d : Dev) (k : Nat) (x : Fn) : (d.setFn k x).stu = d.stu := rfl
@[simp] theorem Dev.setFn_tiles (d : Dev) (k : Nat) (x : Fn) : (d.setFn k x).tiles = d.tiles := rfl
@[simp] theorem Dev.setFn_cores (d : Dev) (k : Nat) (x : Fn) : (d.setFn k x).cores = d.cores := rfl
@[simp] theorem Dev.setFn_kv (d : Dev) (k : Nat) (x : Fn) : (d.setFn k x).kv = d.kv := rfl
@[simp] theorem Dev.setFn_sfu (d : Dev) (k : Nat) (x : Fn) : (d.setFn k x).sfu = d.sfu := rfl
@[simp] theorem Dev.setFn_scout (d : Dev) (k : Nat) (x : Fn) : (d.setFn k x).scout = d.scout := rfl
@[simp] theorem Dev.setFn_solv (d : Dev) (k : Nat) (x : Fn) : (d.setFn k x).solv = d.solv := rfl
@[simp] theorem Dev.setFn_scale (d : Dev) (k : Nat) (x : Fn) : (d.setFn k x).scale = d.scale := rfl
@[simp] theorem Dev.setFn_mirror (d : Dev) (k : Nat) (x : Fn) : (d.setFn k x).mirror = d.mirror := rfl
@[simp] theorem Dev.setFn_err (d : Dev) (k : Nat) (x : Fn) : (d.setFn k x).err = d.err := rfl
@[simp] theorem Dev.setFn_emits (d : Dev) (k : Nat) (x : Fn) : (d.setFn k x).emits = d.emits := rfl
@[simp] theorem Dev.setFn_free (d : Dev) (k : Nat) (x : Fn) : (d.setFn k x).free = d.free := rfl

/-! ### updFn -/

@[simp] theorem Dev.updFn_pwr (d : Dev) (k : Nat) (f : Fn → Fn) : (d.updFn k f).pwr = d.pwr := rfl
@[simp] theorem Dev.updFn_jtag (d : Dev) (k : Nat) (f : Fn → Fn) : (d.updFn k f).jtag = d.jtag := rfl
@[simp] theorem Dev.updFn_mgt (d : Dev) (k : Nat) (f : Fn → Fn) : (d.updFn k f).mgt = d.mgt := rfl
@[simp] theorem Dev.updFn_therm (d : Dev) (k : Nat) (f : Fn → Fn) : (d.updFn k f).therm = d.therm := rfl
@[simp] theorem Dev.updFn_clk (d : Dev) (k : Nat) (f : Fn → Fn) : (d.updFn k f).clk = d.clk := rfl
@[simp] theorem Dev.updFn_boot (d : Dev) (k : Nat) (f : Fn → Fn) : (d.updFn k f).boot = d.boot := rfl
@[simp] theorem Dev.updFn_dict (d : Dev) (k : Nat) (f : Fn → Fn) : (d.updFn k f).dict = d.dict := rfl
@[simp] theorem Dev.updFn_srv (d : Dev) (k : Nat) (f : Fn → Fn) : (d.updFn k f).srv = d.srv := rfl
@[simp] theorem Dev.updFn_numVfs (d : Dev) (k : Nat) (f : Fn → Fn) : (d.updFn k f).numVfs = d.numVfs := rfl
@[simp] theorem Dev.updFn_nonces (d : Dev) (k : Nat) (f : Fn → Fn) : (d.updFn k f).nonces = d.nonces := rfl
@[simp] theorem Dev.updFn_rings (d : Dev) (k : Nat) (f : Fn → Fn) : (d.updFn k f).rings = d.rings := rfl
@[simp] theorem Dev.updFn_jobs (d : Dev) (k : Nat) (f : Fn → Fn) : (d.updFn k f).jobs = d.jobs := rfl
@[simp] theorem Dev.updFn_nextJob (d : Dev) (k : Nat) (f : Fn → Fn) : (d.updFn k f).nextJob = d.nextJob := rfl
@[simp] theorem Dev.updFn_lastTurn (d : Dev) (k : Nat) (f : Fn → Fn) : (d.updFn k f).lastTurn = d.lastTurn := rfl
@[simp] theorem Dev.updFn_mem (d : Dev) (k : Nat) (f : Fn → Fn) : (d.updFn k f).mem = d.mem := rfl
@[simp] theorem Dev.updFn_stu (d : Dev) (k : Nat) (f : Fn → Fn) : (d.updFn k f).stu = d.stu := rfl
@[simp] theorem Dev.updFn_tiles (d : Dev) (k : Nat) (f : Fn → Fn) : (d.updFn k f).tiles = d.tiles := rfl
@[simp] theorem Dev.updFn_cores (d : Dev) (k : Nat) (f : Fn → Fn) : (d.updFn k f).cores = d.cores := rfl
@[simp] theorem Dev.updFn_kv (d : Dev) (k : Nat) (f : Fn → Fn) : (d.updFn k f).kv = d.kv := rfl
@[simp] theorem Dev.updFn_sfu (d : Dev) (k : Nat) (f : Fn → Fn) : (d.updFn k f).sfu = d.sfu := rfl
@[simp] theorem Dev.updFn_scout (d : Dev) (k : Nat) (f : Fn → Fn) : (d.updFn k f).scout = d.scout := rfl
@[simp] theorem Dev.updFn_solv (d : Dev) (k : Nat) (f : Fn → Fn) : (d.updFn k f).solv = d.solv := rfl
@[simp] theorem Dev.updFn_scale (d : Dev) (k : Nat) (f : Fn → Fn) : (d.updFn k f).scale = d.scale := rfl
@[simp] theorem Dev.updFn_mirror (d : Dev) (k : Nat) (f : Fn → Fn) : (d.updFn k f).mirror = d.mirror := rfl
@[simp] theorem Dev.updFn_err (d : Dev) (k : Nat) (f : Fn → Fn) : (d.updFn k f).err = d.err := rfl
@[simp] theorem Dev.updFn_emits (d : Dev) (k : Nat) (f : Fn → Fn) : (d.updFn k f).emits = d.emits := rfl
@[simp] theorem Dev.updFn_free (d : Dev) (k : Nat) (f : Fn → Fn) : (d.updFn k f).free = d.free := rfl

/-! ### setArray -/

@[simp] theorem Dev.setArray_pwr (d : Dev) (k : Nat) (x : SArray) : (d.setArray k x).pwr = d.pwr := rfl
@[simp] theorem Dev.setArray_jtag (d : Dev) (k : Nat) (x : SArray) : (d.setArray k x).jtag = d.jtag := rfl
@[simp] theorem Dev.setArray_mgt (d : Dev) (k : Nat) (x : SArray) : (d.setArray k x).mgt = d.mgt := rfl
@[simp] theorem Dev.setArray_therm (d : Dev) (k : Nat) (x : SArray) : (d.setArray k x).therm = d.therm := rfl
@[simp] theorem Dev.setArray_clk (d : Dev) (k : Nat) (x : SArray) : (d.setArray k x).clk = d.clk := rfl
@[simp] theorem Dev.setArray_boot (d : Dev) (k : Nat) (x : SArray) : (d.setArray k x).boot = d.boot := rfl
@[simp] theorem Dev.setArray_dict (d : Dev) (k : Nat) (x : SArray) : (d.setArray k x).dict = d.dict := rfl
@[simp] theorem Dev.setArray_srv (d : Dev) (k : Nat) (x : SArray) : (d.setArray k x).srv = d.srv := rfl
@[simp] theorem Dev.setArray_fns (d : Dev) (k : Nat) (x : SArray) : (d.setArray k x).fns = d.fns := rfl
@[simp] theorem Dev.setArray_numVfs (d : Dev) (k : Nat) (x : SArray) : (d.setArray k x).numVfs = d.numVfs := rfl
@[simp] theorem Dev.setArray_nonces (d : Dev) (k : Nat) (x : SArray) : (d.setArray k x).nonces = d.nonces := rfl
@[simp] theorem Dev.setArray_rings (d : Dev) (k : Nat) (x : SArray) : (d.setArray k x).rings = d.rings := rfl
@[simp] theorem Dev.setArray_jobs (d : Dev) (k : Nat) (x : SArray) : (d.setArray k x).jobs = d.jobs := rfl
@[simp] theorem Dev.setArray_nextJob (d : Dev) (k : Nat) (x : SArray) : (d.setArray k x).nextJob = d.nextJob := rfl
@[simp] theorem Dev.setArray_lastTurn (d : Dev) (k : Nat) (x : SArray) : (d.setArray k x).lastTurn = d.lastTurn := rfl
@[simp] theorem Dev.setArray_mem (d : Dev) (k : Nat) (x : SArray) : (d.setArray k x).mem = d.mem := rfl
@[simp] theorem Dev.setArray_stu (d : Dev) (k : Nat) (x : SArray) : (d.setArray k x).stu = d.stu := rfl
@[simp] theorem Dev.setArray_tiles (d : Dev) (k : Nat) (x : SArray) : (d.setArray k x).tiles = d.tiles := rfl
@[simp] theorem Dev.setArray_cores (d : Dev) (k : Nat) (x : SArray) : (d.setArray k x).cores = d.cores := rfl
@[simp] theorem Dev.setArray_kv (d : Dev) (k : Nat) (x : SArray) : (d.setArray k x).kv = d.kv := rfl
@[simp] theorem Dev.setArray_sfu (d : Dev) (k : Nat) (x : SArray) : (d.setArray k x).sfu = d.sfu := rfl
@[simp] theorem Dev.setArray_solv (d : Dev) (k : Nat) (x : SArray) : (d.setArray k x).solv = d.solv := rfl
@[simp] theorem Dev.setArray_scale (d : Dev) (k : Nat) (x : SArray) : (d.setArray k x).scale = d.scale := rfl
@[simp] theorem Dev.setArray_mirror (d : Dev) (k : Nat) (x : SArray) : (d.setArray k x).mirror = d.mirror := rfl
@[simp] theorem Dev.setArray_err (d : Dev) (k : Nat) (x : SArray) : (d.setArray k x).err = d.err := rfl
@[simp] theorem Dev.setArray_emits (d : Dev) (k : Nat) (x : SArray) : (d.setArray k x).emits = d.emits := rfl
@[simp] theorem Dev.setArray_free (d : Dev) (k : Nat) (x : SArray) : (d.setArray k x).free = d.free := rfl

/-! ### setErrRing -/

@[simp] theorem Dev.setErrRing_pwr (d : Dev) (k : Nat) (x : ErrRing) : (d.setErrRing k x).pwr = d.pwr := rfl
@[simp] theorem Dev.setErrRing_jtag (d : Dev) (k : Nat) (x : ErrRing) : (d.setErrRing k x).jtag = d.jtag := rfl
@[simp] theorem Dev.setErrRing_mgt (d : Dev) (k : Nat) (x : ErrRing) : (d.setErrRing k x).mgt = d.mgt := rfl
@[simp] theorem Dev.setErrRing_therm (d : Dev) (k : Nat) (x : ErrRing) : (d.setErrRing k x).therm = d.therm := rfl
@[simp] theorem Dev.setErrRing_clk (d : Dev) (k : Nat) (x : ErrRing) : (d.setErrRing k x).clk = d.clk := rfl
@[simp] theorem Dev.setErrRing_boot (d : Dev) (k : Nat) (x : ErrRing) : (d.setErrRing k x).boot = d.boot := rfl
@[simp] theorem Dev.setErrRing_dict (d : Dev) (k : Nat) (x : ErrRing) : (d.setErrRing k x).dict = d.dict := rfl
@[simp] theorem Dev.setErrRing_srv (d : Dev) (k : Nat) (x : ErrRing) : (d.setErrRing k x).srv = d.srv := rfl
@[simp] theorem Dev.setErrRing_fns (d : Dev) (k : Nat) (x : ErrRing) : (d.setErrRing k x).fns = d.fns := rfl
@[simp] theorem Dev.setErrRing_numVfs (d : Dev) (k : Nat) (x : ErrRing) : (d.setErrRing k x).numVfs = d.numVfs := rfl
@[simp] theorem Dev.setErrRing_nonces (d : Dev) (k : Nat) (x : ErrRing) : (d.setErrRing k x).nonces = d.nonces := rfl
@[simp] theorem Dev.setErrRing_rings (d : Dev) (k : Nat) (x : ErrRing) : (d.setErrRing k x).rings = d.rings := rfl
@[simp] theorem Dev.setErrRing_jobs (d : Dev) (k : Nat) (x : ErrRing) : (d.setErrRing k x).jobs = d.jobs := rfl
@[simp] theorem Dev.setErrRing_nextJob (d : Dev) (k : Nat) (x : ErrRing) : (d.setErrRing k x).nextJob = d.nextJob := rfl
@[simp] theorem Dev.setErrRing_lastTurn (d : Dev) (k : Nat) (x : ErrRing) : (d.setErrRing k x).lastTurn = d.lastTurn := rfl
@[simp] theorem Dev.setErrRing_mem (d : Dev) (k : Nat) (x : ErrRing) : (d.setErrRing k x).mem = d.mem := rfl
@[simp] theorem Dev.setErrRing_stu (d : Dev) (k : Nat) (x : ErrRing) : (d.setErrRing k x).stu = d.stu := rfl
@[simp] theorem Dev.setErrRing_tiles (d : Dev) (k : Nat) (x : ErrRing) : (d.setErrRing k x).tiles = d.tiles := rfl
@[simp] theorem Dev.setErrRing_cores (d : Dev) (k : Nat) (x : ErrRing) : (d.setErrRing k x).cores = d.cores := rfl
@[simp] theorem Dev.setErrRing_kv (d : Dev) (k : Nat) (x : ErrRing) : (d.setErrRing k x).kv = d.kv := rfl
@[simp] theorem Dev.setErrRing_sfu (d : Dev) (k : Nat) (x : ErrRing) : (d.setErrRing k x).sfu = d.sfu := rfl
@[simp] theorem Dev.setErrRing_scout (d : Dev) (k : Nat) (x : ErrRing) : (d.setErrRing k x).scout = d.scout := rfl
@[simp] theorem Dev.setErrRing_solv (d : Dev) (k : Nat) (x : ErrRing) : (d.setErrRing k x).solv = d.solv := rfl
@[simp] theorem Dev.setErrRing_scale (d : Dev) (k : Nat) (x : ErrRing) : (d.setErrRing k x).scale = d.scale := rfl
@[simp] theorem Dev.setErrRing_mirror (d : Dev) (k : Nat) (x : ErrRing) : (d.setErrRing k x).mirror = d.mirror := rfl
@[simp] theorem Dev.setErrRing_emits (d : Dev) (k : Nat) (x : ErrRing) : (d.setErrRing k x).emits = d.emits := rfl
@[simp] theorem Dev.setErrRing_free (d : Dev) (k : Nat) (x : ErrRing) : (d.setErrRing k x).free = d.free := rfl

/-! ### setSlot -/

@[simp] theorem Dev.setSlot_pwr (d : Dev) (k : Nat) (x : SSlot) : (d.setSlot k x).pwr = d.pwr := rfl
@[simp] theorem Dev.setSlot_jtag (d : Dev) (k : Nat) (x : SSlot) : (d.setSlot k x).jtag = d.jtag := rfl
@[simp] theorem Dev.setSlot_mgt (d : Dev) (k : Nat) (x : SSlot) : (d.setSlot k x).mgt = d.mgt := rfl
@[simp] theorem Dev.setSlot_therm (d : Dev) (k : Nat) (x : SSlot) : (d.setSlot k x).therm = d.therm := rfl
@[simp] theorem Dev.setSlot_clk (d : Dev) (k : Nat) (x : SSlot) : (d.setSlot k x).clk = d.clk := rfl
@[simp] theorem Dev.setSlot_boot (d : Dev) (k : Nat) (x : SSlot) : (d.setSlot k x).boot = d.boot := rfl
@[simp] theorem Dev.setSlot_dict (d : Dev) (k : Nat) (x : SSlot) : (d.setSlot k x).dict = d.dict := rfl
@[simp] theorem Dev.setSlot_srv (d : Dev) (k : Nat) (x : SSlot) : (d.setSlot k x).srv = d.srv := rfl
@[simp] theorem Dev.setSlot_fns (d : Dev) (k : Nat) (x : SSlot) : (d.setSlot k x).fns = d.fns := rfl
@[simp] theorem Dev.setSlot_numVfs (d : Dev) (k : Nat) (x : SSlot) : (d.setSlot k x).numVfs = d.numVfs := rfl
@[simp] theorem Dev.setSlot_nonces (d : Dev) (k : Nat) (x : SSlot) : (d.setSlot k x).nonces = d.nonces := rfl
@[simp] theorem Dev.setSlot_rings (d : Dev) (k : Nat) (x : SSlot) : (d.setSlot k x).rings = d.rings := rfl
@[simp] theorem Dev.setSlot_jobs (d : Dev) (k : Nat) (x : SSlot) : (d.setSlot k x).jobs = d.jobs := rfl
@[simp] theorem Dev.setSlot_nextJob (d : Dev) (k : Nat) (x : SSlot) : (d.setSlot k x).nextJob = d.nextJob := rfl
@[simp] theorem Dev.setSlot_lastTurn (d : Dev) (k : Nat) (x : SSlot) : (d.setSlot k x).lastTurn = d.lastTurn := rfl
@[simp] theorem Dev.setSlot_mem (d : Dev) (k : Nat) (x : SSlot) : (d.setSlot k x).mem = d.mem := rfl
@[simp] theorem Dev.setSlot_stu (d : Dev) (k : Nat) (x : SSlot) : (d.setSlot k x).stu = d.stu := rfl
@[simp] theorem Dev.setSlot_tiles (d : Dev) (k : Nat) (x : SSlot) : (d.setSlot k x).tiles = d.tiles := rfl
@[simp] theorem Dev.setSlot_cores (d : Dev) (k : Nat) (x : SSlot) : (d.setSlot k x).cores = d.cores := rfl
@[simp] theorem Dev.setSlot_kv (d : Dev) (k : Nat) (x : SSlot) : (d.setSlot k x).kv = d.kv := rfl
@[simp] theorem Dev.setSlot_sfu (d : Dev) (k : Nat) (x : SSlot) : (d.setSlot k x).sfu = d.sfu := rfl
@[simp] theorem Dev.setSlot_scout (d : Dev) (k : Nat) (x : SSlot) : (d.setSlot k x).scout = d.scout := rfl
@[simp] theorem Dev.setSlot_scale (d : Dev) (k : Nat) (x : SSlot) : (d.setSlot k x).scale = d.scale := rfl
@[simp] theorem Dev.setSlot_mirror (d : Dev) (k : Nat) (x : SSlot) : (d.setSlot k x).mirror = d.mirror := rfl
@[simp] theorem Dev.setSlot_err (d : Dev) (k : Nat) (x : SSlot) : (d.setSlot k x).err = d.err := rfl
@[simp] theorem Dev.setSlot_emits (d : Dev) (k : Nat) (x : SSlot) : (d.setSlot k x).emits = d.emits := rfl
@[simp] theorem Dev.setSlot_free (d : Dev) (k : Nat) (x : SSlot) : (d.setSlot k x).free = d.free := rfl

/-! ### setChan -/

@[simp] theorem Dev.setChan_pwr (d : Dev) (k : Nat) (x : Chan) : (d.setChan k x).pwr = d.pwr := rfl
@[simp] theorem Dev.setChan_jtag (d : Dev) (k : Nat) (x : Chan) : (d.setChan k x).jtag = d.jtag := rfl
@[simp] theorem Dev.setChan_mgt (d : Dev) (k : Nat) (x : Chan) : (d.setChan k x).mgt = d.mgt := rfl
@[simp] theorem Dev.setChan_therm (d : Dev) (k : Nat) (x : Chan) : (d.setChan k x).therm = d.therm := rfl
@[simp] theorem Dev.setChan_clk (d : Dev) (k : Nat) (x : Chan) : (d.setChan k x).clk = d.clk := rfl
@[simp] theorem Dev.setChan_boot (d : Dev) (k : Nat) (x : Chan) : (d.setChan k x).boot = d.boot := rfl
@[simp] theorem Dev.setChan_dict (d : Dev) (k : Nat) (x : Chan) : (d.setChan k x).dict = d.dict := rfl
@[simp] theorem Dev.setChan_srv (d : Dev) (k : Nat) (x : Chan) : (d.setChan k x).srv = d.srv := rfl
@[simp] theorem Dev.setChan_fns (d : Dev) (k : Nat) (x : Chan) : (d.setChan k x).fns = d.fns := rfl
@[simp] theorem Dev.setChan_numVfs (d : Dev) (k : Nat) (x : Chan) : (d.setChan k x).numVfs = d.numVfs := rfl
@[simp] theorem Dev.setChan_nonces (d : Dev) (k : Nat) (x : Chan) : (d.setChan k x).nonces = d.nonces := rfl
@[simp] theorem Dev.setChan_rings (d : Dev) (k : Nat) (x : Chan) : (d.setChan k x).rings = d.rings := rfl
@[simp] theorem Dev.setChan_jobs (d : Dev) (k : Nat) (x : Chan) : (d.setChan k x).jobs = d.jobs := rfl
@[simp] theorem Dev.setChan_nextJob (d : Dev) (k : Nat) (x : Chan) : (d.setChan k x).nextJob = d.nextJob := rfl
@[simp] theorem Dev.setChan_lastTurn (d : Dev) (k : Nat) (x : Chan) : (d.setChan k x).lastTurn = d.lastTurn := rfl
@[simp] theorem Dev.setChan_mem (d : Dev) (k : Nat) (x : Chan) : (d.setChan k x).mem = d.mem := rfl
@[simp] theorem Dev.setChan_stu (d : Dev) (k : Nat) (x : Chan) : (d.setChan k x).stu = d.stu := rfl
@[simp] theorem Dev.setChan_tiles (d : Dev) (k : Nat) (x : Chan) : (d.setChan k x).tiles = d.tiles := rfl
@[simp] theorem Dev.setChan_cores (d : Dev) (k : Nat) (x : Chan) : (d.setChan k x).cores = d.cores := rfl
@[simp] theorem Dev.setChan_kv (d : Dev) (k : Nat) (x : Chan) : (d.setChan k x).kv = d.kv := rfl
@[simp] theorem Dev.setChan_sfu (d : Dev) (k : Nat) (x : Chan) : (d.setChan k x).sfu = d.sfu := rfl
@[simp] theorem Dev.setChan_scout (d : Dev) (k : Nat) (x : Chan) : (d.setChan k x).scout = d.scout := rfl
@[simp] theorem Dev.setChan_solv (d : Dev) (k : Nat) (x : Chan) : (d.setChan k x).solv = d.solv := rfl
@[simp] theorem Dev.setChan_mirror (d : Dev) (k : Nat) (x : Chan) : (d.setChan k x).mirror = d.mirror := rfl
@[simp] theorem Dev.setChan_err (d : Dev) (k : Nat) (x : Chan) : (d.setChan k x).err = d.err := rfl
@[simp] theorem Dev.setChan_emits (d : Dev) (k : Nat) (x : Chan) : (d.setChan k x).emits = d.emits := rfl
@[simp] theorem Dev.setChan_free (d : Dev) (k : Nat) (x : Chan) : (d.setChan k x).free = d.free := rfl

/-! ### setPeer -/

@[simp] theorem Dev.setPeer_pwr (d : Dev) (k : Nat) (x : Peer) : (d.setPeer k x).pwr = d.pwr := rfl
@[simp] theorem Dev.setPeer_jtag (d : Dev) (k : Nat) (x : Peer) : (d.setPeer k x).jtag = d.jtag := rfl
@[simp] theorem Dev.setPeer_mgt (d : Dev) (k : Nat) (x : Peer) : (d.setPeer k x).mgt = d.mgt := rfl
@[simp] theorem Dev.setPeer_therm (d : Dev) (k : Nat) (x : Peer) : (d.setPeer k x).therm = d.therm := rfl
@[simp] theorem Dev.setPeer_clk (d : Dev) (k : Nat) (x : Peer) : (d.setPeer k x).clk = d.clk := rfl
@[simp] theorem Dev.setPeer_boot (d : Dev) (k : Nat) (x : Peer) : (d.setPeer k x).boot = d.boot := rfl
@[simp] theorem Dev.setPeer_dict (d : Dev) (k : Nat) (x : Peer) : (d.setPeer k x).dict = d.dict := rfl
@[simp] theorem Dev.setPeer_srv (d : Dev) (k : Nat) (x : Peer) : (d.setPeer k x).srv = d.srv := rfl
@[simp] theorem Dev.setPeer_fns (d : Dev) (k : Nat) (x : Peer) : (d.setPeer k x).fns = d.fns := rfl
@[simp] theorem Dev.setPeer_numVfs (d : Dev) (k : Nat) (x : Peer) : (d.setPeer k x).numVfs = d.numVfs := rfl
@[simp] theorem Dev.setPeer_nonces (d : Dev) (k : Nat) (x : Peer) : (d.setPeer k x).nonces = d.nonces := rfl
@[simp] theorem Dev.setPeer_rings (d : Dev) (k : Nat) (x : Peer) : (d.setPeer k x).rings = d.rings := rfl
@[simp] theorem Dev.setPeer_jobs (d : Dev) (k : Nat) (x : Peer) : (d.setPeer k x).jobs = d.jobs := rfl
@[simp] theorem Dev.setPeer_nextJob (d : Dev) (k : Nat) (x : Peer) : (d.setPeer k x).nextJob = d.nextJob := rfl
@[simp] theorem Dev.setPeer_lastTurn (d : Dev) (k : Nat) (x : Peer) : (d.setPeer k x).lastTurn = d.lastTurn := rfl
@[simp] theorem Dev.setPeer_mem (d : Dev) (k : Nat) (x : Peer) : (d.setPeer k x).mem = d.mem := rfl
@[simp] theorem Dev.setPeer_stu (d : Dev) (k : Nat) (x : Peer) : (d.setPeer k x).stu = d.stu := rfl
@[simp] theorem Dev.setPeer_tiles (d : Dev) (k : Nat) (x : Peer) : (d.setPeer k x).tiles = d.tiles := rfl
@[simp] theorem Dev.setPeer_cores (d : Dev) (k : Nat) (x : Peer) : (d.setPeer k x).cores = d.cores := rfl
@[simp] theorem Dev.setPeer_kv (d : Dev) (k : Nat) (x : Peer) : (d.setPeer k x).kv = d.kv := rfl
@[simp] theorem Dev.setPeer_sfu (d : Dev) (k : Nat) (x : Peer) : (d.setPeer k x).sfu = d.sfu := rfl
@[simp] theorem Dev.setPeer_scout (d : Dev) (k : Nat) (x : Peer) : (d.setPeer k x).scout = d.scout := rfl
@[simp] theorem Dev.setPeer_solv (d : Dev) (k : Nat) (x : Peer) : (d.setPeer k x).solv = d.solv := rfl
@[simp] theorem Dev.setPeer_mirror (d : Dev) (k : Nat) (x : Peer) : (d.setPeer k x).mirror = d.mirror := rfl
@[simp] theorem Dev.setPeer_err (d : Dev) (k : Nat) (x : Peer) : (d.setPeer k x).err = d.err := rfl
@[simp] theorem Dev.setPeer_emits (d : Dev) (k : Nat) (x : Peer) : (d.setPeer k x).emits = d.emits := rfl
@[simp] theorem Dev.setPeer_free (d : Dev) (k : Nat) (x : Peer) : (d.setPeer k x).free = d.free := rfl

/-! ### setPort -/

@[simp] theorem Dev.setPort_pwr (d : Dev) (k : Nat) (x : PortState) : (d.setPort k x).pwr = d.pwr := rfl
@[simp] theorem Dev.setPort_jtag (d : Dev) (k : Nat) (x : PortState) : (d.setPort k x).jtag = d.jtag := rfl
@[simp] theorem Dev.setPort_mgt (d : Dev) (k : Nat) (x : PortState) : (d.setPort k x).mgt = d.mgt := rfl
@[simp] theorem Dev.setPort_therm (d : Dev) (k : Nat) (x : PortState) : (d.setPort k x).therm = d.therm := rfl
@[simp] theorem Dev.setPort_clk (d : Dev) (k : Nat) (x : PortState) : (d.setPort k x).clk = d.clk := rfl
@[simp] theorem Dev.setPort_boot (d : Dev) (k : Nat) (x : PortState) : (d.setPort k x).boot = d.boot := rfl
@[simp] theorem Dev.setPort_dict (d : Dev) (k : Nat) (x : PortState) : (d.setPort k x).dict = d.dict := rfl
@[simp] theorem Dev.setPort_srv (d : Dev) (k : Nat) (x : PortState) : (d.setPort k x).srv = d.srv := rfl
@[simp] theorem Dev.setPort_fns (d : Dev) (k : Nat) (x : PortState) : (d.setPort k x).fns = d.fns := rfl
@[simp] theorem Dev.setPort_numVfs (d : Dev) (k : Nat) (x : PortState) : (d.setPort k x).numVfs = d.numVfs := rfl
@[simp] theorem Dev.setPort_nonces (d : Dev) (k : Nat) (x : PortState) : (d.setPort k x).nonces = d.nonces := rfl
@[simp] theorem Dev.setPort_rings (d : Dev) (k : Nat) (x : PortState) : (d.setPort k x).rings = d.rings := rfl
@[simp] theorem Dev.setPort_jobs (d : Dev) (k : Nat) (x : PortState) : (d.setPort k x).jobs = d.jobs := rfl
@[simp] theorem Dev.setPort_nextJob (d : Dev) (k : Nat) (x : PortState) : (d.setPort k x).nextJob = d.nextJob := rfl
@[simp] theorem Dev.setPort_lastTurn (d : Dev) (k : Nat) (x : PortState) : (d.setPort k x).lastTurn = d.lastTurn := rfl
@[simp] theorem Dev.setPort_mem (d : Dev) (k : Nat) (x : PortState) : (d.setPort k x).mem = d.mem := rfl
@[simp] theorem Dev.setPort_stu (d : Dev) (k : Nat) (x : PortState) : (d.setPort k x).stu = d.stu := rfl
@[simp] theorem Dev.setPort_tiles (d : Dev) (k : Nat) (x : PortState) : (d.setPort k x).tiles = d.tiles := rfl
@[simp] theorem Dev.setPort_cores (d : Dev) (k : Nat) (x : PortState) : (d.setPort k x).cores = d.cores := rfl
@[simp] theorem Dev.setPort_kv (d : Dev) (k : Nat) (x : PortState) : (d.setPort k x).kv = d.kv := rfl
@[simp] theorem Dev.setPort_sfu (d : Dev) (k : Nat) (x : PortState) : (d.setPort k x).sfu = d.sfu := rfl
@[simp] theorem Dev.setPort_scout (d : Dev) (k : Nat) (x : PortState) : (d.setPort k x).scout = d.scout := rfl
@[simp] theorem Dev.setPort_solv (d : Dev) (k : Nat) (x : PortState) : (d.setPort k x).solv = d.solv := rfl
@[simp] theorem Dev.setPort_mirror (d : Dev) (k : Nat) (x : PortState) : (d.setPort k x).mirror = d.mirror := rfl
@[simp] theorem Dev.setPort_err (d : Dev) (k : Nat) (x : PortState) : (d.setPort k x).err = d.err := rfl
@[simp] theorem Dev.setPort_emits (d : Dev) (k : Nat) (x : PortState) : (d.setPort k x).emits = d.emits := rfl
@[simp] theorem Dev.setPort_free (d : Dev) (k : Nat) (x : PortState) : (d.setPort k x).free = d.free := rfl

/-! ### emit -/

@[simp] theorem Dev.emit_pwr (d : Dev) (e : Emit) : (d.emit e).pwr = d.pwr := rfl
@[simp] theorem Dev.emit_jtag (d : Dev) (e : Emit) : (d.emit e).jtag = d.jtag := rfl
@[simp] theorem Dev.emit_mgt (d : Dev) (e : Emit) : (d.emit e).mgt = d.mgt := rfl
@[simp] theorem Dev.emit_therm (d : Dev) (e : Emit) : (d.emit e).therm = d.therm := rfl
@[simp] theorem Dev.emit_clk (d : Dev) (e : Emit) : (d.emit e).clk = d.clk := rfl
@[simp] theorem Dev.emit_boot (d : Dev) (e : Emit) : (d.emit e).boot = d.boot := rfl
@[simp] theorem Dev.emit_dict (d : Dev) (e : Emit) : (d.emit e).dict = d.dict := rfl
@[simp] theorem Dev.emit_srv (d : Dev) (e : Emit) : (d.emit e).srv = d.srv := rfl
@[simp] theorem Dev.emit_fns (d : Dev) (e : Emit) : (d.emit e).fns = d.fns := rfl
@[simp] theorem Dev.emit_numVfs (d : Dev) (e : Emit) : (d.emit e).numVfs = d.numVfs := rfl
@[simp] theorem Dev.emit_nonces (d : Dev) (e : Emit) : (d.emit e).nonces = d.nonces := rfl
@[simp] theorem Dev.emit_rings (d : Dev) (e : Emit) : (d.emit e).rings = d.rings := rfl
@[simp] theorem Dev.emit_jobs (d : Dev) (e : Emit) : (d.emit e).jobs = d.jobs := rfl
@[simp] theorem Dev.emit_nextJob (d : Dev) (e : Emit) : (d.emit e).nextJob = d.nextJob := rfl
@[simp] theorem Dev.emit_lastTurn (d : Dev) (e : Emit) : (d.emit e).lastTurn = d.lastTurn := rfl
@[simp] theorem Dev.emit_mem (d : Dev) (e : Emit) : (d.emit e).mem = d.mem := rfl
@[simp] theorem Dev.emit_stu (d : Dev) (e : Emit) : (d.emit e).stu = d.stu := rfl
@[simp] theorem Dev.emit_tiles (d : Dev) (e : Emit) : (d.emit e).tiles = d.tiles := rfl
@[simp] theorem Dev.emit_cores (d : Dev) (e : Emit) : (d.emit e).cores = d.cores := rfl
@[simp] theorem Dev.emit_kv (d : Dev) (e : Emit) : (d.emit e).kv = d.kv := rfl
@[simp] theorem Dev.emit_sfu (d : Dev) (e : Emit) : (d.emit e).sfu = d.sfu := rfl
@[simp] theorem Dev.emit_scout (d : Dev) (e : Emit) : (d.emit e).scout = d.scout := rfl
@[simp] theorem Dev.emit_solv (d : Dev) (e : Emit) : (d.emit e).solv = d.solv := rfl
@[simp] theorem Dev.emit_scale (d : Dev) (e : Emit) : (d.emit e).scale = d.scale := rfl
@[simp] theorem Dev.emit_mirror (d : Dev) (e : Emit) : (d.emit e).mirror = d.mirror := rfl
@[simp] theorem Dev.emit_err (d : Dev) (e : Emit) : (d.emit e).err = d.err := rfl
@[simp] theorem Dev.emit_free (d : Dev) (e : Emit) : (d.emit e).free = d.free := rfl

/-! ### setObj -/

@[simp] theorem Dev.setObj_pwr (d : Dev) (i u n v : Nat) : (d.setObj i u n v).pwr = d.pwr := rfl
@[simp] theorem Dev.setObj_jtag (d : Dev) (i u n v : Nat) : (d.setObj i u n v).jtag = d.jtag := rfl
@[simp] theorem Dev.setObj_mgt (d : Dev) (i u n v : Nat) : (d.setObj i u n v).mgt = d.mgt := rfl
@[simp] theorem Dev.setObj_therm (d : Dev) (i u n v : Nat) : (d.setObj i u n v).therm = d.therm := rfl
@[simp] theorem Dev.setObj_clk (d : Dev) (i u n v : Nat) : (d.setObj i u n v).clk = d.clk := rfl
@[simp] theorem Dev.setObj_boot (d : Dev) (i u n v : Nat) : (d.setObj i u n v).boot = d.boot := rfl
@[simp] theorem Dev.setObj_srv (d : Dev) (i u n v : Nat) : (d.setObj i u n v).srv = d.srv := rfl
@[simp] theorem Dev.setObj_fns (d : Dev) (i u n v : Nat) : (d.setObj i u n v).fns = d.fns := rfl
@[simp] theorem Dev.setObj_numVfs (d : Dev) (i u n v : Nat) : (d.setObj i u n v).numVfs = d.numVfs := rfl
@[simp] theorem Dev.setObj_nonces (d : Dev) (i u n v : Nat) : (d.setObj i u n v).nonces = d.nonces := rfl
@[simp] theorem Dev.setObj_rings (d : Dev) (i u n v : Nat) : (d.setObj i u n v).rings = d.rings := rfl
@[simp] theorem Dev.setObj_jobs (d : Dev) (i u n v : Nat) : (d.setObj i u n v).jobs = d.jobs := rfl
@[simp] theorem Dev.setObj_nextJob (d : Dev) (i u n v : Nat) : (d.setObj i u n v).nextJob = d.nextJob := rfl
@[simp] theorem Dev.setObj_lastTurn (d : Dev) (i u n v : Nat) : (d.setObj i u n v).lastTurn = d.lastTurn := rfl
@[simp] theorem Dev.setObj_mem (d : Dev) (i u n v : Nat) : (d.setObj i u n v).mem = d.mem := rfl
@[simp] theorem Dev.setObj_stu (d : Dev) (i u n v : Nat) : (d.setObj i u n v).stu = d.stu := rfl
@[simp] theorem Dev.setObj_tiles (d : Dev) (i u n v : Nat) : (d.setObj i u n v).tiles = d.tiles := rfl
@[simp] theorem Dev.setObj_cores (d : Dev) (i u n v : Nat) : (d.setObj i u n v).cores = d.cores := rfl
@[simp] theorem Dev.setObj_kv (d : Dev) (i u n v : Nat) : (d.setObj i u n v).kv = d.kv := rfl
@[simp] theorem Dev.setObj_sfu (d : Dev) (i u n v : Nat) : (d.setObj i u n v).sfu = d.sfu := rfl
@[simp] theorem Dev.setObj_scout (d : Dev) (i u n v : Nat) : (d.setObj i u n v).scout = d.scout := rfl
@[simp] theorem Dev.setObj_solv (d : Dev) (i u n v : Nat) : (d.setObj i u n v).solv = d.solv := rfl
@[simp] theorem Dev.setObj_scale (d : Dev) (i u n v : Nat) : (d.setObj i u n v).scale = d.scale := rfl
@[simp] theorem Dev.setObj_mirror (d : Dev) (i u n v : Nat) : (d.setObj i u n v).mirror = d.mirror := rfl
@[simp] theorem Dev.setObj_err (d : Dev) (i u n v : Nat) : (d.setObj i u n v).err = d.err := rfl
@[simp] theorem Dev.setObj_emits (d : Dev) (i u n v : Nat) : (d.setObj i u n v).emits = d.emits := rfl
@[simp] theorem Dev.setObj_free (d : Dev) (i u n v : Nat) : (d.setObj i u n v).free = d.free := rfl

/-! ### bump -/

@[simp] theorem Dev.bump_pwr (d : Dev) (i u n w b : Nat) : (d.bump i u n w b).pwr = d.pwr := rfl
@[simp] theorem Dev.bump_jtag (d : Dev) (i u n w b : Nat) : (d.bump i u n w b).jtag = d.jtag := rfl
@[simp] theorem Dev.bump_mgt (d : Dev) (i u n w b : Nat) : (d.bump i u n w b).mgt = d.mgt := rfl
@[simp] theorem Dev.bump_therm (d : Dev) (i u n w b : Nat) : (d.bump i u n w b).therm = d.therm := rfl
@[simp] theorem Dev.bump_clk (d : Dev) (i u n w b : Nat) : (d.bump i u n w b).clk = d.clk := rfl
@[simp] theorem Dev.bump_boot (d : Dev) (i u n w b : Nat) : (d.bump i u n w b).boot = d.boot := rfl
@[simp] theorem Dev.bump_srv (d : Dev) (i u n w b : Nat) : (d.bump i u n w b).srv = d.srv := rfl
@[simp] theorem Dev.bump_fns (d : Dev) (i u n w b : Nat) : (d.bump i u n w b).fns = d.fns := rfl
@[simp] theorem Dev.bump_numVfs (d : Dev) (i u n w b : Nat) : (d.bump i u n w b).numVfs = d.numVfs := rfl
@[simp] theorem Dev.bump_nonces (d : Dev) (i u n w b : Nat) : (d.bump i u n w b).nonces = d.nonces := rfl
@[simp] theorem Dev.bump_rings (d : Dev) (i u n w b : Nat) : (d.bump i u n w b).rings = d.rings := rfl
@[simp] theorem Dev.bump_jobs (d : Dev) (i u n w b : Nat) : (d.bump i u n w b).jobs = d.jobs := rfl
@[simp] theorem Dev.bump_nextJob (d : Dev) (i u n w b : Nat) : (d.bump i u n w b).nextJob = d.nextJob := rfl
@[simp] theorem Dev.bump_lastTurn (d : Dev) (i u n w b : Nat) : (d.bump i u n w b).lastTurn = d.lastTurn := rfl
@[simp] theorem Dev.bump_mem (d : Dev) (i u n w b : Nat) : (d.bump i u n w b).mem = d.mem := rfl
@[simp] theorem Dev.bump_stu (d : Dev) (i u n w b : Nat) : (d.bump i u n w b).stu = d.stu := rfl
@[simp] theorem Dev.bump_tiles (d : Dev) (i u n w b : Nat) : (d.bump i u n w b).tiles = d.tiles := rfl
@[simp] theorem Dev.bump_cores (d : Dev) (i u n w b : Nat) : (d.bump i u n w b).cores = d.cores := rfl
@[simp] theorem Dev.bump_kv (d : Dev) (i u n w b : Nat) : (d.bump i u n w b).kv = d.kv := rfl
@[simp] theorem Dev.bump_sfu (d : Dev) (i u n w b : Nat) : (d.bump i u n w b).sfu = d.sfu := rfl
@[simp] theorem Dev.bump_scout (d : Dev) (i u n w b : Nat) : (d.bump i u n w b).scout = d.scout := rfl
@[simp] theorem Dev.bump_solv (d : Dev) (i u n w b : Nat) : (d.bump i u n w b).solv = d.solv := rfl
@[simp] theorem Dev.bump_scale (d : Dev) (i u n w b : Nat) : (d.bump i u n w b).scale = d.scale := rfl
@[simp] theorem Dev.bump_mirror (d : Dev) (i u n w b : Nat) : (d.bump i u n w b).mirror = d.mirror := rfl
@[simp] theorem Dev.bump_err (d : Dev) (i u n w b : Nat) : (d.bump i u n w b).err = d.err := rfl
@[simp] theorem Dev.bump_emits (d : Dev) (i u n w b : Nat) : (d.bump i u n w b).emits = d.emits := rfl
@[simp] theorem Dev.bump_free (d : Dev) (i u n w b : Nat) : (d.bump i u n w b).free = d.free := rfl

/-! ### maxObj -/

@[simp] theorem Dev.maxObj_pwr (d : Dev) (i u n v w : Nat) : (d.maxObj i u n v w).pwr = d.pwr := rfl
@[simp] theorem Dev.maxObj_jtag (d : Dev) (i u n v w : Nat) : (d.maxObj i u n v w).jtag = d.jtag := rfl
@[simp] theorem Dev.maxObj_mgt (d : Dev) (i u n v w : Nat) : (d.maxObj i u n v w).mgt = d.mgt := rfl
@[simp] theorem Dev.maxObj_therm (d : Dev) (i u n v w : Nat) : (d.maxObj i u n v w).therm = d.therm := rfl
@[simp] theorem Dev.maxObj_clk (d : Dev) (i u n v w : Nat) : (d.maxObj i u n v w).clk = d.clk := rfl
@[simp] theorem Dev.maxObj_boot (d : Dev) (i u n v w : Nat) : (d.maxObj i u n v w).boot = d.boot := rfl
@[simp] theorem Dev.maxObj_srv (d : Dev) (i u n v w : Nat) : (d.maxObj i u n v w).srv = d.srv := rfl
@[simp] theorem Dev.maxObj_fns (d : Dev) (i u n v w : Nat) : (d.maxObj i u n v w).fns = d.fns := rfl
@[simp] theorem Dev.maxObj_numVfs (d : Dev) (i u n v w : Nat) : (d.maxObj i u n v w).numVfs = d.numVfs := rfl
@[simp] theorem Dev.maxObj_nonces (d : Dev) (i u n v w : Nat) : (d.maxObj i u n v w).nonces = d.nonces := rfl
@[simp] theorem Dev.maxObj_rings (d : Dev) (i u n v w : Nat) : (d.maxObj i u n v w).rings = d.rings := rfl
@[simp] theorem Dev.maxObj_jobs (d : Dev) (i u n v w : Nat) : (d.maxObj i u n v w).jobs = d.jobs := rfl
@[simp] theorem Dev.maxObj_nextJob (d : Dev) (i u n v w : Nat) : (d.maxObj i u n v w).nextJob = d.nextJob := rfl
@[simp] theorem Dev.maxObj_lastTurn (d : Dev) (i u n v w : Nat) : (d.maxObj i u n v w).lastTurn = d.lastTurn := rfl
@[simp] theorem Dev.maxObj_mem (d : Dev) (i u n v w : Nat) : (d.maxObj i u n v w).mem = d.mem := rfl
@[simp] theorem Dev.maxObj_stu (d : Dev) (i u n v w : Nat) : (d.maxObj i u n v w).stu = d.stu := rfl
@[simp] theorem Dev.maxObj_tiles (d : Dev) (i u n v w : Nat) : (d.maxObj i u n v w).tiles = d.tiles := rfl
@[simp] theorem Dev.maxObj_cores (d : Dev) (i u n v w : Nat) : (d.maxObj i u n v w).cores = d.cores := rfl
@[simp] theorem Dev.maxObj_kv (d : Dev) (i u n v w : Nat) : (d.maxObj i u n v w).kv = d.kv := rfl
@[simp] theorem Dev.maxObj_sfu (d : Dev) (i u n v w : Nat) : (d.maxObj i u n v w).sfu = d.sfu := rfl
@[simp] theorem Dev.maxObj_scout (d : Dev) (i u n v w : Nat) : (d.maxObj i u n v w).scout = d.scout := rfl
@[simp] theorem Dev.maxObj_solv (d : Dev) (i u n v w : Nat) : (d.maxObj i u n v w).solv = d.solv := rfl
@[simp] theorem Dev.maxObj_scale (d : Dev) (i u n v w : Nat) : (d.maxObj i u n v w).scale = d.scale := rfl
@[simp] theorem Dev.maxObj_mirror (d : Dev) (i u n v w : Nat) : (d.maxObj i u n v w).mirror = d.mirror := rfl
@[simp] theorem Dev.maxObj_err (d : Dev) (i u n v w : Nat) : (d.maxObj i u n v w).err = d.err := rfl
@[simp] theorem Dev.maxObj_emits (d : Dev) (i u n v w : Nat) : (d.maxObj i u n v w).emits = d.emits := rfl
@[simp] theorem Dev.maxObj_free (d : Dev) (i u n v w : Nat) : (d.maxObj i u n v w).free = d.free := rfl

/-! ### boardClear -/

@[simp] theorem Dev.boardClear_pwr (d : Dev) (c : Nat) : (d.boardClear c).pwr = d.pwr := rfl
@[simp] theorem Dev.boardClear_jtag (d : Dev) (c : Nat) : (d.boardClear c).jtag = d.jtag := rfl
@[simp] theorem Dev.boardClear_mgt (d : Dev) (c : Nat) : (d.boardClear c).mgt = d.mgt := rfl
@[simp] theorem Dev.boardClear_therm (d : Dev) (c : Nat) : (d.boardClear c).therm = d.therm := rfl
@[simp] theorem Dev.boardClear_clk (d : Dev) (c : Nat) : (d.boardClear c).clk = d.clk := rfl
@[simp] theorem Dev.boardClear_boot (d : Dev) (c : Nat) : (d.boardClear c).boot = d.boot := rfl
@[simp] theorem Dev.boardClear_dict (d : Dev) (c : Nat) : (d.boardClear c).dict = d.dict := rfl
@[simp] theorem Dev.boardClear_srv (d : Dev) (c : Nat) : (d.boardClear c).srv = d.srv := rfl
@[simp] theorem Dev.boardClear_fns (d : Dev) (c : Nat) : (d.boardClear c).fns = d.fns := rfl
@[simp] theorem Dev.boardClear_numVfs (d : Dev) (c : Nat) : (d.boardClear c).numVfs = d.numVfs := rfl
@[simp] theorem Dev.boardClear_nonces (d : Dev) (c : Nat) : (d.boardClear c).nonces = d.nonces := rfl
@[simp] theorem Dev.boardClear_rings (d : Dev) (c : Nat) : (d.boardClear c).rings = d.rings := rfl
@[simp] theorem Dev.boardClear_jobs (d : Dev) (c : Nat) : (d.boardClear c).jobs = d.jobs := rfl
@[simp] theorem Dev.boardClear_nextJob (d : Dev) (c : Nat) : (d.boardClear c).nextJob = d.nextJob := rfl
@[simp] theorem Dev.boardClear_lastTurn (d : Dev) (c : Nat) : (d.boardClear c).lastTurn = d.lastTurn := rfl
@[simp] theorem Dev.boardClear_mem (d : Dev) (c : Nat) : (d.boardClear c).mem = d.mem := rfl
@[simp] theorem Dev.boardClear_stu (d : Dev) (c : Nat) : (d.boardClear c).stu = d.stu := rfl
@[simp] theorem Dev.boardClear_tiles (d : Dev) (c : Nat) : (d.boardClear c).tiles = d.tiles := rfl
@[simp] theorem Dev.boardClear_cores (d : Dev) (c : Nat) : (d.boardClear c).cores = d.cores := rfl
@[simp] theorem Dev.boardClear_kv (d : Dev) (c : Nat) : (d.boardClear c).kv = d.kv := rfl
@[simp] theorem Dev.boardClear_sfu (d : Dev) (c : Nat) : (d.boardClear c).sfu = d.sfu := rfl
@[simp] theorem Dev.boardClear_scout (d : Dev) (c : Nat) : (d.boardClear c).scout = d.scout := rfl
@[simp] theorem Dev.boardClear_solv (d : Dev) (c : Nat) : (d.boardClear c).solv = d.solv := rfl
@[simp] theorem Dev.boardClear_scale (d : Dev) (c : Nat) : (d.boardClear c).scale = d.scale := rfl
@[simp] theorem Dev.boardClear_mirror (d : Dev) (c : Nat) : (d.boardClear c).mirror = d.mirror := rfl
@[simp] theorem Dev.boardClear_emits (d : Dev) (c : Nat) : (d.boardClear c).emits = d.emits := rfl
@[simp] theorem Dev.boardClear_free (d : Dev) (c : Nat) : (d.boardClear c).free = d.free := rfl

/-! ### withdraw -/

@[simp] theorem Dev.withdraw_pwr (d : Dev) (p : Requester → Bool) : (d.withdraw p).pwr = d.pwr := rfl
@[simp] theorem Dev.withdraw_jtag (d : Dev) (p : Requester → Bool) : (d.withdraw p).jtag = d.jtag := rfl
@[simp] theorem Dev.withdraw_mgt (d : Dev) (p : Requester → Bool) : (d.withdraw p).mgt = d.mgt := rfl
@[simp] theorem Dev.withdraw_therm (d : Dev) (p : Requester → Bool) : (d.withdraw p).therm = d.therm := rfl
@[simp] theorem Dev.withdraw_clk (d : Dev) (p : Requester → Bool) : (d.withdraw p).clk = d.clk := rfl
@[simp] theorem Dev.withdraw_boot (d : Dev) (p : Requester → Bool) : (d.withdraw p).boot = d.boot := rfl
@[simp] theorem Dev.withdraw_dict (d : Dev) (p : Requester → Bool) : (d.withdraw p).dict = d.dict := rfl
@[simp] theorem Dev.withdraw_srv (d : Dev) (p : Requester → Bool) : (d.withdraw p).srv = d.srv := rfl
@[simp] theorem Dev.withdraw_fns (d : Dev) (p : Requester → Bool) : (d.withdraw p).fns = d.fns := rfl
@[simp] theorem Dev.withdraw_numVfs (d : Dev) (p : Requester → Bool) : (d.withdraw p).numVfs = d.numVfs := rfl
@[simp] theorem Dev.withdraw_nonces (d : Dev) (p : Requester → Bool) : (d.withdraw p).nonces = d.nonces := rfl
@[simp] theorem Dev.withdraw_rings (d : Dev) (p : Requester → Bool) : (d.withdraw p).rings = d.rings := rfl
@[simp] theorem Dev.withdraw_jobs (d : Dev) (p : Requester → Bool) : (d.withdraw p).jobs = d.jobs := rfl
@[simp] theorem Dev.withdraw_nextJob (d : Dev) (p : Requester → Bool) : (d.withdraw p).nextJob = d.nextJob := rfl
@[simp] theorem Dev.withdraw_lastTurn (d : Dev) (p : Requester → Bool) : (d.withdraw p).lastTurn = d.lastTurn := rfl
@[simp] theorem Dev.withdraw_mem (d : Dev) (p : Requester → Bool) : (d.withdraw p).mem = d.mem := rfl
@[simp] theorem Dev.withdraw_tiles (d : Dev) (p : Requester → Bool) : (d.withdraw p).tiles = d.tiles := rfl
@[simp] theorem Dev.withdraw_cores (d : Dev) (p : Requester → Bool) : (d.withdraw p).cores = d.cores := rfl
@[simp] theorem Dev.withdraw_kv (d : Dev) (p : Requester → Bool) : (d.withdraw p).kv = d.kv := rfl
@[simp] theorem Dev.withdraw_sfu (d : Dev) (p : Requester → Bool) : (d.withdraw p).sfu = d.sfu := rfl
@[simp] theorem Dev.withdraw_scout (d : Dev) (p : Requester → Bool) : (d.withdraw p).scout = d.scout := rfl
@[simp] theorem Dev.withdraw_solv (d : Dev) (p : Requester → Bool) : (d.withdraw p).solv = d.solv := rfl
@[simp] theorem Dev.withdraw_scale (d : Dev) (p : Requester → Bool) : (d.withdraw p).scale = d.scale := rfl
@[simp] theorem Dev.withdraw_mirror (d : Dev) (p : Requester → Bool) : (d.withdraw p).mirror = d.mirror := rfl
@[simp] theorem Dev.withdraw_err (d : Dev) (p : Requester → Bool) : (d.withdraw p).err = d.err := rfl
@[simp] theorem Dev.withdraw_emits (d : Dev) (p : Requester → Bool) : (d.withdraw p).emits = d.emits := rfl
@[simp] theorem Dev.withdraw_free (d : Dev) (p : Requester → Bool) : (d.withdraw p).free = d.free := rfl

/-! ### Commands that reach the device alone (R357) -/

theorem onDev_next (f : Dev → Dev) (s : State) : onDev f s = .next { s with dev := f s.dev } := rfl

end Sys2Proof.Machine
end

