-- ==== Sys2Proof/WellFormed.lean ====
section
/-! DEFINITION. Well-formed commands: operands of the sizes that the spec gives their carriers. A meaning answers for every
term; what is ill formed stands for nothing that the spec lets arrive. -/

namespace Sys2Proof

/-- Every store lies in the device's physical address space (Table 7.1). -/
def storesOk (l : List ByteStore) : Bool := l.all (fun x => decide (x.addr < 2 ^ 56))

/-- Tiles named for a job are distinct (R196). -/
def tilesOk (l : List TileId) : Bool := decide l.Nodup

/-- An engine's access is at most one line of 64 bytes (R347, R400). -/
def engineOpOk : EngineOp → Bool
  | .read len => Nat.ble 1 len && Nat.ble len 64
  | .write data => Nat.ble 1 data.length && Nat.ble data.length 64

/-- A message on MCTP has a packet; the length word of a queue entry is the frame's byte count (chapter 05, Firmware
path). -/
def reqSrcOk : ReqSrc → Bool
  | .mailbox _ => true
  | .mctp _ _ _ l => !l.isEmpty
  | .firmware w f => decide (f.length = w.toNat)
  | .policy _ w f => decide (f.length = w.toNat)

/-- An instance of an object (R104): index of 16 bits, sub-index of 8, tenant 0 to 63. -/
def objKeyOk (k : ObjKey) : Bool := decide (k.index < 65536) && decide (k.sub < 256) && decide (k.tenant < 64)

/-- A configuration dword is aligned in the 4 KiB of configuration space; the dwords that R127 and R132 give have their
own operations. A DOE request is at most the 2^18 dwords of its length field. -/
def cfgOpOk : CfgOp → Bool
  | .readOther off => decide (off < 4096) && off % 4 == 0 && off != 0 && off != 8 && off != 0x2C &&
      (decide (off < 0x10) || Nat.ble 0x28 off)
  | .doe req => Nat.ble req.length 262144
  | _ => true

/-- An access to a BAR has a size of 1 to 8 bytes. -/
def barLenOk (len : Nat) : Bool := Nat.ble 1 len && Nat.ble len 8

/-- The read-back of a clear: counts that exist (R230). -/
def readBackOk : ReadBack → Bool
  | .correctable tb as other => tb + as + other != 0
  | _ => true

/-- An LRT datagram fits a frame of 9,216 bytes (R335). -/
def datagramOk (d : LrtDatagram) : Bool := Nat.ble d.bytes.length 9216

/-- Dictionary requests (R108, R114). -/
def requestWf : Instr → Option Bool
  | .read s => some (reqSrcOk s)
  | .write s => some (reqSrcOk s)
  | .readSeg s => some (reqSrcOk s)
  | .writeSeg s => some (reqSrcOk s)
  | .abortSeg s => some (reqSrcOk s)
  | .writeSet s => some (reqSrcOk s)
  | .sessionOpen s => some (reqSrcOk s)
  | .sessionClose s => some (reqSrcOk s)
  | .authChallenge s => some (reqSrcOk s)
  | .authProve s => some (reqSrcOk s)
  | .describe s => some (reqSrcOk s)
  | .nextObject s => some (reqSrcOk s)
  | .objectWrite k _ => some (objKeyOk k)
  | .segTransferTimeout k => some (objKeyOk k)
  | .sessionIdleTimeout n => some (Nat.ble 1 n && Nat.ble n 255)
  | .mbxGo _ b _ => some (decide (b.length = 1040))
  | _ => none

/-- Commands that carry lists or numbers with a stated size (R63, R90, R89, R187, R335, Table 19.6, R378). -/
def sizedWf : Instr → Option Bool
  | .configRequest _ op => some (cfgOpOk op)
  | .fnTickLoRead a => some (barLenOk a.read.len)
  | .msixUnmask _ w => some (barLenOk w.len)
  | .thermalSample l => some (decide (l.length = 81))
  | .bootStageUcie l => some (decide (l.length = 4))
  | .bootStageHbm l m => some (decide (l.length = 8) && decide (m.length = 8))
  | .sqTail _ _ _ st => some (storesOk st)
  | .schedulerDispatch _ l => some (tilesOk l)
  | .jobResume _ l => some (tilesOk l)
  | .hdmHostAccess _ op => some (engineOpOk op)
  | .engineHbmAccess _ _ _ pa op => some (decide (pa < 2 ^ 56) && engineOpOk op)
  | .migrationMoveDone pa => some (decide (pa < 2 ^ 56) && pa % 4096 == 0)
  | .faultRetry _ st => some (storesOk st)
  | .sfenceBroadcast _ _ _ st => some (storesOk st)
  | .memPasidTable _ _ st => some (storesOk st)
  | .tenRotInval a n st => some (decide (a < 2 ^ 32) && decide (n < 2 ^ 32) && storesOk st)
  | .tenantClearDone _ f => some (readBackOk f)
  | .lrtData d => some (datagramOk d)
  | .lrtFlag d => some (datagramOk d)
  | .lrtAck d => some (datagramOk d)
  | .lrtNak d => some (datagramOk d)
  | .lrtProbe d => some (datagramOk d)
  | .lrtProbeReply d => some (datagramOk d)
  | .writeCal b s => some (decide (b.length = 64) && decide (s.length = 96))
  | .writeFw b s => some (decide (s.length = 96) && Nat.ble (b.length + s.length) 1048576)
  | _ => none

/-- A command is well formed. A row whose operands have no size of their own always is. -/
def Instr.wf (i : Instr) : Bool := ((requestWf i).orElse (fun _ => sizedWf i)).getD true

end Sys2Proof
end

