-- ==== Sys2Proof/Tests/Slice0.lean ====
section
/-! SUPPORT. Tests: ill-formed commands are refused by the checks, small runs of single commands, and for each statement's
clause a state and operands that meet its hypotheses together. -/

set_option Elab.async false

namespace Sys2Proof.Tests

open Sys2Proof.Machine Sys2Proof.Stm

/-! ### The checks of well-formedness refuse ill-formed terms -/

theorem test_wf_store_beyond_the_map : Instr.wf (.sqTail 0 0 0 [⟨2 ^ 56, 0⟩]) = false := by decide
theorem test_wf_tiles_named_twice : Instr.wf (.schedulerDispatch 0 [3, 3]) = false := by decide
theorem test_wf_access_over_a_line : Instr.wf (.hdmHostAccess 0 (.read 65)) = false := by decide
theorem test_wf_firmware_frame_length : Instr.wf (.read (.firmware 2 [0])) = false := by decide
theorem test_wf_object_of_tenant_64 : Instr.wf (.objectWrite ⟨0x3810, 0, 64⟩ 0) = false := by decide
theorem test_wf_config_dword_unaligned : Instr.wf (.configRequest 0 (.readOther 2)) = false := by decide
theorem test_wf_read_back_of_nothing : Instr.wf (.tenantClearDone (.tile 0) (.correctable 0 0 0)) = false := by decide
theorem test_wf_datagram_over_a_frame : Instr.wf (.lrtData ⟨0, 0, true, false, List.replicate 9217 0⟩) = false := by
  decide +kernel
theorem test_wf_message_of_no_packet : Instr.wf (.read (.mctp .i3c 0 0 [])) = false := by decide
theorem test_wf_mailbox_of_1039_bytes : Instr.wf (.mbxGo 0 (List.replicate 1039 0) false) = false := by decide +kernel
theorem test_wf_thermal_sample_short : Instr.wf (.thermalSample []) = false := by decide
theorem test_wf_session_number_0 : Instr.wf (.sessionIdleTimeout 0) = false := by decide
theorem test_wf_calibration_without_signature : Instr.wf (.writeCal (List.replicate 64 0) []) = false := by decide +kernel
theorem test_wf_good : Instr.wf (.schedulerDispatch 0 [3, 4]) = true := by decide

/-! ### States of the tests -/

/-- A device that serves, every unit of the map enabled. -/
def w0 : Dev :=
  { pwr := { tick := 10000000000, v54 := true, charged := true, pwrEn := true, perst := false, modPwrOk := true, rails := true
             coldBoot := false, linkReset := false }
    boot := { stage := 8, complete := true, lock := true, cfgOpen := true, slot := 0, active := 2 ^ 294 - 1, pcieGen := 5
              pcieLanes := 16 } }

/-- Four facts in front of a fifth. -/
theorem four {a b c d e : Prop} (h : a ∧ b ∧ c ∧ d) (r : e) : a ∧ b ∧ c ∧ d ∧ e := ⟨h.1, h.2.1, h.2.2.1, h.2.2.2, r⟩

/-- A state with this device, the meter off. -/
def W (d : Dev) : State := { dev := d }

/-- A state with this meter and the device of the tests. -/
def G (g : Gnt) : State := { dev := w0, gnt := { g with powered := true } }

/-- The device of the tests in a stage of its boot. -/
def inBoot (n : Nat) (b : Boot) : Dev :=
  { w0 with boot := { b with stage := n, running := true, complete := false, cfgOpen := false } }

/-- The device of the tests with a tile as given. -/
def onTile (k : Nat) (x : Tile) : Dev := { w0 with tiles := [(k, x)] }

/-- A RUN job on tile 0, its program two words before the end of a page. -/
def aJob : Job :=
  { opcode := 1, program := 0x10FE0, st := .running, tiles := [0], nTiles := 1, ran := true, gens := [(1, 1), (9, 1)] }

/-- A mapping of one page of the tenant 0, PASID 0, to a page of HBM. -/
def page (vpn ppn : Nat) : TlbEntry := ⟨0, 0, 0, false, vpn, 1, ppn, true, true, true⟩

/-- Page 0x10 of tenant 0 is mapped for every requester, and its region is the tenant's own. -/
def mapped : Stu := { iotlb := [page 0x10 0x100], rotCache := [(0, 0x4000)] }

/-- The tile that runs the job, its program page in its micro-TLB: handle 1 is the TB, 2 the AS, 3 memory. -/
def aTile : Tile :=
  { power := .run, owner := some 0, job := some 1, active := true, uTlb := [page 0x10 0x100]
    handles := [(1, ⟨1, false, 0x10000, 0⟩), (2, ⟨2, false, 0x10000, 0⟩), (3, ⟨3, false, 0x1000, 0x10000⟩)] }

/-- The tile at a command word, with what differs from the tile above. -/
def tw (w : Tcw) (f : Tile → Tile) : Dev :=
  { w0 with
    tiles := [(0, f aTile)], jobs := [(1, aJob)], stu := { rotCache := [(0, 0x4000)] }
    mem := ({} : Mem).poke 0x100FE0 (leBytes w.toNat 16) }

/-- The same device once the word is fetched. -/
def fetched (d : Dev) : Dev := (d.fetchTcw 0 1 aJob).2.firstTcw 1 aJob
def tw' (w : Tcw) (f : Tile → Tile) : Dev := fetched (tw w f)

/-- A command word: group, function, payload. -/
def word (g f p : Nat) : Tcw := BitVec.ofNat 128 (g * 2 ^ 124 + f * 2 ^ 118 + p)

/-- The checks at issue, as one test. -/
def issueOk (d : Dev) (w : Tcw) (g fn : Nat) (regs : List Nat) : Bool :=
  d.canIssue 0 && d.tileJob 0 == some (1, aJob) && (d.fetchTcw 0 1 aJob).1 == some w.toNat &&
    tcwGroup w.toNat == g && tcwFunc w.toNat == fn && ((d.fetchTcw 0 1 aJob).2.tile 0).skip == none &&
    ((d.fetchTcw 0 1 aJob).2.tile 0).out.all (fun o => !o.holdsReg regs) &&
    ((d.fetchTcw 0 1 aJob).2.tile 0).p (w.toNat / 2 ^ 115 % 8) != w.toNat.testBit 114

theorem issues (d : Dev) (w : Tcw) (g fn : Nat) (regs : List Nat) (h : issueOk d w g fn regs = true) :
    Issues (W d).dev 0 w g fn regs (fetched d) := by
  simp only [issueOk, Bool.and_eq_true, beq_iff_eq, bne_iff_ne, List.all_eq_true, Bool.not_eq_true'] at h
  obtain ⟨⟨⟨⟨⟨⟨⟨h1, h2⟩, h3⟩, h4⟩, h5⟩, h6⟩, h7⟩, h8⟩ := h
  exact ⟨1, aJob, _, h1, h2, Prod.ext h3 rfl, rfl, h4, h5, h6, h7, h8⟩

/-- Function `n` of the device submits this frame (function 0 with the operator's role). -/
def asks (d : Dev) (n : Nat) (f : List Byte) : State :=
  W { d with
    fns := KMap.put [] n { busy := true, req := f ++ List.replicate (1040 - f.length) 0, rsp := List.replicate 1040 0
                           operator := n == 0 } }

/-- The row of an object. -/
def rowOf (i j : Nat) : ObjRow := (objRow? i j).getD ⟨"", 0, 0, 0, .uint8, .ro, none, .openL, false, .vol, none⟩

/-- An operator key, and the signature under it of the digest of the nonce 1 with session number 0. -/
def aKey : Nat :=
  0xbd7bc3ebeec9364ff2f7281eccdbf7ed0e52e5ae78ed65979dccbb9c630f4d490b7d43ee4d50381c3634dcd5d3c6b9e10f585e63c165fd989bd7da7431ef7853cfe23c4c5bea4590e4ece703d2d23f330b1c61b567ffb5b121d2d9569615918c

def aSig : List Byte :=
  let z := 0xc5f6047ba6c0cffb7bf417a7e893d6abbaffd6498e29923d233a72a8ff57c6d38607d7b8d18384edcdd95212f902b205
  beBytes z 48 ++ beBytes z 48

/-- The function 0 asks with this frame and holds a nonce of value 1. -/
def proves (f : List Byte) : State :=
  W { w0.setObj 0x1120 0 0 aKey with
    fns := KMap.put [] 0 { busy := true, req := f ++ List.replicate (1040 - f.length) 0, rsp := List.replicate 1040 0
                           nonce := some ⟨1, w0.pwr.tick⟩ } }

/-- Ring 0 is enabled for function 0 with its queues in page 0x10, and its first entry reads as `e`. -/
def ringDev (e : Nat) : Dev :=
  { w0 with
    fns := [(0, { busMaster := true })]
    rings := [(0, { st := .enabled, sqBase := 0x10000, cqBase := 0x10800, size := 3, sqTail := 1 })], stu := mapped
    mem := ({} : Mem).poke 0x100000 (leBytes e 64) }

/-- The span of ring 0's next entry, the device after its checks and read, and the test that they pass. -/
def nextSpan (d : Dev) : Option (List (Nat × Nat × Nat)) × Dev :=
  d.translateSpan (d.ring 0).fn (d.ring 0).pasid (((d.ring 0).sqBase + 64 * (d.ring 0).sqHead) % 2 ^ 64) 64 0
    { source := 0x80, ring := 0, prio := d.obj 0x3015 1 0 }

def nextRead (d : Dev) : ReadResult × Dev :=
  let ps := (nextSpan d).1.getD []
  ((nextSpan d).2.ownOkAll (d.ring 0).fn ps false).2.busRead (d.ring 0).fn (d.ring 0).pasid ps

theorem nextEntry_of (d : Dev) (e : Nat)
    (h : (d.pickRing = some 0 ∧ (nextSpan d).1.isSome = true ∧
      ((nextSpan d).2.ownOkAll (d.ring 0).fn ((nextSpan d).1.getD []) false).1 = true) ∧
      (nextRead d).1 = ⟨leBytes e 64, [], 0, 0⟩) : NextEntry d 0 e (nextRead d).2 := by
  obtain ⟨⟨h1, h2, h3⟩, h4⟩ := h
  refine ⟨h1, (nextSpan d).1.getD [], _, _, Prod.ext ?_ rfl, Prod.ext h3 rfl, Prod.ext h4 rfl⟩
  obtain ⟨x, hx⟩ := Option.isSome_iff_exists.mp h2
  exact hx.trans (by rw [hx]; rfl)

/-- The completion slot of ring 0: its span, and the device after the checks. -/
def slotSpan (d : Dev) (j : Nat) (x : Job) : Option (List (Nat × Nat × Nat)) × Dev :=
  d.translateSpan (d.ring 0).fn (d.ring 0).pasid (((d.ring 0).cqBase + 16 * (d.ring 0).cqTail) % 2 ^ 64) 16 1
    (cqReq x j (d.obj 0x3015 1 0))

def slotDev (d : Dev) (j : Nat) (x : Job) : Bool × Dev :=
  (slotSpan d j x).2.ownOkAll (d.ring 0).fn ((slotSpan d j x).1.getD []) true

theorem slotOpen_of (d : Dev) (j : Nat) (x : Job)
    (h : (slotSpan d j x).1.isSome = true ∧ (slotDev d j x).1 = true) :
    SlotOpen d 0 j x ((slotSpan d j x).1.getD []) (slotDev d j x).2 := by
  refine ⟨_, Prod.ext ?_ rfl, Prod.ext h.2 rfl⟩
  obtain ⟨y, hy⟩ := Option.isSome_iff_exists.mp h.1
  exact hy.trans (by rw [hy]; rfl)

/-- Four tables of a Sv48 context map the last page below 2^47, and each page table entry lies at the end its index gives. -/
def tabDev (leaf : Nat) : Dev :=
  { w0 with
    stu := { ctxCache := [⟨0, 0, 1 + 9 * 2 ^ 44 + 65535 * 2 ^ 48 + 0x1001 * 2 ^ 64⟩] }
    mem := ((((({} : Mem).poke 0x10017F8 (leBytes (0x1002 * 1024 + 1) 8)).poke 0x1002FF8
      (leBytes (0x1003 * 1024 + 1) 8)).poke 0x1003FF8 (leBytes (0x1004 * 1024 + 1) 8)).poke 0x1004FF8 (leBytes leaf 8)) }

/-- A sample or a period that falls due at this tick. -/
theorem due_at {d : Dev} (x : Nat) (h : d.therm.lastSample = some x) (h2 : x + 25000 ≤ d.pwr.tick) : SampleDue d := by
  intro y hy
  rw [h] at hy
  cases hy
  exact h2

theorem over_at {d : Dev} {l : Option Nat} {n : Nat} (x : Nat) (h : l = some x) (h2 : x + n ≤ d.pwr.tick) :
    PeriodOver d l n := by
  intro y hy
  rw [h] at hy
  cases hy
  exact h2

/-- What holds of the job found under a number. -/
theorem of_find {m : KMap Job} {j : Nat} {y : Job} {P : Job → Prop} (h : KMap.find m j = some y) (p : P y) (x : Job)
    (hx : KMap.find m j = some x) : P x := by
  rw [h] at hx
  cases hx
  exact p

/-- The device of the tests with its sensors sampled one period ago. -/
def sampled : Dev := { w0 with therm := { lastSample := some 9999975000 } }

/-- A requester of a translation, of an engine (no tile) and of tile 0 for job 1. -/
def anEngine : Requester := { source := 128, va := 2 ^ 47 - 1 }
def aTileReq : Requester := { source := 0, job := some 1, tag := 2, va := 2 ^ 47 - 1, access := 1 }

/-- A walk of the last page below 2^47 that this requester waits for, on a walker for a while. -/
def aWalk (r : Requester) : Walk := { tenant := 0, pasid := 0, va := 2 ^ 47 - 1, reqs := [r], active := true, start := 9999999750 }

/-- The device with this walk, and what the walk answers. -/
def walkDev (leaf : Nat) (r : Requester) : Dev :=
  let d := tabDev leaf
  { d with stu := { d.stu with walks := [(7, aWalk r)] }, jobs := [(1, aJob)], tiles := [(0, { aTile with uTlb := [] })] }

def walkEnd (d : Dev) (w : Walk) : WalkEnd × Dev :=
  ((d.dropWalk 7).maxObj 0x4020 4 0 (d.pwr.tick - w.start) 32).walk w.tenant w.pasid w.va

theorem walk_is (d : Dev) (w : Walk) (x : WalkEnd) (h : (walkEnd d w).1 = x) :
    (((W d).dev.dropWalk 7).maxObj 0x4020 4 0 ((W d).dev.pwr.tick - w.start) 32).walk w.tenant w.pasid w.va =
      (x, (walkEnd d w).2) := Prod.ext h rfl

/-- A fault record of this requester. -/
def aFault (r : Requester) : FaultRec :=
  { tenant := 0, pasid := 0, va := r.va, access := r.access, cause := 1, level := 0, tick := 0, reqs := [r] }

/-- An empty checkpoint record. -/
def aCkpt : Ckpt := { pos := 4, sregs := [], preds := 1, loops := [], handles := [], keep := 0, keepStart := 0, keepData := [7] }

/-- A stamp does not lie ahead of the tick counter. -/
theorem stamp_lt (d : Dev) (u n : Nat) (h : d.pwr.tick < n) : d.stamp u < n := by
  have h1 : localTick u d.pwr.tick ≤ d.pwr.tick := by
    unfold localTick
    exact Nat.max_le.mpr ⟨Nat.sub_le _ _, Nat.max_le.mpr ⟨by omega, Nat.sub_le _ _⟩⟩
  exact Nat.lt_of_le_of_lt (Nat.le_trans (Nat.mod_le _ _) h1) h

/-! A pool of tenant 0: two leaves of 2 MiB map 0x2000000 to itself and 0x2200000 to itself, one maps 0x1000000. -/

def poolMem : Mem :=
  (((((({} : Mem).poke 0x1001000 (leBytes (0x1002 * 1024 + 1) 8)).poke 0x1002000 (leBytes (0x1003 * 1024 + 1) 8)).poke
    0x1003040 (leBytes (0x1000 * 1024 + 0xD7) 8)).poke 0x1003080 (leBytes (0x2000 * 1024 + 0xD7) 8)).poke
    0x1003088 (leBytes (0x2200 * 1024 + 0xD7) 8)).poke 0x1030000
    (leBytes (4 * 2 ^ 328 + 2 ^ 320 + 2 ^ 313 + 8 * 2 ^ 306 + 8 * 2 ^ 299 + 2 ^ 295) 64)

/-- A SEQ_CTL job on sequence `q`: operation, token number, reserve, parent, sketch flag, ARGS. -/
def kvJob (q op n res par : Nat) (args : Nat := 0) (sk : Nat := 0) : Job :=
  { opcode := 4, seq := q, args := args, argsLen := if args = 0 then 0 else 1
    inline := n * 2 ^ 96 + res * 2 ^ 72 + par * 2 ^ 56 + op * 2 ^ 48 + sk * 2 ^ 47 }

/-- The device with the pool, and this job. -/
def poolDev (x : Job) : Dev :=
  (((({ w0 with
    mem := poolMem, jobs := [(1, x)]
    stu := {
      ctxCache := [⟨0, 0, 1 + 9 * 2 ^ 44 + 0x1001 * 2 ^ 64⟩], rotCache := [(8, 0x4000), (16, 0x4000), (17, 0x4000)]
      iotlb := [0x1000, 0x2000, 0x2200].map (fun n => (⟨0, 0, 0, false, n, 512, n, true, true, true⟩ : TlbEntry)) }
    }.setObj 0x6011 0 0 0x2000000).setObj 0x6012 0 0 0x28000).setObj 0x6013 0 0 0x400000).setObj 0x6018 0 0 16)

/-- The device after a command. -/
def after (d : Dev) (c : Instr) : Dev :=
  match exec c (W d) with
  | .next t => t.dev
  | _ => d

/-- Sequence 5 after CREATE; after a COMMIT of 70 tokens; and sequence 6 after a FORK of it at 64. -/
def created : Dev := after (poolDev (kvJob 5 1 0 100 0 0x1030000)) (.create 1)
def committed : Dev := after { created with jobs := [(1, kvJob 5 3 70 0 0 0 1)] } (.commit 1)
def forked : Dev := after { committed with jobs := [(1, kvJob 6 2 64 0 5)] } (.fork 1)

/-- An operation's checks and the translation of its writes, and the test that they end without a stop. -/
def kvRun (d : Dev) (body : KvCtx → Job → KM KvPlan) (x : Job) :
    Except KvEnd (KvPlan × List (List (Nat × Nat × Nat) × KvWrite)) × Dev :=
  let y : Job := { x with taken := true }
  let e : Dev := { d with jobs := d.jobs.put 1 y }
  let c : KvCtx := { job := 1, tenant := x.tenant, pasid := x.pasid, pool := d.obj 0x6010 0 x.tenant
                     req := e.withJob (some 1) { source := 0x8B } }
  (do
    let p ← body c y
    let ws ← KM.prepare c p
    pure (p, ws) : KM _).run.run e

theorem kvChecked_of (d : Dev) (op : Nat) (body : KvCtx → Job → KM KvPlan) (x : Job)
    (h : ((d.serving = true ∧ KMap.find d.jobs 1 = some x ∧ x.opcode = 4 ∧ x.st = .waiting ∧ d.held 1 x = false ∧
      (x.taken = true ∨ d.inOrder 1 x = true)) ∧ x.inline / 2 ^ 48 % 256 = op) ∧ (kvRun d body x).1.toBool = true) :
    ∃ p ws d', KvChecked d 1 op body x p ws d' := by
  obtain ⟨⟨h1, h2⟩, h4⟩ := h
  rcases hr : kvRun d body x with ⟨r, d'⟩
  cases r with
  | error e => rw [hr] at h4; cases h4
  | ok y => exact ⟨y.1, y.2, d', h1, h2, hr⟩

/-- The pool's device with a leaf of a page of host memory at 0x2200000 instead. -/
def hostLeafDev (x : Job) : Dev :=
  let d := poolDev x
  { d with mem := d.mem.poke 0x1003088 (leBytes (hostBase / 4096 * 1024 + 0xD7) 8) }

/-- A PREFETCH or ADVISE job on pages of the pool's map. -/
def moveJob (op mode va : Nat) : Job := { opcode := op, inline := va * 2 ^ 64 + 2 ^ 32 + mode }

/-- The committed sequence over its quota, its pool mapped by pages of 4 KiB, its first page advised PREFER_HOST. -/
def evictDev : Dev :=
  let d := ((committed.setObj 0x6016 0 0 0x10000).setObj 0x6015 0 0 0x200000).setObj 0x6013 0 0 0x28000
  { d with
    mem := (d.mem.poke 0x1003080 (leBytes (0x1004 * 1024 + 1) 8)).poke 0x1004000
      ((List.range 24).flatMap (fun i => leBytes ((0x2000 + i) * 1024 + 0xD7) 8))
    stu := { d.stu with advice := (List.range 16).map (fun i => ⟨0, 0, 8200 + i, 3⟩) } }

/-- A walk of the migration engine for job 1, of the page 0x2200000, on a walker for a while. -/
def aPageReq : Requester := { source := 0x82, job := some 1, va := 0x2200000 }
def aPageWalk : Walk := { tenant := 0, pasid := 0, va := 0x2200000, reqs := [aPageReq], active := true, start := 9999999750 }
def pageDev (d : Dev) : Dev := { d with stu := { d.stu with walks := [(7, aPageWalk)] } }

/-- A read of an engine and a translation with its check, with what they answer. -/
theorem eng_is (d : Dev) (t p va n : Nat) (q : Requester) (r) (h : (d.engRead t p va n q).1 = r) :
    (W d).dev.engRead t p va n q = (r, (d.engRead t p va n q).2) := Prod.ext h rfl

theorem engw_is (d : Dev) (t p va : Nat) (b : List Byte) (q : Requester) (r) (h : (d.engWrite t p va b q).1 = r) :
    (W d).dev.engWrite t p va b q = (r, (d.engWrite t p va b q).2) := Prod.ext h rfl

theorem span_is (d : Dev) (t p va n a : Nat) (q : Requester) (r) (h : (d.translateSpan t p va n a q).1 = r) :
    (W d).dev.translateSpan t p va n a q = (r, (d.translateSpan t p va n a q).2) := Prod.ext h rfl

theorem own_is (d : Dev) (t : Nat) (ps : List (Nat × Nat × Nat)) (w : Bool) (h : (d.ownOkAll t ps w).1 = true) :
    d.ownOkAll t ps w = (true, (d.ownOkAll t ps w).2) := Prod.ext h rfl

/-- Tile 0 with one outstanding command of queue 3, its operand page mapped and holding 7. -/
def outDev (body : MemOp) : Dev :=
  { w0 with
    tiles := [(0, { aTile with out := [.op 9 3 4 body [] [] []], nextOp := 10 })], jobs := [(1, aJob)]
    stu := { rotCache := [(0, 0x4000)] }, mem := ({} : Mem).poke 0x100000 [7] }

theorem outDev_is (d : Dev) (body : MemOp) (h : d.serving = true ∧ (d.tile 0).active = true ∧ d.tileJob 0 = some (1, aJob))
    (h2 : (d.tile 0).out = [.op 9 3 4 body [] [] []]) : Outstanding (W d).dev 0 9 3 4 body 1 aJob :=
  ⟨h.1, h.2.1, h.2.2, by decide, [], [], [], h2⟩

/-- The committed sequence, its pool mapped at tile 0, where one command is outstanding. -/
def gatherDev (body : MemOp) : Dev :=
  { committed with
    tiles := [(0, { aTile with
      out := [.op 9 3 4 body [] [] []], nextOp := 10
      uTlb := [⟨0, 0, 0, false, 0x2000, 512, 0x2000, true, true, true⟩] })], jobs := [(1, aJob)] }

def seq5 : Seq := (KMap.find committed.kv.seqs 5).getD ⟨0, 0, 0, 0, 0, 0, 0, 0, 0, 0, false, 0, 0, 0, 0, 0, 0⟩

/-- A pair is its first part with its second. -/
theorem pair_is {α β : Type} (x : α × β) (a : α) (h : x.1 = a) : x = (a, x.2) := Prod.ext h rfl

/-- What a read answers. -/
def got (x : Got) : ReadResult :=
  match x with
  | .data r => r
  | _ => ⟨[], [], 0, 0⟩

/-- An image of zeros in table slot 1 and in program slot 1 of tenant 0. -/
def withImages (d : Dev) : Dev :=
  { d with sfu := [(1, ⟨[⟨1, List.replicate 64 0⟩], some 1, 1⟩), (9, ⟨[⟨1, List.replicate 64 0⟩], some 1, 1⟩)] }

/-- A query that selects every column, and the tile that waits for it. -/
def aQuery : Query :=
  { id := 1, eval := 1, tenant := 0, seq := 5, layer := 0, group := 0, block := [], result := ⟨2, 0, 64⟩, countReg := 5
    exact := true, limit := 250, start := 9999999751, prio := 6, forced := true }

def queryDev : Dev :=
  { committed with tiles := [(0, { aTile with query := some aQuery })], jobs := [(1, aJob)] }

/-- The same sequence, and a tile whose query waits for its layer. -/
def lateDev : Dev :=
  { committed with tiles := [(0, { aTile with query := some { aQuery with forced := false, start := 0 } })], jobs := [(1, aJob)] }

/-- A span of sequence 5 whose layer is being loaded. -/
def aSpan : ScSpan :=
  { seq := 5, tenant := 0, np := 2, slots := [(0, 0)], bank0 := some { layer := 0, np := 2, loading := some 1 } }

def loadDev : Dev :=
  { committed with
    scout := { spans := [aSpan] }
    stu := { committed.stu with iotlb := [⟨0, 0, 0, false, 0x2000, 512, 0x2000, true, true, true⟩] } }

/-- A load's read is ended. -/
def loadEnds (x : LoadEnd) : Bool :=
  match x with
  | .ok _ => true
  | _ => false

theorem load_ok (d : Dev) (t : Nat) (r : Requester) (l : List (Nat × Nat))
    (h : loadEnds (Dev.loadRead t r l d []).1 = true) : ∃ b d', Dev.loadRead t r l d [] = (.ok b, d') := by
  rcases hr : Dev.loadRead t r l d [] with ⟨x, d'⟩
  cases x with
  | ok b => exact ⟨b, d', rfl⟩
  | wait => rw [hr] at h; cases h
  | fail => rw [hr] at h; cases h

/-- A batch descriptor of one problem, one row, one variable. -/
def aBatch (mode deltas template : Nat) : Nat :=
  2 ^ 272 + 2 ^ 263 + 2 ^ 257 + mode * 2 ^ 238 + deltas * 2 ^ 222 + 0x10200 * 2 ^ 448 + 0x10300 * 2 ^ 384 +
    template * 2 ^ 320

def aResident : Resident :=
  { p := 1, m := 1, n := 1, g := 0, d := 1, nshift := 0, consts := List.replicate 8 0, cells := [0, 0], data := [0]
    facts := [⟨[[1]], false, false⟩], shared := ⟨[], false, false⟩ }

/-- Slot 0 enabled for tenant 0 with one descriptor in its queue. -/
def solvDev (n : Nat) (x : SSlot → SSlot) : Dev :=
  { w0 with
    stu := mapped, mem := (({} : Mem).poke 0x100000 [1]).poke 0x100040 (leBytes n 64)
    solv := { slots := [(0, x { st := .enabled, ready := true, base := 0x10000, pi := 1, lastTenant := some 0 })] } }

/-- The descriptor of slot 0 that is served next, and the device after its read. -/
def descRead (d : Dev) : Option (List Byte) × Dev := d.slotRead 0 (((d.slot 0).base + 64 + 64 * (d.slot 0).ci) % 2 ^ 64) 64

theorem batchReady_of (d : Dev) (raw : List Byte)
    (h : d.solverOn = true ∧ d.solv.batch = none ∧ d.nextSlot = some 0 ∧ d.slotClear 0 = none)
    (h2 : (descRead d).1 = some raw) :
    BatchReady d 0 (((d.slot 0).base + 64 + 64 * (d.slot 0).ci) % 2 ^ 64) raw (descRead d).2 :=
  ⟨h.1, h.2.1, h.2.2.1, h.2.2.2, rfl, Prod.ext h2 rfl⟩

theorem run_ok {α : Type} (m : BM α) (d : Dev) (h : (m.run.run d).1.toBool = true) :
    ∃ a d', m.run.run d = (.ok a, d') := by
  rcases hr : m.run.run d with ⟨x, d'⟩
  cases x with
  | error e => rw [hr] at h; cases h
  | ok b => exact ⟨b, d', rfl⟩

/-- Six ports up, peer 1 with on-link address 7 over port 5 and address 9, channel 63 as given. -/
def scaleDev (x : Chan) (st : Nat) : Dev :=
  let d := (poolDev {}).setObj 0x8020 2 0 9
  { d with
    stu := { d.stu with iotlb := [⟨0, 0, 0, false, 0x1000, 512, 0x1000, true, true, true⟩] }
    scale := { ports := (List.range 6).map (fun i => (i, .up)), peers := [(1, { st := st, link := [(5, 7)] })], chans := [(63, x)] } }

/-- An open channel to peer 1, its receive window of 64 KiB at 0x1000000, its queue of 64 entries at 0x1000000. -/
def aChan : Chan :=
  { st := .openSt, peer := 1, rxBase := 0x1000000, rxBytes := 65536, sqBase := 0x1000000, ready := true, udpPort := w0.obj 0x8010 0 0 }

/-- A header from channel 0 of member 1 for channel 63, and its packet as it comes in over port 5. -/
def aHead (type : Nat) : LrtHeader := { type := type, srcMember := 1, dstMember := 0, dstCh := 63, srcCh := 0, group := 0 }

def aGram (h : LrtHeader) (pl : List Byte) : LrtDatagram :=
  ⟨5, BitVec.ofNat 16 (w0.obj 0x8010 0 0), true, false, lrtBytes h pl⟩

/-- A packet not yet acknowledged. -/
def aPkt : LrtPkt := ⟨0, false, 0, [1], 0, false⟩

/-- One send entry of 8 bytes from 0x1000800 with a flag, in the queue of the open channel. -/
def sendDev : Dev :=
  let d := scaleDev { aChan with pi := 1 } 1
  { d with mem := d.mem.poke 0x1000040 (leBytes (0x1000800 * 2 ^ 192 + 8 * 2 ^ 128 + 2 ^ 80 + 5) 32) }

theorem lands_of (d d1 d2 : Dev) (g : LrtDatagram) (t : Nat) (h : LrtHeader) (pl data : List Byte) (ps : List (Nat × Nat × Nat))
    (h1 : d.lrtIn g t = some (h, pl))
    (h2 : (d.chan h.dstCh).accepts h = true ∧ (d.chan h.dstCh).held = none ∧ h.psn = (d.chan h.dstCh).expected ∧
      h.psn < 2 ^ 24 ∧ h.offset + data.length ≤ (d.chan h.dstCh).rxBytes)
    (h3 : d.translateSpan (d.chan h.dstCh).tenant (d.chan h.dstCh).pasid (((d.chan h.dstCh).rxBase + h.offset) % 2 ^ 64)
      data.length 1 (d.chanReq h.dstCh 2) = (some ps, d1))
    (h4 : d1.ownOkAll (d.chan h.dstCh).tenant ps true = (true, d2)) (h5 : Clean d2.mem) :
    Lands (W d) g t h pl data ps d1 d2 :=
  ⟨h1, h2.1, h2.2.1, h2.2.2.1, h2.2.2.2.1, h2.2.2.2.2, h3, h4, h5⟩

/-! A gather of one page of sequence 5, with a key of one byte a token. -/

def seqS : Seq := { seq5 with dimK := 1 }
def gatherOne : Dev :=
  { gatherDev (.gather 5 0 0 false [0] ⟨1, 0, 2048⟩ 5 0 0) with kv := { committed.kv with seqs := [(5, seqS)] } }
def gatherDesc : Got × Dev := gatherOne.engRead aJob.tenant (gatherOne.obj 0x6010 0 aJob.tenant) (seqS.descVa 0 0 0) 16 (queueReq gatherOne 0 3 9)
def gatherKey : Nat := (descOf (leNat (got gatherDesc.1).bytes)).key
def gatherData : Got × Dev :=
  gatherDesc.2.engRead aJob.tenant (gatherOne.obj 0x6010 0 aJob.tenant) gatherKey (seqS.payload false) (queueReq gatherDesc.2 0 3 9)

/-! ### Single steps and the spec's worked examples -/

/-- Example 19.1: 14,316,557 units over 10 ms at a base of 300 W, weights of tenants 5, 7 and 12. -/
def ex19 : State :=
  { G { pendingE := 14316557, lastReport := some 3, met := 160, cal := { baseMw := 300000 } } with
    occChan := [⟨4, 0, false, false, (List.range 64).map (fun n =>
      if n = 5 then 12000000 else if n = 7 then 4000000 else if n = 12 then 8000000 else 0)⟩] }

def gnt19 : Gnt :=
  match exec .occupancyReport ex19 with
  | .next t => t.gnt
  | _ => {}

theorem test_example_19_1_tenants :
    gnt19.regs.tenants.get 5 0 = 5368709 ∧ gnt19.regs.tenants.get 7 0 = 1789569 ∧ gnt19.regs.tenants.get 12 0 = 3579139 := by
  decide +kernel
theorem test_example_19_1_rest :
    gnt19.regs.unattr = 3579140 ∧ gnt19.regs.total = 14316557 ∧ gnt19.pendingE = 0 := by decide +kernel

/-- Example 5.1: ID_REVISION read through the PF mailbox with TAG 0x05; the answer is 0x0000_4101. -/
def asked51 : State := asks w0 0 [0x12, 0, 0, 0, 0, 0, 5, 0, 1, 0, 1, 0x10, 0, 0, 0, 0]

theorem test_example_5_1 : (match exec (.read (.mailbox 0)) asked51 with
    | .next t => ((t.dev.fn 0).rsp.take 20, (t.dev.fn 0).busy, (t.dev.fn 0).done)
    | _ => ([], true, false)) =
    ([0x13, 0, 0, 0, 0, 0, 5, 0, 1, 0, 1, 0x10, 0, 0, 4, 0, 1, 0x41, 0, 0], false, true) := by decide +kernel

/-- Example 11.1: conversions. -/
theorem test_example_11_1_300 : (fmtGet 4).encode (.fin false 300 0) = 0x79 := by decide +kernel
theorem test_example_11_1_500 : (fmtGet 4).encode (.fin false 500 0) = 0x7E := by decide +kernel
theorem test_example_11_1_exp_xr : builtin 0 (.fin true 120 0) 0 (.float xr) = 0x3FA8EB03 := by decide +kernel

/-- Example 14.1: ln 30.192871 in XR. -/
theorem test_example_14_1_lse : lnXr (.fin false 61835 (-11)) = 0x40005A16 := by decide +kernel

/-- A step takes one command, the front one. -/
theorem test_front_only : step { W w0 with pending := [.errAlertClear, .substitutionEnd] } =
    .next { W { w0 with err := { w0.err with unit := [] } } with pending := [.substitutionEnd] } := rfl

/-- On an empty queue a tick of the AON counter passes. -/
theorem test_idle_tick : (match step State.reset with
    | .next t => t.dev.pwr.tick
    | _ => 0) = State.reset.dev.pwr.tick + 1 := rfl

/-! ### InputsAndLatches -/

theorem wit_InputsAndLatches_4 : ∃ (s : State), s.dev.pwr.v54 = true :=
  ⟨W w0, by decide +kernel⟩
theorem wit_InputsAndLatches_5 : ∃ (s : State), s.dev.pwr.charging = true :=
  ⟨W { w0 with pwr := { w0.pwr with charging := true } }, by decide +kernel⟩
theorem wit_InputsAndLatches_6 : ∃ (s : State), s.dev.pwr.v54 = false ∧ s.dev.pwr.v54Tick + 250000 ≤ s.dev.pwr.tick :=
  ⟨W { w0 with pwr := { w0.pwr with v54 := false } }, by decide +kernel⟩
theorem wit_InputsAndLatches_7 : ∃ (s : State), s.dev.pwr.pwrEn = false ∧ s.dev.pwr.pwrEnTick + 250000 ≤ s.dev.pwr.tick :=
  ⟨W { w0 with pwr := { w0.pwr with pwrEn := false } }, by decide +kernel⟩
theorem wit_InputsAndLatches_8 : ∃ (s : State), s.dev.pwr.pwrEn = false ∧ s.dev.pwr.tick < s.dev.pwr.pwrEnTick + 250000 :=
  ⟨W { w0 with pwr := { w0.pwr with pwrEn := false, pwrEnTick := 9999750001 } }, by decide +kernel⟩

/-! ### TurnOffs -/

theorem wit_TurnOffs_0 : ∃ (s : State), s.dev.live = true ∧ s.dev.pwr.pwrEn = true :=
  ⟨W w0, by decide +kernel⟩
theorem wit_TurnOffs_1 : ∃ (s : State), s.dev.live = true ∧ s.dev.pwr.v54 = true ∧ s.dev.pwr.aux = true :=
  ⟨W w0, by decide +kernel⟩
theorem wit_TurnOffs_2 : ∃ (s : State), s.dev.live = true :=
  ⟨W w0, by decide +kernel⟩
theorem wit_TurnOffs_3 : ∃ (s : State), s.dev.live = true ∧ s.dev.pwr.aon = true :=
  ⟨W w0, by decide +kernel⟩
theorem wit_TurnOffs_4 : ∃ (s : State), s.dev.live = false ∧ s.dev.pwr.aon = true :=
  ⟨W { w0 with pwr := { w0.pwr with rails := false } }, by decide +kernel⟩
theorem wit_TurnOffs_5 : ∃ (s : State), s.dev.pwr.aon = true ∧ s.dev.pwr.v54 = true ∧ s.dev.pwr.aux = false :=
  ⟨W { w0 with pwr := { w0.pwr with aux := false } }, by decide +kernel⟩
theorem wit_TurnOffs_6 : ∃ (s : State), s.dev.pwr.falling = true :=
  ⟨W { w0 with pwr := { w0.pwr with falling := true } }, by decide +kernel⟩
theorem wit_TurnOffs_7 : ∃ (s : State), s.dev.live = true ∧ s.dev.boot.attempt = true :=
  ⟨W { w0 with boot := { w0.boot with attempt := true } }, by decide +kernel⟩

/-! ### ResetsOfTheModule -/

theorem wit_ResetsOfTheModule_0 : ∃ (s : State), s.dev.pwr.aon = true ∧ s.dev.pwr.v54 = false :=
  ⟨W { w0 with pwr := { w0.pwr with v54 := false } }, by decide +kernel⟩
theorem wit_ResetsOfTheModule_1 : ∃ (s : State) (x : Straps), s.dev.pwr.aon = false ∧ (s.dev.pwr.v54 = true ∨
    s.dev.pwr.aux = true) :=
  ⟨W { w0 with pwr := { w0.pwr with aon := false } }, ⟨0, false, false⟩, by decide +kernel⟩
theorem wit_ResetsOfTheModule_2 : ∃ (s : State), s.dev.mayStart = true ∧ s.dev.pwr.coldBoot = true :=
  ⟨W { w0 with pwr := { w0.pwr with rails := false, coldBoot := true } }, by decide +kernel⟩
theorem wit_ResetsOfTheModule_3 : ∃ (s : State), s.dev.mayStart = true ∧ s.dev.pwr.coldBoot = false :=
  ⟨W { w0 with pwr := { w0.pwr with rails := false } }, by decide +kernel⟩
theorem wit_ResetsOfTheModule_4 : ∃ (s : State), s.dev.pwr.perst = false ∧ s.dev.live = true :=
  ⟨W w0, by decide +kernel⟩
theorem wit_ResetsOfTheModule_5 : ∃ (s : State), s.dev.live = true :=
  ⟨W w0, by decide +kernel⟩
theorem wit_ResetsOfTheModule_6 : ∃ (s : State), s.dev.live = true :=
  ⟨W w0, by decide +kernel⟩

theorem wit_ResetsOfTheModule_7 : ∃ s : State, s.dev.pwr.perst = false ∧ s.dev.live = false :=
  ⟨W { w0 with pwr := { w0.pwr with falling := true } }, by decide +kernel⟩
theorem wit_ResetsOfTheModule_8 : ∃ s : State, s.dev.pwr.perst = true := ⟨State.reset, by decide⟩
theorem wit_ResetsOfTheModule_9 : ∃ s : State, s.dev.mayStart = false := ⟨State.reset, by decide⟩
theorem wit_ResetsOfTheModule_10 : ∃ s : State, s.dev.live = false := ⟨State.reset, by decide⟩

/-! ### HostLink -/

theorem wit_HostLink_0 : ∃ (s : State), s.dev.pwr.perst = true ∧ s.dev.live = true ∧ s.dev.pwr.okTick + 2500000 ≤
    s.dev.pwr.tick :=
  ⟨W { w0 with pwr := { w0.pwr with perst := true, okTick := 9997500000 } }, by decide +kernel⟩
theorem wit_HostLink_1 : ∃ (s : State), s.dev.pwr.perst = true ∧ s.dev.pwr.tick < s.dev.pwr.okTick + 2500000 :=
  ⟨W { w0 with pwr := { w0.pwr with perst := true, okTick := 9997500001 } }, by decide +kernel⟩
theorem wit_HostLink_2 : ∃ (s : State), s.dev.live = true ∧ s.dev.pwr.perstHeld = true ∧ s.dev.pwr.perst = false ∧
    s.dev.pwr.okTick + 2500000 ≤ s.dev.pwr.tick :=
  ⟨W { w0 with pwr := { w0.pwr with perstHeld := true } }, by decide +kernel⟩
theorem wit_HostLink_3 : ∃ (s : State) (g : Fin 7) (l : Fin 17) (x : CxlMode), s.dev.live = true ∧ s.dev.pwr.linkReset
    = false ∧ s.dev.boot.fuses.testBit 272 = true ∧ g ≠ 0 ∧ (l = 1 ∨ l = 2 ∨ l = 4 ∨ l = 8 ∨ l = 16) :=
  ⟨W w0, 5, 16, .none, by decide +kernel⟩
theorem wit_HostLink_4 : ∃ (s : State), s.dev.live = true ∧ s.dev.boot.running = true ∧ s.dev.pwr.linkReset = false ∧
    s.dev.boot.cfgOpen = false ∧ s.dev.pwr.perstTick + 25000000 ≤ s.dev.pwr.tick :=
  ⟨W (inBoot 7 {}), by decide +kernel⟩
theorem wit_HostLink_5 : ∃ (s : State) (n : FnId) (op : CfgOp), s.dev.live = true ∧ s.dev.boot.pcieGen ≠ 0 ∧
    s.dev.boot.cfgOpen = false :=
  ⟨W { w0 with boot := { w0.boot with cfgOpen := false } }, 0, .readIds, by decide +kernel⟩
theorem wit_HostLink_6 : ∃ s : State, s.dev.live = true ∧ s.dev.boot.pcieGen ≠ 0 ∧ s.dev.boot.cfgOpen = true ∧
    (s.dev.fn 0).flr = false :=
  ⟨W w0, by decide +kernel⟩
theorem wit_HostLink_6_2 : ∃ s : State, s.dev.live = true ∧ s.dev.boot.pcieGen ≠ 0 ∧ s.dev.boot.cfgOpen = true ∧
    (s.dev.fn 0).flr = false :=
  ⟨W w0, by decide +kernel⟩

/-! ### TestAccessPort -/

theorem wit_TestAccessPort_0 : ∃ (s : State), s.dev.pwr.aon = true :=
  ⟨W w0, by decide +kernel⟩
theorem wit_TestAccessPort_1 : ∃ (s : State), s.dev.pwr.aon = true :=
  ⟨W w0, by decide +kernel⟩
theorem wit_TestAccessPort_2 : ∃ (s : State), s.dev.pwr.aon = true :=
  ⟨W w0, by decide +kernel⟩
theorem wit_TestAccessPort_3 : ∃ (s : State), s.dev.pwr.aon = true :=
  ⟨W w0, by decide +kernel⟩
theorem wit_TestAccessPort_4 : ∃ (s : State), s.dev.pwr.aon = true :=
  ⟨W w0, by decide +kernel⟩
theorem wit_TestAccessPort_5 : ∃ (s : State) (op : BitVec 8), s.dev.pwr.aon = true ∧ 4 < op.toNat :=
  ⟨W w0, 5, by decide +kernel⟩
theorem wit_TestAccessPort_6_0 : ∃ (d : Dev), (d.jtag.eff = .extest ∨ d.jtag.eff = .clamp) :=
  ⟨{ w0 with jtag := { w0.jtag with eff := .clamp } }, by decide +kernel⟩
theorem wit_TestAccessPort_6_1 : ∃ (d : Dev), d.jtag.eff = .highz :=
  ⟨{ w0 with jtag := { w0.jtag with eff := .highz } }, by decide +kernel⟩
theorem wit_TestAccessPort_6_2 : ∃ (d : Dev), (d.jtag.eff = .idcode ∨ d.jtag.eff = .sample ∨ d.jtag.eff = .bypass) :=
  ⟨{ w0 with jtag := { w0.jtag with eff := .bypass } }, by decide +kernel⟩

/-! ### SampleCode -/

theorem wit_SampleCode_all : ∃ (s : State) (x : Straps) (scl sda : Bool), s.dev.pwr.aon = true :=
  ⟨W w0, ⟨0, false, false⟩, true, true, by decide +kernel⟩

/-! ### CommonCodes -/

theorem wit_CommonCodes_0 : ∃ (s : State), s.dev.pwr.aon = true :=
  ⟨W w0, by decide +kernel⟩
theorem wit_CommonCodes_0_0 : ∃ (s : State), s.dev.pwr.aon = true ∧ s.dev.mgt.addr = 0 :=
  ⟨W w0, by decide +kernel⟩
theorem wit_CommonCodes_0_1 : ∃ (s : State), s.dev.pwr.aon = true ∧ s.dev.mgt.addr ≠ 0 :=
  ⟨W { w0 with mgt := { addr := 8 } }, by decide +kernel⟩
theorem wit_CommonCodes_0_2 : ∃ (s : State) (x : BitVec 7), s.dev.pwr.aon = true ∧ x.toNat = 8 +
    s.dev.pwr.straps.slotId.toNat ∧ s.dev.mgt.addr = 0 :=
  ⟨W w0, 8, by decide +kernel⟩
theorem wit_CommonCodes_0_4 : ∃ (s : State), s.dev.pwr.aon = true :=
  ⟨W w0, by decide +kernel⟩
theorem wit_CommonCodes_0_5 : ∃ (s : State), s.dev.pwr.aon = true :=
  ⟨W w0, by decide +kernel⟩
theorem wit_CommonCodes_0_6 : ∃ (s : State), s.dev.pwr.aon = true :=
  ⟨W w0, by decide +kernel⟩
theorem wit_CommonCodes_0_7 : ∃ (s : State), s.dev.pwr.aon = true :=
  ⟨W w0, by decide +kernel⟩
theorem wit_CommonCodes_0_8 : ∃ (s : State), s.dev.pwr.aon = true ∧ s.dev.mgt.addr ≠ 0 :=
  ⟨W { w0 with mgt := { addr := 127 } }, by decide +kernel⟩
theorem wit_CommonCodes_1 : ∃ (s : State), s.gnt.powered = true ∧ s.dev.pwr.v54 = true :=
  ⟨G {}, by decide +kernel⟩
theorem wit_CommonCodes_1_0 : ∃ (s : State), s.gnt.powered = true ∧ s.dev.pwr.v54 = true ∧ s.met.addr = 0 :=
  ⟨G {}, by decide +kernel⟩
theorem wit_CommonCodes_1_1 : ∃ (s : State) (x : BitVec 7), s.gnt.powered = true ∧ s.dev.pwr.v54 = true ∧ x.toNat = 8
    + s.dev.pwr.straps.slotId.toNat ∧ s.met.addr = 0 :=
  ⟨G {}, 8, by decide +kernel⟩
theorem wit_CommonCodes_1_7 : ∃ (s : State), s.gnt.powered = true ∧ s.dev.pwr.v54 = true ∧ s.met.addr ≠ 0 :=
  ⟨{ G {} with met := { addr := 8 } }, by decide +kernel⟩
theorem wit_CommonCodes_2 : ∃ (s : State), (s.gnt.powered = false ∨ s.dev.pwr.v54 = false) :=
  ⟨W w0, by decide +kernel⟩

/-! ### DebounceMachine -/

theorem wit_DebounceMachine_0 : ∃ (m : Debounce) (t v : Int), m.count < 8 :=
  ⟨{ count := 7 }, 1520, 1520, by decide +kernel⟩
theorem wit_DebounceMachine_0_0 : ∃ (m : Debounce) (t v : Int), m.count < 8 ∧ t ≤ v ∧ m.asserted = false :=
  ⟨{ count := 7 }, 1520, 1520, by decide +kernel⟩
theorem wit_DebounceMachine_0_1 : ∃ (m : Debounce) (t v : Int), m.count < 8 ∧ v ≤ t - 48 ∧ m.asserted = true :=
  ⟨{ count := 7, asserted := true }, 1520, 1472, by decide +kernel⟩
theorem wit_DebounceMachine_0_2 : ∃ (m : Debounce) (t v : Int), m.count < 8 ∧ t - 48 < v ∧ v < t :=
  ⟨{}, 1520, 1473, by decide +kernel⟩
theorem wit_DebounceMachine_0_3 : ∃ (m : Debounce) (t v : Int), m.count < 8 ∧ v ≤ t - 48 ∧ m.asserted = false :=
  ⟨{ count := 1 }, 1520, 1472, by decide +kernel⟩
theorem wit_DebounceMachine_0_4 : ∃ (m : Debounce) (t v : Int), m.count < 8 ∧ t ≤ v ∧ m.asserted = true :=
  ⟨{ asserted := true }, 1520, 1520, by decide +kernel⟩
theorem wit_DebounceMachine_1 : ∃ (d : Dev) (rs : List (Option Int)) (n : Nat) (v : Int), d.sampled n = true ∧
    ((d.sensorsOf n).filterMap (fun b => validReading (rs.getD b none))).max? = some v :=
  ⟨w0, List.replicate 81 (some 1600), 3, 1600, by decide +kernel⟩

/-! ### ThermalMonitor -/

theorem wit_ThermalMonitor_0 : ∃ (s : State) (rs : List (Option Int)), s.dev.pwr.aon = true ∧ SampleDue s.dev :=
  ⟨W sampled, [], by decide +kernel, due_at 9999975000 rfl (by decide +kernel)⟩
theorem wit_ThermalMonitor_1 : ∃ (s : State) (rs : List (Option Int)), ¬ SampleDue s.dev :=
  ⟨W { w0 with therm := { lastSample := some 9999975001 } }, [], fun h => absurd (h 9999975001 rfl) (by decide +kernel)⟩
theorem wit_ThermalMonitor_2 : ∃ (s : State) (rs : List (Option Int)), s.dev.pwr.aon = true ∧ s.dev.live = false ∧
    SampleDue s.dev :=
  ⟨W { sampled with pwr := { w0.pwr with rails := false } }, [], by decide +kernel, by decide +kernel, due_at 9999975000 rfl (by decide +kernel)⟩
theorem wit_ThermalMonitor_3 : ∃ (s : State) (rs : List (Option Int)) (v : Int), s.dev.live = true ∧ s.dev.pwr.aon =
    true ∧ s.dev.boot.beyby = true ∧ SampleDue s.dev ∧ s.dev.therm.faultBits = 0 ∧ (∀ b < 81, rs[b]? = some (some v))
    ∧ -640 ≤ v ∧ v < 1472 ∧ (s.dev.die 0).m95 = {} ∧ (s.dev.die 0).m105 = {} ∧ (s.dev.die 0).m115 = {} :=
  ⟨W { sampled with boot := { w0.boot with beyby := true } }, List.replicate 81 (some 1471), 1471, by decide +kernel, by decide +kernel, by decide +kernel, due_at 9999975000 rfl (by decide +kernel), by decide +kernel⟩
theorem wit_ThermalMonitor_4 : ∃ (s : State) (x : Die), (s.dev.die (dieNum x)).winOn = true ∧ (s.dev.die (dieNum
    x)).winStart + 1250000 ≤ s.dev.pwr.tick :=
  ⟨W { w0 with therm := { dies := [(1, { winOn := true, limit := some 1000, winStart := 9998750000 })] } }, .chip 0, by decide +kernel⟩
theorem wit_ThermalMonitor_5 : ∃ (s : State) (x : Die) (l : Nat), (s.dev.die (dieNum x)).winOn = true ∧ (s.dev.die
    (dieNum x)).winStart + 1250000 ≤ s.dev.pwr.tick ∧ (s.dev.die (dieNum x)).limit = some l :=
  ⟨W { w0 with therm := { dies := [(1, { winOn := true, limit := some 1000 })] } }, .chip 0, 1000, by decide +kernel⟩
theorem wit_ThermalMonitor_6 : ∃ (s : State) (v : Int), s.dev.pwr.aon = true ∧ s.dev.pwr.waitCool = true ∧
    s.dev.pwr.thermalLatch = false ∧ -640 ≤ v ∧ v ≤ 1792 :=
  ⟨W { w0 with pwr := { w0.pwr with waitCool := true } }, 1792, by decide +kernel⟩
theorem wit_ThermalMonitor_7 : ∃ (s : State) (v : Int), s.dev.pwr.aon = true ∧ s.dev.pwr.waitCool = true ∧ 1792 < v :=
  ⟨W { w0 with pwr := { w0.pwr with waitCool := true } }, 1793, by decide +kernel⟩
theorem wit_ThermalMonitor_8 : ∃ (s : State) (rs : List (Option Int)) (v : Int), s.dev.live = true ∧ s.dev.pwr.aon =
    true ∧ s.dev.boot.beyby = true ∧ SampleDue s.dev ∧ s.dev.therm.faultBits = 0 ∧ (∀ b < 81, rs[b]? = some (some v))
    ∧ 1840 ≤ v ∧ v ≤ 2400 ∧ (s.dev.die 0).m115.count = 7 ∧ (s.dev.die 0).m115.asserted = false :=
  ⟨W { w0 with boot := { w0.boot with beyby := true }, therm := { lastSample := some 9999975000, dies := [(0, { m115 := { count := 7 } })] } }, List.replicate 81 (some 1840), 1840, by decide +kernel, by decide +kernel, by decide +kernel, due_at 9999975000 rfl (by decide +kernel), by decide +kernel⟩

/-! ### ClocksAndPowerLoops -/

theorem wit_ClocksAndPowerLoops_0 : ∃ (s : State), s.dev.live = true :=
  ⟨W w0, by decide +kernel⟩
theorem wit_ClocksAndPowerLoops_1 : ∃ (s : State) (c : ChipId), s.dev.live = true :=
  ⟨W w0, 3, by decide +kernel⟩
theorem wit_ClocksAndPowerLoops_2 : ∃ (s : State) (p : BitVec 32), s.dev.live = true ∧ PeriodOver s.dev
    s.dev.clk.lastGuard 25 ∧ s.dev.clk.guardOn = false :=
  ⟨W { w0 with clk := { lastGuard := some 9999999975 } }, 1480001, by decide +kernel, over_at 9999999975 rfl (by decide +kernel), by decide +kernel⟩
theorem wit_ClocksAndPowerLoops_3 : ∃ (s : State) (p : BitVec 32), s.dev.live = true ∧ PeriodOver s.dev
    s.dev.clk.lastGuard 25 ∧ s.dev.clk.guardOn = true ∧ s.dev.clk.guardCounted = false ∧ s.dev.clk.guardSince + 2500 <
    s.dev.pwr.tick :=
  ⟨W { w0 with clk := { lastGuard := some 9999999975, guardOn := true, guardSince := 9999997499 } }, 0, by decide +kernel, over_at 9999999975 rfl (by decide +kernel), by decide +kernel⟩
theorem wit_ClocksAndPowerLoops_4 : ∃ (s : State) (k : Nat), s.dev.live = true ∧ s.dev.clk.overCap = some k ∧ k +
    200000 ≤ s.dev.pwr.tick :=
  ⟨W { w0 with clk := { overCap := some 9999800000 } }, 9999800000, by decide +kernel⟩
theorem wit_ClocksAndPowerLoops_5 : ∃ (s : State) (m : PowerMeans), s.dev.pwr.aon = true ∧ PeriodOver s.dev
    s.dev.clk.lastLoop 25000 ∧ s.dev.live = true :=
  ⟨W { w0 with clk := { lastLoop := some 9999975000 } }, ⟨0, 0, 0, 0, 0⟩, by decide +kernel, over_at 9999975000 rfl (by decide +kernel), by decide +kernel⟩

/-! ### SleepAndWake -/

theorem wit_SleepAndWake_0 : ∃ (s : State) (k : TileId), s.dev.tileOk k.val = true ∧ (s.dev.tile k.val).power = .idle
    ∧ (s.dev.tile k.val).scrubWoke = false ∧ (s.dev.tile k.val).scrubOn = false ∧ (s.dev.tile k.val).clearing = false
    ∧ s.dev.obj 0x2010 1 0 ≠ 0xFFFFFFFF ∧ s.dev.obj 0x2010 1 0 + Nat.max (s.dev.tile k.val).idleSince s.dev.boot.start
    ≤ s.dev.pwr.tick ∧ s.dev.obj 0x2010 3 0 < ((s.dev.tilesOf (k.val / 32)).filter s.dev.isAwake).length ∧
    ((s.dev.tile k.val).job.isSome = true ∨ s.dev.reservedTiles < s.dev.idleFree.length) :=
  ⟨W w0, 3, by decide +kernel⟩
theorem wit_SleepAndWake_1 : ∃ (s : State) (k : TileId), (s.dev.obj 0x2010 1 0 = 0xFFFFFFFF ∨ (s.dev.tile
    k.val).scrubOn = true ∨ ((s.dev.tile k.val).job = none ∧ s.dev.idleFree.length ≤ s.dev.reservedTiles) ∨
    ((s.dev.tilesOf (k.val / 32)).filter s.dev.isAwake).length ≤ s.dev.obj 0x2010 3 0) :=
  ⟨W (w0.setObj 0x2010 1 0 0xFFFFFFFF), 3, by decide +kernel⟩
theorem wit_SleepAndWake_2 : ∃ (s : State) (c : ChipId), s.dev.live = true ∧ s.dev.has (264 + c.val) = true ∧
    s.dev.obj 0x2010 2 0 ≠ 0xFFFFFFFF ∧ s.dev.chipSince c.val + s.dev.obj 0x2010 2 0 ≤ s.dev.pwr.tick ∧ (∀ i ∈
    s.dev.tilesOf c.val, (s.dev.tile i).power = .sleep) ∧ s.dev.arraysBusy c.val = false :=
  ⟨W { w0 with tiles := (List.range 32).map (fun i => (i, { power := .sleep })) }, 0, by decide +kernel⟩
theorem wit_SleepAndWake_4 : ∃ (s : State) (k : TileId), (s.dev.tile k.val).power = .sleep :=
  ⟨W (onTile 3 { power := .sleep }), 3, by decide +kernel⟩

/-! ### BootFirst -/

theorem wit_BootFirst_0 : ∃ (s : State), InStage s.dev 0 :=
  ⟨W (inBoot 0 {}), by unfold InStage; decide +kernel⟩
theorem wit_BootFirst_1 : ∃ (s : State), InStage s.dev 1 ∧ s.dev.obj 0x1F30 2 0 = 0 :=
  ⟨W (inBoot 1 {}), by unfold InStage; decide +kernel⟩

/-! ### BootTraining -/

theorem wit_BootTraining_0 : ∃ (s : State), InStage s.dev 2 :=
  ⟨W (inBoot 2 {}), by unfold InStage; decide +kernel⟩
theorem wit_BootTraining_1 : ∃ (s : State) (e : StageErr), InStage s.dev 2 :=
  ⟨W (inBoot 2 {}), .stu, by unfold InStage; decide +kernel⟩
theorem wit_BootTraining_2 : ∃ (s : State) (ls : List UcieLink), InStage s.dev 3 ∧ (∀ c < 4, s.dev.unitIn (264 + c) =
    true) ∧ (∀ c < 4, ls[c]? = some .full) :=
  ⟨W (inBoot 3 {}), [.full, .full, .full, .full], by unfold InStage; decide +kernel⟩
theorem wit_BootTraining_3 : ∃ (s : State) (ls : List UcieLink), InStage s.dev 3 ∧ (∀ c < 4, ls[c]? = some .down) :=
  ⟨W (inBoot 3 {}), [.down, .down, .down, .down], by unfold InStage; decide +kernel⟩
theorem wit_BootTraining_4 : ∃ (s : State) (ok : List Bool) (f : List Nat), InStage s.dev 4 ∧ s.dev.boot.hbmDead = 0 ∧
    (∀ h < 8, s.dev.unitIn (256 + h) = true) ∧ (∀ h < 8, s.dev.boot.width (h / 2) ≠ 2) ∧ (∀ h < 8, ok[h]? = some true) :=
  ⟨W (inBoot 4 { ucie := [(0, 0), (1, 0), (2, 0), (3, 0)] }), List.replicate 8 true, [], by unfold InStage; decide +kernel⟩
theorem wit_BootTraining_5 : ∃ (s : State) (ok : List Bool) (f : List Nat), InStage s.dev 4 ∧ (∀ h < 8, ok.getD h
    false = false) :=
  ⟨W (inBoot 4 {}), [], [], by unfold InStage; decide +kernel⟩
theorem wit_BootTraining_6 : ∃ (s : State) (bad : BitVec 320), InStage s.dev 5 ∧ attnSet (s.dev.sweepMap bad.toNat) = true :=
  ⟨W (inBoot 5 { ucie := [(0, 0), (1, 0), (2, 0), (3, 0)], hbmState := [(0, 0)] }), 0, by unfold InStage; decide +kernel⟩
theorem wit_BootTraining_7 : ∃ (s : State) (x : BitVec 320) (y : BitVec 128) (up : Bool), InStage s.dev 5 ∧ (attnSet (s.dev.sweepMap
    x.toNat) = false ∨ up = false) :=
  ⟨W (inBoot 5 {}), 0, 0, false, by unfold InStage; decide +kernel⟩

/-! ### BootLastStages -/

theorem wit_BootLastStages_0 : ∃ (s : State) (c : BootCfg), InStage s.dev 6 ∧ GoodBlock s.dev c :=
  ⟨W { inBoot 6 { active := 2 ^ 294 - 1 } with dict := [] }, ⟨0x100000, 0, 0, 1⟩, by unfold InStage GoodBlock; decide +kernel⟩
theorem wit_BootLastStages_1 : ∃ (s : State) (o : Option BootCfg), InStage s.dev 6 ∧ (∀ c, o = some c →
    s.dev.bootCfgOk c = false) :=
  ⟨W (inBoot 6 {}), none, by unfold InStage; exact ⟨by decide +kernel, fun c hc => by cases hc⟩⟩
theorem wit_BootLastStages_2 : ∃ (s : State), InStage s.dev 7 ∧ KMap.find s.dev.boot.stageTicks 7 = none ∧
    s.dev.pwr.linkReset = false :=
  ⟨W (inBoot 7 {}), by unfold InStage; decide +kernel⟩
theorem wit_BootLastStages_3 : ∃ (s : State), InStage s.dev 7 ∧ (KMap.find s.dev.boot.stageTicks 7).isSome = true :=
  ⟨W (inBoot 7 { stageTicks := [(7, 5)] }), by unfold InStage; decide +kernel⟩
theorem wit_BootLastStages_4 : ∃ (s : State), s.dev.live = true ∧ s.dev.boot.running = true ∧ s.dev.boot.beyby = false
    ∧ s.dev.boot.complete = false ∧ s.dev.boot.start + 750000000 ≤ s.dev.pwr.tick ∧ s.pending = [] :=
  ⟨W (inBoot 5 { start := 9250000000 }), by decide +kernel⟩
theorem wit_BootLastStages_5 : ∃ (s : State), InStage s.dev 7 ∧ (KMap.find s.dev.boot.stageTicks 7).isSome = true ∧
    .bootCompleteWrite false ∈ s.pending :=
  ⟨{ W (inBoot 7 { stageTicks := [(7, 1)] }) with pending := [.bootCompleteWrite false] }, by unfold InStage; decide +kernel⟩
theorem wit_BootLastStages_6 : ∃ (s : State) (n : Nat), InStage s.dev n ∧ 2 ≤ n ∧ n ≤ 7 :=
  ⟨W (inBoot 2 {}), 2, by unfold InStage; decide +kernel⟩
theorem wit_BootLastStages_7 : ∃ (s : State), s.dev.live = true :=
  ⟨W w0, by decide +kernel⟩
theorem wit_BootLastStages_8 : ∃ (s : State) (c : ChipId), s.dev.live = true ∧ 4 ≤ s.dev.boot.stage ∧ s.dev.boot.width
    c.val ≠ 2 :=
  ⟨W { w0 with boot := { w0.boot with ucie := [(0, 0)] } }, 0, by decide +kernel⟩
theorem wit_BootLastStages_9 : ∃ (s : State) (c : ChipId) (l : BitVec 4), s.dev.live = true ∧ 4 ≤ s.dev.boot.stage ∧
    s.dev.boot.width c.val ≠ 2 ∧ l ≠ 0 :=
  ⟨W { w0 with boot := { w0.boot with ucie := [(0, 0)] } }, 0, 1, by decide +kernel⟩

/-! ### FunctionAndTileResets -/

theorem wit_FunctionAndTileResets_0 : ∃ (s : State) (n : FnId), s.dev.live = true ∧ s.dev.boot.pcieGen ≠ 0 ∧
    s.dev.boot.cfgOpen = true ∧ n ≠ 0 ∧ n.val ≤ s.dev.numVfs ∧ (s.dev.fn n.val).flr = false ∧ (∀ m ∈ s.dev.stu.moves,
    m.tenant ≠ n.val) :=
  ⟨W { w0 with numVfs := 63 }, 63, by decide +kernel⟩
theorem wit_FunctionAndTileResets_1 : ∃ (s : State) (k : PfReset), s.dev.live = true ∧ s.dev.boot.pcieGen ≠ 0 ∧
    s.dev.boot.cfgOpen = true ∧ (s.dev.fn 0).flr = false ∧ s.dev.stu.moves = [] :=
  ⟨W w0, .flr, by decide +kernel⟩
theorem wit_FunctionAndTileResets_2 : ∃ (s : State) (n : FnId), s.dev.live = true ∧ n ≠ 0 ∧ (s.dev.fn n.val).flr =
    true ∧ (s.dev.fn 0).flr = false ∧ (∀ e ∈ s.dev.tiles, e.2.owner = some n.val → e.2.clearing = false) :=
  ⟨W { w0 with fns := [(5, { flr := true })] }, 5, by decide +kernel⟩
theorem wit_FunctionAndTileResets_3 : ∃ (s : State), s.dev.live = true ∧ (s.dev.fn 0).flr = true ∧ (∀ e ∈ s.dev.tiles,
    e.2.clearing = false) :=
  ⟨W { w0 with fns := [(0, { flr := true })] }, by decide +kernel⟩
theorem wit_FunctionAndTileResets_4 : ∃ (s : State) (k : TileId), s.dev.live = true ∧ s.dev.has k.val = true ∧
    (s.dev.tile k.val).resetting = false ∧ (s.dev.tile k.val).job = none :=
  ⟨W w0, 127, by decide +kernel⟩
theorem wit_FunctionAndTileResets_5 : ∃ (s : State) (k : TileId) (j : Nat) (x : Job), s.dev.live = true ∧ s.dev.has
    k.val = true ∧ (s.dev.tile k.val).resetting = false ∧ (s.dev.tile k.val).job = some j ∧ KMap.find s.dev.jobs j = some
    x ∧ x.st = .running ∧ x.cancel = false :=
  ⟨W { onTile 3 { job := some 1 } with jobs := [(1, { st := .running })] }, 3, 1, { st := .running }, by decide +kernel⟩
theorem wit_FunctionAndTileResets_6 : ∃ (s : State) (k : TileId), s.dev.live = true ∧ (s.dev.tile k.val).resetting =
    true ∧ (s.dev.tile k.val).failed = true :=
  ⟨W (onTile 127 { resetting := true, failed := true }), 127, by decide +kernel⟩
theorem wit_FunctionAndTileResets_7 : ∃ (s : State) (k : TileId), s.dev.live = true ∧ (s.dev.tile k.val).resetting =
    true ∧ (s.dev.tile k.val).failed = false :=
  ⟨W (onTile 127 { resetting := true }), 127, by decide +kernel⟩

/-! ### PalrenRead -/

theorem wit_PalrenRead_0 : ∃ (s : State) (n : FnId) (h : Head) (o : ObjRow), h.ok ∧ h.op = 1 ∧ h.session = 0 ∧ Asks s
    n (h.frame []) ∧ objRow? h.index h.sub = some o ∧ o.acc ≠ .wo ∧ o.ty ≠ .segmented ∧ s.dev.absent h.index h.sub =
    false ∧ (o.perTenant = true → h.tenant = n.val ∨ (n = 0 ∧ (s.dev.fn 0).operator = true)) ∧ s.dev.readDenied
    (mbxWho s.dev n) h.index h.sub = false :=
  ⟨asks w0 5 (Head.frame ({ op := 1, index := 0x6801, sub := 0, tenant := 5 } : Head) []), 5, ({ op := 1, index := 0x6801, sub := 0, tenant := 5 } : Head), rowOf 0x6801 0, by unfold Asks ServerReady Head.ok; decide +kernel⟩
theorem wit_PalrenRead_1 : ∃ (s : State) (n : FnId) (h : Head), h.ok ∧ h.op = 1 ∧ h.session = 0 ∧ Asks s n (h.frame
    []) ∧ objRow? h.index h.sub = none :=
  ⟨asks w0 5 (Head.frame ({ op := 1, index := 0x6802, sub := 0, tenant := 5 } : Head) []), 5, ({ op := 1, index := 0x6802, sub := 0, tenant := 5 } : Head), by unfold Asks ServerReady Head.ok; decide +kernel⟩
theorem wit_PalrenRead_2 : ∃ (s : State) (n : FnId) (h : Head) (o : ObjRow), h.ok ∧ h.op = 1 ∧ h.session = 0 ∧ Asks
    s n (h.frame []) ∧ objRow? h.index h.sub = some o ∧ o.acc = .wo ∧ s.dev.absent h.index h.sub = false :=
  ⟨asks w0 5 (Head.frame ({ op := 1, index := 0xA001, sub := 0, tenant := 5 } : Head) []), 5, ({ op := 1, index := 0xA001, sub := 0, tenant := 5 } : Head), rowOf 0xA001 0, by unfold Asks ServerReady Head.ok; decide +kernel⟩
theorem wit_PalrenRead_3 : ∃ (s : State) (n : FnId) (h : Head) (o : ObjRow), h.ok ∧ h.op = 1 ∧ h.session = 0 ∧ Asks s
    n (h.frame []) ∧ objRow? h.index h.sub = some o ∧ o.acc ≠ .wo ∧ o.ty ≠ .segmented ∧ s.dev.absent h.index h.sub =
    false ∧ ((o.perTenant = true ∧ n ≠ 0 ∧ h.tenant ≠ n.val) ∨ s.dev.readDenied (mbxWho s.dev n) h.index h.sub = true)
    :=
  ⟨asks w0 5 (Head.frame ({ op := 1, index := 0x6801, sub := 0, tenant := 6 } : Head) []), 5, ({ op := 1, index := 0x6801, sub := 0, tenant := 6 } : Head), rowOf 0x6801 0, by unfold Asks ServerReady Head.ok; decide +kernel⟩

/-! ### PalrenWrite -/

theorem wit_PalrenWrite_0_0 : ∃ (s : State) (n : FnId) (h : Head) (b : List Byte) (o : ObjRow), h.ok ∧ h.op = 2 ∧
    h.session = 0 ∧ b.length ≤ 1024 ∧ Asks s n (h.frame b) ∧ objRow? h.index h.sub = some o ∧ s.dev.absent h.index h.sub =
    false ∧ o.ty ≠ .segmented ∧ (o.perTenant = true → h.tenant = n.val ∨ (n = 0 ∧ (s.dev.fn 0).operator = true)) ∧
    s.dev.writeDenied (mbxWho s.dev n) o h.index h.sub (leNat b) = false ∧ o.lock ≠ .boot ∧ s.dev.absentValue h.index
    (leNat b) = false ∧ o.acc = .rw ∧ Stores h.index ∧ o.keep ≠ .flash ∧ b.length = o.ty.size ∧ ((Counted s.dev).valueOk
    [] h.index h.sub (if o.perTenant then h.tenant else 0) (leNat b) = true) :=
  ⟨asks w0 5 (Head.frame ({ op := 2, index := 0x6801, sub := 0, tenant := 5 } : Head) [32]), 5, ({ op := 2, index := 0x6801, sub := 0, tenant := 5 } : Head), [32], rowOf 0x6801 0, by unfold Asks ServerReady Head.ok Stores; decide +kernel⟩
theorem wit_PalrenWrite_0_1 : ∃ (s : State) (n : FnId) (h : Head) (b : List Byte) (o : ObjRow), h.ok ∧ h.op = 2 ∧
    h.session = 0 ∧ b.length ≤ 1024 ∧ Asks s n (h.frame b) ∧ objRow? h.index h.sub = some o ∧ s.dev.absent h.index h.sub =
    false ∧ o.ty ≠ .segmented ∧ (o.perTenant = true → h.tenant = n.val ∨ (n = 0 ∧ (s.dev.fn 0).operator = true)) ∧
    s.dev.writeDenied (mbxWho s.dev n) o h.index h.sub (leNat b) = false ∧ o.lock ≠ .boot ∧ s.dev.absentValue h.index
    (leNat b) = false ∧ o.acc = .rw ∧ o.keep = .flash ∧ b.length = o.ty.size ∧ ((Counted s.dev).valueOk [] h.index h.sub
    (if o.perTenant then h.tenant else 0) (leNat b) = true) :=
  ⟨asks w0 0 (Head.frame ({ op := 2, index := 0x8003, sub := 1, tenant := 0 } : Head) (List.replicate 16 0)), 0, ({ op := 2, index := 0x8003, sub := 1, tenant := 0 } : Head), (List.replicate 16 0), rowOf 0x8003 1, by unfold Asks ServerReady Head.ok; decide +kernel⟩
theorem wit_PalrenWrite_0_2 : ∃ (s : State) (n : FnId) (h : Head) (b : List Byte) (o : ObjRow), h.ok ∧ h.op = 2 ∧
    h.session = 0 ∧ b.length ≤ 1024 ∧ Asks s n (h.frame b) ∧ objRow? h.index h.sub = some o ∧ s.dev.absent h.index h.sub =
    false ∧ o.ty ≠ .segmented ∧ (o.perTenant = true → h.tenant = n.val ∨ (n = 0 ∧ (s.dev.fn 0).operator = true)) ∧
    s.dev.writeDenied (mbxWho s.dev n) o h.index h.sub (leNat b) = false ∧ o.lock ≠ .boot ∧ s.dev.absentValue h.index
    (leNat b) = false ∧ o.acc = .rw ∧ b.length ≠ o.ty.size :=
  ⟨asks w0 5 (Head.frame ({ op := 2, index := 0x6801, sub := 0, tenant := 5 } : Head) [32, 0]), 5, ({ op := 2, index := 0x6801, sub := 0, tenant := 5 } : Head), [32, 0], rowOf 0x6801 0, by unfold Asks ServerReady Head.ok; decide +kernel⟩
theorem wit_PalrenWrite_0_3 : ∃ (s : State) (n : FnId) (h : Head) (b : List Byte) (o : ObjRow), h.ok ∧ h.op = 2 ∧
    h.session = 0 ∧ b.length ≤ 1024 ∧ Asks s n (h.frame b) ∧ objRow? h.index h.sub = some o ∧ s.dev.absent h.index h.sub =
    false ∧ o.ty ≠ .segmented ∧ (o.perTenant = true → h.tenant = n.val ∨ (n = 0 ∧ (s.dev.fn 0).operator = true)) ∧
    s.dev.writeDenied (mbxWho s.dev n) o h.index h.sub (leNat b) = false ∧ o.lock ≠ .boot ∧ s.dev.absentValue h.index
    (leNat b) = false ∧ o.acc = .rw ∧ b.length = o.ty.size ∧ ((Counted s.dev).valueOk [] h.index h.sub (if o.perTenant
    then h.tenant else 0) (leNat b) = false) :=
  ⟨asks w0 5 (Head.frame ({ op := 2, index := 0x6801, sub := 0, tenant := 5 } : Head) [101]), 5, ({ op := 2, index := 0x6801, sub := 0, tenant := 5 } : Head), [101], rowOf 0x6801 0, by unfold Asks ServerReady Head.ok; decide +kernel⟩
theorem wit_PalrenWrite_0_4 : ∃ (s : State) (n : FnId) (h : Head) (b : List Byte) (o : ObjRow), h.ok ∧ h.op = 2 ∧
    h.session = 0 ∧ b.length ≤ 1024 ∧ Asks s n (h.frame b) ∧ objRow? h.index h.sub = some o ∧ s.dev.absent h.index h.sub =
    false ∧ o.ty ≠ .segmented ∧ (o.perTenant = true → h.tenant = n.val ∨ (n = 0 ∧ (s.dev.fn 0).operator = true)) ∧
    s.dev.writeDenied (mbxWho s.dev n) o h.index h.sub (leNat b) = false ∧ o.lock ≠ .boot ∧ s.dev.absentValue h.index
    (leNat b) = false ∧ (o.acc = .ro ∨ o.acc = .const) :=
  ⟨asks w0 5 (Head.frame ({ op := 2, index := 0x6810, sub := 1, tenant := 5 } : Head) [0]), 5, ({ op := 2, index := 0x6810, sub := 1, tenant := 5 } : Head), [0], rowOf 0x6810 1, by unfold Asks ServerReady Head.ok; decide +kernel⟩
theorem wit_PalrenWrite_1 : ∃ (s : State) (w : FlashWrite) (n : FnId), s.dev.live = true ∧ s.dev.srv.flash = some w ∧
    w.src = some (.mailbox n) ∧ (s.dev.fn n.val).irq = false ∧ Stores w.key.index :=
  ⟨W { w0 with srv := { flash := some ⟨some (.mailbox 0), 0, ⟨0x8003, 1, 0⟩, 7⟩ } }, ⟨some (.mailbox 0), 0, ⟨0x8003, 1, 0⟩, 7⟩, 0, by unfold Stores; decide +kernel⟩
theorem wit_PalrenWrite_2 : ∃ (s : State) (k : ObjKey) (v : Nat) (o : ObjRow), s.dev.server = true ∧ objRow? k.index
    k.sub = some o ∧ o.acc = .rw ∧ o.ty ≠ .segmented ∧ (o.perTenant = true ∨ k.tenant = 0) ∧ k.tenant < 64 ∧ v < 256 ^
    o.ty.size ∧ s.dev.boot.complete = true ∧ s.dev.boot.beyby = false ∧ s.dev.absent k.index k.sub = false ∧ o.lock ≠
    .boot ∧ isPert k.index = false ∧ s.dev.valueOk [] k.index k.sub k.tenant v = true ∧ Stores k.index :=
  ⟨W w0, ⟨0x6801, 0, 63⟩, 0, rowOf 0x6801 0, by unfold Stores; decide +kernel⟩

/-! ### PalrenTransfers -/

theorem wit_PalrenTransfers_0 : ∃ (s : State) (n : FnId) (h : Head) (b : List Byte) (o : ObjRow), h.ok ∧ h.session =
    0 ∧ b.length ≤ 1024 ∧ Asks s n (h.frame b) ∧ h.op = 3 ∧ objRow? h.index h.sub = some o ∧ o.ty = .segmented ∧ o.acc =
    .wo ∧ s.dev.absent h.index h.sub = false :=
  ⟨asks w0 5 (Head.frame ({ op := 3, index := 0x7010, sub := 1, tenant := 5 } : Head) []), 5, ({ op := 3, index := 0x7010, sub := 1, tenant := 5 } : Head), [], rowOf 0x7010 1, by unfold Asks ServerReady Head.ok; decide +kernel⟩
theorem wit_PalrenTransfers_1 : ∃ (s : State) (n : FnId) (h : Head) (b : List Byte) (o : ObjRow), h.ok ∧ h.session =
    0 ∧ b.length ≤ 1024 ∧ Asks s n (h.frame b) ∧ h.op = 4 ∧ objRow? h.index h.sub = some o ∧ o.ty = .segmented ∧ o.acc =
    .wo ∧ o.lock ≠ .boot ∧ s.dev.absent h.index h.sub = false ∧ (o.perTenant = true → h.tenant = n.val ∨ (n = 0 ∧
    (s.dev.fn 0).operator = true)) ∧ s.dev.writeDenied (mbxWho s.dev n) o h.index h.sub 0 = false ∧ h.segment = 0 ∧ h.last
    = false ∧ b.length = 1024 ∧ (s.dev.slotRetains ⟨h.index, h.sub, if o.perTenant then h.tenant else 0⟩ = false) :=
  ⟨asks w0 5 (Head.frame ({ op := 4, index := 0x7010, sub := 1, tenant := 5, last := false } : Head) (List.replicate 1024 0)), 5, ({ op := 4, index := 0x7010, sub := 1, tenant := 5, last := false } : Head), (List.replicate 1024 0), rowOf 0x7010 1, by unfold Asks ServerReady Head.ok; decide +kernel⟩
theorem wit_PalrenTransfers_2 : ∃ (s : State) (n : FnId) (h : Head) (b : List Byte) (o : ObjRow), h.ok ∧ h.session =
    0 ∧ b.length ≤ 1024 ∧ Asks s n (h.frame b) ∧ h.op = 4 ∧ h.segment ≠ 0 ∧ objRow? h.index h.sub = some o ∧ o.ty =
    .segmented ∧ o.acc = .wo ∧ o.lock ≠ .boot ∧ s.dev.absent h.index h.sub = false ∧ (o.perTenant = true → h.tenant =
    n.val ∨ (n = 0 ∧ (s.dev.fn 0).operator = true)) ∧ s.dev.writeDenied (mbxWho s.dev n) o h.index h.sub 0 = false ∧
    b.length = 1024 :=
  ⟨asks w0 5 (Head.frame ({ op := 4, index := 0x7010, sub := 1, tenant := 5, segment := 1 } : Head) (List.replicate 1024 0)), 5, ({ op := 4, index := 0x7010, sub := 1, tenant := 5, segment := 1 } : Head), (List.replicate 1024 0), rowOf 0x7010 1, by unfold Asks ServerReady Head.ok; decide +kernel⟩
theorem wit_PalrenTransfers_3 : ∃ (s : State) (n : FnId) (h : Head) (b : List Byte) (o : ObjRow), h.ok ∧ h.session = 0
    ∧ b.length ≤ 1024 ∧ Asks s n (h.frame b) ∧ h.op = 5 ∧ objRow? h.index h.sub = some o ∧ o.ty = .segmented ∧
    s.dev.absent h.index h.sub = false ∧ (o.perTenant = true → h.tenant = n.val ∨ (n = 0 ∧ (s.dev.fn 0).operator =
    true)) :=
  ⟨asks w0 5 (Head.frame ({ op := 5, index := 0x7010, sub := 1, tenant := 5 } : Head) []), 5, ({ op := 5, index := 0x7010, sub := 1, tenant := 5 } : Head), [], rowOf 0x7010 1, by unfold Asks ServerReady Head.ok; decide +kernel⟩
theorem wit_PalrenTransfers_4 : ∃ (s : State) (n : FnId) (h : Head) (b : List Byte) (e : SetEntry), h.ok ∧ h.session
    = 0 ∧ b.length ≤ 1024 ∧ Asks s n (h.frame b) ∧ h.op = 6 ∧ h.tenant = 0 ∧ setEntries b = some [e] ∧ Stores e.index ∧
    (Counted s.dev).entryStatus (mbxWho s.dev n) [(okey e.index e.sub (keyOf e.index e.sub e.tenant).tenant, leNat
    e.value)] e = 0 :=
  ⟨asks w0 5 (Head.frame ({ op := 6, index := 0, sub := 0, tenant := 0 } : Head) (leBytes (1 + 5 * 2 ^ 16 + 0x6801 * 2 ^ 48) 8 ++ [32, 0, 0, 0, 0, 0, 0, 0] : List Byte)), 5, ({ op := 6, index := 0, sub := 0, tenant := 0 } : Head), (leBytes (1 + 5 * 2 ^ 16 + 0x6801 * 2 ^ 48) 8 ++ [32, 0, 0, 0, 0, 0, 0, 0] : List Byte), ⟨0x6801, 0, 5, [32]⟩, by unfold Asks ServerReady Head.ok Stores; decide +kernel⟩
theorem wit_PalrenTransfers_5 : ∃ (s : State) (n : FnId) (h : Head) (b : List Byte) (e e' : SetEntry), h.ok ∧
    h.session = 0 ∧ b.length ≤ 1024 ∧ Asks s n (h.frame b) ∧ h.op = 6 ∧ h.tenant = 0 ∧ setEntries b = some [e, e'] ∧
    objRow? e'.index e'.sub = none ∧ e'.tenant = 0 ∧ e.tenant = 0 ∧ objRow? e.index e.sub ≠ none :=
  ⟨asks w0 5 (Head.frame ({ op := 6, index := 0, sub := 0, tenant := 0 } : Head) (leBytes (1 + 0x6801 * 2 ^ 48) 8 ++ [32, 0, 0, 0, 0, 0, 0, 0] ++ leBytes (1 + 0x6802 * 2 ^ 48) 8 ++ [32, 0, 0, 0, 0, 0, 0, 0] : List Byte)), 5, ({ op := 6, index := 0, sub := 0, tenant := 0 } : Head), (leBytes (1 + 0x6801 * 2 ^ 48) 8 ++ [32, 0, 0, 0, 0, 0, 0, 0] ++ leBytes (1 + 0x6802 * 2 ^ 48) 8 ++ [32, 0, 0, 0, 0, 0, 0, 0] : List Byte), ⟨0x6801, 0, 0, [32]⟩, ⟨0x6802, 0, 0, [32]⟩, by unfold Asks ServerReady Head.ok; decide +kernel⟩
theorem wit_PalrenTransfers_6 : ∃ (s : State) (n : FnId) (h : Head) (b : List Byte) (o : ObjRow), h.ok ∧ h.session =
    0 ∧ b.length ≤ 1024 ∧ Asks s n (h.frame b) ∧ h.op = 0x20 ∧ b = [] ∧ objRow? h.index h.sub = some o ∧ s.dev.absent
    h.index h.sub = false ∧ (o.perTenant = true → h.tenant = n.val ∨ (n = 0 ∧ (s.dev.fn 0).operator = true)) :=
  ⟨asks w0 5 (Head.frame ({ op := 32, index := 0x6801, sub := 0, tenant := 5 } : Head) []), 5, ({ op := 32, index := 0x6801, sub := 0, tenant := 5 } : Head), [], rowOf 0x6801 0, by unfold Asks ServerReady Head.ok; decide +kernel⟩
theorem wit_PalrenTransfers_7 : ∃ (s : State) (n : FnId) (h : Head) (b : List Byte), h.ok ∧ h.session = 0 ∧ b.length
    ≤ 1024 ∧ Asks s n (h.frame b) ∧ h.op = 0x21 ∧ b = [] ∧ h.index = 0 ∧ h.sub = 0 :=
  ⟨asks w0 5 (Head.frame ({ op := 33, index := 0, sub := 0, tenant := 0 } : Head) []), 5, ({ op := 33, index := 0, sub := 0, tenant := 0 } : Head), [], by unfold Asks ServerReady Head.ok; decide +kernel⟩

/-! ### PalrenSessions -/

theorem wit_PalrenSessions_0 : ∃ (s : State) (eid : BitVec 8) (tag : BitVec 3), ServerReady s.dev ∧ PortReady s.dev :=
  ⟨W { w0 with mgt := { addr := 8 } }, 8, 0, by unfold ServerReady PortReady; decide +kernel⟩
theorem wit_PalrenSessions_1 : ∃ (s : State) (eid : BitVec 8) (tag : BitVec 3) (k : Nat) (x : Session), 1 ≤ k ∧ k ≤
    255 ∧ x.binding = .i3c ∧ x.eid = eid ∧ x.reduced = false ∧ s.dev.obj 0x1100 2 0 = 0xFFFFFFFF ∧ ServerReady { s.dev
    with srv := { s.dev.srv with sessions := [] } } ∧ PortReady s.dev ∧ s.dev.srv.sessions = [(k, x)] :=
  ⟨W (({ w0 with mgt := { addr := 8 }, srv := { sessions := [(255, { binding := .i3c, eid := 8 })] } } : Dev).setObj 0x1100 2 0 0xFFFFFFFF), 8, 0, 255, { binding := .i3c, eid := 8 }, by unfold ServerReady PortReady; decide +kernel⟩
theorem wit_PalrenSessions_2 : ∃ (s : State) (eid : BitVec 8) (tag : BitVec 3) (l : List MctpPacket), mctpFrame l =
    none :=
  ⟨W w0, 8, 0, [], by decide +kernel⟩
theorem wit_PalrenSessions_3 : ∃ (s : State) (h : Head), h.ok ∧ h.op = 0x11 ∧ h.session = 0 ∧ Asks s 0 (h.frame []) ∧
    s.dev.srv.holdUntil = none :=
  ⟨asks w0 0 (Head.frame ({ op := 17, index := 0, sub := 0, tenant := 0 } : Head) []), ({ op := 17, index := 0, sub := 0, tenant := 0 } : Head), by unfold Asks ServerReady Head.ok; decide +kernel⟩
theorem wit_PalrenSessions_4 : ∃ (s : State) (n : FnId) (h : Head), h.ok ∧ h.op = 0x11 ∧ h.session = 0 ∧ n ≠ 0 ∧ Asks
    s n (h.frame []) :=
  ⟨asks w0 5 (Head.frame ({ op := 17, index := 0, sub := 0, tenant := 0 } : Head) []), 5, ({ op := 17, index := 0, sub := 0, tenant := 0 } : Head), by unfold Asks ServerReady Head.ok; decide +kernel⟩
theorem wit_PalrenSessions_5 : ∃ (s : State) (h : Head) (b : List Byte) (x : NonceRec), h.ok ∧ h.op = 0x12 ∧ h.session
    = 0 ∧ b.length = 96 ∧ Asks s 0 (h.frame b) ∧ (s.dev.fn 0).nonce = some x ∧ s.dev.pwr.tick < x.tick + 25000000 ∧
    ecdsaVerifies (leBytes (s.dev.obj 0x1120 0 0) 96) b (sha384 (leBytes x.value 32 ++ [0])) = true :=
  ⟨proves (Head.frame ({ op := 18, index := 0, sub := 0, tenant := 0 } : Head) aSig), ({ op := 18, index := 0, sub := 0, tenant := 0 } : Head), aSig, ⟨1, w0.pwr.tick⟩, by unfold Asks ServerReady Head.ok; decide +kernel⟩
theorem wit_PalrenSessions_6 : ∃ (s : State) (h : Head) (b : List Byte), h.ok ∧ h.op = 0x12 ∧ h.session = 0 ∧ b.length
    = 96 ∧ Asks s 0 (h.frame b) ∧ (s.dev.fn 0).nonce = none :=
  ⟨asks w0 0 (Head.frame ({ op := 18, index := 0, sub := 0, tenant := 0 } : Head) (List.replicate 96 0)), ({ op := 18, index := 0, sub := 0, tenant := 0 } : Head), (List.replicate 96 0), by unfold Asks ServerReady Head.ok; decide +kernel⟩
theorem wit_PalrenSessions_7 : ∃ (s : State) (k : Nat) (x : Session), KMap.find s.dev.srv.sessions k = some x ∧
    s.dev.obj 0x1100 2 0 ≠ 0xFFFFFFFF ∧ x.lastUse + s.dev.obj 0x1100 2 0 < s.dev.pwr.tick :=
  ⟨W { w0 with srv := { sessions := [(1, { binding := .i3c, eid := 8, lastUse := 8499999999 })] } }, 1, { binding := .i3c, eid := 8, lastUse := 8499999999 }, by decide +kernel⟩
theorem wit_PalrenSessions_8 : ∃ (s : State) (x : NonceRec), (s.dev.fn 0).nonce = some x ∧ x.tick + 25000000 ≤
    s.dev.pwr.tick :=
  ⟨W { w0 with fns := [(0, { nonce := some ⟨7, 9975000000⟩ })] }, ⟨7, 9975000000⟩, by decide +kernel⟩
theorem wit_PalrenSessions_9 : ∃ (s : State) (x : Nat), s.dev.srv.holdUntil = some x ∧ x ≤ s.dev.pwr.tick :=
  ⟨W { w0 with srv := { holdUntil := some 10000000000 } }, 10000000000, by decide +kernel⟩
theorem wit_PalrenSessions_10 : ∃ (s : State) (k : ObjKey) (x : SegXfer), x ∈ s.dev.srv.segs ∧ x.key = k ∧ x.last +
    250000000 ≤ s.dev.pwr.tick :=
  ⟨W { w0 with srv := { segs := [⟨⟨0x7010, 1, 5⟩, .mbx 5, 1, [], 9750000000⟩] } }, ⟨0x7010, 1, 5⟩, ⟨⟨0x7010, 1, 5⟩, .mbx 5, 1, [], 9750000000⟩, by decide +kernel⟩

/-! ### MctpControl -/

theorem wit_MctpControl_all : ∃ (s : State) (b : Binding), s.dev.pwr.aon = true ∧ s.dev.live = true ∧
    s.dev.boot.pcieGen ≠ 0 ∧ 2 ≤ s.dev.boot.stage ∧ (b = .i3c → s.dev.mgt.addr ≠ 0) :=
  ⟨W { w0 with mgt := { addr := 8 } }, .i3c, by decide +kernel⟩
theorem wit_MctpControl_0 : ∃ (s : State) (b : Binding) (e : BitVec 8), s.dev.pwr.aon = true ∧ s.dev.live = true ∧
    s.dev.boot.pcieGen ≠ 0 ∧ 2 ≤ s.dev.boot.stage ∧ (b = .i3c → s.dev.mgt.addr ≠ 0) ∧ e ≠ 0 ∧ e ≠ 0xFF :=
  ⟨W w0, .vdm, 254, by decide +kernel⟩

/-! ### BarRegisters -/

theorem wit_BarRegisters_0 : ∃ (s : State) (n : FnId) (b : List Byte) (q : Bool), BarUp s.dev n ∧ (s.dev.fn
    n.val).busy = false ∧ b.length = 1040 ∧ (s.dev.fn n.val).rsp.length = 1040 :=
  ⟨W { w0 with numVfs := 63, fns := [(63, { rsp := List.replicate 1040 0 })] }, 63, List.replicate 1040 0, true, by unfold BarUp; decide +kernel⟩
theorem wit_BarRegisters_1 : ∃ (s : State) (n : FnId) (b : List Byte) (q : Bool), BarUp s.dev n ∧ (s.dev.fn
    n.val).busy = true :=
  ⟨W { w0 with numVfs := 63, fns := [(63, { busy := true })] }, 63, [], true, by unfold BarUp; decide +kernel⟩
theorem wit_BarRegisters_2 : ∃ (s : State) (n : FnId) (b : List Byte) (q : Bool), ¬ BarUp s.dev n :=
  ⟨W { w0 with numVfs := 62 }, 63, [], true, by unfold BarUp; decide +kernel⟩
theorem wit_BarRegisters_3 : ∃ (s : State) (n : FnId), BarUp s.dev n :=
  ⟨W { w0 with numVfs := 63, fns := [(63, {  })] }, 63, by unfold BarUp; decide +kernel⟩
theorem wit_BarRegisters_4 : ∃ (s : State) (n : FnId), BarUp s.dev n :=
  ⟨W { w0 with numVfs := 63, fns := [(63, {  })] }, 63, by unfold BarUp; decide +kernel⟩
theorem wit_BarRegisters_5 : ∃ (s : State) (n : FnId) (r : BarRead), BarUp s.dev n ∧ (r.bar ≠ .bar0 ∨ r.off ≠ 8 ∨
    r.len ≠ 4) :=
  ⟨W { w0 with numVfs := 63, fns := [(63, {  })] }, 63, ⟨.bar0, 0, 4⟩, by unfold BarUp; decide +kernel⟩
theorem wit_BarRegisters_6 : ∃ (s : State) (n : FnId) (w : BarWrite), BarUp s.dev n ∧ (w.len ≠ 4 ∨ w.off % 4 ≠ 0) :=
  ⟨W { w0 with numVfs := 63, fns := [(63, {  })] }, 63, ⟨.bar0, 2, 4, 0⟩, by unfold BarUp; decide +kernel⟩
theorem wit_BarRegisters_7 : ∃ (s : State) (n : FnId) (v : Fin 32) (x : BitVec 32), BarUp s.dev n ∧ x.getLsbD 0 = true
    :=
  ⟨W { w0 with numVfs := 63, fns := [(63, {  })] }, 63, 31, 1, by unfold BarUp; decide +kernel⟩
theorem wit_BarRegisters_8 : ∃ (s : State) (n : FnId) (v : Fin 32) (x : BitVec 32), BarUp s.dev n ∧ x.getLsbD 0 =
    false ∧ (s.dev.fn n.val).msixEn = true ∧ (s.dev.fn n.val).pba.testBit v.val = true :=
  ⟨W { w0 with numVfs := 63, fns := [(63, { msixEn := true, pba := 2 ^ 31 })] }, 63, 31, 0, by unfold BarUp; decide +kernel⟩
theorem wit_BarRegisters_9 : ∃ (s : State) (n : FnId) (v : Fin 32) (x : BitVec 32), BarUp s.dev n ∧ x.getLsbD 0 =
    false ∧ (s.dev.fn n.val).pba.testBit v.val = false :=
  ⟨W { w0 with numVfs := 63, fns := [(63, { msixEn := true })] }, 63, 31, 0, by unfold BarUp; decide +kernel⟩
theorem wit_BarRegisters_10 : ∃ (s : State) (n : FnId) (k : RingId) (v : BitVec 32) (l : List ByteStore),
    s.dev.serving = true ∧ BarUp s.dev n ∧ (s.dev.ring k.val).st = .enabled ∧ (s.dev.ring k.val).fn = n.val ∧ v.toNat
    < 2 ^ (s.dev.ring k.val).size ∧ s.dev.mem.lines = [] ∧ s.dev.mem.armed = [] :=
  ⟨W { w0 with numVfs := 63, rings := [(9, { st := .enabled, fn := 63, size := 3 })] }, 63, 9, 7, [⟨0, 1⟩], by unfold BarUp; decide +kernel⟩
theorem wit_BarRegisters_11 : ∃ (s : State) (n : FnId) (k : RingId) (v : BitVec 32), s.dev.serving = true ∧ BarUp s.dev
    n ∧ (s.dev.ring k.val).st = .enabled ∧ (s.dev.ring k.val).fn = n.val ∧ 2 ^ (s.dev.ring k.val).size ≤ v.toNat :=
  ⟨W { w0 with numVfs := 63, rings := [(9, { st := .enabled, fn := 63, size := 3 })] }, 63, 9, 8, by unfold BarUp; decide +kernel⟩
theorem wit_BarRegisters_12 : ∃ (s : State) (n : FnId) (k : RingId) (v : BitVec 32), s.dev.serving = true ∧ BarUp s.dev
    n ∧ ((s.dev.ring k.val).st = .enabled ∨ (s.dev.ring k.val).st = .draining) ∧ (s.dev.ring k.val).fn = n.val ∧ v.toNat <
    2 ^ (s.dev.ring k.val).size ∧ (v.toNat + 2 ^ (s.dev.ring k.val).size - (s.dev.ring k.val).cqHead) % 2 ^ (s.dev.ring
    k.val).size ≤ ((s.dev.ring k.val).cqTail + 2 ^ (s.dev.ring k.val).size - (s.dev.ring k.val).cqHead) % 2 ^ (s.dev.ring
    k.val).size :=
  ⟨W { w0 with numVfs := 63, rings := [(9, { st := .enabled, fn := 63, size := 3, cqTail := 7 })] }, 63, 9, 7, by unfold BarUp; decide +kernel⟩

/-! ### RingControl -/

theorem wit_RingControl_0 : ∃ (s : State) (k : RingId), s.dev.serving = true ∧ ((s.dev.ring k.val).st = .disabled ∨
    (s.dev.ring k.val).st = .error) ∧ s.dev.obj 0x3011 (k.val + 1) 0 ≠ 0 ∧ s.dev.obj 0x3011 (k.val + 1) 0 % 4096 = 0 ∧
    s.dev.obj 0x3012 (k.val + 1) 0 ≠ 0 ∧ s.dev.obj 0x3012 (k.val + 1) 0 % 4096 = 0 ∧ s.dev.obj 0x3010 (k.val + 1) 0 ≤
    s.dev.numVfs ∧ (s.dev.fn (s.dev.obj 0x3010 (k.val + 1) 0)).busMaster = true :=
  ⟨W ((({ w0 with numVfs := 63, fns := [(63, { busMaster := true })] } : Dev).setObj 0x3011 64 0 4096).setObj 0x3012 64 0 4096), 63, by decide +kernel⟩
theorem wit_RingControl_1 : ∃ (s : State) (k : RingId), s.dev.serving = true ∧ (s.dev.ring k.val).st = .disabled ∧
    s.dev.obj 0x3011 (k.val + 1) 0 = 0 :=
  ⟨W w0, 63, by decide +kernel⟩
theorem wit_RingControl_2 : ∃ (s : State) (k : RingId), (s.dev.ring k.val).st = .enabled :=
  ⟨W { w0 with numVfs := 63, rings := [(63, { st := .enabled, fn := 63, size := 3 })] }, 63, by decide +kernel⟩
theorem wit_RingControl_3 : ∃ (s : State) (k : RingId), (s.dev.ring k.val).st = .enabled ∧ (∀ e ∈ s.dev.jobs, e.2.ring
    ≠ k.val) :=
  ⟨W { w0 with numVfs := 63, rings := [(63, { st := .enabled, fn := 63, size := 3 })] }, 63, by decide +kernel⟩
theorem wit_RingControl_4 : ∃ (s : State) (k : RingId) (j : Nat) (x : Job), (s.dev.ring k.val).st = .enabled ∧
    s.dev.jobs = [(j, x)] ∧ x.ring = k.val ∧ x.st = .waiting ∧ x.tiles = [] :=
  ⟨W { w0 with numVfs := 63, rings := [(63, { st := .enabled, fn := 63, size := 3 })], jobs := [(1, { ring := 63 })] }, 63, 1, { ring := 63 }, by decide +kernel⟩
theorem wit_RingControl_5 : ∃ (s : State) (k : RingId) (j : Nat) (x : Job), (s.dev.ring k.val).st = .enabled ∧
    s.dev.jobs = [(j, x)] ∧ x.ring = k.val ∧ x.st = .running ∧ x.tiles ≠ [] ∧ (∀ i ∈ x.tiles, (s.dev.tile i).stalls = [])
    :=
  ⟨W { w0 with numVfs := 63, rings := [(63, { st := .enabled, fn := 63, size := 3 })], jobs := [(1, { ring := 63, st := .running, tiles := [127] })] }, 63, 1, { ring := 63, st := .running, tiles := [127] }, by decide +kernel⟩

/-! ### RingFetch -/

theorem wit_RingFetch_0 : ∃ (s : State) (k e : Nat) (d : Dev), s.dev.serving = true ∧ NextEntry s.dev k e d ∧ e < 2
    ^ 512 ∧ d.obj 0xD015 (k + 1) 0 = 0 ∧ sqOk e = false :=
  ⟨W (ringDev (2 ^ 512 - 1)), 0, (2 ^ 512 - 1), (nextRead (ringDev (2 ^ 512 - 1))).2, by decide +kernel, nextEntry_of _ _ (by decide +kernel), by decide +kernel⟩
theorem wit_RingFetch_1 : ∃ (s : State) (k e : Nat) (d : Dev), s.dev.serving = true ∧ NextEntry s.dev k e d ∧ e < 2 ^
    512 ∧ d.obj 0xD015 (k + 1) 0 = 0 ∧ sqOk e = true ∧ e / 2 ^ 264 % 256 = 0 ∧ d.stamp 128 < e / 2 ^ 448 ∧ d.tileLimit
    (d.ring k).fn < e / 2 ^ 248 % 256 :=
  ⟨W ((ringDev ((2 ^ 64 - 1) * 2 ^ 448 + 128 * 2 ^ 248 + 3 * 2 ^ 242)).setObj 0x3821 0 0 127), 0, ((2 ^ 64 - 1) * 2 ^ 448 + 128 * 2 ^ 248 + 3 * 2 ^ 242), (nextRead ((ringDev ((2 ^ 64 - 1) * 2 ^ 448 + 128 * 2 ^ 248 + 3 * 2 ^ 242)).setObj 0x3821 0 0 127)).2, by decide +kernel, nextEntry_of _ _ (by decide +kernel), four (by decide +kernel) ⟨stamp_lt _ _ _ (by decide +kernel), by decide +kernel⟩⟩
theorem wit_RingFetch_2 : ∃ (s : State) (k e : Nat) (d : Dev), s.dev.serving = true ∧ NextEntry s.dev k e d ∧ e < 2 ^
    512 ∧ d.obj 0xD015 (k + 1) 0 = 0 ∧ sqOk e = true ∧ e / 2 ^ 264 % 256 = 0 ∧ d.stamp 128 < e / 2 ^ 448 ∧ e / 2 ^ 248
    % 256 ≤ d.tileLimit (d.ring k).fn :=
  ⟨W (ringDev ((2 ^ 64 - 1) * 2 ^ 448 + 128 * 2 ^ 248 + 3 * 2 ^ 242)), 0, ((2 ^ 64 - 1) * 2 ^ 448 + 128 * 2 ^ 248 + 3 * 2 ^ 242), (nextRead (ringDev ((2 ^ 64 - 1) * 2 ^ 448 + 128 * 2 ^ 248 + 3 * 2 ^ 242))).2, by decide +kernel, nextEntry_of _ _ (by decide +kernel), four (by decide +kernel) ⟨stamp_lt _ _ _ (by decide +kernel), by decide +kernel⟩⟩

/-! ### JobsEnd -/

theorem wit_JobsEnd_0 : ∃ (s : State) (j : Nat) (x : Job), Waits s.dev j 0 x ∧ x.tiles = [] :=
  ⟨W { w0 with jobs := [(7, {  })] }, 7, { }, by unfold Waits; decide +kernel⟩
theorem wit_JobsEnd_1 : ∃ (s : State) (j : Nat) (x : Job), Waits s.dev j 5 x ∧ x.tiles = [] :=
  ⟨W { w0 with jobs := [(7, { opcode := 5 })] }, 7, { opcode := 5 }, by unfold Waits; decide +kernel⟩
theorem wit_JobsEnd_2 : ∃ (s : State) (j : Nat) (x : Job) (e : Nat × Job), s.dev.serving = true ∧ KMap.find s.dev.jobs
    j = some x ∧ x.opcode = 5 ∧ e ∈ s.dev.jobs ∧ e.1 < j ∧ e.2.ring = x.ring :=
  ⟨W { w0 with jobs := [(1, { }), (2, { opcode := 5 })] }, 2, { opcode := 5 }, (1, { }), by decide +kernel⟩
theorem wit_JobsEnd_3 : ∃ (s : State) (j status : Nat) (x : Job) (ps : List (Nat × Nat × Nat)) (d : Dev), s.dev.live =
    true ∧ KMap.find s.dev.jobs j = some x ∧ x.st = .ended status ∧ x.discard = false ∧ (s.dev.ring x.ring).st =
    .enabled ∧ SlotOpen s.dev x.ring j x ps d ∧ x.noIrq = true ∧ (s.dev.ring x.ring).counted = 0 ∧ d.ring x.ring =
    s.dev.ring x.ring ∧ ((d.onBus (s.dev.ring x.ring).fn (s.dev.ring x.ring).pasid true ps).writePieces ps (leBytes
    (Completion x status (d.pwr.tick - x.fetchTick) (s.dev.ring x.ring).sqHead (s.dev.ring x.ring).phase) 16)).2 = 0
    :=
  ⟨W { ringDev 0 with jobs := [(1, { st := .ended 255, noIrq := true })] }, 1, 255, { st := .ended 255, noIrq := true }, (slotSpan { ringDev 0 with jobs := [(1, { st := .ended 255, noIrq := true })] } 1 { st := .ended 255, noIrq := true }).1.getD [], (slotDev { ringDev 0 with jobs := [(1, { st := .ended 255, noIrq := true })] } 1 { st := .ended 255, noIrq := true }).2, four (by decide +kernel) ⟨by decide +kernel, slotOpen_of _ _ _ (by decide +kernel), by decide +kernel⟩⟩
theorem wit_JobsEnd_4 : ∃ (s : State) (j status : Nat) (x : Job), s.dev.live = true ∧ KMap.find s.dev.jobs j = some x
    ∧ x.st = .ended status ∧ x.discard = true :=
  ⟨W { w0 with jobs := [(7, { st := .ended 7, discard := true })] }, 7, 7, { st := .ended 7, discard := true }, by decide +kernel⟩
theorem wit_JobsEnd_5 : ∃ (s : State) (k : RingId), s.dev.serving = true ∧ (s.dev.ring k.val).counted ≠ 0 ∧
    (s.dev.ring k.val).oldest + s.dev.obj 0x301C (k.val + 1) 0 ≤ s.dev.pwr.tick ∧ (s.dev.fn (s.dev.ring k.val).fn).msixEn
    = true ∧ (s.dev.fn (s.dev.ring k.val).fn).unmasked.testBit (s.dev.ring k.val).vec = true :=
  ⟨W ({ w0 with rings := [(63, { counted := 1, oldest := 9999999990, fn := 63, vec := 31 })], fns := [(63, { msixEn := true, unmasked := 2 ^ 31 })] }.setObj 0x301C 64 0 10), 63, by decide +kernel⟩
theorem wit_JobsEnd_6 : ∃ (s : State) (j : Nat) (x : Job), s.dev.serving = true ∧ KMap.find s.dev.jobs j = some x ∧
    x.st = .running ∧ x.missed = false ∧ x.deadline < s.dev.pwr.tick ∧ x.dlPolicy ≠ 2 :=
  ⟨W { w0 with jobs := [(7, { st := .running, deadline := 9999999999 })] }, 7, { st := .running, deadline := 9999999999 }, by decide +kernel⟩
theorem wit_JobsEnd_7 : ∃ (s : State) (j : Nat) (x : Job), s.dev.serving = true ∧ KMap.find s.dev.jobs j = some x ∧
    x.st = .waiting ∧ x.missed = false ∧ x.deadline < s.dev.pwr.tick ∧ x.dlPolicy = 2 :=
  ⟨W { w0 with jobs := [(7, { deadline := 9999999999, dlPolicy := 2 })] }, 7, { deadline := 9999999999, dlPolicy := 2 }, by decide +kernel⟩

/-! ### DispatchAndRun -/

theorem wit_DispatchAndRun_0 : ∃ (s : State) (j : Nat) (x : Job) (l : List TileId), KMap.find s.dev.jobs j = some x ∧
    s.dev.firstRun j x = true ∧ x.nTiles = 0 ∧ s.dev.tilesFit x (l.map (·.val)) = true :=
  ⟨W { w0 with jobs := [(7, { opcode := 1, program := 0x10000, tilesMax := 1 })] }, 7, { opcode := 1, program := 0x10000, tilesMax := 1 }, [127], by decide +kernel⟩
theorem wit_DispatchAndRun_1 : ∃ (s : State) (j : Nat) (x : Job), s.dev.serving = true ∧ KMap.find s.dev.jobs j = some
    x ∧ x.opcode = 1 ∧ x.st = .assigned ∧ x.ckpts = [] ∧ x.tiles.Nodup ∧ (∀ k ∈ x.tiles, s.dev.tileReady k = true) :=
  ⟨W { w0 with jobs := [(7, { opcode := 1, st := .assigned, tiles := [127, 0], nTiles := 2 })] }, 7, { opcode := 1, st := .assigned, tiles := [127, 0], nTiles := 2 }, by decide +kernel⟩

/-! ### SegmentsAndResume -/

theorem wit_SegmentsAndResume_0 : ∃ (s : State) (k : TileId) (j : Nat) (x : Job), s.dev.serving = true ∧ s.dev.tileJob
    k.val = some (j, x) ∧ (s.dev.tile k.val).active = true ∧ 16384 ≤ (s.dev.tile k.val).seg :=
  ⟨W { onTile 127 { job := some 1, active := true, seg := 16384 } with jobs := [(1, { st := .running, tiles := [127] })] }, 127, 1, { st := .running, tiles := [127] }, by decide +kernel⟩
theorem wit_SegmentsAndResume_1 : ∃ (s : State) (k : TileId) (j : Nat) (x : Job), s.dev.serving = true ∧ s.dev.tileJob
    k.val = some (j, x) ∧ (s.dev.tile k.val).active = true ∧ (s.dev.tile k.val).atBoundary = true ∧ x.stopAtBoundary =
    true ∧ x.cancel = false ∧ s.dev.clearEvery = false :=
  ⟨W { onTile 127 { job := some 1, active := true, atBoundary := true } with jobs := [(1, { st := .running, tiles := [127], stopAtBoundary := true })] }, 127, 1, { st := .running, tiles := [127], stopAtBoundary := true }, by decide +kernel⟩
theorem wit_SegmentsAndResume_2 : ∃ (s : State) (k : TileId) (j : Nat) (x : Job), s.dev.serving = true ∧ s.dev.tileJob
    k.val = some (j, x) ∧ (s.dev.tile k.val).active = true ∧ (s.dev.tile k.val).atBoundary = true ∧ x.cancel = true ∧
    x.tiles = [k.val] :=
  ⟨W { onTile 127 { job := some 1, active := true, atBoundary := true } with jobs := [(1, { st := .running, tiles := [127], cancel := true })] }, 127, 1, { st := .running, tiles := [127], cancel := true }, by decide +kernel⟩
theorem wit_SegmentsAndResume_3 : ∃ (s : State) (k : TileId) (j r : Nat) (x : Job) (c : Ckpt), (s.dev.tile
    k.val).draining = some (j, r) ∧ (s.dev.tile k.val).cErr = [] ∧ (s.dev.tile k.val).ckpt = some c ∧ KMap.find s.dev.jobs
    j = some x ∧ x.st = .running ∧ x.stopAtBoundary = true ∧ x.tiles = [] ∧ x.nTiles = 1 ∧ r = 0 :=
  ⟨W { onTile 127 { draining := some (1, 0), ckpt := some aCkpt } with jobs := [(1, { st := .running, stopAtBoundary := true, nTiles := 1 })] }, 127, 1, 0, { st := .running, stopAtBoundary := true, nTiles := 1 }, aCkpt, by decide +kernel⟩
theorem wit_SegmentsAndResume_4 : ∃ (s : State) (j : Nat) (x : Job) (l : List TileId), KMap.find s.dev.jobs j = some x
    ∧ x.ckpts ≠ [] ∧ x.opcode = 1 ∧ x.st = .waiting ∧ s.dev.firstRun j x = true ∧ s.dev.tilesFit x (l.map (·.val)) = true
    :=
  ⟨W { w0 with jobs := [(7, { opcode := 1, nTiles := 1, ckpts := [(0, aCkpt)] })] }, 7, { opcode := 1, nTiles := 1, ckpts := [(0, aCkpt)] }, [127], by decide +kernel⟩
theorem wit_SegmentsAndResume_5 : ∃ (s : State) (j k : Nat) (x : Job) (c : Ckpt) (l : List TileId), s.dev.serving =
    true ∧ KMap.find s.dev.jobs j = some x ∧ x.opcode = 1 ∧ x.st = .assigned ∧ x.tiles = [k] ∧ x.ckpts = [(0, c)] ∧
    s.dev.tileReady k = true :=
  ⟨W { w0 with jobs := [(7, { opcode := 1, st := .assigned, tiles := [127], nTiles := 1, ckpts := [(0, aCkpt)] })] }, 7, 127, { opcode := 1, st := .assigned, tiles := [127], nTiles := 1, ckpts := [(0, aCkpt)] }, aCkpt, [], by decide +kernel⟩

/-! ### Scrubber -/

theorem wit_Scrubber_0 : ∃ (s : State) (k : TileId), s.dev.serving = true ∧ s.dev.has k.val = true ∧ (s.dev.tile
    k.val).failed = false ∧ (s.dev.tile k.val).clearing = false ∧ (s.dev.tile k.val).scrubOn = false ∧ (s.dev.tile
    k.val).power = .idle ∧ s.dev.obj 0x5801 0 0 + Nat.max (s.dev.tile k.val).scrubStart s.dev.boot.start ≤ s.dev.pwr.tick
    :=
  ⟨W (onTile 127 { scrubStart := 9975000000 }), 127, by decide +kernel⟩
theorem wit_Scrubber_1 : ∃ (s : State) (k : TileId), s.dev.live = true ∧ (s.dev.tile k.val).scrubOn = true ∧
    (s.dev.tile k.val).power ≠ .sleep ∧ (s.dev.tile k.val).clearing = false ∧ (s.dev.tile k.val).scrubPos < 6144 ∧
    (s.dev.tile k.val).tbErr = [] :=
  ⟨W (onTile 127 { scrubOn := true, scrubPos := 6143 }), 127, by decide +kernel⟩
theorem wit_Scrubber_2 : ∃ (s : State) (k : TileId) (w : Nat), s.dev.live = true ∧ (s.dev.tile k.val).scrubOn = true ∧
    (s.dev.tile k.val).power ≠ .sleep ∧ (s.dev.tile k.val).clearing = false ∧ (s.dev.tile k.val).scrubPos < 6144 ∧
    (s.dev.tile k.val).tbErr = [(w, .correctable)] ∧ w / 4 = (s.dev.tile k.val).scrubPos :=
  ⟨W (onTile 127 { scrubOn := true, scrubPos := 6143, tbErr := [(24575, .correctable)] }), 127, 24575, by decide +kernel⟩
theorem wit_Scrubber_3 : ∃ (s : State) (k : TileId) (w : Nat), s.dev.live = true ∧ (s.dev.tile k.val).scrubOn = true ∧
    (s.dev.tile k.val).power ≠ .sleep ∧ (s.dev.tile k.val).clearing = false ∧ (s.dev.tile k.val).scrubPos < 6144 ∧
    (s.dev.tile k.val).tbErr = [(w, .uncorrectable)] ∧ w / 4 = (s.dev.tile k.val).scrubPos :=
  ⟨W (onTile 127 { scrubOn := true, scrubPos := 6143, tbErr := [(24575, .uncorrectable)] }), 127, 24575, by decide +kernel⟩
theorem wit_Scrubber_4 : ∃ (s : State) (k : TileId), s.dev.live = true ∧ (s.dev.tile k.val).scrubOn = true ∧
    (s.dev.tile k.val).scrubLate = false ∧ (s.dev.tile k.val).scrubStart + s.dev.obj 0x5801 0 0 ≤ s.dev.pwr.tick :=
  ⟨W (onTile 127 { scrubOn := true, scrubStart := 9975000000 }), 127, by decide +kernel⟩
theorem wit_Scrubber_5 : ∃ (s : State) (k : TileId), (s.dev.tile k.val).scrubLate = true :=
  ⟨W (onTile 127 { scrubLate := true }), 127, by decide +kernel⟩

/-! ### MemoryAccesses -/

theorem wit_MemoryAccesses_0 : ∃ (s : State) (off n : Nat), s.dev.live = true ∧ s.dev.boot.memActive = true ∧
    s.dev.boot.cxl ≠ 0 ∧ s.dev.boot.hdmDec.on = true ∧ Clean s.dev.mem ∧ off + n ≤ s.dev.boot.hdmGib * 2 ^ 30 :=
  ⟨W { w0 with boot := { w0.boot with memActive := true, cxl := 1, hdmGib := 1, hdmDec := { on := true } } }, 2 ^ 30 - 64, 64, by unfold Clean; decide +kernel⟩
theorem wit_MemoryAccesses_1 : ∃ (s : State) (off : Nat) (op : EngineOp), s.dev.boot.hdmDec.on = false :=
  ⟨W w0, 0, .read 64, by decide +kernel⟩
theorem wit_MemoryAccesses_2 : ∃ (s : State) (off : Nat) (b : List Byte), s.dev.live = true ∧ s.dev.boot.memActive =
    true ∧ s.dev.boot.cxl ≠ 0 ∧ s.dev.boot.hdmDec.on = true ∧ Clean s.dev.mem ∧ off + b.length ≤ s.dev.boot.hdmGib * 2
    ^ 30 :=
  ⟨W { w0 with boot := { w0.boot with memActive := true, cxl := 1, hdmGib := 1, hdmDec := { on := true } } }, 2 ^ 30 - 1, [7], by unfold Clean; decide +kernel⟩
theorem wit_MemoryAccesses_3 : ∃ (s : State) (src : BitVec 8) (n : FnId) (pa len : Nat), s.dev.serving = true ∧ Clean
    s.dev.mem ∧ InRegion s.dev pa len (privateOf n.val) :=
  ⟨W { w0 with stu := { rotCache := [(2, 0x403F)] }, jobs := [(7, {})] }, 0x81, 63, 0x400FFF, 1, by unfold Clean InRegion; decide +kernel⟩
theorem wit_MemoryAccesses_4 : ∃ (s : State) (src : BitVec 8) (n : FnId) (pa : Nat) (b : List Byte), s.dev.serving =
    true ∧ Clean s.dev.mem ∧ InRegion s.dev pa b.length (privateOf n.val) :=
  ⟨W { w0 with stu := { rotCache := [(2, 0x403F)] }, jobs := [(7, {})] }, 0x81, 63, 0x400FFE, [1, 2], by unfold Clean InRegion; decide +kernel⟩
theorem wit_MemoryAccesses_5 : ∃ (s : State) (src : BitVec 8) (n m : FnId) (pa : Nat) (op : EngineOp) (j : Nat) (x :
    Job), s.dev.serving = true ∧ (InRegion s.dev pa (match op with | .read k => k | .write b => b.length) (privateOf
    m.val)) ∧ m ≠ n ∧ KMap.find s.dev.jobs j = some x ∧ x.st = .waiting :=
  ⟨W { w0 with stu := { rotCache := [(2, 0x403F)] }, jobs := [(7, {})] }, 0x81, 0, 63, 0x400FFE, .read 2, 7, {}, by unfold InRegion; decide +kernel⟩

/-! ### WalkOfFourTables -/

theorem wit_WalkOfFourTables_all : ∃ (d : Dev) (tenant pasid va asid t3 t2 t1 t0 leaf : Nat) (e : CtxEntry), Clean d.mem
    ∧ d.stu.walkCache = [] ∧ d.stu.ctxCache = [e] ∧ e.tenant = tenant ∧ e.pasid = pasid ∧ e.entry = 1 + 9 * 2 ^ 44 + asid
    * 2 ^ 48 + t3 * 2 ^ 64 ∧ asid < 2 ^ 16 ∧ t3 < 2 ^ 44 ∧ t2 < 2 ^ 44 ∧ t1 < 2 ^ 44 ∧ t0 < 2 ^ 44 ∧ va < 2 ^ 47 ∧ (∀ p ∈
    [t3, t2, t1, t0], p * 4096 + 4096 ≤ d.hbmTop) ∧ leNat (d.mem.read (t3 * 4096 + 8 * (va / 2 ^ 39 % 512)) 8) = t2 * 1024
    + 1 ∧ leNat (d.mem.read (t2 * 4096 + 8 * (va / 2 ^ 30 % 512)) 8) = t1 * 1024 + 1 ∧ leNat (d.mem.read (t1 * 4096 + 8 *
    (va / 2 ^ 21 % 512)) 8) = t0 * 1024 + 1 ∧ leNat (d.mem.read (t0 * 4096 + 8 * (va / 2 ^ 12 % 512)) 8) = leaf ∧ leaf < 2
    ^ 54 ∧ leaf.testBit 0 = true ∧ leaf.testBit 1 = true ∧ leaf.testBit 4 = true ∧ leaf.testBit 6 = true :=
  ⟨tabDev (0x2345 * 1024 + 0x53), 0, 0, 2 ^ 47 - 1, 65535, 0x1001, 0x1002, 0x1003, 0x1004, 0x2345 * 1024 + 0x53, ⟨0, 0, 1 + 9 * 2 ^ 44 + 65535 * 2 ^ 48 + 0x1001 * 2 ^ 64⟩, by unfold Clean; decide +kernel⟩

/-! ### WalksAndRecords -/

theorem wit_WalksAndRecords_0 : ∃ (s : State) (k : Nat) (w : Walk), s.dev.serving = true ∧ s.dev.walkQueue.find? (fun
    w => (s.dev.walkerFor w.2).isSome) = some (k, w) :=
  ⟨W { w0 with stu := { walks := [(7, { tenant := 63, pasid := 0, va := 0, reqs := [anEngine] })] } }, 7, { tenant := 63, pasid := 0, va := 0, reqs := [anEngine] }, by decide +kernel⟩
theorem wit_WalksAndRecords_1 : ∃ (s : State) (k : Nat) (w : Walk) (r : Requester) (e : TlbEntry) (pte l a : Nat) (d :
    Dev), s.dev.serving = true ∧ KMap.find s.dev.stu.walks k = some w ∧ w.active = true ∧ w.delay ≤ s.dev.pwr.tick -
    w.start ∧ s.dev.pwr.tick - w.start ≤ w.deadline ∧ w.reqs = [r] ∧ 128 ≤ r.source ∧ r.source ≠ 0x8A ∧ r.source ≠
    0x84 ∧ r.source ≠ 0x82 ∧ ((s.dev.dropWalk k).maxObj 0x4020 4 0 (s.dev.pwr.tick - w.start) 32).walk w.tenant
    w.pasid w.va = (.leaf e pte l a, d) ∧ leafUsable pte = true ∧ leafCause pte r.access = 0 ∧ d.stu.iotlb.length <
    16384 :=
  ⟨W (walkDev (0x2345 * 1024 + 0x53) anEngine), 7, aWalk anEngine, anEngine, ⟨0, 0, 65535, false, 2 ^ 35 - 1, 1, 0x2345, true, false, false⟩, (0x2345 * 1024 + 0x53), 0, 0x1004FF8, (walkEnd (walkDev (0x2345 * 1024 + 0x53) anEngine) (aWalk anEngine)).2, four (by decide +kernel) (four (by decide +kernel) ⟨by decide +kernel, by decide +kernel, walk_is (walkDev (0x2345 * 1024 + 0x53) anEngine) (aWalk anEngine) _ (by decide +kernel), by decide +kernel⟩)⟩
theorem wit_WalksAndRecords_2 : ∃ (s : State) (k j l : Nat) (w : Walk) (r : Requester) (d : Dev), s.dev.serving = true
    ∧ KMap.find s.dev.stu.walks k = some w ∧ w.active = true ∧ w.delay ≤ s.dev.pwr.tick - w.start ∧ s.dev.pwr.tick -
    w.start ≤ w.deadline ∧ w.reqs = [r] ∧ r.source < 128 ∧ r.job = some j ∧ r.policy = 1 ∧ (s.dev.tile r.source).job =
    some j ∧ (s.dev.tile r.source).stalls = [] ∧ (∀ x, KMap.find d.jobs j = some x → x.stopAtBoundary = false ∧
    x.cancel = false) ∧ ((s.dev.dropWalk k).maxObj 0x4020 4 0 (s.dev.pwr.tick - w.start) 32).walk w.tenant w.pasid
    w.va = (.fault 1 l, d) ∧ d.tiles = s.dev.tiles ∧ d.stu.faults = [] :=
  ⟨W (walkDev 0 aTileReq), 7, 1, 0, aWalk aTileReq, aTileReq, (walkEnd (walkDev 0 aTileReq) (aWalk aTileReq)).2, four (by decide +kernel) (four (by decide +kernel) ⟨by decide +kernel, by decide +kernel, by decide +kernel, of_find (y := aJob) (by decide +kernel) ⟨rfl, rfl⟩, walk_is (walkDev 0 aTileReq) (aWalk aTileReq) _ (by decide +kernel), by decide +kernel⟩)⟩
theorem wit_WalksAndRecords_3 : ∃ (s : State) (k : Nat) (w : Walk), s.dev.serving = true ∧ KMap.find s.dev.stu.walks k
    = some w ∧ w.active = true ∧ w.restarted = false ∧ w.deadline < s.dev.pwr.tick - w.start ∧ w.reqs ≠ [] ∧
    s.dev.err.rings = [] :=
  ⟨W { w0 with stu := { walks := [(7, { aWalk anEngine with start := 9999999749 })] } }, 7, { aWalk anEngine with start := 9999999749 }, by decide +kernel⟩
theorem wit_WalksAndRecords_4 : ∃ (s : State) (f : FaultRec) (r : Requester), s.dev.serving = true ∧
    s.dev.stu.faultWait = [f] ∧ s.dev.stu.faults = [] ∧ f.reqs = [r] ∧ 128 ≤ r.source :=
  ⟨W { w0 with stu := { faultWait := [aFault anEngine] } }, aFault anEngine, anEngine, by decide +kernel⟩

/-! ### FaultAnswers -/

theorem wit_FaultAnswers_0 : ∃ (s : State) (id : BitVec 16) (f : FaultRec) (r : Requester) (l : List ByteStore),
    s.dev.serving = true ∧ KMap.find s.dev.stu.faults id.toNat = some f ∧ s.dev.stu.moves = [] ∧ f.reqs = [r] ∧ 128 ≤
    r.source ∧ s.dev.stu.walks = [] ∧ Clean s.dev.mem :=
  ⟨W { w0 with stu := { faults := [(65535, aFault anEngine)] }, jobs := [(1, aJob)] }, 65535, aFault anEngine, anEngine, [⟨0x1004FF8, 0x53⟩], by unfold Clean; decide +kernel⟩
theorem wit_FaultAnswers_1 : ∃ (s : State) (id : BitVec 16) (f : FaultRec), KMap.find s.dev.stu.faults id.toNat = some
    f ∧ s.dev.moving f.tenant f.pasid f.va = true :=
  ⟨W { w0 with stu := { faults := [(65535, aFault anEngine)], moves := [⟨0, 0, 2 ^ 47 - 4096, 0, 0x1004FF8, 0x53, 0, 4096, false, none⟩] } }, 65535, aFault anEngine, by decide +kernel⟩
theorem wit_FaultAnswers_2 : ∃ (s : State) (id : BitVec 16) (f : FaultRec) (r : Requester) (j : Nat) (x : Job),
    s.dev.serving = true ∧ s.dev.moving f.tenant f.pasid f.va = false ∧ KMap.find s.dev.stu.faults id.toNat = some f ∧
    f.reqs = [r] ∧ r.source < 128 ∧ r.job = some j ∧ KMap.find s.dev.jobs j = some x ∧ x.st = .running ∧ f.tenant < 64
    :=
  ⟨W { w0 with stu := { faults := [(65535, aFault aTileReq)] }, jobs := [(1, aJob)] }, 65535, aFault aTileReq, aTileReq, 1, aJob, by decide +kernel⟩
theorem wit_FaultAnswers_3 : ∃ (s : State) (id : BitVec 16) (f : FaultRec) (r : Requester) (j : Nat) (x : Job),
    s.dev.serving = true ∧ KMap.find s.dev.stu.faults id.toNat = some f ∧ f.reqs = [r] ∧ r.source < 128 ∧ r.job = some
    j ∧ r.limit + r.since ≤ s.dev.pwr.tick ∧ KMap.find s.dev.jobs j = some x ∧ x.st = .running ∧ x.cancel = false ∧
    s.dev.stu.faultWait = [] :=
  ⟨W { w0 with stu := { faults := [(65535, aFault aTileReq)] }, jobs := [(1, aJob)] }, 65535, aFault aTileReq, aTileReq, 1, aJob, by decide +kernel⟩

/-! ### FencesAndInvalidations -/

theorem wit_FencesAndInvalidations_0 : ∃ (s : State) (m : FenceMode) (va : Option (BitVec 64)) (asid : Option (BitVec
    16)) (l : List ByteStore), s.dev.hubOn = true ∧ Clean s.dev.mem ∧ m ≠ .vsMode :=
  ⟨W w0, .hsMode, some 0, none, [], by unfold Clean; decide +kernel⟩
theorem wit_FencesAndInvalidations_1 : ∃ (s : State) (va : Option (BitVec 64)) (asid : Option (BitVec 16)) (l : List
    ByteStore), s.dev.hubOn = true ∧ Clean s.dev.mem :=
  ⟨W w0, none, none, [], by unfold Clean; decide +kernel⟩
theorem wit_FencesAndInvalidations_2 : ∃ (s : State) (f : Fence) (l : List Fence), s.dev.hubOn = true ∧
    s.dev.stu.fences = f :: l :=
  ⟨W { w0 with stu := { fences := [⟨none, none, 9999000000, 1000000⟩] } }, ⟨none, none, 9999000000, 1000000⟩, [], by decide +kernel⟩
theorem wit_FencesAndInvalidations_3 : ∃ (s : State) (f : Fence) (l : List Fence) (c : Fin 4), s.dev.hubOn = true ∧
    s.dev.stu.fences = f :: l ∧ f.start + f.deadline ≤ s.dev.pwr.tick ∧ s.dev.has (264 + c.val) = true ∧
    s.dev.clk.chipLow.get c.val false = false :=
  ⟨W { w0 with stu := { fences := [⟨none, none, 9999000000, 1000000⟩] } }, ⟨none, none, 9999000000, 1000000⟩, [], 3, by decide +kernel⟩
theorem wit_FencesAndInvalidations_4 : ∃ (s : State) (f : Fence) (l : List Fence) (k : TileId), s.dev.hubOn = true ∧
    s.dev.stu.fences = f :: l ∧ f.start + f.deadline ≤ s.dev.pwr.tick ∧ s.dev.has k.val = true ∧ (s.dev.tile
    k.val).job = none ∧ (s.dev.tile k.val).power ≠ .sleep :=
  ⟨W { w0 with stu := { fences := [⟨none, none, 9999000000, 1000000⟩] } }, ⟨none, none, 9999000000, 1000000⟩, [], 127, by decide +kernel⟩
theorem wit_FencesAndInvalidations_5 : ∃ (s : State) (f : Fence) (l : List Fence) (k : TileId), s.dev.hubOn = true ∧
    s.dev.stu.fences = f :: l ∧ f.start + f.deadline ≤ s.dev.pwr.tick ∧ (s.dev.tile k.val).power = .sleep :=
  ⟨W { w0 with stu := { fences := [⟨none, none, 9999000000, 1000000⟩] }, tiles := [(127, { power := .sleep })] }, ⟨none, none, 9999000000, 1000000⟩, [], 127, by decide +kernel⟩
theorem wit_FencesAndInvalidations_6 : ∃ (s : State) (f : Fence) (l : List Fence) (n : FnId) (e : Nat) (w : List Nat),
    s.dev.hubOn = true ∧ s.dev.stu.fences = f :: l ∧ f.start + f.deadline ≤ s.dev.pwr.tick ∧ (s.dev.errRing
    n.val).waiting = e :: w ∧ n.val ≠ 0 :=
  ⟨W { w0 with stu := { fences := [⟨none, none, 9999000000, 1000000⟩] }, err := { rings := [(63, { waiting := [7] })] } }, ⟨none, none, 9999000000, 1000000⟩, [], 63, 7, [], by decide +kernel⟩
theorem wit_FencesAndInvalidations_7 : ∃ (s : State) (n : FnId) (b : BitVec 64) (l : List ByteStore), s.dev.serving =
    true ∧ Clean s.dev.mem ∧ b.toNat % 4096 = 0 ∧ b.toNat < s.dev.hbmTop :=
  ⟨W w0, 63, BitVec.ofNat 64 (w0.hbmTop - 4096), [], by unfold Clean; decide +kernel⟩
theorem wit_FencesAndInvalidations_8 : ∃ (s : State) (a n : Nat) (l : List ByteStore), s.dev.serving = true ∧ Clean
    s.dev.mem ∧ 1 ≤ n ∧ a + n ≤ s.dev.hbmTop / 2097152 :=
  ⟨W w0, w0.hbmTop / 2097152 - 1, 1, [], by unfold Clean; decide +kernel⟩
theorem wit_FencesAndInvalidations_9 : ∃ (s : State) (a old new : Nat), s.dev.serving = true ∧ a + 1 ≤ s.dev.hbmTop /
    2097152 ∧ new < 64 ∧ old ≠ new ∧ KMap.find s.dev.stu.regionOwner a = some old ∧ leNat (s.dev.mem.read (s.dev.obj
    0x3800 0 0 + 2 * a) 2) = privateOf new :=
  ⟨W { w0 with stu := { regionOwner := [(3, 5)] }, mem := ({} : Mem).poke 6 (leBytes (privateOf 63) 2) }, 3, 5, 63, by decide +kernel⟩
theorem wit_FencesAndInvalidations_10 : ∃ (s : State) (r : RotInval) (l : List RotInval) (n : FnId), s.dev.live = true
    ∧ s.dev.srv.rotInvals = r :: l ∧ s.dev.srv.heldFrames = [] ∧ r.src = some (.mailbox n) ∧ (s.dev.fn n.val).irq =
    false :=
  ⟨W { w0 with srv := { rotInvals := [⟨some (.mailbox 5), 0, 0, 1⟩] } }, ⟨some (.mailbox 5), 0, 0, 1⟩, [], 5, by decide +kernel⟩

/-! ### Tenancy -/

theorem wit_Tenancy_0 : ∃ (s : State) (k : TileId), s.dev.live = true ∧ (s.dev.tile k.val).clearing = true :=
  ⟨W (onTile 127 { clearing := true }), 127, by decide +kernel⟩
theorem wit_Tenancy_1 : ∃ (s : State) (k : SolvSlot), s.dev.live = true ∧ (s.dev.slot k.val).clearing = true :=
  ⟨W { w0 with solv := { slots := [(7, { clearing := true })] } }, 7, by decide +kernel⟩
theorem wit_Tenancy_2 : ∃ (s : State) (a : ArrayId) (b : Fin 2), s.dev.live = true ∧ (s.dev.array a.val).clearing
    b.val = true :=
  ⟨W { w0 with scout := { arrays := [(127, { clearing1 := true })] } }, 127, 1, by decide +kernel⟩
theorem wit_Tenancy_3 : ∃ (s : State) (k : TileId) (x : Fin 4) (off : Nat), s.dev.live = true ∧ (s.dev.tile
    k.val).clearing = true ∧ (s.dev.tile k.val).job = none :=
  ⟨W (onTile 127 { clearing := true }), 127, 3, 0, by decide +kernel⟩
theorem wit_Tenancy_4 : ∃ (s : State) (k : TileId), s.dev.live = true ∧ (s.dev.tile k.val).clearing = true ∧
    (s.dev.tile k.val).job = none ∧ (s.dev.tile k.val).clearStart + 61 < s.dev.pwr.tick :=
  ⟨W (onTile 127 { clearing := true, clearStart := 9999999938 }), 127, by decide +kernel⟩
theorem wit_Tenancy_5 : ∃ (s : State) (c : Fin 8), s.dev.serving = true ∧ s.dev.policyCore c.val = true ∧ (s.dev.core
    c.val).image.isSome = true :=
  ⟨W ({ w0 with cores := [(7, { image := some [1] })] }.setObj 0x3802 0 0 (0x7F * 2 ^ 120)), 7, by decide +kernel⟩
theorem wit_Tenancy_6 : ∃ (s : State) (c : Fin 8), s.dev.serving = true ∧ s.dev.policyCore c.val = true ∧ (s.dev.core
    c.val).st = 1 :=
  ⟨W ({ w0 with cores := [(7, { st := 1 })] }.setObj 0x3802 0 0 (0x7F * 2 ^ 120)), 7, by decide +kernel⟩
theorem wit_Tenancy_7 : ∃ (s : State) (c : Fin 8), s.dev.serving = true ∧ s.dev.policyCore c.val = true ∧ (s.dev.core
    c.val).st = 1 :=
  ⟨W ({ w0 with cores := [(7, { st := 1 })] }.setObj 0x3802 0 0 (0x7F * 2 ^ 120)), 7, by decide +kernel⟩
theorem wit_Tenancy_8 : ∃ (s : State) (k : TileId), s.dev.serving = true ∧ s.dev.has k.val = true :=
  ⟨W (onTile 127 {  }), 127, by decide +kernel⟩
theorem wit_Tenancy_9 : ∃ (s : State) (k : TileId), s.dev.serving = true ∧ s.dev.has k.val = true ∧ (s.dev.tile
    k.val).job = none :=
  ⟨W (onTile 127 {  }), 127, by decide +kernel⟩

/-! ### Migration -/

theorem wit_Migration_3 : ∃ (s : State) (k j : Nat) (w : Walk) (r : Requester) (x : Job) (e : TlbEntry) (pte l a :
    Nat) (d : Dev), PageWalked s k j w r x d ∧ walkEndOf s.dev k w = (.leaf e pte l a, d) ∧ x.opcode = 2 ∧ x.inline %
    256 = 1 ∧ 2 ^ 55 ≤ (⟨pte, l, a⟩ : Leaf).src :=
  ⟨W (pageDev (hostLeafDev (moveJob 2 1 0x2200000))), 7, 1, aPageWalk, aPageReq, moveJob 2 1 0x2200000, ⟨0, 0, 0, false, 0x2200, 512, hostBase / 4096, true, true, true⟩, hostBase / 4096 * 1024 + 0xD7, 1, 0x1003088, (walkEnd (pageDev (hostLeafDev (moveJob 2 1 0x2200000))) aPageWalk).2, by unfold PageWalked; decide +kernel, walk_is (pageDev (hostLeafDev (moveJob 2 1 0x2200000))) aPageWalk _ (by decide +kernel), by decide +kernel⟩
theorem wit_Migration_4 : ∃ (s : State) (k j : Nat) (w : Walk) (r : Requester) (x : Job) (e : TlbEntry) (pte l a :
    Nat) (d : Dev), PageWalked s k j w r x d ∧ walkEndOf s.dev k w = (.leaf e pte l a, d) ∧ x.opcode = 3 ∧ x.inline %
    256 ≠ 1 :=
  ⟨W (pageDev (poolDev (moveJob 3 4 0x2200000))), 7, 1, aPageWalk, aPageReq, moveJob 3 4 0x2200000, ⟨0, 0, 0, false, 0x2200, 512, 0x2200, true, true, true⟩, 0x2200 * 1024 + 0xD7, 1, 0x1003088, (walkEnd (pageDev (poolDev (moveJob 3 4 0x2200000))) aPageWalk).2, by unfold PageWalked; decide +kernel, walk_is (pageDev (poolDev (moveJob 3 4 0x2200000))) aPageWalk _ (by decide +kernel), by decide +kernel⟩
theorem wit_Migration_5 : ∃ (s : State) (k j : Nat) (w : Walk) (r : Requester) (x : Job) (l : Nat) (d : Dev),
    PageWalked s k j w r x d ∧ walkEndOf s.dev k w = (.fault 1 l, d) ∧ inlinePages x = x.scanPos + 1 ∧ (x.opcode = 2 ∨
    x.opcode = 3) ∧ (∀ m ∈ d.stu.moves, m.job ≠ some j ∧ m.tenant ≠ w.tenant) :=
  ⟨W (pageDev { poolDev (moveJob 2 1 0x2200000) with mem := poolMem.poke 0x1003088 (leBytes 0 8) }), 7, 1, aPageWalk, aPageReq, moveJob 2 1 0x2200000, 1, (walkEnd (pageDev { poolDev (moveJob 2 1 0x2200000) with mem := poolMem.poke 0x1003088 (leBytes 0 8) }) aPageWalk).2, by unfold PageWalked; decide +kernel, walk_is (pageDev { poolDev (moveJob 2 1 0x2200000) with mem := poolMem.poke 0x1003088 (leBytes 0 8) }) aPageWalk _ (by decide +kernel), by decide +kernel⟩
theorem wit_Migration_6 : ∃ (s : State) (n : FnId) (q : Seq) (x : PageDesc), s.dev.serving = true ∧ s.dev.evicting
    n.val = false ∧ s.dev.obj 0x6013 0 n.val < s.dev.hbmUsed n.val + s.dev.obj 0x6016 0 n.val ∧ s.dev.evictable n.val
    = some (q, x) ∧ s.dev.stu.walks = [] :=
  by
  have h : (evictDev.evictable 0).isSome = true := by decide +kernel
  obtain ⟨⟨q, x⟩, hq⟩ := Option.isSome_iff_exists.mp h
  exact ⟨W evictDev, 0, q, x, by decide +kernel, by decide +kernel, by decide +kernel, hq, by decide +kernel⟩
theorem wit_Migration_7 : ∃ (s : State) (m : Move) (l : List Move) (dst : Nat), s.dev.serving = true ∧ s.dev.stu.moves
    = m :: l ∧ s.dev.moveFit m dst = .fits ∧ Clean s.dev.mem ∧ m.leaf.napot = false ∧ m.pteAddr % 8 = 0 ∧
    (s.dev.ownOkAll m.tenant (regionPieces m.src m.bytes) false).1 = true ∧ (m.pteAddr + 8 ≤ dst ∨ dst + m.bytes ≤
    m.pteAddr) :=
  ⟨W { w0 with stu := { moves := [⟨0, 0, 0x2200000, 0, 0x21FEFF8, 0x53, hostBase, 4096, true, none⟩] }, mem := ({} : Mem).poke 0x20 [0, 0x40] }, ⟨0, 0, 0x2200000, 0, 0x21FEFF8, 0x53, hostBase, 4096, true, none⟩, [], 0x21FF000, by unfold Clean; decide +kernel⟩
theorem wit_Migration_8 : ∃ (s : State) (m : Move) (l : List Move) (dst j : Nat) (x : Job), s.dev.serving = true ∧
    s.dev.stu.moves = m :: l ∧ s.dev.moveFit m dst = .fits ∧ m.job = some j ∧ KMap.find s.dev.jobs j = some x ∧ x.st =
    .waiting ∧ (s.dev.ownOkAll m.tenant (regionPieces m.src m.bytes) false).1 = false :=
  ⟨W { w0 with stu := { moves := [⟨0, 0, 0x2200000, 0, 0x21FEFF8, 0x53, 0x400000, 4096, true, (some 7)⟩], rotCache := [(2, 0x403F)] }, mem := ({} : Mem).poke 0x20 [0, 0x40], jobs := [(7, {})] }, ⟨0, 0, 0x2200000, 0, 0x21FEFF8, 0x53, 0x400000, 4096, true, (some 7)⟩, [], 0x21FF000, 7, {}, by decide +kernel⟩
theorem wit_Migration_9 : ∃ (s : State) (n : FnId) (v : BitVec 64), s.dev.serving = true ∧ v.toNat % 2097152 = 0 ∧
    s.dev.hbmUsed n.val ≤ v.toNat :=
  ⟨W w0, 63, 2097152, by decide +kernel⟩
theorem wit_Migration_prefetchToHbm : ∃ (s : State) (j : Nat) (x : Job), Waits s.dev j 2 x ∧ x.inline % 256 = 1 ∧
    (∀ m ∈ s.dev.stu.moves, m.job ≠ some j) ∧ x.scanPos < x.inline / 2 ^ 32 % 2 ^ 32 ∧
    s.dev.moving x.tenant x.pasid x.scanVa = false ∧ s.dev.stu.walks = [] ∧ s.dev.stu.faults = [] ∧ s.dev.stu.faultWait = [] :=
  ⟨W (poolDev (moveJob 2 1 0x2200000)), 1, moveJob 2 1 0x2200000, by unfold Waits; decide +kernel⟩
theorem wit_Migration_prefetchToHbm_end : ∃ (s : State) (j : Nat) (x : Job), Waits s.dev j 2 x ∧ x.inline % 256 = 1 ∧
    (∀ m ∈ s.dev.stu.moves, m.job ≠ some j) ∧ x.inline / 2 ^ 32 % 2 ^ 32 ≤ x.scanPos :=
  ⟨W (poolDev { moveJob 2 1 0x2200000 with scanPos := 1 }), 1, { moveJob 2 1 0x2200000 with scanPos := 1 },
    by unfold Waits; decide +kernel⟩
theorem wit_Migration_prefetchToHost : ∃ (s : State) (j : Nat) (x : Job), Waits s.dev j 2 x ∧ x.inline % 256 = 2 ∧
    (∀ m ∈ s.dev.stu.moves, m.job ≠ some j) ∧ x.scanPos < x.inline / 2 ^ 32 % 2 ^ 32 ∧
    s.dev.moving x.tenant x.pasid x.scanVa = false ∧ s.dev.stu.walks = [] ∧ s.dev.stu.faults = [] ∧ s.dev.stu.faultWait = [] :=
  ⟨W (poolDev (moveJob 2 2 0x2200000)), 1, moveJob 2 2 0x2200000, by unfold Waits; decide +kernel⟩
theorem wit_Migration_prefetchToHost_end : ∃ (s : State) (j : Nat) (x : Job), Waits s.dev j 2 x ∧ x.inline % 256 = 2 ∧
    (∀ m ∈ s.dev.stu.moves, m.job ≠ some j) ∧ x.inline / 2 ^ 32 % 2 ^ 32 ≤ x.scanPos :=
  ⟨W (poolDev { moveJob 2 2 0x2200000 with scanPos := 1 }), 1, { moveJob 2 2 0x2200000 with scanPos := 1 },
    by unfold Waits; decide +kernel⟩
theorem wit_Migration_advise : ∃ (s : State) (j : Nat) (x : Job), Waits s.dev j 3 x ∧ x.inline % 256 = 4 ∧
    (∀ m ∈ s.dev.stu.moves, m.job ≠ some j) ∧ x.scanPos < x.inline / 2 ^ 32 % 2 ^ 32 ∧
    s.dev.moving x.tenant x.pasid x.scanVa = false ∧ s.dev.stu.walks = [] ∧ s.dev.stu.faults = [] ∧ s.dev.stu.faultWait = [] :=
  ⟨W (poolDev (moveJob 3 4 0x2200000)), 1, moveJob 3 4 0x2200000, by unfold Waits; decide +kernel⟩
theorem wit_Migration_advise_end : ∃ (s : State) (j : Nat) (x : Job), Waits s.dev j 3 x ∧ x.inline % 256 = 4 ∧
    (∀ m ∈ s.dev.stu.moves, m.job ≠ some j) ∧ x.inline / 2 ^ 32 % 2 ^ 32 ≤ x.scanPos :=
  ⟨W (poolDev { moveJob 3 4 0x2200000 with scanPos := 1 }), 1, { moveJob 3 4 0x2200000 with scanPos := 1 },
    by unfold Waits; decide +kernel⟩

/-! ### SequenceOperations -/

theorem wit_SequenceOperations_0 : ∃ (s : State) (j : Nat) (x : Job) (p : KvPlan)
    (ws : List (List (Nat × Nat × Nat) × KvWrite)) (d : Dev), KvChecked s.dev j 1 kvCreate x p ws d :=
  ⟨W { poolDev {} with jobs := [(1, kvJob 5 1 0 100 0 0x1030000)] }, 1, kvJob 5 1 0 100 0 0x1030000, kvChecked_of _ _ _ _ (by decide +kernel)⟩
theorem wit_SequenceOperations_1 : ∃ (s : State) (j : Nat) (x : Job) (p : KvPlan)
    (ws : List (List (Nat × Nat × Nat) × KvWrite)) (d : Dev), KvChecked s.dev j 2 kvFork x p ws d :=
  ⟨W { committed with jobs := [(1, kvJob 6 2 64 0 5)] }, 1, kvJob 6 2 64 0 5, kvChecked_of _ _ _ _ (by decide +kernel)⟩
theorem wit_SequenceOperations_2 : ∃ (s : State) (j : Nat) (x : Job) (p : KvPlan)
    (ws : List (List (Nat × Nat × Nat) × KvWrite)) (d : Dev), KvChecked s.dev j 3 kvCommit x p ws d :=
  ⟨W { created with jobs := [(1, kvJob 5 3 70 0 0 0 1)] }, 1, kvJob 5 3 70 0 0 0 1, kvChecked_of _ _ _ _ (by decide +kernel)⟩
theorem wit_SequenceOperations_3 : ∃ (s : State) (j : Nat) (x : Job) (p : KvPlan)
    (ws : List (List (Nat × Nat × Nat) × KvWrite)) (d : Dev), KvChecked s.dev j 4 kvTrim x p ws d :=
  ⟨W { committed with jobs := [(1, kvJob 5 4 10 0 0)] }, 1, kvJob 5 4 10 0 0, kvChecked_of _ _ _ _ (by decide +kernel)⟩
theorem wit_SequenceOperations_4 : ∃ (s : State) (j : Nat) (x : Job) (p : KvPlan)
    (ws : List (List (Nat × Nat × Nat) × KvWrite)) (d : Dev), KvChecked s.dev j 5 (kvPin true) x p ws d :=
  ⟨W { committed with jobs := [(1, kvJob 5 5 0 1 0)] }, 1, kvJob 5 5 0 1 0, kvChecked_of _ _ _ _ (by decide +kernel)⟩
theorem wit_SequenceOperations_5 : ∃ (s : State) (j : Nat) (x : Job) (p : KvPlan)
    (ws : List (List (Nat × Nat × Nat) × KvWrite)) (d : Dev), KvChecked s.dev j 6 (kvPin false) x p ws d :=
  ⟨W { committed with jobs := [(1, kvJob 5 6 0 1 0)] }, 1, kvJob 5 6 0 1 0, kvChecked_of _ _ _ _ (by decide +kernel)⟩
theorem wit_SequenceOperations_6 : ∃ (s : State) (j : Nat) (x : Job) (p : KvPlan)
    (ws : List (List (Nat × Nat × Nat) × KvWrite)) (d : Dev), KvChecked s.dev j 7 kvQuery x p ws d :=
  ⟨W { committed with jobs := [(1, kvJob 5 7 0 0 0 0x1030100)] }, 1, kvJob 5 7 0 0 0 0x1030100, kvChecked_of _ _ _ _ (by decide +kernel)⟩
theorem wit_SequenceOperations_7 : ∃ (s : State) (j : Nat) (x : Job) (p : KvPlan)
    (ws : List (List (Nat × Nat × Nat) × KvWrite)) (d : Dev), KvChecked s.dev j 8 kvFree x p ws d :=
  ⟨W { forked with jobs := [(1, kvJob 6 8 0 0 0)] }, 1, kvJob 6 8 0 0 0, kvChecked_of _ _ _ _ (by decide +kernel)⟩

/-! ### ScalarAndPredicate -/

theorem wit_ScalarAndPredicate_6 : ∃ (s : State) (k : TileId) (w : Tcw) (d' : Dev), Issues s.dev k.val w 8 0
    [fieldOf w 105 4, fieldOf w 101 4] d' ∧ 1 ≤ fieldOf w 109 3 ∧ fieldOf w 109 3 ≤ 6 ∧ fieldOf w 98 3 ≤ 5 ∧ onlyBits
    w.toNat [(111, 34)] = true :=
  ⟨W (tw (word 8 0 (6 * 2 ^ 109 + 5 * 2 ^ 98 + 15 * 2 ^ 105)) id), 0, word 8 0 (6 * 2 ^ 109 + 5 * 2 ^ 98 + 15 * 2 ^ 105), fetched (tw (word 8 0 (6 * 2 ^ 109 + 5 * 2 ^ 98 + 15 * 2 ^ 105)) id), issues _ _ _ _ _ (by decide +kernel), by decide +kernel⟩
theorem wit_ScalarAndPredicate_7 : ∃ (s : State) (k : TileId) (w : Tcw) (d' : Dev), Issues s.dev k.val w 8 1 [] d' ∧
    1 ≤ fieldOf w 109 3 ∧ fieldOf w 109 3 ≤ 6 ∧ onlyBits w.toNat [(111, 101)] = true :=
  ⟨W (tw (word 8 1 (2 ^ 109 + 3 * 2 ^ 101 + 7 * 2 ^ 106)) id), 0, word 8 1 (2 ^ 109 + 3 * 2 ^ 101 + 7 * 2 ^ 106), fetched (tw (word 8 1 (2 ^ 109 + 3 * 2 ^ 101 + 7 * 2 ^ 106)) id), issues _ _ _ _ _ (by decide +kernel), by decide +kernel⟩
theorem wit_ScalarAndPredicate_a : ∃ (s : State) (k : TileId) (w : Tcw) (d' : Dev), Issues s.dev k.val w 7 0x08
      [fieldOf w 108 4, fieldOf w 104 4, fieldOf w 100 4] d' ∧ fieldOf w 108 4 ≠ 0 ∧
    onlyBits w.toNat ((111, 108) :: (99, 36) :: []) = true :=
  ⟨W (tw (word 7 0x08 (15 * 2 ^ 108 + (2 ^ 64 - 1) * 2 ^ 36)) id), 0, word 7 0x08 (15 * 2 ^ 108 + (2 ^ 64 - 1) * 2 ^ 36), fetched (tw (word 7 0x08 (15 * 2 ^ 108 + (2 ^ 64 - 1) * 2 ^ 36)) id), issues _ _ _ _ _ (by decide +kernel), by decide +kernel⟩
theorem wit_ScalarAndPredicate_b : ∃ (s : State) (k : TileId) (w : Tcw) (d' : Dev), Issues s.dev k.val w 7 0x09
      [fieldOf w 108 4, fieldOf w 104 4, fieldOf w 100 4] d' ∧ fieldOf w 108 4 ≠ 0 ∧
    onlyBits w.toNat ((111, 108) :: (99, 36) :: [(107, 104), (103, 100)]) = true :=
  ⟨W (tw (word 7 0x09 (15 * 2 ^ 108 + (2 ^ 64 - 1) * 2 ^ 36 + 14 * 2 ^ 104 + 13 * 2 ^ 100)) id), 0, word 7 0x09 (15 * 2 ^ 108 + (2 ^ 64 - 1) * 2 ^ 36 + 14 * 2 ^ 104 + 13 * 2 ^ 100), fetched (tw (word 7 0x09 (15 * 2 ^ 108 + (2 ^ 64 - 1) * 2 ^ 36 + 14 * 2 ^ 104 + 13 * 2 ^ 100)) id), issues _ _ _ _ _ (by decide +kernel), by decide +kernel⟩
theorem wit_ScalarAndPredicate_c : ∃ (s : State) (k : TileId) (w : Tcw) (d' : Dev), Issues s.dev k.val w 7 0x0A
      [fieldOf w 108 4, fieldOf w 104 4, fieldOf w 100 4] d' ∧ fieldOf w 108 4 ≠ 0 ∧
    onlyBits w.toNat ((111, 108) :: (99, 36) :: [(107, 104)]) = true :=
  ⟨W (tw (word 7 0x0A (15 * 2 ^ 108 + (2 ^ 64 - 1) * 2 ^ 36 + 14 * 2 ^ 104)) id), 0, word 7 0x0A (15 * 2 ^ 108 + (2 ^ 64 - 1) * 2 ^ 36 + 14 * 2 ^ 104), fetched (tw (word 7 0x0A (15 * 2 ^ 108 + (2 ^ 64 - 1) * 2 ^ 36 + 14 * 2 ^ 104)) id), issues _ _ _ _ _ (by decide +kernel), by decide +kernel⟩
theorem wit_ScalarAndPredicate_d : ∃ (s : State) (k : TileId) (w : Tcw) (d' : Dev), Issues s.dev k.val w 7 0x0B
      [fieldOf w 108 4, fieldOf w 104 4, fieldOf w 100 4] d' ∧ fieldOf w 108 4 ≠ 0 ∧
    onlyBits w.toNat ((111, 108) :: (99, 36) :: [(107, 104)]) = true :=
  ⟨W (tw (word 7 0x0B (15 * 2 ^ 108 + (2 ^ 64 - 1) * 2 ^ 36 + 14 * 2 ^ 104)) id), 0, word 7 0x0B (15 * 2 ^ 108 + (2 ^ 64 - 1) * 2 ^ 36 + 14 * 2 ^ 104), fetched (tw (word 7 0x0B (15 * 2 ^ 108 + (2 ^ 64 - 1) * 2 ^ 36 + 14 * 2 ^ 104)) id), issues _ _ _ _ _ (by decide +kernel), by decide +kernel⟩
theorem wit_ScalarAndPredicate_e : ∃ (s : State) (k : TileId) (w : Tcw) (d' : Dev), Issues s.dev k.val w 7 0x0C
      [fieldOf w 108 4, fieldOf w 104 4, fieldOf w 100 4] d' ∧ fieldOf w 108 4 ≠ 0 ∧
    onlyBits w.toNat ((111, 108) :: (99, 36) :: [(107, 104)]) = true :=
  ⟨W (tw (word 7 0x0C (15 * 2 ^ 108 + (2 ^ 64 - 1) * 2 ^ 36 + 14 * 2 ^ 104)) id), 0, word 7 0x0C (15 * 2 ^ 108 + (2 ^ 64 - 1) * 2 ^ 36 + 14 * 2 ^ 104), fetched (tw (word 7 0x0C (15 * 2 ^ 108 + (2 ^ 64 - 1) * 2 ^ 36 + 14 * 2 ^ 104)) id), issues _ _ _ _ _ (by decide +kernel), by decide +kernel⟩
theorem wit_ScalarAndPredicate_f : ∃ (s : State) (k : TileId) (w : Tcw) (d' : Dev), Issues s.dev k.val w 7 0x0D
      [fieldOf w 108 4, fieldOf w 104 4, fieldOf w 100 4] d' ∧ fieldOf w 108 4 ≠ 0 ∧
    onlyBits w.toNat ((111, 108) :: (99, 36) :: [(107, 104)]) = true :=
  ⟨W (tw (word 7 0x0D (15 * 2 ^ 108 + (2 ^ 64 - 1) * 2 ^ 36 + 14 * 2 ^ 104)) id), 0, word 7 0x0D (15 * 2 ^ 108 + (2 ^ 64 - 1) * 2 ^ 36 + 14 * 2 ^ 104), fetched (tw (word 7 0x0D (15 * 2 ^ 108 + (2 ^ 64 - 1) * 2 ^ 36 + 14 * 2 ^ 104)) id), issues _ _ _ _ _ (by decide +kernel), by decide +kernel⟩

/-! ### LoopsAndSegments -/

theorem wit_LoopsAndSegments_0 : ∃ (s : State) (k : TileId) (w : Tcw) (d' : Dev) (n : Nat), Issues s.dev k.val w 7 0
    [fieldOf w 108 4, fieldOf w 104 4] d' ∧ fieldOf w 114 4 = 0 ∧ onlyBits w.toNat [(111, 108), (107, 104), (103, 72)] =
    true ∧ (d'.tile k.val).loops.length < 4 ∧ (n = (if fieldOf w 108 4 = 0 then fieldOf w 72 32 else (d'.tile k.val).s
    (fieldOf w 108 4))) :=
  ⟨W (tw (word 7 0 (3 * 2 ^ 104 + 5 * 2 ^ 72)) (fun y => { y with loops := List.replicate 3 ⟨0, 2, 0, 3⟩ })), 0, word 7 0 (3 * 2 ^ 104 + 5 * 2 ^ 72), fetched (tw (word 7 0 (3 * 2 ^ 104 + 5 * 2 ^ 72)) (fun y => { y with loops := List.replicate 3 ⟨0, 2, 0, 3⟩ })), 5, issues _ _ _ _ _ (by decide +kernel), by decide +kernel⟩
theorem wit_LoopsAndSegments_1 : ∃ (s : State) (k : TileId) (w : Tcw) (d' : Dev) (l : LoopLevel) (r : List LoopLevel),
    Issues s.dev k.val w 7 1 [] d' ∧ fieldOf w 114 4 = 0 ∧ onlyBits w.toNat [] = true ∧ (d'.tile k.val).loops = l :: r
    ∧ (∀ o ∈ (d'.tile k.val).out, o.holdsReg [l.idxReg] = false) :=
  ⟨W (tw (word 7 1 0) (fun y => { y with loops := [⟨0, 2, 0, 3⟩] })), 0, word 7 1 0, fetched (tw (word 7 1 0) (fun y => { y with loops := [⟨0, 2, 0, 3⟩] })), ⟨0, 2, 0, 3⟩, [], issues _ _ _ _ _ (by decide +kernel), by decide +kernel⟩
theorem wit_LoopsAndSegments_2 : ∃ (s : State) (k : TileId) (w : Tcw) (d' : Dev) (l : LoopLevel) (r : List LoopLevel),
    Issues s.dev k.val w 7 2 [] d' ∧ onlyBits w.toNat [] = true ∧ (d'.tile k.val).loops = l :: r :=
  ⟨W (tw (word 7 2 0) (fun y => { y with loops := [⟨0, 2, 0, 3⟩] })), 0, word 7 2 0, fetched (tw (word 7 2 0) (fun y => { y with loops := [⟨0, 2, 0, 3⟩] })), ⟨0, 2, 0, 3⟩, [], issues _ _ _ _ _ (by decide +kernel), by decide +kernel⟩
theorem wit_LoopsAndSegments_3 : ∃ (s : State) (k : TileId) (w : Tcw) (d' : Dev) (j : Nat) (x : Job), Issues s.dev
    k.val w 9 0 [fieldOf w 102 4] d' ∧ fieldOf w 114 4 = 0 ∧ onlyBits w.toNat [(111, 93)] = true ∧ fieldOf w 93 9 = 0
    ∧ (d'.tile k.val).out = [] ∧ (d'.tile k.val).hErr = [] ∧ (d'.tile k.val).seg + 16 < 16384 ∧ d'.tileJob k.val =
    some (j, x) :=
  ⟨W (tw (word 9 0 0) (fun y => { y with seg := 16367 })), 0, word 9 0 0, fetched (tw (word 9 0 0) (fun y => { y with seg := 16367 })), 1, { aJob with ran := true }, issues _ _ _ _ _ (by decide +kernel), by decide +kernel⟩
theorem wit_LoopsAndSegments_4 : ∃ (s : State) (k : TileId) (w : Tcw) (d' : Dev) (e : Span), Issues s.dev k.val w 9 0
    [fieldOf w 102 4] d' ∧ fieldOf w 114 4 = 0 ∧ onlyBits w.toNat [(111, 93)] = true ∧ 1 ≤ fieldOf w 93 9 ∧ fieldOf w 93 9
    ≤ 256 ∧ (d'.tile k.val).out = [] ∧ (d'.tile k.val).hErr = [] ∧ (d'.tile k.val).asErr = [] ∧ (d'.tile k.val).operand
    (fieldOf w 102 10) (64 * fieldOf w 93 9) [2] false = some e ∧ (d'.tile k.val).seg + 16 + (64 * fieldOf w 93 9 + 255) /
    256 < 16384 :=
  ⟨W (tw (word 9 0 (0x20 * 2 ^ 102 + 256 * 2 ^ 93)) id), 0, word 9 0 (0x20 * 2 ^ 102 + 256 * 2 ^ 93), fetched (tw (word 9 0 (0x20 * 2 ^ 102 + 256 * 2 ^ 93)) id), ⟨2, 0, 16384⟩, issues _ _ _ _ _ (by decide +kernel), by decide +kernel⟩
theorem wit_LoopsAndSegments_5 : ∃ (s : State) (k : TileId) (w : Tcw) (d' : Dev) (j : Nat) (x : Job), Issues s.dev
    k.val w 0xF 0 [] d' ∧ onlyBits w.toNat [] = true ∧ (d'.tile k.val).out = [] ∧ d'.tileJob k.val = some (j, x) :=
  ⟨W (tw (word 15 0 0) id), 0, word 15 0 0, fetched (tw (word 15 0 0) id), 1, aJob, issues _ _ _ _ _ (by decide +kernel), by decide +kernel⟩
theorem wit_LoopsAndSegments_6 : ∃ (s : State) (k : TileId) (w : Tcw) (d' : Dev) (j : Nat) (x : Job), Issues s.dev
    k.val w 0xF 1 [] d' ∧ onlyBits w.toNat [(111, 96)] = true ∧ d'.tileJob k.val = some (j, x) ∧ x.tenant < 64 :=
  ⟨W (tw (word 15 1 (7 * 2 ^ 96)) id), 0, word 15 1 (7 * 2 ^ 96), fetched (tw (word 15 1 (7 * 2 ^ 96)) id), 1, aJob, issues _ _ _ _ _ (by decide +kernel), by decide +kernel⟩

/-! ### MemoryCommands -/

theorem wit_MemoryCommands_3 : ∃ (s : State) (k : TileId) (w : Tcw) (d' : Dev) (a : Span), Issues s.dev k.val w 1 4
    [fieldOf w 100 4] d' ∧ onlyBits w.toNat [(111, 100), (85, 73)] = true ∧ Fresh (d'.tile k.val) ∧ 1 ≤ fieldOf w 73 7 ∧
    fieldOf w 80 6 + fieldOf w 73 7 ≤ 64 ∧ (d'.tile k.val).operand (fieldOf w 100 10) (16 * fieldOf w 73 7) [3] false =
    some a :=
  ⟨W (tw (word 1 4 (0x30 * 2 ^ 100 + 62 * 2 ^ 80 + 2 * 2 ^ 73)) id), 0, word 1 4 (0x30 * 2 ^ 100 + 62 * 2 ^ 80 + 2 * 2 ^ 73), fetched (tw (word 1 4 (0x30 * 2 ^ 100 + 62 * 2 ^ 80 + 2 * 2 ^ 73)) id), ⟨3, 0x10000, 32⟩, issues _ _ _ _ _ (by decide +kernel), by unfold Fresh; decide +kernel⟩
theorem wit_MemoryCommands_4 : ∃ (s : State) (k : TileId) (w : Tcw) (d' : Dev) (a : Span), Issues s.dev k.val w 1 5
    [fieldOf w 100 4, fieldOf w 60 4] d' ∧ onlyBits w.toNat [(111, 100), (63, 60)] = true ∧ Fresh (d'.tile k.val) ∧
    (d'.tile k.val).operand (fieldOf w 100 10) 8 [3] false = some a :=
  ⟨W (tw (word 1 5 (0x30 * 2 ^ 100 + 5 * 2 ^ 60)) id), 0, word 1 5 (0x30 * 2 ^ 100 + 5 * 2 ^ 60), fetched (tw (word 1 5 (0x30 * 2 ^ 100 + 5 * 2 ^ 60)) id), ⟨3, 0x10000, 8⟩, issues _ _ _ _ _ (by decide +kernel), by unfold Fresh; decide +kernel⟩
theorem wit_MemoryCommands_5 : ∃ (s : State) (k : TileId) (w : Tcw) (d' : Dev) (b : Span), Issues s.dev k.val w 1 6
    [fieldOf w 90 4, fieldOf w 60 4] d' ∧ onlyBits w.toNat [(111, 110), (99, 90), (63, 60)] = true ∧ Fresh (d'.tile k.val)
    ∧ (d'.tile k.val).operand (fieldOf w 90 10) 8 [3] true = some b :=
  ⟨W (tw (word 1 6 (0x30 * 2 ^ 90 + 5 * 2 ^ 60)) id), 0, word 1 6 (0x30 * 2 ^ 90 + 5 * 2 ^ 60), fetched (tw (word 1 6 (0x30 * 2 ^ 90 + 5 * 2 ^ 60)) id), ⟨3, 0x10000, 8⟩, issues _ _ _ _ _ (by decide +kernel), by unfold Fresh; decide +kernel⟩
theorem wit_MemoryCommands_6 : ∃ (s : State) (k : TileId) (w : Tcw) (d' : Dev) (q : Seq) (a b : Span) (start limit
    count : Nat) (pages : List Nat), Issues s.dev k.val w 1 3 [fieldOf w 100 4, fieldOf w 90 4, 3, fieldOf w 60 4, fieldOf
    w 56 4, fieldOf w 52 4, fieldOf w 48 4, fieldOf w 44 4] d' ∧ onlyBits w.toNat [(111, 90), (63, 42)] = true ∧ Fresh
    (d'.tile k.val) ∧ d'.seqOf (d'.tileTenant k.val) ((d'.tile k.val).s 3) = some q ∧ (d'.tile k.val).s (fieldOf w 48 4) <
    q.layers ∧ (d'.tile k.val).s (fieldOf w 44 4) < q.groups ∧ start = (d'.tile k.val).s (fieldOf w 60 4) ∧ limit =
    (d'.tile k.val).s (fieldOf w 52 4) ∧ limit ≤ q.pageCap ∧ count = (d'.tile k.val).s (fieldOf w 56 4) ∧ ((d'.tile
    k.val).operandAt (fieldOf w 100 10) (start / 8) (if limit ≤ start then 0 else (limit + 7) / 8 - start / 8) [1, 2] =
    some a) ∧ pages = ((List.range' start (limit - start)).filter (fun p => (cellAt ((d'.tile k.val).cells a.kind)
    (a.start + p / 8 - start / 8)).toNat.testBit (p % 8))).take count ∧ (d'.tile k.val).operand (fieldOf w 90 10)
    (pages.length * q.payload (w.toNat.testBit 43)) [1] true = some b :=
  ⟨W ({ tw (word 1 3 (0x10 * 2 ^ 100 + 0x19 * 2 ^ 90 + 4 * 2 ^ 60 + 5 * 2 ^ 56 + 6 * 2 ^ 52 + 7 * 2 ^ 48 + 8 * 2 ^ 44)) (fun y => { y with sregs := [(3, 5), (5, 2), (6, 4), (9, 64)], tb := [⟨0, 3⟩] }) with kv := committed.kv }), 0, word 1 3 (0x10 * 2 ^ 100 + 0x19 * 2 ^ 90 + 4 * 2 ^ 60 + 5 * 2 ^ 56 + 6 * 2 ^ 52 + 7 * 2 ^ 48 + 8 * 2 ^ 44), fetched ({ tw (word 1 3 (0x10 * 2 ^ 100 + 0x19 * 2 ^ 90 + 4 * 2 ^ 60 + 5 * 2 ^ 56 + 6 * 2 ^ 52 + 7 * 2 ^ 48 + 8 * 2 ^ 44)) (fun y => { y with sregs := [(3, 5), (5, 2), (6, 4), (9, 64)], tb := [⟨0, 3⟩] }) with kv := committed.kv }), seq5, ⟨1, 0, 1⟩, ⟨1, 64, 2 * seq5.payload false⟩, 0, 4, 2, [0, 1], issues _ _ _ _ _ (by decide +kernel), by unfold Fresh; decide +kernel⟩
theorem wit_MemoryCommands_7 : ∃ (s : State) (k : TileId) (w : Tcw) (d' : Dev), Issues s.dev k.val w 6 0 [] d' ∧
    onlyBits w.toNat [(111, 102)] = true ∧ (d'.tile k.val).out = [] :=
  ⟨W (tw (word 6 0 (255 * 2 ^ 104)) id), 0, word 6 0 (255 * 2 ^ 104), fetched (tw (word 6 0 (255 * 2 ^ 104)) id), issues _ _ _ _ _ (by decide +kernel), by decide +kernel⟩
theorem wit_MemoryCommands_8 : ∃ (s : State) (k : TileId) (w : Tcw) (d' : Dev), Issues s.dev k.val w 6 0 [] d' ∧
    onlyBits w.toNat [(111, 102)] = true ∧ (∀ o ∈ (d'.tile k.val).out, ∀ u, o.unit? = some u → u ∉ fenceUnits w.toNat) ∧
    fieldOf w 102 2 = 2 ∧ (∃ o ∈ (d'.tile k.val).out, o.readsMem = true ∨ o.writesMem = true) :=
  ⟨W (tw (word 6 0 (2 * 2 ^ 102)) (fun y => { y with out := [.op 0 0 0 (.lds 0 5) [] [] [5]], nextOp := 1 })), 0, word 6 0 (2 * 2 ^ 102), fetched (tw (word 6 0 (2 * 2 ^ 102)) (fun y => { y with out := [.op 0 0 0 (.lds 0 5) [] [] [5]], nextOp := 1 })), issues _ _ _ _ _ (by decide +kernel), by decide +kernel⟩
theorem wit_MemoryCommands_9 : ∃ (s : State) (k : TileId) (w : Tcw) (d' : Dev) (a : Span) (j : Nat) (x : Job),
    Issues s.dev k.val w 6 1 [fieldOf w 98 4, fieldOf w 102 4] d' ∧ fieldOf w 114 4 = 0 ∧ fieldOf w 96 2 ≠ 3 ∧ onlyBits
    w.toNat [(111, 96)] = true ∧ Fresh (d'.tile k.val) ∧ d'.tileJob k.val = some (j, x) ∧ (d'.tile k.val).operand (fieldOf
    w 102 10) 8 [2, 3] false = some a ∧ a.start % 8 = 0 :=
  ⟨W (tw (word 6 1 (0x30 * 2 ^ 102 + 2 * 2 ^ 96 + 5 * 2 ^ 98)) id), 0, word 6 1 (0x30 * 2 ^ 102 + 2 * 2 ^ 96 + 5 * 2 ^ 98), fetched (tw (word 6 1 (0x30 * 2 ^ 102 + 2 * 2 ^ 96 + 5 * 2 ^ 98)) id), ⟨3, 0x10000, 8⟩, 1, aJob, issues _ _ _ _ _ (by decide +kernel), by unfold Fresh; decide +kernel⟩
theorem wit_MemoryCommands_10 : ∃ (s : State) (k : TileId) (p : PollWait) (j : Nat) (x : Job) (r : ReadResult) (d :
    Dev), s.dev.serving = true ∧ (s.dev.tile k.val).poll = some p ∧ s.dev.tileJob k.val = some (j, x) ∧ (s.dev.tile
    k.val).active = true ∧ (s.dev.tile k.val).flagged = false ∧ s.dev.wantsStop x = false ∧ p.memory = true ∧
    s.dev.engRead x.tenant x.pasid p.addr 8 (s.dev.tileReq k.val 0 1) = (.data r, d) ∧ r.bad = [] ∧ pollTrue p.cmp (leNat
    r.bytes) p.value.toNat = true :=
  ⟨W ({ w0 with tiles := [(0, { aTile with poll := some ⟨true, 0x10000, 7, 0⟩ })], jobs := [(1, aJob)], stu := { rotCache := [(0, 0x4000)] }, mem := ({} : Mem).poke 0x100000 [7] }), 0, ⟨true, 0x10000, 7, 0⟩, 1, aJob, ⟨[7, 0, 0, 0, 0, 0, 0, 0], [], 0, 0⟩, (Dev.engRead ({ w0 with tiles := [(0, { aTile with poll := some ⟨true, 0x10000, 7, 0⟩ })], jobs := [(1, aJob)], stu := { rotCache := [(0, 0x4000)] }, mem := ({} : Mem).poke 0x100000 [7] }) 0 0 0x10000 8 (Dev.tileReq ({ w0 with tiles := [(0, { aTile with poll := some ⟨true, 0x10000, 7, 0⟩ })], jobs := [(1, aJob)], stu := { rotCache := [(0, 0x4000)] }, mem := ({} : Mem).poke 0x100000 [7] }) 0 0 1)).2, four (by decide +kernel) ⟨by decide +kernel, by decide +kernel, by decide +kernel, eng_is ({ w0 with tiles := [(0, { aTile with poll := some ⟨true, 0x10000, 7, 0⟩ })], jobs := [(1, aJob)], stu := { rotCache := [(0, 0x4000)] }, mem := ({} : Mem).poke 0x100000 [7] }) _ _ _ _ _ _ (by decide +kernel), by decide +kernel⟩⟩
theorem wit_MemoryCommands_11 : ∃ (s : State) (k : TileId) (p : PollWait) (j : Nat) (x : Job), s.dev.serving = true
    ∧ (s.dev.tile k.val).poll = some p ∧ s.dev.tileJob k.val = some (j, x) ∧ (s.dev.tile k.val).active = true ∧
    (s.dev.tile k.val).flagged = false ∧ s.dev.wantsStop x = false ∧ p.memory = false ∧ (s.dev.tile k.val).asErr = [] ∧
    pollTrue p.cmp (leNat (cellsRead (s.dev.tile k.val).as p.addr 8)) p.value.toNat = true :=
  ⟨W { w0 with tiles := [(0, { aTile with poll := some ⟨false, 8, 7, 0⟩, as := [⟨8, 7⟩] })], jobs := [(1, aJob)] }, 0, ⟨false, 8, 7, 0⟩, 1, aJob, by decide +kernel⟩
theorem wit_MemoryCommands_a : ∃ (s : State) (k : TileId) (w : Tcw) (d' : Dev) (n : Nat) (a b : Span), Issues s.dev k.val w 1 0
      [fieldOf w 100 4, fieldOf w 90 4, fieldOf w 86 4] d' ∧ onlyBits w.toNat [(111, 64)] = true ∧ Fresh (d'.tile k.val) ∧
    MoveLen (d'.tile k.val) w n ∧ (fieldOf w 86 4 ≠ 0 ∨ fieldOf w 64 22 ≠ 0) ∧
    (d'.tile k.val).operand (fieldOf w 100 10) n [3] false = some a ∧
    (d'.tile k.val).operand (fieldOf w 90 10) n [1, 2] true = some b :=
  ⟨W (tw (word 1 0 (3 * 2 ^ 110 + 0x30 * 2 ^ 100 + 0x10 * 2 ^ 90 + 64 * 2 ^ 64)) id), 0, word 1 0 (3 * 2 ^ 110 + 0x30 * 2 ^ 100 + 0x10 * 2 ^ 90 + 64 * 2 ^ 64), fetched (tw (word 1 0 (3 * 2 ^ 110 + 0x30 * 2 ^ 100 + 0x10 * 2 ^ 90 + 64 * 2 ^ 64)) id), 64, ⟨3, 0x10000, 64⟩, ⟨1, 0, 64⟩, issues _ _ _ _ _ (by decide +kernel), by unfold Fresh MoveLen; decide +kernel⟩
theorem wit_MemoryCommands_b : ∃ (s : State) (k : TileId) (w : Tcw) (d' : Dev) (n : Nat) (a b : Span), Issues s.dev k.val w 1 1
      [fieldOf w 100 4, fieldOf w 90 4, fieldOf w 86 4] d' ∧ onlyBits w.toNat [(111, 64)] = true ∧ Fresh (d'.tile k.val) ∧
    MoveLen (d'.tile k.val) w n ∧ (fieldOf w 86 4 ≠ 0 ∨ fieldOf w 64 22 ≠ 0) ∧
    (d'.tile k.val).operand (fieldOf w 100 10) n [1, 2] false = some a ∧
    (d'.tile k.val).operand (fieldOf w 90 10) n [3] true = some b :=
  ⟨W (tw (word 1 1 (3 * 2 ^ 110 + 0x10 * 2 ^ 100 + 0x30 * 2 ^ 90 + 64 * 2 ^ 64)) id), 0, word 1 1 (3 * 2 ^ 110 + 0x10 * 2 ^ 100 + 0x30 * 2 ^ 90 + 64 * 2 ^ 64), fetched (tw (word 1 1 (3 * 2 ^ 110 + 0x10 * 2 ^ 100 + 0x30 * 2 ^ 90 + 64 * 2 ^ 64)) id), 64, ⟨1, 0, 64⟩, ⟨3, 0x10000, 64⟩, issues _ _ _ _ _ (by decide +kernel), by unfold Fresh MoveLen; decide +kernel⟩
theorem wit_MemoryCommands_c : ∃ (s : State) (k : TileId) (w : Tcw) (d' : Dev) (n : Nat) (a b : Span), Issues s.dev k.val w 1 2
      [fieldOf w 100 4, fieldOf w 90 4, fieldOf w 86 4] d' ∧ onlyBits w.toNat [(111, 64)] = true ∧ Fresh (d'.tile k.val) ∧
    MoveLen (d'.tile k.val) w n ∧ (fieldOf w 86 4 ≠ 0 ∨ fieldOf w 64 22 ≠ 0) ∧
    (d'.tile k.val).operand (fieldOf w 100 10) n [1, 2] false = some a ∧
    (d'.tile k.val).operand (fieldOf w 90 10) n [1, 2] true = some b :=
  ⟨W (tw (word 1 2 (3 * 2 ^ 110 + 0x10 * 2 ^ 100 + 0x20 * 2 ^ 90 + 64 * 2 ^ 64)) id), 0, word 1 2 (3 * 2 ^ 110 + 0x10 * 2 ^ 100 + 0x20 * 2 ^ 90 + 64 * 2 ^ 64), fetched (tw (word 1 2 (3 * 2 ^ 110 + 0x10 * 2 ^ 100 + 0x20 * 2 ^ 90 + 64 * 2 ^ 64)) id), 64, ⟨1, 0, 64⟩, ⟨2, 0, 64⟩, issues _ _ _ _ _ (by decide +kernel), by unfold Fresh MoveLen; decide +kernel⟩

/-! ### Completions -/

theorem wit_Completions_0 : ∃ (s : State) (k : TileId) (i u pos n j va : Nat) (x : Job) (e : Span) (r : ReadResult) (d
    : Dev), Outstanding s.dev k i u pos (.load va e) j x ∧ (e.kind = 1 ∨ e.kind = 2) ∧ s.dev.engRead x.tenant x.pasid va
    e.len (queueReq s.dev k u i) = (.data r, d) ∧ r.bad = [] ∧ r.bytes.length = e.len ∧ (d.tile k.val).tbErr = [] ∧
    (d.tile k.val).asErr = [] ∧ (d.tile k.val).tbArm = [] ∧ (d.tile k.val).asArm = [] :=
  ⟨W (outDev (.load 0x10000 ⟨1, 0, 8⟩)), 0, 9, 3, 4, 0, 1, 0x10000, aJob, ⟨1, 0, 8⟩, ⟨[7, 0, 0, 0, 0, 0, 0, 0], [], 0, 0⟩, (Dev.engRead (outDev (.load 0x10000 ⟨1, 0, 8⟩)) 0 0 0x10000 8 (queueReq (outDev (.load 0x10000 ⟨1, 0, 8⟩)) 0 3 9)).2, outDev_is _ _ (by decide +kernel) (by decide +kernel), by decide +kernel, eng_is (outDev (.load 0x10000 ⟨1, 0, 8⟩)) _ _ _ _ _ _ (by decide +kernel), by decide +kernel⟩
theorem wit_Completions_1 : ∃ (s : State) (k : TileId) (i u pos n j va : Nat) (x : Job) (e : Span) (ps : List (Nat ×
    Nat × Nat)) (d d1 : Dev), Outstanding s.dev k i u pos (.store va e) j x ∧ (e.kind = 1 ∨ e.kind = 2) ∧
    s.dev.translateSpan x.tenant x.pasid va e.len 1 (queueReq s.dev k u i) = (some ps, d) ∧ d.ownOkAll x.tenant ps true =
    (true, d1) ∧ Clean d1.mem ∧ (d1.tile k.val).tbErr = [] ∧ (d1.tile k.val).asErr = [] :=
  ⟨W (outDev (.store 0x10000 ⟨1, 0, 8⟩)), 0, 9, 3, 4, 0, 1, 0x10000, aJob, ⟨1, 0, 8⟩, [(0x100000, 0, 8)], (Dev.translateSpan (outDev (.store 0x10000 ⟨1, 0, 8⟩)) 0 0 0x10000 8 1 (queueReq (outDev (.store 0x10000 ⟨1, 0, 8⟩)) 0 3 9)).2, ((Dev.translateSpan (outDev (.store 0x10000 ⟨1, 0, 8⟩)) 0 0 0x10000 8 1 (queueReq (outDev (.store 0x10000 ⟨1, 0, 8⟩)) 0 3 9)).2.ownOkAll 0 [(0x100000, 0, 8)] true).2, outDev_is _ _ (by decide +kernel) (by decide +kernel), by decide +kernel, span_is (outDev (.store 0x10000 ⟨1, 0, 8⟩)) _ _ _ _ _ _ _ (by decide +kernel), own_is _ _ _ _ (by decide +kernel), by unfold Clean; decide +kernel⟩
theorem wit_Completions_2 : ∃ (s : State) (k : TileId) (i u pos n j : Nat) (x : Job) (a e : Span), Outstanding s.dev k
    i u pos (.copy a e) j x ∧ (a.kind = 1 ∨ a.kind = 2) ∧ (e.kind = 1 ∨ e.kind = 2) ∧ a.len = e.len ∧ (s.dev.tile
    k.val).tbErr = [] ∧ (s.dev.tile k.val).asErr = [] ∧ (s.dev.tile k.val).tbArm = [] ∧ (s.dev.tile k.val).asArm = [] :=
  ⟨W (outDev (.copy ⟨1, 0, 8⟩ ⟨2, 4, 8⟩)), 0, 9, 3, 4, 0, 1, aJob, ⟨1, 0, 8⟩, ⟨2, 4, 8⟩, outDev_is _ _ (by decide +kernel) (by decide +kernel), by decide +kernel⟩
theorem wit_Completions_3 : ∃ (s : State) (k : TileId) (i u pos n j va reg : Nat) (x : Job) (r : ReadResult) (d :
    Dev), Outstanding s.dev k i u pos (.lds va reg) j x ∧ s.dev.engRead x.tenant x.pasid va 8 (queueReq s.dev k u i) =
    (.data r, d) ∧ r.bad = [] :=
  ⟨W (outDev (.lds 0x10000 5)), 0, 9, 3, 4, 0, 1, 0x10000, 5, aJob, ⟨[7, 0, 0, 0, 0, 0, 0, 0], [], 0, 0⟩, (Dev.engRead (outDev (.lds 0x10000 5)) 0 0 0x10000 8 (queueReq (outDev (.lds 0x10000 5)) 0 3 9)).2, outDev_is _ _ (by decide +kernel) (by decide +kernel), eng_is (outDev (.lds 0x10000 5)) _ _ _ _ _ _ (by decide +kernel), by decide +kernel⟩
theorem wit_Completions_4 : ∃ (s : State) (k : TileId) (i u pos n j va : Nat) (v : Qword) (x : Job) (r : ReadResult)
    (d : Dev), Outstanding s.dev k i u pos (.setflag va v) j x ∧ s.dev.engWrite x.tenant x.pasid va (leBytes v.toNat 8)
    (queueReq s.dev k u i) = (.data r, d) :=
  ⟨W (outDev (.setflag 0x10000 5)), 0, 9, 3, 4, 0, 1, 0x10000, 5, aJob, ⟨[], [], 0, 0⟩, (Dev.engWrite (outDev (.setflag 0x10000 5)) 0 0 0x10000 (leBytes 5 8) (queueReq (outDev (.setflag 0x10000 5)) 0 3 9)).2, outDev_is _ _ (by decide +kernel) (by decide +kernel), engw_is (outDev (.setflag 0x10000 5)) _ _ _ _ _ _ (by decide +kernel)⟩
theorem wit_Completions_5 : ∃ (s : State) (k : TileId) (i u pos n j va first count : Nat) (x : Job) (r : ReadResult)
    (d : Dev), Outstanding s.dev k i u pos (.hload va first count) j x ∧ s.dev.engRead x.tenant x.pasid va (16 * count)
    (queueReq s.dev k u i) = (.data r, d) ∧ r.bad = [] ∧ (∀ m < count, (handleOf (leNat r.bytes / 2 ^ (128 * m) % 2 ^
    128)).isSome = true) :=
  ⟨W (outDev (.hload 0x10010 63 1)), 0, 9, 3, 4, 0, 1, 0x10010, 63, 1, aJob, ⟨List.replicate 16 0, [], 0, 0⟩, (Dev.engRead (outDev (.hload 0x10010 63 1)) 0 0 0x10010 16 (queueReq (outDev (.hload 0x10010 63 1)) 0 3 9)).2, outDev_is _ _ (by decide +kernel) (by decide +kernel), eng_is (outDev (.hload 0x10010 63 1)) _ _ _ _ _ _ (by decide +kernel), by decide +kernel⟩
theorem wit_Completions_6 : ∃ (s : State) (k : TileId) (i u pos n j seq layer group creg sreg next : Nat) (v : Bool)
    (e : Span) (x : Job) (q : Seq), Outstanding s.dev k i u pos (.gather seq layer group v [] e creg sreg next) j x ∧
    e.len = 0 ∧ s.dev.seqOf x.tenant seq = some q :=
  ⟨W (gatherDev (.gather 5 0 0 false [] ⟨1, 0, 0⟩ 5 6 1)), 0, 9, 3, 4, 0, 1, 5, 0, 0, 5, 6, 1, false, ⟨1, 0, 0⟩, aJob, seq5, outDev_is _ _ (by decide +kernel) (by decide +kernel), by decide +kernel⟩
theorem wit_Completions_7 : ∃ (s : State) (k : TileId) (i u pos n j seq layer group p creg : Nat) (e : Span) (x : Job) (q : Seq)
    (r1 r2 : ReadResult) (d1 d2 : Dev), Outstanding s.dev k i u pos (.gather seq layer group false [p] e creg 0 0) j x ∧
    e.kind = 1 ∧ s.dev.seqOf x.tenant seq = some q ∧
    s.dev.engRead x.tenant (s.dev.obj 0x6010 0 x.tenant) (q.descVa layer group p) 16 (queueReq s.dev k u i) = (.data r1, d1) ∧
    r1.bad = [] ∧ (descOf (leNat r1.bytes)).st ≠ 0 ∧ d1.tileJob k.val = some (j, x) ∧
    d1.engRead x.tenant (s.dev.obj 0x6010 0 x.tenant) (descOf (leNat r1.bytes)).key (q.payload false) (queueReq d1 k u i) =
      (.data r2, d2) ∧ r2.bad = [] ∧ r2.bytes.length = e.len ∧ (d2.tile k.val).tbErr = [] ∧ (d2.tile k.val).tbArm = [] :=
  ⟨W gatherOne, 0, 9, 3, 4, 0, 1, 5, 0, 0, 0, 5, ⟨1, 0, 2048⟩, aJob, seqS, got gatherDesc.1, got gatherData.1, gatherDesc.2,
    gatherData.2, outDev_is _ _ (by decide +kernel) (by decide +kernel), by decide +kernel, by decide +kernel,
    pair_is _ _ (by decide +kernel), by decide +kernel, by decide +kernel, by decide +kernel, pair_is _ _ (by decide +kernel),
    by decide +kernel⟩

/-! ### VectorUnit -/

theorem wit_VectorUnit_9 : ∃ (s : State) (k : TileId) (w : Tcw) (d' : Dev) (n row : Nat) (a e : Span), Issues s.dev
    k.val w 3 0x08 (vecRegsOf w) d' ∧ onlyBits w.toNat [(111, 28)] = true ∧ finOf w ≤ 0xA ∧ foutOf w ≤ 0xA ∧ Fresh
    (d'.tile k.val) ∧ VecLen (d'.tile k.val) w n ∧ (row = (if fieldOf w 32 16 = 0 then n else fieldOf w 32 16)) ∧ n % row
    = 0 ∧ countOk (finOf w) n = true ∧ countOk (foutOf w) (n / row) = true ∧ (d'.tile k.val).operand (fieldOf w 102 10)
    (packedBytes (finOf w) n) [1, 2] false = some a ∧ (d'.tile k.val).operand (fieldOf w 82 10) (packedBytes (foutOf w) (n
    / row)) [1, 2] true = some e :=
  ⟨W (tw (word 3 8 (0x10 * 2 ^ 102 + 0x20 * 2 ^ 82 + 4 * 2 ^ 48 + 2 * 2 ^ 32)) id), 0, word 3 8 (0x10 * 2 ^ 102 + 0x20 * 2 ^ 82 + 4 * 2 ^ 48 + 2 * 2 ^ 32), fetched (tw (word 3 8 (0x10 * 2 ^ 102 + 0x20 * 2 ^ 82 + 4 * 2 ^ 48 + 2 * 2 ^ 32)) id), 4, 2, ⟨1, 0, 16⟩, ⟨2, 0, 8⟩, issues _ _ _ _ _ (by decide +kernel), by unfold Fresh VecLen; decide +kernel⟩
theorem wit_VectorUnit_a : ∃ (s : State) (k : TileId) (w : Tcw) (d' : Dev) (n : Nat) (a b e : Span), Issues s.dev k.val w 3 0x00 (vecRegsOf w) d' ∧ onlyBits w.toNat [(111, 28)] = true ∧
    finOf w ≤ 0xA ∧ foutOf w ≤ 0xA ∧ Fresh (d'.tile k.val) ∧ VecLen (d'.tile k.val) w n ∧ countOk (finOf w) n = true ∧
    countOk (foutOf w) n = true ∧ (d'.tile k.val).operand (fieldOf w 102 10) (packedBytes (finOf w) n) [1, 2] false = some a ∧
    (false = true → (d'.tile k.val).operand (fieldOf w 92 10) (packedBytes (finOf w) n) [1, 2] false = some b) ∧
    (d'.tile k.val).operand (fieldOf w 82 10) (packedBytes (foutOf w) n) [1, 2] true = some e :=
  ⟨W (tw (word 3 0x00 (0x10 * 2 ^ 102 + 0x20 * 2 ^ 82 + 10 * 2 ^ 74 + 4 * 2 ^ 48)) id), 0, word 3 0x00 (0x10 * 2 ^ 102 + 0x20 * 2 ^ 82 + 10 * 2 ^ 74 + 4 * 2 ^ 48), fetched (tw (word 3 0x00 (0x10 * 2 ^ 102 + 0x20 * 2 ^ 82 + 10 * 2 ^ 74 + 4 * 2 ^ 48)) id), 4, ⟨1, 0, 16⟩, ⟨1, 0, 16⟩, ⟨2, 0, 16⟩, issues _ _ _ _ _ (by decide +kernel), by unfold Fresh VecLen; decide +kernel⟩
theorem wit_VectorUnit_b : ∃ (s : State) (k : TileId) (w : Tcw) (d' : Dev) (n : Nat) (a b e : Span), Issues s.dev k.val w 3 0x01 (vecRegsOf w) d' ∧ onlyBits w.toNat [(111, 28)] = true ∧
    finOf w ≤ 0xA ∧ foutOf w ≤ 0xA ∧ Fresh (d'.tile k.val) ∧ VecLen (d'.tile k.val) w n ∧ countOk (finOf w) n = true ∧
    countOk (foutOf w) n = true ∧ (d'.tile k.val).operand (fieldOf w 102 10) (packedBytes (finOf w) n) [1, 2] false = some a ∧
    (true = true → (d'.tile k.val).operand (fieldOf w 92 10) (packedBytes (finOf w) n) [1, 2] false = some b) ∧
    (d'.tile k.val).operand (fieldOf w 82 10) (packedBytes (foutOf w) n) [1, 2] true = some e :=
  ⟨W (tw (word 3 0x01 (0x10 * 2 ^ 102 + 0x10 * 2 ^ 92 + 0x20 * 2 ^ 82 + 10 * 2 ^ 74 + 4 * 2 ^ 48)) id), 0, word 3 0x01 (0x10 * 2 ^ 102 + 0x10 * 2 ^ 92 + 0x20 * 2 ^ 82 + 10 * 2 ^ 74 + 4 * 2 ^ 48), fetched (tw (word 3 0x01 (0x10 * 2 ^ 102 + 0x10 * 2 ^ 92 + 0x20 * 2 ^ 82 + 10 * 2 ^ 74 + 4 * 2 ^ 48)) id), 4, ⟨1, 0, 16⟩, ⟨1, 0, 16⟩, ⟨2, 0, 16⟩, issues _ _ _ _ _ (by decide +kernel), by unfold Fresh VecLen; decide +kernel⟩
theorem wit_VectorUnit_c : ∃ (s : State) (k : TileId) (w : Tcw) (d' : Dev) (n : Nat) (a b e : Span), Issues s.dev k.val w 3 0x02 (vecRegsOf w) d' ∧ onlyBits w.toNat [(111, 28)] = true ∧
    finOf w ≤ 0xA ∧ foutOf w ≤ 0xA ∧ Fresh (d'.tile k.val) ∧ VecLen (d'.tile k.val) w n ∧ countOk (finOf w) n = true ∧
    countOk (foutOf w) n = true ∧ (d'.tile k.val).operand (fieldOf w 102 10) (packedBytes (finOf w) n) [1, 2] false = some a ∧
    (true = true → (d'.tile k.val).operand (fieldOf w 92 10) (packedBytes (finOf w) n) [1, 2] false = some b) ∧
    (d'.tile k.val).operand (fieldOf w 82 10) (packedBytes (foutOf w) n) [1, 2] true = some e :=
  ⟨W (tw (word 3 0x02 (0x10 * 2 ^ 102 + 0x10 * 2 ^ 92 + 0x20 * 2 ^ 82 + 10 * 2 ^ 74 + 4 * 2 ^ 48)) id), 0, word 3 0x02 (0x10 * 2 ^ 102 + 0x10 * 2 ^ 92 + 0x20 * 2 ^ 82 + 10 * 2 ^ 74 + 4 * 2 ^ 48), fetched (tw (word 3 0x02 (0x10 * 2 ^ 102 + 0x10 * 2 ^ 92 + 0x20 * 2 ^ 82 + 10 * 2 ^ 74 + 4 * 2 ^ 48)) id), 4, ⟨1, 0, 16⟩, ⟨1, 0, 16⟩, ⟨2, 0, 16⟩, issues _ _ _ _ _ (by decide +kernel), by unfold Fresh VecLen; decide +kernel⟩
theorem wit_VectorUnit_d : ∃ (s : State) (k : TileId) (w : Tcw) (d' : Dev) (n : Nat) (a b e : Span), Issues s.dev k.val w 3 0x03 (vecRegsOf w) d' ∧ onlyBits w.toNat [(111, 28)] = true ∧
    finOf w ≤ 0xA ∧ foutOf w ≤ 0xA ∧ Fresh (d'.tile k.val) ∧ VecLen (d'.tile k.val) w n ∧ countOk (finOf w) n = true ∧
    countOk (foutOf w) n = true ∧ (d'.tile k.val).operand (fieldOf w 102 10) (packedBytes (finOf w) n) [1, 2] false = some a ∧
    (true = true → (d'.tile k.val).operand (fieldOf w 92 10) (packedBytes (finOf w) n) [1, 2] false = some b) ∧
    (d'.tile k.val).operand (fieldOf w 82 10) (packedBytes (foutOf w) n) [1, 2] true = some e :=
  ⟨W (tw (word 3 0x03 (0x10 * 2 ^ 102 + 0x10 * 2 ^ 92 + 0x20 * 2 ^ 82 + 10 * 2 ^ 74 + 4 * 2 ^ 48)) id), 0, word 3 0x03 (0x10 * 2 ^ 102 + 0x10 * 2 ^ 92 + 0x20 * 2 ^ 82 + 10 * 2 ^ 74 + 4 * 2 ^ 48), fetched (tw (word 3 0x03 (0x10 * 2 ^ 102 + 0x10 * 2 ^ 92 + 0x20 * 2 ^ 82 + 10 * 2 ^ 74 + 4 * 2 ^ 48)) id), 4, ⟨1, 0, 16⟩, ⟨1, 0, 16⟩, ⟨2, 0, 16⟩, issues _ _ _ _ _ (by decide +kernel), by unfold Fresh VecLen; decide +kernel⟩
theorem wit_VectorUnit_e : ∃ (s : State) (k : TileId) (w : Tcw) (d' : Dev) (n : Nat) (a b e : Span), Issues s.dev k.val w 3 0x04 (vecRegsOf w) d' ∧ onlyBits w.toNat [(111, 28)] = true ∧
    finOf w ≤ 0xA ∧ foutOf w ≤ 0xA ∧ Fresh (d'.tile k.val) ∧ VecLen (d'.tile k.val) w n ∧ countOk (finOf w) n = true ∧
    countOk (foutOf w) n = true ∧ (d'.tile k.val).operand (fieldOf w 102 10) (packedBytes (finOf w) n) [1, 2] false = some a ∧
    (true = true → (d'.tile k.val).operand (fieldOf w 92 10) (packedBytes (finOf w) n) [1, 2] false = some b) ∧
    (d'.tile k.val).operand (fieldOf w 82 10) (packedBytes (foutOf w) n) [1, 2] true = some e :=
  ⟨W (tw (word 3 0x04 (0x10 * 2 ^ 102 + 0x10 * 2 ^ 92 + 0x20 * 2 ^ 82 + 10 * 2 ^ 74 + 4 * 2 ^ 48)) id), 0, word 3 0x04 (0x10 * 2 ^ 102 + 0x10 * 2 ^ 92 + 0x20 * 2 ^ 82 + 10 * 2 ^ 74 + 4 * 2 ^ 48), fetched (tw (word 3 0x04 (0x10 * 2 ^ 102 + 0x10 * 2 ^ 92 + 0x20 * 2 ^ 82 + 10 * 2 ^ 74 + 4 * 2 ^ 48)) id), 4, ⟨1, 0, 16⟩, ⟨1, 0, 16⟩, ⟨2, 0, 16⟩, issues _ _ _ _ _ (by decide +kernel), by unfold Fresh VecLen; decide +kernel⟩
theorem wit_VectorUnit_f : ∃ (s : State) (k : TileId) (w : Tcw) (d' : Dev) (n : Nat) (a b e : Span), Issues s.dev k.val w 3 0x05 (vecRegsOf w) d' ∧ onlyBits w.toNat [(111, 28)] = true ∧
    finOf w ≤ 0xA ∧ foutOf w ≤ 0xA ∧ Fresh (d'.tile k.val) ∧ VecLen (d'.tile k.val) w n ∧ countOk (finOf w) n = true ∧
    countOk (foutOf w) n = true ∧ (d'.tile k.val).operand (fieldOf w 102 10) (packedBytes (finOf w) n) [1, 2] false = some a ∧
    (true = true → (d'.tile k.val).operand (fieldOf w 92 10) (packedBytes (finOf w) n) [1, 2] false = some b) ∧
    (d'.tile k.val).operand (fieldOf w 82 10) (packedBytes (foutOf w) n) [1, 2] true = some e :=
  ⟨W (tw (word 3 0x05 (0x10 * 2 ^ 102 + 0x10 * 2 ^ 92 + 0x20 * 2 ^ 82 + 10 * 2 ^ 74 + 4 * 2 ^ 48)) id), 0, word 3 0x05 (0x10 * 2 ^ 102 + 0x10 * 2 ^ 92 + 0x20 * 2 ^ 82 + 10 * 2 ^ 74 + 4 * 2 ^ 48), fetched (tw (word 3 0x05 (0x10 * 2 ^ 102 + 0x10 * 2 ^ 92 + 0x20 * 2 ^ 82 + 10 * 2 ^ 74 + 4 * 2 ^ 48)) id), 4, ⟨1, 0, 16⟩, ⟨1, 0, 16⟩, ⟨2, 0, 16⟩, issues _ _ _ _ _ (by decide +kernel), by unfold Fresh VecLen; decide +kernel⟩
theorem wit_VectorUnit_g : ∃ (s : State) (k : TileId) (w : Tcw) (d' : Dev) (n : Nat) (a b e : Span), Issues s.dev k.val w 3 0x06 (vecRegsOf w) d' ∧ onlyBits w.toNat [(111, 28)] = true ∧
    finOf w ≤ 0xA ∧ foutOf w ≤ 0xA ∧ Fresh (d'.tile k.val) ∧ VecLen (d'.tile k.val) w n ∧ countOk (finOf w) n = true ∧
    countOk (foutOf w) n = true ∧ (d'.tile k.val).operand (fieldOf w 102 10) (packedBytes (finOf w) n) [1, 2] false = some a ∧
    (true = true → (d'.tile k.val).operand (fieldOf w 92 10) (packedBytes (finOf w) n) [1, 2] false = some b) ∧
    (d'.tile k.val).operand (fieldOf w 82 10) (packedBytes (foutOf w) n) [1, 2] true = some e :=
  ⟨W (tw (word 3 0x06 (0x10 * 2 ^ 102 + 0x10 * 2 ^ 92 + 0x20 * 2 ^ 82 + 10 * 2 ^ 74 + 4 * 2 ^ 48)) id), 0, word 3 0x06 (0x10 * 2 ^ 102 + 0x10 * 2 ^ 92 + 0x20 * 2 ^ 82 + 10 * 2 ^ 74 + 4 * 2 ^ 48), fetched (tw (word 3 0x06 (0x10 * 2 ^ 102 + 0x10 * 2 ^ 92 + 0x20 * 2 ^ 82 + 10 * 2 ^ 74 + 4 * 2 ^ 48)) id), 4, ⟨1, 0, 16⟩, ⟨1, 0, 16⟩, ⟨2, 0, 16⟩, issues _ _ _ _ _ (by decide +kernel), by unfold Fresh VecLen; decide +kernel⟩
theorem wit_VectorUnit_h : ∃ (s : State) (k : TileId) (w : Tcw) (d' : Dev) (n : Nat) (a b e : Span), Issues s.dev k.val w 3 0x07 (vecRegsOf w) d' ∧ onlyBits w.toNat [(111, 28)] = true ∧
    finOf w ≤ 0xA ∧ foutOf w ≤ 0xA ∧ Fresh (d'.tile k.val) ∧ VecLen (d'.tile k.val) w n ∧ countOk (finOf w) n = true ∧
    countOk (foutOf w) n = true ∧ (d'.tile k.val).operand (fieldOf w 102 10) (packedBytes (finOf w) n) [1, 2] false = some a ∧
    (false = true → (d'.tile k.val).operand (fieldOf w 92 10) (packedBytes (finOf w) n) [1, 2] false = some b) ∧
    (d'.tile k.val).operand (fieldOf w 82 10) (packedBytes (foutOf w) n) [1, 2] true = some e :=
  ⟨W (tw (word 3 0x07 (0x10 * 2 ^ 102 + 0x20 * 2 ^ 82 + 10 * 2 ^ 74 + 4 * 2 ^ 48)) id), 0, word 3 0x07 (0x10 * 2 ^ 102 + 0x20 * 2 ^ 82 + 10 * 2 ^ 74 + 4 * 2 ^ 48), fetched (tw (word 3 0x07 (0x10 * 2 ^ 102 + 0x20 * 2 ^ 82 + 10 * 2 ^ 74 + 4 * 2 ^ 48)) id), 4, ⟨1, 0, 16⟩, ⟨1, 0, 16⟩, ⟨2, 0, 16⟩, issues _ _ _ _ _ (by decide +kernel), by unfold Fresh VecLen; decide +kernel⟩
theorem wit_VectorUnit_i : ∃ (s : State) (k : TileId) (w : Tcw) (d' : Dev) (n : Nat) (a b e : Span), Issues s.dev k.val w 3 0x09 (vecRegsOf w) d' ∧ onlyBits w.toNat [(111, 28)] = true ∧
    finOf w ≤ 0xA ∧ foutOf w ≤ 0xA ∧ Fresh (d'.tile k.val) ∧ VecLen (d'.tile k.val) w n ∧ countOk (finOf w) n = true ∧
    countOk (foutOf w) n = true ∧ (d'.tile k.val).operand (fieldOf w 102 10) (packedBytes (finOf w) n) [1, 2] false = some a ∧
    (false = true → (d'.tile k.val).operand (fieldOf w 92 10) (packedBytes (finOf w) n) [1, 2] false = some b) ∧
    (d'.tile k.val).operand (fieldOf w 82 10) (packedBytes (foutOf w) n) [1, 2] true = some e :=
  ⟨W (tw (word 3 0x09 (0x10 * 2 ^ 102 + 0x20 * 2 ^ 82 + 10 * 2 ^ 74 + 4 * 2 ^ 48)) id), 0, word 3 0x09 (0x10 * 2 ^ 102 + 0x20 * 2 ^ 82 + 10 * 2 ^ 74 + 4 * 2 ^ 48), fetched (tw (word 3 0x09 (0x10 * 2 ^ 102 + 0x20 * 2 ^ 82 + 10 * 2 ^ 74 + 4 * 2 ^ 48)) id), 4, ⟨1, 0, 16⟩, ⟨1, 0, 16⟩, ⟨2, 0, 16⟩, issues _ _ _ _ _ (by decide +kernel), by unfold Fresh VecLen; decide +kernel⟩

/-! ### MatrixUnit -/

theorem wit_MatrixUnit_0 : ∃ (s : State) (k : TileId) (w : Tcw) (d' : Dev) (o : MmaOp) (a b e sa sb : Span), Issues
    s.dev k.val w 2 0 [fieldOf w 102 4, fieldOf w 92 4, fieldOf w 82 4] d' ∧ onlyBits w.toNat [(111, 36)] = true ∧ o =
    mmaOf w.toNat ∧ o.legal = true ∧ Fresh (d'.tile k.val) ∧ (d'.tile k.val).operand (fieldOf w 102 10) (packedBytes
    o.fmtA (o.m * o.k)) [1, 2] false = some a ∧ (d'.tile k.val).operand (fieldOf w 92 10) (packedBytes o.fmtB (o.n * o.k))
    [1, 2] false = some b ∧ (d'.tile k.val).operand (fieldOf w 82 10) (o.m * o.n * outBytes o.outf) [1, 2] true = some e ∧
    (sa = ⟨a.kind, roundUp (a.start + a.len) 64, if o.mxA then o.m * (o.k / 32) else 0⟩) ∧ (sb = ⟨b.kind, roundUp (b.start
    + b.len) 64, if o.mxB then o.n * (o.k / 32) else 0⟩) ∧ (o.mxA = true → (d'.tile k.val).operand (fieldOf w 102 10)
    (sa.start + sa.len - a.start) [1, 2] false ≠ none) ∧ (o.mxB = true → (d'.tile k.val).operand (fieldOf w 92 10)
    (sb.start + sb.len - b.start) [1, 2] false ≠ none) :=
  ⟨W (tw (word 2 0 (0x10 * 2 ^ 102 + 0x10 * 2 ^ 92 + 0x20 * 2 ^ 82 + 3 * 2 ^ 78 + 3 * 2 ^ 74 + 3 * 2 ^ 72 + 31 * 2 ^ 40)) id), 0, word 2 0 (0x10 * 2 ^ 102 + 0x10 * 2 ^ 92 + 0x20 * 2 ^ 82 + 3 * 2 ^ 78 + 3 * 2 ^ 74 + 3 * 2 ^ 72 + 31 * 2 ^ 40), fetched (tw (word 2 0 (0x10 * 2 ^ 102 + 0x10 * 2 ^ 92 + 0x20 * 2 ^ 82 + 3 * 2 ^ 78 + 3 * 2 ^ 74 + 3 * 2 ^ 72 + 31 * 2 ^ 40)) id), mmaOf (word 2 0 (0x10 * 2 ^ 102 + 0x10 * 2 ^ 92 + 0x20 * 2 ^ 82 + 3 * 2 ^ 78 + 3 * 2 ^ 74 + 3 * 2 ^ 72 + 31 * 2 ^ 40)).toNat, ⟨1, 0, 32⟩, ⟨1, 0, 32⟩, ⟨2, 0, 4⟩, ⟨1, 64, 1⟩, ⟨1, 64, 1⟩, issues _ _ _ _ _ (by decide +kernel), by unfold Fresh; decide +kernel⟩
theorem wit_MatrixUnit_1 : ∃ (o : MmaOp) (x : MmaIn) (wa wb m n : Nat), o.mxA = false ∧ o.mxB = false ∧ 1 ≤ wa ∧ wa ≤
    8 ∧ 1 ≤ wb ∧ wb ≤ 8 ∧ o.k ≤ 65536 :=
  ⟨mmaOf 0, ⟨[], [], [], [], []⟩, 8, 1, 0, 0, by decide +kernel⟩

/-! ### Partials -/

theorem wit_Partials_1 : ∃ (s : State) (k : TileId) (w : Tcw) (d' : Dev) (n row : Nat) (a b e : Span), Issues s.dev
    k.val w 3 0x0A (vecRegsOf w) d' ∧ onlyBits w.toNat [(111, 26)] = true ∧ finOf w = 0 ∧ foutOf w = 0 ∧ fieldOf w 26 2 =
    0 ∧ row = fieldOf w 32 16 ∧ row ≠ 0 ∧ Fresh (d'.tile k.val) ∧ VecLen (d'.tile k.val) w n ∧ n % row = 0 ∧ n % 2 = 0 ∧
    (d'.tile k.val).operand (fieldOf w 102 10) (4 * n + 8 * (n / row)) [1, 2] false = some a ∧ (d'.tile k.val).operand
    (fieldOf w 92 10) (4 * n + 8 * (n / row)) [1, 2] false = some b ∧ (d'.tile k.val).operand (fieldOf w 82 10) (4 * n + 8
    * (n / row)) [1, 2] true = some e :=
  ⟨W (tw (word 3 0x0A (0x10 * 2 ^ 102 + 0x10 * 2 ^ 92 + 0x20 * 2 ^ 82 + 4 * 2 ^ 48 + 2 * 2 ^ 32)) id), 0, word 3 0x0A (0x10 * 2 ^ 102 + 0x10 * 2 ^ 92 + 0x20 * 2 ^ 82 + 4 * 2 ^ 48 + 2 * 2 ^ 32), fetched (tw (word 3 0x0A (0x10 * 2 ^ 102 + 0x10 * 2 ^ 92 + 0x20 * 2 ^ 82 + 4 * 2 ^ 48 + 2 * 2 ^ 32)) id), 4, 2, ⟨1, 0, 32⟩, ⟨1, 0, 32⟩, ⟨2, 0, 32⟩, issues _ _ _ _ _ (by decide +kernel), by unfold Fresh VecLen; decide +kernel⟩
theorem wit_Partials_2 : ∃ (s : State) (k : TileId) (w : Tcw) (d' : Dev) (n row : Nat) (a b e : Span), Issues s.dev
    k.val w 3 0x0A (vecRegsOf w) d' ∧ onlyBits w.toNat [(111, 26)] = true ∧ finOf w = 0 ∧ foutOf w ≤ 7 ∧ fieldOf w 26 2 =
    1 ∧ row = fieldOf w 32 16 ∧ row ≠ 0 ∧ Fresh (d'.tile k.val) ∧ VecLen (d'.tile k.val) w n ∧ n % row = 0 ∧ n % 2 = 0 ∧
    countOk (foutOf w) n = true ∧ (d'.tile k.val).operand (fieldOf w 102 10) (4 * n + 8 * (n / row)) [1, 2] false = some a
    ∧ (d'.tile k.val).operand (fieldOf w 92 10) (4 * (n / row)) [1, 2] true = some b ∧ (d'.tile k.val).operand (fieldOf w
    82 10) (packedBytes (foutOf w) n) [1, 2] true = some e ∧ b.overlaps e = false :=
  ⟨W (tw (word 3 0x0A (0x10 * 2 ^ 102 + 0x20 * 2 ^ 92 + 0x10 * 2 ^ 82 + 4 * 2 ^ 48 + 2 * 2 ^ 32 + 2 ^ 26)) id), 0, word 3 0x0A (0x10 * 2 ^ 102 + 0x20 * 2 ^ 92 + 0x10 * 2 ^ 82 + 4 * 2 ^ 48 + 2 * 2 ^ 32 + 2 ^ 26), fetched (tw (word 3 0x0A (0x10 * 2 ^ 102 + 0x20 * 2 ^ 92 + 0x10 * 2 ^ 82 + 4 * 2 ^ 48 + 2 * 2 ^ 32 + 2 ^ 26)) id), 4, 2, ⟨1, 0, 32⟩, ⟨2, 0, 8⟩, ⟨1, 0, 16⟩, issues _ _ _ _ _ (by decide +kernel), by unfold Fresh VecLen; decide +kernel⟩
theorem wit_Partials_3 : ∃ (a b : PRow), a.v.length = b.v.length ∧ (a.h.empty = false ∨ b.h.empty = false) :=
  ⟨⟨[0], { exp := 5, sum := 1 }⟩, ⟨[0], {}⟩, by decide +kernel⟩
theorem wit_Partials_0 : ∃ (s : State) (k : TileId) (w : Tcw) (d' : Dev) (n row rows j : Nat) (x : Job) (a h e sc :
    Span) (f : FloatFmt)     (rs : List ((List Nat × List Nat × RowHdr) × Bool)), Issues s.dev k.val w 3 0x0B (vecRegsOf
    w) d' ∧ onlyBits w.toNat [(111, 28), (27, 27)] = true ∧ finOf w = 0xA ∧ 3 ≤ foutOf w ∧ foutOf w ≤ 7 ∧ row = fieldOf w
    32 16 ∧ row ≠ 0 ∧ row % 32 = 0 ∧ Fresh (d'.tile k.val) ∧ VecLen (d'.tile k.val) w n ∧ n % row = 0 ∧ rows = n / row ∧
    countOk (foutOf w) n = true ∧ d'.tileJob k.val = some (j, x) ∧ x.tenant < 64 ∧ fmtGet (foutOf w) = .float f ∧ (d'.tile
    k.val).operand (fieldOf w 102 10) (4 * n) [1, 2] false = some a ∧ (d'.tile k.val).operand (fieldOf w 92 10) (8 * rows)
    [1, 2] true = some h ∧ (d'.tile k.val).operand (fieldOf w 82 10) (packedBytes (foutOf w) n) [1, 2] true = some e ∧ sc
    = ⟨e.kind, roundUp (e.start + e.len) 64, n / 32⟩ ∧ (d'.tile k.val).operand (fieldOf w 82 10) (sc.start + sc.len -
    e.start) [1, 2] true ≠ none ∧ h.overlaps e = false ∧ h.overlaps sc = false ∧ (rs = (rowsOf (unpack 32 n (bytesAt
    (d'.tile k.val) a)) row rows).zipIdx.map (fun p => let old := if w.toNat.testBit 27 then {} else hdrOf ((unpack 64
    rows (bytesAt (d'.tile k.val) h)).getD p.2 0); (packRow f (emaxOf (foutOf w)) x.headroom (w.toNat.testBit 27) { old
    with sat := false } p.1, old.sat))) :=
  ⟨W (tw (word 3 0x0B (0x10 * 2 ^ 102 + 0x20 * 2 ^ 92 + 0x10 * 2 ^ 82 + 10 * 2 ^ 78 + 3 * 2 ^ 74 + 32 * 2 ^ 48 + 32 * 2 ^ 32)) id), 0, word 3 0x0B (0x10 * 2 ^ 102 + 0x20 * 2 ^ 92 + 0x10 * 2 ^ 82 + 10 * 2 ^ 78 + 3 * 2 ^ 74 + 32 * 2 ^ 48 + 32 * 2 ^ 32), fetched (tw (word 3 0x0B (0x10 * 2 ^ 102 + 0x20 * 2 ^ 92 + 0x10 * 2 ^ 82 + 10 * 2 ^ 78 + 3 * 2 ^ 74 + 32 * 2 ^ 48 + 32 * 2 ^ 32)) id), 32, 32, 1, 1, aJob, ⟨1, 0, 128⟩, ⟨2, 0, 8⟩, ⟨1, 0, 32⟩, ⟨1, 64, 1⟩, ⟨5, 2, 15, 0⟩, _, issues _ _ _ _ _ (by decide +kernel), four (by decide +kernel) ⟨by decide +kernel, by decide +kernel, by decide +kernel, by unfold Fresh; decide +kernel, by unfold VecLen; decide +kernel, four (by decide +kernel) (four (by decide +kernel) (four (by decide +kernel) ⟨by decide +kernel, rfl⟩))⟩⟩

/-! ### SpecialFunctions -/

theorem wit_SpecialFunctions_9 : ∃ (s : State) (k : TileId) (w : Tcw) (d' : Dev) (n row j : Nat) (x : Job) (a e :
    Span) (m : Option MaskCtx) (sp : List Span) (pr : Option (List Byte)) (out : List (Nat × Bool)), Issues s.dev k.val w
    4 0x02 (vecRegsOf w) d' ∧ onlyBits w.toNat [(111, 20)] = true ∧ finOf w ≤ 2 ∧ foutOf w = 0xA ∧ fieldOf w 20 4 = 0 ∧
    ProgOf d' x w pr ∧ (w.toNat.testBit 27 = false → fieldOf w 92 10 = 0) ∧ SfuOperands (d'.tile k.val) w n n a e ∧ (row =
    (if fieldOf w 32 16 = 0 then n else fieldOf w 32 16)) ∧ MaskOf (d'.tile k.val) w n m sp ∧ MaskClear e sp ∧ d'.tileJob
    k.val = some (j, x) ∧ x.tenant < 64 ∧ (out = (List.range n).map (fun i => expScore (if m.any (fun x => x.masked row (i
    / row) (i % row)) then maskVal else scoreAt (d'.tile k.val) w n row a pr m i))) :=
  ⟨W (tw (word 4 2 (0x10 * 2 ^ 102 + 0x20 * 2 ^ 82 + 10 * 2 ^ 74 + 4 * 2 ^ 48 + 2 * 2 ^ 32)) id), 0, word 4 2 (0x10 * 2 ^ 102 + 0x20 * 2 ^ 82 + 10 * 2 ^ 74 + 4 * 2 ^ 48 + 2 * 2 ^ 32), fetched (tw (word 4 2 (0x10 * 2 ^ 102 + 0x20 * 2 ^ 82 + 10 * 2 ^ 74 + 4 * 2 ^ 48 + 2 * 2 ^ 32)) id), 4, 2, 1, aJob, ⟨1, 0, 16⟩, ⟨2, 0, 16⟩, none, [], none, _, issues _ _ _ _ _ (by decide +kernel), four (by decide +kernel) ⟨by unfold ProgOf; decide +kernel, by decide +kernel, by unfold SfuOperands Fresh VecLen OverlapOk; decide +kernel, by decide +kernel, ⟨by decide +kernel, rfl⟩, (fun x hx => nomatch hx), by decide +kernel, by decide +kernel, rfl⟩⟩
theorem wit_SpecialFunctions_a : ∃ (s : State) (k : TileId) (w : Tcw) (d' : Dev) (n : Nat) (a e : Span), Issues s.dev k.val w 4 0x00 (vecRegsOf w) d' ∧ onlyBits w.toNat [(111, 20)] = true ∧
    (finOf w ≤ 7 ∨ (false = true ∧ finOf w = 0xA)) ∧ (foutOf w ≤ 7 ∨ (true = true ∧ foutOf w = 0xA)) ∧ fieldOf w 20 8 = 0 ∧
    fieldOf w 92 10 = 0 ∧ SfuOperands (d'.tile k.val) w n n a e :=
  ⟨W (tw (word 4 0x00 (0x10 * 2 ^ 102 + 0x20 * 2 ^ 82 + 4 * 2 ^ 48 + 10 * 2 ^ 74)) id), 0, word 4 0x00 (0x10 * 2 ^ 102 + 0x20 * 2 ^ 82 + 4 * 2 ^ 48 + 10 * 2 ^ 74), fetched (tw (word 4 0x00 (0x10 * 2 ^ 102 + 0x20 * 2 ^ 82 + 4 * 2 ^ 48 + 10 * 2 ^ 74)) id), 4, ⟨1, 0, 16⟩, ⟨2, 0, 16⟩, issues _ _ _ _ _ (by decide +kernel), by unfold SfuOperands Fresh VecLen OverlapOk; decide +kernel⟩
theorem wit_SpecialFunctions_b : ∃ (s : State) (k : TileId) (w : Tcw) (d' : Dev) (n : Nat) (a e : Span), Issues s.dev k.val w 4 0x01 (vecRegsOf w) d' ∧ onlyBits w.toNat [(111, 20)] = true ∧
    (finOf w ≤ 7 ∨ (false = true ∧ finOf w = 0xA)) ∧ (foutOf w ≤ 7 ∨ (true = true ∧ foutOf w = 0xA)) ∧ fieldOf w 20 8 = 0 ∧
    fieldOf w 92 10 = 0 ∧ SfuOperands (d'.tile k.val) w n n a e :=
  ⟨W (tw (word 4 0x01 (0x10 * 2 ^ 102 + 0x20 * 2 ^ 82 + 4 * 2 ^ 48 + 10 * 2 ^ 74)) id), 0, word 4 0x01 (0x10 * 2 ^ 102 + 0x20 * 2 ^ 82 + 4 * 2 ^ 48 + 10 * 2 ^ 74), fetched (tw (word 4 0x01 (0x10 * 2 ^ 102 + 0x20 * 2 ^ 82 + 4 * 2 ^ 48 + 10 * 2 ^ 74)) id), 4, ⟨1, 0, 16⟩, ⟨2, 0, 16⟩, issues _ _ _ _ _ (by decide +kernel), by unfold SfuOperands Fresh VecLen OverlapOk; decide +kernel⟩
theorem wit_SpecialFunctions_c : ∃ (s : State) (k : TileId) (w : Tcw) (d' : Dev) (n : Nat) (a e : Span), Issues s.dev k.val w 4 0x03 (vecRegsOf w) d' ∧ onlyBits w.toNat [(111, 20)] = true ∧
    (finOf w ≤ 7 ∨ (true = true ∧ finOf w = 0xA)) ∧ (foutOf w ≤ 7 ∨ (true = true ∧ foutOf w = 0xA)) ∧ fieldOf w 20 8 = 0 ∧
    fieldOf w 92 10 = 0 ∧ SfuOperands (d'.tile k.val) w n n a e :=
  ⟨W (tw (word 4 0x03 (0x10 * 2 ^ 102 + 0x20 * 2 ^ 82 + 4 * 2 ^ 48 + 10 * 2 ^ 78 + 10 * 2 ^ 74)) id), 0, word 4 0x03 (0x10 * 2 ^ 102 + 0x20 * 2 ^ 82 + 4 * 2 ^ 48 + 10 * 2 ^ 78 + 10 * 2 ^ 74), fetched (tw (word 4 0x03 (0x10 * 2 ^ 102 + 0x20 * 2 ^ 82 + 4 * 2 ^ 48 + 10 * 2 ^ 78 + 10 * 2 ^ 74)) id), 4, ⟨1, 0, 16⟩, ⟨2, 0, 16⟩, issues _ _ _ _ _ (by decide +kernel), by unfold SfuOperands Fresh VecLen OverlapOk; decide +kernel⟩
theorem wit_SpecialFunctions_d : ∃ (s : State) (k : TileId) (w : Tcw) (d' : Dev) (n : Nat) (a e : Span), Issues s.dev k.val w 4 0x04 (vecRegsOf w) d' ∧ onlyBits w.toNat [(111, 20)] = true ∧
    (finOf w ≤ 7 ∨ (true = true ∧ finOf w = 0xA)) ∧ (foutOf w ≤ 7 ∨ (true = true ∧ foutOf w = 0xA)) ∧ fieldOf w 20 8 = 0 ∧
    fieldOf w 92 10 = 0 ∧ SfuOperands (d'.tile k.val) w n n a e :=
  ⟨W (tw (word 4 0x04 (0x10 * 2 ^ 102 + 0x20 * 2 ^ 82 + 4 * 2 ^ 48 + 10 * 2 ^ 78 + 10 * 2 ^ 74)) id), 0, word 4 0x04 (0x10 * 2 ^ 102 + 0x20 * 2 ^ 82 + 4 * 2 ^ 48 + 10 * 2 ^ 78 + 10 * 2 ^ 74), fetched (tw (word 4 0x04 (0x10 * 2 ^ 102 + 0x20 * 2 ^ 82 + 4 * 2 ^ 48 + 10 * 2 ^ 78 + 10 * 2 ^ 74)) id), 4, ⟨1, 0, 16⟩, ⟨2, 0, 16⟩, issues _ _ _ _ _ (by decide +kernel), by unfold SfuOperands Fresh VecLen OverlapOk; decide +kernel⟩
theorem wit_SpecialFunctions_e : ∃ (s : State) (k : TileId) (w : Tcw) (d' : Dev) (n : Nat) (a e : Span), Issues s.dev k.val w 4 0x05 (vecRegsOf w) d' ∧ onlyBits w.toNat [(111, 20)] = true ∧
    (finOf w ≤ 7 ∨ (true = true ∧ finOf w = 0xA)) ∧ (foutOf w ≤ 7 ∨ (true = true ∧ foutOf w = 0xA)) ∧ fieldOf w 20 8 = 0 ∧
    fieldOf w 92 10 = 0 ∧ SfuOperands (d'.tile k.val) w n n a e :=
  ⟨W (tw (word 4 0x05 (0x10 * 2 ^ 102 + 0x20 * 2 ^ 82 + 4 * 2 ^ 48 + 10 * 2 ^ 78 + 10 * 2 ^ 74)) id), 0, word 4 0x05 (0x10 * 2 ^ 102 + 0x20 * 2 ^ 82 + 4 * 2 ^ 48 + 10 * 2 ^ 78 + 10 * 2 ^ 74), fetched (tw (word 4 0x05 (0x10 * 2 ^ 102 + 0x20 * 2 ^ 82 + 4 * 2 ^ 48 + 10 * 2 ^ 78 + 10 * 2 ^ 74)) id), 4, ⟨1, 0, 16⟩, ⟨2, 0, 16⟩, issues _ _ _ _ _ (by decide +kernel), by unfold SfuOperands Fresh VecLen OverlapOk; decide +kernel⟩
theorem wit_SpecialFunctions_f : ∃ (s : State) (k : TileId) (w : Tcw) (d' : Dev) (n : Nat) (a e : Span), Issues s.dev k.val w 4 0x06 (vecRegsOf w) d' ∧ onlyBits w.toNat [(111, 20)] = true ∧
    (finOf w ≤ 7 ∨ (false = true ∧ finOf w = 0xA)) ∧ (foutOf w ≤ 7 ∨ (false = true ∧ foutOf w = 0xA)) ∧ fieldOf w 20 8 = 0 ∧
    fieldOf w 92 10 = 0 ∧ SfuOperands (d'.tile k.val) w n n a e :=
  ⟨W (tw (word 4 0x06 (0x10 * 2 ^ 102 + 0x20 * 2 ^ 82 + 4 * 2 ^ 48)) id), 0, word 4 0x06 (0x10 * 2 ^ 102 + 0x20 * 2 ^ 82 + 4 * 2 ^ 48), fetched (tw (word 4 0x06 (0x10 * 2 ^ 102 + 0x20 * 2 ^ 82 + 4 * 2 ^ 48)) id), 4, ⟨1, 0, 16⟩, ⟨2, 0, 16⟩, issues _ _ _ _ _ (by decide +kernel), by unfold SfuOperands Fresh VecLen OverlapOk; decide +kernel⟩
theorem wit_SpecialFunctions_g : ∃ (s : State) (k : TileId) (w : Tcw) (d' : Dev) (n : Nat) (a e : Span), Issues s.dev k.val w 4 0x07 (vecRegsOf w) d' ∧ onlyBits w.toNat [(111, 20)] = true ∧
    (finOf w ≤ 7 ∨ (false = true ∧ finOf w = 0xA)) ∧ (foutOf w ≤ 7 ∨ (false = true ∧ foutOf w = 0xA)) ∧ fieldOf w 20 8 = 0 ∧
    fieldOf w 92 10 = 0 ∧ SfuOperands (d'.tile k.val) w n n a e :=
  ⟨W (tw (word 4 0x07 (0x10 * 2 ^ 102 + 0x20 * 2 ^ 82 + 4 * 2 ^ 48)) id), 0, word 4 0x07 (0x10 * 2 ^ 102 + 0x20 * 2 ^ 82 + 4 * 2 ^ 48), fetched (tw (word 4 0x07 (0x10 * 2 ^ 102 + 0x20 * 2 ^ 82 + 4 * 2 ^ 48)) id), 4, ⟨1, 0, 16⟩, ⟨2, 0, 16⟩, issues _ _ _ _ _ (by decide +kernel), by unfold SfuOperands Fresh VecLen OverlapOk; decide +kernel⟩
theorem wit_SpecialFunctions_h : ∃ (s : State) (k : TileId) (w : Tcw) (d' : Dev) (n : Nat) (a e : Span), Issues s.dev k.val w 4 0x08 (vecRegsOf w) d' ∧ onlyBits w.toNat [(111, 20)] = true ∧
    (finOf w ≤ 7 ∨ (false = true ∧ finOf w = 0xA)) ∧ (foutOf w ≤ 7 ∨ (false = true ∧ foutOf w = 0xA)) ∧ fieldOf w 20 8 = 0 ∧
    fieldOf w 92 10 = 0 ∧ SfuOperands (d'.tile k.val) w n n a e :=
  ⟨W (tw (word 4 0x08 (0x10 * 2 ^ 102 + 0x20 * 2 ^ 82 + 4 * 2 ^ 48)) id), 0, word 4 0x08 (0x10 * 2 ^ 102 + 0x20 * 2 ^ 82 + 4 * 2 ^ 48), fetched (tw (word 4 0x08 (0x10 * 2 ^ 102 + 0x20 * 2 ^ 82 + 4 * 2 ^ 48)) id), 4, ⟨1, 0, 16⟩, ⟨2, 0, 16⟩, issues _ _ _ _ _ (by decide +kernel), by unfold SfuOperands Fresh VecLen OverlapOk; decide +kernel⟩
theorem wit_SpecialFunctions_i : ∃ (s : State) (k : TileId) (w : Tcw) (d' : Dev) (n : Nat) (a e : Span), Issues s.dev k.val w 4 0x09 (vecRegsOf w) d' ∧ onlyBits w.toNat [(111, 20)] = true ∧
    (finOf w ≤ 7 ∨ (false = true ∧ finOf w = 0xA)) ∧ (foutOf w ≤ 7 ∨ (false = true ∧ foutOf w = 0xA)) ∧ fieldOf w 20 8 = 0 ∧
    fieldOf w 92 10 = 0 ∧ SfuOperands (d'.tile k.val) w n n a e :=
  ⟨W (tw (word 4 0x09 (0x10 * 2 ^ 102 + 0x20 * 2 ^ 82 + 4 * 2 ^ 48)) id), 0, word 4 0x09 (0x10 * 2 ^ 102 + 0x20 * 2 ^ 82 + 4 * 2 ^ 48), fetched (tw (word 4 0x09 (0x10 * 2 ^ 102 + 0x20 * 2 ^ 82 + 4 * 2 ^ 48)) id), 4, ⟨1, 0, 16⟩, ⟨2, 0, 16⟩, issues _ _ _ _ _ (by decide +kernel), by unfold SfuOperands Fresh VecLen OverlapOk; decide +kernel⟩

/-! ### RowsTablesAndPrograms -/

theorem wit_RowsTablesAndPrograms_0 : ∃ (s : State) (k : TileId) (w : Tcw) (d' : Dev) (n row j : Nat) (x : Job) (a b e
    : Span) (v : Nat → Val), Issues s.dev k.val w 4 0x10 (vecRegsOf w) d' ∧ onlyBits w.toNat [(111, 20)] = true ∧ finOf w
    ≤ 7 ∧ foutOf w ≤ 7 ∧ fieldOf w 20 1 = 0 ∧ fieldOf w 27 1 = 0 ∧ SfuOperands (d'.tile k.val) w n n a e ∧ (row = (if
    fieldOf w 32 16 = 0 then n else fieldOf w 32 16)) ∧ d'.tileJob k.val = some (j, x) ∧ (d'.tile k.val).operand (fieldOf
    w 92 10) (packedBytes (finOf w) n) [1, 2] false = some b ∧ e.overlaps b = false ∧ GateOf d' x (d'.tile k.val) w n row
    a b v :=
  ⟨W (tw (word 4 0x10 (0x10 * 2 ^ 102 + 0x10 * 2 ^ 92 + 0x20 * 2 ^ 82 + 4 * 2 ^ 48)) id), 0, word 4 0x10 (0x10 * 2 ^ 102 + 0x10 * 2 ^ 92 + 0x20 * 2 ^ 82 + 4 * 2 ^ 48), fetched (tw (word 4 0x10 (0x10 * 2 ^ 102 + 0x10 * 2 ^ 92 + 0x20 * 2 ^ 82 + 4 * 2 ^ 48)) id), 4, 4, 1, aJob, ⟨1, 0, 16⟩, ⟨1, 0, 16⟩, ⟨2, 0, 16⟩, _, issues _ _ _ _ _ (by decide +kernel), four (by decide +kernel) ⟨by decide +kernel, by unfold SfuOperands Fresh VecLen OverlapOk; decide +kernel, four (by decide +kernel) (Or.inl ⟨by decide +kernel, by decide +kernel, fun _ => rfl⟩)⟩⟩
theorem wit_RowsTablesAndPrograms_1 : ∃ (s : State) (k : TileId) (w : Tcw) (d' : Dev) (n row : Nat) (a e : Span),
    Issues s.dev k.val w 4 0x18 (vecRegsOf w) d' ∧ onlyBits w.toNat [(111, 20)] = true ∧ finOf w ≤ 7 ∧ foutOf w = 0 ∧
    fieldOf w 20 8 = 0 ∧ fieldOf w 92 10 = 0 ∧ (row = (if fieldOf w 32 16 = 0 then n else fieldOf w 32 16)) ∧ n % row = 0
    ∧ SfuOperands (d'.tile k.val) w n (n / row * 2) a e :=
  ⟨W (tw (word 4 0x18 (0x10 * 2 ^ 102 + 0x20 * 2 ^ 82 + 4 * 2 ^ 48 + 2 * 2 ^ 32)) id), 0, word 4 0x18 (0x10 * 2 ^ 102 + 0x20 * 2 ^ 82 + 4 * 2 ^ 48 + 2 * 2 ^ 32), fetched (tw (word 4 0x18 (0x10 * 2 ^ 102 + 0x20 * 2 ^ 82 + 4 * 2 ^ 48 + 2 * 2 ^ 32)) id), 4, 2, ⟨1, 0, 16⟩, ⟨2, 0, 16⟩, issues _ _ _ _ _ (by decide +kernel), by unfold SfuOperands Fresh VecLen OverlapOk; decide +kernel⟩
theorem wit_RowsTablesAndPrograms_4 : ∃ (s : State) (k : TileId) (w : Tcw) (d' : Dev) (n row j : Nat) (x : Job) (a e
    rec : Span) (m : Option MaskCtx)     (sp : List Span) (out : List SoftRow), Issues s.dev k.val w 4 0x20 (vecRegsOf w)
    d' ∧ onlyBits w.toNat [(111, 20)] = true ∧ finOf w ≤ 2 ∧ foutOf w ≤ 7 ∧ fieldOf w 20 7 = 0 ∧ (w.toNat.testBit 27 =
    false → fieldOf w 92 10 = 0) ∧ SfuOperands (d'.tile k.val) w n n a e ∧ (row = (if fieldOf w 32 16 = 0 then n else
    fieldOf w 32 16)) ∧ n % row = 0 ∧ rec = ⟨e.kind, roundUp (e.start + e.len) 64, 8 * (n / row)⟩ ∧ rec.overlaps a = false
    ∧ (d'.tile k.val).operand (fieldOf w 82 10) (rec.start + rec.len - e.start) [1, 2] true ≠ none ∧ MaskOf (d'.tile
    k.val) w n m sp ∧ MaskClear e sp ∧ MaskClear rec sp ∧ d'.tileJob k.val = some (j, x) ∧ x.tenant < 64 ∧ (out =
    (List.range (n / row)).map (fun r => softRow (foutOf w) ((List.range row).map (fun c => if m.any (fun x => x.masked
    row r c) then maskVal else elemAt (d'.tile k.val) (finOf w) n a (r * row + c))))) :=
  ⟨W (tw (word 4 0x20 (0x10 * 2 ^ 102 + 0x20 * 2 ^ 82 + 4 * 2 ^ 48 + 2 * 2 ^ 32)) id), 0, word 4 0x20 (0x10 * 2 ^ 102 + 0x20 * 2 ^ 82 + 4 * 2 ^ 48 + 2 * 2 ^ 32), fetched (tw (word 4 0x20 (0x10 * 2 ^ 102 + 0x20 * 2 ^ 82 + 4 * 2 ^ 48 + 2 * 2 ^ 32)) id), 4, 2, 1, aJob, ⟨1, 0, 16⟩, ⟨2, 0, 16⟩, ⟨2, 64, 16⟩, none, [], _, issues _ _ _ _ _ (by decide +kernel), four (by decide +kernel) ⟨by decide +kernel, by unfold SfuOperands Fresh VecLen OverlapOk; decide +kernel, four (by decide +kernel) ⟨by decide +kernel, ⟨by decide +kernel, rfl⟩, (fun x hx => nomatch hx), (fun x hx => nomatch hx), by decide +kernel, by decide +kernel, rfl⟩⟩⟩
theorem wit_RowsTablesAndPrograms_5 : ∃ (s : State) (k : TileId) (w : Tcw) (d' : Dev) (n j : Nat) (x : Job) (a e :
    Span) (b : List Byte), Issues s.dev k.val w 4 0x28 (vecRegsOf w) d' ∧ onlyBits w.toNat [(111, 20)] = true ∧ finOf w ≤
    9 ∧ foutOf w ≤ 9 ∧ fieldOf w 24 3 ≠ 0 ∧ fieldOf w 27 1 = 0 ∧ fieldOf w 20 4 = 0 ∧ fieldOf w 92 10 = 0 ∧ SfuOperands
    (d'.tile k.val) w n n a e ∧ d'.tileJob k.val = some (j, x) ∧ d'.sfuImage x false (fieldOf w 24 3) = some b ∧ (tabOf
    b).fin = finOf w ∧ (tabOf b).fout = foutOf w :=
  ⟨W (withImages (tw (word 4 0x28 (0x10 * 2 ^ 102 + 0x20 * 2 ^ 82 + 4 * 2 ^ 48 + 2 ^ 24)) id)), 0, word 4 0x28 (0x10 * 2 ^ 102 + 0x20 * 2 ^ 82 + 4 * 2 ^ 48 + 2 ^ 24), fetched (withImages (tw (word 4 0x28 (0x10 * 2 ^ 102 + 0x20 * 2 ^ 82 + 4 * 2 ^ 48 + 2 ^ 24)) id)), 4, 1, aJob, ⟨1, 0, 16⟩, ⟨2, 0, 16⟩, List.replicate 64 0, issues _ _ _ _ _ (by decide +kernel), by unfold SfuOperands Fresh VecLen OverlapOk; decide +kernel⟩
theorem wit_RowsTablesAndPrograms_6 : ∃ (s : State) (k : TileId) (w : Tcw) (d' : Dev) (n row j : Nat) (x : Job) (a e :
    Span) (b : List Byte)     (m : Option MaskCtx) (sp : List Span), Issues s.dev k.val w 4 0x29 (vecRegsOf w) d' ∧
    onlyBits w.toNat [(111, 20)] = true ∧ finOf w ≤ 7 ∧ foutOf w ≤ 7 ∧ fieldOf w 24 3 ≠ 0 ∧ fieldOf w 20 4 = 0 ∧
    (w.toNat.testBit 27 = false → fieldOf w 92 10 = 0) ∧ SfuOperands (d'.tile k.val) w n n a e ∧ (row = (if fieldOf w 32
    16 = 0 then n else fieldOf w 32 16)) ∧ MaskOf (d'.tile k.val) w n m sp ∧ MaskClear e sp ∧ d'.tileJob k.val = some (j,
    x) ∧ d'.sfuImage x true (fieldOf w 24 3) = some b ∧ progTabs b = [] :=
  ⟨W (withImages (tw (word 4 0x29 (0x10 * 2 ^ 102 + 0x20 * 2 ^ 82 + 4 * 2 ^ 48 + 2 ^ 24)) id)), 0, word 4 0x29 (0x10 * 2 ^ 102 + 0x20 * 2 ^ 82 + 4 * 2 ^ 48 + 2 ^ 24), fetched (withImages (tw (word 4 0x29 (0x10 * 2 ^ 102 + 0x20 * 2 ^ 82 + 4 * 2 ^ 48 + 2 ^ 24)) id)), 4, 4, 1, aJob, ⟨1, 0, 16⟩, ⟨2, 0, 16⟩, List.replicate 64 0, none, [], issues _ _ _ _ _ (by decide +kernel), four (by decide +kernel) ⟨by decide +kernel, by decide +kernel, by unfold SfuOperands Fresh VecLen OverlapOk; decide +kernel, by decide +kernel, ⟨by decide +kernel, rfl⟩, (fun x hx => nomatch hx), by decide +kernel⟩⟩
theorem wit_RowsTablesAndPrograms_7 : ∃ (s : State) (n : FnId) (p : Bool) (i : Fin 8), s.dev.serving = true ∧ i ≠ 0 :=
  ⟨W w0, 63, true, 7, by decide +kernel⟩
theorem wit_RowsTablesAndPrograms_layernorm : ∃ (s : State) (k : TileId) (w : Tcw) (d' : Dev)
    (n row : Nat) (a b e : Span) (g : Option (List Val)), Issues s.dev k.val w 4 0x19 (vecRegsOf w) d' ∧ onlyBits w.toNat [(111, 20)] = true ∧
    finOf w ≤ 7 ∧ foutOf w ≤ 7 ∧ fieldOf w 21 7 = 0 ∧ row = (if fieldOf w 32 16 = 0 then n else fieldOf w 32 16) ∧ n % row = 0 ∧
    SfuOperands (d'.tile k.val) w n n a e ∧ (w.toNat.testBit 20 = false → fieldOf w 92 10 = 0 ∧ g = none) ∧
    (w.toNat.testBit 20 = true → countOk (finOf w) row = true ∧ e.overlaps b = false ∧
      (d'.tile k.val).operand (fieldOf w 92 10) (packedBytes (finOf w) row) [1, 2] false = some b ∧
      g = some ((List.range row).map (elemAt (d'.tile k.val) (finOf w) row b))) :=
  ⟨W (tw (word 4 0x19 (0x10 * 2 ^ 102 + 0x10 * 2 ^ 92 + 0x20 * 2 ^ 82 + 4 * 2 ^ 48 + 2 * 2 ^ 32 + 2 ^ 20)) id), 0, word 4 0x19 (0x10 * 2 ^ 102 + 0x10 * 2 ^ 92 + 0x20 * 2 ^ 82 + 4 * 2 ^ 48 + 2 * 2 ^ 32 + 2 ^ 20), fetched (tw (word 4 0x19 (0x10 * 2 ^ 102 + 0x10 * 2 ^ 92 + 0x20 * 2 ^ 82 + 4 * 2 ^ 48 + 2 * 2 ^ 32 + 2 ^ 20)) id), 4, 2, ⟨1, 0, 16⟩, ⟨1, 0, 8⟩, ⟨2, 0, 16⟩, some ((List.range 2).map (elemAt ((fetched (tw (word 4 0x19 (0x10 * 2 ^ 102 + 0x10 * 2 ^ 92 + 0x20 * 2 ^ 82 + 4 * 2 ^ 48 + 2 * 2 ^ 32 + 2 ^ 20)) id)).tile 0) 0 2 ⟨1, 0, 8⟩)), issues _ _ _ _ _ (by decide +kernel), by unfold SfuOperands Fresh VecLen OverlapOk; decide +kernel⟩
theorem wit_RowsTablesAndPrograms_rmsnorm : ∃ (s : State) (k : TileId) (w : Tcw) (d' : Dev)
    (n row : Nat) (a b e : Span) (g : Option (List Val)), Issues s.dev k.val w 4 0x1A (vecRegsOf w) d' ∧ onlyBits w.toNat [(111, 20)] = true ∧
    finOf w ≤ 7 ∧ foutOf w ≤ 7 ∧ fieldOf w 21 7 = 0 ∧ row = (if fieldOf w 32 16 = 0 then n else fieldOf w 32 16) ∧ n % row = 0 ∧
    SfuOperands (d'.tile k.val) w n n a e ∧ (w.toNat.testBit 20 = false → fieldOf w 92 10 = 0 ∧ g = none) ∧
    (w.toNat.testBit 20 = true → countOk (finOf w) row = true ∧ e.overlaps b = false ∧
      (d'.tile k.val).operand (fieldOf w 92 10) (packedBytes (finOf w) row) [1, 2] false = some b ∧
      g = some ((List.range row).map (elemAt (d'.tile k.val) (finOf w) row b))) :=
  ⟨W (tw (word 4 0x1A (0x10 * 2 ^ 102 + 0x10 * 2 ^ 92 + 0x20 * 2 ^ 82 + 4 * 2 ^ 48 + 2 * 2 ^ 32 + 2 ^ 20)) id), 0, word 4 0x1A (0x10 * 2 ^ 102 + 0x10 * 2 ^ 92 + 0x20 * 2 ^ 82 + 4 * 2 ^ 48 + 2 * 2 ^ 32 + 2 ^ 20), fetched (tw (word 4 0x1A (0x10 * 2 ^ 102 + 0x10 * 2 ^ 92 + 0x20 * 2 ^ 82 + 4 * 2 ^ 48 + 2 * 2 ^ 32 + 2 ^ 20)) id), 4, 2, ⟨1, 0, 16⟩, ⟨1, 0, 8⟩, ⟨2, 0, 16⟩, some ((List.range 2).map (elemAt ((fetched (tw (word 4 0x1A (0x10 * 2 ^ 102 + 0x10 * 2 ^ 92 + 0x20 * 2 ^ 82 + 4 * 2 ^ 48 + 2 * 2 ^ 32 + 2 ^ 20)) id)).tile 0) 0 2 ⟨1, 0, 8⟩)), issues _ _ _ _ _ (by decide +kernel), by unfold SfuOperands Fresh VecLen OverlapOk; decide +kernel⟩

/-! ### ScoutQueries -/

theorem wit_ScoutQueries_0 : ∃ (s : State) (k : TileId) (w : Tcw) (d' : Dev) (q : Seq) (blk res : Span), Issues s.dev
    k.val w 5 0 [fieldOf w 102 4, fieldOf w 92 4, 3, fieldOf w 88 4, fieldOf w 84 4, fieldOf w 80 4] d' ∧ onlyBits w.toNat
    [(111, 79)] = true ∧ Fresh (d'.tile k.val) ∧ (d'.tile k.val).query = none ∧ d'.seqOf (d'.tileTenant k.val) ((d'.tile
    k.val).s 3) = some q ∧ (d'.tile k.val).operand (fieldOf w 102 10) 136 [1, 2] false = some blk ∧ (d'.tile
    k.val).operand (fieldOf w 92 10) (((q.pageCap + 511) / 512) * 64) [1, 2] true = some res ∧ (d'.tile k.val).s (fieldOf
    w 88 4) < q.layers ∧ (d'.tile k.val).s (fieldOf w 84 4) < q.groups ∧ leNat (((bytesAt (d'.tile k.val) blk).drop
    128).take 4) = 0 :=
  ⟨W ({ tw (word 5 0 (0x10 * 2 ^ 102 + 0x20 * 2 ^ 92 + 7 * 2 ^ 88 + 8 * 2 ^ 84 + 5 * 2 ^ 80)) (fun y => { y with sregs := [(3, 5)] }) with kv := committed.kv }), 0, word 5 0 (0x10 * 2 ^ 102 + 0x20 * 2 ^ 92 + 7 * 2 ^ 88 + 8 * 2 ^ 84 + 5 * 2 ^ 80), fetched ({ tw (word 5 0 (0x10 * 2 ^ 102 + 0x20 * 2 ^ 92 + 7 * 2 ^ 88 + 8 * 2 ^ 84 + 5 * 2 ^ 80)) (fun y => { y with sregs := [(3, 5)] }) with kv := committed.kv }), seq5, ⟨1, 0, 136⟩, ⟨2, 0, 64⟩, issues _ _ _ _ _ (by decide +kernel), by unfold Fresh; decide +kernel⟩
theorem wit_ScoutQueries_1 : ∃ (s : State) (k : TileId) (q : Query) (j : Nat) (x : Job) (d1 : Dev), d1 =
    s.dev.scoutPump ∧ d1.serving = true ∧ QueryTile d1 k q j x ∧ Unmarked (d1.tile k.val) ∧ (q.forced = true ∨
    q.snap.isSome = true) ∧ s.dev.pwr.tick - q.start < q.limit :=
  ⟨W queryDev, 0, aQuery, 1, aJob, _, rfl, by unfold QueryTile Unmarked; decide +kernel⟩
theorem wit_ScoutQueries_2 : ∃ (s : State) (k : TileId) (q : Query) (j n : Nat) (x : Job), s.dev.serving = true ∧
    QueryTile s.dev k q j x ∧ Unmarked (s.dev.tile k.val) ∧ q.limit + q.start ≤ s.dev.pwr.tick ∧ LatePages s.dev q n
    :=
  ⟨W lateDev, 0, { aQuery with forced := false, start := 0 }, 1, seq5.pages, aJob, by decide +kernel, by unfold QueryTile; decide +kernel,
    by unfold Unmarked; decide +kernel, by decide +kernel, Or.inr ⟨rfl, seq5, by decide +kernel⟩⟩
theorem wit_ScoutQueries_3 : ∃ (d : Dev) (q : Query) (sp : ScSpan) (b : Nat) (l : Layer) (qs : List Int) (p a col :
    Nat), p < l.np ∧ ColumnIs q sp p a col ∧ l.failed = false ∧ d.silentArray q a = false ∧ d.exactOn q a = true ∧
    q.group * sp.np + p < l.always.length :=
  ⟨{ w0 with scout := { arrays := [(0, { st := .fitted })] } }, aQuery, { aSpan with np := 1 }, 0, { layer := 0, np := 1, always := [false] }, [], 0, 0, 0, by decide +kernel, ⟨0, rfl, rfl⟩, by decide +kernel⟩
theorem wit_ScoutQueries_4_0 : ∃ (d : Dev) (q : Query) (sp : ScSpan) (b : Nat) (l : Layer) (qs : List Int) (p a col :
    Nat) (e : Int), p < l.np ∧ ColumnIs q sp p a col ∧ l.failed = false ∧ d.silentArray q a = false ∧ d.exactOn q a =
    false ∧ l.always[q.group * sp.np + p]? = some false ∧ (d.array a).suspect.testBit col = false ∧ KMap.find q.shift
    a = none ∧ e = (((qs.zip ((List.range 256).map (fun i => 2 * ((codeAt d a b col i : Nat) : Int) - 3))).map (fun x
    => x.1 / 4 * x.2)).sum) ∧ threshCOf q.block ≤ e :=
  ⟨{ w0 with scout := { arrays := [(0, { st := .fitted })] } }, { aQuery with exact := false }, { aSpan with np := 1 }, 0, { layer := 0, np := 1, always := [false] }, [], 0, 0, 0, 0, by decide +kernel, ⟨0, rfl, rfl⟩, by decide +kernel⟩
theorem wit_ScoutQueries_4_1 : ∃ (d : Dev) (q : Query) (sp : ScSpan) (b : Nat) (l : Layer) (qs : List Int) (p a col :
    Nat) (e : Int), p < l.np ∧ ColumnIs q sp p a col ∧ l.failed = false ∧ d.silentArray q a = false ∧ d.exactOn q a =
    false ∧ l.always[q.group * sp.np + p]? = some false ∧ (d.array a).suspect.testBit col = false ∧ KMap.find q.shift
    a = none ∧ e = (((qs.zip ((List.range 256).map (fun i => 2 * ((codeAt d a b col i : Nat) : Int) - 3))).map (fun x
    => x.1 / 4 * x.2)).sum) ∧ e < threshCOf q.block - 2 * (d.obj 0x7810 0 0 : Int) :=
  ⟨({ w0 with scout := { arrays := [(0, { st := .fitted })] } } : Dev).setObj 0x7810 0 0 8, { aQuery with exact := false, block := List.replicate 132 0 ++ [17, 0, 0, 0] }, { aSpan with np := 1 }, 0, { layer := 0, np := 1, always := [false] }, [], 0, 0, 0, 0, by decide +kernel, ⟨0, rfl, rfl⟩, by decide +kernel⟩
theorem wit_ScoutQueries_5 : ∃ (d : Dev) (q : Query) (sn : QSnap) (p : Nat) (b : Bool) (a : Nat), q.snap = some sn ∧
    sn.bits[p]? = some b ∧ sn.arrays[p]? = some a :=
  ⟨w0, { aQuery with snap := some ⟨0, [true], [3], true⟩ }, ⟨0, [true], [3], true⟩, 0, true, 3, by decide +kernel⟩

/-! ### ScoutArrays -/

theorem wit_ScoutArrays_0 : ∃ (s : State) (l b : Nat) (sp : ScSpan) (la : Layer) (q : Seq) (ds sk : List Byte) (d1 d2
    : Dev), s.dev.serving = true ∧ ScoutQuiet s.dev ∧ s.dev.loadOf l = some (sp, b, la) ∧ s.dev.seqOf sp.tenant sp.seq
    = some q ∧ sp.slots.Nodup ∧ q.groups * sp.np ≤ 64 * sp.slots.length ∧ (∀ e ∈ sp.slots, e.2 < 16) ∧ (∀ a ∈
    sp.arrays, (s.dev.array a).clearing b = false) ∧ Dev.loadRead sp.tenant (loadReq l la.prio) ((List.range
    q.groups).map (fun g => (q.descVa la.layer g 0, 16 * sp.np))) s.dev [] = (.ok ds, d1) ∧ Dev.loadRead sp.tenant
    (loadReq l la.prio) ((List.range q.groups).map (fun g => (q.sketchVa la.layer g 0, 64 * sp.np))) d1 [] = (.ok sk,
    d2) :=
  by
  obtain ⟨ds, d1, h1⟩ := load_ok loadDev 0 (loadReq 1 6)
    ((List.range seq5.groups).map (fun g => (seq5.descVa 0 g 0, 16 * 2))) (by decide +kernel)
  obtain ⟨sk, d2, h2⟩ := load_ok d1 0 (loadReq 1 6)
    ((List.range seq5.groups).map (fun g => (seq5.sketchVa 0 g 0, 64 * 2))) (by
      rw [show d1 = (Dev.loadRead 0 (loadReq 1 6) ((List.range seq5.groups).map (fun g => (seq5.descVa 0 g 0, 16 * 2)))
        loadDev []).2 from by rw [h1]]
      decide +kernel)
  exact ⟨W loadDev, 1, 0, aSpan, { layer := 0, np := 2, loading := some 1 }, seq5, ds, sk, d1, d2, by decide +kernel,
    ⟨by decide +kernel, by decide +kernel⟩, by decide +kernel, by decide +kernel, by decide +kernel, by decide +kernel,
    by decide +kernel, by decide +kernel, h1, h2⟩
theorem wit_ScoutArrays_1 : ∃ (s : State) (a : ArrayId), s.dev.serving = true ∧ s.dev.sweepDue a.val = true ∧
    (s.dev.array a.val).sweeping = false ∧ s.dev.arrayQueried a.val = false ∧ (s.dev.bankLast a.val 0 = none ∨
    s.dev.bankLast a.val 1 = none) :=
  ⟨W { w0 with scout := { arrays := [(127, { st := .exactOnly, due := true })] } }, 127, by decide +kernel⟩
theorem wit_ScoutArrays_2 : ∃ (s : State) (a : ArrayId) (ok : Bool), s.dev.arrayQueried a.val = true :=
  ⟨W { queryDev with scout := { spans := [{ aSpan with slots := [(127, 0)] }] }, tiles := [(0, { aTile with query := some { aQuery with forced := false } })] }, 127, true, by decide +kernel⟩
theorem wit_ScoutArrays_3 : ∃ (s : State) (a : ArrayId), s.dev.serving = true ∧ (s.dev.array a.val).sweeping = true ∧
    s.dev.arrayQueried a.val = false :=
  ⟨W { w0 with scout := { arrays := [(127, { sweeping := true })] } }, 127, by decide +kernel⟩
theorem wit_ScoutArrays_4 : ∃ (s : State) (a : ArrayId), s.dev.serving = true ∧ (s.dev.array a.val).sweeping = true ∧
    s.dev.has 268 = false ∧ s.dev.arrayQueried a.val = false :=
  ⟨W { w0 with scout := { arrays := [(127, { sweeping := true })] }, boot := { w0.boot with active := 2 ^ 294 - 1 - 2 ^ 268 } }, 127, by decide +kernel⟩
theorem wit_ScoutArrays_5 : ∃ (s : State) (a : ArrayId), s.dev.serving = true ∧ (s.dev.array a.val).sweeping = true ∧
    s.dev.has 268 = true ∧ s.dev.arrayQueried a.val = false ∧ (s.dev.slot 0).failed = false :=
  ⟨W { w0 with scout := { arrays := [(127, { sweeping := true })] } }, 127, by decide +kernel⟩
theorem wit_ScoutArrays_6 : ∃ (s : State) (a : ArrayId), s.dev.serving = true ∧ (s.dev.array a.val).everFit = true ∧
    (s.dev.array a.val).st = .fitted ∧ 2 * s.dev.obj 0x7812 0 0 + (s.dev.array a.val).lastFit ≤ s.dev.pwr.tick :=
  ⟨W ({ w0 with scout := { arrays := [(127, { everFit := true, st := .fitted, lastFit := 9950000000 })] } }.setObj 0x7812 0 0 25000000), 127, by decide +kernel⟩
theorem wit_ScoutArrays_7 : ∃ (s : State) (v : BitVec 16), s.dev.serving = true ∧ 8 ≤ v.toNat ∧ v.toNat ≤ 512 :=
  ⟨W w0, 512, by decide +kernel⟩
theorem wit_ScoutArrays_8 : ∃ (s : State) (a : ArrayId), s.dev.serving = true ∧ s.dev.has (128 + a.val) = true ∧
    (s.dev.array a.val).st = .disabled ∧ (s.dev.array a.val).failed = false :=
  ⟨W w0, 127, by decide +kernel⟩
theorem wit_ScoutArrays_9 : ∃ (s : State) (a : ArrayId), s.dev.serving = true ∧ s.dev.has (128 + a.val) = true ∧
    (s.dev.array a.val).st = .disabled ∧ (s.dev.array a.val).failed = false :=
  ⟨W w0, 127, by decide +kernel⟩
theorem wit_ScoutArrays_10 : ∃ (s : State) (a : ArrayId), s.dev.serving = true ∧ s.dev.has (128 + a.val) = true ∧
    (s.dev.array a.val).st ≠ .disabled ∧ ScoutQuiet s.dev :=
  ⟨W { w0 with scout := { arrays := [(127, { st := .fitted, tenant0 := some 3 })] } }, 127, by unfold ScoutQuiet; decide +kernel⟩
theorem wit_ScoutArrays_11 : ∃ (s : State) (n : FnId) (v : BitVec 128), s.dev.serving = true ∧ s.dev.arraySetOk n.val
    v.toNat = true ∧ ScoutQuiet s.dev :=
  ⟨W ((w0.setObj 0x7801 0 63 (2 ^ 127)).setObj 0x7801 0 0 0), 63, 2 ^ 126, by unfold ScoutQuiet; decide +kernel⟩

/-! ### SolverSlots -/

theorem wit_SolverSlots_0 : ∃ (s : State) (k : SolvSlot) (d : Dev), s.dev.solverOn = true ∧ (s.dev.slot k.val).failed
    = false ∧ ((s.dev.slot k.val).st = .disabled ∨ (s.dev.slot k.val).st = .error) ∧ (s.dev.setSlot k.val (slotLatched
    s.dev k.val)).engRead (s.dev.slotTenant k.val) (s.dev.obj 0x7C12 (k.val + 1) 0) ((s.dev.obj 0x7C11 (k.val + 1) 0 + 8)
    % 2 ^ 64) 4 (slotReq k.val true) = (.wait, d) :=
  ⟨W { w0 with solv := { slots := [(7, { st := .error })] } }, 7, _, by decide +kernel, by decide +kernel, by decide +kernel, pair_is _ _ (by decide +kernel)⟩
theorem wit_SolverSlots_3 : ∃ (s : State) (k : SolvSlot), s.dev.pwr.tick - (s.dev.slot k.val).lastPoll < s.dev.obj
    0x7C04 0 0 :=
  ⟨W ({ w0 with solv := { slots := [(7, { lastPoll := 9999975001 })] } }.setObj 0x7C04 0 0 25000), 7, by decide +kernel⟩
theorem wit_SolverSlots_4 : ∃ (s : State) (k : SolvSlot), (s.dev.slot k.val).st = .enabled ∧ s.dev.slotBusy k.val = false :=
  ⟨W { w0 with solv := { slots := [(7, { st := .enabled })] } }, 7, by decide +kernel⟩
theorem wit_SolverSlots_5 : ∃ (s : State) (k : SolvSlot), (s.dev.slot k.val).st = .enabled ∧ s.dev.slotBusy k.val = true :=
  ⟨W { w0 with solv := { slots := [(7, { st := .enabled })], batch := some { slot := 7, desc := 0, start := 0, status := 0 } } }, 7, by decide +kernel⟩
theorem wit_SolverSlots_6 : ∃ (s : State) (k : SolvSlot), (s.dev.slot k.val).st ≠ .disabled ∧ s.dev.slotBusy k.val = false :=
  ⟨W { w0 with solv := { slots := [(7, { st := .draining })] } }, 7, by decide +kernel⟩
theorem wit_SolverSlots_7 : ∃ (s : State) (k : SolvSlot), (s.dev.slot k.val).st ≠ .disabled ∧ s.dev.slotBusy k.val = true :=
  ⟨W { w0 with solv := { slots := [(7, { st := .draining })], batch := some { slot := 7, desc := 0, start := 0, status := 0 } } }, 7, by decide +kernel⟩
theorem wit_SolverSlots_8 : ∃ (s : State) (k : SolvSlot) (va piv rng : Nat) (raw out : List Byte) (r : Resident) (d1
    d2 : Dev), BatchReady s.dev k.val va raw d1 ∧ (batchDesc (leNat raw)).ok = true ∧ (batchDesc (leNat raw)).delta =
    false ∧ (fullBatch k.val (batchDesc (leNat raw))).run.run (batchStarted d1 k.val va) = (.ok (out, piv, rng, r),
    d2) :=
  by
  obtain ⟨⟨o, p, g, r⟩, d2, h⟩ := run_ok (fullBatch 0 (batchDesc (leNat (leBytes (aBatch 0 0 0x10100) 64))))
    (batchStarted (descRead (solvDev (aBatch 0 0 0x10100) id)).2 0 0x10040) (by decide +kernel)
  exact ⟨W (solvDev (aBatch 0 0 0x10100) id), 0, 0x10040, p, g, _, o, r, _, d2,
    batchReady_of _ (leBytes (aBatch 0 0 0x10100) 64) (by decide +kernel) (by decide +kernel), by decide +kernel, by decide +kernel, h⟩
theorem wit_SolverSlots_9 : ∃ (s : State) (k : SolvSlot) (va : Nat) (raw : List Byte) (d1 : Dev), BatchReady s.dev
    k.val va raw d1 ∧ (batchDesc (leNat raw)).ok = false :=
  ⟨W (solvDev 0 id), 0, 0x10040, leBytes 0 64, (descRead (solvDev 0 id)).2, batchReady_of _ _ (by decide +kernel) (by decide +kernel), by decide +kernel⟩
theorem wit_SolverSlots_10 : ∃ (s : State) (k : SolvSlot) (va piv rng : Nat) (raw out : List Byte) (r : Resident) (d1
    d2 : Dev), BatchReady s.dev k.val va raw d1 ∧ (batchDesc (leNat raw)).ok = true ∧ (batchDesc (leNat raw)).delta =
    true ∧ (deltaBatch k.val (batchDesc (leNat raw))).run.run (batchStarted d1 k.val va) = (.ok (out, piv, rng, r),
    d2) :=
  by
  obtain ⟨⟨o, p, g, r⟩, d2, h⟩ := run_ok (deltaBatch 0 (batchDesc (leNat (leBytes (aBatch 1 1 0) 64))))
    (batchStarted (descRead (solvDev (aBatch 1 1 0) (fun x => { x with resident := some aResident }))).2 0 0x10040) (by decide +kernel)
  exact ⟨W (solvDev (aBatch 1 1 0) (fun x => { x with resident := some aResident })), 0, 0x10040, p, g, _, o, r, _, d2,
    batchReady_of _ (leBytes (aBatch 1 1 0) 64) (by decide +kernel) (by decide +kernel), by decide +kernel, by decide +kernel, h⟩
theorem wit_SolverSlots_11 : ∃ (s : State) (b c : SolvBatch) (r1 r2 r3 : ReadResult) (d0 d1 d2 d3 : Dev),
    s.dev.solverOn = true ∧ s.dev.solv.batch = some b ∧ b.status ≠ 0 ∧ b.posted = false ∧ c = { b with out := [] } ∧
    (b.out = [] → d1 = s.dev) ∧ (b.out ≠ [] → s.dev.engWrite (s.dev.slotTenant b.slot) (s.dev.slot b.slot).pasid
    b.outVa b.out (slotReq b.slot false) = (.data r1, d0) ∧ d1 = { d0 with solv := { d0.solv with batch := some c } })
    ∧ d1.engWrite (d1.slotTenant b.slot) (d1.slot b.slot).pasid b.desc (leBytes (b.status * 2 ^ 56 + Nat.min b.pivots
    65535 * 2 ^ 40 + Nat.min b.ranges 65535 * 2 ^ 24 + Nat.min (d1.pwr.tick - b.start) (2 ^ 24 - 1)) 8) (slotReq
    b.slot true) = (.data r2, d2) ∧ IndexWrite (d2.postBatch c) b.slot r3 d3 :=
  ⟨W { solvDev 0 id with solv := { (solvDev 0 id).solv with batch := some { slot := 0, desc := 0x10040, start := 0, status := 1, out := [7], outVa := 0x10300, posted := false } } }, { slot := 0, desc := 0x10040, start := 0, status := 1, out := [7], outVa := 0x10300, posted := false }, { slot := 0, desc := 0x10040, start := 0, status := 1, out := [], outVa := 0x10300, posted := false }, ⟨[], [], 0, 0⟩, ⟨[], [], 0, 0⟩, ⟨[], [], 0, 0⟩, _, _, _, _, four (by decide +kernel) ⟨rfl, (fun h => by cases h), (fun _ => ⟨pair_is _ (Got.data ⟨[], [], 0, 0⟩) (by decide +kernel), rfl⟩), pair_is _ (Got.data ⟨[], [], 0, 0⟩) (by decide +kernel), pair_is _ (Got.data ⟨[], [], 0, 0⟩) (by decide +kernel)⟩⟩
theorem wit_SolverSlots_12 : ∃ (s : State) (b : SolvBatch) (r3 : ReadResult) (d3 : Dev), s.dev.solverOn = true ∧
    s.dev.solv.batch = some b ∧ b.status ≠ 0 ∧ b.posted = true ∧ IndexWrite s.dev b.slot r3 d3 :=
  ⟨W { solvDev 0 id with solv := { (solvDev 0 id).solv with batch := some { slot := 0, desc := 0x10040, start := 0, status := 1, out := [], outVa := 0x10300, posted := true } } }, { slot := 0, desc := 0x10040, start := 0, status := 1, out := [], outVa := 0x10300, posted := true }, ⟨[], [], 0, 0⟩, _, four (by decide +kernel) (pair_is _ (Got.data ⟨[], [], 0, 0⟩) (by decide +kernel))⟩
theorem wit_SolverSlots_poll : ∃ (s : State) (k : SolvSlot) (b ci : List Byte) (d0 d1 d : Dev), s.dev.solverOn = true ∧
    s.dev.obj 0x7C04 0 0 + (s.dev.slot k.val).lastPoll ≤ s.dev.pwr.tick ∧ (s.dev.slot k.val).st = .enabled ∧
    (s.dev.slot k.val).failed = false ∧ ((s.dev.slot k.val).ready = true → d1 = s.dev) ∧
    ((s.dev.slot k.val).ready = false → s.dev.slotRead k.val ((s.dev.slot k.val).base + 8) 4 = (some ci, d0) ∧
      d1 = d0.setSlot k.val { d0.slot k.val with ready := true, ci := leNat ci % 2 ^ (s.dev.slot k.val).size }) ∧
    d1.slotRead k.val (s.dev.slot k.val).base 4 = (some b, d) ∧ leNat b < 2 ^ (s.dev.slot k.val).size :=
  ⟨W (solvDev 0 id), 0, [1, 0, 0, 0], [], w0, solvDev 0 id, _, by decide +kernel, by decide +kernel, by decide +kernel,
    by decide +kernel, fun _ => rfl, fun h => absurd h (by decide +kernel), pair_is _ _ (by decide +kernel), by decide +kernel⟩
theorem wit_SolverSlots_first_poll : ∃ (s : State) (k : SolvSlot) (b ci : List Byte) (d0 d1 d : Dev),
    s.dev.solverOn = true ∧ (s.dev.slot k.val).st = .enabled ∧ (s.dev.slot k.val).ready = false ∧
    s.dev.slotRead k.val ((s.dev.slot k.val).base + 8) 4 = (some ci, d0) ∧
    d1 = d0.setSlot k.val { d0.slot k.val with ready := true, ci := leNat ci % 2 ^ (s.dev.slot k.val).size } ∧
    d1.slotRead k.val (s.dev.slot k.val).base 4 = (some b, d) ∧ leNat b < 2 ^ (s.dev.slot k.val).size :=
  ⟨W (solvDev 0 (fun x => { x with ready := false })), 0, [1, 0, 0, 0], [0, 0, 0, 0], _, _, _, by decide +kernel,
    by decide +kernel, by decide +kernel, pair_is _ _ (by decide +kernel), rfl, pair_is _ _ (by decide +kernel),
    by decide +kernel⟩

/-! ### PortsAndPeers -/

theorem wit_PortsAndPeers_0 : ∃ (s : State) (p : PortId), s.dev.serving = true ∧ s.dev.etherOn p.val = true ∧
    s.dev.port p.val = .off :=
  ⟨W { w0 with scale := { ports := [(5, .off)] } }, 5, by decide +kernel⟩
theorem wit_PortsAndPeers_1 : ∃ (s : State) (p : PortId), s.dev.serving = true ∧ s.dev.has (288 + p.val) = true ∧
    Reachable s.dev p.val :=
  ⟨W (scaleDev aChan 1), 5, by decide +kernel, by decide +kernel, by unfold Reachable; decide +kernel⟩
theorem wit_PortsAndPeers_2 : ∃ (s : State) (p : PortId), s.dev.etherOn p.val = true ∧ s.dev.port p.val = .training :=
  ⟨W { w0 with scale := { ports := [(5, .training)] } }, 5, by decide +kernel⟩
theorem wit_PortsAndPeers_3 : ∃ (s : State) (p : PortId), s.dev.live = true ∧ s.dev.port p.val = .up ∧ Reachable s.dev
    p.val :=
  ⟨W (scaleDev aChan 1), 5, by decide +kernel, by decide +kernel, by unfold Reachable; decide +kernel⟩
theorem wit_PortsAndPeers_4 : ∃ (s : State) (p : PortId) (a : BitVec 128), s.dev.live = true ∧ s.dev.port p.val = .up
    ∧ a ≠ 0 ∧ a.toNat = s.dev.obj 0x8003 (p.val + 1) 0 :=
  ⟨W ((scaleDev aChan 1).setObj 0x8003 6 0 77), 5, 77, by decide +kernel⟩
theorem wit_PortsAndPeers_5 : ∃ (s : State) (p : PortId) (a : BitVec 128) (l : BitVec 48), s.dev.live = true ∧
    s.dev.port p.val = .up ∧ a ≠ 0 ∧ (∀ e ∈ s.dev.scale.chans, e.2.unacked = []) :=
  ⟨W (scaleDev aChan 1), 5, 9, 8, by decide +kernel⟩
theorem wit_PortsAndPeers_6 : ∃ (s : State) (g : LrtDatagram) (h : LrtHeader) (pl : List Byte) (l : Nat), s.dev.lrtIn
    g 5 = some (h, pl) ∧ h.group = s.dev.obj 0x8011 0 0 ∧ h.dstMember = s.dev.obj 0x8012 0 0 ∧ s.dev.obj 0x8020
    (h.srcMember + 1) 0 ≠ 0 ∧ KMap.find (s.dev.peer h.srcMember).link g.port.val = some l :=
  ⟨W (scaleDev aChan 1), aGram (aHead 5) [], aHead 5, [], 7, by decide +kernel⟩
theorem wit_PortsAndPeers_7 : ∃ (s : State) (g : LrtDatagram) (h : LrtHeader) (pl : List Byte), s.dev.lrtIn g 6 = some
    (h, pl) ∧ h.group = s.dev.obj 0x8011 0 0 ∧ h.dstMember = s.dev.obj 0x8012 0 0 ∧ (s.dev.peer h.srcMember).st = 2 :=
  ⟨W (scaleDev aChan 2), aGram (aHead 6) [], aHead 6, [], by decide +kernel⟩
theorem wit_PortsAndPeers_8 : ∃ (s : State) (m : PeerId) (p l : Nat), s.dev.serving = true ∧ (s.dev.peer m.val).st = 2
    ∧ PathTo s.dev m.val p l ∧ PeriodOver s.dev (s.dev.peer m.val).lastProbe 25000 :=
  ⟨W { scaleDev aChan 2 with scale := { (scaleDev aChan 2).scale with ports := [(0, .up)], peers := [(1, { st := 2, link := [(0, 7)], lastProbe := some 9999975000 })] } }, 1, 0, 7, by decide +kernel, by decide +kernel, by unfold PathTo; decide +kernel, over_at 9999975000 rfl (by decide +kernel)⟩
theorem wit_PortsAndPeers_9 : ∃ (s : State) (m : PeerId) (x : Nat), (s.dev.peer m.val).lastProbe = some x ∧
    s.dev.pwr.tick - x < 25000 :=
  ⟨W { scaleDev aChan 2 with scale := { (scaleDev aChan 2).scale with ports := [(0, .up)], peers := [(1, { st := 2, link := [(0, 7)], lastProbe := some 9999975001 })] } }, 1, 9999975001, by decide +kernel⟩

/-! ### Channels -/

theorem wit_Channels_0 : ∃ (s : State) (c : ChanId) (m : Nat) (x : Chan) (pa : Option Nat) (d : Dev), s.dev.serving = true ∧
    (s.dev.chan c.val).st ≠ .openSt ∧ m = s.dev.obj 0x8031 (c.val + 1) 0 / 2 ^ 8 % 2 ^ 5 ∧ x =
      { st := .openSt, tenant := s.dev.obj 0x8030 (c.val + 1) 0, pasid := s.dev.obj 0x8033 (c.val + 1) 0,
        sqBase := s.dev.obj 0x8034 (c.val + 1) 0, sqSize := s.dev.obj 0x8035 (c.val + 1) 0,
        rxBase := s.dev.obj 0x8036 (c.val + 1) 0, rxBytes := s.dev.obj 0x8037 (c.val + 1) 0, peer := m,
        peerAddr := s.dev.obj 0x8020 (m + 1) 0, peerChan := s.dev.obj 0x8031 (c.val + 1) 0 % 2 ^ 6,
        member := s.dev.obj 0x8012 0 0, group := s.dev.obj 0x8011 0 0, udpPort := s.dev.obj 0x8010 0 0 } ∧
    x.peerAddr ≠ 0 ∧ s.dev.fnExists x.tenant = true ∧
    s.dev.translate x.tenant x.pasid x.sqBase 0 (s.dev.checkReq c.val) = (pa, d) ∧
    (∀ a, pa = some a → a < d.hbmTop) ∧
    (∀ i < 32, (s.dev.peer i).st = 1 ∨ (i = m ∧ (s.dev.peer i).st = 0) → (s.dev.pathOf i).isSome = true) :=
  ⟨W (((scaleDev {} 0).setObj 0x8031 64 0 0x100).setObj 0x8034 64 0 0x1000000), 63, 1, _, some 0x1000000, _, by decide +kernel, by decide +kernel, by decide +kernel, rfl, by decide +kernel, by decide +kernel, pair_is _ _ (by decide +kernel), fun a h => by cases h; decide +kernel, by decide +kernel⟩
theorem wit_Channels_1 : ∃ (s : State) (c : ChanId), s.dev.serving = true ∧ (s.dev.chan c.val).st ≠ .openSt ∧
    s.dev.obj 0x8020 (s.dev.obj 0x8031 (c.val + 1) 0 / 2 ^ 8 % 2 ^ 5 + 1) 0 = 0 :=
  ⟨W w0, 63, by decide +kernel⟩
theorem wit_Channels_2 : ∃ (s : State) (c : ChanId), s.dev.serving = true ∧ (s.dev.chan c.val).st = .openSt ∧
    (s.dev.chan c.val).unacked = [] ∧ (s.dev.chan c.val).queued = [] ∧ (s.dev.chan c.val).ciDirty = false :=
  ⟨W (scaleDev aChan 1), 63, by decide +kernel⟩
theorem wit_Channels_3 : ∃ (s : State) (c : ChanId), s.dev.serving = true ∧ (s.dev.chan c.val).st = .openSt ∧
    (s.dev.chan c.val).unacked ≠ [] :=
  ⟨W (scaleDev { aChan with unacked := [aPkt] } 1), 63, by decide +kernel⟩
theorem wit_Channels_4 : ∃ (s : State) (c : ChanId), s.dev.serving = true ∧ (s.dev.chan c.val).st = .error :=
  ⟨W (scaleDev { aChan with st := .error } 1), 63, by decide +kernel⟩
theorem wit_Channels_5 : ∃ (s : State) (c : ChanId) (r : ReadResult) (d : Dev), s.dev.serving = true ∧ (s.dev.chan
    c.val).st = .openSt ∧ (s.dev.chan c.val).draining = false ∧ (s.dev.chan c.val).ciDirty = false ∧ s.dev.engRead
    (s.dev.chan c.val).tenant (s.dev.chan c.val).pasid ((s.dev.chan c.val).sqBase % 2 ^ 64) 12 (s.dev.chanReq c.val 0) =
    (.data r, d) ∧ r.bad = [] ∧ leNat (r.bytes.take 4) < 2 ^ (s.dev.chan c.val).sqSize :=
  ⟨W (scaleDev aChan 1), 63, ⟨List.replicate 12 0, [], 0, 0⟩, _, four (by decide +kernel) ⟨pair_is _ _ (by decide +kernel), by decide +kernel, by decide +kernel⟩⟩
theorem wit_Channels_6 : ∃ (s : State) (c : ChanId) (b data : List Byte) (d1 d : Dev), s.dev.serving = true ∧
    (s.dev.chan c.val).st = .openSt ∧ (s.dev.chan c.val).draining = false ∧ (s.dev.chan c.val).ciDirty = false ∧
    (s.dev.chan c.val).ready = true ∧ (s.dev.chan c.val).sendIdx ≠ (s.dev.chan c.val).pi ∧ (s.dev.chan c.val).queued = []
    ∧ s.dev.chanRead c.val ((s.dev.chan c.val).sqBase + 64 + 32 * (s.dev.chan c.val).sendIdx) 32 0 = (some b, d1) ∧ sendOk
    (leNat b) = true ∧ leNat b / 2 ^ 128 % 2 ^ 24 ≠ 0 ∧ d1.chanRead c.val (leNat b / 2 ^ 192 % 2 ^ 64) (leNat b / 2 ^ 128
    % 2 ^ 24) 0 = (some data, d) ∧ (d.chan c.val).st = .openSt :=
  ⟨W sendDev, 63, leBytes (0x1000800 * 2 ^ 192 + 8 * 2 ^ 128 + 2 ^ 80 + 5) 32, List.replicate 8 0, (sendDev.chanRead 63 0x1000040 32 0).2, _, four (by decide +kernel) ⟨by decide +kernel, by decide +kernel, by decide +kernel, pair_is _ _ (by decide +kernel), by decide +kernel, by decide +kernel, pair_is _ _ (by decide +kernel), by decide +kernel⟩⟩
theorem wit_Channels_7 : ∃ (s : State) (g : LrtDatagram) (h : LrtHeader) (pl : List Byte) (ps : List (Nat × Nat ×
    Nat)) (d d1 : Dev), Lands s g 1 h pl pl ps d d1 :=
  ⟨W (scaleDev aChan 1), aGram ({ aHead 1 with len := 4 }) [1, 2, 3, 4], { aHead 1 with len := 4 }, [1, 2, 3, 4], [(0x1000000, 0, 4)], _, _, lands_of _ _ _ _ _ _ _ ([1, 2, 3, 4]) _ (by decide +kernel) (by decide +kernel) (pair_is _ _ (by decide +kernel)) (pair_is _ _ (by decide +kernel)) (by unfold Clean; decide +kernel)⟩
theorem wit_Channels_8 : ∃ (s : State) (g : LrtDatagram) (h : LrtHeader) (pl : List Byte) (ps : List (Nat × Nat ×
    Nat)) (d d1 : Dev), Lands s g 2 h pl (leBytes h.value 8) ps d d1 :=
  ⟨W (scaleDev aChan 1), aGram ({ aHead 2 with value := 5 }) [], { aHead 2 with value := 5 }, [], [(0x1000000, 0, 8)], _, _, lands_of _ _ _ _ _ _ _ (leBytes 5 8) _ (by decide +kernel) (by decide +kernel) (pair_is _ _ (by decide +kernel)) (pair_is _ _ (by decide +kernel)) (by unfold Clean; decide +kernel)⟩
theorem wit_Channels_9 : ∃ (s : State) (g : LrtDatagram) (h : LrtHeader) (pl : List Byte), s.dev.lrtIn g 1 = some (h,
    pl) ∧ (s.dev.chan h.dstCh).accepts h = true ∧ (s.dev.chan h.dstCh).held = none ∧ 1 ≤ (h.psn + 2 ^ 24 - (s.dev.chan
    h.dstCh).expected) % 2 ^ 24 :=
  ⟨W (scaleDev aChan 1), aGram { aHead 1 with len := 1, psn := 2 ^ 24 - 1 } [1], { aHead 1 with len := 1, psn := 2 ^ 24 - 1 }, [1], by decide +kernel⟩
theorem wit_Channels_10 : ∃ (s : State) (g : LrtDatagram) (h : LrtHeader) (pl : List Byte) (n : Nat), s.dev.lrtIn g 3 =
    some (h, pl) ∧ (s.dev.chan h.dstCh).accepts h = true ∧ (s.dev.chan h.dstCh).queued = [] ∧ (s.dev.chan h.dstCh).ciDirty
    = false ∧ (s.dev.chan h.dstCh).draining = false ∧ n = (h.ackPsn + 2 ^ 24 - (s.dev.chan h.dstCh).ackPsn) % 2 ^ 24 ∧ 1 ≤
    n ∧ n ≤ (s.dev.chan h.dstCh).unacked.length ∧ (∀ k ∈ (s.dev.chan h.dstCh).unacked.take n, k.last = false) :=
  ⟨W (scaleDev { aChan with unacked := [aPkt, { aPkt with psn := 1 }] } 1), aGram { aHead 3 with ackPsn := 2 } [], { aHead 3 with ackPsn := 2 }, [], 2, by decide +kernel⟩
theorem wit_Channels_11 : ∃ (s : State) (g : LrtDatagram) (h : LrtHeader) (pl : List Byte), s.dev.lrtIn g 4 = some (h,
    pl) ∧ (s.dev.chan h.dstCh).accepts h = true ∧ h.nak = 0 ∧ h.ackPsn = (s.dev.chan h.dstCh).ackPsn ∧ h.ackPsn < 2 ^ 24
    :=
  ⟨W (scaleDev { aChan with unacked := [aPkt] } 1), aGram (aHead 4) [], aHead 4, [], by decide +kernel⟩
theorem wit_Channels_12 : ∃ (s : State) (g : LrtDatagram) (h : LrtHeader) (pl : List Byte), s.dev.lrtIn g 4 = some (h,
    pl) ∧ (s.dev.chan h.dstCh).accepts h = true ∧ h.nak ≠ 0 :=
  ⟨W (scaleDev { aChan with unacked := [aPkt] } 1), aGram { aHead 4 with nak := 2 } [], { aHead 4 with nak := 2 }, [], by decide +kernel⟩
theorem wit_Channels_13 : ∃ (s : State) (c : ChanId), s.dev.serving = true ∧ (s.dev.chan c.val).st = .openSt ∧
    (s.dev.chan c.val).toAck ≠ 0 ∧ 50 + (s.dev.chan c.val).ackSince ≤ s.dev.pwr.tick :=
  ⟨W (scaleDev { aChan with toAck := 1, ackSince := 9999999950 } 1), 63, by decide +kernel⟩
theorem wit_Channels_14 : ∃ (s : State) (c : ChanId), s.dev.serving = true ∧ (s.dev.chan c.val).st = .openSt ∧
    (s.dev.chan c.val).unacked ≠ [] ∧ (s.dev.chan c.val).rtoStart + (s.dev.chan c.val).rto ≤ s.dev.pwr.tick :=
  ⟨W (scaleDev { aChan with unacked := [aPkt], rtoStart := 9999999750 } 1), 63, by decide +kernel⟩

/-! ### PacketsReadBack -/

theorem wit_PacketsReadBack_all : ∃ (h : LrtHeader) (pl : List Byte) (mx : Nat), 1 ≤ h.type ∧ h.type ≤ 6 ∧ h.srcMember <
    32 ∧ h.dstMember < 32 ∧ h.dstCh < 64 ∧ h.srcCh < 64 ∧ h.group < 2 ^ 16 ∧ h.psn < 2 ^ 24 ∧ h.ackPsn < 2 ^ 24 ∧ h.offset
    < 2 ^ 40 ∧ h.value < 2 ^ 64 ∧ (h.type = 4 → h.nak < 3) ∧ (h.type ≠ 4 → h.nak = 0) ∧ (h.type ≠ 2 → h.value = 0) ∧ h.len
    = pl.length ∧ (h.type = 1 → 1 ≤ pl.length ∧ pl.length ≤ mx) ∧ (h.type ≠ 1 → pl = []) ∧ mx < 2 ^ 16 :=
  ⟨{ aHead 1 with dstMember := 31, len := 2, psn := 2 ^ 24 - 1, offset := 2 ^ 40 - 1 }, [1, 2], 4096, by decide +kernel⟩

/-! ### MeterMeasures -/

theorem wit_MeterMeasures_0 : ∃ (s : State) (v i : BitVec 24) (vo io : Bool) (x : AuxSample) (a b : MSample),
    s.gnt.powered = true ∧ s.gnt.auxCount < 15 ∧ s.gnt.lowV = 0 ∧ s.gnt.delayed = [a, b] :=
  ⟨G { delayed := [⟨5, true, false, true⟩, ⟨0, false, false, true⟩], lastGood := List.replicate 16 1 }, 2 ^ 22, 1, false, false, ⟨3, 400⟩, ⟨5, true, false, true⟩, ⟨0, false, false, true⟩, by decide +kernel⟩
theorem wit_MeterMeasures_1 : ∃ (s : State), s.gnt.powered = true ∧ s.gnt.mode = .substituting ∧ 16000 ≤ s.gnt.window :=
  ⟨G { mode := .substituting, window := 16000 }, by decide +kernel⟩

/-! ### MeterStops -/

theorem wit_MeterStops_0 : ∃ (s : State) (v i : BitVec 24) (vo io : Bool) (x : AuxSample), s.gnt.powered = true ∧
    s.gnt.auxCount < 15 ∧ Good s.gnt ∧ 1 ≤ s.gnt.lowV ∧ s.gnt.cal.volts (meterCode v vo) < 2 ^ 52 :=
  ⟨G { lowV := 1 }, 0, 0, false, false, ⟨3, 400⟩, by unfold Good; decide +kernel⟩
theorem wit_MeterStops_1 : ∃ (s : State) (v i : BitVec 24) (vo io : Bool) (x : AuxSample), s.gnt.powered = true ∧
    s.gnt.settle = 0 ∧ x.input.val = 0 ∧ s.gnt.auxMux = 0 ∧ s.gnt.auxCount = 15 ∧ s.gnt.lowV = 0 ∧ s.gnt.mode ≠ .overtemp
    ∧ 1 ≤ s.gnt.a0Hot ∧ 2000 ≤ groupReading (s.gnt.auxGroup ++ [x.value]) :=
  ⟨G { auxCount := 15, a0Hot := 1 }, 2 ^ 22, 0, false, false, ⟨0, 2000⟩, four (by decide +kernel) (four (by decide +kernel) ((by decide : (2000 : Int) ≤ [2000].foldl min 2000).trans (le_max_left _ _)))⟩
theorem wit_MeterStops_2 : ∃ (s : State) (v i : BitVec 24) (vo io : Bool) (x : AuxSample), s.gnt.powered = true ∧
    s.gnt.settle = 0 ∧ x.input.val = 0 ∧ s.gnt.auxMux = 0 ∧ s.gnt.auxCount = 15 ∧ s.gnt.lowV = 0 ∧ s.gnt.mode = .overtemp
    ∧ 1 ≤ s.gnt.a0Cool ∧ groupReading (s.gnt.auxGroup ++ [x.value]) ≤ 1840 ∧ s.gnt.writing = none :=
  ⟨G { auxCount := 15, a0Cool := 1, mode := .overtemp }, 2 ^ 22, 0, false, false, ⟨0, 1840⟩, four (by decide +kernel) (four (by decide +kernel) ⟨max_le (by decide) ((min_le_left _ _).trans (by decide)), by decide +kernel⟩)⟩
theorem wit_MeterStops_3 : ∃ (s : State) (q : JReq), s.gnt.powered = true ∧ s.gnt.mode = .overtemp ∧ s.gnt.writing = none :=
  ⟨G { mode := .overtemp }, { kind := 3 }, by decide +kernel⟩

/-! ### MeterBreaksAndRestarts -/

theorem wit_MeterBreaksAndRestarts_0 : ∃ (s : State) (p : Fin 2), s.gnt.powered = true ∧ s.gnt.openPairs.testBit p.val
    = false :=
  ⟨G { openPairs := 1 }, 1, by decide +kernel⟩
theorem wit_MeterBreaksAndRestarts_1 : ∃ (s : State) (p : Fin 2), s.gnt.powered = true ∧ s.gnt.openPairs.testBit p.val
    = true :=
  ⟨G { openPairs := 3 }, 0, by decide +kernel⟩
theorem wit_MeterBreaksAndRestarts_2 : ∃ (s : State) (cover trace : Bool), s.dev.pwr.v54 = false :=
  ⟨W { w0 with pwr := { w0.pwr with v54 := false } }, false, false, by decide +kernel⟩
theorem wit_MeterBreaksAndRestarts_3 : ∃ (s : State) (cover trace : Bool), s.dev.pwr.v54 = true ∧ s.gnt.powered =
    false :=
  ⟨W w0, false, true, by decide +kernel⟩
theorem wit_MeterBreaksAndRestarts_4 : ∃ (s : State), s.gnt.powered = true :=
  ⟨G {}, by decide +kernel⟩
theorem wit_MeterBreaksAndRestarts_5 : ∃ (s : State), s.gnt.powered = true :=
  ⟨G {}, by decide +kernel⟩
theorem wit_MeterBreaksAndRestarts_6 : ∃ (s : State) (ch : SealChange) (c b : Bool) (q : List JReq),
    s.gnt.powered = true ∧ (c, b, q) = (match ch with
      | .coverOpen => (true, s.gnt.traceBroken, if s.gnt.coverOpen then [] else [s.gnt.eventReq 0x05 0])
      | .coverClosed => (false, s.gnt.traceBroken, if s.gnt.coverOpen then [s.gnt.eventReq 0x06 0] else [])
      | .traceBroken => (s.gnt.coverOpen, true, if s.gnt.traceBroken then [] else [s.gnt.eventReq 0x07 0])
      | .traceIntact => (s.gnt.coverOpen, false, if s.gnt.traceBroken then [s.gnt.eventReq 0x08 0] else [])) :=
  ⟨G { coverOpen := true }, .coverClosed, _, _, _, by decide +kernel, rfl⟩

/-! ### JournalAndPort -/

theorem wit_JournalAndPort_0 : ∃ (s : State), s.gnt.powered = true ∧ s.gnt.cal.setPeriod * 16000 ≤ s.gnt.sinceSet :=
  ⟨G { sinceSet := 960000 }, by decide +kernel⟩
theorem wit_JournalAndPort_1 : ∃ (s : State) (w : JWrite), s.gnt.powered = true ∧ s.gnt.writing = some w :=
  ⟨G { writing := some ⟨{ kind := 5, set := 1 }, ⟨1, 0, 0, 1, 5, 0, 0, [], 0⟩⟩ }, ⟨{ kind := 5, set := 1 }, ⟨1, 0, 0, 1, 5, 0, 0, [], 0⟩⟩, by decide +kernel⟩
theorem wit_JournalAndPort_2 : ∃ (s : State) (w : JWrite), s.gnt.powered = true ∧ s.gnt.writing = some w ∧ s.gnt.mode
    ≠ .overtemp ∧ s.gnt.retried = false :=
  ⟨G { writing := some ⟨{ kind := 5, set := 1 }, ⟨1, 0, 0, 1, 5, 0, 0, [], 0⟩⟩ }, ⟨{ kind := 5, set := 1 }, ⟨1, 0, 0, 1, 5, 0, 0, [], 0⟩⟩, by decide +kernel⟩
theorem wit_JournalAndPort_3 : ∃ (s : State) (w : JWrite), s.gnt.powered = true ∧ s.gnt.writing = some w ∧ s.gnt.mode
    ≠ .overtemp ∧ s.gnt.retried = true :=
  ⟨G { writing := some ⟨{ kind := 5, set := 1 }, ⟨1, 0, 0, 1, 5, 0, 0, [], 0⟩⟩, retried := true }, ⟨{ kind := 5, set := 1 }, ⟨1, 0, 0, 1, 5, 0, 0, [], 0⟩⟩, by decide +kernel⟩
theorem wit_JournalAndPort_4 : ∃ (s : State) (n : BitVec 56), PortAnswers s :=
  ⟨{ G {  } with met := { addr := 8 } }, 1, by unfold PortAnswers; decide +kernel⟩
theorem wit_JournalAndPort_5 : ∃ (s : State), PortAnswers s :=
  ⟨{ G {  } with met := { addr := 8 } }, by unfold PortAnswers; decide +kernel⟩
theorem wit_JournalAndPort_6 : ∃ (s : State), PortAnswers s :=
  ⟨{ G {  } with met := { addr := 8 } }, by unfold PortAnswers; decide +kernel⟩
theorem wit_JournalAndPort_7 : ∀ sig : List Byte, sig.length ≤ 96 → ecdsaVerifies (beBytes Config.calKey 96) sig
    (sha384 (Cal.bytes {} ++ leBytes 0 4)) = true → ∃ (s : State) (b : List Byte) (c : Cal), PortAnswers s ∧ calOf b =
    some c ∧ Accepted s.gnt b sig ∧ s.gnt.mode ≠ .overtemp :=
  fun _ hl h => ⟨{ G { coverOpen := true, traceBroken := true } with met := { addr := 8 } }, Cal.bytes {}, {}, by unfold PortAnswers; decide +kernel, by decide +kernel, ⟨rfl, rfl, by decide, h⟩, by decide⟩
theorem wit_JournalAndPort_8 : ∃ (s : State) (b sig : List Byte), PortAnswers s ∧ (calOf b = none ∨ ¬ Accepted s.gnt b
    sig) :=
  ⟨{ G { coverOpen := true } with met := { addr := 8 } }, Cal.bytes {}, [], by unfold PortAnswers; decide +kernel, Or.inr (fun h => absurd h.1 (by decide))⟩
theorem wit_JournalAndPort_9 : ∀ sig : List Byte, sig.length ≤ 96 → ecdsaVerifies (beBytes Config.calKey 96) sig
    (sha384 ([1, 2] ++ leBytes 0 4)) = true → ∃ (s : State) (b : List Byte), PortAnswers s ∧ Accepted s.gnt b sig ∧
    s.gnt.mode ≠ .overtemp ∧ b.length + sig.length ≤ 1048576 :=
  fun _ hl h => ⟨{ G { coverOpen := true, traceBroken := true } with met := { addr := 8 } }, [1, 2], by unfold PortAnswers; decide +kernel, ⟨rfl, rfl, by decide, h⟩, by decide, by
    show 2 + _ ≤ _; omega⟩
theorem wit_JournalAndPort_10 : ∃ (s : State) (b sig : List Byte), PortAnswers s ∧ (1048576 < b.length + sig.length ∨
    ¬ Accepted s.gnt b sig) :=
  ⟨{ G { coverOpen := true } with met := { addr := 8 } }, [1, 2], [], by unfold PortAnswers; decide +kernel, Or.inr (fun h => absurd h.1 (by decide))⟩
theorem wit_JournalAndPort_11 : ∃ (s : State) (n : BitVec 56) (b sig : List Byte), ¬ PortAnswers s :=
  ⟨G {}, 1, [], [], by unfold PortAnswers; decide +kernel⟩

/-! ### Apportionment -/

theorem wit_Apportionment_all : ∃ (s : State) (r : OccReport) (rest : List OccReport) (e base b0 w iv : Nat) (tot :
    Nat → Nat), s.occChan = r :: rest ∧ s.gnt.powered = true ∧ e = s.gnt.pendingE ∧ iv = s.gnt.met - s.gnt.reportAt ∧
    Nearest b0 (s.gnt.cal.baseMw * iv * 625 * 2 ^ 32) 36000000000000 ∧ base = Nat.min e b0 ∧ w = r.weights.sum ∧ (∀ n,
    tot n = (e - base) * r.weights.getD n 0 / w) :=
  ⟨{ G { pendingE := 2 ^ 40, lastReport := some 3, met := 160, cal := { baseMw := 300000 } } with occChan := [⟨4, 0, false, true, 250000 :: List.replicate 63 0⟩] }, ⟨4, 0, false, true, 250000 :: List.replicate 63 0⟩, [], _, _, 3579139, _, _, _, rfl, rfl, rfl, rfl, by unfold Nearest; decide +kernel, rfl, rfl, fun _ => rfl⟩

/-! ### OccupancyAndMirror -/

theorem wit_OccupancyAndMirror_0 : ∃ (s : State), s.dev.live = true ∧ s.dev.mirror.occFrom + 250000 ≤ s.dev.pwr.tick :=
  ⟨W { w0 with mirror := { occFrom := 9999750000, occAcc := [(63, 5)] } }, by decide +kernel⟩
theorem wit_OccupancyAndMirror_1 : ∃ (s : State), s.gnt.powered = true ∧ s.dev.live = true ∧ (∀ x, s.gnt.lastFrame =
    some x → x + 16 ≤ s.gnt.met) :=
  ⟨G { mode := .measuring, lastFrame := some 0, met := 16 }, by decide +kernel, by decide +kernel, fun x h => by cases h; decide⟩
theorem wit_OccupancyAndMirror_2 : ∃ (s : State), s.dev.live = true ∧ s.dev.pwr.v54 = true ∧ s.dev.mirror.lastFrame +
    250000 ≤ s.dev.pwr.tick :=
  ⟨W { w0 with mirror := { lastFrame := 9999750000 } }, by decide +kernel⟩

/-! ### ErrorControl -/

theorem wit_ErrorControl_0 : ∃ (s : State) (n : FnId) (irq : Bool), s.dev.serving = true ∧ (s.dev.errRing n.val).st ≠
    .enabled ∧ s.dev.obj 0xA000 1 n.val ≠ 0 ∧ (n.val ≠ 0 ∨ s.dev.err.held = []) :=
  ⟨W { w0.setObj 0xA000 1 63 0x1000000 with err := { held := [⟨1, 0, 0⟩] } }, 63, true, by decide +kernel⟩
theorem wit_ErrorControl_1 : ∃ (s : State) (irq : Bool), s.dev.serving = true ∧ (s.dev.errRing 0).st ≠ .enabled ∧
    s.dev.obj 0xA000 1 0 ≠ 0 :=
  ⟨W { w0.setObj 0xA000 1 0 0x1000000 with err := { held := [⟨1, 0, 0⟩] } }, true, by decide +kernel⟩
theorem wit_ErrorControl_2 : ∃ (s : State) (n : FnId) (irq : Bool), s.dev.serving = true ∧ (s.dev.errRing n.val).st ≠
    .enabled ∧ s.dev.obj 0xA000 1 n.val = 0 :=
  ⟨W w0, 63, true, by decide +kernel⟩
theorem wit_ErrorControl_3 : ∃ (s : State) (n : FnId) (irq : Bool), s.dev.serving = true ∧ (s.dev.errRing n.val).st =
    .enabled :=
  ⟨W { w0 with err := { rings := [(63, { st := .enabled })] } }, 63, true, by decide +kernel⟩
theorem wit_ErrorControl_4 : ∃ (s : State) (n : FnId), s.dev.serving = true :=
  ⟨W { w0 with err := { rings := [(63, { st := .enabled, waiting := [5] })] } }, 63, by decide +kernel⟩
theorem wit_ErrorControl_5 : ∃ (s : State) (n : FnId) (u : Nat), s.dev.serving = true ∧ (s.dev.errRing n.val).irq =
    true ∧ (s.dev.errRing n.val).uncovered = some u ∧ u + s.dev.obj 0xA005 0 n.val ≤ s.dev.pwr.tick :=
  ⟨W ({ w0 with err := { rings := [(63, { st := .enabled, irq := true, uncovered := some 9999999750 })] } }.setObj 0xA005 0 63 250), 63, 9999999750, by decide +kernel⟩
theorem wit_ErrorControl_6 : ∃ (s : State) (n : FnId), s.dev.serving = true :=
  ⟨W { w0 with err := { rings := [(63, { st := .enabled, waiting := [5] })] } }, 63, by decide +kernel⟩
theorem wit_ErrorControl_7 : ∃ (s : State), s.dev.serving = true ∧ s.dev.obj 0x3804 0 0 = 1 :=
  ⟨W (w0.setObj 0x3804 0 0 1), by decide +kernel⟩
theorem wit_ErrorControl_8 : ∃ (s : State), s.dev.serving = true ∧ s.dev.obj 0x3804 0 0 ≠ 1 :=
  ⟨W (w0.setObj 0x3804 0 0 0), by decide +kernel⟩
theorem wit_ErrorControl_9 : ∃ (s : State), s.dev.live = true ∧ s.dev.err.unlockUntil ≠ none :=
  ⟨W { w0 with err := { unlockUntil := some 5 } }, by decide +kernel⟩
theorem wit_ErrorControl_10 : ∃ (s : State) (u : Nat), s.dev.live = true ∧ s.dev.err.unlockUntil = some u ∧ u ≤
    s.dev.pwr.tick :=
  ⟨W { w0 with err := { unlockUntil := some 10000000000 } }, 10000000000, by decide +kernel⟩
theorem wit_ErrorControl_11 : ∃ (s : State) (u : Nat), s.dev.live = true ∧ s.dev.err.unlockUntil = some u ∧
    s.dev.pwr.tick < u :=
  ⟨W { w0 with err := { unlockUntil := some 10000000001 } }, 10000000001, by decide +kernel⟩
theorem wit_ErrorControl_12 : ∃ (s : State) (v : BitVec 128) (bits off : Nat), s.dev.live = true ∧
    s.dev.err.unlockUntil ≠ none ∧ 1 ≤ bits ∧ bits ≤ 2 ∧ v.toNat = flipValue 2 bits 0 off ∧ off < s.dev.hbmTop ∧ off < 2 ^
    112 :=
  ⟨W { w0 with err := { unlockUntil := some 5 } }, BitVec.ofNat 128 (flipValue 2 2 0 64), 2, 64, by decide +kernel⟩
theorem wit_ErrorControl_13 : ∃ (s : State) (v : BitVec 128) (k : TileId) (bits off : Nat), s.dev.live = true ∧
    s.dev.err.unlockUntil ≠ none ∧ 1 ≤ bits ∧ bits ≤ 2 ∧ v.toNat = flipValue 0 bits k.val off ∧ off < 393216 ∧ s.dev.has
    k.val = true :=
  ⟨W { w0 with err := { unlockUntil := some 5 } }, BitVec.ofNat 128 (flipValue 0 1 127 393215), 127, 1, 393215, by decide +kernel⟩
theorem wit_ErrorControl_14 : ∃ (s : State) (v : BitVec 128) (k : TileId) (bits off : Nat), s.dev.live = true ∧
    s.dev.err.unlockUntil ≠ none ∧ 1 ≤ bits ∧ bits ≤ 2 ∧ v.toNat = flipValue 1 bits k.val off ∧ off < 2097152 ∧ s.dev.has
    k.val = true :=
  ⟨W { w0 with err := { unlockUntil := some 5 } }, BitVec.ofNat 128 (flipValue 1 2 127 2097151), 127, 2, 2097151, by decide +kernel⟩
theorem wit_ErrorControl_15 : ∃ (s : State) (v : BitVec 128), s.dev.err.unlockUntil = none :=
  ⟨W w0, 0, by decide +kernel⟩
theorem wit_ErrorControl_16 : ∃ (m : Mem) (l : Nat) (bs : List Byte) (a : Arm), bs.length = 64 ∧ m.armed.find? (fun a
    => a.word == l) = some a :=
  ⟨{ armed := [⟨3, 1⟩] }, 3, List.replicate 64 0, ⟨3, 1⟩, by decide +kernel⟩
theorem wit_ErrorControl_16_1 : ∃ (m : Mem) (l : Nat) (bs : List Byte) (a : Arm), bs.length = 64 ∧ m.armed.find? (fun a
    => a.word == l) = some a :=
  ⟨{ armed := [⟨3, 1⟩] }, 3, List.replicate 64 0, ⟨3, 1⟩, by decide +kernel⟩
theorem wit_ErrorControl_17 : ∃ (s : State) (x : Die), s.dev.live = true ∧ s.dev.boot.beyby = false ∧ -32768 ≤
    (s.dev.die (dieNum x)).sample ∧ (s.dev.die (dieNum x)).sample < 32768 :=
  ⟨W { w0 with therm := { dies := [(1, { sample := -32768 })] } }, .chip 0, by decide +kernel⟩

/-! ### RecordsAndEntries -/

theorem wit_RecordsAndEntries_0 : ∃ (d : Dev) (r : Rec), r.tenant < 64 ∧ r.code < 256 ∧ (r.code = 0x02 ∨ r.code = 0x26
    → ∀ n, (d.errRing n).st ≠ .enabled ∧ (d.errRing n).waiting = []) :=
  ⟨w0, { code := 0x25, tenant := 63, source := 0x84 }, by decide, by decide, fun h => absurd h (by decide)⟩
theorem wit_RecordsAndEntries_0_1 : ∃ (d : Dev) (r : Rec), r.tenant < 64 ∧ r.code < 256 ∧ (r.code = 0x02 ∨ r.code =
    0x26 → ∀ n, (d.errRing n).st ≠ .enabled ∧ (d.errRing n).waiting = []) ∧ pathEr r.code = true :=
  ⟨w0, { code := 0x25, tenant := 63, source := 0x84 }, by decide, by decide, fun h => absurd h (by decide), by decide⟩
theorem wit_RecordsAndEntries_0_2 : ∃ (d : Dev) (r : Rec), r.tenant < 64 ∧ r.code < 256 ∧ (r.code = 0x02 ∨ r.code =
    0x26 → ∀ n, (d.errRing n).st ≠ .enabled ∧ (d.errRing n).waiting = []) ∧ pathEr0 r.code = true :=
  ⟨w0, { code := 0x53 }, by decide, by decide, fun h => absurd h (by decide), by decide⟩
theorem wit_RecordsAndEntries_0_3 : ∃ (d : Dev) (r : Rec), r.tenant < 64 ∧ r.code < 256 ∧ (r.code = 0x02 ∨ r.code =
    0x26 → ∀ n, (d.errRing n).st ≠ .enabled ∧ (d.errRing n).waiting = []) ∧ pathEr r.code = false ∧ pathEr0 r.code =
    false :=
  ⟨w0, { code := 0x05, tenant := 63 }, by decide, by decide, fun h => absurd h (by decide), by decide⟩
theorem wit_RecordsAndEntries_1 : ∃ (d d1 d2 : Dev) (n e q : Nat) (ps : List (Nat × Nat × Nat)), (d.errRing n).waiting
    = [e] ∧ (q = (if ((d.errRing n).seq + 1) % 2 ^ 32 = 0 then 1 else ((d.errRing n).seq + 1) % 2 ^ 32)) ∧ d.translateSpan
    n (d.errRing n).pasid (((d.errRing n).base + 64 * (q % 2 ^ (d.errRing n).size)) % 2 ^ 64) 64 1 { source := 0x8A, tag
    := n } = (some ps, d1) ∧ d1.ownOkAll n ps true = (true, d2) :=
  ⟨{ scaleDev {} 0 with err := { rings := [(0, { st := .enabled, base := 0x1000000, waiting := [5] })] }, stu := { (scaleDev {} 0).stu with iotlb := [⟨0, 0, 0, false, 0x1000, 512, 0x1000, true, true, true⟩] } }, _, _, 0, 5, 1, [(0x1000040, 0, 64)], by decide +kernel, by decide +kernel, pair_is _ _ (by decide +kernel), pair_is _ _ (by decide +kernel)⟩
theorem wit_RecordsAndEntries_1_3 : ∃ (d d1 d2 : Dev) (n e q : Nat) (ps : List (Nat × Nat × Nat)), (d.errRing
    n).waiting = [e] ∧ (q = (if ((d.errRing n).seq + 1) % 2 ^ 32 = 0 then 1 else ((d.errRing n).seq + 1) % 2 ^ 32)) ∧
    d.translateSpan n (d.errRing n).pasid (((d.errRing n).base + 64 * (q % 2 ^ (d.errRing n).size)) % 2 ^ 64) 64 1 {
    source := 0x8A, tag := n } = (some ps, d1) ∧ d1.ownOkAll n ps true = (true, d2) ∧ (d.errRing n).irq = true ∧ d.obj
    0xA005 0 n = 0 :=
  ⟨{ scaleDev {} 0 with err := { rings := [(0, { st := .enabled, base := 0x1000000, waiting := [5], irq := true })] }, stu := { (scaleDev {} 0).stu with iotlb := [⟨0, 0, 0, false, 0x1000, 512, 0x1000, true, true, true⟩] } }, _, _, 0, 5, 1, [(0x1000040, 0, 64)], by decide +kernel, by decide +kernel, pair_is _ _ (by decide +kernel), pair_is _ _ (by decide +kernel), by decide +kernel⟩
theorem wit_RecordsAndEntries_1_3_1 : ∃ (d d1 d2 : Dev) (n e q : Nat) (ps : List (Nat × Nat × Nat)), (d.errRing
    n).waiting = [e] ∧ (q = (if ((d.errRing n).seq + 1) % 2 ^ 32 = 0 then 1 else ((d.errRing n).seq + 1) % 2 ^ 32)) ∧
    d.translateSpan n (d.errRing n).pasid (((d.errRing n).base + 64 * (q % 2 ^ (d.errRing n).size)) % 2 ^ 64) 64 1 {
    source := 0x8A, tag := n } = (some ps, d1) ∧ d1.ownOkAll n ps true = (true, d2) ∧ (d.errRing n).irq = true ∧ d.obj
    0xA005 0 n = 0 ∧ (d.fn n).msixEn = true ∧ (d.fn n).unmasked.testBit 1 = true :=
  ⟨{ scaleDev {} 0 with err := { rings := [(0, { st := .enabled, base := 0x1000000, waiting := [5], irq := true })] }, stu := { (scaleDev {} 0).stu with iotlb := [⟨0, 0, 0, false, 0x1000, 512, 0x1000, true, true, true⟩] }, fns := [(0, { msixEn := true, unmasked := 2 })] }, _, _, 0, 5, 1, [(0x1000040, 0, 64)], by decide +kernel, by decide +kernel, pair_is _ _ (by decide +kernel), pair_is _ _ (by decide +kernel), by decide +kernel⟩
theorem wit_RecordsAndEntries_1_4 : ∃ (d d1 d2 : Dev) (n e q : Nat) (ps : List (Nat × Nat × Nat)), (d.errRing
    n).waiting = [e] ∧ (q = (if ((d.errRing n).seq + 1) % 2 ^ 32 = 0 then 1 else ((d.errRing n).seq + 1) % 2 ^ 32)) ∧
    d.translateSpan n (d.errRing n).pasid (((d.errRing n).base + 64 * (q % 2 ^ (d.errRing n).size)) % 2 ^ 64) 64 1 {
    source := 0x8A, tag := n } = (some ps, d1) ∧ d1.ownOkAll n ps true = (true, d2) ∧ ((d.errRing n).irq = false ∨
    d.obj 0xA005 0 n ≠ 0) :=
  ⟨{ scaleDev {} 0 with err := { rings := [(0, { st := .enabled, base := 0x1000000, waiting := [5] })] }, stu := { (scaleDev {} 0).stu with iotlb := [⟨0, 0, 0, false, 0x1000, 512, 0x1000, true, true, true⟩] } }, _, _, 0, 5, 1, [(0x1000040, 0, 64)], by decide +kernel, by decide +kernel, pair_is _ _ (by decide +kernel), pair_is _ _ (by decide +kernel), by decide +kernel⟩
theorem wit_RecordsAndEntries_2 : ∃ (d d1 d2 : Dev) (n e q : Nat) (ps : List (Nat × Nat × Nat)), n ≠ 0 ∧ (d.errRing
    n).waiting = [e] ∧ (d.errRing 0).st ≠ .enabled ∧ (d.errRing 0).waiting = [] ∧ (q = (if ((d.errRing n).seq + 1) % 2 ^
    32 = 0 then 1 else ((d.errRing n).seq + 1) % 2 ^ 32)) ∧ d.translateSpan n (d.errRing n).pasid (((d.errRing n).base +
    64 * (q % 2 ^ (d.errRing n).size)) % 2 ^ 64) 64 1 { source := 0x8A, tag := n } = (some ps, d1) ∧ d1.ownOkAll n ps true
    = (false, d2) ∧ n < 64 :=
  ⟨{ scaleDev {} 0 with err := { rings := [(1, { st := .enabled, base := 0x1000000, waiting := [5] })] }, stu := { (scaleDev {} 0).stu with iotlb := [⟨1, 0, 0, false, 0x1000, 512, 0x1000, true, true, true⟩] } }, _, _, 1, 5, 1, [(0x1000040, 0, 64)], four (by decide +kernel) ⟨by decide +kernel, pair_is _ _ (by decide +kernel), pair_is _ _ (by decide +kernel), by decide +kernel⟩⟩

/-! ### FrontOfTheQueue -/

theorem wit_FrontOfTheQueue_1 : ∃ (s : State), s.pending = [] ∧ s.dev.pwr.aon = true :=
  ⟨W { w0 with pwr := { w0.pwr with aon := true } }, by decide +kernel⟩
theorem wit_FrontOfTheQueue_2 : ∃ (s : State), s.pending = [] ∧ s.dev.pwr.aon = false :=
  ⟨W { w0 with pwr := { w0.pwr with aon := false } }, by decide +kernel⟩

/-! ### MeterApart -/

theorem wit_MeterApart_1 : ∃ (s t : State), exec .occupancyReport s = .next t :=
  ⟨{ G { pendingE := 2 ^ 40, lastReport := some 3, met := 160 } with occChan := [⟨4, 0, false, true, 250000 :: List.replicate 63 0⟩] }, _, rfl⟩

/-! ### EnergyBalanceKept -/

theorem wit_EnergyBalanceKept_all : ∃ (s t : State), MeterInv s ∧ step s = .next t :=
  ⟨{ { G { pendingE := 2 ^ 40, lastReport := some 3, met := 160 } with occChan := [⟨4, 0, false, true, 250000 :: List.replicate 63 0⟩] } with pending := [.occupancyReport] }, _, by unfold MeterInv Stm.Balanced Pend; decide +kernel, rfl⟩

end Sys2Proof.Tests
end

/-! ## The test access port (R42, R43, R45; log 56)

Every command of the port but IDCODE's read is one call of `Dev.jtagLoad`, directly or, for the instructions that need
PERST_N asserted, through `Dev.jtagPins`. The laws below say once what a load leaves in the port, by the three ways an
instruction stands to the bypass register and to PERST_N. -/

namespace Sys2Proof.Machine

/-! ### What a load leaves -/

/-- BYPASS, HIGHZ and CLAMP put the bypass register between TDI and TDO, and it captures 0 (log 56). -/
theorem Dev.jtagLoad_of_bypass_selected {d : Dev} {eff : JtagIr} (hd : d.pwr.aon = true) (op : BitVec 8)
    (he : eff = .bypass ∨ eff = .highz ∨ eff = .clamp) :
    d.jtagLoad op eff = { d with jtag := { d.jtag with ir := op, eff := eff, bypassReg := false } } := by
  rcases he with rfl | rfl | rfl <;> simp [Dev.jtagLoad, hd]

/-- The other instructions select another register and leave the bypass register as it is. -/
theorem Dev.jtagLoad_of_bypass_unselected {d : Dev} {eff : JtagIr} (hd : d.pwr.aon = true) (op : BitVec 8)
    (he : eff = .extest ∨ eff = .idcode ∨ eff = .sample) :
    d.jtagLoad op eff = { d with jtag := { d.jtag with ir := op, eff := eff } } := by
  rcases he with rfl | rfl | rfl <;> simp [Dev.jtagLoad, hd]

/-- HIGHZ and CLAMP capture 0 in the bypass register whether or not PERST_N lets them act, for BYPASS does so too. -/
theorem Dev.jtagPins_of_highz_or_clamp {d : Dev} {eff : JtagIr} (hd : d.pwr.aon = true) (op : BitVec 8)
    (he : eff = .highz ∨ eff = .clamp) :
    d.jtagPins op eff = { d with jtag := { d.jtag with
      ir := op, eff := if d.pwr.perst then eff else .bypass, bypassReg := false } } := by
  have hsel : (if d.pwr.perst then eff else .bypass) = .bypass ∨
      (if d.pwr.perst then eff else .bypass) = .highz ∨ (if d.pwr.perst then eff else .bypass) = .clamp := by
    split
    · exact .inr he
    · exact .inl rfl
  exact Dev.jtagLoad_of_bypass_selected hd op hsel

/-- EXTEST keeps the bypass register only where it acts as itself; as BYPASS it captures 0 (R43). -/
theorem Dev.jtagPins_extest {d : Dev} (hd : d.pwr.aon = true) (op : BitVec 8) :
    d.jtagPins op .extest = { d with jtag := { d.jtag with
      ir := op, eff := if d.pwr.perst then .extest else .bypass, bypassReg := d.pwr.perst && d.jtag.bypassReg } } := by
  unfold Dev.jtagPins
  cases hp : d.pwr.perst with
  | true => simp [Dev.jtagLoad_of_bypass_unselected hd op (.inl rfl)]
  | false => simp [Dev.jtagLoad_of_bypass_selected hd op (.inl rfl)]

/-! ### What the instruction in effect drives (Table 2.8) -/

theorem Dev.pinDrive_of_extest_or_clamp {d : Dev} (h : d.jtag.eff = .extest ∨ d.jtag.eff = .clamp) :
    d.pinDrive = .boundary d.jtag.boundary := by
  rcases h with h | h <;> simp [Dev.pinDrive, h]

theorem Dev.pinDrive_of_highz {d : Dev} (h : d.jtag.eff = .highz) : d.pinDrive = .floating := by
  simp [Dev.pinDrive, h]

theorem Dev.pinDrive_of_idcode_or_sample_or_bypass {d : Dev}
    (h : d.jtag.eff = .idcode ∨ d.jtag.eff = .sample ∨ d.jtag.eff = .bypass) : d.pinDrive = .mission := by
  rcases h with h | h | h <;> simp [Dev.pinDrive, h]

/-! ### The commands, by the load each performs -/

theorem exec_jtagTapReset (s : State) :
    exec .jtagTapReset s = .next { s with dev := s.dev.jtagLoad 0x01 .idcode } := rfl

theorem exec_jtagExtest (s : State) :
    exec .jtagExtest s = .next { s with dev := s.dev.jtagPins 0x00 .extest } := rfl

theorem exec_jtagHighz (s : State) :
    exec .jtagHighz s = .next { s with dev := s.dev.jtagPins 0x03 .highz } := rfl

theorem exec_jtagClamp (s : State) :
    exec .jtagClamp s = .next { s with dev := s.dev.jtagPins 0x04 .clamp } := rfl

theorem exec_jtagIdcode_of_aon {s : State} (hs : s.dev.pwr.aon = true) :
    exec .jtagIdcode s = .next { s with dev := (s.dev.jtagLoad 0x01 .idcode).emit (.jtag 0x1A47C0E5) } := by
  change execJtagIdcode s = _
  simp [execJtagIdcode, onDev, hs]

/-- A code that Table 2.8 gives to no other instruction loads BYPASS. -/
theorem exec_jtagBypass_of_unlisted (s : State) {op : BitVec 8} (hop : 4 < op.toNat) :
    exec (.jtagBypass op) s = .next { s with dev := s.dev.jtagLoad op .bypass } := by
  change execJtagBypass op s = _
  simp [execJtagBypass, onDev, Nat.not_le.mpr hop]

/-- Settles O5: each command is its load, and the load's law gives the state it leaves. -/
theorem testAccessPort : Obligations.TestAccessPort := by
  unfold Obligations.TestAccessPort
  refine ⟨fun s hs => ?tapReset, fun s hs => ?idcode, fun s hs => ?extest, fun s hs => ?highz, fun s hs => ?clamp,
    fun s op hs hop => ?bypass, fun d => ?pinDrive, ?parts⟩
  case tapReset => rw [exec_jtagTapReset, Dev.jtagLoad_of_bypass_unselected hs _ (.inr (.inl rfl))]
  case idcode =>
    rw [exec_jtagIdcode_of_aon hs, Dev.jtagLoad_of_bypass_unselected hs _ (.inr (.inl rfl))]
    rfl
  case extest => rw [exec_jtagExtest, Dev.jtagPins_extest hs]
  case highz => rw [exec_jtagHighz, Dev.jtagPins_of_highz_or_clamp hs _ (.inl rfl)]
  case clamp => rw [exec_jtagClamp, Dev.jtagPins_of_highz_or_clamp hs _ (.inr rfl)]
  case bypass => rw [exec_jtagBypass_of_unlisted s hop, Dev.jtagLoad_of_bypass_selected hs op (.inl rfl)]
  case pinDrive =>
    exact ⟨Dev.pinDrive_of_extest_or_clamp, Dev.pinDrive_of_highz, Dev.pinDrive_of_idcode_or_sample_or_bypass⟩
  case parts => norm_num

end Sys2Proof.Machine

/-! ## The debounce machines of the thermal monitor (R65)

`Debounce.step` has one outcome for each place of the sample against the band and each state of the threshold; the laws
below name them. A die's sample then steps its three machines, and everything else it does, the reports, the counters,
the windows and the refit, leaves the machines of every die alone. -/

namespace Sys2Proof.Machine

/-! ### One step of a machine -/

section
variable {m : Debounce} {t v : Int}

/-- A high sample counts towards the assertion, which comes with the eighth. -/
theorem Debounce.step_of_high_released (hv : t ≤ v) (ha : m.asserted = false) :
    m.step t v = if m.count = 7 then ({ count := 0, asserted := true }, true, false)
      else ({ m with count := m.count + 1 }, false, false) := by
  simp [Debounce.step, ha, hv]

/-- A low sample counts towards the release, which comes with the eighth. -/
theorem Debounce.step_of_low_asserted (hv : v ≤ t - 48) (ha : m.asserted = true) :
    m.step t v = if m.count = 7 then ({ count := 0, asserted := false }, false, true)
      else ({ m with count := m.count + 1 }, false, false) := by
  simp [Debounce.step, ha, hv]

/-- A low sample takes one back from the count towards the assertion. -/
theorem Debounce.step_of_low_released (hc : m.count < 8) (hv : v ≤ t - 48) (ha : m.asserted = false) :
    m.step t v = ({ m with count := m.count - 1 }, false, false) := by
  have hhigh : ¬ t ≤ v := by omega
  have hne : m.count - 1 ≠ 8 := by omega
  simp [Debounce.step, ha, hv, hhigh, hne]

/-- A high sample takes one back from the count towards the release. -/
theorem Debounce.step_of_high_asserted (hc : m.count < 8) (hv : t ≤ v) (ha : m.asserted = true) :
    m.step t v = ({ m with count := m.count - 1 }, false, false) := by
  have hlow : ¬ v ≤ t - 48 := by omega
  have hne : m.count - 1 ≠ 8 := by omega
  simp [Debounce.step, ha, hv, hlow, hne]

theorem Debounce.step_of_band (hc : m.count < 8) (hlow : t - 48 < v) (hhigh : v < t) :
    m.step t v = (m, false, false) := by
  have hne : m.count ≠ 8 := by omega
  simp [Debounce.step, not_le.mpr hlow, not_le.mpr hhigh, hne]

/-- The count stays below 8 through every step. -/
theorem Debounce.step_count_lt (hc : m.count < 8) : (m.step t v).1.count < 8 := by
  by_cases hhigh : t ≤ v
  · cases ha : m.asserted with
    | false => rw [step_of_high_released hhigh ha]; split <;> (dsimp only; omega)
    | true => rw [step_of_high_asserted hc hhigh ha]; dsimp only; omega
  · by_cases hlow : v ≤ t - 48
    · cases ha : m.asserted with
      | false => rw [step_of_low_released hc hlow ha]; dsimp only; omega
      | true => rw [step_of_low_asserted hlow ha]; split <;> (dsimp only; omega)
    · rw [step_of_band hc (not_le.mp hlow) (not_le.mp hhigh)]; exact hc

end

/-! ### The machines of a die -/

/-- The three machines of a die, at 95, 105 and 115 degrees. -/
def DieTherm.machines (t : DieTherm) : Debounce × Debounce × Debounce := (t.m95, t.m105, t.m115)

/-- The windows of Table 3.5 are kept apart from the machines. -/
@[simp] theorem Dev.throttleEdge_machines (d : Dev) (n : Nat) (t : DieTherm) (a r : Bool) (v : Int) :
    (d.throttleEdge n t a r v).machines = t.machines := by
  cases a <;> cases r <;> rfl

@[simp] theorem DieTherm.stampEdge_machines (t : DieTherm) (k tick : Nat) (a r : Bool) :
    (t.stampEdge k tick a r).machines = t.machines := by
  cases a <;> cases r <;> rfl

/-! ### What a sample leaves of the monitor -/

theorem Dev.Rep.therm {d e : Dev} (h : d.Rep e) : e.therm = d.therm := by rw [h.1]

@[simp] theorem Dev.report_therm (d : Dev) (r : Rec) : (d.report r).therm = d.therm := (Dev.report_rep d r).therm

@[simp] theorem Dev.boardSet_therm (d : Dev) (r : Rec) : (d.boardSet r).therm = d.therm := by
  unfold Dev.boardSet
  split <;> simp

@[simp] theorem Dev.countEdge_therm (d : Dev) (k : Nat) (a r : Bool) : (d.countEdge k a r).therm = d.therm := by
  cases a <;> cases r <;> rfl

@[simp] theorem Dev.peak_therm (d : Dev) (n : Nat) (v : Int) : (d.peak n v).therm = d.therm := by
  unfold Dev.peak
  split
  · split <;> rfl
  · rfl

@[simp] theorem Dev.refit_therm (d : Dev) (c : Nat) (v : Int) : (d.refit c v).therm = d.therm := by
  refine foldl_keeps (fun e : Dev => e.therm = d.therm) _ (fun e i he => ?_) _ _ rfl
  dsimp only
  split
  · exact he
  · exact he

/-- Marking sensor faults leaves every die as it is (R63, R64). -/
@[simp] theorem Dev.sensorFaults_dies (d : Dev) (rs : List (Option Int)) (sensors : List Nat) (cls : Nat) :
    (d.sensorFaults rs sensors cls).therm.dies = d.therm.dies := by
  refine foldl_keeps (fun e : Dev => e.therm.dies = d.therm.dies) _ (fun e b he => ?_) _ _ rfl
  dsimp only
  split
  · rw [Dev.report_therm]
    cases rs.getD b none <;> exact he
  · exact he

theorem Dev.die_congr {d e : Dev} (h : e.therm.dies = d.therm.dies) (n : Nat) : e.die n = d.die n := by
  simp [Dev.die, h]

/-- A sample with a valid reading puts one new state of its die, in which each machine has made one step. -/
theorem Dev.sampleDie_dies {d : Dev} {rs : List (Option Int)} {n : Nat} {v : Int} (hs : d.sampled n = true)
    (hv : ((d.sensorsOf n).filterMap (fun b => validReading (rs.getD b none))).max? = some v) :
    ∃ t : DieTherm, (d.sampleDie rs n).therm.dies = d.therm.dies.put n t ∧
      t.machines = (((d.die n).m95.step 1520 v).1, ((d.die n).m105.step 1680 v).1, ((d.die n).m115.step 1840 v).1) := by
  unfold Dev.sampleDie
  simp only [hs, hv, Bool.not_true, Bool.false_eq_true, if_false]
  generalize he : d.sensorFaults rs (d.sensorsOf n) _ = e
  have hdies : e.therm.dies = d.therm.dies := by rw [← he, Dev.sensorFaults_dies]
  rw [← Dev.die_congr hdies, ← hdies]
  simp only [apply_ite Dev.therm, Dev.refit_therm, Dev.boardSet_therm, Dev.report_therm, Dev.countEdge_therm,
    Dev.peak_therm, ite_self]
  exact ⟨_, rfl, by simp only [DieTherm.stampEdge_machines, Dev.throttleEdge_machines]; rfl⟩

/-- Settles O7: a step by the law of its case, a die's sample by the state it puts. -/
theorem debounceMachine : Obligations.DebounceMachine := by
  unfold Obligations.DebounceMachine
  refine ⟨fun m t v hc => ⟨fun hv ha => ?high, fun hv ha => ?low, Debounce.step_of_band hc,
    Debounce.step_of_low_released hc, Debounce.step_of_high_asserted hc, Debounce.step_count_lt hc⟩,
    fun d rs n v hs hv => ?sample, fun n => ⟨rfl, rfl, rfl⟩⟩
  case high =>
    rw [Debounce.step_of_high_released hv ha]
    split <;> simp [*]
  case low =>
    rw [Debounce.step_of_low_asserted hv ha]
    split <;> simp [*]
  case sample =>
    obtain ⟨t, hput, hstep⟩ := Dev.sampleDie_dies hs hv
    obtain ⟨h95, h105, h115⟩ : t.m95 = _ ∧ t.m105 = _ ∧ t.m115 = _ := by simpa [DieTherm.machines] using hstep
    have hdie : (d.sampleDie rs n).die n = t := by simp [Dev.die, hput]
    refine ⟨by rw [hdie, h95], by rw [hdie, h105], by rw [hdie, h115], fun k hk => ?_⟩
    simp [Dev.die, hput, KMap.get_put_other _ _ _ _ _ hk]

end Sys2Proof.Machine

/-! ## The metrology die apart from the compute side (R78, R357, R369)

A command acts on the device alone, on an I3C port, on the die through `State.meter`, or on the channel between the two.
The laws below say once, for each of these operations, what it leaves of the die, the occupancy channel and the queue;
`exec_meterReach` then sorts every command by the operation it performs. -/

namespace Sys2Proof.Machine

open Sys2Proof.Stm

/-! ### What an operation of the state leaves -/

/-- The occupancy channel and the queue read as before. -/
structure ChannelsKept (s t : State) : Prop where
  occChan : t.occChan = s.occChan
  pending : t.pending = s.pending

/-- The metrology die reads as before too. -/
structure MeterKept (s t : State) : Prop extends ChannelsKept s t where
  gnt : t.gnt = s.gnt

theorem ChannelsKept.refl (s : State) : ChannelsKept s s := ⟨rfl, rfl⟩

theorem MeterKept.refl (s : State) : MeterKept s s := ⟨.refl s, rfl⟩

theorem meterKept_withDev (s : State) (d : Dev) : MeterKept s { s with dev := d } := ⟨⟨rfl, rfl⟩, rfl⟩

/-- A transfer on either I3C bus reaches the port's registers and the messages out, never the die (R41). -/
theorem State.onPort_meterKept (s : State) (bus : I3cBus) (f : I3cPort → I3cPort) (answer : I3cPort → Option Nat)
    (direct : Bool) : MeterKept s (s.onPort bus f answer direct) := by
  cases bus with
  | mgt =>
    dsimp only [State.onPort]
    split
    · exact meterKept_withDev s _
    · exact .refl s
  | met =>
    dsimp only [State.onPort]
    split
    · exact ⟨⟨rfl, rfl⟩, rfl⟩
    · exact .refl s

/-- A read at the meter port appends its answer to what the port sent and does no more (R379). -/
theorem State.meterAnswer_meterKept (s : State) (f : Gnt → List Byte) : MeterKept s (s.meterAnswer f) := by
  unfold State.meterAnswer
  split
  · exact ⟨⟨rfl, rfl⟩, rfl⟩
  · exact .refl s

theorem State.meter_channelsKept (s : State) (f : Gnt → Gnt) : ChannelsKept s (s.meter f) := ⟨rfl, rfl⟩

theorem State.meterChange_channelsKept (s : State) (f : Gnt → Gnt × Bool) : ChannelsKept s (s.meterChange f) := by
  unfold State.meterChange
  split
  · exact ⟨rfl, rfl⟩
  · exact .refl s

/-! ### The two ends of the channels between hub and die -/

/-- Sending a report acts on the device and appends to the occupancy channel; the die learns of it at its arrival. -/
theorem exec_occupancyReportSend (s : State) : ∃ t, exec .occupancyReportSend s = .next t ∧
    t.gnt = s.gnt ∧ t.pending = s.pending := by
  show ∃ t, execOccupancyReportSend s = .next t ∧ _
  unfold execOccupancyReportSend
  dsimp only
  split
  · exact ⟨_, rfl, rfl, rfl⟩
  · exact ⟨s, rfl, rfl, rfl⟩

/-- A mirror frame leaves in the die the time of its sending alone (R380). -/
theorem exec_mirrorFrameSend (s : State) : ∃ t, exec .mirrorFrameSend s = .next t ∧ ChannelsKept s t ∧
    t.gnt = { s.gnt with lastFrame := t.gnt.lastFrame } := by
  show ∃ t, execMirrorFrameSend s = .next t ∧ _
  unfold execMirrorFrameSend
  split
  · exact ⟨_, rfl, ⟨rfl, rfl⟩, rfl⟩
  · exact ⟨s, rfl, .refl s, rfl⟩

/-- The oldest report on the channel reaches the die; on an empty channel nothing does (log 81). -/
theorem exec_occupancyReport (s : State) : ∃ t, exec .occupancyReport s = .next t ∧ t.pending = s.pending ∧
    (t.gnt = s.gnt ∨ ∃ r, t.gnt = s.gnt.report r) := by
  show ∃ t, execOccupancyReport s = .next t ∧ _
  unfold execOccupancyReport
  split
  · exact ⟨s, rfl, rfl, .inl rfl⟩
  case h_2 r rest _ => exact ⟨_, rfl, rfl, .inr ⟨r, rfl⟩⟩

/-- Apportioning the energy of an interval changes four registers of energy (R369). -/
theorem GntRegs.apportion_frame (g : GntRegs) (e base : Nat) (r : OccReport) :
    g.apportion e base r = { g with
      total := (g.apportion e base r).total, unattr := (g.apportion e base r).unattr
      test := (g.apportion e base r).test, tenants := (g.apportion e base r).tenants } := by
  unfold GntRegs.apportion
  dsimp only
  split <;> rfl

/-- A report changes registers of energy and the count of missed reports, and what the die keeps of the report itself:
never calibration, firmware, journal or audit counter (R369, R378). -/
theorem Gnt.report_frame (g : Gnt) (r : OccReport) :
    g.report r = { g with
      regs := { g.regs with
        total := (g.report r).regs.total, unattr := (g.report r).regs.unattr, test := (g.report r).regs.test
        tenants := (g.report r).regs.tenants, missed := (g.report r).regs.missed }
      pendingE := (g.report r).pendingE, lastReport := (g.report r).lastReport
      reportAt := (g.report r).reportAt, testNow := (g.report r).testNow } := by
  unfold Gnt.report
  split
  · rfl
  · dsimp only
    split
    · rw [GntRegs.apportion_frame]
    · rfl

/-! ### The commands, by the operation each performs -/

/-- How far a command that takes `s` to `t` reaches towards the die. -/
inductive MeterReach (c : Instr) (s t : State) : Prop
  | apart (h : MeterKept s t)
  | own (hc : MeterCommand c) (h : ChannelsKept s t)
  | reportArrives (hc : c = .occupancyReport) (hp : t.pending = s.pending)
  | reportSent (hc : c = .occupancyReportSend) (hg : t.gnt = s.gnt) (hp : t.pending = s.pending)
  | frameSent (hc : c = .mirrorFrameSend) (h : ChannelsKept s t)
      (hg : t.gnt = { s.gnt with lastFrame := t.gnt.lastFrame })

/-- Every command answers a next state and has one of the five reaches: all that the arms below do not name act on the
device alone. -/
theorem exec_meterReach (c : Instr) (s : State) : ∃ t, exec c s = .next t ∧ MeterReach c s t := by
  cases c with
  | occupancyReport =>
    obtain ⟨t, ht, hp, -⟩ := exec_occupancyReport s
    exact ⟨t, ht, .reportArrives rfl hp⟩
  | occupancyReportSend =>
    obtain ⟨t, ht, hg, hp⟩ := exec_occupancyReportSend s
    exact ⟨t, ht, .reportSent rfl hg hp⟩
  | mirrorFrameSend =>
    obtain ⟨t, ht, hk, hg⟩ := exec_mirrorFrameSend s
    exact ⟨t, ht, .frameSent rfl hk hg⟩
  | meterSample | senseOpenDetect | senseClosed | substitutionEnd | journalSetDue | journalWriteDone | meterWatchdog
  | coverSwitchChange => exact ⟨_, rfl, .own (by simp [MeterCommand]) (s.meter_channelsKept _)⟩
  | writeCal | writeFw => exact ⟨_, rfl, .own (by simp [MeterCommand]) (s.meterChange_channelsKept _)⟩
  | meterPowerUp cover trace =>
    by_cases hv : s.dev.pwr.v54 = true
    · exact ⟨_, if_pos hv, .own (by simp [MeterCommand]) (s.meter_channelsKept _)⟩
    · exact ⟨s, if_neg hv, .apart (.refl s)⟩
  | readRecord | readLive | readPubkey => exact ⟨_, rfl, .apart (s.meterAnswer_meterKept _)⟩
  | entdaa | rstdaa | enec | disec | getpid | getbcr | getdcr | getstatus | getmrl | setmrl | getmwl | setmwl =>
    exact ⟨_, rfl, .apart (s.onPort_meterKept _ _ _ _)⟩
  | setdasa bus static addr =>
    by_cases hslot : static.toNat = 8 + s.dev.pwr.straps.slotId.toNat
    · exact ⟨_, if_pos hslot, .apart (s.onPort_meterKept _ _ _ _)⟩
    · exact ⟨s, if_neg hslot, .apart (.refl s)⟩
  | i3cOtherCcc => exact ⟨s, rfl, .apart (.refl s)⟩
  | _ => exact ⟨_, rfl, .apart (meterKept_withDev s _)⟩

theorem not_meterCommand_mirrorFrameSend : ¬ MeterCommand .mirrorFrameSend := by simp [MeterCommand]

/-- Settles O58: the frame by the command's reach towards the die, the report's registers by the law of its arrival. -/
theorem meterApart : Obligations.MeterApart := by
  unfold Obligations.MeterApart
  refine ⟨fun c s => ?frame, fun s t ht => ?report⟩
  case frame =>
    obtain ⟨t, ht, hreach⟩ := exec_meterReach c s
    refine ⟨t, ht, ?_⟩
    cases hreach with
    | apart h => exact ⟨h.pending, fun _ _ => h.gnt, fun _ => by rw [h.gnt], fun _ _ => h.occChan⟩
    | own hc h =>
      exact ⟨h.pending, fun hn => absurd hc hn, fun he => absurd (he ▸ hc) not_meterCommand_mirrorFrameSend,
        fun _ _ => h.occChan⟩
    | reportArrives hc hp =>
      subst hc
      exact ⟨hp, fun hn => absurd (by simp [MeterCommand]) hn, nofun, fun _ hn => absurd rfl hn⟩
    | reportSent hc hg hp => exact ⟨hp, fun _ _ => hg, fun _ => by rw [hg], fun hn => absurd hc hn⟩
    | frameSent hc h hg => exact ⟨h.pending, fun _ hn => absurd hc hn, fun _ => hg, fun _ _ => h.occChan⟩
  case report =>
    obtain ⟨t', ht', -, hgnt⟩ := exec_occupancyReport s
    obtain rfl : t' = t := by simpa using ht'.symm.trans ht
    rcases hgnt with hsame | ⟨r, hr⟩
    · rw [hsame]
    · rw [hr]
      exact s.gnt.report_frame r

end Sys2Proof.Machine

/-! ## The energy balance of the meter (R369 to R374)

The balance is said of the registers, of the latest complete set and of every record that waits with a set's registers. An
operation of the die keeps it in one of three ways: it touches none of these, it queues a record that is no set's or the
set of the present registers, or it adds one energy to TOTAL_WH and to the registers that share it. -/

namespace Sys2Proof.Machine

open Sys2Proof.Stm

/-! ### The balance of registers -/

theorem balanced_of_eq {r r' : GntRegs} (h : Balanced r) (ht : r'.tenants = r.tenants) (hu : r'.unattr = r.unattr)
    (hs : r'.total = r.total) : Balanced r' := by
  unfold Stm.Balanced at *
  rw [ht, hu, hs, h]

/-- An energy that goes to UNATTR_WH goes to TOTAL_WH too. -/
theorem balanced_add_unattr {r r' : GntRegs} (h : Balanced r) (e : Nat) (ht : r'.tenants = r.tenants)
    (hu : r'.unattr = r.unattr + e) (hs : r'.total = r.total + e) : Balanced r' := by
  unfold Stm.Balanced at *
  rw [ht, hu, hs]
  omega

/-! ### The sum over the tenants -/

/-- The energy of the first `n` tenants. -/
def tenantSum (m : KMap Nat) (n : Nat) : Nat := ((List.range n).map (fun i => m.get i 0)).sum

theorem tenantSum_succ (m : KMap Nat) (n : Nat) : tenantSum m (n + 1) = tenantSum m n + m.get n 0 := by
  simp [tenantSum, List.range_succ]

theorem tenantSum_put (m : KMap Nat) {k n : Nat} (hk : k < n) (x : Nat) :
    tenantSum (m.put k (m.get k 0 + x)) n = tenantSum m n + x := by
  induction n with
  | zero => omega
  | succ n ih =>
    rw [tenantSum_succ, tenantSum_succ, KMap.get_put]
    rcases Nat.lt_succ_iff_lt_or_eq.mp hk with hlt | rfl
    · rw [if_neg (by omega), ih hlt]
      omega
    · have hsame : tenantSum (m.put k (m.get k 0 + x)) k = tenantSum m k := by
        unfold tenantSum
        congr 1
        refine List.map_congr_left fun i hi => KMap.get_put_other m k i _ _ ?_
        exact (List.mem_range.mp hi).ne
      rw [if_pos rfl, hsame]
      omega

theorem tenantSum_addTenants (xs : List Nat) (m : KMap Nat) (k n : Nat) (h : k + xs.length ≤ n) :
    tenantSum (addTenants m k xs) n = tenantSum m n + xs.sum := by
  induction xs generalizing m k with
  | nil => simp [addTenants]
  | cons x xs ih =>
    simp only [List.length_cons] at h
    rw [addTenants, ih _ _ (by omega), List.sum_cons]
    split
    · omega
    · rw [tenantSum_put m (by omega)]
      omega

theorem foldl_add_eq_sum (l : List Nat) : l.foldl (fun a b => a + b) 0 = l.sum := List.sum_eq_foldl.symm

@[simp] theorem shares_length (r : Nat) (ws : List Nat) : (shares r ws).length = ws.length := by simp [shares]

/-- Rounded down, the shares of an energy never exceed it (R369). -/
theorem shares_sum_le (r : Nat) (ws : List Nat) : (shares r ws).sum ≤ r := by
  have hdiv : ∀ (l : List Nat) (w : Nat), (l.map (fun x => r * x / w)).sum ≤ r * l.sum / w := by
    intro l w
    induction l with
    | nil => simp
    | cons x l ih =>
      simp only [List.map_cons, List.sum_cons, Nat.mul_add]
      exact (Nat.add_le_add_left ih _).trans Nat.div_add_div_le_add_div
  unfold shares
  dsimp only
  rw [foldl_add_eq_sum]
  exact (hdiv ws ws.sum).trans (Nat.div_le_of_le_mul (by rw [Nat.mul_comm]))

theorem GntRegs.apportion_balanced {g : GntRegs} (h : Balanced g) (e base : Nat) {r : OccReport}
    (hr : r.weights.length = 64) : Balanced (g.apportion e base r) := by
  unfold GntRegs.apportion
  dsimp only
  split
  · exact balanced_add_unattr h e rfl rfl rfl
  · have hle := shares_sum_le (e - Nat.min e base) r.weights
    have hsum := tenantSum_addTenants (shares (e - Nat.min e base) r.weights) g.tenants 0 64 (by simp [hr])
    unfold Stm.Balanced at h ⊢
    unfold tenantSum at hsum
    rw [foldl_add_eq_sum]
    dsimp only
    omega

/-! ### The balance of the die -/

/-- R370 of the registers, of the latest complete set and of every set that waits or is written. -/
structure Gnt.Balance (g : Gnt) : Prop where
  regs : Balanced g.regs
  saved : Balanced g.saved
  waiting : ∀ q ∈ Pend g, q.kind = 5 → Balanced q.regs

theorem meterInv_iff (s : State) : MeterInv s ↔ s.gnt.Balance :=
  ⟨fun ⟨hr, hs, hw⟩ => ⟨hr, hs, hw⟩, fun h => ⟨h.regs, h.saved, h.waiting⟩⟩

variable {g g' : Gnt}

/-- What leaves the energies, the latest set and the waiting records as they are keeps the balance. -/
theorem Gnt.Balance.of_eq (h : g.Balance) (ht : g'.regs.tenants = g.regs.tenants) (hu : g'.regs.unattr = g.regs.unattr)
    (he : g'.regs.total = g.regs.total) (hs : g'.saved = g.saved) (hp : Pend g' = Pend g) : g'.Balance :=
  ⟨balanced_of_eq h.regs ht hu he, hs ▸ h.saved, hp ▸ h.waiting⟩

/-- So does giving up records. -/
theorem Gnt.Balance.of_subset (h : g.Balance) (hr : g'.regs = g.regs) (hs : g'.saved = g.saved)
    (hp : ∀ q ∈ Pend g', q ∈ Pend g) : g'.Balance :=
  ⟨hr ▸ h.regs, hs ▸ h.saved, fun q hq => h.waiting q (hp q hq)⟩

theorem Gnt.Balance.startWrite (h : g.Balance) : g.startWrite.Balance :=
  h.of_eq (by simp) (by simp) (by simp) (by simp) (Gnt.startWrite_waiting g)

/-- A record that is no SIGN record carries no registers. -/
theorem Gnt.Balance.queue (h : g.Balance) {q : JReq} (hq : q.kind ≠ 5) : (g.queue q).Balance where
  regs := by simpa using h.regs
  saved := by simpa using h.saved
  waiting := by
    have hp : Pend (g.queue q) = Pend g ++ [q] := Gnt.queue_waiting g q
    rw [hp]
    intro x hx hk
    rcases List.mem_append.mp hx with hx | hx
    · exact h.waiting x hx hk
    · exact absurd (List.mem_singleton.mp hx ▸ hk) hq

theorem Gnt.Balance.event (h : g.Balance) (code value : Nat) : (g.event code value).Balance :=
  h.queue (by simp [Gnt.eventReq])

theorem Gnt.setReqs_balanced (h : Balanced g.regs) : ∀ q ∈ g.setReqs, q.kind = 5 → Balanced q.regs := by
  intro q hq hk
  simp only [Gnt.setReqs, List.mem_cons, List.not_mem_nil, or_false] at hq
  rcases hq with rfl | rfl | rfl | rfl | rfl | rfl
  case inr.inr.inr.inr.inr => exact h
  all_goals exact absurd hk (by simp)

/-- A set takes the registers as they are. -/
theorem Gnt.Balance.queueSet (h : g.Balance) : g.queueSet.Balance := by
  unfold Gnt.queueSet
  split
  · exact h
  · refine Gnt.Balance.startWrite ⟨h.regs, h.saved, fun q hq hk => ?_⟩
    have hp : Pend { g with queued := g.queued ++ g.setReqs, flagsSeen := 0 } = Pend g ++ g.setReqs := by simp [Pend]
    rw [hp] at hq
    rcases List.mem_append.mp hq with hq | hq
    · exact h.waiting q hq hk
    · exact Gnt.setReqs_balanced h.regs q hq hk

/-- A SIGN record that stands in the journal makes its registers the latest set. -/
theorem Gnt.Balance.written (h : g.Balance) {w : JWrite} (hw : w.req.kind = 5 → Balanced w.req.regs) :
    (g.written w).Balance := by
  have hq : ∀ q ∈ g.queued, q ∈ Pend g := fun q hq => List.mem_append_right _ hq
  unfold Gnt.written
  dsimp only
  split
  case isTrue hk => exact ⟨h.regs, hw hk, fun q hm => h.waiting q (hq q (by simpa [Pend] using hm))⟩
  case isFalse => exact h.of_subset rfl rfl fun q hm => hq q (by simpa [Pend] using hm)

theorem Gnt.Balance.dropSet (h : g.Balance) : g.dropSet.Balance := by
  unfold Gnt.dropSet
  dsimp only
  split
  · refine h.of_subset rfl rfl fun q hq => ?_
    rcases List.mem_append.mp hq with hq | hq
    · exact List.mem_append_left _ hq
    · exact List.mem_append_right _ (List.mem_of_mem_filter hq)
  · exact h

/-- Nothing is being written any more; what was may wait again. -/
theorem Gnt.Balance.endWrite (h : g.Balance) (b : Bool) : { g with writing := none, retried := false, setFailed := b }.Balance :=
  h.of_subset rfl rfl fun q hq => List.mem_append_right _ (by simpa [Pend] using hq)

theorem Gnt.Balance.of_writing (h : g.Balance) {w : JWrite} (hw : g.writing = some w) :
    w.req.kind = 5 → Balanced w.req.regs :=
  h.waiting w.req (by simp [Pend, hw])

theorem Gnt.Balance.requeue (h : g.Balance) {w : JWrite} (hw : g.writing = some w) :
    { g with queued := w.req :: g.queued }.Balance :=
  h.of_subset rfl rfl fun q hq => by simpa [Pend, hw] using hq

theorem Gnt.Balance.writeDone (h : g.Balance) (verified : Bool) : (g.writeDone verified).Balance := by
  unfold Gnt.writeDone
  split
  · exact h
  case h_2 w hw =>
    dsimp only
    split
    · exact (h.written (h.of_writing hw)).startWrite
    · split
      · split
        · exact h.dropSet.endWrite _
        · exact (h.requeue hw).endWrite _
      · split
        · split
          · exact (h.dropSet.endWrite true).startWrite
          · exact (h.endWrite true).startWrite
        · exact h.of_eq rfl rfl rfl rfl rfl

/-! ### Measuring -/

theorem Gnt.Balance.syncReset (h : g.Balance) : g.syncReset.Balance := h.of_eq rfl rfl rfl rfl rfl

/-- What a sample accrues waits in PENDING_WH. -/
theorem Gnt.Balance.accrue (h : g.Balance) (x : MSample) : (g.accrue x).Balance := by
  unfold Gnt.accrue
  split
  · exact h.of_eq rfl rfl rfl rfl rfl
  · split
    · exact h.of_eq rfl rfl rfl rfl rfl
    · split <;> exact h.of_eq rfl rfl rfl rfl rfl

theorem Gnt.Balance.push (h : g.Balance) (x : MSample) : (g.push x).Balance := by
  unfold Gnt.push
  split
  · exact Gnt.Balance.accrue (by exact h.of_eq rfl rfl rfl rfl rfl) _
  · exact h.of_eq rfl rfl rfl rfl rfl

theorem Gnt.Balance.overtemp (h : g.Balance) (reading : Int) : (g.overtemp reading).Balance :=
  h.dropSet.of_eq rfl rfl rfl rfl rfl

theorem Gnt.Balance.resume (h : g.Balance) (reading : Int) : (g.resume reading).Balance := by
  refine Gnt.Balance.startWrite (Gnt.Balance.syncReset ⟨h.regs, h.saved, fun q hq hk => ?_⟩)
  simp only [Pend, List.mem_append, List.mem_cons, List.not_mem_nil, or_false] at hq
  rcases hq with hq | (rfl | rfl) | hq
  · exact h.waiting q (List.mem_append_left _ hq) hk
  · simp [Gnt.eventReq] at hk
  · simp [Gnt.eventReq] at hk
  · exact h.waiting q (List.mem_append_right _ hq) hk

theorem Gnt.Balance.a0Group (h : g.Balance) (reading : Int) : (g.a0Group reading).Balance := by
  have hc : ∀ m n, { g with a0Hot := m, a0Cool := n }.Balance := fun _ _ => h.of_eq rfl rfl rfl rfl rfl
  unfold Gnt.a0Group
  generalize (if 2000 ≤ reading then g.a0Hot + 1 else 0) = hot
  generalize (if reading ≤ 1840 then g.a0Cool + 1 else 0) = cool
  dsimp only
  split
  · split
    · exact (hc _ _).resume reading
    · exact hc _ _
  · split
    · exact (hc _ _).overtemp reading
    · exact hc _ _

theorem Gnt.Balance.aux (h : g.Balance) (a : AuxSample) : (g.aux a).Balance := by
  unfold Gnt.aux
  split
  · exact h
  · dsimp only
    generalize hx : (if (Nat.ble 3 g.auxCount && g.settle == 0) = true then _ else g) = x
    have hb : x.Balance := by
      subst hx
      split
      · split <;> exact h.of_eq rfl rfl rfl rfl rfl
      · exact h
    split
    · exact hb.of_eq rfl rfl rfl rfl rfl
    · split
      · exact Gnt.Balance.a0Group (by exact hb.of_eq rfl rfl rfl rfl rfl) _
      · exact hb.of_eq rfl rfl rfl rfl rfl

/-- A meter that halts leaves its waiting records unwritten. -/
theorem Gnt.Balance.halt (h : g.Balance) :
    { g with powered := false, queued := [], delayed := [], live := [] }.Balance :=
  h.of_subset rfl rfl fun _ hq => List.mem_append_left _ (by simpa [Pend] using hq)

theorem Gnt.Balance.powerFail (h : g.Balance) : g.powerFail.Balance := by
  unfold Gnt.powerFail
  dsimp only
  refine Gnt.Balance.halt (Gnt.Balance.written ?_ (by simp [Gnt.eventReq]))
  split
  case h_1 w hw => exact h.written (h.of_writing hw)
  case h_2 => exact h

theorem Gnt.Balance.sample (h : g.Balance) (v i : BitVec 24) (vOvr iOvr : Bool) (a : AuxSample) :
    (g.sample v i vOvr iOvr a).Balance := by
  unfold Gnt.sample
  split
  · exact h
  · have hm : ({ g with met := g.met + 1, sinceSet := g.sinceSet + 1 } : Gnt).Balance := h.of_eq rfl rfl rfl rfl rfl
    have ha := hm.aux a
    refine iteInduction (motive := Gnt.Balance) (fun _ => ?_) (fun _ => ?_)
    · exact Gnt.Balance.powerFail (by exact ha.of_eq rfl rfl rfl rfl rfl)
    · exact Gnt.Balance.push (by exact ha.of_eq rfl rfl rfl rfl rfl) _

theorem Gnt.Balance.senseOpen (h : g.Balance) (p : Fin 2) : (g.senseOpen p).Balance := by
  unfold Gnt.senseOpen
  split
  · exact h
  · exact Gnt.Balance.event (by exact h.of_eq rfl rfl rfl rfl rfl) _ _

theorem Gnt.Balance.senseClosed (h : g.Balance) (p : Fin 2) : (g.senseClosed p).Balance := by
  unfold Gnt.senseClosed
  split
  · exact Gnt.Balance.event (by exact h.of_eq rfl rfl rfl rfl rfl) _ _
  · exact h

theorem Gnt.Balance.substEnd (h : g.Balance) : g.substEnd.Balance := by
  unfold Gnt.substEnd
  split
  · exact h.of_eq rfl rfl rfl rfl rfl
  · exact h

/-! ### Apportionment, power-up, watchdog, seal and parameters -/

theorem Gnt.Balance.report (h : g.Balance) (r : OccReport) : (g.report r).Balance := by
  unfold Gnt.report
  split
  case isTrue => exact h
  case isFalse hv =>
    have hlen : r.weights.length = 64 := by
      simp only [OccReport.valid, Bool.or_eq_true, Bool.not_eq_true', not_or, Bool.not_eq_false, Bool.and_eq_true,
        beq_iff_eq] at hv
      exact hv.2.1
    refine ⟨?_, h.saved, h.waiting⟩
    dsimp only
    split
    · exact GntRegs.apportion_balanced h.regs _ _ hlen
    · exact balanced_add_unattr h.regs _ rfl rfl rfl

/-- A POWER_FAIL after the latest set adds its VALUE on both sides (R373). -/
theorem Gnt.Balance.restored (h : g.Balance) : Balanced g.restored := balanced_add_unattr h.saved _ rfl rfl rfl

theorem Gnt.Balance.seal (h : g.Balance) (cover trace : Bool) : (g.seal cover trace).Balance := by
  unfold Gnt.seal
  generalize hx : (if (cover == g.coverOpen) = true then g else _) = x
  have hb : x.Balance := by
    subst hx
    split
    · exact h
    · exact Gnt.Balance.event (by exact h.of_eq rfl rfl rfl rfl rfl) _ _
  dsimp only
  split
  · exact hb
  · exact Gnt.Balance.event (by exact hb.of_eq rfl rfl rfl rfl rfl) _ _

theorem Gnt.Balance.powerUp (h : g.Balance) (cover trace : Bool) : (g.powerUp cover trace).Balance := by
  unfold Gnt.powerUp
  split
  · exact h
  · refine Gnt.Balance.seal (Gnt.Balance.event (Gnt.Balance.syncReset ?_) _ _) _ _
    exact ⟨balanced_of_eq h.restored rfl rfl rfl, h.saved, by simp [Pend]⟩

theorem Gnt.Balance.watchdog (h : g.Balance) (ok : Bool) : (g.watchdog ok).Balance := by
  unfold Gnt.watchdog
  split
  · exact h
  · generalize hx : (if ok = true then g else _) = x
    have hb : x.Balance := by
      subst hx
      split
      · exact h
      · exact ⟨h.restored, h.saved, h.waiting⟩
    exact Gnt.Balance.event (by exact hb.of_eq rfl rfl rfl rfl rfl) _ _

theorem Gnt.Balance.sealChange (h : g.Balance) (c : SealChange) : (g.sealChange c).Balance := by
  unfold Gnt.sealChange
  split
  · exact h
  · cases c <;> exact h.seal _ _

theorem Gnt.Balance.writeCal (h : g.Balance) (b sig : List Byte) : (g.writeCal b sig).1.Balance := by
  unfold Gnt.writeCal
  split
  case h_1 c _ =>
    split
    · have hc : { g with audit := g.audit + 1, cal := c }.Balance := h.of_eq rfl rfl rfl rfl rfl
      exact (hc.queue (by simp)).queueSet.syncReset
    · exact h
  case h_2 => exact h

theorem Gnt.Balance.writeFw (h : g.Balance) (image sig : List Byte) : (g.writeFw image sig).1.Balance := by
  unfold Gnt.writeFw
  split
  · have hc : { g with audit := g.audit + 1, fwVersion := Config.imageVersion 2 image % 2 ^ 32 }.Balance :=
      h.of_eq rfl rfl rfl rfl rfl
    exact (hc.queue (by simp)).queueSet
  · exact h

/-- JOURNAL_SET_DUE queues a set or does nothing. -/
theorem Gnt.Balance.setDue (h : g.Balance) : Gnt.Balance (if g.powered && Nat.ble (g.cal.setPeriod * 16000) g.sinceSet
    then { g with sinceSet := 0 }.queueSet else g) := by
  split
  · exact Gnt.Balance.queueSet (by exact h.of_eq rfl rfl rfl rfl rfl)
  · exact h

theorem Gnt.Balance.writeDoneWhilePowered (h : g.Balance) (verified : Bool) :
    Gnt.Balance (if g.powered then g.writeDone verified else g) := by
  split
  · exact h.writeDone verified
  · exact h

/-! ### A step -/

/-- Only the die's own commands and the report that reaches it act on it, each by an operation that keeps the balance. -/
theorem exec_keeps_balance {s t : State} (h : s.gnt.Balance) (c : Instr) (ht : exec c s = .next t) : t.gnt.Balance := by
  have hchange : ∀ f : Gnt → Gnt × Bool, (f s.gnt).1.Balance → (s.meterChange f).gnt.Balance := by
    intro f hf
    unfold State.meterChange
    split
    · exact hf
    · exact h
  have hnext : ∀ {u : State}, exec c s = .next u → u.gnt.Balance → t.gnt.Balance := by
    intro u hu hb
    obtain rfl : u = t := by simpa using hu.symm.trans ht
    exact hb
  have hreport : c = .occupancyReport → t.gnt.Balance := by
    rintro rfl
    obtain ⟨u, hu, -, hsame | ⟨r, hr⟩⟩ := exec_occupancyReport s
    · exact hnext hu (hsame ▸ h)
    · exact hnext hu (hr ▸ h.report r)
  obtain ⟨u, hu, hreach⟩ := exec_meterReach c s
  cases hreach with
  | apart hk => exact hnext hu (hk.gnt ▸ h)
  | reportSent _ hg _ => exact hnext hu (hg ▸ h)
  | frameSent _ _ hg => exact hnext hu (hg ▸ h.of_eq rfl rfl rfl rfl rfl)
  | reportArrives hc _ => exact hreport hc
  | own hc _ =>
    rcases hc with ⟨a, b, rfl⟩ | ⟨v, i, a, b, x, rfl⟩ | ⟨p, rfl⟩ | ⟨p, rfl⟩ | rfl | rfl | rfl | ⟨b, rfl⟩ | ⟨b, rfl⟩ |
      ⟨x, rfl⟩ | ⟨b, g, rfl⟩ | ⟨b, g, rfl⟩
    · by_cases hv : s.dev.pwr.v54 = true
      · exact hnext (if_pos hv) (h.powerUp a b)
      · exact hnext (if_neg hv) h
    · exact hnext rfl (h.sample v i a b x)
    · exact hnext rfl (h.senseOpen p)
    · exact hnext rfl (h.senseClosed p)
    · exact hnext rfl h.substEnd
    · exact hreport rfl
    · exact hnext rfl h.setDue
    · exact hnext rfl (h.writeDoneWhilePowered b)
    · exact hnext rfl (h.watchdog b)
    · exact hnext rfl (h.sealChange x)
    · exact hnext rfl (hchange _ (h.writeCal b g))
    · exact hnext rfl (hchange _ (h.writeFw b g))

/-- Settles O59: a step runs one command, which keeps the balance, or lets a tick pass, which leaves the die as it is. -/
theorem energyBalanceKept : Obligations.EnergyBalanceKept := by
  intro s t hinv ht
  rw [meterInv_iff] at hinv ⊢
  unfold step at ht
  split at ht
  · obtain rfl : idleTick s = t := by simpa using ht
    unfold idleTick
    split
    · exact hinv
    · exact hinv
  case h_2 c rest _ => exact exec_keeps_balance (s := { s with pending := rest }) hinv c ht

/-- Settles O60: after reset every register is 0. -/
theorem energyBalanceAtReset : Obligations.EnergyBalanceAtReset := by
  have hzero : Stm.Balanced {} := by
    unfold Stm.Balanced
    decide
  exact ⟨⟨hzero, hzero, nofun⟩, rfl, rfl, rfl, reset_mem_wf⟩

end Sys2Proof.Machine

/-! ## One step (log 2) -/

namespace Sys2Proof.Machine

theorem step_cons (c : Instr) (s : State) (rest : List Instr) :
    step { s with pending := c :: rest } = exec c { s with pending := rest } := rfl

theorem step_of_empty {s : State} (h : s.pending = []) : step s = .next (idleTick s) := by
  simp only [step, h]

/-- Settles O57: `step` matches on the queue, and `idleTick` on the AON supply. -/
theorem frontOfTheQueue : Obligations.FrontOfTheQueue := by
  refine ⟨step_cons, fun s hs ha => ?_, fun s hs ha => ?_⟩
  · rw [step_of_empty hs, idleTick, if_pos ha]
  · rw [step_of_empty hs, idleTick, if_neg (by simp [ha])]

end Sys2Proof.Machine

/-! ## Packets on the wire (Table 17.2)

The header with its CRC is one number whose fields lie side by side: it stays below 2^256, so its 32 bytes read back as
that number, and each field of the number is the header's. -/

namespace Sys2Proof.Machine

theorem crcBit_lt {poly c : Nat} (hp : poly < 2 ^ 32) (hc : c < 2 ^ 32) : crcBit poly c < 2 ^ 32 := by
  unfold crcBit
  split
  · exact Nat.xor_lt_two_pow (by omega) hp
  · omega

theorem crcByte_lt {poly c : Nat} (hp : poly < 2 ^ 32) (hc : c < 2 ^ 32) (b : Byte) : crcByte poly c b < 2 ^ 32 := by
  have hb : b.toNat < 2 ^ 32 := b.isLt.trans (by norm_num)
  exact foldl_keeps (fun c => c < 2 ^ 32) _ (fun _ _ h => crcBit_lt hp h) _ _ (Nat.xor_lt_two_pow hc hb)

theorem crc32c_lt (bs : List Byte) : crc32c bs < 2 ^ 32 :=
  Nat.xor_lt_two_pow (foldl_keeps (fun c => c < 2 ^ 32) _ (fun _ b h => crcByte_lt (by norm_num) h b) _ _ (by norm_num))
    (by norm_num)

/-- The fields of a header fit their places in Table 17.2. -/
structure LrtHeader.Fits (h : LrtHeader) : Prop where
  type : h.type < 2 ^ 4
  srcMember : h.srcMember < 2 ^ 5
  dstMember : h.dstMember < 2 ^ 5
  dstCh : h.dstCh < 2 ^ 6
  srcCh : h.srcCh < 2 ^ 6
  nak : h.nak < 2 ^ 2
  group : h.group < 2 ^ 16
  psn : h.psn < 2 ^ 24
  ackPsn : h.ackPsn < 2 ^ 24
  len : h.len < 2 ^ 16
  offset : h.offset < 2 ^ 40
  value : h.value < 2 ^ 64

/-- The header that a number of 256 bits spells (Table 17.2). -/
def lrtFields (n : Nat) : LrtHeader :=
  { type := bitsAt n 248 4, srcMember := bitsAt n 243 5, dstMember := bitsAt n 238 5, dstCh := bitsAt n 232 6
    srcCh := bitsAt n 226 6, nak := bitsAt n 224 2, group := bitsAt n 208 16, psn := bitsAt n 184 24
    ackPsn := bitsAt n 160 24, len := bitsAt n 144 16, offset := bitsAt n 104 40, value := bitsAt n 32 64 }

/-- A packet whose fields pass every check of the reader is read. -/
theorem lrtParse_eq_some {mx : Nat} {b : List Byte} {h : LrtHeader} (hlong : 32 ≤ b.length)
    (hfields : lrtFields (leNat (b.take 32)) = h) (hver : bitsAt (leNat (b.take 32)) 252 4 = 1)
    (hres : bitsAt (leNat (b.take 32)) 96 8 = 0) (ht1 : 1 ≤ h.type) (ht6 : h.type ≤ 6)
    (hnak4 : h.type = 4 → h.nak ≠ 3) (hnak : h.type ≠ 4 → h.nak = 0)
    (hlen1 : h.type = 1 → 1 ≤ h.len ∧ h.len ≤ mx) (hlen : h.type ≠ 1 → h.len = 0) (hvalue : h.type = 2 ∨ h.value = 0)
    (hpay : (b.drop 32).length = h.len)
    (hcrc : bitsAt (leNat (b.take 32)) 0 32 =
      crc32c (leBytes (leNat (b.take 32) - leNat (b.take 32) % 2 ^ 32) 32 ++ b.drop 32)) :
    lrtParse mx b = some (h, b.drop 32) := by
  subst hfields
  refine if_pos ?_
  simp only [lrtFields] at *
  simp only [Bool.and_eq_true, Bool.or_eq_true, beq_iff_eq, Nat.ble_eq, hver, hres, hpay, ← hcrc, and_true]
  refine ⟨⟨⟨⟨⟨hlong, ht1⟩, ht6⟩, ?_⟩, ?_⟩, hvalue⟩
  · split
    case isTrue ht => simpa using hnak4 ht
    case isFalse ht => simpa using hnak ht
  · split
    case isTrue ht => simpa using hlen1 ht
    case isFalse ht => simpa using hlen ht

/-- What a header's number and its CRC read as. -/
theorem LrtHeader.fields_of_bits {h : LrtHeader} (hf : h.Fits) {c : Nat} (hc : c < 2 ^ 32) :
    bitsAt (h.bits + c) 252 4 = 1 ∧ bitsAt (h.bits + c) 96 8 = 0 ∧ bitsAt (h.bits + c) 0 32 = c ∧
      lrtFields (h.bits + c) = h := by
  obtain ⟨h1, h2, h3, h4, h5, h6, h7, h8, h9, h10, h11, h12⟩ := hf
  obtain ⟨type, srcMember, dstMember, dstCh, srcCh, nak, group, psn, ackPsn, len, offset, value⟩ := h
  simp only [lrtFields, LrtHeader.bits, LrtHeader.mk.injEq, bitsAt_eq] at *
  norm_num at *
  refine ⟨?_, ?_, ?_, ?_, ?_, ?_, ?_, ?_, ?_, ?_, ?_, ?_, ?_, ?_, ?_⟩ <;> omega

theorem LrtHeader.bits_add_lt {h : LrtHeader} (hf : h.Fits) {c : Nat} (hc : c < 2 ^ 32) : h.bits + c < 256 ^ 32 := by
  obtain ⟨h1, h2, h3, h4, h5, h6, h7, h8, h9, h10, h11, h12⟩ := hf
  simp only [LrtHeader.bits] at *
  norm_num at *
  omega

/-- The CRC takes the low 32 bits that the header leaves 0. -/
theorem LrtHeader.bits_mod (h : LrtHeader) : h.bits % 2 ^ 32 = 0 := by
  simp only [LrtHeader.bits]
  norm_num
  omega

/-- Settles O48: the header's bytes read as its number, whose fields are the header's, so that every check of the reader
holds. -/
theorem packetsReadBack : Obligations.PacketsReadBack := by
  intro h pl mx ht1 ht6 hsm hdm hdc hsc hg hpsn hack hoff hval hnak4 hnak hvalue hlen hdata hpl hmx
  have hlen16 : h.len < 2 ^ 16 := by
    by_cases ht : h.type = 1
    · have := hdata ht
      omega
    · simp [hlen, hpl ht]
  have hnak2 : h.nak < 2 ^ 2 := by
    by_cases ht : h.type = 4
    · have := hnak4 ht
      omega
    · simp [hnak ht]
  have hfits : h.Fits := ⟨by omega, hsm, hdm, hdc, hsc, hnak2, hg, hpsn, hack, hlen16, hoff, hval⟩
  generalize hcrc : crc32c (leBytes h.bits 32 ++ pl) = c
  have hc : c < 2 ^ 32 := hcrc ▸ crc32c_lt _
  obtain ⟨hver, hres, hlow, hfields⟩ := LrtHeader.fields_of_bits hfits hc
  have hnum : leNat ((lrtBytes h pl).take 32) = h.bits + c := by
    rw [lrtBytes, hcrc, List.take_left' (by simp), leNat_leBytes, Nat.mod_eq_of_lt (LrtHeader.bits_add_lt hfits hc)]
  have hpay : (lrtBytes h pl).drop 32 = pl := by rw [lrtBytes, List.drop_left' (by simp)]
  have hclear : h.bits + c - (h.bits + c) % 2 ^ 32 = h.bits := by
    have := h.bits_mod
    omega
  have hread := lrtParse_eq_some (mx := mx) (b := lrtBytes h pl) (h := h) (by simp [lrtBytes]) (by rw [hnum, hfields])
    (by rw [hnum, hver]) (by rw [hnum, hres]) ht1 ht6 (fun ht => (hnak4 ht).ne) hnak (fun ht => hlen ▸ hdata ht)
    (fun ht => by rw [hlen, hpl ht]; rfl) (or_iff_not_imp_left.mpr hvalue) (by rw [hpay, hlen])
    (by rw [hnum, hpay, hlow, hclear, hcrc])
  rwa [hpay] at hread

end Sys2Proof.Machine

/-! ## A walk of four tables (R159, R161, R162, R164)

In clean memory a walker's read gives the bytes that stand there and changes nothing. One table then leads to the next,
and the last to the leaf, with the pages around it that a run of PTEs merges. -/

namespace Sys2Proof.Machine

open Sys2Proof.Stm

/-! ### Reads of clean memory -/

theorem Mem.readMarks_of_clean {m : Mem} (h : Clean m) (pa len : Nat) :
    m.readMarks pa len = ({ bytes := m.read pa len, bad := [], badLines := 0, corrected := 0 }, m) := by
  obtain ⟨hl, -⟩ := h
  have hmark : ∀ l, m.mark l = none := fun l => by simp [Mem.mark, hl]
  have hm : { m with lines := [] } = m := by rw [← hl]
  simp [Mem.readMarks, hmark, badMark, hl, hm]

theorem Dev.walkRead_of_clean {d : Dev} (h : Clean d.mem) (pa len : Nat) :
    d.walkRead pa len = (leNat (d.mem.read pa len), false, d) := by
  simp [Dev.walkRead, Mem.readMarks_of_clean h, Dev.hbmErrors, Dev.countOnly]

/-- A part of the bytes read is a read of that part. -/
theorem Mem.read_drop_take (m : Mem) {a len k w : Nat} (h : k + w ≤ len) :
    ((m.read a len).drop k).take w = m.read (a + k) w := by
  simp only [Mem.read, cellsRead_eq]
  apply List.ext_getElem
  · simp
    omega
  · intro i _ _
    simp [Nat.add_assoc]

/-- Bits that start and end at bytes are the number of those bytes. -/
theorem bitsAt_leNat {b : List Byte} {k : Nat} (h : k ≤ b.length) (w : Nat) :
    bitsAt (leNat b) (8 * k) (8 * w) = leNat ((b.drop k).take w) := by
  have hpow : ∀ n, 2 ^ (8 * n) = 256 ^ n := fun n => by rw [pow_mul]; norm_num
  have hsplit : ∀ (l : List Byte) (n : Nat), n ≤ l.length →
      leNat l = leNat (l.take n) + 256 ^ n * leNat (l.drop n) ∧ leNat (l.take n) < 256 ^ n := by
    intro l n hn
    have hlen : (l.take n).length = n := by simp [hn]
    have hlt := leNat_lt (l.take n)
    rw [hlen] at hlt
    refine ⟨?_, hlt⟩
    conv_lhs => rw [← List.take_append_drop n l, leNat_append, hlen]
  obtain ⟨hb, hlt⟩ := hsplit b k h
  rw [bitsAt_eq, hpow, hpow, hb, Nat.add_mul_div_left _ _ (by positivity), Nat.div_eq_of_lt hlt, Nat.zero_add]
  by_cases hw : w ≤ (b.drop k).length
  · obtain ⟨hd, hlt'⟩ := hsplit (b.drop k) w hw
    rw [hd, Nat.add_mul_mod_self_left, Nat.mod_eq_of_lt hlt']
  · rw [List.take_of_length_le (by omega), Nat.mod_eq_of_lt]
    exact (leNat_lt _).trans_le (Nat.pow_le_pow_right (by norm_num) (by omega))

/-! ### Runs of PTEs -/

/-- A run around a PTE starts no more pages before it than its place in the block and than its physical page. -/
theorem runOf_back {ptes : List Nat} {idx : Nat} : (runOf ptes idx).1 < (runOf ptes idx).2 ∧
    (runOf ptes idx).1 ≤ idx ∧ (runOf ptes idx).1 ≤ ptePpn (ptes.getD idx 0) := by
  have hfit : ∀ n, 0 < n → ((List.range n).all (fun j =>
      let q := ptes.getD (idx - idx % n + j) 0
      pteV q && (pteR q || pteX q) && bitsAt q 0 10 == bitsAt (ptes.getD idx 0) 0 10 &&
        bitsAt q 54 10 == bitsAt (ptes.getD idx 0) 54 10 && ptePpn q == ptePpn (ptes.getD (idx - idx % n) 0) + j)) = true →
      idx % n < n ∧ idx % n ≤ idx ∧ idx % n ≤ ptePpn (ptes.getD idx 0) := by
    intro n hn hall
    have hj := List.all_eq_true.mp hall (idx % n) (List.mem_range.mpr (Nat.mod_lt _ hn))
    have hidx : idx - idx % n + idx % n = idx := Nat.sub_add_cancel (Nat.mod_le _ _)
    simp only [hidx, Bool.and_eq_true, beq_iff_eq] at hj
    exact ⟨Nat.mod_lt _ hn, Nat.mod_le _ _, by omega⟩
  unfold runOf
  dsimp only
  split
  case isTrue h => exact hfit 8 (by norm_num) (Bool.and_eq_true _ _ |>.mp h).2
  · split
    case isTrue h => exact hfit 4 (by norm_num) (Bool.and_eq_true _ _ |>.mp h).2
    · split
      case isTrue h => exact hfit 2 (by norm_num) (Bool.and_eq_true _ _ |>.mp h).2
      · simp

/-! ### One table after another -/

/-- An entry with V and a physical page alone points to a table. -/
theorem pte_of_pointer {next : Nat} (h : next < 2 ^ 44) : pteV (next * 1024 + 1) = true ∧ pteR (next * 1024 + 1) = false ∧
    pteW (next * 1024 + 1) = false ∧ pteX (next * 1024 + 1) = false ∧ ptePpn (next * 1024 + 1) = next ∧
    bitsAt (next * 1024 + 1) 54 9 = 0 ∧ bitAt (next * 1024 + 1) 63 = false := by
  simp only [pteV, pteR, pteW, pteX, ptePpn, bitAt, bitsAt_eq, Nat.testBit_eq_decide_div_mod_eq, decide_eq_true_eq,
    decide_eq_false_iff_not]
  refine ⟨?_, ?_, ?_, ?_, ?_, ?_, ?_⟩ <;> omega

section
variable {d : Dev} {f : WalkFor} {va table : Nat} (hclean : Clean d.mem) (htop : table * 4096 + 4096 ≤ d.hbmTop)
include hclean htop

/-- A non-leaf entry leads to its table. -/
theorem Dev.descend_pointer {level next : Nat} (acc : List WalkCacheEntry) (hnext : next < 2 ^ 44)
    (hpte : leNat (d.mem.read (table * 4096 + 8 * bitsAt va (12 + 9 * (level + 1)) 9) 8) = next * 1024 + 1) :
    Dev.descend f va (level + 1) d table acc = Dev.descend f va level d next (acc ++ [{
      tenant := f.tenant, pasid := f.pasid, asid := f.asid, level := level + 1
      vpn := va / 2 ^ (12 + 9 * (level + 1)), pte := next * 1024 + 1 }]) := by
  have hidx := bitsAt_lt va (12 + 9 * (level + 1)) 9
  have hfit : ¬ d.hbmTop < table * 4096 + 8 * bitsAt va (12 + 9 * (level + 1)) 9 + 8 := by omega
  obtain ⟨hv, hr, hw, hx, hppn, hhigh, hnapot⟩ := pte_of_pointer hnext
  rw [Dev.descend]
  simp [hfit, Dev.walkRead_of_clean hclean, hpte, hv, hr, hw, hx, hhigh, hnapot, hppn]

/-- A 4 KiB leaf ends the walk with the run of pages around it. -/
theorem Dev.descend_leaf {leaf : Nat} (acc : List WalkCacheEntry)
    (hpte : leNat (d.mem.read (table * 4096 + 8 * bitsAt va 12 9) 8) = leaf) (hlt : leaf < 2 ^ 54)
    (hv : pteV leaf = true) (hr : pteR leaf = true) :
    ∃ back pages, back < pages ∧ back ≤ va / 4096 ∧ back ≤ ptePpn leaf ∧ Dev.descend f va 0 d table acc =
      (.leaf (leafEntry f leaf (va / 4096 - back) pages (ptePpn leaf - back)) leaf 0
        (table * 4096 + 8 * bitsAt va 12 9), acc, d) := by
  have hidx := bitsAt_lt va 12 9
  have hfit : ¬ d.hbmTop < table * 4096 + 8 * bitsAt va 12 9 + 8 := by omega
  have hhigh : bitsAt leaf 54 9 = 0 := by
    rw [bitsAt_eq]
    omega
  have hnapot : bitAt leaf 63 = false := by
    simp only [bitAt, Nat.testBit_eq_decide_div_mod_eq, decide_eq_false_iff_not]
    omega
  obtain ⟨addr, haddr⟩ : ∃ addr, addr = table * 4096 + 8 * bitsAt va 12 9 := ⟨_, rfl⟩
  rw [← haddr] at hpte hfit ⊢
  have hread : ((List.range 8).map (fun i => bitsAt (leNat (d.mem.read (addr - addr % 64) 64)) (64 * i) 64)).getD
      (addr % 64 / 8) 0 = leaf := by
    have hblock : addr % 64 = 8 * (addr % 64 / 8) := by omega
    have hi : addr % 64 / 8 < 8 := by omega
    have hbits := bitsAt_leNat (b := d.mem.read (addr - addr % 64) 64) (k := 8 * (addr % 64 / 8))
      (by simp [Mem.read]; omega) 8
    rw [Mem.read_drop_take _ (by omega), show addr - addr % 64 + 8 * (addr % 64 / 8) = addr by omega, hpte,
      ← Nat.mul_assoc] at hbits
    simpa [hi] using hbits
  generalize hptes : (List.range 8).map (fun i => bitsAt (leNat (d.mem.read (addr - addr % 64) 64)) (64 * i) 64) = ptes
    at hread
  obtain ⟨hpages, hback, hppn⟩ := runOf_back (ptes := ptes) (idx := addr % 64 / 8)
  rw [hread] at hppn
  have hvpn : addr % 64 / 8 ≤ va / 4096 := by
    rw [bitsAt_eq] at haddr
    omega
  refine ⟨_, _, hpages, hback.trans hvpn, hppn, ?_⟩
  rw [Dev.descend]
  simp [← haddr, hfit, Dev.walkRead_of_clean hclean, hpte, hv, hr, hhigh, hnapot, Dev.leafAt, hptes]

end

/-! ### The whole walk -/

theorem holdIn_mem {α : Type} (d : Dev) (l : List α) (cap : Nat) (e : α) : (holdIn d l cap e).2.mem = d.mem := by
  unfold holdIn
  split <;> rfl

/-- What the caches take of a walk leaves memory as it is. -/
theorem Dev.holdWalk_mem (d : Dev) (tenant pasid : Nat) (ctx : Nat × Bool) (acc : List WalkCacheEntry) :
    (d.holdWalk tenant pasid ctx acc).mem = d.mem := by
  unfold Dev.holdWalk
  dsimp only
  refine foldl_keeps (fun (e : Dev) => e.mem = d.mem) _ (fun e x he => ?_) _ _ ?_
  · exact (holdIn_mem e _ _ x).trans he
  · split
    · exact holdIn_mem d _ _ _
    · rfl

theorem canonical_of_low {va : Nat} (h : va < 2 ^ 47) : canonical va 48 = true := by
  have htop : va % 2 ^ 64 / 2 ^ (48 - 1) = 0 := by omega
  simp only [canonical, htop, beq_self_eq_true, Bool.true_or]

/-- A context that the cache holds is read from there. -/
theorem Dev.pasidCtx_of_cached {d : Dev} {e : CtxEntry} (h : d.stu.ctxCache = [e]) :
    d.pasidCtx e.tenant e.pasid = (.ok (e.entry, false), d) := by
  simp [Dev.pasidCtx, h]

/-- The fields of a Sv48 context entry (Table 7.2). -/
theorem ctx_fields {asid table : Nat} (ha : asid < 2 ^ 16) (ht : table < 2 ^ 44) :
    bitsAt (1 + 9 * 2 ^ 44 + asid * 2 ^ 48 + table * 2 ^ 64) 44 4 = 9 ∧
      bitsAt (1 + 9 * 2 ^ 44 + asid * 2 ^ 48 + table * 2 ^ 64) 48 16 = asid ∧
      bitsAt (1 + 9 * 2 ^ 44 + asid * 2 ^ 48 + table * 2 ^ 64) 64 44 = table := by
  simp only [bitsAt_eq]
  omega

/-- A walk of a cached Sv48 context with an empty walk cache descends from the root table. -/
theorem Dev.walk_of_descend {d : Dev} {c : CtxEntry} {x : TlbEntry} {va pte level addr : Nat} {acc : List WalkCacheEntry}
    (hctx : d.stu.ctxCache = [c]) (hwc : d.stu.walkCache = []) (hmode : bitsAt c.entry 44 4 = 9) (hva : va < 2 ^ 47)
    (hleaf : Dev.descend ⟨c.tenant, c.pasid, bitsAt c.entry 48 16⟩ va 3 d (bitsAt c.entry 64 44) [] =
      (.leaf x pte level addr, acc, d)) (husable : leafUsable pte = true) :
    d.walk c.tenant c.pasid va = (.leaf x pte level addr, d.holdWalk c.tenant c.pasid (c.entry, false) acc) := by
  have hsv48 : (bitsAt c.entry 44 4 == 9) = true := by simp [hmode]
  have hmiss : ([1, 2, 3, 4].findSome? (fun level => d.stu.walkCache.find? (fun e => e.tenant == c.tenant &&
      e.pasid == c.pasid && e.level == level && e.vpn == va / 2 ^ (12 + 9 * level)))) = none := by simp [hwc]
  unfold Dev.walk
  rw [Dev.pasidCtx_of_cached hctx]
  simp only [hsv48, if_true, canonical_of_low hva, Bool.not_true, Bool.false_eq_true, if_false]
  rw [hmiss]
  -- the recursion is made opaque, so that only the two matches around it are evaluated
  generalize Dev.descend ⟨c.tenant, c.pasid, bitsAt c.entry 48 16⟩ va 3 d (bitsAt c.entry 64 44) [] = r at hleaf ⊢
  subst hleaf
  simp only [husable, if_true]

/-- Settles O27: three pointers lead to the last table, whose leaf ends the walk; the caches that then take what was read
leave memory alone. -/
theorem walkOfFourTables : Obligations.WalkOfFourTables := by
  intro d tenant pasid va asid t3 t2 t1 t0 leaf e hclean hwc hctx het hep hentry hasid h3 h2 h1 h0 hva htops hr3 hr2 hr1
    hr0 hleaf hV hR hU hA
  subst het hep
  obtain ⟨hmode, hfor, hroot⟩ := ctx_fields hasid h3
  rw [← hentry] at hmode hfor hroot
  simp only [List.forall_mem_cons] at htops
  obtain ⟨htop3, htop2, htop1, htop0, -⟩ := htops
  let f : WalkFor := ⟨e.tenant, e.pasid, asid⟩
  have hstep3 := Dev.descend_pointer (f := f) (va := va) (level := 2) hclean htop3 [] h2 (by simpa [bitsAt_eq] using hr3)
  have hstep2 := fun acc => Dev.descend_pointer (f := f) (va := va) (level := 1) hclean htop2 acc h1
    (by simpa [bitsAt_eq] using hr2)
  have hstep1 := fun acc => Dev.descend_pointer (f := f) (va := va) (level := 0) hclean htop1 acc h0
    (by simpa [bitsAt_eq] using hr1)
  rw [hstep2, hstep1] at hstep3
  obtain ⟨back, pages, hpages, hback, hppn, hlast⟩ := Dev.descend_leaf (f := f) (va := va) hclean htop0 (leaf := leaf) _
    (by simpa [bitsAt_eq] using hr0) hleaf hV hR
  rw [hlast] at hstep3
  generalize ([] ++ [_] ++ [_] ++ [_] : List WalkCacheEntry) = acc at hstep3
  have husable : leafUsable leaf = true := by simp [leafUsable, pteU, pteA, pteR, bitAt, hU, hA, hR]
  refine ⟨leafEntry f leaf (va / 4096 - back) pages (ptePpn leaf - back),
    d.holdWalk e.tenant e.pasid (e.entry, false) acc, ?walk, rfl, rfl, rfl, Nat.sub_le _ _, ?run,
    ?pa, hR, rfl, ?mem⟩
  case walk =>
    rw [Dev.walk_of_descend hctx hwc hmode hva (by rw [hfor, hroot]; exact hstep3) husable, bitsAt_eq]
    norm_num
  case run =>
    show va / 4096 < va / 4096 - back + pages
    omega
  case pa =>
    have hleafPpn : ptePpn leaf = leaf / 2 ^ 10 := by
      rw [ptePpn, bitsAt_eq]
      omega
    show (ptePpn leaf - back + (va / 4096 - (va / 4096 - back))) * 4096 + va % 4096 = _
    rw [Nat.sub_sub_self hback, Nat.sub_add_cancel hppn, hleafPpn]
  case mem => exact Dev.holdWalk_mem _ _ _ _ _

end Sys2Proof.Machine

/-! ## Inputs, latches, turn-offs and resets of the module (chapter 02, R69 to R74, R92, R402 to R404)

The charge, the turn-off, the loss of the AON supply and the warm reset each have one law for the registers of the power
domain, one for the work that is lost, and one for what the AON domain keeps. -/

namespace Sys2Proof.Machine

open Sys2Proof.Stm

/-- A command that reaches the device alone, by what it makes of the device. -/
theorem exec_dev {c : Instr} {s : State} {d e : Dev} (hc : exec c s = .next { s with dev := d }) (h : d = e) :
    exec c s = .next { s with dev := e } := h ▸ hc

/-! ### The charge -/

theorem Dev.startCharge_eq (d : Dev) :
    d.startCharge = { d with pwr := { d.pwr with charging := d.pwr.charging || MayCharge d.pwr } } := by
  unfold Dev.startCharge
  cases h : MayCharge d.pwr
  · exact (if_neg (by rw [← MayCharge, h]; simp)).trans (by simp)
  · exact (if_pos h).trans (by simp)

theorem Nat.ble_since {d : Dev} {t k : Nat} : Nat.ble k (d.since t) = decide (k ≤ d.pwr.tick - t) := by
  rw [Bool.eq_iff_iff]
  simp [Dev.since]

/-- Settles O1: the charge's law gives the first commands, the ticks that passed since a stamp the latches'. -/
theorem inputsAndLatches : Obligations.InputsAndLatches := by
  refine ⟨fun s => ?_, fun s => ?_, fun s => ?_, fun s => rfl, fun s h => ?_, fun s h => ?_, fun s h ht => ?_,
    fun s h ht => ?_, fun s h ht => ?_⟩
  · exact exec_dev rfl (by exact Dev.startCharge_eq _)
  · exact exec_dev rfl (by exact Dev.startCharge_eq _)
  · exact exec_dev rfl (by exact Dev.startCharge_eq _)
  · change execAuxAbsent s = _
    simp [execAuxAbsent, onDev, Dev.aonCheck, h]
  · change execBulkChargeDone s = _
    simp [execBulkChargeDone, onDev, h]
  · change execInput54vRemoved s = _
    have : 250000 ≤ s.dev.pwr.tick - s.dev.pwr.v54Tick := by omega
    simp [execInput54vRemoved, onDev, h, Nat.ble_since, this, Dev.clearLatches]
  · change execTripLatchClear s = _
    have : 250000 ≤ s.dev.pwr.tick - s.dev.pwr.pwrEnTick := by omega
    simp [execTripLatchClear, onDev, h, Nat.ble_since, this, Dev.clearLatches]
  · change execTripLatchClear s = _
    have : ¬ 250000 ≤ s.dev.pwr.tick - s.dev.pwr.pwrEnTick := by omega
    simp [execTripLatchClear, onDev, Nat.ble_since, this]

/-! ### What a reset or a turn-off loses and keeps -/

/-- What no reset but the loss of the AON supply touches, of the device (R50, R70, R78, Table 4.1). -/
structure Dev.AonSame (d e : Dev) : Prop where
  jtag : e.jtag = d.jtag
  mgt : e.mgt = d.mgt
  tick : e.pwr.tick = d.pwr.tick
  aon : e.pwr.aon = d.pwr.aon
  fuses : e.boot.fuses = d.boot.fuses
  slotA : e.boot.slotA = d.boot.slotA
  slotB : e.boot.slotB = d.boot.slotB
  emits : e.emits = d.emits
  host : ∀ a, hostBase ≤ a → e.mem.byte a = d.mem.byte a

theorem Dev.AonSame.trans {a b c : Dev} (h : a.AonSame b) (h' : b.AonSame c) : a.AonSame c :=
  ⟨h'.jtag.trans h.jtag, h'.mgt.trans h.mgt, h'.tick.trans h.tick, h'.aon.trans h.aon, h'.fuses.trans h.fuses,
    h'.slotA.trans h.slotA, h'.slotB.trans h.slotB, h'.emits.trans h.emits, fun a ha => (h'.host a ha).trans (h.host a ha)⟩

theorem aonKept_of {s : State} {e : Dev} (h : s.dev.AonSame e) : AonKept s { s with dev := e } :=
  ⟨rfl, h.jtag, h.mgt, h.tick, h.aon, h.fuses, h.slotA, h.slotB, h.emits, h.host⟩

theorem hostOnly_byte_low (m : Mem) : ∀ a < hostBase, (hostOnly m).byte a = 0 := fun a ha => by
  rw [hostOnly_byte, if_neg (Nat.not_le.mpr ha)]

theorem Dev.hubClear_workLost (d : Dev) : WorkLost d.hubClear := by
  refine ⟨rfl, rfl, rfl, rfl, rfl, rfl, rfl, rfl, rfl, rfl, rfl, rfl, ?_⟩
  rw [Dev.hubClear_mem]
  exact hostOnly_byte_low d.mem

theorem Dev.hubClear_aonSame (d : Dev) : d.AonSame d.hubClear where
  jtag := d.hubClear_jtag
  mgt := d.hubClear_mgt
  tick := by rw [d.hubClear_pwr]
  aon := by rw [d.hubClear_pwr]
  fuses := by rw [d.hubClear_boot]
  slotA := by rw [d.hubClear_boot]
  slotB := by rw [d.hubClear_boot]
  emits := d.hubClear_emits
  host a ha := by rw [d.hubClear_mem, hostOnly_byte, if_pos ha]

/-- Uncounting an attempt changes the count, its mirror and the attempt's mark (R92). -/
theorem Dev.restoreCount_frame (d : Dev) : d.restoreCount = { d with boot := { d.boot with
    count := d.restoreCount.boot.count, mirror := d.restoreCount.boot.mirror
    attempt := d.restoreCount.boot.attempt } } := by
  unfold Dev.restoreCount
  split <;> rfl

theorem Dev.restoreCount_aonSame (d : Dev) : d.AonSame d.restoreCount := by
  rw [Dev.restoreCount_frame]
  exact ⟨rfl, rfl, rfl, rfl, rfl, rfl, rfl, rfl, fun _ _ => rfl⟩

theorem Dev.restoreCount_pwr (d : Dev) : d.restoreCount.pwr = d.pwr := by rw [Dev.restoreCount_frame]

theorem Dev.restoreCount_boot_of_attempt {d : Dev} (h : d.boot.attempt = true) :
    d.restoreCount.boot = { d.boot with count := d.boot.prior, mirror := d.boot.prior, attempt := false } := by
  rw [Dev.restoreCount, if_pos h]

/-! ### The turn-off (R403) -/

section
variable {d : Dev} (hlive : d.live = true) (c : TurnOff)
include hlive

theorem Dev.turnOff_of_live : d.turnOff c = { d.restoreCount.hubClear with
    pwr := { d.pwr with falling := true, modPwrOk := false, lastOff := c }
    boot := { d.restoreCount.boot with
      running := false, cfgOpen := false, pcieGen := 0, pcieLanes := 0, cxl := 0, memActive := false } } := by
  rw [Dev.turnOff, if_pos hlive]
  dsimp only
  rw [Dev.hubClear_pwr, Dev.hubClear_boot, Dev.restoreCount_pwr]

theorem Dev.turnOff_workLost : WorkLost (d.turnOff c) := by
  rw [Dev.turnOff_of_live hlive]
  exact d.restoreCount.hubClear_workLost

theorem Dev.turnOff_pwr : (d.turnOff c).pwr = { d.pwr with falling := true, modPwrOk := false, lastOff := c } := by
  rw [Dev.turnOff_of_live hlive]

theorem Dev.turnOff_aonSame : d.AonSame (d.turnOff c) := by
  have h := d.restoreCount_aonSame.trans d.restoreCount.hubClear_aonSame
  have hr := d.restoreCount_aonSame
  rw [Dev.turnOff_of_live hlive]
  exact ⟨h.jtag, h.mgt, rfl, rfl, hr.fuses, hr.slotA, hr.slotB, h.emits, h.host⟩

theorem Dev.turnOff_count (ha : d.boot.attempt = true) :
    (d.turnOff c).boot.count = d.boot.prior ∧ (d.turnOff c).boot.mirror = d.boot.prior := by
  rw [Dev.turnOff_of_live hlive]
  dsimp only
  rw [Dev.restoreCount_boot_of_attempt ha]
  exact ⟨rfl, rfl⟩

end

/-- A change of the power registers that keeps tick and supply touches nothing that a turn-off keeps. -/
theorem Dev.AonSame.of_pwr {d e : Dev} (h : d.AonSame e) {p : Pwr} (ht : p.tick = e.pwr.tick) (ha : p.aon = e.pwr.aon) :
    d.AonSame { e with pwr := p } :=
  ⟨h.jtag, h.mgt, ht.trans h.tick, ha.trans h.aon, h.fuses, h.slotA, h.slotB, h.emits, h.host⟩

/-! ### The loss of the AON supply (R402) -/

theorem Dev.loseAon_workLost (d : Dev) : WorkLost d.loseAon := by
  refine ⟨rfl, rfl, rfl, rfl, rfl, rfl, rfl, rfl, rfl, rfl, rfl, rfl, ?_⟩
  exact hostOnly_byte_low d.tearFlash.mem

theorem Dev.loseAon_boot (d : Dev) : d.loseAon.boot = {
    slotA := d.boot.slotA, slotB := d.boot.slotB, fuses := d.boot.fuses, mirror := d.boot.mirror
    count := d.boot.mirror } := by
  unfold Dev.loseAon
  rw [Dev.tearFlash_frame]

theorem Dev.loseAon_pwr (d : Dev) : d.loseAon.pwr = { aon := false, v54 := d.pwr.v54, aux := d.pwr.aux
                                                      overvolt := d.pwr.overvolt, pwrEn := d.pwr.pwrEn
                                                      perst := d.pwr.perst } := by
  unfold Dev.loseAon
  rw [Dev.tearFlash_frame]

theorem Dev.aonCheck_of_unsupplied {d : Dev} (ha : d.pwr.aon = true) (hv : d.pwr.v54 = false) (hx : d.pwr.aux = false) :
    d.aonCheck = d.loseAon := by
  simp [Dev.aonCheck, ha, hv, hx]

theorem Dev.aonCheck_of_aux {d : Dev} (hx : d.pwr.aux = true) : d.aonCheck = d := by simp [Dev.aonCheck, hx]

/-! ### The warm reset and the first boot (R72 to R74) -/

theorem Dev.warmReset_workLost (d : Dev) (c : Nat) : WorkLost (d.warmReset c) := by
  unfold Dev.warmReset
  exact d.hubClear_workLost

theorem Dev.warmReset_pwr (d : Dev) (c : Nat) : (d.warmReset c).pwr = d.pwr := by
  unfold Dev.warmReset
  exact d.hubClear_pwr

theorem Dev.warmReset_boot (d : Dev) (c : Nat) : (d.warmReset c).boot =
    { d.boot.restart d.pwr.tick (d.hubClear.obj 0x1F40 3 0) with
      rstCause := c, rstTick := d.pwr.tick, rstWarm := satAdd d.boot.rstWarm 1 32
      beybyReq := if c == 3 then false else if c == 4 then true else d.boot.beybyReq } := by
  unfold Dev.warmReset
  dsimp only
  rw [Dev.hubClear_boot]
  rfl

theorem Dev.warmReset_aonSame (d : Dev) (c : Nat) : d.AonSame (d.warmReset c) := by
  have h := d.hubClear_aonSame
  have hb := d.warmReset_boot c
  have hp := d.warmReset_pwr c
  exact ⟨h.jtag, h.mgt, by rw [hp], by rw [hp], by rw [hb]; rfl, by rw [hb]; rfl, by rw [hb]; rfl, h.emits, h.host⟩

theorem Dev.coldBoot_workLost (d : Dev) : WorkLost d.coldBoot := d.hubClear_workLost

theorem Dev.coldBoot_pwr (d : Dev) : d.coldBoot.pwr = d.pwr := d.hubClear_pwr

theorem Dev.coldBoot_boot (d : Dev) : d.coldBoot.boot = d.boot.restart d.pwr.tick (d.hubClear.obj 0x1F40 3 0) := by
  unfold Dev.coldBoot
  dsimp only
  rw [Dev.hubClear_boot]

theorem Dev.coldBoot_aonSame (d : Dev) : d.AonSame d.coldBoot := by
  have h := d.hubClear_aonSame
  have hb := d.coldBoot_boot
  exact ⟨h.jtag, h.mgt, h.tick, h.aon, by rw [hb]; rfl, by rw [hb]; rfl, by rw [hb]; rfl, h.emits, h.host⟩

/-! ### The commands of a turn-off -/

section
variable {s : State}

theorem exec_pwrEnLow (h : s.dev.pwr.pwrEn = true) : exec .pwrEnLow s = .next { s with dev :=
    { s.dev.turnOff .pwrEn with pwr := { (s.dev.turnOff .pwrEn).pwr with
      pwrEn := false, pwrEnTick := (s.dev.turnOff .pwrEn).pwr.tick, charging := false } } } := by
  change execPwrEnLow s = _
  simp [execPwrEnLow, onDev, h]

theorem exec_input54vUndervoltage_of_aux (h : s.dev.pwr.v54 = true) (hlive : s.dev.live = true)
    (hx : s.dev.pwr.aux = true) : exec .input54vUndervoltage s = .next { s with dev :=
    { s.dev.turnOff .input with pwr := { (s.dev.turnOff .input).pwr with
      v54 := false, v54Tick := (s.dev.turnOff .input).pwr.tick, charging := false, charged := false } } } := by
  change execInput54vUndervoltage s = _
  simp only [execInput54vUndervoltage, onDev, h, hx, if_true]
  rw [Dev.aonCheck_of_aux]
  simp [Dev.turnOff_pwr hlive, hx]

theorem exec_inputOvervoltage : exec .inputOvervoltage s = .next { s with dev :=
    { s.dev.turnOff .input with pwr := { (s.dev.turnOff .input).pwr with overvolt := true, charging := false } } } := rfl

theorem exec_overcurrentTrip (h : s.dev.pwr.aon = true) : exec .overcurrentTrip s = .next { s with dev :=
    { s.dev.turnOff .overcurrent with pwr := { (s.dev.turnOff .overcurrent).pwr with
      ocLatch := true, charging := false
      lastOff := if (!s.dev.pwr.rails && s.dev.pwr.pwrEn && s.dev.pwr.charged) = true then .overcurrent
        else (s.dev.turnOff .overcurrent).pwr.lastOff } } } := by
  change execOvercurrentTrip s = _
  simp [execOvercurrentTrip, onDev, h]

end

theorem Dev.turnOff_of_not_live {d : Dev} (h : d.live = false) (c : TurnOff) : d.turnOff c = d := by
  simp [Dev.turnOff, h]

theorem Dev.not_live_of_falling {d : Dev} (h : d.pwr.falling = true) : d.live = false := by simp [Dev.live, h]

theorem Dev.rails_of_live {d : Dev} (h : d.live = true) : d.pwr.rails = true := by
  simp only [Dev.live, Bool.and_eq_true] at h
  exact h.1

/-- Without 3V3_AUX the loss of 54 V takes the AON supply with the rails (R402). -/
theorem exec_input54vUndervoltage_of_no_aux {s : State} (ha : s.dev.pwr.aon = true) (h : s.dev.pwr.v54 = true)
    (hx : s.dev.pwr.aux = false) : Nexts .input54vUndervoltage s fun t =>
      ∃ d : Dev, t = { s with dev := d.aonCheck } ∧ d.pwr.aon = true ∧ d.pwr.v54 = false ∧ d.pwr.aux = false ∧
        d.boot = s.dev.boot := by
  have hexec : exec .input54vUndervoltage s = execInput54vUndervoltage s := rfl
  unfold Nexts
  rw [hexec, execInput54vUndervoltage, onDev]
  dsimp only
  rw [if_pos h, if_neg (by simp [hx])]
  refine ⟨_, rfl, _, rfl, ?_, rfl, ?_, ?_⟩
  · split <;> exact ha
  · split <;> exact hx
  · split <;> rfl

/-- Settles O2: the turn-off's laws give what it decides, loses and keeps; the loss of the AON supply and the fall of the
rails have their own. -/
theorem turnOffs : Obligations.TurnOffs := by
  refine ⟨fun s hl hp => ?pwrEn, fun s hl hv hx => ?under, fun s hl => ?overvolt, fun s hl ha => ?current,
    fun s hl ha => ?latch, fun s ha hv hx => ?aon, fun s hf => ?fall, fun s hl ha => ?uncounted⟩
  case pwrEn =>
    have hoff := Dev.turnOff_pwr hl .pwrEn
    refine ⟨_, exec_pwrEnLow hp, aonKept_of ((Dev.turnOff_aonSame hl _).of_pwr rfl rfl), Dev.turnOff_workLost hl _, ?_⟩
    simp [hoff, Dev.live]
  case under =>
    have hoff := Dev.turnOff_pwr hl .input
    refine ⟨_, exec_input54vUndervoltage_of_aux hv hl hx, aonKept_of ((Dev.turnOff_aonSame hl _).of_pwr rfl rfl),
      Dev.turnOff_workLost hl _, ?_⟩
    simp [hoff, Dev.live]
  case overvolt =>
    have hoff := Dev.turnOff_pwr hl .input
    refine ⟨_, exec_inputOvervoltage, aonKept_of ((Dev.turnOff_aonSame hl _).of_pwr rfl rfl),
      Dev.turnOff_workLost hl _, ?_⟩
    simp [hoff, Dev.live]
  case current =>
    have hoff := Dev.turnOff_pwr hl .overcurrent
    refine ⟨_, exec_overcurrentTrip ha, aonKept_of ((Dev.turnOff_aonSame hl _).of_pwr rfl rfl),
      Dev.turnOff_workLost hl _, ?_⟩
    simp [hoff, Dev.live]
  case latch =>
    refine ⟨_, exec_overcurrentTrip ha, ?_⟩
    rw [Dev.turnOff_of_not_live hl]
    exact ⟨rfl, rfl, rfl, by simp [Dev.mayStart], rfl, rfl⟩
  case aon =>
    obtain ⟨t, ht, d, rfl, hda, hd, hdx, hb⟩ := exec_input54vUndervoltage_of_no_aux ha hv hx
    rw [Dev.aonCheck_of_unsupplied hda hd hdx] at ht
    refine ⟨_, ht, rfl, d.loseAon_workLost, ?_⟩
    simp [Dev.loseAon_pwr, Dev.loseAon_boot, Dev.live, hd, hb]
  case fall =>
    refine ⟨_, exec_dev rfl (by exact if_pos hf), ?_, ?_⟩ <;> rfl
  case uncounted =>
    have hl' : ({ s.dev with pwr := { s.dev.pwr with pwrEn := true } } : Dev).live = true := hl
    exact ⟨_, exec_pwrEnLow rfl, Dev.turnOff_count hl' .pwrEn ha⟩

/-! ### The resets of the module (R24, R25, R71, R73, R74, R404) -/

/-- The thermal monitor begins again without touching power, boot or what the AON domain keeps (R71). -/
theorem Dev.thermRestart_frame (d : Dev) :
    d.thermRestart = { d with therm := d.thermRestart.therm, err := d.thermRestart.err } := rfl

/-- The power registers once the main rails are in regulation (R25, R36). -/
def Pwr.railsUp (p : Pwr) : Pwr :=
  { p with
    rails := true, falling := false, modPwrOk := true, okTick := p.tick, thermtrip := false, coldBoot := false,
    linkReset := true, perstHeld := !p.perst }

section
variable {s : State}

theorem exec_mainRailsInRegulation (h : s.dev.mayStart = true) : exec .mainRailsInRegulation s =
    .next { s with
      dev := if s.dev.pwr.coldBoot = true then Dev.coldBoot (Dev.thermRestart { s.dev with pwr := s.dev.pwr.railsUp })
        else Dev.warmReset (Dev.thermRestart { s.dev with pwr := s.dev.pwr.railsUp }) s.dev.pwr.lastOff.cause } :=
  exec_dev rfl (by exact if_pos h)

theorem exec_perstAssert (h : s.dev.pwr.perst = false) (hlive : s.dev.live = true) : exec .perstAssert s =
    .next { s with dev := ({ s.dev with pwr :=
      { s.dev.pwr with perst := true, linkReset := true, perstHeld := false } } : Dev).restoreCount.warmReset 2 } :=
  exec_dev rfl (by exact (if_neg (by simp [h])).trans (if_pos hlive))

end

/-- A reset that a request or a rail start brings restarts the boot at stage 0. -/
theorem Dev.warmReset_restarts (d : Dev) (c : Nat) : (d.warmReset c).boot.running = true ∧ (d.warmReset c).boot.stage = 0 ∧
    (d.warmReset c).boot.rstCause = c ∧ (d.warmReset c).boot.rstTick = d.pwr.tick ∧
    (d.warmReset c).boot.rstWarm = Nat.min (d.boot.rstWarm + 1) (2 ^ 32 - 1) := by
  rw [Dev.warmReset_boot]
  exact ⟨rfl, rfl, rfl, rfl, rfl⟩

/-- A requested reset uncounts an attempt and is a warm reset (R91, R404). -/
theorem Dev.requestReset_aonSame (d : Dev) {c : Nat} : d.AonSame (d.restoreCount.warmReset c) :=
  d.restoreCount_aonSame.trans (Dev.warmReset_aonSame _ _)

/-- Settles O3: each reset by its law, after the registers that the command itself sets. -/
theorem resetsOfTheModule : Obligations.ResetsOfTheModule := by
  refine ⟨fun s ha hv => ?aux, fun s x ha hv => ?cold, fun s hm hc => ?first, fun s hm hc => ?later, fun s hp hl => ?perst,
    fun s hl => ?warm, fun s hl => ?beyby, fun s hp hl => ?perstOff, fun s hp => ?perstAgain, fun s hm => ?notYet,
    fun s hl => ?dead⟩
  case aux =>
    have hexec : exec .auxAbsent s = .next { s with dev :=
        ({ s.dev with pwr := { s.dev.pwr with aux := false } } : Dev).loseAon } :=
      exec_dev rfl (by exact Dev.aonCheck_of_unsupplied ha hv rfl)
    refine ⟨_, hexec, rfl, ?_, ?_, ?_, Dev.loseAon_workLost _, ?_, ?_⟩ <;>
      simp [Dev.loseAon_pwr, Dev.loseAon_boot]
  case cold =>
    have hcond : (!s.dev.pwr.aon && (s.dev.pwr.v54 || s.dev.pwr.aux)) = true := by simpa [ha] using hv
    exact exec_dev rfl (by exact (if_pos hcond).trans (Dev.startCharge_eq _))
  case first =>
    rw [Nexts, exec_mainRailsInRegulation hm, if_pos hc]
    refine ⟨_, rfl, aonKept_of (Dev.AonSame.trans ?_ (Dev.coldBoot_aonSame _)), Dev.coldBoot_workLost _, ?_⟩
    · exact ⟨rfl, rfl, rfl, rfl, rfl, rfl, rfl, rfl, fun _ _ => rfl⟩
    · simp only [Dev.coldBoot_pwr, Dev.coldBoot_boot]
      exact ⟨rfl, rfl, rfl, rfl, rfl, rfl, rfl, rfl, rfl⟩
  case later =>
    rw [Nexts, exec_mainRailsInRegulation hm, if_neg (by simp [hc])]
    obtain ⟨hrun, hstage, hcause, htick, hwarm⟩ := Dev.warmReset_restarts
      (({ s.dev with pwr := s.dev.pwr.railsUp } : Dev).thermRestart) s.dev.pwr.lastOff.cause
    refine ⟨_, rfl, aonKept_of (Dev.AonSame.trans ?_ (Dev.warmReset_aonSame _ _)), Dev.warmReset_workLost _ _, ?_, ?_,
      hrun, hstage, htick, ?_, hwarm⟩
    · exact ⟨rfl, rfl, rfl, rfl, rfl, rfl, rfl, rfl, fun _ _ => rfl⟩
    · rw [Dev.warmReset_pwr]
      rfl
    · rw [Dev.warmReset_pwr]
      rfl
    · rw [hcause]
      cases s.dev.pwr.lastOff <;> rfl
  case perst =>
    rw [Nexts, exec_perstAssert hp hl]
    generalize hd : ({ s.dev with pwr := { s.dev.pwr with perst := true, linkReset := true, perstHeld := false } } : Dev) = d
    obtain ⟨hrun, hstage, hcause, htick, hwarm⟩ := Dev.warmReset_restarts d.restoreCount 2
    refine ⟨_, rfl, aonKept_of (Dev.AonSame.trans ?_ (Dev.warmReset_aonSame _ _)), Dev.warmReset_workLost _ _, ?_, hrun,
      hstage, hcause, ?_, ?_, fun hatt => ?_⟩
    · refine Dev.AonSame.trans ?_ d.restoreCount_aonSame
      subst hd
      exact ⟨rfl, rfl, rfl, rfl, rfl, rfl, rfl, rfl, fun _ _ => rfl⟩
    · rw [Dev.warmReset_pwr, Dev.restoreCount_pwr, ← hd]
    · rw [htick, Dev.restoreCount_pwr, ← hd]
    · rw [hwarm, Dev.restoreCount_frame, ← hd]
    · have hatt' : d.boot.attempt = true := hd ▸ hatt
      rw [Dev.warmReset_boot, Dev.restoreCount_boot_of_attempt hatt', ← hd]
      exact ⟨rfl, rfl⟩
  case warm =>
    obtain ⟨hrun, hstage, hcause, htick, -⟩ := Dev.warmReset_restarts s.dev.restoreCount 3
    refine ⟨_, exec_dev rfl (by exact if_pos hl), aonKept_of s.dev.requestReset_aonSame,
      Dev.warmReset_workLost _ _, ?_, hcause, ?_, ?_, hrun, hstage⟩
    · exact (Dev.warmReset_pwr _ _).trans s.dev.restoreCount_pwr
    · exact htick.trans (by rw [Dev.restoreCount_pwr])
    · exact congrArg Boot.beybyReq (Dev.warmReset_boot _ _)
  case beyby =>
    obtain ⟨hrun, hstage, hcause, htick, -⟩ := Dev.warmReset_restarts s.dev.restoreCount 4
    refine ⟨_, exec_dev rfl (by exact if_pos hl), aonKept_of s.dev.requestReset_aonSame,
      Dev.warmReset_workLost _ _, ?_, hcause, ?_, ?_, hrun, hstage⟩
    · exact (Dev.warmReset_pwr _ _).trans s.dev.restoreCount_pwr
    · exact htick.trans (by rw [Dev.restoreCount_pwr])
    · exact congrArg Boot.beybyReq (Dev.warmReset_boot _ _)
  case perstOff => exact exec_dev rfl (by exact (if_neg (by simp [hp])).trans (if_neg (by simpa [Dev.live] using hl)))
  case perstAgain => exact exec_dev rfl (by exact if_pos hp)
  case notYet => exact exec_dev rfl (by exact if_neg (by simp [hm]))
  case dead => exact ⟨exec_dev rfl (by exact if_neg (by simp [hl])), exec_dev rfl (by exact if_neg (by simp [hl]))⟩

end Sys2Proof.Machine

/-! ## The host link (R34, R44, R84, R126 to R129, Table 4.4) -/

namespace Sys2Proof.Machine

open Sys2Proof.Stm

theorem Nat.ble_since_of_le {d : Dev} {t k : Nat} (h : t + k ≤ d.pwr.tick) : Nat.ble k (d.since t) = true := by
  rw [Nat.ble_since, decide_eq_true_iff]
  omega

theorem Jtag.endTest_of_pins {j : Jtag} (h : j.eff = .extest ∨ j.eff = .highz ∨ j.eff = .clamp) :
    j.endTest = { j with ir := 0xFF, eff := .bypass } := by
  rcases h with h | h | h <;> simp [Jtag.endTest, h]

section
variable {s : State}

theorem exec_perstDeassert_of_due (hp : s.dev.pwr.perst = true) (hl : s.dev.live = true)
    (ht : s.dev.pwr.okTick + 2500000 ≤ s.dev.pwr.tick) : exec .perstDeassert s = .next { s with dev := { s.dev with
      pwr := { s.dev.pwr with perst := false, linkReset := false, perstHeld := false, perstTick := s.dev.pwr.tick }
      jtag := s.dev.jtag.endTest } } :=
  exec_dev rfl (by
    refine (if_pos hp).trans (if_pos ?_)
    exact Bool.and_eq_true_iff.mpr ⟨hl, Nat.ble_since_of_le ht⟩)

theorem exec_perstDeassert_of_early (hp : s.dev.pwr.perst = true) (ht : s.dev.pwr.tick < s.dev.pwr.okTick + 2500000) :
    exec .perstDeassert s = .next { s with dev := { s.dev with
      pwr := { s.dev.pwr with perst := false, perstHeld := true }, jtag := s.dev.jtag.endTest } } :=
  exec_dev rfl (by
    refine (if_pos hp).trans (if_neg ?_)
    have hlate : ¬ 2500000 ≤ s.dev.pwr.tick - s.dev.pwr.okTick := by omega
    simp [Nat.ble_since, hlate])

theorem exec_perstHoldExpiry_of_due (hl : s.dev.live = true) (hh : s.dev.pwr.perstHeld = true)
    (hp : s.dev.pwr.perst = false) (ht : s.dev.pwr.okTick + 2500000 ≤ s.dev.pwr.tick) :
    exec .perstHoldExpiry s = .next { s with dev := s.dev.linkStart } :=
  exec_dev rfl (by exact if_pos (by simp [hl, hh, hp, Nat.ble_since_of_le ht]))

theorem exec_configOpenTimeout_of_due (hl : s.dev.live = true) (hr : s.dev.boot.running = true)
    (hreset : s.dev.pwr.linkReset = false) (ht : s.dev.pwr.perstTick + 25000000 ≤ s.dev.pwr.tick) :
    exec .configOpenTimeout s = .next { s with dev := s.dev.openCfg } :=
  exec_dev rfl (by exact if_pos (by simp [hl, hr, hreset, Nat.ble_since_of_le ht]))

theorem exec_configRequest_of_closed {n : FnId} {op : CfgOp} (hl : s.dev.live = true) (hg : s.dev.boot.pcieGen ≠ 0)
    (hc : s.dev.boot.cfgOpen = false) :
    exec (.configRequest n op) s = .next { s with dev := s.dev.emit (.cfgCompletion n.val true 0) } :=
  exec_dev rfl (by
    refine (if_neg ?_).trans (if_pos ?_)
    · simp [Dev.linkUp, hl, hg, hc]
    · simp [Dev.rrs, hc])

/-- A request to the physical function, once configuration space is open and no FLR of it runs. -/
theorem exec_configRequest_of_open {op : CfgOp} (hl : s.dev.live = true) (hg : s.dev.boot.pcieGen ≠ 0)
    (hc : s.dev.boot.cfgOpen = true) (hf : (s.dev.fn 0).flr = false) : exec (.configRequest 0 op) s =
      .next { s with dev := (s.dev.configOp 0 op).2.emit (.cfgCompletion 0 false (s.dev.configOp 0 op).1) } :=
  exec_dev rfl (by
    refine (if_neg ?_).trans (if_neg ?_)
    · simp [Dev.linkUp, Dev.fnExists, hl, hg]
    · simp [Dev.rrs, hc, hf])

end

/-- The boot registers after the link has trained (R126 to R129, Table 4.4). -/
def Dev.trainedBoot (d : Dev) (g l : Nat) (x : CxlMode) : Boot :=
  if d.boot.beyby then { d.boot with pcieGen := 1, pcieLanes := 1, cxl := 0 }
  else
    let c := if d.pwr.straps.hostSel then 0 else
      match x with
      | .none => 0
      | .flit68 => 1
      | .flit256 => 2
    { d.boot with pcieGen := g, pcieLanes := l, cxl := c, memActive := d.boot.memActive || (d.boot.complete && c != 0) }

theorem exec_hostLinkTrained {s : State} {g : Fin 7} {l : Fin 17} {x : CxlMode} (hl : s.dev.live = true)
    (hr : s.dev.pwr.linkReset = false) (hk : s.dev.boot.fuses.testBit 272 = true) (hg : g ≠ 0)
    (hw : l = 1 ∨ l = 2 ∨ l = 4 ∨ l = 8 ∨ l = 16) : exec (.hostLinkTrained g l x) s =
      .next { s with dev := { s.dev with boot := s.dev.trainedBoot g.val l.val x } } :=
  exec_dev rfl (by
    have hgen : g.val ≠ 0 := fun h => hg (Fin.ext h)
    have hlanes : [1, 2, 4, 8, 16].contains l.val = true := by
      rcases hw with rfl | rfl | rfl | rfl | rfl <;> rfl
    refine (if_pos (by simp [hl, hr, bitAt, hk, hgen, -List.contains_eq_mem, hlanes])).trans ?_
    unfold Dev.trainedBoot
    split <;> rfl)

/-- Settles O4: each command of the host link by its law. -/
theorem hostLink : Obligations.HostLink := by
  refine ⟨fun s hp hl ht => ?deassert, fun s hp ht => ?early, fun s hl hh hp ht => ?held, fun s g l x hl hr hk hg hw => ?trained,
    fun s hl hr hreset hc ht => ?opened, fun s n op hl hg hc => ?closed, fun s hl hg hc hf => ?answers⟩
  case deassert =>
    refine ⟨_, exec_perstDeassert_of_due hp hl ht, rfl, rfl, fun h => ?_⟩
    simp [Jtag.endTest_of_pins h]
  case early => exact ⟨_, exec_perstDeassert_of_early hp ht, rfl, rfl⟩
  case held => exact exec_perstHoldExpiry_of_due hl hh hp ht
  case trained =>
    refine ⟨_, exec_hostLinkTrained hl hr hk hg hw, rfl, fun hb => ?_, fun hb => ?_⟩
    · simp [Dev.trainedBoot, hb]
    · cases hh : s.dev.pwr.straps.hostSel <;> cases x <;> simp +contextual [Dev.trainedBoot, hb, hh]
  case opened =>
    refine ⟨_, exec_configOpenTimeout_of_due hl hr hreset ht, ?_, ?_⟩ <;> simp [OnlyBoot, Dev.openCfg, hc, Dev.since]
  case closed => exact exec_configRequest_of_closed hl hg hc
  case answers =>
    exact ⟨exec_configRequest_of_open hl hg hc hf, exec_configRequest_of_open hl hg hc hf,
      fun b => exec_configRequest_of_open hl hg hc hf⟩

/-! ## SAMPLE and the common command codes (R23, R41, R42; log 6) -/

/-- The fourteen pins as SAMPLE captures them, PERST_N first (log 56). -/
def Dev.pins (d : Dev) (x : Straps) (l : I3cLines) : Nat :=
  (!d.pwr.perst).toNat + d.pwr.pwrEn.toNat * 2 + d.pwr.modPwrOk.toNat * 4 + (!d.pwr.thermtrip).toNat * 8 +
    (!d.alertAsserted).toNat * 16 + x.slotId.toNat * 32 + x.hostSel.toNat * 1024 +
    x.bootSafe.toNat * 2048 + l.scl.toNat * 4096 + l.sda.toNat * 8192

theorem exec_jtagSamplePreload {s : State} {x : Straps} {l : I3cLines} {pre : BitVec 14} (ha : s.dev.pwr.aon = true) :
    exec (.jtagSamplePreload x l pre) s = .next { s with
      dev := { s.dev with
        jtag := { s.dev.jtag with
          ir := 0x02, eff := .sample, scanned := BitVec.ofNat 14 (s.dev.pins x l), boundary := pre }
        emits := s.dev.emits ++ [.jtag (s.dev.pins x l)] } } :=
  exec_dev rfl (by
    refine (if_pos ha).trans ?_
    dsimp only
    rw [Dev.jtagLoad_of_bypass_unselected ha _ (.inr (.inr rfl))]
    rfl)

theorem testBit_of_digit {n k : Nat} {b : Bool} (h : n / 2 ^ k % 2 = b.toNat) : n.testBit k = b := by
  rw [Nat.testBit_eq_decide_div_mod_eq, h]
  cases b <;> rfl

theorem Dev.pins_lt (d : Dev) (x : Straps) (l : I3cLines) : d.pins x l < 2 ^ 14 := by
  have hslot := x.slotId.isLt
  have hb := Bool.toNat_le
  unfold Dev.pins
  have h1 := hb (!d.pwr.perst); have h2 := hb d.pwr.pwrEn; have h3 := hb d.pwr.modPwrOk; have h4 := hb (!d.pwr.thermtrip)
  have h5 := hb (!d.alertAsserted); have h6 := hb x.hostSel; have h7 := hb x.bootSafe; have h8 := hb l.scl
  have h9 := hb l.sda
  omega

/-- The pins that the port's statement names, by their places in the captured word. -/
theorem Dev.testBit_pins (d : Dev) (x : Straps) (l : I3cLines) :
    (d.pins x l).testBit 0 = !d.pwr.perst ∧ (d.pins x l).testBit 1 = d.pwr.pwrEn ∧
    (d.pins x l).testBit 2 = d.pwr.modPwrOk ∧ (d.pins x l).testBit 3 = !d.pwr.thermtrip ∧
    (d.pins x l).testBit 4 = !d.alertAsserted ∧ (d.pins x l).testBit 12 = l.scl ∧ (d.pins x l).testBit 13 = l.sda := by
  have hslot := x.slotId.isLt
  have hb := Bool.toNat_le
  unfold Dev.pins
  have h1 := hb (!d.pwr.perst); have h2 := hb d.pwr.pwrEn; have h3 := hb d.pwr.modPwrOk; have h4 := hb (!d.pwr.thermtrip)
  have h5 := hb (!d.alertAsserted); have h6 := hb x.hostSel; have h7 := hb x.bootSafe; have h8 := hb l.scl
  have h9 := hb l.sda
  refine ⟨testBit_of_digit ?_, testBit_of_digit ?_, testBit_of_digit ?_, testBit_of_digit ?_, testBit_of_digit ?_,
    testBit_of_digit ?_, testBit_of_digit ?_⟩ <;> omega

theorem sampleCode : SampleCode := by
  intro s x scl sda pre ha
  refine ⟨_, exec_jtagSamplePreload ha, rfl, ?_, rfl, rfl, rfl, ?_⟩
  · change _ = _ ++ [Emit.jtag (BitVec.ofNat 14 (s.dev.pins x ⟨scl, sda⟩)).toNat]
    rw [BitVec.toNat_ofNat, Nat.mod_eq_of_lt (s.dev.pins_lt _ _)]
  · simp only [BitVec.getLsbD_ofNat, Nat.reduceLT, decide_true, Bool.true_and]
    exact s.dev.testBit_pins x ⟨scl, sda⟩

/-- The port's answer needs an address exactly for a direct read (log 6). -/
theorem I3cPort.answers {p : I3cPort} {direct : Bool} (h : direct = false ∨ p.addr ≠ 0) :
    (!(direct && p.addr == 0)) = true := by
  rcases h with rfl | h
  · rfl
  · rw [beq_false_of_ne h, Bool.and_false, Bool.not_false]

section
variable {s : State} {f : I3cPort → I3cPort} {a : I3cPort → Option Nat} {direct : Bool}

theorem State.onPort_mgt (ha : s.dev.pwr.aon = true) (hd : direct = false ∨ s.dev.mgt.addr ≠ 0) :
    s.onPort .mgt f a direct =
      { s with dev := { s.dev with mgt := f s.dev.mgt, emits := s.dev.emits ++ [.i3c .mgt (a s.dev.mgt)] } } :=
  if_pos (by rw [ha, I3cPort.answers hd, Bool.and_true])

theorem State.onPort_met (hp : s.gnt.powered = true) (hv : s.dev.pwr.v54 = true)
    (hd : direct = false ∨ s.met.addr ≠ 0) : s.onPort .met f a direct =
      { s with met := f s.met, dev := { s.dev with emits := s.dev.emits ++ [.i3c .met (a s.met)] } } :=
  if_pos (by rw [hp, hv, I3cPort.answers hd, Bool.and_true, Bool.and_true])

theorem State.onPort_met_of_dead (h : s.gnt.powered = false ∨ s.dev.pwr.v54 = false) :
    s.onPort .met f a direct = s :=
  if_neg (by rcases h with h | h <;> simp [h])

end

/-- ENTDAA and SETDASA give their address to a port that has none. -/
theorem I3cPort.take_addr {p : I3cPort} (a : BitVec 7) (h : p.addr = 0) :
    (if p.addr == 0 then { p with addr := a } else p) = { p with addr := a } := if_pos (by simp [h])

theorem I3cPort.keep_addr {p : I3cPort} (a : BitVec 7) (h : p.addr ≠ 0) :
    (if p.addr == 0 then { p with addr := a } else p) = p := if_neg (by rw [beq_false_of_ne h]; decide)

/-- A command code on the management port, by what it makes of the port. -/
theorem mgtCcc_of {c : Instr} {s : State} {f : I3cPort → I3cPort} {a : I3cPort → Option Nat} {direct : Bool}
    {p : I3cPort} {x : Option Nat} (hc : exec c s = .next (s.onPort .mgt f a direct)) (ha : s.dev.pwr.aon = true)
    (hd : direct = false ∨ s.dev.mgt.addr ≠ 0) (hp : f s.dev.mgt = p) (hx : a s.dev.mgt = x) : MgtCcc c s p x := by
  rw [MgtCcc, hc, State.onPort_mgt ha hd, hp, hx]

/-- A command code on the metrology port, likewise. -/
theorem metCcc_of {c : Instr} {s : State} {f : I3cPort → I3cPort} {a : I3cPort → Option Nat} {direct : Bool}
    {p : I3cPort} {x : Option Nat} (hc : exec c s = .next (s.onPort .met f a direct)) (hm : s.gnt.powered = true)
    (hv : s.dev.pwr.v54 = true) (hd : direct = false ∨ s.met.addr ≠ 0) (hp : f s.met = p) (hx : a s.met = x) :
    MetCcc c s p x := by
  rw [MetCcc, hc, State.onPort_met hm hv hd, hp, hx]

/-- SETDASA acts only from the port's static address. -/
theorem exec_setdasa {s : State} {b : I3cBus} {x a : BitVec 7} (h : x.toNat = 8 + s.dev.pwr.straps.slotId.toNat) :
    exec (.setdasa b x a) s =
      .next (s.onPort b (fun p => if p.addr == 0 then { p with addr := a } else p) (fun _ => none)) := if_pos h

theorem commonCodes : CommonCodes := by
  refine ⟨fun s ha => ⟨fun a h => ?_, fun a h => ?_, fun x a hx h => ?_, ?_, fun e => ?_, fun e => ?_, fun n => ?_,
    fun n => ?_, fun h => ⟨?_, ?_, ?_, ?_, ?_, ?_⟩⟩, fun s hp hv => ⟨fun a h => ?_, fun x a hx h => ?_, ?_, fun e => ?_,
    fun e => ?_, fun n => ?_, fun n => ?_, fun h => ⟨?_, ?_, ?_, ?_, ?_, ?_⟩⟩, fun s h => ⟨fun a => ?_, fun x a => ?_, ?_, ?_⟩,
    fun s b k => rfl⟩
  · exact mgtCcc_of rfl ha (.inl rfl) (I3cPort.take_addr a h) rfl
  · exact mgtCcc_of rfl ha (.inl rfl) (I3cPort.keep_addr a h) rfl
  · exact mgtCcc_of (exec_setdasa hx) ha (.inl rfl) (I3cPort.take_addr a h) rfl
  · exact mgtCcc_of rfl ha (.inl rfl) rfl rfl
  · exact mgtCcc_of rfl ha (.inl rfl) rfl rfl
  · exact mgtCcc_of rfl ha (.inl rfl) rfl rfl
  · exact mgtCcc_of rfl ha (.inl rfl) rfl rfl
  · exact mgtCcc_of rfl ha (.inl rfl) rfl rfl
  · exact mgtCcc_of rfl ha (.inr h) rfl rfl
  · exact mgtCcc_of rfl ha (.inr h) rfl rfl
  · exact mgtCcc_of rfl ha (.inr h) rfl rfl
  · exact mgtCcc_of rfl ha (.inr h) rfl rfl
  · exact mgtCcc_of rfl ha (.inr h) rfl rfl
  · exact mgtCcc_of rfl ha (.inr h) rfl rfl
  · exact metCcc_of rfl hp hv (.inl rfl) (I3cPort.take_addr a h) rfl
  · exact metCcc_of (exec_setdasa hx) hp hv (.inl rfl) (I3cPort.take_addr a h) rfl
  · exact metCcc_of rfl hp hv (.inl rfl) rfl rfl
  · exact metCcc_of rfl hp hv (.inl rfl) rfl rfl
  · exact metCcc_of rfl hp hv (.inl rfl) rfl rfl
  · exact metCcc_of rfl hp hv (.inl rfl) rfl rfl
  · exact metCcc_of rfl hp hv (.inl rfl) rfl rfl
  · exact metCcc_of rfl hp hv (.inr h) rfl rfl
  · exact metCcc_of rfl hp hv (.inr h) rfl rfl
  · exact metCcc_of rfl hp hv (.inr h) rfl rfl
  · exact metCcc_of rfl hp hv (.inr h) rfl rfl
  · exact metCcc_of rfl hp hv (.inr h) rfl rfl
  · exact metCcc_of rfl hp hv (.inr h) rfl rfl
  · exact congrArg Host.Outcome.next (State.onPort_met_of_dead h)
  · change (if x.toNat = _ then Host.Outcome.next (s.onPort .met _ _) else .next s) = .next s
    rw [State.onPort_met_of_dead h, ite_self]
  · exact congrArg Host.Outcome.next (State.onPort_met_of_dead h)
  · exact congrArg Host.Outcome.next (State.onPort_met_of_dead h)

/-- Settles O6: the capture by its word's bits, the common command codes by what they make of their port. -/
theorem servicePorts : Obligations.ServicePorts := ⟨sampleCode, commonCodes⟩

end Sys2Proof.Machine

/-! ## What the posting of a record does to the dictionary (R382, R385 to R387) -/

namespace Sys2Proof.Machine

open Sys2Proof.Stm

/-- Every value outside the listed keys is as before. -/
def Dev.Keeps (L : List Nat) (d e : Dev) : Prop := ∀ k, k ∉ L → KMap.find e.dict k = KMap.find d.dict k

/-- The counters that looking a translation up moves (Table 7.3). -/
def lookupKeys : List Nat :=
  [okey 0x4020 1 0, okey 0x4020 2 0, okey 0x4021 1 0, okey 0x4021 2 0, okey 0x4021 3 0, okey 0x4021 4 0]

/-- The counters that reading the ownership table moves (R400). -/
def ownKeys : List Nat := [okey 0xA010 4 0, okey 0xA010 5 0]

/-- The counters that writing the entries of a tenant's error ring moves. -/
def errKeys (n : Nat) : List Nat :=
  lookupKeys ++ ownKeys ++ [okey 0xA004 0 n, okey 0x4022 0 n, okey 0xA010 2 n, okey 0xA010 0x26 0, okey 0xA004 0 0,
    okey 0x4022 0 0, okey 0xA010 2 0]

/-- The counters that the record of a code and a tenant moves. -/
def reportKeys (code n : Nat) : List Nat := errKeys n ++ [okey 0xA010 code n, okey 0xA010 code 0]

section
variable {L : List Nat}

theorem Dev.Keeps.refl (d : Dev) : d.Keeps L d := fun _ _ => rfl

theorem Dev.Keeps.trans {a b c : Dev} (h : a.Keeps L b) (h' : b.Keeps L c) : a.Keeps L c :=
  fun k hk => (h' k hk).trans (h k hk)

theorem Dev.Keeps.of_dict {d e : Dev} (h : e.dict = d.dict) : d.Keeps L e := fun _ _ => by rw [h]

theorem Dev.Keeps.mono {M : List Nat} {d e : Dev} (h : d.Keeps L e) (hLM : L ⊆ M) : d.Keeps M e :=
  fun k hk => h k (fun hm => hk (hLM hm))

/-- A value outside the keys, while straps and unit map stand. -/
theorem Dev.Keeps.obj {d e : Dev} (h : d.Keeps L e) (hp : e.pwr.straps = d.pwr.straps) (ha : e.boot.active = d.boot.active)
    {i u n : Nat} (hk : okey i u n ∉ L) : e.obj i u n = d.obj i u n := by
  rw [Dev.obj, Dev.obj, h _ hk, hp, ha]

theorem Dev.Rep.obj {d e : Dev} (hr : d.Rep e) (h : d.Keeps L e) {i u n : Nat} (hk : okey i u n ∉ L) :
    e.obj i u n = d.obj i u n := h.obj (by rw [hr.pwr]) (by rw [hr.boot]) hk

theorem Dev.bump_keeps (d : Dev) {i u n w b : Nat} (h : okey i u n ∈ L) : d.Keeps L (d.bump i u n w b) :=
  fun _ hk => KMap.find_put_other _ _ _ _ (fun he => hk (he ▸ h))

theorem Dev.setErrRing_keeps (d : Dev) (n : Nat) (x : ErrRing) : d.Keeps L (d.setErrRing n x) := .of_dict rfl

theorem Dev.Keeps.of_xl {d e : Dev} (h : e = { d with stu := e.stu, tiles := e.tiles, free := e.free }) : d.Keeps L e :=
  .of_dict (by rw [h])

/-! ### Translation and ownership -/

theorem Dev.requestWalk_keeps (d : Dev) (tenant pasid va : Nat) (r : Requester) :
    d.Keeps L (d.requestWalk tenant pasid va r) := by
  unfold Dev.requestWalk
  dsimp only
  split <;> exact .of_dict rfl

theorem Dev.tlbPut_dict (d : Dev) (l : List TlbEntry) (cap : Nat) (e : TlbEntry) : (tlbPut d l cap e).2.dict = d.dict := by
  rw [tlbPut_snd]

theorem Dev.putMicroTlb_keeps (d : Dev) (t : Nat) (e : TlbEntry) : d.Keeps L (d.putMicroTlb t e) :=
  .of_dict (Dev.tlbPut_dict d (d.tile t).uTlb 64 e)

theorem Dev.putChipTlb_keeps (d : Dev) (c : Nat) (e : TlbEntry) : d.Keeps L (d.putChipTlb c e) :=
  .of_dict (Dev.tlbPut_dict d (d.stu.chipTlb.get c []) 4096 e)

theorem Dev.putNear_keeps (d : Dev) (src : Nat) (e : TlbEntry) : d.Keeps L (d.putNear src e) := by
  unfold Dev.putNear
  split
  · exact (d.putChipTlb_keeps _ e).trans (Dev.putMicroTlb_keeps _ _ e)
  · exact .refl d

theorem Dev.translate_keeps (hL : lookupKeys ⊆ L) (d : Dev) (tenant pasid va access : Nat) (req : Requester) :
    d.Keeps L (d.translate tenant pasid va access req).2 := by
  have hhit : okey 0x4020 1 0 ∈ L := hL (by simp [lookupKeys])
  have hmiss : okey 0x4020 2 0 ∈ L := hL (by simp [lookupKeys])
  have hwalk : ∀ (e : Dev) (r : Requester), e.Keeps L (e.missWalk tenant pasid va r) := fun e r =>
    (e.bump_keeps hmiss).trans (Dev.requestWalk_keeps _ _ _ _ _)
  unfold Dev.translate
  dsimp only
  split
  · exact .refl d
  · split
    · rename_i hsrc
      have hchip : okey 0x4021 (req.source / 32 + 1) 0 ∈ L := by
        refine hL ?_
        have h4 : req.source / 32 < 4 := by omega
        interval_cases req.source / 32 <;> simp [lookupKeys]
      split
      · exact .refl d
      · split
        · exact Dev.putMicroTlb_keeps _ _ _
        · split
          · exact ((d.bump_keeps hchip).trans (Dev.bump_keeps _ hhit)).trans (Dev.putNear_keeps _ _ _)
          · exact (d.bump_keeps hchip).trans (hwalk _ _)
    · split
      · exact d.bump_keeps hhit
      · exact hwalk _ _

theorem Dev.translateSpan_keeps (hL : lookupKeys ⊆ L) (d : Dev) (tenant pasid va len access : Nat) (req : Requester) :
    d.Keeps L (d.translateSpan tenant pasid va len access req).2 := by
  unfold Dev.translateSpan
  refine foldl_keeps (fun (acc : Option (List (Nat × Nat × Nat)) × Dev) => d.Keeps L acc.2) _ (fun acc p ha => ?_) _ _ (.refl d)
  obtain ⟨o, e⟩ := acc
  cases o with
  | none => exact ha
  | some l =>
    have hstep := Dev.translate_keeps hL e tenant pasid ((va + p.1) % 2 ^ 64) access req
    dsimp only
    split <;> rename_i heq <;> rw [heq] at hstep <;> exact ha.trans hstep

theorem Dev.rotEntry_keeps (hL : ownKeys ⊆ L) (d : Dev) (region : Nat) : d.Keeps L (d.rotEntry region).2 := by
  unfold Dev.rotEntry
  split
  · exact .refl d
  · dsimp only
    split
    · exact Dev.Keeps.trans (.of_dict rfl) (Dev.bump_keeps _ (hL (by simp [ownKeys])))
    · split
      · exact .of_dict rfl
      · exact (Dev.Keeps.trans (.of_dict rfl) (Dev.bump_keeps _ (hL (by simp [ownKeys])))).trans (.of_dict rfl)

theorem Dev.ownOkAll_keeps (hL : ownKeys ⊆ L) (d : Dev) (tenant : Nat) (ps : List (Nat × Nat × Nat)) (write : Bool) :
    d.Keeps L (d.ownOkAll tenant ps write).2 := by
  unfold Dev.ownOkAll
  refine foldl_keeps (fun (acc : Bool × Dev) => d.Keeps L acc.2) _ (fun acc p ha => ha.trans ?_) _ _ (.refl d)
  dsimp only [Dev.ownOk]
  split
  · exact Dev.rotEntry_keeps hL _ _
  · exact .refl _

/-! ### What reaches memory and the host link -/

theorem Dev.emit_keeps (d : Dev) (e : Emit) : d.Keeps L (d.emit e) := .of_dict rfl

theorem Dev.snoop_keeps (d : Dev) (pa len : Nat) : d.Keeps L (d.snoop pa len) :=
  (foldl_keeps (fun e => d.Keeps L e) _ (fun e _ he => he.trans (e.emit_keeps _)) _ _ (.refl d)).trans (.of_dict rfl)

theorem Dev.onBus_keeps (d : Dev) (tenant pasid : Nat) (write : Bool) (ps : List (Nat × Nat × Nat)) :
    d.Keeps L (d.onBus tenant pasid write ps) :=
  foldl_keeps (fun e => d.Keeps L e) _ (fun e _ he => he.trans (e.snoop_keeps _ _)) _ _
    (foldl_keeps (fun e => d.Keeps L e) _ (fun e _ he => he.trans (e.emit_keeps _)) _ _ (.refl d))

theorem Dev.writePieces_keeps (d : Dev) (ps : List (Nat × Nat × Nat)) (bs : List Byte) : d.Keeps L (d.writePieces ps bs).1 :=
  .of_dict (by rw [(Dev.writePieces_frame d ps bs).1])

theorem Dev.readPieces_keeps (d : Dev) (ps : List (Nat × Nat × Nat)) : d.Keeps L (d.readPieces ps).2 :=
  .of_dict (by rw [(Dev.readPieces_frame d ps).1])

theorem Dev.msix_keeps (d : Dev) (n v : Nat) : d.Keeps L (d.msix n v) := by
  unfold Dev.msix
  dsimp only
  split
  · exact .refl d
  · split <;> exact .of_dict rfl

/-! ### The error rings -/

theorem Dev.errQueue_keeps (d : Dev) {n : Nat} (e : Nat) (h : okey 0xA004 0 n ∈ L) : d.Keeps L (d.errQueue n e) := by
  unfold Dev.errQueue
  dsimp only
  split
  · exact d.setErrRing_keeps _ _
  · exact d.bump_keeps h

theorem Dev.errFlush_keeps (hx : lookupKeys ⊆ L) (ho : ownKeys ⊆ L) (n : Nat) (l : List Nat) :
    ∀ d : Dev, d.Keeps L (d.errFlush n l).1 := by
  induction l with
  | nil => exact fun d => .refl d
  | cons e l ih =>
    intro d
    have h1 := Dev.translateSpan_keeps hx d n (d.errRing n).pasid
      (((d.errRing n).base + 64 * (nextSeq (d.errRing n).seq % 2 ^ (d.errRing n).size)) % 2 ^ 64) 64 1 (errReq n)
    rw [Dev.errFlush]
    dsimp only
    split
    · rename_i heq; rw [heq] at h1; exact h1
    · rename_i ps d1 heq
      rw [heq] at h1
      have h2 := Dev.ownOkAll_keeps ho d1 n ps true
      split
      · rename_i heq'; rw [heq'] at h2; exact h1.trans h2
      · rename_i d2 heq'
        rw [heq'] at h2
        have h3 := (Dev.onBus_keeps (L := L) d2 n (d.errRing n).pasid true ps).trans
          (Dev.writePieces_keeps _ ps (leBytes (e + nextSeq (d.errRing n).seq * 2 ^ 416) 64))
        refine ((h1.trans h2).trans h3).trans (Dev.Keeps.trans ?_ (ih _))
        split
        · exact Dev.Keeps.trans (.of_dict rfl) (Dev.msix_keeps _ _ _)
        · exact .of_dict rfl

theorem Dev.errRingFail_keeps (d : Dev) {n : Nat} (h : okey 0xA004 0 n ∈ L) : d.Keeps L (d.errRingFail n) :=
  (d.setErrRing_keeps n _).trans (Dev.bump_keeps _ h)

theorem Dev.errOwn_keeps (d : Dev) {n : Nat} (hlost : okey 0xA004 0 n ∈ L) (hfail : okey 0x4022 0 n ∈ L)
    (hown : okey 0xA010 2 n ∈ L) : d.Keeps L (d.errOwn n) :=
  ((d.bump_keeps hfail).trans (Dev.bump_keeps _ hown)).trans (Dev.errQueue_keeps _ _ hlost)

theorem Dev.errWrite_keeps {n : Nat} (hL : errKeys n ⊆ L) (d : Dev) : d.Keeps L (d.errWrite n) := by
  have hx : lookupKeys ⊆ L := fun k hk => hL (by simp [errKeys, hk])
  have ho : ownKeys ⊆ L := fun k hk => hL (by simp [errKeys, hk])
  have hlost : okey 0xA004 0 n ∈ L := hL (by simp [errKeys])
  have hfail : okey 0x4022 0 n ∈ L := hL (by simp [errKeys])
  have hown : okey 0xA010 2 n ∈ L := hL (by simp [errKeys])
  have hring : okey 0xA010 0x26 0 ∈ L := hL (by simp [errKeys])
  have hlost0 : okey 0xA004 0 0 ∈ L := hL (by simp [errKeys])
  have hfail0 : okey 0x4022 0 0 ∈ L := hL (by simp [errKeys])
  have hown0 : okey 0xA010 2 0 ∈ L := hL (by simp [errKeys])
  have h1 := Dev.errFlush_keeps hx ho n (d.errRing n).waiting d
  unfold Dev.errWrite
  split
  · rename_i heq; rw [heq] at h1; exact h1
  · rename_i d1 heq
    rw [heq] at h1
    have h2 : d.Keeps L (((d1.errRingFail n).errOwn n).bump 0xA010 0x26 0 32) :=
      h1.trans (((d1.errRingFail_keeps hlost).trans (Dev.errOwn_keeps _ hlost hfail hown)).trans (Dev.bump_keeps _ hring))
    dsimp only
    split
    · exact h2.trans (Dev.errQueue_keeps _ _ hlost0)
    · generalize hq : Dev.errQueue _ 0 _ = dq
      have h3 : d.Keeps L dq := hq ▸ h2.trans (Dev.errQueue_keeps _ _ hlost0)
      have h4 := Dev.errFlush_keeps hx ho 0 (dq.errRing 0).waiting dq
      split
      · rename_i heq'; rw [heq'] at h4; exact h3.trans h4
      · rename_i d3 heq'
        rw [heq'] at h4
        exact ((h3.trans h4).trans (((d3.errRingFail_keeps hlost0).trans (Dev.errOwn_keeps _ hlost0 hfail0 hown0)).trans
          (Dev.bump_keeps _ hring))).trans (Dev.errQueue_keeps _ _ hlost0)

/-- One ring's part of a report: the count, the entry and its write. -/
def Dev.post (d : Dev) (code n e : Nat) : Dev := ((d.bump 0xA010 code n 32).errQueue n e).errWrite n

/-- The entry of a record (Table 20.3). -/
def Dev.recBits (d : Dev) (r : Rec) : Nat :=
  entryBits (d.stamp 128) r.code (r.cls.getD (faultClass r.code)) r.tenant r.source (d.jobBits r.job) r.detail

theorem Dev.report_eq (d : Dev) (r : Rec) : d.report r =
    if (pathEr0 r.code && !(pathEr r.code && r.tenant == 0)) = true then
      (if pathEr r.code = true then d.post r.code r.tenant (d.recBits r) else d).post r.code 0 (d.recBits r)
    else if pathEr r.code = true then d.post r.code r.tenant (d.recBits r) else d := rfl

theorem Dev.post_rep (d : Dev) (code n e : Nat) : d.Rep (d.post code n e) :=
  ((d.bump_rep _ _ _ _ _).trans (Dev.errQueue_rep _ _ _)).trans (Dev.errWrite_rep _ _)

theorem Dev.post_keeps {code n : Nat} (hL : errKeys n ⊆ L) (hc : okey 0xA010 code n ∈ L) (d : Dev) (e : Nat) :
    d.Keeps L (d.post code n e) :=
  ((d.bump_keeps hc).trans (Dev.errQueue_keeps _ _ (hL (by simp [errKeys])))).trans (Dev.errWrite_keeps hL _)

/-- The count of a record whose counter the posting of entries does not use itself. -/
theorem Dev.post_counts {code n : Nat} (hk : okey 0xA010 code n ∉ errKeys n) (d : Dev) (e : Nat) :
    (d.post code n e).obj 0xA010 code n = Nat.min (d.obj 0xA010 code n + 1) (2 ^ 32 - 1) := by
  have hrest := (Dev.errQueue_keeps (L := errKeys n) (d.bump 0xA010 code n 32) (n := n) e (by simp [errKeys])).trans
    (Dev.errWrite_keeps (List.Subset.refl _) _)
  have hrep := ((d.bump 0xA010 code n 32).errQueue_rep n e).trans (Dev.errWrite_rep _ n)
  exact (hrep.obj hrest hk).trans (d.obj_bump_same _ _ _ _ _)

theorem errKeys_zero_subset (n : Nat) : errKeys 0 ⊆ errKeys n := fun k hk => by
  rcases List.mem_append.mp hk with hk | hk
  · exact List.mem_append_left _ hk
  · refine List.mem_append_right _ ?_
    generalize okey 0xA004 0 n = a
    generalize okey 0x4022 0 n = b
    generalize okey 0xA010 2 n = c
    simp only [List.mem_cons, List.not_mem_nil, or_false] at hk
    rcases hk with rfl | rfl | rfl | rfl | rfl | rfl | rfl <;> simp

theorem Dev.report_keeps (d : Dev) (r : Rec) : d.Keeps (reportKeys r.code r.tenant) (d.report r) := by
  have hL : errKeys r.tenant ⊆ reportKeys r.code r.tenant := fun k hk => List.mem_append_left _ hk
  have hcode : okey 0xA010 r.code r.tenant ∈ reportKeys r.code r.tenant := List.mem_append_right _ (by simp)
  have hcode0 : okey 0xA010 r.code 0 ∈ reportKeys r.code r.tenant := List.mem_append_right _ (by simp)
  have h1 : d.Keeps (reportKeys r.code r.tenant)
      (if pathEr r.code = true then d.post r.code r.tenant (d.recBits r) else d) := by
    split
    · exact Dev.post_keeps hL hcode d _
    · exact .refl d
  rw [Dev.report_eq]
  split
  · exact h1.trans (Dev.post_keeps (fun k hk => hL (errKeys_zero_subset _ hk)) hcode0 _ _)
  · exact h1

/-- A record that goes to its tenant's ring alone counts there. -/
theorem Dev.report_counts_er {d : Dev} {r : Rec} (her : pathEr r.code = true)
    (h0 : pathEr0 r.code = false ∨ r.tenant = 0) (hk : okey 0xA010 r.code r.tenant ∉ errKeys r.tenant) :
    (d.report r).obj 0xA010 r.code r.tenant = Nat.min (d.obj 0xA010 r.code r.tenant + 1) (2 ^ 32 - 1) := by
  rw [Dev.report_eq, if_neg (by rcases h0 with h0 | h0 <;> simp [h0, her]), if_pos her]
  exact Dev.post_counts hk d _

/-- A record that goes to tenant 0's ring alone counts there. -/
theorem Dev.report_counts_er0 {d : Dev} {r : Rec} (her : pathEr r.code = false) (h0 : pathEr0 r.code = true)
    (hk : okey 0xA010 r.code 0 ∉ errKeys 0) :
    (d.report r).obj 0xA010 r.code 0 = Nat.min (d.obj 0xA010 r.code 0 + 1) (2 ^ 32 - 1) := by
  rw [Dev.report_eq, if_pos (by simp [h0, her]), if_neg (by simp [her])]
  exact Dev.post_counts hk d _

end

/-! ### A record that is counted twice -/

/-- A device whose ownership table stands in a bad line of HBM, tenant 0's error ring enabled and its slot translated. -/
def devOwnershipInBadLine : Dev := { State.reset.dev with
  boot := { State.reset.dev.boot with active := 2 ^ 256 }
  err := { State.reset.dev.err with rings := [(0, { st := .enabled, size := 6 })] }
  stu := { State.reset.dev.stu with iotlb := [{
    tenant := 0, pasid := 0, asid := 0, glob := false, vpn := 0, pages := 1, ppn := 0x1000, readable := true
    writable := true, dirty := true }] }
  mem := { State.reset.dev.mem with lines := [(0, .uncorrectable)] } }

/-- Refutes O56: the record HBM_UE counts once, and the ownership check of its entry's own write meets the bad line and
counts HBM_UE again (R382, R400). -/
theorem not_recordsAndEntries : ¬ Obligations.RecordsAndEntries := by
  unfold Obligations.RecordsAndEntries
  intro ⟨hrec, _⟩
  obtain ⟨_, hcount, _⟩ := hrec devOwnershipInBadLine { code := 4 } (by decide) (by decide)
    (fun h => absurd h (by decide))
  have htwice : (devOwnershipInBadLine.report { code := 4 }).obj 0xA010 4 0 = 2 := by decide
  have honce : Nat.min (devOwnershipInBadLine.obj 0xA010 4 0 + 1) (2 ^ 32 - 1) = 1 := by decide
  exact absurd ((htwice.symm.trans (hcount (by decide))).trans honce) (by decide)

end Sys2Proof.Machine

/-! ## Clocks and power loops (R57, R58, R62, Tables 3.4 and 3.5) -/

namespace Sys2Proof.Machine

open Sys2Proof.Stm

theorem clockTarget_eq (d : Dev) (n : Nat) : ClockTarget d n = d.target n := by
  unfold ClockTarget Dev.target Dev.limits dieStep dieTop
  by_cases hn : n = 0
  · simp [hn]
  · simp [hn]

theorem risesInMs_eq (d : Dev) (n : Nat) : RisesInMs d n = (d.recentRises n).length := rfl

theorem due_of_periodOver {d : Dev} {last : Option Nat} {k : Nat} (h : PeriodOver d last k) : d.due last k = true := by
  cases last with
  | none => rfl
  | some x => exact Nat.ble_since_of_le (h x rfl)

/-! ### One step of a clock -/

section
variable {now target step : Nat}

theorem stepClock_of_above (h : target ≤ now) : stepClock now target step = Nat.max target (now - step) := by
  unfold stepClock
  split
  · rfl
  · rw [if_neg (Nat.not_lt.mpr h)]
    exact (Nat.max_eq_left (by omega) |>.trans (by omega)).symm

theorem stepClock_of_below (h : now ≤ target) : stepClock now target step = Nat.min target (now + step) := by
  unfold stepClock
  rw [if_neg (Nat.not_lt.mpr h)]
  split
  · rfl
  · exact (Nat.min_eq_left (by omega) |>.trans (by omega)).symm

end

section
variable {d : Dev} {n now : Nat}

theorem Dev.nextClock_of_above (h : ClockTarget d n ≤ now) :
    d.nextClock n now = Nat.max (ClockTarget d n) (now - dieStep n) := by
  rw [clockTarget_eq] at *
  unfold Dev.nextClock
  rw [stepClock_of_above h]
  refine if_neg ?_
  have hfall : ¬ now < Nat.max (d.target n) (now - dieStep n) := Nat.not_lt.mpr (Nat.max_le.mpr ⟨h, Nat.sub_le _ _⟩)
  simp [hfall]

theorem Dev.nextClock_of_below (h : now ≤ ClockTarget d n) (hr : (RisesInMs d n + 1) * dieStep n ≤ 200) :
    d.nextClock n now = Nat.min (ClockTarget d n) (now + dieStep n) := by
  rw [clockTarget_eq] at *
  unfold Dev.nextClock
  rw [stepClock_of_below h]
  exact if_neg (by rw [risesInMs_eq] at hr; simp [Nat.not_lt.mpr hr])

theorem Dev.nextClock_of_waiting (h : now ≤ ClockTarget d n) (hr : 200 < (RisesInMs d n + 1) * dieStep n) :
    d.nextClock n now = now := by
  rw [clockTarget_eq] at h
  unfold Dev.nextClock
  rw [stepClock_of_below h]
  rw [risesInMs_eq] at hr
  dsimp only
  split
  · rfl
  · rename_i hcond
    have hrise : ¬ now < Nat.min (d.target n) (now + dieStep n) := by simpa [hr] using hcond
    exact Nat.le_antisymm (Nat.not_lt.mp hrise) (Nat.le_min.mpr ⟨h, Nat.le_add_right _ _⟩)

end

/-- The rises of the clocks after one has made its step. -/
def Dev.risesAfter (d : Dev) (n now : Nat) : KMap (List Nat) :=
  if now < d.nextClock n now then d.clk.rises.put n (d.recentRises n ++ [d.pwr.tick]) else d.clk.rises

theorem Dev.stepDom_eq (d : Dev) (n now : Nat) : d.stepDom n now =
    (d.nextClock n now, { d with clk := { d.clk with rises := d.risesAfter n now } }) := by
  unfold Dev.stepDom Dev.risesAfter
  dsimp only
  split <;> rfl

/-- A rise is one more of the last millisecond. -/
theorem Dev.risesInMs_risesAfter {d e : Dev} {n now : Nat} (h : now < d.nextClock n now)
    (hr : e.clk.rises = d.risesAfter n now) (ht : e.pwr.tick = d.pwr.tick) : RisesInMs e n = RisesInMs d n + 1 := by
  unfold RisesInMs
  rw [hr, ht, Dev.risesAfter, if_pos h, KMap.get_put_same, List.filter_append, List.length_append]
  congr 1
  · unfold Dev.recentRises Dev.since
    rw [List.filter_filter]
    simp only [Bool.and_self]
  · simp

section
variable {s : State}

theorem exec_freqStep_hub (h : s.dev.live = true) : exec (.freqStep .hub) s = .next { s with dev := { s.dev with
    clk := { s.dev.clk with hub := s.dev.nextClock 0 s.dev.clk.hub, rises := s.dev.risesAfter 0 s.dev.clk.hub } } } :=
  exec_dev rfl (by
    refine (if_pos h).trans ?_
    dsimp only
    rw [Dev.stepDom_eq])

theorem exec_freqStep_fab (c : ChipId) (h : s.dev.live = true) : exec (.freqStep (.fab c)) s =
    .next { s with dev := { s.dev with clk := { s.dev.clk with
      fab := s.dev.clk.fab.put c.val (s.dev.nextClock (c.val + 1) (s.dev.fabMhz c.val))
      rises := s.dev.risesAfter (c.val + 1) (s.dev.fabMhz c.val) } } } :=
  exec_dev rfl (by
    refine (if_pos h).trans ?_
    dsimp only
    rw [Dev.stepDom_eq])

end

/-! ### The fast guard, the excursion timer, the average loop -/

/-- The power registers at the start of a fast guard's period: the excursion timer's watch is set (R62). -/
def Dev.guardWatch (d : Dev) (p : Nat) : Dev := { d with clk := { d.clk with
  lastGuard := some d.pwr.tick
  overCap := if decide (d.obj 0x2020 1 0 * 1000 < p) then some (d.clk.overCap.getD d.pwr.tick) else none } }

/-- A stretch that has lasted is counted and reported once (R62). -/
def Dev.guardReport (d : Dev) (p : Nat) : Dev :=
  (({ d with clk := { d.clk with guardCounted := true } }).bump 0x2020 7 0 32).report
    { code := 0x43, source := 0x87, detail := p }

/-- The guard ends below 1400 W (Table 3.4). -/
def Dev.guardEnd (d : Dev) (p : Nat) : Dev :=
  if d.clk.guardOn && decide (p < 1400000) then { d with clk := { d.clk with guardOn := false } } else d

theorem Dev.guardEnd_frame (d : Dev) (p : Nat) : d.guardEnd p = { d with clk := (d.guardEnd p).clk } := by
  unfold Dev.guardEnd
  split <;> rfl

theorem Dev.guardEnd_obj (d : Dev) (p i u n : Nat) : (d.guardEnd p).obj i u n = d.obj i u n := by
  rw [Dev.guardEnd_frame]
  exact Dev.obj_congr rfl rfl rfl i u n

theorem Dev.guardEnd_clk {d : Dev} (p : Nat) (h : d.clk.guardOn = true) : (d.guardEnd p).clk =
    { d.clk with guardOn := !decide (p < 1400000) } := by
  unfold Dev.guardEnd
  rw [h, Bool.true_and]
  split
  · rename_i hlow
    rw [hlow]
    rfl
  · rename_i hlow
    rw [Bool.not_eq_true _ |>.mp hlow, Bool.not_false, ← h]

theorem onlyDev_withDev (s : State) (d : Dev) : OnlyDev s { s with dev := d } := rfl

/-- A counter that a record does not move is counted on, whatever the record does. -/
theorem Dev.obj_bump_report {d : Dev} {i u n w : Nat} {r : Rec} (h : okey i u n ∉ reportKeys r.code r.tenant) :
    ((d.bump i u n w).report r).obj i u n = Nat.min (d.obj i u n + 1) (2 ^ w - 1) :=
  ((Dev.report_rep _ r).obj (Dev.report_keeps _ r) h).trans (d.obj_bump_same _ _ _ _ _)

/-- A record changes nothing but what posting touches. -/
theorem butReport_of_rep {d e : Dev} (h : d.Rep e) : ButReport d e := h.1

theorem butReport_withClk {d e : Dev} (h : d.Rep e) (c : Clk) : ButReport { d with clk := c } { e with clk := c } := by
  unfold ButReport
  rw [h.1]

theorem Dev.Rep.clk {d e : Dev} (h : d.Rep e) : e.clk = d.clk := by rw [h.1]

section
variable {s : State} {p : BitVec 32}

theorem exec_fastGuardPeriod_of_off (h : s.dev.live = true) (hp : PeriodOver s.dev s.dev.clk.lastGuard 25)
    (hg : s.dev.clk.guardOn = false) : exec (.fastGuardPeriod p) s = .next { s with
      dev := if 1480000 < p.toNat then { s.dev.guardWatch p.toNat with clk := { (s.dev.guardWatch p.toNat).clk with
          guardOn := true, guardSince := s.dev.pwr.tick, guardCounted := false } }
        else s.dev.guardWatch p.toNat } :=
  exec_dev rfl (by
    refine (if_pos (by rw [h, due_of_periodOver hp]; rfl)).trans ?_
    by_cases hhigh : 1480000 < p.toNat
    · rw [if_pos hhigh]
      exact if_pos (by simp [hg, hhigh])
    · rw [if_neg hhigh]
      refine (if_neg (by simp [hhigh])).trans ?_
      have hcount : (s.dev.guardWatch p.toNat).guardCount p.toNat = s.dev.guardWatch p.toNat :=
        if_neg (by simp [Dev.guardWatch, hg])
      change ((s.dev.guardWatch p.toNat).guardCount p.toNat).guardEnd p.toNat = _
      rw [hcount]
      exact if_neg (by simp [Dev.guardWatch, hg]))

theorem exec_fastGuardPeriod_of_long (h : s.dev.live = true) (hp : PeriodOver s.dev s.dev.clk.lastGuard 25)
    (hg : s.dev.clk.guardOn = true) (hc : s.dev.clk.guardCounted = false)
    (ht : s.dev.clk.guardSince + 2500 < s.dev.pwr.tick) : exec (.fastGuardPeriod p) s =
      .next { s with dev := ((s.dev.guardWatch p.toNat).guardReport p.toNat).guardEnd p.toNat } :=
  exec_dev rfl (by
    have hlong : 2500 < s.dev.pwr.tick - s.dev.clk.guardSince := by omega
    have hcount : (s.dev.guardWatch p.toNat).guardCount p.toNat = (s.dev.guardWatch p.toNat).guardReport p.toNat :=
      if_pos (by simp [Dev.guardWatch, hg, hc, Dev.since, hlong])
    refine ((if_pos (by rw [h, due_of_periodOver hp]; rfl)).trans (if_neg (by simp [hg]))).trans ?_
    change ((s.dev.guardWatch p.toNat).guardCount p.toNat).guardEnd p.toNat = _
    rw [hcount])

theorem exec_excursionTimerExpiry {k : Nat} (h : s.dev.live = true) (hk : s.dev.clk.overCap = some k)
    (ht : k + 200000 ≤ s.dev.pwr.tick) : exec .excursionTimerExpiry s = .next { s with
      dev := (({ s.dev with clk := { s.dev.clk with capLimit := 400, hubPower := 800, overCap := none } } : Dev).bump
        0x2020 6 0 32).report { code := 0x43, source := 0x87, detail := s.dev.clk.means.inMw.toNat } } :=
  exec_dev rfl (by
    dsimp only
    rw [hk]
    exact if_pos (by rw [h, Nat.ble_since_of_le ht]; rfl))

section
variable {m : PowerMeans} (ha : s.dev.pwr.aon = true) (hp : PeriodOver s.dev s.dev.clk.lastLoop 25000) (h : s.dev.live = true)
include ha hp h

theorem exec_averageLoopPeriod_of_le (hm : m.avg100Mw.toNat ≤ s.dev.obj 0x2020 1 0 * 1000) :
    exec (.averageLoopPeriod m) s = .next { s with dev := { s.dev with clk := { s.dev.clk with
      means := m, lastLoop := some s.dev.pwr.tick, capLimit := Nat.min 2000 (s.dev.clk.capLimit + 50)
      hubPower := Nat.min 3200 (s.dev.clk.hubPower + 100) } } } :=
  exec_dev rfl (by exact (if_pos (by rw [ha, due_of_periodOver hp]; rfl)).trans ((if_pos h).trans (if_pos hm)))

theorem exec_averageLoopPeriod_of_gt (hm : s.dev.obj 0x2020 1 0 * 1000 < m.avg100Mw.toNat) :
    exec (.averageLoopPeriod m) s = .next { s with dev := { s.dev with clk := { s.dev.clk with
      means := m, lastLoop := some s.dev.pwr.tick, capLimit := Nat.max 400 (s.dev.clk.capLimit - 50) } } } :=
  exec_dev rfl (by
    exact (if_pos (by rw [ha, due_of_periodOver hp]; rfl)).trans ((if_pos h).trans (if_neg (Nat.not_le.mpr hm))))

end

end

/-- Settles O9: the clock's step by its target and the rises of the last millisecond, the loops by their laws. -/
theorem clocksAndPowerLoops : Obligations.ClocksAndPowerLoops := by
  refine ⟨fun s hl => ?hub, fun s c hl => ?fab, fun s p hl hp hg => ?guardOff, fun s p hl hp hg hc ht => ?guardOn,
    fun s k hl hk ht => ?excursion, fun s m ha hp hl => ?average⟩
  case hub =>
    refine ⟨_, exec_freqStep_hub hl, rfl, rfl, Dev.nextClock_of_above (n := 0), fun h hr => ?_, fun h hr => ?_, fun h => ?_⟩
    · exact Dev.nextClock_of_below h (by rw [dieStep, if_pos rfl]; omega)
    · exact Dev.nextClock_of_waiting h (by rw [dieStep, if_pos rfl]; omega)
    · exact Dev.risesInMs_risesAfter h rfl rfl
  case fab =>
    have hstep : dieStep (c.val + 1) = 50 := if_neg (Nat.succ_ne_zero _)
    refine ⟨_, exec_freqStep_fab c hl, rfl, rfl, fun k hk => ?_, ?_⟩
    · exact KMap.get_put_other _ _ _ _ _ (fun he => hk (Fin.ext he))
    · simp only [Dev.fabMhz, KMap.get_put_same]
      refine ⟨fun h => ?_, fun h hr => ?_, fun h hr => ?_, fun h => ?_⟩
      · rw [Dev.nextClock_of_above h, hstep]
      · rw [Dev.nextClock_of_below h (by rw [hstep]; omega), hstep]
      · exact Dev.nextClock_of_waiting h (by rw [hstep]; omega)
      · exact Dev.risesInMs_risesAfter h rfl rfl
  case guardOff =>
    refine ⟨_, exec_fastGuardPeriod_of_off hl hp hg, ?_⟩
    by_cases hhigh : 1480000 < p.toNat
    · simp only [if_pos hhigh]
      refine ⟨rfl, by simp [hhigh], ?_, rfl⟩
      by_cases hcap : s.dev.obj 0x2020 1 0 * 1000 < p.toNat <;> simp [Dev.guardWatch, hcap]
    · simp only [if_neg hhigh]
      refine ⟨rfl, by simp [hhigh, Dev.guardWatch, hg], ?_, rfl⟩
      by_cases hcap : s.dev.obj 0x2020 1 0 * 1000 < p.toNat <;> simp [Dev.guardWatch, hcap]
  case guardOn =>
    generalize hw : s.dev.guardWatch p.toNat = w
    have hrep := Dev.report_rep (({ w with clk := { w.clk with guardCounted := true } } : Dev).bump 0x2020 7 0 32)
      { code := 0x43, source := 0x87, detail := p.toNat }
    have hon : (w.guardReport p.toNat).clk.guardOn = true := by
      rw [Dev.guardReport, hrep.clk, ← hw]
      exact hg
    refine ⟨_, exec_fastGuardPeriod_of_long hl hp hg hc ht, ?_, onlyDev_withDev s _, ?_, ?_, ?_⟩
    · rw [hw, Dev.guardEnd_frame]
      have hbut := butReport_withClk ((Dev.bump_rep _ _ _ _ _ _).trans hrep) ((w.guardReport p.toNat).guardEnd p.toNat).clk
      rw [← hw] at hbut ⊢
      exact hbut
    · rw [hw, Dev.guardEnd_clk _ hon]
    · rw [hw, Dev.guardEnd_clk _ hon, Dev.guardReport, hrep.clk]
      rfl
    · have hkey : okey 0x2020 7 0 ∉ reportKeys 0x43 0 := by decide
      dsimp only
      rw [hw, Dev.guardEnd_obj, Dev.guardReport, Dev.obj_bump_report]
      · subst hw
        rfl
      · exact hkey
  case excursion =>
    have hrep := Dev.report_rep (({ s.dev with clk := { s.dev.clk with capLimit := 400, hubPower := 800, overCap := none } }
      : Dev).bump 0x2020 6 0 32) { code := 0x43, source := 0x87, detail := s.dev.clk.means.inMw.toNat }
    refine ⟨_, exec_excursionTimerExpiry hl hk ht, butReport_of_rep ((Dev.bump_rep _ _ _ _ _ _).trans hrep),
      onlyDev_withDev s _, ?_⟩
    have hkey : okey 0x2020 6 0 ∉ reportKeys 0x43 0 := by decide
    dsimp only
    rw [Dev.obj_bump_report]
    · rfl
    · exact hkey
  case average =>
    rcases Nat.lt_or_ge (s.dev.obj 0x2020 1 0 * 1000) m.avg100Mw.toNat with hm | hm
    · exact ⟨_, exec_averageLoopPeriod_of_gt ha hp hl hm, rfl, rfl, rfl, rfl, rfl,
        fun h => absurd h (Nat.not_le.mpr hm), fun _ => ⟨rfl, rfl⟩⟩
    · exact ⟨_, exec_averageLoopPeriod_of_le ha hp hl hm, rfl, rfl, rfl, rfl, rfl, fun _ => ⟨rfl, rfl⟩,
        fun h => absurd h (Nat.not_lt.mpr hm)⟩

end Sys2Proof.Machine

/-! ## Sleep and wake (R52 to R54, R147, R169) -/

namespace Sys2Proof.Machine

open Sys2Proof.Stm

/-- The conditions under which a tile's dwell ends in T-SLEEP (R53, R147, R169, R228). -/
def Dev.mayNap (d : Dev) (t : Nat) : Bool :=
  d.isAwake t && (d.tile t).power == .idle && !(d.tile t).scrubOn && !(d.tile t).clearing &&
    d.obj 0x2010 1 0 != 0xFFFFFFFF &&
    Nat.ble (d.obj 0x2010 1 0) (d.since (Nat.max (d.tile t).idleSince d.boot.start)) &&
    decide (d.obj 0x2010 3 0 < ((d.tilesOf (t / 32)).filter d.isAwake).length) &&
    ((d.tile t).job.isSome || decide (d.reservedTiles < d.idleFree.length))

theorem exec_tileSleepDwellExpiry (s : State) (k : TileId) : exec (.tileSleepDwellExpiry k) s = .next { s with
    dev := if s.dev.mayNap k.val = true then
        s.dev.setTile k.val { s.dev.tile k.val with power := .sleep, idleSince := s.dev.pwr.tick, uTlb := [] }
      else s.dev } := rfl

section
variable {s : State}

theorem exec_chipLowDwellExpiry {c : ChipId} (hl : s.dev.live = true) (hc : s.dev.has (264 + c.val) = true)
    (hd : s.dev.obj 0x2010 2 0 ≠ 0xFFFFFFFF) (ht : s.dev.chipSince c.val + s.dev.obj 0x2010 2 0 ≤ s.dev.pwr.tick)
    (hs : ∀ i ∈ s.dev.tilesOf c.val, (s.dev.tile i).power = .sleep) (hb : s.dev.arraysBusy c.val = false) :
    exec (.chipLowDwellExpiry c) s = .next { s with dev := { s.dev with
      clk := { s.dev.clk with chipLow := s.dev.clk.chipLow.put c.val true }
      stu := { s.dev.stu with chipTlb := s.dev.stu.chipTlb.drop c.val } } } :=
  exec_dev rfl (by
    have hall : (s.dev.tilesOf c.val).all (fun i => (s.dev.tile i).power == .sleep) = true :=
      List.all_eq_true.mpr (fun i hi => by rw [hs i hi]; rfl)
    refine if_pos ?_
    rw [hl, hc, hall, hb, bne_iff_ne.mpr hd, Nat.ble_since_of_le ht]
    rfl)

theorem exec_unitWakeDone_tile {k : TileId} (h : (s.dev.tile k.val).power = .sleep) :
    exec (.unitWakeDone (.tile k)) s = .next { s with
      dev := (s.dev.wakeChip (k.val / 32)).setTile k.val
        { s.dev.tile k.val with power := .idle, idleSince := s.dev.pwr.tick, scrubWoke := false } } :=
  exec_dev rfl (by
    have htile : (s.dev.wakeChip (k.val / 32)).tile k.val = s.dev.tile k.val := rfl
    exact congrArg ((s.dev.wakeChip (k.val / 32)).setTile k.val) (if_pos (by rw [htile, h]; rfl)))

end

/-- Settles O10: a tile's dwell by the conditions of its sleep, a chiplet's by its law, waking by what it changes. -/
theorem sleepAndWake : Obligations.SleepAndWake := by
  refine ⟨fun s k hok hidle hwoke hscrub hclear hdwell ht hawake hfree => ?sleeps, fun s k h => ?stays,
    fun s c hl hc hd ht hs hb => exec_chipLowDwellExpiry hl hc hd ht hs hb, fun s c => ?chipWakes, fun s k h => ?tileWakes⟩
  case sleeps =>
    have hnap : s.dev.mayNap k.val = true := by
      have hjob : ((s.dev.tile k.val).job.isSome || decide (s.dev.reservedTiles < s.dev.idleFree.length)) = true := by
        rcases hfree with hfree | hfree
        · rw [hfree, Bool.true_or]
        · rw [decide_eq_true hfree, Bool.or_true]
      have htime : Nat.ble (s.dev.obj 0x2010 1 0) (s.dev.since (Nat.max (s.dev.tile k.val).idleSince s.dev.boot.start)) = true :=
        Nat.ble_since_of_le (by rw [Nat.add_comm]; exact ht)
      have hup : s.dev.isAwake k.val = true := by rw [Dev.isAwake, hok, hidle, hwoke]; rfl
      rw [Dev.mayNap, hup, hidle, hscrub, hclear, bne_iff_ne.mpr hdwell, htime, decide_eq_true hawake, hjob]
      rfl
    refine ⟨_, (exec_tileSleepDwellExpiry s k).trans (by rw [if_pos hnap]), ?_, rfl, fun j hj => ?_⟩
    · exact Dev.tile_setTile_same _ _ _
    · exact Dev.tile_setTile_other _ _ (fun he => hj (Fin.ext he))
  case stays =>
    rw [exec_tileSleepDwellExpiry, if_neg]
    rw [Bool.not_eq_true]
    unfold Dev.mayNap
    rcases h with h | h | ⟨hj, hf⟩ | h
    · simp [h]
    · simp [h]
    · simp [hj, Nat.not_lt.mpr hf]
    · simp [Nat.not_lt.mpr h]
  case chipWakes => exact ⟨_, rfl, rfl, KMap.find_drop_same _ _, KMap.find_drop_same _ _⟩
  case tileWakes =>
    refine ⟨_, exec_unitWakeDone_tile h, Dev.tile_setTile_same _ _ _, KMap.find_drop_same _ _, rfl, fun j hj => ?_⟩
    exact Dev.tile_setTile_other _ _ (fun he => hj (Fin.ext he))

end Sys2Proof.Machine

/-! ## Thermal samples, windows, the trip and its end (R63 to R71, R403, Table 3.5) -/

namespace Sys2Proof.Machine

open Sys2Proof.Stm

/-! ### What a sample leaves of the device -/

/-- What a sample of the sensors never changes before a trip. -/
structure Dev.Sampled (d e : Dev) : Prop where
  pwr : e.pwr = d.pwr
  jtag : e.jtag = d.jtag
  mgt : e.mgt = d.mgt
  boot : e.boot = d.boot
  aon : e.therm.aon = d.therm.aon
  last : e.therm.lastSample = d.therm.lastSample
  clk : e.clk = d.clk

theorem Dev.Sampled.refl (d : Dev) : d.Sampled d := ⟨rfl, rfl, rfl, rfl, rfl, rfl, rfl⟩

theorem Dev.Sampled.trans {a b c : Dev} (h : a.Sampled b) (h' : b.Sampled c) : a.Sampled c :=
  ⟨h'.pwr.trans h.pwr, h'.jtag.trans h.jtag, h'.mgt.trans h.mgt, h'.boot.trans h.boot, h'.aon.trans h.aon,
    h'.last.trans h.last, h'.clk.trans h.clk⟩

theorem Dev.Rep.sampled {d e : Dev} (h : d.Rep e) : d.Sampled e :=
  ⟨h.pwr, by rw [h.1], by rw [h.1], h.boot, by rw [h.therm], by rw [h.therm], h.clk⟩

theorem Dev.boardSet_sampled (d : Dev) (r : Rec) : d.Sampled (d.boardSet r) := by
  unfold Dev.boardSet
  split
  · exact .refl d
  · have h := (({ d with err := { d.err with board := d.err.board ++ [r.code] } } : Dev).report_rep r).sampled
    exact ⟨h.pwr, h.jtag, h.mgt, h.boot, h.aon, h.last, h.clk⟩

theorem Dev.countEdge_sampled (d : Dev) (k : Nat) (a r : Bool) : d.Sampled (d.countEdge k a r) := by
  cases a <;> cases r <;> exact ⟨rfl, rfl, rfl, rfl, rfl, rfl, rfl⟩

theorem Dev.peak_sampled (d : Dev) (n : Nat) (v : Int) : d.Sampled (d.peak n v) := by
  unfold Dev.peak
  split
  · split <;> exact ⟨rfl, rfl, rfl, rfl, rfl, rfl, rfl⟩
  · exact ⟨rfl, rfl, rfl, rfl, rfl, rfl, rfl⟩

theorem Dev.refit_sampled (d : Dev) (c : Nat) (v : Int) : d.Sampled (d.refit c v) := by
  refine foldl_keeps (fun e : Dev => d.Sampled e) _ (fun e i he => ?_) _ _ (.refl d)
  dsimp only
  split
  · exact he.trans ⟨rfl, rfl, rfl, rfl, rfl, rfl, rfl⟩
  · exact he

theorem Dev.sensorFaults_sampled (d : Dev) (rs : List (Option Int)) (sensors : List Nat) (cls : Nat) :
    d.Sampled (d.sensorFaults rs sensors cls) := by
  refine foldl_keeps (fun e : Dev => d.Sampled e) _ (fun e b he => ?_) _ _ (.refl d)
  dsimp only
  split
  · refine (he.trans ?_).trans (Dev.report_rep _ _).sampled
    cases rs.getD b none <;> exact ⟨rfl, rfl, rfl, rfl, rfl, rfl, rfl⟩
  · exact he.trans ⟨rfl, rfl, rfl, rfl, rfl, rfl, rfl⟩

theorem Dev.setDie_sampled (d : Dev) (n : Nat) (t : DieTherm) : d.Sampled (d.setDie n t) := ⟨rfl, rfl, rfl, rfl, rfl, rfl, rfl⟩

/-- The thermal state of a die after a valid sample (R65 to R67, Table 3.5). -/
def Dev.dieAfter (d : Dev) (n : Nat) (v : Int) : DieTherm :=
  let t := d.die n
  let x := t.m95.step 1520 v
  let y := t.m105.step 1680 v
  let z := t.m115.step 1840 v
  (((d.throttleEdge n { t with sample := v, blind := false, m95 := x.1, m105 := y.1, m115 := z.1 } x.2.1 x.2.2 v).stampEdge
    1 d.pwr.tick x.2.1 x.2.2).stampEdge 2 d.pwr.tick y.2.1 y.2.2).stampEdge 3 d.pwr.tick z.2.1 z.2.2

/-- The edges of the three thresholds are counted (R66). -/
def Dev.countEdges (d : Dev) (t : DieTherm) (v : Int) : Dev :=
  ((d.countEdge 1 (t.m95.step 1520 v).2.1 (t.m95.step 1520 v).2.2).countEdge 2 (t.m105.step 1680 v).2.1
    (t.m105.step 1680 v).2.2).countEdge 3 (t.m115.step 1840 v).2.1 (t.m115.step 1840 v).2.2

/-- The records of a sample: THERM_THROTTLE and THERM_CRITICAL as their thresholds assert (R67). -/
def Dev.edgeRecords (d : Dev) (t : DieTherm) (v : Int) : Dev :=
  let d := if (t.m95.step 1520 v).2.1 then d.report { code := 0x41, source := 0x87, detail := unsigned v 64 } else d
  if (t.m105.step 1680 v).2.1 then d.boardSet { code := 0x42, source := 0x87, detail := unsigned v 64 } else d

/-- What a valid sample of a die does once its sensors' faults are marked. -/
def Dev.takeSample (d : Dev) (n : Nat) (v : Int) : Dev :=
  (((d.setDie n (d.dieAfter n v)).peak n v).countEdges (d.die n) v).edgeRecords (d.die n) v

/-- The valid readings of a die's sensors (R63). -/
def Dev.readingsOf (d : Dev) (rs : List (Option Int)) (n : Nat) : List Int :=
  (d.sensorsOf n).filterMap (fun b => validReading (rs.getD b none))

/-- The device once the faults of a die's sensors are marked. -/
def Dev.marked (d : Dev) (rs : List (Option Int)) (n : Nat) : Dev :=
  d.sensorFaults rs (d.sensorsOf n) (if (d.readingsOf rs n).isEmpty then 5 else 1)

theorem Dev.sampleDie_of_unsampled {d : Dev} {n : Nat} (h : d.sampled n = false) (rs : List (Option Int)) :
    d.sampleDie rs n = d := if_pos (by rw [h]; rfl)

theorem Dev.sampleDie_of_blind {d : Dev} {rs : List (Option Int)} {n : Nat} (h : d.sampled n = true)
    (hv : (d.readingsOf rs n).max? = none) :
    d.sampleDie rs n = (d.marked rs n).setDie n { (d.marked rs n).die n with blind := true } := by
  refine (if_neg (by rw [h]; decide)).trans ?_
  dsimp only
  change (match (d.readingsOf rs n).max? with | none => _ | some v => _) = _
  rw [hv]
  rfl

theorem Dev.sampleDie_of_reading {d : Dev} {rs : List (Option Int)} {n : Nat} {v : Int} (h : d.sampled n = true)
    (hv : (d.readingsOf rs n).max? = some v) : d.sampleDie rs n =
      if n = 0 then (d.marked rs n).takeSample n v else ((d.marked rs n).takeSample n v).refit (n - 1) v := by
  refine (if_neg (by rw [h]; decide)).trans ?_
  dsimp only
  change (match (d.readingsOf rs n).max? with | none => _ | some v => _) = _
  rw [hv]
  rfl

theorem Dev.takeSample_sampled (d : Dev) (n : Nat) (v : Int) : d.Sampled (d.takeSample n v) := by
  have hcount : ∀ (e : Dev) (t : DieTherm), e.Sampled (e.countEdges t v) := fun e t =>
    ((e.countEdge_sampled 1 _ _).trans (Dev.countEdge_sampled _ 2 _ _)).trans (Dev.countEdge_sampled _ 3 _ _)
  have hrecords : ∀ (e : Dev) (t : DieTherm), e.Sampled (e.edgeRecords t v) := fun e t => by
    unfold Dev.edgeRecords
    dsimp only
    split <;> split
    · exact (e.report_rep _).sampled.trans (Dev.boardSet_sampled _ _)
    · exact e.boardSet_sampled _
    · exact (e.report_rep _).sampled
    · exact .refl e
  exact ((d.setDie_sampled n _).trans (Dev.peak_sampled _ n v)).trans ((hcount _ _).trans (hrecords _ _))

theorem Dev.sampleDie_sampled (d : Dev) (rs : List (Option Int)) (n : Nat) : d.Sampled (d.sampleDie rs n) := by
  have hmark : d.Sampled (d.marked rs n) := d.sensorFaults_sampled _ _ _
  cases hs : d.sampled n with
  | false => rw [Dev.sampleDie_of_unsampled hs]; exact .refl d
  | true =>
    cases hv : (d.readingsOf rs n).max? with
    | none => rw [Dev.sampleDie_of_blind hs hv]; exact hmark.trans (Dev.setDie_sampled _ n _)
    | some v =>
      rw [Dev.sampleDie_of_reading hs hv]
      split
      · exact hmark.trans (Dev.takeSample_sampled _ n v)
      · exact (hmark.trans (Dev.takeSample_sampled _ n v)).trans (Dev.refit_sampled _ _ _)

/-! ### The sample of every sensor -/

theorem Dev.blindCheck_frame (d : Dev) : d.blindCheck = { d with err := d.blindCheck.err } := by
  unfold Dev.blindCheck
  split <;> rfl

theorem Dev.criticalCheck_frame (d : Dev) : d.criticalCheck = { d with err := d.criticalCheck.err } := by
  unfold Dev.criticalCheck
  split <;> rfl

/-- The pending conditions of a sample are board conditions alone (R64, R65). -/
theorem Dev.checks_frame (d : Dev) :
    d.blindCheck.criticalCheck = { d with err := d.blindCheck.criticalCheck.err } := by
  rw [Dev.criticalCheck_frame, Dev.blindCheck_frame]

/-- The sample of the AON sensor, with which every sample begins. -/
def Dev.sampleAon (d : Dev) (rs : List (Option Int)) : Dev :=
  { d.sensorFaults rs [80] 1 with therm := { (d.sensorFaults rs [80] 1).therm with
      aon := validReading (rs.getD 80 none), lastSample := some (d.sensorFaults rs [80] 1).pwr.tick } }

/-- The samples of the five dies. -/
def Dev.sampleDies (d : Dev) (rs : List (Option Int)) : Dev := (List.range 5).foldl (fun d n => d.sampleDie rs n) d

/-- The trip of the first die whose SHUTDOWN machine has asserted since `d`, if one has (R69). -/
def Dev.tripFrom (d e : Dev) : Dev :=
  match (d.tripped e).head? with
  | some n => e.thermalTrip n (e.die n).sample
  | none => e

theorem Dev.sampleDies_sampled (d : Dev) (rs : List (Option Int)) : d.Sampled (d.sampleDies rs) :=
  foldl_keeps (fun e : Dev => d.Sampled e) _ (fun e n he => he.trans (e.sampleDie_sampled rs n)) _ _ (.refl d)

theorem sampleDue_of {d : Dev} (h : SampleDue d) : d.sampleDue = true := due_of_periodOver h

theorem not_sampleDue_of {d : Dev} (h : ¬ SampleDue d) : d.sampleDue = false := by
  unfold Dev.sampleDue Dev.due
  unfold SampleDue at h
  cases hx : d.therm.lastSample with
  | none => exact absurd (fun x hx' => by simp [hx] at hx') h
  | some x =>
    have hx' : ¬ x + 25000 ≤ d.pwr.tick := fun hle => h (fun y hy => by
      obtain rfl : x = y := Option.some.inj (hx.symm.trans hy)
      exact hle)
    have hlate : ¬ 25000 ≤ d.pwr.tick - x := by omega
    rw [Option.all_some, Nat.ble_since, decide_eq_false hlate]

section
variable {s : State}

theorem exec_thermalSample {rs : List (Option Int)} (ha : s.dev.pwr.aon = true) (hd : SampleDue s.dev) :
    exec (.thermalSample rs) s = .next { s with
      dev := (s.dev.sampleAon rs).tripFrom ((s.dev.sampleAon rs).sampleDies rs).blindCheck.criticalCheck } :=
  exec_dev rfl (by exact if_pos (by rw [ha, sampleDue_of hd]; rfl))

theorem exec_thermalSample_of_early {rs : List (Option Int)} (hd : ¬ SampleDue s.dev) :
    exec (.thermalSample rs) s = .next s :=
  exec_dev rfl (by exact if_neg (by simp [not_sampleDue_of hd]))

end

theorem Dev.sampleAon_pwr (d : Dev) (rs : List (Option Int)) : (d.sampleAon rs).pwr = d.pwr :=
  (d.sensorFaults_sampled rs [80] 1).pwr

theorem Dev.sampleAon_frame (d : Dev) (rs : List (Option Int)) :
    (d.sampleAon rs).jtag = d.jtag ∧ (d.sampleAon rs).mgt = d.mgt ∧ (d.sampleAon rs).boot = d.boot ∧
      (d.sampleAon rs).clk = d.clk ∧ (d.sampleAon rs).therm.lastSample = some d.pwr.tick := by
  have h := d.sensorFaults_sampled rs [80] 1
  exact ⟨h.jtag, h.mgt, h.boot, h.clk, congrArg (fun p : Pwr => some p.tick) h.pwr⟩

theorem Dev.checks_sampled (d : Dev) : d.Sampled d.blindCheck.criticalCheck := by
  rw [Dev.checks_frame]
  exact ⟨rfl, rfl, rfl, rfl, rfl, rfl, rfl⟩

/-! ### The trip (R36, R69, R70) -/

theorem Dev.hubClear_therm (d : Dev) : d.hubClear.therm = { d.therm with faultBits := 0 } := by
  unfold Dev.hubClear
  rw [Dev.tearFlash_frame]

/-- A turn-off keeps what the monitor holds of the AON sensor, and what the AON domain holds. -/
theorem Dev.turnOff_keeps (d : Dev) (c : TurnOff) : (d.turnOff c).therm.aon = d.therm.aon ∧
    (d.turnOff c).therm.lastSample = d.therm.lastSample ∧ (d.turnOff c).pwr.tick = d.pwr.tick ∧
    (d.turnOff c).jtag = d.jtag ∧ (d.turnOff c).mgt = d.mgt := by
  cases hl : d.live with
  | false => rw [Dev.turnOff_of_not_live hl]; exact ⟨rfl, rfl, rfl, rfl, rfl⟩
  | true =>
    have h := Dev.turnOff_aonSame hl c
    refine ⟨?_, ?_, h.tick, h.jtag, h.mgt⟩ <;>
      rw [Dev.turnOff_of_live hl] <;> dsimp only <;> rw [Dev.hubClear_therm, Dev.restoreCount_frame]

/-- What the trip of a sample leaves as it was. -/
theorem Dev.tripFrom_keeps (d e : Dev) : (d.tripFrom e).therm.aon = e.therm.aon ∧
    (d.tripFrom e).therm.lastSample = e.therm.lastSample ∧ (d.tripFrom e).pwr.tick = e.pwr.tick ∧
    (d.tripFrom e).jtag = e.jtag ∧ (d.tripFrom e).mgt = e.mgt := by
  unfold Dev.tripFrom
  split
  · exact Dev.turnOff_keeps { e with boot := _ } .thermal
  · exact ⟨rfl, rfl, rfl, rfl, rfl⟩

/-- A sample that changes the hub alone, with its SHUTDOWN machine at rest, trips nothing. -/
theorem Dev.tripFrom_of_hub {d e : Dev} (h0 : (e.die 0).m115.asserted = false) (hk : ∀ k, k ≠ 0 → e.die k = d.die k) :
    d.tripFrom e = e := by
  have hnone : d.tripped e = [] := by
    refine List.filter_eq_nil_iff.mpr (fun n _ => ?_)
    by_cases hn : n = 0
    · simp [hn, h0]
    · simp [hk n hn]
  rw [Dev.tripFrom, hnone]
  rfl

/-- A sample with which the hub's SHUTDOWN machine asserts trips the module for the hub (log 95). -/
theorem Dev.tripFrom_hub {d e : Dev} (h : (d.die 0).m115.asserted = false) (h0 : (e.die 0).m115.asserted = true) :
    d.tripFrom e = e.thermalTrip 0 (e.die 0).sample := by
  have hhead : (d.tripped e).head? = some 0 := by
    change (List.filter _ (0 :: [1, 2, 3, 4])).head? = some 0
    rw [List.filter_cons_of_pos (by simp [h, h0])]
    rfl
  rw [Dev.tripFrom, hhead]

theorem Dev.turnOff_lastTrip (d : Dev) (c : TurnOff) : (d.turnOff c).boot.lastTrip = d.boot.lastTrip := by
  cases hl : d.live with
  | false => rw [Dev.turnOff_of_not_live hl]
  | true =>
    rw [Dev.turnOff_of_live hl]
    dsimp only
    rw [Dev.restoreCount_frame]

/-- THM_LAST_TRIP as a trip of a die writes it (Table 3.6). -/
def Dev.tripRecord (d : Dev) (n : Nat) (v : Int) : Nat :=
  (d.pwr.tick % 2 ^ 64) * 2 ^ 64 + n * 2 ^ 8 + unsigned v 16 * 2 ^ 128

theorem Dev.thermalTrip_eq (d : Dev) (n : Nat) (v : Int) : d.thermalTrip n v =
    { ({ d with boot := { d.boot with lastTrip := d.tripRecord n v } } : Dev).turnOff .thermal with
      pwr := { (({ d with boot := { d.boot with lastTrip := d.tripRecord n v } } : Dev).turnOff .thermal).pwr with
        thermtrip := true, thermalLatch := true, waitCool := true } } := rfl

theorem Dev.live_congr {d e : Dev} (h : e.pwr = d.pwr) : e.live = d.live := by rw [Dev.live, h, Dev.live]

/-- The trip of a running module (R36, R69, R70). -/
theorem Dev.thermalTrip_of_live {d : Dev} (hl : d.live = true) (n : Nat) (v : Int) :
    (d.thermalTrip n v).pwr = { d.pwr with
      falling := true, modPwrOk := false, lastOff := .thermal, thermtrip := true, thermalLatch := true, waitCool := true } ∧
    WorkLost (d.thermalTrip n v) ∧ (d.thermalTrip n v).boot.lastTrip = d.tripRecord n v ∧
      (d.thermalTrip n v).mgt = d.mgt := by
  rw [Dev.thermalTrip_eq]
  generalize d.tripRecord n v = r
  obtain ⟨e, he⟩ : ∃ e : Dev, e = { d with boot := { d.boot with lastTrip := r } } := ⟨_, rfl⟩
  rw [← he]
  have hel : e.live = true := (Dev.live_congr (by rw [he])).trans hl
  refine ⟨?_, Dev.turnOff_workLost hel .thermal, ?_, ?_⟩
  · rw [Dev.turnOff_pwr hel, he]
  · rw [Dev.turnOff_lastTrip, he]
  · rw [(Dev.turnOff_aonSame hel .thermal).mgt, he]

theorem Dev.tripFrom_of_dies {d e : Dev} (h : e.therm.dies = d.therm.dies) : d.tripFrom e = e := by
  have hnone : d.tripped e = [] := by
    refine List.filter_eq_nil_iff.mpr (fun n _ => ?_)
    rw [Dev.die_congr h]
    simp
  rw [Dev.tripFrom, hnone]
  rfl

/-! ### Sensor faults (R63) -/

theorem testBit_putBit (n i : Nat) (b : Bool) : (putBit n i b).testBit i = b := by
  cases b with
  | true => exact putBit_testBit_same n i
  | false =>
    unfold putBit
    cases hb : n.testBit i with
    | false => simpa using hb
    | true =>
      have hodd : n / 2 ^ i % 2 = 1 := by simpa [Nat.testBit_eq_decide_div_mod_eq] using hb
      have hsub := Nat.sub_mul_div n (2 ^ i) 1
      rw [Nat.mul_one] at hsub
      simp only [Bool.false_eq_true, if_false, if_true, Nat.testBit_eq_decide_div_mod_eq, hsub]
      exact decide_eq_false (by omega)

theorem Dev.sensorFaults_singleton_faultBits (d : Dev) (rs : List (Option Int)) (b cls : Nat) :
    (d.sensorFaults rs [b] cls).therm.faultBits =
      putBit d.therm.faultBits b (validReading (rs.getD b none)).isNone := by
  unfold Dev.sensorFaults
  rw [List.foldl_cons, List.foldl_nil]
  dsimp only
  split
  · rw [Dev.report_therm]
    cases rs.getD b none <;> rfl
  · rfl

/-- Without a pending fault and with valid readings nothing is marked. -/
theorem Dev.sensorFaults_of_valid {d : Dev} {rs : List (Option Int)} {sensors : List Nat} (hf : d.therm.faultBits = 0)
    (hv : ∀ b ∈ sensors, (validReading (rs.getD b none)).isNone = false) (cls : Nat) : d.sensorFaults rs sensors cls = d := by
  unfold Dev.sensorFaults
  induction sensors with
  | nil => rfl
  | cons b l ih =>
    have hb := hv b (List.mem_cons_self ..)
    rw [List.foldl_cons]
    dsimp only
    rw [hb]
    have hput : putBit d.therm.faultBits b false = d.therm.faultBits := by rw [hf]; simp [putBit]
    rw [hput]
    exact ih (fun b' hb' => hv b' (List.mem_cons_of_mem _ hb'))

/-! ### The sample in Beyby mode, where the hub alone is sampled (log 7) -/

theorem Dev.sampled_of_not_live {d : Dev} (h : d.live = false) (n : Nat) : d.sampled n = false := by
  simp [Dev.sampled, h]

theorem Dev.sampled_of_beyby {d : Dev} (h : d.boot.beyby = true) {n : Nat} (hn : n ≠ 0) : d.sampled n = false := by
  simp [Dev.sampled, h, hn]

theorem Dev.sampled_hub {d : Dev} (h : d.live = true) : d.sampled 0 = true := by simp [Dev.sampled, h]

theorem Dev.sampleDies_of_not_live {d : Dev} (h : d.live = false) (rs : List (Option Int)) : d.sampleDies rs = d :=
  foldl_keeps (fun e : Dev => e = d) _ (fun e n he => by
    rw [he]
    exact Dev.sampleDie_of_unsampled (Dev.sampled_of_not_live h n) rs) _ _ rfl

theorem Dev.sampleDies_of_beyby {d : Dev} (h : d.boot.beyby = true) (rs : List (Option Int)) :
    d.sampleDies rs = d.sampleDie rs 0 := by
  have hb : (d.sampleDie rs 0).boot.beyby = true := by rw [(d.sampleDie_sampled rs 0).boot, h]
  have hrest : ∀ n, n ≠ 0 → (d.sampleDie rs 0).sampleDie rs n = d.sampleDie rs 0 := fun n hn =>
    Dev.sampleDie_of_unsampled (Dev.sampled_of_beyby hb hn) rs
  change ((((d.sampleDie rs 0).sampleDie rs 1).sampleDie rs 2).sampleDie rs 3).sampleDie rs 4 = _
  rw [hrest 1 (by decide), hrest 2 (by decide), hrest 3 (by decide), hrest 4 (by decide)]

section
variable {rs : List (Option Int)} {v : Int} (hrs : ∀ b < 81, rs[b]? = some (some v)) (hlo : -640 ≤ v) (hhi : v ≤ 2400)
include hrs hlo hhi

theorem validReading_of_all {b : Nat} (hb : b < 81) : validReading (rs.getD b none) = some v := by
  rw [List.getD_eq_getElem?_getD, hrs b hb]
  exact if_pos ⟨hlo, hhi⟩

theorem Dev.readingsOf_hub_of_all (d : Dev) : (d.readingsOf rs 0).max? = some v := by
  have hvalid : ∀ b < 8, validReading (rs.getD b none) = some v := fun b hb => validReading_of_all hrs hlo hhi (by omega)
  have hreadings : d.readingsOf rs 0 = List.replicate 8 v := by
    change (List.range 8).filterMap (fun b => validReading (rs.getD b none)) = _
    rw [List.filterMap_congr (g := fun _ => some v) (fun b hb => hvalid b (List.mem_range.mp hb))]
    rfl
  rw [hreadings]
  simp [List.max?_replicate]

theorem Dev.marked_hub_of_all {d : Dev} (hf : d.therm.faultBits = 0) : d.marked rs 0 = d := by
  refine Dev.sensorFaults_of_valid hf (fun b hb => ?_) _
  rw [validReading_of_all hrs hlo hhi (by have := List.mem_range.mp (show b ∈ List.range 8 from hb); omega)]
  rfl

theorem Dev.sampleAon_of_all {d : Dev} (hf : d.therm.faultBits = 0) :
    d.sampleAon rs = { d with therm := { d.therm with aon := some v, lastSample := some d.pwr.tick } } := by
  unfold Dev.sampleAon
  rw [Dev.sensorFaults_of_valid hf, validReading_of_all hrs hlo hhi (by decide)]
  intro b hb
  rw [List.mem_singleton.mp hb, validReading_of_all hrs hlo hhi (by decide)]
  rfl

/-- The hub's part of a sample with one valid reading everywhere. -/
theorem Dev.sampleDie_hub_of_all {d : Dev} (hl : d.live = true) (hf : d.therm.faultBits = 0) :
    d.sampleDie rs 0 = d.takeSample 0 v := by
  rw [Dev.sampleDie_of_reading (Dev.sampled_hub hl) (Dev.readingsOf_hub_of_all hrs hlo hhi d), if_pos rfl,
    Dev.marked_hub_of_all hrs hlo hhi hf]

end

theorem Dev.peak_frame (d : Dev) (n : Nat) (v : Int) : d.peak n v = { d with dict := (d.peak n v).dict } := by
  unfold Dev.peak
  split
  · split <;> rfl
  · rfl

theorem Debounce.step_of_fresh {t v : Int} (hv : v ≤ t - 48) : ({} : Debounce).step t v = ({}, false, false) :=
  Debounce.step_of_low_released (by decide) hv rfl

/-- A cool sample of a die whose machines are at rest sets its reading and raises nothing. -/
theorem Dev.takeSample_of_cool {d : Dev} {n : Nat} {v : Int} (h95 : (d.die n).m95 = {}) (h105 : (d.die n).m105 = {})
    (h115 : (d.die n).m115 = {}) (hv : v < 1472) :
    d.takeSample n v = (d.setDie n (d.dieAfter n v)).peak n v ∧ (d.dieAfter n v).sample = v ∧
      (d.dieAfter n v).state = 0 ∧ (d.dieAfter n v).m115.asserted = false := by
  have h1 : (d.die n).m95.step 1520 v = ({}, false, false) := h95 ▸ Debounce.step_of_fresh (by omega)
  have h2 : (d.die n).m105.step 1680 v = ({}, false, false) := h105 ▸ Debounce.step_of_fresh (by omega)
  have h3 : (d.die n).m115.step 1840 v = ({}, false, false) := h115 ▸ Debounce.step_of_fresh (by omega)
  refine ⟨?_, ?_, ?_, ?_⟩
  · simp [Dev.takeSample, Dev.countEdges, Dev.edgeRecords, Dev.countEdge, h1, h2, h3]
  all_goals simp [Dev.dieAfter, Dev.throttleEdge, DieTherm.stampEdge, DieTherm.state, h1, h2, h3]

/-! ### The end of a throttling window, the end of the wait -/

/-- The thermal state of a die at the end of its window (Table 3.5). -/
def DieTherm.windowEnd (t : DieTherm) (n : Nat) : DieTherm :=
  let next := { t with winStart := t.winStart + 1250000, winHigh := false, winLow := false }
  match t.limit with
  | none => { next with winOn := false }
  | some l =>
    if t.m95.asserted then
      { next with limit := some (if t.winHigh && !t.winLow then Nat.max (dieFloor n) (l - dieStep n) else l) }
    else if dieTop n ≤ l + dieStep n then { next with limit := none, winOn := false }
    else { next with limit := some (l + dieStep n) }

/-- A window's end moves the window, the limit, and whether a window runs. -/
theorem DieTherm.windowEnd_frame (t : DieTherm) (n : Nat) : t.windowEnd n = { t with
    winStart := t.winStart + 1250000, winHigh := false, winLow := false
    winOn := (t.windowEnd n).winOn, limit := (t.windowEnd n).limit } := by
  unfold DieTherm.windowEnd
  split
  · rename_i h; rw [h]
  · dsimp only
    split
    · rfl
    · split <;> rfl

section
variable {s : State}

theorem exec_throttleWindowEnd {x : Die} (hw : (s.dev.die (dieNum x)).winOn = true)
    (ht : (s.dev.die (dieNum x)).winStart + 1250000 ≤ s.dev.pwr.tick) : exec (.throttleWindowEnd x) s =
      .next { s with dev := s.dev.setDie (dieNum x) ((s.dev.die (dieNum x)).windowEnd (dieNum x)) } :=
  exec_dev rfl (by
    refine (if_pos (by rw [hw, Nat.ble_since_of_le ht]; rfl)).trans ?_
    unfold DieTherm.windowEnd
    dsimp only
    cases (s.dev.die (dieNum x)).limit with
    | none => rfl
    | some l =>
      dsimp only
      rw [apply_ite (s.dev.setDie (dieNum x)), apply_ite (s.dev.setDie (dieNum x))])

theorem exec_trippedRestart_of_cool {v : Int} (ha : s.dev.pwr.aon = true) (hw : s.dev.pwr.waitCool = true)
    (hl : s.dev.pwr.thermalLatch = false) (hlo : -640 ≤ v) (hhi : v ≤ 1792) : exec (.trippedRestart (some v)) s =
      .next { s with dev := { s.dev with
        therm := { s.dev.therm with aon := some v }
        pwr := { s.dev.pwr with
          waitCool := false
          charging := s.dev.pwr.charging || MayCharge { s.dev.pwr with waitCool := false } } } } :=
  exec_dev rfl (by
    have hvalid : validReading (some v) = some v := if_pos ⟨hlo, by omega⟩
    refine (if_pos (by rw [ha, hw, hl]; rfl)).trans ?_
    rw [hvalid]
    exact (if_pos hhi).trans (Dev.startCharge_eq _))

/-- A reading above 112 degrees leaves the wait as it is, whatever the latch and the reading's range. -/
theorem exec_trippedRestart_of_hot {v : Int} (hv : 1792 < v) : ∃ d : Dev, exec (.trippedRestart (some v)) s =
    .next { s with dev := d } ∧ d.pwr = s.dev.pwr := by
  refine ⟨_, rfl, ?_⟩
  dsimp only
  split
  · rcases hx : validReading (some v) with _ | w
    · rfl
    · obtain rfl : v = w := by
        unfold validReading at hx
        dsimp only at hx
        split at hx
        · exact Option.some.inj hx
        · cases hx
      dsimp only
      rw [if_neg (Int.not_le.mpr hv)]
  · rfl

end

theorem Dev.die_setDie_same (d : Dev) (n : Nat) (t : DieTherm) : (d.setDie n t).die n = t := by
  simp [Dev.die, Dev.setDie]

theorem Dev.die_setDie_other (d : Dev) {n k : Nat} (t : DieTherm) (h : k ≠ n) : (d.setDie n t).die k = d.die k := by
  simp [Dev.die, Dev.setDie, KMap.get_put_other _ _ _ _ _ h]

/-- Settles O8: a sample by what it leaves and by its trip, a window's end and the restart by their laws. -/
theorem thermalMonitor : Obligations.ThermalMonitor := by
  refine ⟨fun s rs ha hd => ?sample, fun s rs hd => exec_thermalSample_of_early hd, fun s rs ha hl hd => ?off,
    fun s rs v hl ha hb hd hf hrs hlo hhi h95 h105 h115 => ?cool, fun s x hw ht => ?window, fun s x l hw ht hlim => ?limit,
    fun s v ha hw hl hlo hhi => ?cooled, fun s v ha hw hv => ?hot, fun s rs v hl ha hb hd hf hrs hlo hhi hc hn => ?trip⟩
  case sample =>
    obtain ⟨hj, hm, -, -, hlast⟩ := s.dev.sampleAon_frame rs
    have hs := ((s.dev.sampleAon rs).sampleDies_sampled rs).trans (Dev.checks_sampled _)
    obtain ⟨kaon, klast, ktick, kj, km⟩ :=
      (s.dev.sampleAon rs).tripFrom_keeps ((s.dev.sampleAon rs).sampleDies rs).blindCheck.criticalCheck
    exact ⟨_, exec_thermalSample ha hd, onlyDev_withDev s _, kaon.trans hs.aon, (klast.trans hs.last).trans hlast,
      ktick.trans (congrArg Pwr.tick (hs.pwr.trans (s.dev.sampleAon_pwr rs))), (kj.trans hs.jtag).trans hj,
      (km.trans hs.mgt).trans hm⟩
  case off =>
    obtain ⟨-, -, hboot, hclk, -⟩ := s.dev.sampleAon_frame rs
    have hpwr := s.dev.sampleAon_pwr rs
    have hoff : (s.dev.sampleAon rs).live = false := by rw [Dev.live, hpwr]; exact hl
    refine ⟨_, exec_thermalSample ha hd, ?_⟩
    have hdies : (s.dev.sampleAon rs).blindCheck.criticalCheck.therm.dies = (s.dev.sampleAon rs).therm.dies := by
      rw [Dev.checks_frame]
    rw [Dev.sampleDies_of_not_live hoff, Dev.tripFrom_of_dies hdies, Dev.checks_frame]
    refine ⟨onlyDev_withDev s _, rfl, s.dev.sensorFaults_dies rs [80] 1, hpwr, hclk, hboot, ?_⟩
    change (s.dev.sensorFaults rs [80] 1).therm.faultBits.testBit 80 = _
    rw [Dev.sensorFaults_singleton_faultBits, testBit_putBit]
  case cool =>
    have haon := Dev.sampleAon_of_all hrs hlo (by omega) hf
    refine ⟨_, exec_thermalSample ha hd, ?_⟩
    rw [haon]
    generalize hd1 : ({ s.dev with therm := { s.dev.therm with aon := some v, lastSample := some s.dev.pwr.tick } } : Dev) = d1
    have hdie : d1.die 0 = s.dev.die 0 := by rw [← hd1]; rfl
    obtain ⟨htake, hsample, hstate, htrip⟩ := Dev.takeSample_of_cool (d := d1) (n := 0) (v := v) (hdie ▸ h95) (hdie ▸ h105)
      (hdie ▸ h115) hhi
    rw [Dev.sampleDies_of_beyby (by rw [← hd1]; exact hb),
      Dev.sampleDie_hub_of_all hrs hlo (by omega) (by rw [← hd1]; exact hl) (by rw [← hd1]; exact hf), htake]
    obtain ⟨m, x, hframe⟩ : ∃ m x, ((d1.setDie 0 (d1.dieAfter 0 v)).peak 0 v).blindCheck.criticalCheck =
        { d1.setDie 0 (d1.dieAfter 0 v) with dict := m, err := x } := by
      have hpeak := (d1.setDie 0 (d1.dieAfter 0 v)).peak_frame 0 v
      generalize ((d1.setDie 0 (d1.dieAfter 0 v)).peak 0 v).dict = m at hpeak
      rw [hpeak]
      exact ⟨m, _, Dev.checks_frame _⟩
    generalize ((d1.setDie 0 (d1.dieAfter 0 v)).peak 0 v).blindCheck.criticalCheck = e at hframe
    have hhub : e.die 0 = d1.dieAfter 0 v := by
      rw [hframe]
      exact Dev.die_setDie_same _ _ _
    have hothers : ∀ k, k ≠ 0 → e.die k = d1.die k := fun k hk => by
      rw [hframe]
      exact Dev.die_setDie_other d1 (d1.dieAfter 0 v) hk
    rw [Dev.tripFrom_of_hub (by rw [hhub]; exact htrip) hothers, hhub]
    refine ⟨hsample, hstate, ?_, ?_, ?_, ?_, ?_, rfl⟩ <;> (rw [hframe, ← hd1]; rfl)
  case window =>
    refine ⟨_, exec_throttleWindowEnd hw ht, rfl, fun n hn => Dev.die_setDie_other _ _ hn, ?_, fun hlim => ?_⟩
    · simp only [Dev.die_setDie_same]
      exact DieTherm.windowEnd_frame _ _
    · simp [Dev.die_setDie_same, DieTherm.windowEnd, hlim]
  case limit =>
    refine ⟨_, exec_throttleWindowEnd hw ht, rfl, fun n hn => Dev.die_setDie_other _ _ hn, fun ha hhigh hlow => ?_,
      fun ha hstep => ?_, fun ha hstep => ?_⟩
    · simp [Dev.die_setDie_same, DieTherm.windowEnd, hlim, ha, hhigh, hlow, dieFloor, dieStep]
    · simp [Dev.die_setDie_same, DieTherm.windowEnd, hlim, ha, dieTop, dieStep, Nat.not_le.mpr hstep]
    · simp [Dev.die_setDie_same, DieTherm.windowEnd, hlim, ha, dieTop, dieStep, hstep]
  case cooled => exact ⟨_, exec_trippedRestart_of_cool ha hw hl hlo hhi, rfl, rfl, rfl, rfl⟩
  case hot =>
    obtain ⟨d, hexec, hpwr⟩ := exec_trippedRestart_of_hot (s := s) hv
    exact ⟨_, hexec, hpwr⟩
  case trip =>
    obtain ⟨ktick, kmgt⟩ : _ ∧ _ := ⟨congrArg Pwr.tick (s.dev.sampleAon_pwr rs), (s.dev.sampleAon_frame rs).2.1⟩
    have hdie : (s.dev.sampleAon rs).die 0 = s.dev.die 0 := Dev.die_congr (s.dev.sensorFaults_dies rs [80] 1) 0
    have hs := ((s.dev.sampleAon rs).sampleDies_sampled rs).trans (Dev.checks_sampled _)
    refine ⟨_, exec_thermalSample ha hd, ?_⟩
    have hlive1 : (s.dev.sampleAon rs).live = true := by rw [Dev.live, s.dev.sampleAon_pwr]; exact hl
    obtain ⟨t', hput, hstep⟩ := Dev.sampleDie_dies (d := s.dev.sampleAon rs) (Dev.sampled_hub hlive1)
      (Dev.readingsOf_hub_of_all hrs (by omega) hhi _)
    have hshut : t'.m115.asserted = true := by
      have h115 : t'.m115 = _ := congrArg (fun m => m.2.2) hstep
      rw [h115, hdie, Debounce.step_of_high_released hlo hn, if_pos hc]
    generalize he : ((s.dev.sampleAon rs).sampleDies rs).blindCheck.criticalCheck = e at hs
    have hhub : (e.die 0).m115.asserted = true := by
      have hb : (s.dev.sampleAon rs).boot.beyby = true := by rw [(s.dev.sampleAon_frame rs).2.2.1]; exact hb
      have hdies : e.therm.dies = (s.dev.sampleAon rs).therm.dies.put 0 t' := by
        rw [← he, Dev.checks_frame, Dev.sampleDies_of_beyby hb]
        exact hput
      rw [Dev.die, hdies, KMap.get_put_same]
      exact hshut
    rw [Dev.tripFrom_hub (by rw [hdie]; exact hn) hhub]
    have hlive : e.live = true := by rw [Dev.live, hs.pwr]; exact hlive1
    obtain ⟨hpwr, hlost, hlast, hmgt⟩ := Dev.thermalTrip_of_live hlive 0 (e.die 0).sample
    have htick : e.pwr.tick = s.dev.pwr.tick := (congrArg Pwr.tick hs.pwr).trans ktick
    refine ⟨congrArg Pwr.thermtrip hpwr, congrArg Pwr.thermalLatch hpwr, congrArg Pwr.waitCool hpwr, ?_,
      congrArg Pwr.falling hpwr, congrArg Pwr.modPwrOk hpwr, congrArg Pwr.lastOff hpwr, hlost,
      (congrArg Pwr.tick hpwr).trans htick, ?_, rfl, rfl, (hmgt.trans hs.mgt).trans kmgt⟩
    · exact Dev.not_live_of_falling (congrArg Pwr.falling hpwr)
    · dsimp only
      rw [hlast, Dev.tripRecord, htick]
      omega

end Sys2Proof.Machine

/-! ## The boot (R79 to R97, R130, R184, R315)

A stage that ends in an error code is one call of `Dev.bootFail`, one that passes is one call of `Dev.nextStage`; the laws
below say once what each leaves. -/

namespace Sys2Proof.Machine

open Sys2Proof.Stm

/-! ### A unit that the operator switched off comes back (R97) -/

/-- A boot in stage 5 with the operator's switch of HBM stack 0 set and the stack trained: the state of the stacks and
the operator's switches are registers of their own. -/
def stateStackOff : State := { State.reset with dev := { State.reset.dev with
  pwr := { State.reset.dev.pwr with rails := true }
  boot := { State.reset.dev.boot with
    running := true, stage := 5
    fuses := 0x1010000000000000000000000000000000000000000000000000000000000ffffffff
    operOff := 0x10000000000000000000000000000000000000000000000000000000000000000
    ucie := [(0, 0)], hbmState := [(0, 0)] } } }

theorem stateStackOff_inStage : InStage stateStackOff.dev 5 := by
  unfold InStage
  decide

theorem stateStackOff_attnSet : attnSet (stateStackOff.dev.sweepMap (0 : BitVec 320).toNat) = true := by decide +kernel

theorem stateStackOff_operOff : stateStackOff.dev.boot.operOff.testBit 256 = true := by decide +kernel

theorem stateStackOff_active : (stateStackOff.dev.sweepMap (0 : BitVec 320).toNat).testBit 256 = true := by decide +kernel

/-- The floor sweep takes a stack by its state alone, so the operator's switch of a trained stack does not disable it. -/
theorem not_bootTraining : ¬ BootTraining := by
  unfold BootTraining
  intro ⟨_, _, _, _, _, _, hsweep, _⟩
  obtain ⟨t, _, _, hactive, _, _, hoff⟩ := hsweep stateStackOff 0 stateStackOff_inStage stateStackOff_attnSet
  have hbit := hoff 256 (by decide) (by decide) (.inr stateStackOff_operOff)
  rw [hactive] at hbit
  exact absurd (stateStackOff_active.symm.trans hbit) (by decide)

/-- Refutes O11: of the floor sweep's clause, a stack that the operator switched off (R97). -/
theorem not_bootToTraining : ¬ Obligations.BootToTraining := fun h => not_bootTraining h.2

/-! ### A stage that fails -/

theorem inStage_of {d : Dev} {n : Nat} (h : InStage d n) : d.inStage n = true := by
  obtain ⟨hl, hr, hb, hc, hs, hk⟩ := h
  simp [Dev.inStage, bitAt, hl, hr, hb, hc, hs, hk]

/-- BOOT_LAST_FAIL of an error code (Table 3.6). -/
def Dev.failRecord (d : Dev) (e : Nat) : Nat :=
  (d.pwr.tick % 2 ^ 64) * 2 ^ 64 + e * 2 ^ 16 + d.boot.count * 2 ^ 8 + d.boot.stage

theorem Dev.bootFail_eq (d : Dev) (e c : Nat) :
    d.bootFail e c = ({ d with boot := { d.boot with lastFail := d.failRecord e } } : Dev).warmReset c := rfl

/-- A boot failure of a device that still has the state's count, stage and power registers. -/
theorem bootFails_of {s : State} {d : Dev} (hp : d.pwr = s.dev.pwr) (hc : d.boot.count = s.dev.boot.count)
    (hs : d.boot.stage = s.dev.boot.stage) (e c : Nat) : BootFails s { s with dev := d.bootFail e c } e c := by
  have hrec : d.failRecord e = s.dev.failRecord e := by rw [Dev.failRecord, Dev.failRecord, hp, hc, hs]
  rw [Dev.bootFail_eq, hrec]
  obtain ⟨f, hf⟩ : ∃ f : Dev, f = { d with boot := { d.boot with lastFail := s.dev.failRecord e } } := ⟨_, rfl⟩
  rw [← hf]
  have hboot := f.warmReset_boot c
  obtain ⟨hrun, hstage, hcause, htick, -⟩ := f.warmReset_restarts c
  refine ⟨hcause, ?_, hstage, hrun, ?_, ?_, f.warmReset_workLost c, onlyDev_withDev s _⟩
  · rw [htick, hf]
    exact congrArg Pwr.tick hp
  · dsimp only
    rw [hboot, hf]
    rfl
  · dsimp only
    rw [hboot, hf]
    exact hc

/-! ### The lock (R83, R130, R184, R187) -/

theorem carveEntries_succ (n : Nat) : carveEntries (n + 1) = 0x00 :: 0x40 :: carveEntries n := rfl

theorem carveEntries_length (n : Nat) : (carveEntries n).length = 2 * n := by
  induction n with
  | zero => rfl
  | succ n ih => rw [carveEntries_succ, List.length_cons, List.length_cons, ih]; omega

/-- Every entry of the carve-out is PRIVATE with owner 0 (R130). -/
theorem byteAt_carveEntries {n i : Nat} (h : i < 2 * n) : byteAt (carveEntries n) i = if i % 2 = 0 then 0 else 0x40 := by
  induction n generalizing i with
  | zero => omega
  | succ n ih =>
    rw [carveEntries_succ]
    match i with
    | 0 => rfl
    | 1 => rfl
    | i + 2 =>
      have hmod : (i + 2) % 2 = i % 2 := by omega
      rw [hmod, ← ih (by omega)]
      rfl

theorem bootCfgOk_of {d : Dev} {c : BootCfg} (h : GoodBlock d c) : d.bootCfgOk c = true := by
  obtain ⟨halign, hrange, hmap, hclear, hpert⟩ := h
  rw [Dev.bootCfgOk, Dev.rotBaseOk, beq_iff_eq.mpr halign, Nat.ble_eq.mpr hrange, hmap, Nat.ble_eq.mpr hclear,
    Nat.ble_eq.mpr hpert]
  rfl

/-- The carve-out lies in the table. -/
theorem Dev.carve_le_regions (d : Dev) : d.carve * 512 ≤ d.regions := by
  have hcarve : d.carve ≤ d.hbmTop / 2 ^ 30 := by
    unfold Dev.carve
    split
    · omega
    · exact (Nat.min_le_right _ _).trans (Nat.sub_le _ _)
  unfold Dev.regions
  omega

/-- The four BOOT-class objects of a configuration block are written (R184). -/
def Dev.writeCfg (d : Dev) (c : BootCfg) : Dev :=
  (((d.setObj 0x3800 0 0 c.rotBase).setObj 0x3802 0 0 c.coreMap).setObj 0x3803 0 0 c.clearPolicy).setObj 0x3804 0 0
    c.perturbPermit

/-- The lock is set and the carve-out's entries stand in the table, the window being `hdm` GiB (R83, R130, R187). -/
def Dev.lockWith (d : Dev) (base hdm : Nat) : Dev :=
  { d with
    mem := d.mem.poke (base + 2 * (d.regions - hdm * 512)) (carveEntries (hdm * 512))
    boot := { d.boot with lock := true, hdmGib := hdm } }

/-- The device after the lock's writes, before the stage ends. -/
def Dev.locked (d : Dev) (c : BootCfg) : Dev := (d.writeCfg c).lockWith c.rotBase d.carve

section
variable {s : State}

theorem exec_bootStageLock {c : BootCfg} (h : InStage s.dev 6) (hc : GoodBlock s.dev c) :
    exec (.bootStageLock (some c)) s = .next { s with dev := (s.dev.locked c).nextStage } :=
  exec_dev rfl (by exact (if_pos (inStage_of h)).trans (if_pos (bootCfgOk_of hc)))

theorem exec_bootStageLock_of_bad {o : Option BootCfg} (h : InStage s.dev 6)
    (ho : ∀ c, o = some c → s.dev.bootCfgOk c = false) :
    exec (.bootStageLock o) s = .next { s with dev := s.dev.bootFail 6 6 } :=
  exec_dev rfl (by
    refine (if_pos (inStage_of h)).trans ?_
    cases o with
    | none => rfl
    | some c => exact if_neg (by rw [ho c rfl]; decide))

/-! ### Configuration space opens, the boot ends (R81, R84, R85) -/

/-- What stage 7 makes of a port (R84, R87). -/
def Dev.portStart (d : Dev) (p : Nat) : PortState :=
  if !d.has (288 + p) then .down else if d.obj 0x8001 (p + 1) 0 = 1 then .training else .off

/-- The ports that stage 7 starts. -/
def Dev.startPorts (d : Dev) : Dev := (List.range 6).foldl (fun (d : Dev) p => d.setPort p (d.portStart p)) d

theorem exec_bootStageOpen (h : InStage s.dev 7) (ht : KMap.find s.dev.boot.stageTicks 7 = none)
    (hr : s.dev.pwr.linkReset = false) :
    exec .bootStageOpen s = .next { s with dev := s.dev.startPorts.openCfg.stampStage } :=
  exec_dev rfl (by
    have hcond : (s.dev.inStage 7 && (KMap.find s.dev.boot.stageTicks 7).isNone) = true := by rw [inStage_of h, ht]; rfl
    refine (if_pos hcond).trans ?_
    exact congrArg Dev.stampStage (if_neg (by change ¬ s.dev.pwr.linkReset = true; rw [hr]; decide)))

theorem exec_bootCompleteWrite (h : InStage s.dev 7) (ht : (KMap.find s.dev.boot.stageTicks 7).isSome = true) :
    exec (.bootCompleteWrite false) s = .next { s with dev := { s.dev with
      boot := { s.dev.boot with
        complete := true, stage := 8, count := 0, mirror := 0, attempt := false, memActive := s.dev.boot.cxl != 0 }
      scout := { s.dev.scout with
        arrays := s.dev.scout.arrays.mapVal (fun a => { a with due := a.st == .exactOnly }) } } } :=
  exec_dev rfl (by
    have hcond : (s.dev.inStage 7 && (KMap.find s.dev.boot.stageTicks 7).isSome) = true := by rw [inStage_of h, ht]; rfl
    exact if_pos hcond)

theorem exec_bootCompleteWrite_of_trap {n : Nat} (h : InStage s.dev n) (hlo : 2 ≤ n) (hhi : n ≤ 7) :
    exec (.bootCompleteWrite true) s = .next { s with dev := s.dev.bootFail 8 6 } :=
  exec_dev rfl (by
    have hfw : s.dev.fwBooting = true := List.any_eq_true.mpr ⟨n, by simp; omega, inStage_of h⟩
    exact if_pos hfw)

theorem exec_bootWatchdog (hl : s.dev.live = true) (hr : s.dev.boot.running = true) (hb : s.dev.boot.beyby = false)
    (hc : s.dev.boot.complete = false) (ht : s.dev.boot.start + 750000000 ≤ s.dev.pwr.tick) (hp : s.pending = []) :
    exec .bootWatchdog s = .next { s with dev := s.dev.bootFail 7 5 } :=
  exec_dev rfl (by exact if_pos (by rw [hl, hr, hb, hc, hp, Nat.ble_since_of_le ht]; rfl))

/-- A write of BOOT_COMPLETE that waits in the same tick wins (R80). -/
theorem exec_bootWatchdog_of_write (h : InStage s.dev 7) (ht : (KMap.find s.dev.boot.stageTicks 7).isSome = true)
    (hp : .bootCompleteWrite false ∈ s.pending) : exec .bootWatchdog s = .next s :=
  exec_dev rfl (by
    have hdone : s.dev.completeBoot.boot.complete = true := by
      rw [Dev.completeBoot, if_pos (by rw [inStage_of h, ht]; rfl)]
    have hwrites : s.pending.any s.dev.writesComplete = true := List.any_eq_true.mpr ⟨_, hp, hdone⟩
    exact if_neg (by rw [hwrites]; simp))

/-! ### A chiplet link retrains (R90) -/

theorem exec_ucieRetrain_of_repaired {c : ChipId} (hl : s.dev.live = true) (hs : 4 ≤ s.dev.boot.stage)
    (hw : s.dev.boot.width c.val ≠ 2) :
    exec (.ucieRetrain c 0) s = .next { s with dev := s.dev.bump 0x2421 (c.val + 1) 0 32 } :=
  exec_dev rfl (by
    exact (if_pos (by rw [hl, Nat.ble_eq.mpr hs, bne_iff_ne.mpr hw]; rfl)).trans (if_pos rfl))

theorem exec_ucieRetrain_of_lost {c : ChipId} {l : BitVec 4} (hl : s.dev.live = true) (hs : 4 ≤ s.dev.boot.stage)
    (hw : s.dev.boot.width c.val ≠ 2) (hn : l ≠ 0) : exec (.ucieRetrain c l) s = .next { s with
      dev := ({ s.dev.bump 0x2421 (c.val + 1) 0 32 with
        boot := { s.dev.boot with ucie := s.dev.boot.ucie.put c.val 1 } } : Dev).ucieDegrade c.val l.toNat } :=
  exec_dev rfl (by
    refine (if_pos (by rw [hl, Nat.ble_eq.mpr hs, bne_iff_ne.mpr hw]; rfl)).trans (if_neg ?_)
    rw [beq_false_of_ne hn]
    decide)

end

theorem Dev.portStart_congr {d e : Dev} (hd : e.dict = d.dict) (hp : e.pwr = d.pwr) (hb : e.boot = d.boot) (p : Nat) :
    e.portStart p = d.portStart p := by
  rw [Dev.portStart, Dev.portStart, Dev.has, Dev.has, hb, Dev.obj_congr hd (by rw [hp]) (by rw [hb])]

theorem foldl_setPort_port (g : Nat → PortState) (l : List Nat) (p : Nat) : ∀ d : Dev,
    (l.foldl (fun (d : Dev) q => d.setPort q (g q)) d).port p = if p ∈ l then g p else d.port p := by
  induction l with
  | nil => exact fun _ => rfl
  | cons a l ih =>
    intro d
    rw [List.foldl_cons, ih]
    by_cases hl : p ∈ l
    · rw [if_pos hl, if_pos (List.mem_cons_of_mem _ hl)]
    · rw [if_neg hl]
      by_cases ha : p = a
      · rw [if_pos (ha ▸ List.mem_cons_self ..), ha, Dev.port_setPort_same]
      · rw [Dev.port_setPort_other _ _ ha, if_neg (by simp [ha, hl])]

/-- Starting one port leaves what the others' start depends on. -/
theorem Dev.startPorts_eq (d : Dev) :
    d.startPorts = (List.range 6).foldl (fun (e : Dev) p => e.setPort p (d.portStart p)) d := by
  have hfold : ∀ (l : List Nat) (e : Dev), e.dict = d.dict → e.pwr = d.pwr → e.boot = d.boot →
      l.foldl (fun (e : Dev) p => e.setPort p (e.portStart p)) e = l.foldl (fun e p => e.setPort p (d.portStart p)) e := by
    intro l
    induction l with
    | nil => intro e _ _ _; rw [List.foldl_nil, List.foldl_nil]
    | cons a l ih =>
      intro e hd hp hb
      rw [List.foldl_cons, List.foldl_cons, Dev.portStart_congr hd hp hb]
      exact ih _ hd hp hb
  rw [Dev.startPorts]
  exact hfold _ d rfl rfl rfl

theorem Dev.scale_withBoot (e : Dev) (b : Boot) : ({ e with boot := b } : Dev).scale = e.scale := rfl

theorem Dev.port_congr {d e : Dev} (h : e.scale = d.scale) (p : Nat) : e.port p = d.port p := by rw [Dev.port, Dev.port, h]

theorem Dev.port_startPorts (d : Dev) (p : PortId) : d.startPorts.port p.val = d.portStart p.val := by
  rw [Dev.startPorts_eq, foldl_setPort_port, if_pos (List.mem_range.mpr p.isLt)]

theorem Dev.startPorts_frame (d : Dev) : d.startPorts = { d with scale := d.startPorts.scale } := by
  obtain ⟨x, hx⟩ : ∃ x, d.startPorts = { d with scale := x } := by
    rw [Dev.startPorts_eq]
    refine foldl_keeps (fun e : Dev => ∃ x, e = { d with scale := x }) _ (fun e p he => ?_) _ _ ⟨_, rfl⟩
    obtain ⟨x, rfl⟩ := he
    exact ⟨_, rfl⟩
  rw [hx]

/-- Opening and stamping change boot registers alone. -/
theorem Dev.openStamp_frame (d : Dev) : d.openCfg.stampStage = { d with boot := d.openCfg.stampStage.boot } := by
  unfold Dev.openCfg
  split <;> rfl

theorem Dev.openStamp_cfgOpen (d : Dev) :
    d.openCfg.stampStage.boot.cfgOpen = true ∧ d.openCfg.stampStage.boot.stage = d.boot.stage := by
  unfold Dev.openCfg
  split
  · rename_i h; exact ⟨h, rfl⟩
  · exact ⟨rfl, rfl⟩

theorem Dev.writeCfg_frame (d : Dev) (c : BootCfg) : d.writeCfg c = { d with dict := (d.writeCfg c).dict } := rfl

/-- The lock's writes and the end of its stage touch boot registers, memory and the dictionary. -/
theorem Dev.locked_frame (d : Dev) (c : BootCfg) : (d.locked c).nextStage = { d with
    dict := (d.writeCfg c).dict
    mem := d.mem.poke (c.rotBase + 2 * (d.regions - d.carve * 512)) (carveEntries (d.carve * 512))
    boot := (d.locked c).nextStage.boot } := by
  have hregions : (d.writeCfg c).regions = d.regions := by rw [Dev.writeCfg_frame]; rfl
  have hlock : ∀ (e : Dev) (n : Nat), (e.lockWith c.rotBase n).nextStage = { e with
      mem := e.mem.poke (c.rotBase + 2 * (e.regions - n * 512)) (carveEntries (n * 512))
      boot := (e.lockWith c.rotBase n).nextStage.boot } := fun _ _ => rfl
  rw [Dev.locked, hlock, hregions]
  generalize ((d.writeCfg c).lockWith c.rotBase d.carve).nextStage.boot = b
  have hcfg := d.writeCfg_frame c
  generalize d.writeCfg c = e at hcfg
  rw [hcfg]

theorem Dev.locked_obj (d : Dev) (c : BootCfg) (i : Nat) :
    (d.locked c).nextStage.obj i 0 0 = (d.writeCfg c).obj i 0 0 := by
  have hlock : ∀ (e : Dev) (n : Nat), (e.lockWith c.rotBase n).nextStage.obj i 0 0 = e.obj i 0 0 := fun e n =>
    Dev.obj_congr rfl rfl rfl i 0 0
  exact hlock _ _

theorem Dev.locked_boot (d : Dev) (c : BootCfg) : (d.locked c).nextStage.boot.lock = true ∧
    (d.locked c).nextStage.boot.stage = d.boot.stage + 1 ∧ (d.locked c).nextStage.boot.hdmGib = d.carve := ⟨rfl, rfl, rfl⟩

theorem Dev.writeCfg_obj (d : Dev) (c : BootCfg) : (d.writeCfg c).obj 0x3800 0 0 = c.rotBase ∧
    (d.writeCfg c).obj 0x3802 0 0 = c.coreMap ∧ (d.writeCfg c).obj 0x3803 0 0 = c.clearPolicy ∧
    (d.writeCfg c).obj 0x3804 0 0 = c.perturbPermit := by
  have h02 : okey 0x3800 0 0 ≠ okey 0x3802 0 0 := by decide
  have h03 : okey 0x3800 0 0 ≠ okey 0x3803 0 0 := by decide
  have h04 : okey 0x3800 0 0 ≠ okey 0x3804 0 0 := by decide
  have h23 : okey 0x3802 0 0 ≠ okey 0x3803 0 0 := by decide
  have h24 : okey 0x3802 0 0 ≠ okey 0x3804 0 0 := by decide
  have h34 : okey 0x3803 0 0 ≠ okey 0x3804 0 0 := by decide
  unfold Dev.writeCfg
  refine ⟨?_, ?_, ?_, Dev.obj_setObj_same _ _ _ _ _⟩
  · rw [Dev.obj_setObj_other _ h04, Dev.obj_setObj_other _ h03, Dev.obj_setObj_other _ h02, Dev.obj_setObj_same]
  · rw [Dev.obj_setObj_other _ h24, Dev.obj_setObj_other _ h23, Dev.obj_setObj_same]
  · rw [Dev.obj_setObj_other _ h34, Dev.obj_setObj_same]

section
variable {s : State}

theorem nexts_bootStageLock {c : BootCfg} (h : InStage s.dev 6) (hc : GoodBlock s.dev c) :
    Nexts (.bootStageLock (some c)) s fun t =>
      t.dev.boot.lock = true ∧ t.dev.boot.stage = 7 ∧ t.dev.boot.hdmGib = s.dev.carve ∧ t.dev.obj 0x3800 0 0 = c.rotBase ∧
      t.dev.obj 0x3802 0 0 = c.coreMap ∧ t.dev.obj 0x3803 0 0 = c.clearPolicy ∧ t.dev.obj 0x3804 0 0 = c.perturbPermit ∧
      (∀ a, ¬ (c.rotBase + 2 * (s.dev.regions - s.dev.carve * 512) ≤ a ∧ a < c.rotBase + 2 * s.dev.regions) →
        t.dev.mem.byte a = s.dev.mem.byte a) ∧
      (∀ i < s.dev.carve * 1024, t.dev.mem.byte (c.rotBase + 2 * (s.dev.regions - s.dev.carve * 512) + i) =
        if i % 2 = 0 then 0 else 0x40) ∧
      t = { s with dev := { s.dev with boot := t.dev.boot, mem := t.dev.mem, dict := t.dev.dict } } := by
  have hlen := carveEntries_length (s.dev.carve * 512)
  have hfit := s.dev.carve_le_regions
  have hframe := s.dev.locked_frame c
  obtain ⟨hlock, hstage, hgib⟩ := s.dev.locked_boot c
  obtain ⟨hrot, hmap, hclear, hpert⟩ := s.dev.writeCfg_obj c
  have hobj := s.dev.locked_obj c
  have hexec := exec_bootStageLock h hc
  generalize (s.dev.locked c).nextStage = d at hframe hlock hstage hgib hobj hexec
  have hsix : s.dev.boot.stage = 6 := h.2.2.2.2.1
  refine ⟨_, hexec, hlock, by rw [hstage, hsix], hgib, (hobj _).trans hrot, (hobj _).trans hmap, (hobj _).trans hclear,
    (hobj _).trans hpert, fun a ha => ?_, fun i hi => ?_, ?_⟩
  · dsimp only
    rw [hframe, Mem.byte_poke, hlen, if_neg (by omega)]
  · dsimp only
    rw [hframe, Mem.byte_poke, hlen, if_pos (by omega), Nat.add_sub_cancel_left, byteAt_carveEntries (by omega)]
  · rw [hframe]

theorem nexts_bootStageOpen (h : InStage s.dev 7) (ht : KMap.find s.dev.boot.stageTicks 7 = none)
    (hr : s.dev.pwr.linkReset = false) : Nexts .bootStageOpen s fun t =>
      t.dev.boot.cfgOpen = true ∧ t.dev.boot.stage = 7 ∧
      t = { s with dev := { s.dev with boot := t.dev.boot, scale := t.dev.scale } } ∧
      (∀ p : PortId, t.dev.port p.val = (if s.dev.boot.active.testBit (288 + p.val) = false then PortState.down
        else if s.dev.obj 0x8001 (p.val + 1) 0 = 1 then .training else .off)) := by
  have hports := s.dev.port_startPorts
  have hframe := s.dev.startPorts_frame
  have hexec := exec_bootStageOpen h ht hr
  generalize s.dev.startPorts = e at hports hframe hexec
  have hopen := e.openStamp_frame
  obtain ⟨hcfg, hstage⟩ := e.openStamp_cfgOpen
  generalize e.openCfg.stampStage = f at hopen hcfg hstage hexec
  refine ⟨_, hexec, hcfg, ?_, ?_, fun p => ?_⟩
  · rw [hstage, hframe]
    exact h.2.2.2.2.1
  · rw [hopen, hframe]
  · have hport : f.port p.val = e.port p.val := 
    Dev.port_congr ((congrArg Dev.scale hopen).trans (Dev.scale_withBoot e _)) _
    dsimp only
    rw [hport, hports, Dev.portStart, Dev.has, bitAt]
    cases s.dev.boot.active.testBit (288 + p.val) <;> simp

theorem nexts_bootCompleteWrite (h : InStage s.dev 7) (ht : (KMap.find s.dev.boot.stageTicks 7).isSome = true) :
    Nexts (.bootCompleteWrite false) s fun t =>
      t.dev.boot = { s.dev.boot with complete := true, stage := 8, count := 0, mirror := 0, attempt := false
                                     memActive := s.dev.boot.cxl != 0 } ∧
      t = { s with dev := { s.dev with boot := t.dev.boot, scout := t.dev.scout } } ∧
      (∀ a : ArrayId, (t.dev.array a.val).due = decide ((s.dev.array a.val).st = .exactOnly)) := by
  refine ⟨_, exec_bootCompleteWrite h ht, rfl, rfl, fun a => ?_⟩
  have hget := KMap.get_mapVal s.dev.scout.arrays (fun x : SArray => { x with due := x.st == .exactOnly }) a.val {} rfl
  exact (congrArg SArray.due hget).trans (by rw [beq_eq_decide]; rfl)

theorem nexts_ucieRetrain_of_lost {c : ChipId} {l : BitVec 4} (hl : s.dev.live = true) (hs : 4 ≤ s.dev.boot.stage)
    (hw : s.dev.boot.width c.val ≠ 2) (hn : l ≠ 0) : Nexts (.ucieRetrain c l) s fun t =>
      t.dev.boot.width c.val = 1 ∧
      ButReport { s.dev with boot := { s.dev.boot with ucie := t.dev.boot.ucie } } t.dev ∧ OnlyDev s t := by
  have hrep := Dev.report_rep { s.dev.bump 0x2421 (c.val + 1) 0 32 with
    boot := { s.dev.boot with ucie := s.dev.boot.ucie.put c.val 1 } }
    { code := 0x36, detail := 2 ^ c.val + l.toNat * 2 ^ (4 + 4 * c.val) + 2 ^ 20 }
  have hexec := exec_ucieRetrain_of_lost hl hs hw hn
  unfold Dev.ucieDegrade at hexec
  generalize Dev.report _ _ = d at hrep hexec
  have hboot := hrep.boot
  refine ⟨_, hexec, ?_, ?_, onlyDev_withDev s _⟩
  · dsimp only
    rw [Boot.width, hboot]
    exact KMap.get_put_same _ _ _ _
  · unfold ButReport
    dsimp only
    rw [hrep.1]
    rfl

end

/-- Settles O12: a stage that passes by its law, one that fails by what a boot failure leaves. -/
theorem bootLastStages : Obligations.BootLastStages := by
  refine ⟨fun s c h hc => ?lock, fun s o h ho => ⟨_, exec_bootStageLock_of_bad h ho, bootFails_of rfl rfl rfl 6 6⟩,
    fun s h ht hr => ?opens, fun s h ht => ?completes, fun s hl hr hb hc ht hp => ?watchdog,
    fun s h ht hp => exec_bootWatchdog_of_write h ht hp, fun s n h hlo hhi => ?trap, fun s hl => ?clear,
    fun s c hl hs hw => ?repaired, fun s c l hl hs hw hn => ?lost⟩
  case lock => exact nexts_bootStageLock h hc
  case opens => exact nexts_bootStageOpen h ht hr
  case completes => exact nexts_bootCompleteWrite h ht
  case watchdog => exact ⟨_, exec_bootWatchdog hl hr hb hc ht hp, bootFails_of rfl rfl rfl 7 5⟩
  case trap => exact ⟨_, exec_bootCompleteWrite_of_trap h hlo hhi, bootFails_of rfl rfl rfl 8 6⟩
  case clear => exact exec_dev rfl (by exact if_pos hl)
  case repaired => exact ⟨_, exec_ucieRetrain_of_repaired hl hs hw, rfl, Dev.obj_bump_same _ _ _ _ _ _⟩
  case lost => exact nexts_ucieRetrain_of_lost hl hs hw hn

end Sys2Proof.Machine

/-! ## The meter and its mirror channel (R357, R364 to R380, R388)

Every command of the die is `State.meter f`. What the hub hears of it changes mirror registers and pending conditions
alone; this is proved once for every `f`. -/

namespace Sys2Proof.Machine

open Sys2Proof.Stm

/-! ### What the hub hears -/

/-- Mirror registers and pending conditions may differ, and what the posting of their records touches. -/
def Dev.Hears (d e : Dev) : Prop :=
  ButReport { d with mirror := e.mirror, err := { d.err with board := e.err.board } } e

theorem Dev.Hears.refl (d : Dev) : d.Hears d := rfl

theorem Dev.Hears.trans {a b c : Dev} (h : a.Hears b) (h' : b.Hears c) : a.Hears c := by
  unfold Dev.Hears ButReport at *
  rw [h', h]

theorem Dev.Hears.pwr {d e : Dev} (h : d.Hears e) : e.pwr = d.pwr := by
  unfold Dev.Hears ButReport at h
  rw [h]

theorem Dev.Hears.live {d e : Dev} (h : d.Hears e) : e.live = d.live := Dev.live_congr h.pwr

theorem Dev.Rep.hears {d e : Dev} (h : d.Rep e) : d.Hears e := by
  unfold Dev.Hears ButReport
  rw [h.mirror, h.board]
  exact h.1

theorem Dev.boardSet_hears (d : Dev) (r : Rec) : d.Hears (d.boardSet r) := by
  unfold Dev.boardSet
  split
  · exact Dev.Hears.refl d
  · exact Dev.Hears.trans (by exact rfl) (Dev.report_rep _ r).hears

theorem Dev.boardClear_hears (d : Dev) (c : Nat) : d.Hears (d.boardClear c) := rfl

theorem Dev.boardSet_mirror (d : Dev) (r : Rec) : (d.boardSet r).mirror = d.mirror := by
  unfold Dev.boardSet
  split
  · rfl
  · rw [(Dev.report_rep _ r).mirror]

/-- What the hub does with one fault of the meter. -/
def Dev.meterFault (d : Dev) (f : Nat × Bool × Nat) : Dev :=
  if f.2.1 then d.boardSet { code := f.1, source := 0x88, detail := f.2.2 } else d.boardClear f.1

theorem Dev.meterFaults_nil (d : Dev) : d.meterFaults [] = d := rfl

theorem Dev.meterFaults_cons (d : Dev) (f : Nat × Bool × Nat) (l : List (Nat × Bool × Nat)) :
    d.meterFaults (f :: l) = (d.meterFault f).meterFaults l := rfl

theorem Dev.meterFault_hears (d : Dev) (f : Nat × Bool × Nat) : d.Hears (d.meterFault f) := by
  unfold Dev.meterFault
  split
  · exact d.boardSet_hears _
  · exact d.boardClear_hears _

theorem Dev.meterFault_mirror (d : Dev) (f : Nat × Bool × Nat) : (d.meterFault f).mirror = d.mirror := by
  unfold Dev.meterFault
  split
  · exact d.boardSet_mirror _
  · rfl

/-- The fault is pending while it holds; other conditions stay. -/
theorem Dev.meterFault_board (d : Dev) (f : Nat × Bool × Nat) (c : Nat) :
    (d.meterFault f).err.board.contains c = if c = f.1 then f.2.1 else d.err.board.contains c := by
  unfold Dev.meterFault
  split
  case isTrue h =>
    rw [Dev.boardSet_board]
    by_cases hc : c = f.1 <;> simp [hc, h]
  case isFalse h =>
    rw [Dev.boardClear_board]
    by_cases hc : c = f.1 <;> simp [hc, h]

theorem Dev.meterFaults_hears (d : Dev) (l : List (Nat × Bool × Nat)) : d.Hears (d.meterFaults l) := by
  induction l generalizing d with
  | nil => exact Dev.Hears.refl d
  | cons f l ih => exact (d.meterFault_hears f).trans (ih _)

theorem Dev.meterFaults_mirror (d : Dev) (l : List (Nat × Bool × Nat)) : (d.meterFaults l).mirror = d.mirror := by
  induction l generalizing d with
  | nil => rfl
  | cons f l ih => rw [Dev.meterFaults_cons, ih, Dev.meterFault_mirror]

theorem Dev.meterFaults_board_other (d : Dev) (l : List (Nat × Bool × Nat)) {c : Nat} (hc : ∀ f ∈ l, f.1 ≠ c) :
    (d.meterFaults l).err.board.contains c = d.err.board.contains c := by
  induction l generalizing d with
  | nil => rfl
  | cons f l ih =>
    rw [Dev.meterFaults_cons, ih _ (fun x hx => hc x (List.mem_cons_of_mem _ hx)), Dev.meterFault_board,
      if_neg (Ne.symm (hc f List.mem_cons_self))]

/-- Each fault of a list of distinct codes is pending exactly while it holds (R388). -/
theorem Dev.meterFaults_board (d : Dev) {l : List (Nat × Bool × Nat)} (hl : (l.map (fun f => f.1)).Nodup) :
    ∀ f ∈ l, (d.meterFaults l).err.board.contains f.1 = f.2.1 := by
  induction l generalizing d with
  | nil => exact nofun
  | cons x l ih =>
    obtain ⟨hx, hn⟩ := List.nodup_cons.mp hl
    intro f hf
    rcases List.mem_cons.mp hf with rfl | hf
    · rw [Dev.meterFaults_cons, Dev.meterFaults_board_other _ _ (fun y hy he => hx (List.mem_map.mpr ⟨y, hy, he⟩)),
        Dev.meterFault_board, if_pos rfl]
    · exact ih _ hn f hf

theorem Gnt.faults_codes (g : Gnt) : g.faults.map (fun f => f.1) = [0x44, 0x45, 0x46, 0x47] := rfl

theorem Gnt.faults_nodup (g : Gnt) : (g.faults.map (fun f => f.1)).Nodup := by
  rw [Gnt.faults_codes]
  decide

theorem Gnt.faults_ne_mirrorLost (g : Gnt) : ∀ f ∈ g.faults, f.1 ≠ 0x48 := by
  intro f hf
  have hm : f.1 ∈ g.faults.map (fun f => f.1) := List.mem_map_of_mem hf
  rw [Gnt.faults_codes] at hm
  intro he
  rw [he] at hm
  exact absurd hm (by decide)

/-! ### A message of the mirror channel -/

theorem Dev.mirrorHeard_of_dead {d : Dev} (h : d.live = false) (l : List (Nat × Bool × Nat)) : d.mirrorHeard l = d := by
  simp [Dev.mirrorHeard, h]

theorem Dev.mirrorHeard_of_live {d : Dev} (h : d.live = true) (l : List (Nat × Bool × Nat)) :
    d.mirrorHeard l =
      (({ d with mirror := { d.mirror with lastFrame := d.pwr.tick } }).boardClear 0x48).meterFaults l := if_pos h

theorem Dev.mirrorRecord_of_dead {d : Dev} (h : d.live = false) (r : JRec) : d.mirrorRecord r = d := by
  simp [Dev.mirrorRecord, h]

theorem Dev.mirrorRecord_of_live {d : Dev} (h : d.live = true) (r : JRec) :
    d.mirrorRecord r = { d with mirror := { d.mirror with lastRecord := r.bytes, recordSeq := r.seq } } := if_pos h

theorem Dev.mirrorHeard_hears (d : Dev) (l : List (Nat × Bool × Nat)) : d.Hears (d.mirrorHeard l) := by
  cases h : d.live with
  | false => rw [Dev.mirrorHeard_of_dead h]; exact Dev.Hears.refl d
  | true =>
    rw [Dev.mirrorHeard_of_live h]
    exact Dev.Hears.trans (by exact rfl) (Dev.meterFaults_hears _ l)

theorem Dev.mirrorHeard_mirror {d : Dev} (h : d.live = true) (l : List (Nat × Bool × Nat)) :
    (d.mirrorHeard l).mirror = { d.mirror with lastFrame := d.pwr.tick } := by
  rw [Dev.mirrorHeard_of_live h, Dev.meterFaults_mirror, Dev.boardClear_mirror]

theorem Dev.mirrorHeard_board {d : Dev} (h : d.live = true) (g : Gnt) :
    (∀ f ∈ g.faults, (d.mirrorHeard g.faults).err.board.contains f.1 = f.2.1) ∧
      (d.mirrorHeard g.faults).err.board.contains 0x48 = false := by
  rw [Dev.mirrorHeard_of_live h]
  refine ⟨Dev.meterFaults_board _ g.faults_nodup, ?_⟩
  rw [Dev.meterFaults_board_other _ _ g.faults_ne_mirrorLost, Dev.boardClear_board]
  simp

theorem Dev.mirrorRecord_hears (d : Dev) (r : JRec) : d.Hears (d.mirrorRecord r) := by
  unfold Dev.mirrorRecord
  split <;> exact rfl

/-! ### A change of the meter -/

/-- The records that a change newly writes. -/
def State.newRecords (s : State) (g : Gnt) : List JRec := g.journal.filter (fun r => decide (s.gnt.seq < r.seq))

/-- The hub after it heard of the newly written records. -/
def State.afterRecords (s : State) (g : Gnt) : Dev :=
  (s.newRecords g).foldl (fun (d : Dev) r => (d.mirrorHeard g.faults).mirrorRecord r) s.dev

theorem State.meter_dev (s : State) (f : Gnt → Gnt) : (s.meter f).dev =
    if (f s.gnt).faults == s.gnt.faults then s.afterRecords (f s.gnt)
    else (s.afterRecords (f s.gnt)).mirrorHeard (f s.gnt).faults := rfl

theorem State.afterRecords_hears (s : State) (g : Gnt) : s.dev.Hears (s.afterRecords g) :=
  foldl_keeps (fun e => s.dev.Hears e) _
    (fun e r he => (he.trans (e.mirrorHeard_hears _)).trans (Dev.mirrorRecord_hears _ r)) _ _ (Dev.Hears.refl _)

theorem State.afterRecords_of_dead {s : State} (h : s.dev.live = false) (g : Gnt) : s.afterRecords g = s.dev :=
  foldl_keeps (fun e => e = s.dev) _
    (fun e r he => by subst he; rw [Dev.mirrorHeard_of_dead h, Dev.mirrorRecord_of_dead h]) _ _ rfl

theorem State.newRecords_of_old {s : State} {g : Gnt} (h : ∀ r ∈ g.journal, r.seq ≤ s.gnt.seq) : s.newRecords g = [] := by
  refine List.filter_eq_nil_iff.mpr (fun r hr => ?_)
  have := h r hr
  simpa using this

theorem State.afterRecords_of_old {s : State} {g : Gnt} (h : ∀ r ∈ g.journal, r.seq ≤ s.gnt.seq) :
    s.afterRecords g = s.dev := by
  rw [State.afterRecords, State.newRecords_of_old h, List.foldl_nil]

/-- Whatever a command of the die does, the hub hears of it over the mirror channel only. -/
theorem State.meter_goes (s : State) (f : Gnt → Gnt) : MeterGoes s (s.meter f) := by
  refine ⟨State.meter_frame s f, fun hd => ?_, fun hf hj hold => ?_, fun hl hf => ?_⟩
  · rw [State.meter_dev, State.afterRecords_of_dead hd, Dev.mirrorHeard_of_dead hd, ite_self]
  · rw [State.meter_gnt] at hf hj
    rw [State.meter_dev, if_pos (by simpa using hf), State.afterRecords_of_old (by rw [hj]; exact hold)]
  · rw [State.meter_gnt] at hf ⊢
    rw [State.meter_dev, if_neg (by simpa using hf)]
    exact (Dev.mirrorHeard_board ((s.afterRecords_hears _).live.trans hl) _).1

/-- A fault that begins or ends is pending, or no more, at once. -/
theorem meterGoes_board {s t : State} (h : MeterGoes s t) (hl : s.dev.live = true) {f : Nat × Bool × Nat}
    (hf : f ∈ t.gnt.faults) (hnew : t.gnt.faults ≠ s.gnt.faults) : t.dev.err.board.contains f.1 = f.2.1 := by
  obtain ⟨-, -, -, hb⟩ := h
  exact hb hl hnew f hf

theorem meterGoes_board_overtemp {s t : State} (h : MeterGoes s t) (hl : s.dev.live = true)
    (hne : (t.gnt.mode == .overtemp) ≠ (s.gnt.mode == .overtemp)) :
    t.dev.err.board.contains 0x46 = (t.gnt.mode == .overtemp) := by
  refine meterGoes_board h hl (f := (0x46, t.gnt.mode == .overtemp, unsigned t.gnt.stopA0 64)) (by simp [Gnt.faults]) fun he => hne ?_
  have h2 := congrArg (fun l => (l.getD 2 (0, false, 0)).2.1) he
  exact h2

theorem meterGoes_board_journal {s t : State} (h : MeterGoes s t) (hl : s.dev.live = true)
    (hne : t.gnt.setFailed ≠ s.gnt.setFailed) : t.dev.err.board.contains 0x47 = t.gnt.setFailed := by
  refine meterGoes_board h hl (f := (0x47, t.gnt.setFailed, 0)) (by simp [Gnt.faults]) fun he => hne ?_
  have h3 := congrArg (fun l => (l.getD 3 (0, false, 0)).2.1) he
  exact h3

/-- A command of the die in the form that its statements have. -/
theorem nexts_meter {c : Instr} {s : State} {f : Gnt → Gnt} {P : State → Prop} (hc : exec c s = .next (s.meter f))
    (h : MeterGoes s (s.meter f) → P (s.meter f)) : Nexts c s P := ⟨_, hc, h (s.meter_goes f)⟩

/-! ### Records that wait -/

theorem Gnt.pend_startWrite (g : Gnt) : Pend g.startWrite = Pend g := Gnt.startWrite_waiting g

theorem Gnt.pend_queue (g : Gnt) (q : JReq) : Pend (g.queue q) = Pend g ++ [q] := Gnt.queue_waiting g q

theorem Gnt.pend_event (g : Gnt) (code value : Nat) : Pend (g.event code value) = Pend g ++ [g.eventReq code value] :=
  Gnt.queue_waiting g _

theorem Gnt.pend_congr {g h : Gnt} (hw : h.writing = g.writing) (hq : h.queued = g.queued) : Pend h = Pend g := by
  rw [Pend, hw, hq, Pend]

theorem Gnt.pend_queueSet {g : Gnt} (h : g.mode ≠ .overtemp) : Pend g.queueSet = Pend g ++ g.setReqs := by
  rw [Gnt.queueSet, if_neg (by simpa using h), Gnt.pend_startWrite]
  simp [Pend]

end Sys2Proof.Machine

/-! ## Samples, substitution and stops of the meter (R360 to R368, R374, R375) -/

namespace Sys2Proof.Machine

open Sys2Proof.Stm

/-! ### The accrual of one sample -/

theorem Gnt.accrue_of_overtemp {g : Gnt} (h : g.mode = .overtemp) (x : MSample) : g.accrue x =
    { g with regs := { g.regs with unmeas := g.regs.unmeas + 1 }, flagsSeen := g.flagsSeen ||| 8, goodRun := 0 } :=
  if_pos (by simp [h])

theorem Gnt.accrue_of_valid {g : Gnt} (h : g.mode ≠ .overtemp) {x : MSample} (hx : x.valid = true) : g.accrue x =
    { g with
      mode := .measuring, pendingE := g.pendingE + (g.remainder + 16 * x.num) / energyDen
      remainder := (g.remainder + 16 * x.num) % energyDen
      lastGood := if x.fresh then (x.num :: g.lastGood).take 16 else g.lastGood
      goodRun := g.goodRun + 1, window := if g.window = 0 || Nat.ble 16 (g.goodRun + 1) then 0 else g.window + 1
      regs := { g.regs with ovr := g.regs.ovr + x.ovr.toNat }
      flagsSeen := if x.ovr then g.flagsSeen ||| 4 else g.flagsSeen } :=
  (if_neg (by simpa using h)).trans (if_pos hx)

/-- Last-good power, for the first second of a run. -/
theorem Gnt.accrue_of_substituted {g : Gnt} (h : g.mode ≠ .overtemp) {x : MSample} (hx : x.valid = false)
    (hs : g.lastGood.length = 16 ∧ g.window < 16000) : g.accrue x =
    { g with
      mode := .substituting
      pendingE := g.pendingE + (g.remainder + g.lastGood.foldl (fun a b => a + b) 0) / energyDen
      remainder := (g.remainder + g.lastGood.foldl (fun a b => a + b) 0) % energyDen
      substRem := (g.substRem + g.lastGood.foldl (fun a b => a + b) 0) % energyDen
      regs := { g.regs with subst := g.regs.subst + (g.substRem + g.lastGood.foldl (fun a b => a + b) 0) / energyDen }
      window := g.window + 1, goodRun := 0, flagsSeen := g.flagsSeen ||| 16 } :=
  (if_neg (by simpa using h)).trans ((if_neg (by simp [hx])).trans (if_pos hs))

theorem Gnt.accrue_of_unmeasured {g : Gnt} (h : g.mode ≠ .overtemp) {x : MSample} (hx : x.valid = false)
    (hs : ¬ (g.lastGood.length = 16 ∧ g.window < 16000)) : g.accrue x =
    { g with
      mode := .unmeasured, regs := { g.regs with unmeas := g.regs.unmeas + 1 }
      window := g.window + 1, goodRun := 0, flagsSeen := g.flagsSeen ||| 8 } :=
  (if_neg (by simpa using h)).trans ((if_neg (by simp [hx])).trans (if_neg hs))

/-- What the accrual of a sample may change. -/
theorem Gnt.accrue_frame (g : Gnt) (x : MSample) : g.accrue x =
    { g with
      mode := (g.accrue x).mode, pendingE := (g.accrue x).pendingE, remainder := (g.accrue x).remainder
      substRem := (g.accrue x).substRem, lastGood := (g.accrue x).lastGood, goodRun := (g.accrue x).goodRun
      window := (g.accrue x).window, regs := (g.accrue x).regs, flagsSeen := (g.accrue x).flagsSeen } := by
  by_cases h : g.mode = .overtemp
  · rw [Gnt.accrue_of_overtemp h]
  · cases hx : x.valid with
    | true => rw [Gnt.accrue_of_valid h hx]
    | false =>
      by_cases hs : g.lastGood.length = 16 ∧ g.window < 16000
      · rw [Gnt.accrue_of_substituted h hx hs]
      · rw [Gnt.accrue_of_unmeasured h hx hs]

theorem Gnt.accrue_mode_of_ne {g : Gnt} (h : g.mode ≠ .overtemp) (x : MSample) : (g.accrue x).mode ≠ .overtemp := by
  cases hx : x.valid with
  | true => rw [Gnt.accrue_of_valid h hx]; simp
  | false =>
    by_cases hs : g.lastGood.length = 16 ∧ g.window < 16000
    · rw [Gnt.accrue_of_substituted h hx hs]; simp
    · rw [Gnt.accrue_of_unmeasured h hx hs]; simp

/-- Pending energy and remainder together lose nothing (R364). -/
theorem energyDen_split (p r e : Nat) :
    (p + (r + e) / energyDen) * energyDen + (r + e) % energyDen = p * energyDen + r + e := by
  have h := Nat.div_add_mod' (r + e) energyDen
  rw [Nat.add_mul]
  omega

theorem energyDen_pos : 0 < energyDen := by decide

theorem Gnt.push_of_two {g : Gnt} {a b : MSample} (h : g.delayed = [a, b]) (x : MSample) :
    g.push x = { g with delayed := [b, x] }.accrue a := by
  simp [Gnt.push, h]

theorem Gnt.push_frame (g : Gnt) (x : MSample) : g.push x =
    { g with
      mode := (g.push x).mode, pendingE := (g.push x).pendingE, remainder := (g.push x).remainder
      substRem := (g.push x).substRem, lastGood := (g.push x).lastGood, goodRun := (g.push x).goodRun
      window := (g.push x).window, regs := (g.push x).regs, flagsSeen := (g.push x).flagsSeen
      delayed := (g.push x).delayed } := by
  unfold Gnt.push
  split
  · rw [Gnt.accrue_frame]
  · rfl

theorem Gnt.push_of_overtemp {g : Gnt} (h : g.mode = .overtemp) (x : MSample) :
    (g.push x).mode = .overtemp ∧ (g.push x).pendingE = g.pendingE := by
  unfold Gnt.push
  split
  · rw [Gnt.accrue_of_overtemp (by exact h)]
    exact ⟨h, rfl⟩
  · exact ⟨h, rfl⟩

theorem Gnt.push_mode_of_ne {g : Gnt} (h : g.mode ≠ .overtemp) (x : MSample) : (g.push x).mode ≠ .overtemp := by
  unfold Gnt.push
  split
  · exact Gnt.accrue_mode_of_ne (by exact h) _
  · exact h

/-! ### An AUX conversion -/

/-- The reading that a conversion leaves: the first three after a switch are discarded. -/
def Gnt.auxTaken (g : Gnt) (a : AuxSample) : Gnt :=
  if Nat.ble 3 g.auxCount && g.settle == 0 then
    match a.input.val with
    | 0 => { g with auxGroup := g.auxGroup ++ [a.value] }
    | 1 => { g with a1 := a.value }
    | 2 => { g with a2 := a.value }
    | _ => { g with a3 := a.value }
  else g

theorem Gnt.auxTaken_frame (g : Gnt) (a : AuxSample) : ∃ l x2 x3, g.auxTaken a =
    { g with
      auxGroup := l, a2 := x2, a3 := x3
      a1 := if a.input.val = 1 ∧ 3 ≤ g.auxCount ∧ g.settle = 0 then a.value else g.a1 } := by
  unfold Gnt.auxTaken
  by_cases hok : 3 ≤ g.auxCount ∧ g.settle = 0
  · rw [if_pos (by simpa using hok)]
    split
    case h_1 h0 => rw [if_neg (by omega)]; exact ⟨_, _, _, rfl⟩
    case h_2 h1 => rw [if_pos ⟨h1, hok⟩]; exact ⟨_, _, _, rfl⟩
    case h_3 h2 => rw [if_neg (by omega)]; exact ⟨_, _, _, rfl⟩
    case h_4 h0 h1 h2 => rw [if_neg (fun hx => h1 hx.1)]; exact ⟨_, _, _, rfl⟩
  · rw [if_neg (by simpa using hok), if_neg (fun hx => hok hx.2)]
    exact ⟨_, _, _, rfl⟩

theorem Gnt.aux_of_other {g : Gnt} {a : AuxSample} (h : a.input.val ≠ g.auxMux) : g.aux a = g := if_pos h

theorem Gnt.aux_of_current {g : Gnt} {a : AuxSample} (h : a.input.val = g.auxMux) (hc : (g.auxTaken a).auxCount < 15) :
    g.aux a = { g.auxTaken a with auxCount := (g.auxTaken a).auxCount + 1 } :=
  (if_neg (fun hn => hn h)).trans (if_pos hc)

/-- A conversion before the last of its input changes the AUX readings alone (R361). -/
theorem Gnt.aux_of_partial {g : Gnt} (h : g.auxCount < 15) (a : AuxSample) : ∃ n l x2 x3, g.aux a =
    { g with
      auxCount := n, auxGroup := l, a2 := x2, a3 := x3
      a1 := if a.input.val = g.auxMux ∧ a.input.val = 1 ∧ 3 ≤ g.auxCount ∧ g.settle = 0 then a.value else g.a1 } := by
  by_cases hm : a.input.val = g.auxMux
  · obtain ⟨l, x2, x3, ht⟩ := g.auxTaken_frame a
    rw [Gnt.aux_of_current hm (by rw [ht]; exact h), ht]
    simp only [hm, true_and]
    exact ⟨_, _, _, _, rfl⟩
  · rw [Gnt.aux_of_other hm, if_neg (fun hx => hm hx.1)]
    exact ⟨_, _, _, _, rfl⟩

/-- The last conversion of A0 closes its group. -/
theorem Gnt.aux_of_last {g : Gnt} (hs : g.settle = 0) (hm : g.auxMux = 0) (hc : g.auxCount = 15) {a : AuxSample}
    (ha : a.input.val = 0) : g.aux a =
      { g with auxCount := 0, auxMux := 1, auxGroup := [] }.a0Group (groupReading (g.auxGroup ++ [a.value])) := by
  simp [Gnt.aux, ha, hm, hs, hc]

/-! ### A sample -/

/-- A sample is valid as it comes: no SETTLE, no open pair. -/
def Gnt.settled (g : Gnt) : Bool := g.settle == 0 && g.openPairs == 0

theorem Gnt.settled_iff (g : Gnt) : g.settled = true ↔ Good g := by simp [Gnt.settled, Good]

/-- The meter after the AUX conversion `h` of a sample and the sample's own filters. -/
def Gnt.filtered (g h : Gnt) (v i : BitVec 24) (vo io : Bool) : Gnt :=
  let nv := h.cal.volts (meterCode v vo)
  { h with
    lowV := if h.settle == 0 && !bitAt h.openPairs 0 && decide (nv < 2 ^ 52) then h.lowV + 1 else 0
    settle := if g.settled then h.settle else h.settle - 1
    live := if g.settled then ((nv, h.cal.amps h.a1 (meterCode i io)) :: h.live).take 16 else h.live }

/-- The sample that joins those not yet accrued. -/
def Gnt.sampled (g h : Gnt) (v i : BitVec 24) (vo io : Bool) : MSample :=
  let ok := g.settled && h.mode != .overtemp
  { num := if ok then samplePower (h.cal.volts (meterCode v vo)) (h.cal.amps h.a1 (meterCode i io)) else 0
    valid := ok, ovr := ok && (vo || io), fresh := (g.filtered h v i vo io).settle == 0 }

/-- The AUX conversion of a sample. -/
def Gnt.conversion (g : Gnt) (x : AuxSample) : Gnt := ({ g with met := g.met + 1, sinceSet := g.sinceSet + 1 } : Gnt).aux x

theorem Gnt.sample_eq {g : Gnt} (h : g.powered = true) (v i : BitVec 24) (vo io : Bool) (x : AuxSample) :
    g.sample v i vo io x =
      if 2 ≤ (g.filtered (g.conversion x) v i vo io).lowV then (g.filtered (g.conversion x) v i vo io).powerFail
      else (g.filtered (g.conversion x) v i vo io).push (g.sampled (g.conversion x) v i vo io) := by
  unfold Gnt.sample
  rw [if_neg (by simp [h])]
  rfl

/-- With no low reading before it a sample joins the others. -/
theorem Gnt.sample_of_push {g : Gnt} (h : g.powered = true) (v i : BitVec 24) (vo io : Bool) {x : AuxSample}
    (hl : (g.conversion x).lowV = 0) : g.sample v i vo io x =
      (g.filtered (g.conversion x) v i vo io).push (g.sampled (g.conversion x) v i vo io) := by
  rw [Gnt.sample_eq h, if_neg]
  unfold Gnt.filtered
  dsimp only
  split <;> omega

theorem exec_meterSample (s : State) (v i : BitVec 24) (vo io : Bool) (x : AuxSample) :
    exec (.meterSample v i vo io x) s = .next (s.meter (fun g => g.sample v i vo io x)) := rfl

/-! ### Measuring -/

/-- The sample of a settled, running meter. -/
theorem Gnt.sampled_of_good {g h : Gnt} (hg : Good g) (hm : h.mode ≠ .overtemp) (hs : h.settle = g.settle) (v i : BitVec 24)
    (vo io : Bool) : g.sampled h v i vo io =
      { num := samplePower (h.cal.volts (meterCode v vo)) (h.cal.amps h.a1 (meterCode i io)), valid := true
        ovr := vo || io, fresh := true } := by
  have hok : g.settled = true := g.settled_iff.mpr hg
  simp [Gnt.sampled, Gnt.filtered, hok, hm, hs, hg.1]

theorem Gnt.sampled_of_bad {g h : Gnt} (hbad : h.mode = .overtemp ∨ ¬ Good g) (v i : BitVec 24) (vo io : Bool) :
    g.sampled h v i vo io = { num := 0, valid := false, ovr := false, fresh := (g.filtered h v i vo io).settle == 0 } := by
  have hok : (g.settled && h.mode != .overtemp) = false := by
    rcases hbad with h | h
    · simp [h]
    · simp [Bool.eq_false_iff.mpr (fun hs => h (g.settled_iff.mp hs))]
  simp [Gnt.sampled, hok]

theorem Gnt.filtered_settle {g h : Gnt} (hs : h.settle = g.settle) (v i : BitVec 24) (vo io : Bool) :
    (g.filtered h v i vo io).settle = g.settle - 1 := by
  unfold Gnt.filtered
  dsimp only
  split
  case isTrue hok =>
    have := (g.settled_iff.mp hok).1
    omega
  case isFalse => rw [hs]

/-- The value of a1 after a conversion. -/
def Gnt.newA1 (g : Gnt) (x : AuxSample) : Int :=
  if x.input.val = g.auxMux ∧ x.input.val = 1 ∧ 3 ≤ g.auxCount ∧ g.settle = 0 then x.value else g.a1

/-- A sample before the last conversion of an input: what is counted and filtered, and the sample that joins. -/
theorem Gnt.sample_of_partial {g : Gnt} (hp : g.powered = true) (hc : g.auxCount < 15) (hl : g.lowV = 0)
    (v i : BitVec 24) (vo io : Bool) (x : AuxSample) : ∃ n l x2 x3 low live y, g.sample v i vo io x =
      ({ g with
        met := g.met + 1, sinceSet := g.sinceSet + 1, lowV := low, settle := g.settle - 1, live := live
        auxCount := n, auxGroup := l, a1 := g.newA1 x, a2 := x2, a3 := x3 } : Gnt).push y ∧
      (g.mode ≠ .overtemp → Good g → y =
        { num := samplePower (g.cal.volts (meterCode v vo)) (g.cal.amps (g.newA1 x) (meterCode i io)), valid := true
          ovr := vo || io, fresh := true }) ∧
      (g.mode = .overtemp ∨ ¬ Good g → y = { num := 0, valid := false, ovr := false, fresh := g.settle - 1 == 0 }) := by
  obtain ⟨n, l, x2, x3, hx⟩ : ∃ n l x2 x3, g.conversion x = { g with
      met := g.met + 1, sinceSet := g.sinceSet + 1, auxCount := n, auxGroup := l, a2 := x2, a3 := x3, a1 := g.newA1 x } :=
    Gnt.aux_of_partial (g := { g with met := g.met + 1, sinceSet := g.sinceSet + 1 }) hc x
  refine ⟨n, l, x2, x3, (g.filtered (g.conversion x) v i vo io).lowV, (g.filtered (g.conversion x) v i vo io).live,
    g.sampled (g.conversion x) v i vo io, (Gnt.sample_of_push hp v i vo io (by rw [hx]; exact hl)).trans ?_,
    fun hm hg => ?_, fun hbad => ?_⟩
  · have hs := Gnt.filtered_settle (g := g) (h := g.conversion x) (by rw [hx]) v i vo io
    congr 1
    rw [← hs, hx]
    rfl
  · rw [Gnt.sampled_of_good hg (by rw [hx]; exact hm) (by rw [hx]), hx]
  · rw [Gnt.sampled_of_bad (by rw [hx]; exact hbad), Gnt.filtered_settle (by rw [hx])]

/-- Settles O49: the accrual of the oldest sample, case by case. -/
theorem meterMeasures : Obligations.MeterMeasures := by
  refine ⟨fun s v i vo io x a b hp hc hl hd => ?_, fun s hp hm hw => ?_⟩
  · refine nexts_meter (exec_meterSample s v i vo io x) fun hgoes => ⟨hgoes, ?_⟩
    clear hgoes
    rw [State.meter_gnt]
    generalize s.gnt = g at *
    obtain ⟨n, l, x2, x3, low, live, y, hs, hgood, hbad⟩ := Gnt.sample_of_partial hp hc hl v i vo io x
    rw [Gnt.push_of_two (by exact hd)] at hs
    obtain ⟨k, hk⟩ : ∃ k, k = { g with
        met := g.met + 1, sinceSet := g.sinceSet + 1, lowV := low, settle := g.settle - 1, live := live, auxCount := n
        auxGroup := l, a1 := g.newA1 x, a2 := x2, a3 := x3, delayed := [b, y] } := ⟨_, rfl⟩
    replace hs : g.sample v i vo io x = k.accrue a := by rw [hs, hk]
    have ht := hs.trans (k.accrue_frame a)
    rw [← hs] at ht
    have hkm : k.mode = g.mode := by rw [hk]
    have hkl : k.lastGood = g.lastGood ∧ k.window = g.window := by rw [hk]; exact ⟨rfl, rfl⟩
    have henter : ∀ e, Enters k (g.sample v i vo io x) e → Enters g (g.sample v i vo io x) e := by
      rw [hk]
      exact fun e he => he
    refine ⟨by rw [ht, hk]; exact rfl, by rw [ht, hk], by rw [ht, hk], fun hm hg => ?_, fun hx => ?_, fun hm ha => ?_,
      fun hm ha hl16 hw => ?_, fun hm ha hno => ?_, fun hm => ?_, by rw [ht, hk]; exact rfl⟩
    · rw [ht, hk]
      exact congrArg (fun z => [b, z]) (hgood hm hg)
    · rw [ht, hk]
      exact congrArg (fun z => [b, z]) (hbad hx)
    · have hv := hs.trans (Gnt.accrue_of_valid (hkm ▸ hm) ha)
      refine ⟨by rw [hv], henter _ ?_, ?_, by rw [hv, hk], by rw [hv, hk]⟩
      · rw [hv]
        exact energyDen_split ..
      · rw [hv]
        exact Nat.mod_lt _ energyDen_pos
    · have hv := hs.trans (Gnt.accrue_of_substituted (hkm ▸ hm) ha (by rw [hkl.1, hkl.2]; exact ⟨hl16, hw⟩))
      rw [hkl.1] at hv
      refine ⟨by rw [hv], henter _ ?_, ?_, by rw [hv, hk], by rw [hv, hk]⟩
      · rw [hv]
        exact energyDen_split ..
      · rw [hv, hk]
        exact energyDen_split ..
    · have hv := hs.trans (Gnt.accrue_of_unmeasured (hkm ▸ hm) ha (by rw [hkl.1, hkl.2]; omega))
      refine ⟨by rw [hv], henter _ ?_, by rw [hv, hk]⟩
      rw [hv]
      exact (Nat.add_zero _).symm
    · have hv := hs.trans (Gnt.accrue_of_overtemp (hkm.trans hm) a)
      refine ⟨by rw [hv]; exact hkm.trans hm, henter _ ?_, by rw [hv, hk]⟩
      rw [hv]
      exact (Nat.add_zero _).symm
  · refine nexts_meter (f := Gnt.substEnd) rfl fun hgoes => ⟨hgoes, ?_⟩
    rw [State.meter_gnt, Gnt.substEnd, if_pos (by simp [hp, hm, hw])]

/-! ### Records that stand in the journal -/

theorem Gnt.written_eq_of_sign {g : Gnt} {w : JWrite} (h : w.req.kind = 5) : g.written w =
    { g with
      journal := (g.journal ++ [w.record]).drop ((g.journal ++ [w.record]).length - journalSlots), seq := w.record.seq
      lastDigest := beNat (sha384 w.record.bytes), writing := none, retried := false, saved := w.req.regs
      setNo := w.req.set, setFailed := false } := by simp only [Gnt.written, if_pos h]

theorem Gnt.written_eq_of_other {g : Gnt} {w : JWrite} (h : w.req.kind ≠ 5) : g.written w =
    { g with
      journal := (g.journal ++ [w.record]).drop ((g.journal ++ [w.record]).length - journalSlots), seq := w.record.seq
      lastDigest := beNat (sha384 w.record.bytes), writing := none, retried := false } := if_neg h

theorem Gnt.written_frame (g : Gnt) (w : JWrite) : g.written w =
    { g with
      journal := (g.written w).journal, seq := w.record.seq, lastDigest := beNat (sha384 w.record.bytes), writing := none
      retried := false, saved := (g.written w).saved, setNo := (g.written w).setNo
      setFailed := (g.written w).setFailed } := by
  by_cases h : w.req.kind = 5
  · rw [Gnt.written_eq_of_sign h]
  · rw [Gnt.written_eq_of_other h]

theorem Gnt.written_of_sign {g : Gnt} {w : JWrite} (h : w.req.kind = 5) :
    (g.written w).saved = w.req.regs ∧ (g.written w).setNo = w.req.set ∧ (g.written w).setFailed = false := by
  simp only [Gnt.written_eq_of_sign h, and_self]

theorem Gnt.written_of_other {g : Gnt} {w : JWrite} (h : w.req.kind ≠ 5) :
    (g.written w).saved = g.saved ∧ (g.written w).setNo = g.setNo := by
  simp only [Gnt.written_eq_of_other h, and_self]

theorem Gnt.written_journal (g : Gnt) (w : JWrite) :
    (g.written w).journal = (g.journal ++ [w.record]).drop (g.journal.length + 1 - journalSlots) := by
  have hlen : g.journal.length + 1 = (g.journal ++ [w.record]).length := by simp
  rw [hlen]
  by_cases h : w.req.kind = 5
  · rw [Gnt.written_eq_of_sign h]
  · rw [Gnt.written_eq_of_other h]

theorem Gnt.written_getLast (g : Gnt) (w : JWrite) : (g.written w).journal.getLast? = some w.record := by
  rw [Gnt.written_journal, List.getLast?_drop, if_neg, List.getLast?_concat]
  simp only [List.length_append, List.length_singleton, journalSlots]
  omega

theorem Gnt.mem_written_self (g : Gnt) (w : JWrite) : w.record ∈ (g.written w).journal :=
  List.mem_of_getLast? (g.written_getLast w)

/-- The ring keeps the record before the newest one. -/
theorem Gnt.mem_written_of_getLast {g : Gnt} {r : JRec} (h : g.journal.getLast? = some r) (w : JWrite) :
    r ∈ (g.written w).journal := by
  have hdrop : (g.journal ++ [w.record]).drop (g.journal.length + 1 - journalSlots) =
      g.journal.drop (g.journal.length + 1 - journalSlots) ++ [w.record] :=
    List.drop_append_of_le_length (by simp [journalSlots])
  rw [Gnt.written_journal, hdrop]
  refine List.mem_append_left _ (List.mem_of_getLast? (l := g.journal.drop _) ?_)
  have hne : g.journal.length ≠ 0 := by
    intro h0
    rw [List.eq_nil_of_length_eq_zero h0] at h
    simp at h
  rw [List.getLast?_drop, if_neg, h]
  simp only [journalSlots]
  omega

/-! ### Power loss (R374) -/

/-- The write in progress completes. -/
def Gnt.completed (g : Gnt) : Gnt :=
  match g.writing with
  | some w => g.written w
  | none => g

theorem Gnt.completed_frame (g : Gnt) : g.completed =
    { g with
      journal := g.completed.journal, seq := g.completed.seq, lastDigest := g.completed.lastDigest
      writing := g.completed.writing, retried := g.completed.retried, saved := g.completed.saved
      setNo := g.completed.setNo, setFailed := g.completed.setFailed } := by
  unfold Gnt.completed
  split
  · rw [Gnt.written_frame]
  · rfl

/-- The POWER_FAIL record of Table 19.7. -/
def Gnt.powerFailReq (g : Gnt) : JReq :=
  g.eventReq 0x02 (q3132 g.sinceSaved) (if g.mode == .overtemp then unsigned g.stopA0 64 else 0)

theorem Gnt.powerFail_eq (g : Gnt) : g.powerFail =
    { g.completed.written ⟨g.completed.powerFailReq, g.completed.make g.completed.powerFailReq⟩ with
      powered := false, queued := [], delayed := [], live := [] } := rfl

theorem Gnt.powerFail_journal (g : Gnt) : g.powerFail.journal =
    (g.completed.written ⟨g.completed.powerFailReq, g.completed.make g.completed.powerFailReq⟩).journal := by
  rw [Gnt.powerFail_eq]

theorem Gnt.powerFail_frame (g : Gnt) : g.powerFail =
    { g with
      powered := false, queued := [], delayed := [], live := [], writing := none, retried := false
      journal := g.powerFail.journal, seq := g.completed.seq + 1, lastDigest := g.powerFail.lastDigest
      saved := g.powerFail.saved, setNo := g.powerFail.setNo, setFailed := g.powerFail.setFailed } := by
  have hseq : g.completed.powerFailReq.kind ≠ 5 := by simp [Gnt.powerFailReq, Gnt.eventReq]
  have hc := g.completed_frame
  generalize hx : g.completed = x at *
  rw [Gnt.powerFail_eq, hx, Gnt.written_eq_of_other hseq]
  simp only [Gnt.make]
  rw [hc]

theorem leNat_event_value (v second : Nat) : leNat ((leBytes v 8 ++ leBytes second 8).take 8) = v % 2 ^ 64 := by
  rw [List.take_left' (by simp), leNat_leBytes]
  rfl

theorem leNat_event_second (v second : Nat) : leNat ((leBytes v 8 ++ leBytes second 8).drop 8) = second % 2 ^ 64 := by
  rw [List.drop_left' (by simp), leNat_leBytes]
  rfl

theorem q3132_mod (n : Nat) : q3132 n % 2 ^ 64 = q3132 n :=
  Nat.mod_eq_of_lt ((Nat.min_le_right n (2 ^ 63 - 1)).trans_lt (by decide))

theorem unsigned_mod (x : Int) (w : Nat) : unsigned x w % 2 ^ w = unsigned x w := by
  refine Nat.mod_eq_of_lt ?_
  have hpos : (0 : Int) < ((2 ^ w : Nat) : Int) := by exact_mod_cast Nat.two_pow_pos w
  have hlt := Int.emod_lt_of_pos x hpos
  have h0 := Int.emod_nonneg x hpos.ne'
  unfold unsigned
  omega

/-- The last record of a halted meter is its POWER_FAIL (R374). -/
theorem Gnt.powerFail_last (g : Gnt) : ∃ r, g.powerFail.journal.getLast? = some r ∧ r.kind = 3 ∧ r.code = 2 ∧
    r.seq = g.powerFail.seq ∧
    leNat (r.body.take 8) = Nat.min (g.regs.total + g.pendingE - g.powerFail.saved.total) (2 ^ 63 - 1) ∧
    (g.mode = .overtemp → leNat (r.body.drop 8) = unsigned g.stopA0 64) := by
  obtain ⟨hsaved, -⟩ := Gnt.written_of_other (g := g.completed)
    (w := ⟨g.completed.powerFailReq, g.completed.make g.completed.powerFailReq⟩) (by simp [Gnt.powerFailReq, Gnt.eventReq])
  have hbody : (g.completed.make g.completed.powerFailReq).body = leBytes (q3132 g.completed.sinceSaved) 8 ++
      leBytes (if g.completed.mode == .overtemp then unsigned g.completed.stopA0 64 else 0) 8 := rfl
  refine ⟨g.completed.make g.completed.powerFailReq, ?_, rfl, rfl, ?_, ?_, fun hm => ?_⟩
  · rw [Gnt.powerFail_journal]
    exact Gnt.written_getLast _ _
  · rw [Gnt.powerFail_frame]
    rfl
  · rw [hbody, leNat_event_value, q3132_mod, Gnt.powerFail_eq]
    dsimp only
    rw [hsaved, q3132, Gnt.sinceSaved, Gnt.completed_frame]
  · rw [hbody, leNat_event_second, Gnt.completed_frame]
    dsimp only
    rw [if_pos (by simp [hm]), unsigned_mod]

theorem Gnt.powerFail_keeps (g : Gnt) : g.powerFail.powered = false ∧ g.powerFail.queued = [] ∧
    g.powerFail.writing = none ∧ g.powerFail.regs = g.regs ∧ g.powerFail.cal = g.cal ∧ g.powerFail.audit = g.audit := by
  rw [Gnt.powerFail_frame]
  simp only [and_self]

theorem Gnt.mem_powerFail_of_writing {g : Gnt} {w : JWrite} (h : g.writing = some w) :
    w.record ∈ g.powerFail.journal := by
  have hc : g.completed = g.written w := by simp [Gnt.completed, h]
  rw [Gnt.powerFail_journal]
  exact Gnt.mem_written_of_getLast (by rw [hc]; exact g.written_getLast w) _

/-! ### The stop and the resumption (R375) -/

theorem Gnt.dropSet_frame (g : Gnt) : g.dropSet = { g with
    queued := g.queued.filter (fun q => !q.ofSet), flagsSeen := g.dropSet.flagsSeen } := by
  unfold Gnt.dropSet
  dsimp only
  split
  case isTrue => rfl
  case isFalse h =>
    have hq : g.queued.filter (fun q => !q.ofSet) = g.queued := by
      refine List.filter_eq_self.mpr (fun q hq => ?_)
      simp only [List.any_append, Bool.or_eq_true, not_or, List.any_eq_true, not_exists, not_and, Bool.not_eq_true] at h
      simp [h.2 q hq]
    rw [hq]

theorem Gnt.a0Group_of_hot {g : Gnt} {x : Int} (hm : g.mode ≠ .overtemp) (hh : 1 ≤ g.a0Hot) (hx : 2000 ≤ x) :
    g.a0Group x = { g with
      queued := g.queued.filter (fun q => !q.ofSet), flagsSeen := g.dropSet.flagsSeen, mode := .overtemp, stopA0 := x
      a0Hot := 0, a0Cool := 0 } := by
  have h : g.a0Group x = { g with a0Hot := g.a0Hot + 1, a0Cool := if x ≤ 1840 then g.a0Cool + 1 else 0 }.overtemp x := by
    unfold Gnt.a0Group
    dsimp only
    rw [if_pos hx, if_neg (by simpa using hm), if_pos (by omega)]
  have hf : ∀ m n, { g with a0Hot := m, a0Cool := n }.dropSet.flagsSeen = g.dropSet.flagsSeen := by
    intro m n
    unfold Gnt.dropSet
    dsimp only
    split <;> rfl
  rw [h, Gnt.overtemp, Gnt.dropSet_frame, hf]

theorem Gnt.a0Group_of_cool {g : Gnt} {x : Int} (hm : g.mode = .overtemp) (hc : 1 ≤ g.a0Cool) (hx : x ≤ 1840) :
    g.a0Group x = ({ g with
      a0Hot := 0, a0Cool := 0, mode := .unmeasured, sinceSet := 0, queued :=
        g.eventReq 0x09 (unsigned g.stopA0 64) :: g.eventReq 0x0A (unsigned x 64) :: g.queued } : Gnt).syncReset.startWrite := by
  unfold Gnt.a0Group
  dsimp only
  rw [if_pos hx, if_pos (by simp [hm]), if_pos (by omega)]
  rfl

/-- Two low readings of V halt the meter. -/
theorem Gnt.sample_of_low {g : Gnt} (hp : g.powered = true) (hc : g.auxCount < 15) (hg : Good g) (hl : 1 ≤ g.lowV)
    {v : BitVec 24} {vo : Bool} (hv : g.cal.volts (meterCode v vo) < 2 ^ 52) (i : BitVec 24) (io : Bool)
    (x : AuxSample) : ∃ h : Gnt, g.sample v i vo io x = h.powerFail ∧ h.writing = g.writing ∧ h.regs = g.regs ∧
      h.pendingE = g.pendingE ∧ h.mode = g.mode ∧ h.stopA0 = g.stopA0 ∧ h.cal = g.cal ∧ h.audit = g.audit := by
  obtain ⟨n, l, x2, x3, hx⟩ := Gnt.aux_of_partial (g := { g with met := g.met + 1, sinceSet := g.sinceSet + 1 }) hc x
  replace hx : g.conversion x = _ := hx
  have hlow : (g.filtered (g.conversion x) v i vo io).lowV = g.lowV + 1 := by
    unfold Gnt.filtered
    dsimp only
    rw [hx]
    dsimp only
    rw [hg.1, hg.2, decide_eq_true hv]
    rfl
  rw [Gnt.sample_eq hp, if_pos (by omega)]
  refine ⟨_, rfl, ?_⟩
  unfold Gnt.filtered
  dsimp only
  rw [hx]
  simp only [and_self]

theorem Gnt.filtered_frame (g h : Gnt) (v i : BitVec 24) (vo io : Bool) : g.filtered h v i vo io =
    { h with
      lowV := (g.filtered h v i vo io).lowV, settle := (g.filtered h v i vo io).settle
      live := (g.filtered h v i vo io).live } := rfl

/-- Neither the filters nor the accrual of a sample touches these. -/
theorem Gnt.push_filtered_keeps (g h : Gnt) (v i : BitVec 24) (vo io : Bool) (y : MSample) :
    ((g.filtered h v i vo io).push y).stopA0 = h.stopA0 ∧ ((g.filtered h v i vo io).push y).queued = h.queued ∧
      ((g.filtered h v i vo io).push y).writing = h.writing ∧ ((g.filtered h v i vo io).push y).auxMux = h.auxMux ∧
      ((g.filtered h v i vo io).push y).auxCount = h.auxCount ∧ ((g.filtered h v i vo io).push y).sinceSet = h.sinceSet ∧
      ((g.filtered h v i vo io).push y).settle = (g.filtered h v i vo io).settle := by
  rw [Gnt.push_frame, Gnt.filtered_frame]
  simp only [and_self]

/-- The last conversion of a hot second group stops measuring. -/
theorem Gnt.conversion_of_hot {g : Gnt} (hs : g.settle = 0) {x : AuxSample} (h0 : x.input.val = 0) (hm : g.auxMux = 0)
    (hc : g.auxCount = 15) (hmode : g.mode ≠ .overtemp) (hhot : 1 ≤ g.a0Hot)
    (hr : 2000 ≤ groupReading (g.auxGroup ++ [x.value])) : ∃ fl, g.conversion x =
      { g with
        met := g.met + 1, sinceSet := g.sinceSet + 1, auxCount := 0, auxMux := 1, auxGroup := []
        queued := g.queued.filter (fun q => !q.ofSet), flagsSeen := fl, mode := .overtemp
        stopA0 := groupReading (g.auxGroup ++ [x.value]), a0Hot := 0, a0Cool := 0 } :=
  ⟨_, (Gnt.aux_of_last (g := { g with met := g.met + 1, sinceSet := g.sinceSet + 1 }) hs hm hc h0).trans
    (Gnt.a0Group_of_hot (by exact hmode) (by exact hhot) hr)⟩

/-- The last conversion of a cool second group ends the stop. -/
theorem Gnt.conversion_of_cool {g : Gnt} (hs : g.settle = 0) {x : AuxSample} (h0 : x.input.val = 0) (hm : g.auxMux = 0)
    (hc : g.auxCount = 15) (hmode : g.mode = .overtemp) (hcool : 1 ≤ g.a0Cool)
    (hr : groupReading (g.auxGroup ++ [x.value]) ≤ 1840) : g.conversion x =
      ({ g with
        met := g.met + 1, auxCount := 0, auxMux := 1, auxGroup := [], a0Hot := 0, a0Cool := 0, mode := .unmeasured
        sinceSet := 0
        queued := g.eventReq 0x09 (unsigned g.stopA0 64) ::
          g.eventReq 0x0A (unsigned (groupReading (g.auxGroup ++ [x.value])) 64) :: g.queued } : Gnt).syncReset.startWrite :=
  (Gnt.aux_of_last (g := { g with met := g.met + 1, sinceSet := g.sinceSet + 1 }) hs hm hc h0).trans
    (Gnt.a0Group_of_cool (by exact hmode) (by exact hcool) hr)

/-- Settles O50: power loss, the stop and the resumption. -/
theorem meterStops : Obligations.MeterStops := by
  refine ⟨fun s v i vo io x hp hc hg hl hv => ?_, fun s v i vo io x hp hs h0 hm hc hl hmode hhot hr => ?_,
    fun s v i vo io x hp hs h0 hm hc hl hmode hcool hr hw => ?_, fun s q hp hmode hw => ?_⟩
  · obtain ⟨h, hs, hwr, hregs, hpend, hmode, hstop, hcal, haud⟩ := Gnt.sample_of_low hp hc hg hl hv i io x
    refine nexts_meter (exec_meterSample s v i vo io x) fun _ => ⟨State.meter_frame s _, ?_⟩
    rw [State.meter_gnt, hs, ← hwr, ← hregs, ← hpend, ← hmode, ← hstop, ← hcal, ← haud]
    obtain ⟨hoff, hq, hn, kregs, kcal, kaud⟩ := h.powerFail_keeps
    exact ⟨hoff, hq, hn, fun w => Gnt.mem_powerFail_of_writing, h.powerFail_last, kregs, kcal, kaud⟩
  · refine nexts_meter (exec_meterSample s v i vo io x) fun hgoes => ?_
    have hboard := fun hlive => meterGoes_board_overtemp hgoes hlive
    refine ⟨hgoes, ?_⟩
    rw [State.meter_gnt] at hboard ⊢
    obtain ⟨fl, hx⟩ := Gnt.conversion_of_hot hs h0 hm hc hmode hhot hr
    have hsample := Gnt.sample_of_push hp v i vo io (x := x) (by rw [hx]; exact hl)
    obtain ⟨hot, hpend⟩ := Gnt.push_of_overtemp (g := s.gnt.filtered (s.gnt.conversion x) v i vo io)
      (by rw [Gnt.filtered_frame, hx]) (s.gnt.sampled (s.gnt.conversion x) v i vo io)
    obtain ⟨kstop, kq, kw, kmux, kcount, -⟩ := s.gnt.push_filtered_keeps (s.gnt.conversion x) v i vo io
      (s.gnt.sampled (s.gnt.conversion x) v i vo io)
    rw [← hsample] at hot hpend kstop kq kw kmux kcount
    refine ⟨hot, by rw [kstop, hx], by rw [hpend, Gnt.filtered_frame, hx], by rw [kq, hx], by rw [kw, hx],
      by rw [kmux, hx], by rw [kcount, hx], fun hlive => ?_⟩
    rw [hboard hlive (by simp [hot, hmode]), hot]
    rfl
  · refine nexts_meter (exec_meterSample s v i vo io x) fun hgoes => ?_
    have hboard := fun hlive => meterGoes_board_overtemp hgoes hlive
    refine ⟨hgoes, ?_⟩
    rw [State.meter_gnt] at hboard ⊢
    have hx := Gnt.conversion_of_cool hs h0 hm hc hmode hcool hr
    have hsample := Gnt.sample_of_push hp v i vo io (x := x) (by rw [hx, Gnt.startWrite_lowV]; exact hl)
    have hne := Gnt.push_mode_of_ne (g := s.gnt.filtered (s.gnt.conversion x) v i vo io)
      (by rw [Gnt.filtered_frame, hx, Gnt.startWrite_mode]; exact nofun) (s.gnt.sampled (s.gnt.conversion x) v i vo io)
    obtain ⟨-, kq, kw, -, -, ksince, kset⟩ := s.gnt.push_filtered_keeps (s.gnt.conversion x) v i vo io
      (s.gnt.sampled (s.gnt.conversion x) v i vo io)
    rw [← hsample] at hne kq kw ksince kset
    refine ⟨hne, ?_, ?_, fun hg => ?_, fun hlive => ?_⟩
    · rw [Gnt.pend_congr kw kq, hx, Gnt.pend_startWrite, Pend]
      simp [Gnt.syncReset, hw]
    · rw [ksince, hx, Gnt.startWrite_sinceSet, Gnt.syncReset_frame]
    · rw [kset, Gnt.filtered, if_pos (s.gnt.settled_iff.mpr hg), hx, Gnt.startWrite_settle, Gnt.syncReset_frame]
    · rw [hboard hlive (by simp [hne, hmode])]
      simpa using hne
  · unfold Gnt.queue Gnt.startWrite
    dsimp only
    split
    · rw [if_pos (by simp [hmode])]
    · rfl

end Sys2Proof.Machine

/-! ## Breaks, power-up, watchdog and seal of the meter (R366, R368, R373, R376, R377) -/

namespace Sys2Proof.Machine

open Sys2Proof.Stm

/-- What the writing of an EVENT record may change. -/
theorem Gnt.event_frame (g : Gnt) (code value : Nat) : g.event code value =
    { g with
      writing := (g.event code value).writing, queued := (g.event code value).queued
      retried := (g.event code value).retried } := by
  unfold Gnt.event Gnt.queue
  rw [Gnt.startWrite_frame]

theorem Gnt.eventReq_congr {g h : Gnt} (hf : h.flagsSeen = g.flagsSeen) (code value : Nat) (second : Nat := 0) :
    h.eventReq code value second = g.eventReq code value second := by
  rw [Gnt.eventReq, hf, Gnt.eventReq]

/-! ### The seal -/

/-- The cover sensor reads (R377). -/
def Gnt.coverReads (g : Gnt) (cover : Bool) : Gnt :=
  if cover == g.coverOpen then g else { g with coverOpen := cover }.event (if cover then 0x05 else 0x06) 0

/-- The trace sensor reads (R377). -/
def Gnt.traceReads (g : Gnt) (trace : Bool) : Gnt :=
  if trace == g.traceBroken then g else { g with traceBroken := trace }.event (if trace then 0x07 else 0x08) 0

theorem Gnt.seal_eq (g : Gnt) (cover trace : Bool) : g.seal cover trace = (g.coverReads cover).traceReads trace := rfl

theorem Gnt.coverReads_same (g : Gnt) : g.coverReads g.coverOpen = g := if_pos (by simp)

theorem Gnt.traceReads_same (g : Gnt) : g.traceReads g.traceBroken = g := if_pos (by simp)

theorem Gnt.coverReads_frame (g : Gnt) (b : Bool) : g.coverReads b =
    { g with
      coverOpen := b, writing := (g.coverReads b).writing, queued := (g.coverReads b).queued
      retried := (g.coverReads b).retried } := by
  unfold Gnt.coverReads
  split
  case isTrue hc => rw [beq_iff_eq.mp hc]
  case isFalse => rw [Gnt.event_frame]

theorem Gnt.traceReads_frame (g : Gnt) (b : Bool) : g.traceReads b =
    { g with
      traceBroken := b, writing := (g.traceReads b).writing, queued := (g.traceReads b).queued
      retried := (g.traceReads b).retried } := by
  unfold Gnt.traceReads
  split
  case isTrue hc => rw [beq_iff_eq.mp hc]
  case isFalse => rw [Gnt.event_frame]

/-- An EVENT record for a change, none otherwise. -/
theorem Gnt.coverReads_pend (g : Gnt) (b : Bool) : Pend (g.coverReads b) = Pend g ++
    (if b == g.coverOpen then [] else [g.eventReq (if b then 0x05 else 0x06) 0]) := by
  unfold Gnt.coverReads
  split
  · simp
  · exact Gnt.pend_event _ _ _

theorem Gnt.traceReads_pend (g : Gnt) (b : Bool) : Pend (g.traceReads b) = Pend g ++
    (if b == g.traceBroken then [] else [g.eventReq (if b then 0x07 else 0x08) 0]) := by
  unfold Gnt.traceReads
  split
  · simp
  · exact Gnt.pend_event _ _ _

/-- What the reading of both sensors may change. -/
theorem Gnt.seal_frame (g : Gnt) (cover trace : Bool) : g.seal cover trace =
    { g with
      coverOpen := cover, traceBroken := trace, writing := (g.seal cover trace).writing
      queued := (g.seal cover trace).queued, retried := (g.seal cover trace).retried } := by
  have h := (g.coverReads cover).traceReads_frame trace
  rw [Gnt.seal_eq]
  generalize (g.coverReads cover).traceReads trace = k at *
  rw [h, g.coverReads_frame]

/-- The seal's records come after those that wait. -/
theorem Gnt.seal_pend (g : Gnt) (cover trace : Bool) : ∃ l, Pend (g.seal cover trace) = Pend g ++ l := by
  rw [Gnt.seal_eq, Gnt.traceReads_pend, Gnt.coverReads_pend, List.append_assoc]
  exact ⟨_, rfl⟩

/-! ### The settling theorem -/

/-- Samples not yet accrued lose their value. -/
def MSample.voided (x : MSample) : MSample := { x with num := 0, valid := false, ovr := false }

theorem Gnt.senseOpen_eq {g : Gnt} {p : Fin 2} (hp : g.powered = true) (hb : g.openPairs.testBit p.val = false) :
    g.senseOpen p = ({ g with
      openPairs := g.openPairs + 2 ^ p.val, delayed := g.delayed.map MSample.voided, mode := g.invalidMode } : Gnt).event
        0x03 p.val :=
  if_neg (by simp [hp, bitAt, hb])

theorem Gnt.senseClosed_eq {g : Gnt} {p : Fin 2} (hp : g.powered = true) (hb : g.openPairs.testBit p.val = true) :
    ∃ m d, g.senseClosed p = ({ g with
      openPairs := g.openPairs - 2 ^ p.val, regs := { g.regs with breaks := Nat.min (g.regs.breaks + 1) (2 ^ 32 - 1) }
      settle := 3, lastGood := [], mode := m, delayed := d } : Gnt).event 0x04 p.val :=
  ⟨_, _, if_pos (by simp [hp, bitAt, hb])⟩

/-- The meter as it powers up, before its first record. -/
theorem Gnt.powerUp_eq {g : Gnt} (hp : g.powered = false) (cover trace : Bool) : ∃ (d : List MSample) (k : Gnt),
    g.powerUp cover trace = (k.event 0x01 (Nat.min (g.saved.powerUps + 1) (2 ^ 32 - 1))).seal cover trace ∧ k = { g with
      powered := true, mode := .unmeasured
      regs := { g.restored with powerUps := Nat.min (g.saved.powerUps + 1) (2 ^ 32 - 1) }, pendingE := 0, remainder := 0
      substRem := 0, testNow := false, window := 0, goodRun := 0, openPairs := 0, lowV := 0, a0Hot := 0, a0Cool := 0
      auxMux := 0, auxCount := 0, auxGroup := [], delayed := d, writing := none, queued := [], retried := false
      setFailed := false, sinceSet := 0, flagsSeen := 0, lastReport := none, live := [], settle := 3
      lastGood := [] } :=
  ⟨_, _, if_neg (by simp [hp]), rfl⟩

theorem lastPowerFail_of_fail {l : List JRec} {r : JRec} (h : l.getLast? = some r) (hk : r.kind = 3) (hc : r.code = 2) :
    lastPowerFail l.reverse = some (leNat (r.body.take 8)) := by
  obtain ⟨k, rfl⟩ := List.getLast?_eq_some_iff.mp h
  rw [List.reverse_concat, lastPowerFail, if_neg (by omega), if_pos ⟨hk, hc⟩]

theorem lastPowerFail_of_sign {l : List JRec} {r : JRec} (h : l.getLast? = some r) (hk : r.kind = 5) :
    lastPowerFail l.reverse = none := by
  obtain ⟨k, rfl⟩ := List.getLast?_eq_some_iff.mp h
  rw [List.reverse_concat, lastPowerFail, if_pos hk]

/-- Samples not yet accrued after the watchdog's restart. -/
def Gnt.restartedSamples (g : Gnt) : List MSample := (g.delayed.map MSample.voided).map (fun x => { x with fresh := false })

theorem Gnt.restartedSamples_invalid (g : Gnt) : ∀ x ∈ g.restartedSamples, x.valid = false := by
  intro x hx
  obtain ⟨y, hy, rfl⟩ := List.mem_map.mp hx
  obtain ⟨z, -, rfl⟩ := List.mem_map.mp hy
  rfl

/-- The watchdog's restart when the registers check. -/
theorem Gnt.watchdog_of_ok {g : Gnt} (hp : g.powered = true) : ∃ m, g.watchdog true =
    ({ g with
      regs := { g.regs with watchdogs := Nat.min (g.regs.watchdogs + 1) (2 ^ 32 - 1) }, settle := 3, lastGood := []
      delayed := g.restartedSamples, mode := m } : Gnt).event 0x0B (Nat.min (g.regs.watchdogs + 1) (2 ^ 32 - 1)) :=
  ⟨_, if_neg (by simp [hp])⟩

/-- The watchdog's restart when they do not: the latest set is restored. -/
theorem Gnt.watchdog_of_lost {g : Gnt} (hp : g.powered = true) : ∃ m, g.watchdog false =
    ({ g with
      regs := { g.restored with watchdogs := Nat.min (g.saved.watchdogs + 1) (2 ^ 32 - 1) }, pendingE := 0, remainder := 0
      substRem := 0, settle := 3, lastGood := [], delayed := g.restartedSamples, mode := m } : Gnt).event 0x0B
        (Nat.min (g.saved.watchdogs + 1) (2 ^ 32 - 1)) :=
  ⟨_, if_neg (by simp [hp])⟩

theorem exec_senseOpenDetect (s : State) (p : Fin 2) :
    exec (.senseOpenDetect p) s = .next (s.meter (fun g => g.senseOpen p)) := rfl

theorem exec_senseClosed (s : State) (p : Fin 2) :
    exec (.senseClosed p) s = .next (s.meter (fun g => g.senseClosed p)) := rfl

theorem exec_meterPowerUp {s : State} (h : s.dev.pwr.v54 = true) (cover trace : Bool) :
    exec (.meterPowerUp cover trace) s = .next (s.meter (fun g => g.powerUp cover trace)) := if_pos h

theorem exec_meterWatchdog (s : State) (ok : Bool) :
    exec (.meterWatchdog ok) s = .next (s.meter (fun g => g.watchdog ok)) := rfl

theorem exec_coverSwitchChange (s : State) (c : SealChange) :
    exec (.coverSwitchChange c) s = .next (s.meter (fun g => g.sealChange c)) := rfl

/-- A change of the seal reads one sensor and leaves the other. -/
theorem Gnt.sealChange_eq {g : Gnt} (hp : g.powered = true) (c : SealChange) : g.sealChange c = (match c with
    | .coverOpen => g.coverReads true
    | .coverClosed => g.coverReads false
    | .traceBroken => g.traceReads true
    | .traceIntact => g.traceReads false) := by
  have hcover : ∀ b, g.seal b g.traceBroken = g.coverReads b := by
    intro b
    have h := (g.coverReads b).traceReads_same
    rw [g.coverReads_frame] at h
    rw [Gnt.seal_eq, g.coverReads_frame]
    exact h
  have htrace : ∀ b, g.seal g.coverOpen b = g.traceReads b := fun b => by rw [Gnt.seal_eq, Gnt.coverReads_same]
  refine (if_neg (by simp [hp])).trans ?_
  cases c
  case coverOpen => exact hcover true
  case coverClosed => exact hcover false
  case traceBroken => exact htrace true
  case traceIntact => exact htrace false

/-- Settles O51: breaks, power-up, watchdog and seal, each through its equation. -/
theorem meterBreaksAndRestarts : Obligations.MeterBreaksAndRestarts := by
  refine ⟨fun s p hp hb => ?_, fun s p hp hb => ?_, fun s c t hv => if_neg (by simp [hv]), fun s c t hv hp => ?_,
    fun s hp => ?_, fun s hp => ?_, fun s ch c b q hp hq => ?_⟩
  · refine nexts_meter (exec_senseOpenDetect s p) fun hgoes => ⟨hgoes, ?_⟩
    rw [State.meter_gnt, Gnt.senseOpen_eq hp hb, Gnt.pend_event, Gnt.event_frame]
    refine ⟨rfl, fun x hx => ?_, List.length_map _, ?_, rfl, rfl, rfl, rfl⟩
    · obtain ⟨y, -, rfl⟩ := List.mem_map.mp hx
      rfl
    · unfold Gnt.invalidMode
      simp only [beq_iff_eq]
  · refine nexts_meter (exec_senseClosed s p) fun hgoes => ⟨hgoes, ?_⟩
    obtain ⟨m, d, he⟩ := Gnt.senseClosed_eq hp hb
    rw [State.meter_gnt, he, Gnt.pend_event, Gnt.event_frame]
    exact ⟨rfl, rfl, rfl, rfl, rfl, rfl, rfl⟩
  · refine nexts_meter (exec_meterPowerUp hv c t) fun hgoes => ⟨hgoes, ?_⟩
    obtain ⟨d, k, he, hk⟩ := Gnt.powerUp_eq hp c t
    obtain ⟨l, hl⟩ := (k.event 0x01 (Nat.min (s.gnt.saved.powerUps + 1) (2 ^ 32 - 1))).seal_pend c t
    have hempty : Pend k = [] := by rw [hk]; rfl
    have hreq : k.eventReq 0x01 (Nat.min (s.gnt.saved.powerUps + 1) (2 ^ 32 - 1)) =
        { s.gnt with flagsSeen := 0 }.eventReq 0x01 (Nat.min (s.gnt.saved.powerUps + 1) (2 ^ 32 - 1)) :=
      Gnt.eventReq_congr (by rw [hk]) _ _
    rw [Gnt.pend_event, hempty, hreq] at hl
    rw [State.meter_gnt, he, hl, Gnt.seal_frame, Gnt.event_frame, hk]
    refine ⟨rfl, rfl, rfl, rfl, rfl, rfl, rfl, rfl, rfl, rfl, rfl, rfl, rfl, rfl, fun r hr hk hc => ?_, fun r hr hk => ?_⟩
    · dsimp only [Gnt.restored]
      rw [lastPowerFail_of_fail hr hk hc]
      exact ⟨rfl, rfl⟩
    · dsimp only [Gnt.restored]
      rw [lastPowerFail_of_sign hr hk]
      exact ⟨rfl, rfl⟩
  · refine nexts_meter (exec_meterWatchdog s true) fun hgoes => ⟨hgoes, ?_⟩
    obtain ⟨m, he⟩ := Gnt.watchdog_of_ok hp
    rw [State.meter_gnt, he, Gnt.pend_event, Gnt.event_frame]
    exact ⟨rfl, rfl, rfl, s.gnt.restartedSamples_invalid, rfl, rfl⟩
  · refine nexts_meter (exec_meterWatchdog s false) fun hgoes => ⟨hgoes, ?_⟩
    obtain ⟨m, he⟩ := Gnt.watchdog_of_lost hp
    rw [State.meter_gnt, he, Gnt.pend_event, Gnt.event_frame]
    exact ⟨rfl, rfl, rfl, rfl⟩
  · refine nexts_meter (exec_coverSwitchChange s ch) fun hgoes => ⟨hgoes, ?_⟩
    rw [State.meter_gnt, Gnt.sealChange_eq hp]
    have hcover : ∀ b', q = (if b' == s.gnt.coverOpen then [] else [s.gnt.eventReq (if b' then 0x05 else 0x06) 0]) →
        Pend (s.gnt.coverReads b') = Pend s.gnt ++ q := fun b' h => h ▸ s.gnt.coverReads_pend b'
    have htrace : ∀ b', q = (if b' == s.gnt.traceBroken then [] else [s.gnt.eventReq (if b' then 0x07 else 0x08) 0]) →
        Pend (s.gnt.traceReads b') = Pend s.gnt ++ q := fun b' h => h ▸ s.gnt.traceReads_pend b'
    cases ch with
    | coverOpen =>
      obtain ⟨rfl, rfl, rfl⟩ := by simpa using hq
      have hpend := hcover true (by cases s.gnt.coverOpen <;> rfl)
      dsimp only
      rw [hpend, Gnt.coverReads_frame]
      exact ⟨rfl, rfl, rfl, rfl, rfl, rfl⟩
    | coverClosed =>
      obtain ⟨rfl, rfl, rfl⟩ := by simpa using hq
      have hpend := hcover false (by cases s.gnt.coverOpen <;> rfl)
      dsimp only
      rw [hpend, Gnt.coverReads_frame]
      exact ⟨rfl, rfl, rfl, rfl, rfl, rfl⟩
    | traceBroken =>
      obtain ⟨rfl, rfl, rfl⟩ := by simpa using hq
      have hpend := htrace true (by cases s.gnt.traceBroken <;> rfl)
      dsimp only
      rw [hpend, Gnt.traceReads_frame]
      exact ⟨rfl, rfl, rfl, rfl, rfl, rfl⟩
    | traceIntact =>
      obtain ⟨rfl, rfl, rfl⟩ := by simpa using hq
      have hpend := htrace false (by cases s.gnt.traceBroken <;> rfl)
      dsimp only
      rw [hpend, Gnt.traceReads_frame]
      exact ⟨rfl, rfl, rfl, rfl, rfl, rfl⟩

end Sys2Proof.Machine

/-! ## The journal and the meter port (R371, R372, R378, R379, Table 19.5) -/

namespace Sys2Proof.Machine

open Sys2Proof.Stm

/-! ### The start of a write -/

theorem Gnt.startWrite_of_busy {g : Gnt} (h : g.writing ≠ none) : g.startWrite = g := by
  unfold Gnt.startWrite
  split
  case h_1 hw _ => exact absurd hw h
  case h_2 => rfl

/-- A write that starts is made from the chain's end. -/
theorem Gnt.startWrite_made {g : Gnt} (h : g.writing = none) {w : JWrite} (hw : g.startWrite.writing = some w) :
    w.record = g.make w.req := by
  unfold Gnt.startWrite at hw
  split at hw
  · split at hw
    · rw [h] at hw
      exact absurd hw nofun
    · obtain rfl := Option.some.inj hw
      rfl
  · rw [h] at hw
    exact absurd hw nofun

theorem Gnt.startWrite_first {g : Gnt} (h : g.writing = none) (hm : g.mode ≠ .overtemp) {q : JReq} {l : List JReq}
    (hq : g.queued = q :: l) : g.startWrite.writing = some ⟨q, g.make q⟩ := by
  simp [Gnt.startWrite, h, hq, hm]

theorem Gnt.make_madeOf (g : Gnt) (q : JReq) : MadeOf g q (g.make q) :=
  ⟨rfl, rfl, rfl, rfl, rfl, rfl, rfl, fun h => if_neg h⟩

theorem madeOf_congr {g h : Gnt} {q : JReq} {r : JRec} (hs : h.seq = g.seq) (hm : h.met = g.met) (ha : h.audit = g.audit)
    (hl : h.lastDigest = g.lastDigest) (hr : MadeOf g q r) : MadeOf h q r := by
  unfold MadeOf at *
  rw [hs, hm, ha, hl]
  exact hr

/-! ### A set -/

theorem Gnt.queueSet_frame (g : Gnt) : g.queueSet =
    { g with
      writing := g.queueSet.writing, queued := g.queueSet.queued, retried := g.queueSet.retried
      flagsSeen := g.queueSet.flagsSeen } := by
  unfold Gnt.queueSet
  split
  · rfl
  · rw [Gnt.startWrite_frame]

theorem Gnt.queueSet_of_overtemp {g : Gnt} (h : g.mode = .overtemp) : g.queueSet = g := if_pos (by simp [h])

theorem Gnt.setReqs_kinds (g : Gnt) : g.setReqs.map (fun q => (q.kind, q.code)) =
    [(1, 0), (2, 0), (2, 20), (2, 40), (2, 60), (5, 0)] := rfl

theorem Gnt.setReqs_set (g : Gnt) : ∀ q ∈ g.setReqs, q.set = (g.setNo + 1) % 2 ^ 32 := by
  intro q hq
  simp only [Gnt.setReqs, List.mem_cons, List.not_mem_nil, or_false] at hq
  rcases hq with rfl | rfl | rfl | rfl | rfl | rfl <;> rfl

theorem Gnt.setReqs_last (g : Gnt) (l : List JReq) : (l ++ g.setReqs).getLast?.map (fun q => q.regs) = some g.regs := by
  rw [List.getLast?_append]
  rfl

/-- The first record of a set, alone in the queue, starts at once. -/
theorem Gnt.queueSet_first {g : Gnt} (hm : g.mode ≠ .overtemp) (hp : Pend g = []) : ∃ w, g.queueSet.writing = some w ∧
    w.req.kind = 1 ∧ MadeOf g w.req w.record := by
  obtain ⟨hw, hq⟩ := List.append_eq_nil_iff.mp hp
  have hnone : g.writing = none := by
    cases h : g.writing with
    | none => rfl
    | some w => simp [h] at hw
  rw [Gnt.queueSet, if_neg (by simpa using hm)]
  refine ⟨_, Gnt.startWrite_first (g := { g with queued := g.queued ++ g.setReqs, flagsSeen := 0 }) hnone hm
    (by simp only [hq]; exact rfl), rfl, ?_⟩
  exact madeOf_congr rfl rfl rfl rfl (Gnt.make_madeOf { g with queued := g.queued ++ g.setReqs, flagsSeen := 0 } _)

/-! ### The bytes of records and answers -/

theorem crc32_lt (bs : List Byte) : crc32 bs < 2 ^ 32 :=
  Nat.xor_lt_two_pow (foldl_keeps (fun c => c < 2 ^ 32) _ (fun _ b h => crcByte_lt (by norm_num) h b) _ _ (by norm_num))
    (by norm_num)

theorem JRec.front_length (r : JRec) : r.front.length = 252 := by
  simp only [JRec.front, List.length_append, leBytes_length, beBytes_length, List.length_take, List.length_replicate]
  omega

theorem JRec.bytes_length (r : JRec) : r.bytes.length = 256 := by
  rw [JRec.bytes, List.length_append, JRec.front_length, leBytes_length]

theorem JRec.bytes_take (r : JRec) : r.bytes.take 252 = r.front := List.take_left' r.front_length

theorem JRec.bytes_crc (r : JRec) : leNat (r.bytes.drop 252) = crc32 r.front := by
  rw [JRec.bytes, List.drop_left' r.front_length, leNat_leBytes]
  exact Nat.mod_eq_of_lt (crc32_lt _)

theorem Gnt.liveValues_length (g : Gnt) : g.liveValues.length = 3 := by
  unfold Gnt.liveValues
  dsimp only
  split <;> rfl

/-- The bytes of the live values. -/
def Gnt.liveHead (g : Gnt) : List Byte := g.liveValues.flatMap (fun x => leBytes (unsigned x 32) 4)

theorem Gnt.liveHead_length (g : Gnt) : g.liveHead.length = 12 := by
  simp [Gnt.liveHead, List.length_flatMap, Gnt.liveValues_length]

/-- A field of an answer reads back at its place. -/
theorem leNat_field {b a rest : List Byte} {v n k : Nat} (hb : b = a ++ (leBytes v n ++ rest)) (hk : a.length = k) :
    leNat ((b.drop k).take n) = v % 256 ^ n := by
  rw [hb, List.drop_left' hk, List.take_left' (by simp), leNat_leBytes]

theorem q3132_field (n : Nat) : q3132 n % 256 ^ 8 = Nat.min n (2 ^ 63 - 1) := q3132_mod n

/-- READ_LIVE's fields (R379). -/
theorem Gnt.liveAnswer_fields (g : Gnt) : g.liveAnswer.length = 64 ∧
    leNat ((g.liveAnswer.drop 12).take 8) = g.met / 16 % 2 ^ 64 ∧
    leNat ((g.liveAnswer.drop 20).take 8) = Nat.min g.regs.total (2 ^ 63 - 1) ∧
    leNat ((g.liveAnswer.drop 28).take 8) = Nat.min g.pendingE (2 ^ 63 - 1) ∧
    leNat ((g.liveAnswer.drop 36).take 4) = g.audit % 2 ^ 32 ∧ leNat ((g.liveAnswer.drop 40).take 8) = g.seq % 2 ^ 64 ∧
    g.liveAnswer.drop 48 = List.replicate 16 0 := by
  have hlen := g.liveHead_length
  have hb : g.liveAnswer = g.liveHead ++ leBytes (g.met / 16) 8 ++ leBytes (q3132 g.regs.total) 8 ++
      leBytes (q3132 g.pendingE) 8 ++ leBytes g.audit 4 ++ leBytes g.seq 8 ++ List.replicate 16 0 := rfl
  refine ⟨?_, ?_, ?_, ?_, ?_, ?_, ?_⟩
  · simp only [hb, List.length_append, leBytes_length, List.length_replicate, hlen]
  · exact leNat_field (by rw [hb]; simp only [List.append_assoc]; exact rfl) hlen
  · rw [← q3132_field g.regs.total]
    exact leNat_field (a := g.liveHead ++ leBytes (g.met / 16) 8) (by rw [hb]; simp only [List.append_assoc]; exact rfl)
      (by simp [hlen])
  · rw [← q3132_field g.pendingE]
    exact leNat_field (a := g.liveHead ++ leBytes (g.met / 16) 8 ++ leBytes (q3132 g.regs.total) 8)
      (by rw [hb]; simp only [List.append_assoc]; exact rfl)
      (by simp [hlen])
  · exact leNat_field (a := g.liveHead ++ leBytes (g.met / 16) 8 ++ leBytes (q3132 g.regs.total) 8 ++
      leBytes (q3132 g.pendingE) 8) (by rw [hb]; simp only [List.append_assoc]; exact rfl)
      (by simp [hlen])
  · exact leNat_field (a := g.liveHead ++ leBytes (g.met / 16) 8 ++ leBytes (q3132 g.regs.total) 8 ++
      leBytes (q3132 g.pendingE) 8 ++ leBytes g.audit 4) (by rw [hb]; simp only [List.append_assoc]; exact rfl)
      (by simp [hlen])
  · rw [hb]
    exact List.drop_left' (by simp [hlen])

/-! ### The port -/

theorem State.meterPort_iff (s : State) : s.meterPort = true ↔ PortAnswers s := by
  simp [State.meterPort, PortAnswers, and_assoc]

theorem State.meterAnswer_of_port {s : State} (h : PortAnswers s) (f : Gnt → List Byte) :
    s.meterAnswer f = { s with meterOut := s.meterOut ++ [f s.gnt] } := if_pos (s.meterPort_iff.mpr h)

theorem State.meterAnswer_of_silent {s : State} (h : ¬ PortAnswers s) (f : Gnt → List Byte) : s.meterAnswer f = s :=
  if_neg (fun hp => h (s.meterPort_iff.mp hp))

theorem State.meterChange_of_port {s : State} (h : PortAnswers s) (f : Gnt → Gnt × Bool) : s.meterChange f =
    { s.meter (fun g => (f g).1) with meterOut := s.meterOut ++ [[if (f s.gnt).2 then (0 : Byte) else 1]] } :=
  if_pos (s.meterPort_iff.mpr h)

theorem State.meterChange_of_silent {s : State} (h : ¬ PortAnswers s) (f : Gnt → Gnt × Bool) : s.meterChange f = s :=
  if_neg (fun hp => h (s.meterPort_iff.mp hp))

theorem Gnt.recordAnswer_of_some {g : Gnt} {n : Nat} {r : JRec} (h : g.journal.find? (fun r => r.seq == n) = some r) :
    g.recordAnswer n = r.bytes := by
  simp [Gnt.recordAnswer, h]

theorem Gnt.recordAnswer_of_none {g : Gnt} {n : Nat} (h : g.journal.find? (fun r => r.seq == n) = none) :
    g.recordAnswer n = List.replicate 256 0xFF := by
  rw [Gnt.recordAnswer, h]

theorem Gnt.recordAnswer_length (g : Gnt) (n : Nat) : (g.recordAnswer n).length = 256 := by
  cases h : g.journal.find? (fun r => r.seq == n) with
  | some r => rw [Gnt.recordAnswer_of_some h, JRec.bytes_length]
  | none => rw [Gnt.recordAnswer_of_none h, List.length_replicate]

/-! ### Changes of parameters (R378) -/

theorem Gnt.mayChange_iff (g : Gnt) (b sig : List Byte) : g.mayChange b sig = true ↔ Accepted g b sig := by
  simp only [Gnt.mayChange, Accepted, Bool.and_eq_true, decide_eq_true_eq, and_assoc]

/-- The set that follows a record of a change is that of the present registers. -/
theorem Gnt.queue_queueSet_pend {g : Gnt} (hm : g.mode ≠ .overtemp) (q : JReq) :
    Pend (g.queue q).queueSet = Pend g ++ [q] ++ g.setReqs := by
  have hreqs : (g.queue q).setReqs = g.setReqs := by
    simp only [Gnt.setReqs, Gnt.queue_setNo, Gnt.queue_flagsSeen, Gnt.queue_regs]
  rw [Gnt.pend_queueSet (by rw [Gnt.queue_mode]; exact hm), Gnt.pend_queue, hreqs]

/-- What such a change may touch beside its parameter. -/
theorem Gnt.queue_queueSet_frame (g : Gnt) (q : JReq) : (g.queue q).queueSet =
    { g with
      writing := (g.queue q).queueSet.writing, queued := (g.queue q).queueSet.queued
      retried := (g.queue q).queueSet.retried, flagsSeen := (g.queue q).queueSet.flagsSeen } := by
  have h := (g.queue q).queueSet_frame
  have hq : g.queue q = { g with
      writing := (g.queue q).writing, queued := (g.queue q).queued, retried := (g.queue q).retried } := by
    unfold Gnt.queue
    rw [Gnt.startWrite_frame]
  generalize (g.queue q).queueSet = k at *
  rw [h, hq]

theorem Gnt.writeCal_of_accepted {g : Gnt} {b sig : List Byte} {c : Cal} (hc : calOf b = some c)
    (h : Accepted g b sig) : g.writeCal b sig = ((({ g with audit := g.audit + 1, cal := c } : Gnt).queue
      { kind := 4, code := 0, flags := g.flagsSeen, body := g.cal.bytes ++ c.bytes }).queueSet.syncReset, true) := by
  simp [Gnt.writeCal, hc, (g.mayChange_iff b sig).mpr h]

theorem Gnt.writeCal_of_refused {g : Gnt} {b sig : List Byte} (h : calOf b = none ∨ ¬ Accepted g b sig) :
    g.writeCal b sig = (g, false) := by
  unfold Gnt.writeCal
  split
  case h_1 c hc =>
    refine if_neg fun hm => ?_
    rcases h with h | h
    · exact absurd (hc.symm.trans h) nofun
    · exact h ((g.mayChange_iff b sig).mp hm)
  case h_2 => rfl

theorem Gnt.writeFw_of_accepted {g : Gnt} {b sig : List Byte} (hl : b.length + sig.length ≤ 1048576)
    (h : Accepted g b sig) : g.writeFw b sig = ((({ g with
      audit := g.audit + 1, fwVersion := Config.imageVersion 2 b % 2 ^ 32 } : Gnt).queue
      { kind := 4, code := 1, flags := g.flagsSeen
        body := leBytes g.fwVersion 4 ++ leBytes (Config.imageVersion 2 b % 2 ^ 32) 4 }).queueSet, true) :=
  if_pos (by rw [(g.mayChange_iff b sig).mpr h, decide_eq_true hl]; rfl)

theorem Gnt.writeFw_of_refused {g : Gnt} {b sig : List Byte} (h : 1048576 < b.length + sig.length ∨ ¬ Accepted g b sig) :
    g.writeFw b sig = (g, false) := by
  refine if_neg fun hm => ?_
  obtain ⟨hl, hm⟩ := Bool.and_eq_true_iff.mp hm
  rcases h with h | h
  · exact absurd (of_decide_eq_true hl) (by omega)
  · exact h ((g.mayChange_iff b sig).mp hm)

/-- A refused change leaves the meter. -/
theorem State.meter_of_same (s : State) {f : Gnt → Gnt} (h : f s.gnt = s.gnt) : s.meter f = { s with dev := (s.meter f).dev } := by
  have hf := s.meter_frame f
  rw [h] at hf
  exact hf

/-! ### A record write ends -/

/-- A new record of the chain is the only one that the hub hears of. -/
theorem State.newRecords_written {s : State} {w : JWrite} (hold : ∀ r ∈ s.gnt.journal, r.seq ≤ s.gnt.seq)
    (hw : w.record.seq = s.gnt.seq + 1) : s.newRecords (s.gnt.written w) = [w.record] := by
  unfold State.newRecords
  rw [Gnt.written_journal, List.drop_append_of_le_length (by simp [journalSlots]), List.filter_append,
    List.filter_eq_nil_iff.mpr (fun r hr => by simpa using hold r (List.mem_of_mem_drop hr)), List.nil_append]
  simp [hw]

/-- The hub holds the record forwarded to it (R380). -/
theorem State.meter_mirror {s : State} (hl : s.dev.live = true) {f : Gnt → Gnt} {r : JRec}
    (hn : s.newRecords (f s.gnt) = [r]) :
    (s.meter f).dev.mirror.lastRecord = r.bytes ∧ (s.meter f).dev.mirror.recordSeq = r.seq := by
  have hlive : (s.dev.mirrorHeard (f s.gnt).faults).live = true := (Dev.mirrorHeard_hears _ _).live.trans hl
  have hafter : s.afterRecords (f s.gnt) = (s.dev.mirrorHeard (f s.gnt).faults).mirrorRecord r := by
    rw [State.afterRecords, hn, List.foldl_cons, List.foldl_nil]
  have hm : (s.afterRecords (f s.gnt)).mirror.lastRecord = r.bytes ∧ (s.afterRecords (f s.gnt)).mirror.recordSeq = r.seq := by
    rw [hafter, Dev.mirrorRecord_of_live hlive]
    exact ⟨rfl, rfl⟩
  rw [State.meter_dev]
  split
  · exact hm
  · rw [Dev.mirrorHeard_mirror ((s.afterRecords_hears _).live.trans hl)]
    exact hm

theorem Gnt.writeDone_of_verified {g : Gnt} {w : JWrite} (h : g.writing = some w) :
    g.writeDone true = (g.written w).startWrite := by
  simp [Gnt.writeDone, h]

theorem Gnt.writeDone_of_first {g : Gnt} {w : JWrite} (h : g.writing = some w) (hm : g.mode ≠ .overtemp)
    (hr : g.retried = false) : g.writeDone false = { g with retried := true } := by
  simp [Gnt.writeDone, h, hm, hr]

theorem Gnt.writeDone_of_second {g : Gnt} {w : JWrite} (h : g.writing = some w) (hm : g.mode ≠ .overtemp)
    (hr : g.retried = true) : g.writeDone false =
      { (if w.req.ofSet then g.dropSet else g) with writing := none, retried := false, setFailed := true }.startWrite := by
  simp [Gnt.writeDone, h, hm, hr]

theorem exec_journalSetDue {s : State} (hp : s.gnt.powered = true) (h : s.gnt.cal.setPeriod * 16000 ≤ s.gnt.sinceSet) :
    ∃ f, exec .journalSetDue s = .next (s.meter f) ∧ f s.gnt = { s.gnt with sinceSet := 0 }.queueSet :=
  ⟨_, rfl, if_pos (by simp [hp, h])⟩

theorem exec_journalWriteDone {s : State} (hp : s.gnt.powered = true) (b : Bool) :
    ∃ f, exec (.journalWriteDone b) s = .next (s.meter f) ∧ f s.gnt = s.gnt.writeDone b :=
  ⟨_, rfl, if_pos hp⟩

theorem pow_of_96_bytes : (256 ^ 96 : Nat) = 2 ^ 768 := by
  rw [show (256 : Nat) = 2 ^ 8 from rfl, ← pow_mul]

/-- Settles O52: sets, record writes, the answers of the port and changes of parameters. -/
theorem journalAndPort : Obligations.JournalAndPort := by
  refine ⟨fun s hp h => ?_, fun s w hp hw => ?_, fun s w hp hw hm hr => ?_, fun s w hp hw hm hr => ?_, fun s n hp => ?_,
    fun s hp => ?_, fun s hp => ?_, fun s b sig c hp hc ha hm => ?_, fun s b sig hp h => ?_,
    fun s b sig v hp hl ha hm hv => ?_, fun s b sig hp h => ?_, fun s n b sig hp => ?_⟩
  · obtain ⟨f, hf, hg⟩ := exec_journalSetDue hp h
    refine nexts_meter hf fun hgoes => ⟨hgoes, ?_⟩
    rw [State.meter_gnt, hg]
    refine ⟨by rw [Gnt.queueSet_frame], by rw [Gnt.queueSet_frame], by rw [Gnt.queueSet_frame],
      fun hm => Gnt.queueSet_of_overtemp (by exact hm), fun hm => ?_, fun hm he => ?_⟩
    · have hp : Pend { s.gnt with sinceSet := 0 }.queueSet = Pend s.gnt ++ s.gnt.setReqs := Gnt.pend_queueSet (by exact hm)
      rw [hp, List.drop_left]
      exact ⟨by rw [List.map_append, Gnt.setReqs_kinds], s.gnt.setReqs_set, s.gnt.setReqs_last _⟩
    · exact Gnt.queueSet_first (g := { s.gnt with sinceSet := 0 }) hm he
  · obtain ⟨f, hf, hg⟩ := exec_journalWriteDone hp true
    rw [Gnt.writeDone_of_verified hw] at hg
    refine nexts_meter hf fun _ => ⟨s.meter_frame f, ?_⟩
    have hnew : s.newRecords (f s.gnt) = s.newRecords (s.gnt.written w) := by
      rw [State.newRecords, hg, Gnt.startWrite_journal, State.newRecords]
    have hjournal : (f s.gnt).journal = (s.gnt.journal ++ [w.record]).drop (s.gnt.journal.length + 1 - journalSlots) := by
      rw [hg, Gnt.startWrite_journal, Gnt.written_journal]
    have hlast : (f s.gnt).journal.getLast? = some w.record := by
      rw [hg, Gnt.startWrite_journal, Gnt.written_getLast]
    rw [State.meter_gnt]
    refine ⟨hlast, ?_, ?_, fun r hr => ?_, ?_, ?_, ?_, fun hk => ?_, fun hk => ?_, fun w' hw' => ?_,
      fun hl hold hseq => State.meter_mirror hl (hnew.trans (State.newRecords_written hold hseq))⟩
    · rw [hg, Gnt.startWrite_seq, Gnt.written_frame]
    · rw [hjournal, List.length_drop, List.length_append, List.length_singleton]
      unfold journalSlots
      omega
    · rw [hjournal] at hr
      exact (List.mem_append.mp (List.mem_of_mem_drop hr)).symm.imp_left List.mem_singleton.mp
    · rw [hg, Gnt.startWrite_lastDigest, Gnt.written_frame]
    · rw [hg, Gnt.pend_startWrite, Gnt.written_frame]
      rfl
    · rw [hg, Gnt.startWrite_regs, Gnt.written_frame]
    · rw [hg, Gnt.startWrite_saved, Gnt.startWrite_setNo, Gnt.startWrite_setFailed]
      exact Gnt.written_of_sign hk
    · rw [hg, Gnt.startWrite_saved, Gnt.startWrite_setNo]
      exact Gnt.written_of_other hk
    · rw [hg] at hw' ⊢
      rw [Gnt.startWrite_made (by rw [Gnt.written_frame]) hw']
      exact madeOf_congr (Gnt.startWrite_seq _) (Gnt.startWrite_met _) (Gnt.startWrite_audit _)
        (Gnt.startWrite_lastDigest _) (Gnt.make_madeOf _ _)
  · obtain ⟨f, hf, hg⟩ := exec_journalWriteDone hp false
    refine nexts_meter hf fun hgoes => ⟨hgoes, ?_⟩
    rw [State.meter_gnt, hg, Gnt.writeDone_of_first hw hm hr]
  · obtain ⟨f, hf, hg⟩ := exec_journalWriteDone hp false
    rw [Gnt.writeDone_of_second hw hm hr] at hg
    refine nexts_meter hf fun hgoes => ?_
    have hboard := fun hlive => meterGoes_board_journal hgoes hlive
    refine ⟨hgoes, ?_⟩
    rw [State.meter_gnt, hg] at hboard ⊢
    rw [Gnt.startWrite_setFailed] at hboard ⊢
    refine ⟨rfl, ?_, ?_, fun hl hs => hboard hl (by rw [hs]; exact nofun)⟩
    · rw [Gnt.startWrite_journal]
      split
      · rw [Gnt.dropSet_frame]
      · rfl
    · rw [Gnt.pend_startWrite]
      split
      · rw [Gnt.dropSet_frame]
        rfl
      · rfl
  · refine ⟨_, congrArg Host.Outcome.next (State.meterAnswer_of_port hp _), _, rfl, s.gnt.recordAnswer_length _,
      fun h => Gnt.recordAnswer_of_none ?_, fun r h => ?_⟩
    · exact List.find?_eq_none.mpr (fun r hr => by simpa using h r hr)
    · rw [Gnt.recordAnswer_of_some h]
      exact ⟨rfl, r.bytes_take, r.bytes_crc⟩
  · exact ⟨_, congrArg Host.Outcome.next (State.meterAnswer_of_port hp _), _, rfl, s.gnt.liveAnswer_fields⟩
  · exact ⟨_, congrArg Host.Outcome.next (State.meterAnswer_of_port hp _), _, rfl, beBytes_length _ _,
      (beNat_beBytes _ _).trans (congrArg (Config.meterKey % ·) pow_of_96_bytes)⟩
  · refine ⟨_, congrArg Host.Outcome.next (State.meterChange_of_port hp _), ?_⟩
    dsimp only
    rw [State.meter_gnt, Gnt.writeCal_of_accepted hc ha]
    have hpend := Gnt.queue_queueSet_pend (g := { s.gnt with audit := s.gnt.audit + 1, cal := c }) hm
      { kind := 4, code := 0, flags := s.gnt.flagsSeen, body := s.gnt.cal.bytes ++ c.bytes }
    refine ⟨rfl, rfl, ?_⟩
    rw [Gnt.syncReset_frame, Gnt.queue_queueSet_frame]
    exact ⟨rfl, rfl, rfl, rfl, rfl, rfl, hpend⟩
  · refine ⟨_, congrArg Host.Outcome.next (State.meterChange_of_port hp _), ?_⟩
    have hr := Gnt.writeCal_of_refused h
    rw [hr, State.meter_of_same s (congrArg Prod.fst hr)]
    rfl
  · refine ⟨_, congrArg Host.Outcome.next (State.meterChange_of_port hp _), ?_⟩
    dsimp only
    rw [State.meter_gnt, Gnt.writeFw_of_accepted hl ha, hv]
    have hpend := Gnt.queue_queueSet_pend
      (g := { s.gnt with audit := s.gnt.audit + 1, fwVersion := Config.imageVersion 2 b % 2 ^ 32 }) hm
      { kind := 4, code := 1, flags := s.gnt.flagsSeen
        body := leBytes s.gnt.fwVersion 4 ++ leBytes (Config.imageVersion 2 b % 2 ^ 32) 4 }
    refine ⟨rfl, rfl, ?_⟩
    rw [Gnt.queue_queueSet_frame]
    exact ⟨rfl, rfl, rfl, rfl, rfl, rfl, hpend⟩
  · refine ⟨_, congrArg Host.Outcome.next (State.meterChange_of_port hp _), ?_⟩
    have hr := Gnt.writeFw_of_refused h
    rw [hr, State.meter_of_same s (congrArg Prod.fst hr)]
    rfl
  · exact ⟨congrArg Host.Outcome.next (State.meterAnswer_of_silent hp _),
      congrArg Host.Outcome.next (State.meterAnswer_of_silent hp _),
      congrArg Host.Outcome.next (State.meterAnswer_of_silent hp _),
      congrArg Host.Outcome.next (State.meterChange_of_silent hp _),
      congrArg Host.Outcome.next (State.meterChange_of_silent hp _)⟩

end Sys2Proof.Machine

/-! ## Apportionment, occupancy reports and mirror frames (R94, R369, R380) -/

namespace Sys2Proof.Machine

open Sys2Proof.Stm

/-! ### Base energy and shares -/

/-- Only one integer is nearest. -/
theorem rneDiv_of_nearest {q n : Nat} (h : Nearest q n 36000000000000) :
    (rneDiv ((n : Nat) : Int) 36000000000000).toNat = q := by
  obtain ⟨hlo, hhi, htie⟩ := h
  unfold rneDiv
  dsimp only
  split
  case isTrue hc =>
    simp only [Bool.or_eq_true, decide_eq_true_eq, Bool.and_eq_true, beq_iff_eq] at hc
    omega
  case isFalse hc =>
    simp only [Bool.or_eq_true, decide_eq_true_eq, Bool.and_eq_true, beq_iff_eq] at hc
    omega

theorem baseEnergy_of_nearest {q mw periods : Nat} (h : Nearest q (mw * periods * 625 * 2 ^ 32) 36000000000000) :
    baseEnergy mw periods = q := rneDiv_of_nearest h

theorem addTenants_get (xs : List Nat) (m : KMap Nat) (k n : Nat) :
    (addTenants m k xs).get n 0 = m.get n 0 + if k ≤ n then xs.getD (n - k) 0 else 0 := by
  induction xs generalizing m k with
  | nil => simp [addTenants]
  | cons x xs ih =>
    have hm : (if x = 0 then m else m.put k (m.get k 0 + x)).get n 0 = m.get n 0 + if n = k then x else 0 := by
      by_cases hx : x = 0
      · simp [hx]
      · rw [if_neg hx, KMap.get_put]
        by_cases hn : n = k
        · rw [if_pos hn, if_pos hn, hn]
        · rw [if_neg hn, if_neg hn, Nat.add_zero]
    rw [addTenants, ih, hm]
    rcases Nat.lt_trichotomy n k with h | rfl | h
    · rw [if_neg (by omega), if_neg (by omega), if_neg (by omega)]
    · simp
    · obtain ⟨j, rfl⟩ := Nat.exists_eq_add_of_lt h
      have hj : k + j + 1 - k = j + 1 := by omega
      have hj' : k + j + 1 - (k + 1) = j := by omega
      rw [if_neg (by omega), if_pos (by omega), if_pos (by omega), hj, hj', List.getD_cons_succ, Nat.add_zero]

theorem shares_getD (r : Nat) (ws : List Nat) (n : Nat) : (shares r ws).getD n 0 = r * ws.getD n 0 / ws.sum := by
  unfold shares
  dsimp only
  rw [foldl_add_eq_sum]
  have h := List.getD_map (l := ws) (n := n) (d := 0) (f := fun x => r * x / ws.sum)
  simpa using h

/-- The shares as a function of the tenant. -/
theorem shares_eq_map (r : Nat) {ws : List Nat} {k : Nat} (h : ws.length = k) :
    shares r ws = (List.range k).map (fun n => r * ws.getD n 0 / ws.sum) := by
  refine List.ext_getElem (by simp [h]) fun n hn _ => ?_
  rw [← List.getD_eq_getElem _ 0 hn, shares_getD]
  simp

theorem all_zero_iff (ws : List Nat) : ws.all (fun w => w == 0) = true ↔ ws.sum = 0 := by
  rw [List.sum_eq_zero_iff]
  simp

/-! ### A report -/

theorem OccReport.valid_iff (r : OccReport) :
    r.valid = true ↔ r.weights.length = 64 ∧ (r.noTenant = true → r.weights.sum = 0) := by
  rw [OccReport.valid, Bool.and_eq_true, Bool.or_eq_true, beq_iff_eq, all_zero_iff]
  cases r.noTenant <;> simp

/-- The registers after a report. -/
def Gnt.reported (g : Gnt) (r : OccReport) : GntRegs :=
  if g.lastReport.any (fun n => (n + 1) % 2 ^ 32 == r.seq) && Nat.ble (g.met - g.reportAt) 320 then
    g.regs.apportion g.pendingE (baseEnergy g.cal.baseMw (g.met - g.reportAt)) r
  else { g.regs with
    unattr := g.regs.unattr + g.pendingE, total := g.regs.total + g.pendingE
    missed := Nat.min (g.regs.missed + 1) (2 ^ 32 - 1) }

theorem Gnt.report_of_valid {g : Gnt} {r : OccReport} (hp : g.powered = true) (hr : r.valid = true) : g.report r =
    { g with regs := g.reported r, pendingE := 0, lastReport := some r.seq, reportAt := g.met, testNow := r.test } :=
  if_neg (by simp [hp, hr])

theorem Gnt.report_of_invalid {g : Gnt} {r : OccReport} (hr : r.valid ≠ true) : g.report r = g := if_pos (by simp [hr])

theorem Gnt.reported_of_chain {g : Gnt} {r : OccReport} {k : Nat} (hk : g.lastReport = some k)
    (hs : (k + 1) % 2 ^ 32 = r.seq) (hi : g.met - g.reportAt ≤ 320) : g.reported r =
      g.regs.apportion g.pendingE (baseEnergy g.cal.baseMw (g.met - g.reportAt)) r :=
  if_pos (by rw [hk, Option.any_some, hs, Nat.ble_eq_true_of_le hi, beq_self_eq_true, Bool.and_self])

theorem Gnt.reported_of_gap {g : Gnt} {r : OccReport} (h : g.lastReport = none ∨
    (∃ k, g.lastReport = some k ∧ (k + 1) % 2 ^ 32 ≠ r.seq) ∨ 320 < g.met - g.reportAt) : g.reported r =
      { g.regs with
        total := g.regs.total + g.pendingE, unattr := g.regs.unattr + g.pendingE
        missed := Nat.min (g.regs.missed + 1) (2 ^ 32 - 1) } := by
  refine if_neg fun hc => ?_
  obtain ⟨ha, hb⟩ := Bool.and_eq_true_iff.mp hc
  rcases h with h | ⟨k, hk, hne⟩ | h
  · simp [h] at ha
  · rw [hk, Option.any_some, beq_iff_eq] at ha
    exact hne ha
  · exact absurd (Nat.le_of_ble_eq_true hb) (by omega)

theorem GntRegs.apportion_of_idle {g : GntRegs} {r : OccReport} (h : r.weights.sum = 0) (e base : Nat) :
    g.apportion e base r =
      { g with test := if r.test then g.test + e else g.test, total := g.total + e, unattr := g.unattr + e } :=
  if_pos ((all_zero_iff _).mpr h)

theorem GntRegs.apportion_of_busy {g : GntRegs} {r : OccReport} (h : r.weights.sum ≠ 0) (e base : Nat) :
    g.apportion e base r =
      { g with
        test := if r.test then g.test + e else g.test, total := g.total + e
        tenants := addTenants g.tenants 0 (shares (e - Nat.min e base) r.weights)
        unattr := g.unattr + (e - (shares (e - Nat.min e base) r.weights).foldl (fun a b => a + b) 0) } :=
  if_neg (fun hc => h ((all_zero_iff _).mp hc))

/-- TOTAL_WH takes the whole pending energy either way. -/
theorem Gnt.reported_total (g : Gnt) (r : OccReport) : (g.reported r).total = g.regs.total + g.pendingE := by
  unfold Gnt.reported
  split
  · by_cases h : r.weights.sum = 0
    · rw [GntRegs.apportion_of_idle h]
    · rw [GntRegs.apportion_of_busy h]
  · rfl

theorem exec_occupancyReport_cons {s : State} {r : OccReport} {rest : List OccReport} (h : s.occChan = r :: rest) :
    exec .occupancyReport s = .next ({ s with occChan := rest }.meter (fun g => g.report r)) := by
  obtain ⟨d, g, m, o, c, p⟩ := s
  obtain rfl : c = r :: rest := h
  rfl

theorem test_register (b : Bool) (x e : Nat) : (if b then x + e else x) = x + (if b then e else 0) := by
  cases b <;> rfl

/-- Settles O53: in the chain the shares of the weights, otherwise UNATTR_WH. -/
theorem apportionment : Obligations.Apportionment := by
  intro s r rest e base b0 w iv tot hch hp he hiv hb0 hbase hw htot
  refine ⟨_, exec_occupancyReport_cons hch, State.meter_frame _ _, fun hbad => ?_, fun hlen hno => ?_⟩
  · refine Gnt.report_of_invalid fun hv => ?_
    obtain ⟨h64, hz⟩ := r.valid_iff.mp hv
    rcases hbad with h | ⟨hn, h⟩
    · exact h h64
    · exact h (hw.trans (hz hn))
  · have hv : r.valid = true := r.valid_iff.mpr ⟨hlen, fun hn => hw.symm.trans (hno hn)⟩
    rw [State.meter_gnt]
    dsimp only
    rw [Gnt.report_of_valid hp hv]
    refine ⟨rfl, rfl, rfl, ?_, rfl, fun k hk hs hi => ?_, fun hgap => ?_⟩
    · rw [he]
      exact s.gnt.reported_total r
    · have hreg : s.gnt.reported r = s.gnt.regs.apportion e b0 r := by
        rw [Gnt.reported_of_chain hk hs (hiv ▸ hi), he, ← hiv, baseEnergy_of_nearest hb0]
      dsimp only
      rw [hreg]
      by_cases h0 : w = 0
      · rw [GntRegs.apportion_of_idle (hw.symm.trans h0)]
        exact ⟨rfl, test_register _ _ _, fun _ => ⟨rfl, rfl⟩, fun h => absurd h0 h⟩
      · rw [GntRegs.apportion_of_busy (hw ▸ h0), ← hbase]
        refine ⟨rfl, test_register _ _ _, fun h => absurd h h0, fun _ => ⟨fun n _ => ?_, ?_⟩⟩
        · dsimp only
          rw [addTenants_get, if_pos (Nat.zero_le _), Nat.sub_zero, shares_getD, htot, hw]
        · have hsum : shares (e - base) r.weights = (List.range 64).map tot := by
            rw [shares_eq_map _ hlen]
            exact List.map_congr_left fun n _ => by rw [htot, hw]
          have hle := shares_sum_le (e - base) r.weights
          have hb : base ≤ e := hbase ▸ Nat.min_le_left e b0
          dsimp only
          rw [foldl_add_eq_sum, ← hsum]
          omega
    · rw [he]
      exact Gnt.reported_of_gap (hiv ▸ hgap)

/-! ### Reports and frames of the hub -/

/-- A mirror frame of a running hub: the mirror registers, the meter's faults, and no lost mirror. -/
theorem Dev.mirrorFrame_of_live {d : Dev} (hl : d.live = true) (g : Gnt) :
    (d.mirrorFrame g).mirror = { d.mirror with
      st := g.mode.code, regs := g.regs, pendingE := g.pendingE, live := g.liveValues, audit := g.audit
      sealBits := g.coverOpen.toNat + 2 * g.traceBroken.toNat, cal := g.cal, fwVersion := g.fwVersion
      lastFrame := d.pwr.tick } ∧
    (∀ f ∈ g.faults, (d.mirrorFrame g).err.board.contains f.1 = f.2.1) ∧
    (d.mirrorFrame g).err.board.contains 0x48 = false ∧ d.Hears (d.mirrorFrame g) := by
  obtain ⟨e, he, hf⟩ : ∃ e : Dev, e = { d with mirror := { d.mirror with
      st := g.mode.code, regs := g.regs, pendingE := g.pendingE, live := g.liveValues, audit := g.audit
      sealBits := g.coverOpen.toNat + 2 * g.traceBroken.toNat, cal := g.cal, fwVersion := g.fwVersion } } ∧
      d.mirrorFrame g = e.mirrorHeard g.faults := ⟨_, rfl, if_pos hl⟩
  have hel : e.live = true := by rw [he]; exact hl
  obtain ⟨hb, hlost⟩ := Dev.mirrorHeard_board hel g
  have hears : d.Hears e := by rw [he]; exact rfl
  rw [hf]
  refine ⟨?_, hb, hlost, hears.trans (e.mirrorHeard_hears _)⟩
  rw [Dev.mirrorHeard_mirror hel, he]

theorem Dev.occWeights_length (d : Dev) : d.occWeights.length = 64 := by simp [Dev.occWeights]

/-- With no tile held, a report gives the tile-ticks kept so far. -/
theorem Dev.occWeights_of_no_tiles {d : Dev} (h : d.tiles = []) {n : Nat} (hn : n < 64) :
    d.occWeights.getD n 0 = d.mirror.occAcc.get n 0 % 2 ^ 32 := by
  have hlt : n < d.occWeights.length := by rw [d.occWeights_length]; exact hn
  rw [List.getD_eq_getElem _ 0 hlt]
  simp only [Dev.occWeights, List.getElem_map, List.getElem_range, h, List.foldl_nil]

theorem exec_occupancyReportSend_of_due {s : State} (hl : s.dev.live = true)
    (ht : s.dev.mirror.occFrom + 250000 ≤ s.dev.pwr.tick) : exec .occupancyReportSend s = .next { s with
      occChan := s.occChan ++ [s.dev.occReport]
      dev := { s.dev with
        mirror := { s.dev.mirror with occSeq := (s.dev.mirror.occSeq + 1) % 2 ^ 32, occFrom := s.dev.pwr.tick, occAcc := [] }
        err := { s.dev.err with testSeen := s.dev.err.unlockUntil.isSome } } } :=
  if_pos (by rw [hl, Nat.ble_since_of_le ht]; rfl)

/-- Settles O54: the hub's report, the meter's frame and a silent channel. -/
theorem occupancyAndMirror : Obligations.OccupancyAndMirror := by
  refine ⟨fun s hl ht => ?_, fun s hp hl hx => ?_, fun s hl hv ht => ?_⟩
  · have hweights : s.dev.occReport.weights = if s.dev.occReport.noTenant then List.replicate 64 0 else s.dev.occWeights :=
      rfl
    refine ⟨_, exec_occupancyReportSend_of_due hl ht, ⟨s.dev.occReport, rfl, rfl, rfl, ?_, rfl, rfl, fun hn => ?_,
      fun hn htl n h => ?_⟩, rfl⟩
    · rw [hweights]
      split
      · exact List.length_replicate
      · exact s.dev.occWeights_length
    · rw [hweights, if_pos hn]
    · rw [hweights, if_neg (by simp [hn]), Dev.occWeights_of_no_tiles htl h]
  · have hdue : s.gnt.lastFrame.all (fun t => Nat.ble 16 (s.gnt.met - t)) = true := by
      rw [Option.all_eq_true]
      intro x hf
      have := hx x hf
      exact Nat.ble_eq_true_of_le (by omega)
    exact ⟨_, if_pos (by rw [hp, hdue]; rfl), rfl, Dev.mirrorFrame_of_live hl s.gnt⟩
  · have hboard := Dev.boardSet_board { s.dev with mirror := { s.dev.mirror with st := 0 } } { code := 0x48, source := 0x88 }
    refine ⟨_, exec_dev rfl (by exact if_pos (by rw [hl, hv, Nat.ble_since_of_le ht]; rfl)), onlyDev_withDev _ _,
      Dev.boardSet_mirror _ _, ?_, Dev.Hears.trans (by exact rfl) (Dev.boardSet_hears _ _)⟩
    exact (hboard 0x48).trans (by simp)

end Sys2Proof.Machine

/-! ## Error rings, alert and test perturbation (R384 to R388, R396 to R398) -/

namespace Sys2Proof.Machine

open Sys2Proof.Stm

/-! ### Error rings -/

theorem Dev.errFlush_nil (d : Dev) (n : Nat) : d.errFlush n [] = (d, false) := rfl

/-- A ring with nothing waiting writes nothing. -/
theorem Dev.errWrite_of_empty {d : Dev} {n : Nat} (h : (d.errRing n).waiting = []) : d.errWrite n = d := by
  rw [Dev.errWrite, h, Dev.errFlush_nil]

theorem Dev.errEnable_of_enabled {d : Dev} {n : Nat} (h : (d.errRing n).st = .enabled) (irq : Bool) :
    d.errEnable n irq = d.setErrRing n { d.errRing n with irq := irq } := if_pos (by rw [h]; rfl)

theorem Dev.errEnable_of_no_base {d : Dev} {n : Nat} (h : (d.errRing n).st ≠ .enabled) (hb : d.obj 0xA000 1 n = 0)
    (irq : Bool) : d.errEnable n irq = d.setErrRing n { d.errRing n with st := .error, waiting := [] } :=
  (if_neg (by simpa using h)).trans (if_pos hb)

/-- The ring that ENABLE starts. -/
def Dev.freshErrRing (d : Dev) (n : Nat) (irq : Bool) : ErrRing :=
  { st := .enabled, irq := irq, base := d.obj 0xA000 1 n, size := d.obj 0xA000 2 n, pasid := d.obj 0xA000 3 n, seq := 0
    uncovered := none, waiting := [] }

theorem Dev.errEnable_of_base {d : Dev} {n : Nat} (h : (d.errRing n).st ≠ .enabled) (hb : d.obj 0xA000 1 n ≠ 0)
    (irq : Bool) : d.errEnable n irq =
      if n = 0 then (d.setErrRing n (d.freshErrRing n irq)).postHeld else d.setErrRing n (d.freshErrRing n irq) :=
  (if_neg (by simpa using h)).trans (if_neg hb)

/-- With no held record tenant 0's ring starts like another. -/
theorem Dev.postHeld_of_none {d : Dev} (h : d.err.held = []) (hw : (d.errRing 0).waiting = []) : d.postHeld = d := by
  have he : { d with err := { d.err with held := [] } } = d := by rw [← h]
  have hp : d.postHeld = { d with err := { d.err with held := [] } }.errWrite 0 := by
    rw [Dev.postHeld, h, List.foldl_nil]
  rw [hp, he, Dev.errWrite_of_empty hw]

theorem Dev.errEnable_of_none_held {d : Dev} {n : Nat} (h : (d.errRing n).st ≠ .enabled) (hb : d.obj 0xA000 1 n ≠ 0)
    (hh : n ≠ 0 ∨ d.err.held = []) (irq : Bool) : d.errEnable n irq = d.setErrRing n (d.freshErrRing n irq) := by
  rw [Dev.errEnable_of_base h hb]
  split
  case isTrue h0 =>
    subst h0
    refine Dev.postHeld_of_none (hh.resolve_left (fun hne => hne rfl)) ?_
    rw [Dev.errRing_setErrRing_same]
    rfl
  case isFalse => rfl

/-- Posting the held records touches what a report touches, and empties the list. -/
theorem Dev.postHeld_rep (d : Dev) : ({ d with err := { d.err with held := [] } }).Rep d.postHeld := by
  unfold Dev.postHeld
  refine Dev.Rep.trans ?_ (Dev.errWrite_rep _ 0)
  have hfold := foldl_keeps (fun e => d.Rep e)
    (fun (d : Dev) (h : FatalRec) => (d.bump 0xA010 h.code 0 32).errQueue 0 (entryBits h.tick h.code 6 0 0x89 0 h.detail))
    (fun e h he => he.trans ((e.bump_rep 0xA010 h.code 0 32 1).trans (Dev.errQueue_rep _ 0 _))) d.err.held d (Dev.Rep.refl d)
  exact ⟨by rw [hfold.1], hfold.2⟩

section
variable {s : State} {n : FnId}

theorem exec_errRingEnable (hs : s.dev.serving = true) (irq : Bool) :
    exec (.errRingEnable n irq) s = .next { s with dev := s.dev.errEnable n.val irq } :=
  exec_dev rfl (by exact if_pos hs)

theorem exec_errRingDisable (hs : s.dev.serving = true) :
    exec (.errRingDisable n) s = .next { s with dev := s.dev.errDisable n.val } :=
  exec_dev rfl (by exact if_pos hs)

/-- The moderation time of a ring is over. -/
theorem exec_errIrqTimer (hs : s.dev.serving = true) (hi : (s.dev.errRing n.val).irq = true) {u : Nat}
    (hu : (s.dev.errRing n.val).uncovered = some u) (ht : u + s.dev.obj 0xA005 0 n.val ≤ s.dev.pwr.tick) :
    exec (.errIrqTimer n) s = .next { s with
      dev := (s.dev.setErrRing n.val { s.dev.errRing n.val with uncovered := none }).msix n.val 1 } :=
  exec_dev rfl (by
    unfold Dev.errIrqCheck
    dsimp only
    rw [hu]
    exact if_pos (by rw [hs, hi, Nat.ble_since_of_le ht]; rfl))

end

theorem FnId.val_ne {m n : FnId} (h : m ≠ n) : m.val ≠ n.val := fun he => h (Fin.ext he)

/-- A message of a function: put out, kept pending, or nothing. -/
theorem Dev.msix_of_unmasked {d : Dev} {n v : Nat} (he : (d.fn n).msixEn = true) (hu : (d.fn n).unmasked.testBit v = true) :
    d.msix n v = d.emit (.msix n v) := by
  rw [Dev.msix]
  simp only [he, bitAt, hu, Bool.not_true, if_true]
  rfl

theorem Dev.msix_of_masked {d : Dev} {n v : Nat} (he : (d.fn n).msixEn = true) (hu : (d.fn n).unmasked.testBit v = false) :
    d.msix n v = d.setFn n { d.fn n with pba := putBit (d.fn n).pba v true } := by
  simp [Dev.msix, he, bitAt, hu]

theorem Dev.msix_of_off {d : Dev} {n v : Nat} (he : (d.fn n).msixEn = false) : d.msix n v = d := by
  simp [Dev.msix, he]

theorem Dev.msix_frame (d : Dev) (n v : Nat) : d.msix n v = { d with fns := (d.msix n v).fns, emits := (d.msix n v).emits } := by
  cases he : (d.fn n).msixEn with
  | false => rw [Dev.msix_of_off he]
  | true =>
    cases hu : (d.fn n).unmasked.testBit v with
    | true => rw [Dev.msix_of_unmasked he hu]; rfl
    | false => rw [Dev.msix_of_masked he hu]; rfl

/-! ### The unlock -/

theorem Dev.relock_of_unlocked {d : Dev} (h : d.err.unlockUntil ≠ none) : d.relock =
    ({ d with
      err := { d.err with unlockUntil := none }, dict := d.dict.filter (fun e => !isPert (e.1 / 65536))
      mem := { d.mem with armed := [] }, tiles := d.tiles.mapVal (fun x => { x with tbArm := [], asArm := [] }) } : Dev).boardClear
        0x49 :=
  if_pos (Option.isSome_iff_ne_none.mpr h)

theorem okey_index {i u n : Nat} (hu : u < 256) (hn : n < 256) : okey i u n / 65536 = i := by
  unfold okey
  omega

theorem isPert_iff (i : Nat) : isPert i = true ↔ 0xD010 ≤ i ∧ i ≤ 0xD015 := by simp [isPert]

/-- Filtering the dictionary by index takes the listed values to their defaults. -/
theorem Dev.obj_filter_pert {d e : Dev} (hd : e.dict = d.dict.filter (fun e => !isPert (e.1 / 65536)))
    (hp : e.pwr.straps = d.pwr.straps) (ha : e.boot.active = d.boot.active) {i u n : Nat} (hu : u < 256) (hn : n < 256) :
    e.obj i u n = if isPert i then objDefault d.pwr.straps d.boot.active i u n else d.obj i u n := by
  have hi := okey_index (i := i) hu hn
  rw [Dev.obj, hd, hp, ha]
  cases h : isPert i with
  | true =>
    have hf := KMap.find_filter_none d.dict (fun k => !isPert (k / 65536)) (okey i u n) (by rw [hi, h]; rfl)
    rw [if_pos rfl, hf]
    rfl
  | false =>
    have hf := KMap.find_filter d.dict (fun k => !isPert (k / 65536)) (okey i u n) (by rw [hi, h]; rfl)
    rw [if_neg (by simp), hf]
    rfl

/-- The end of the unlock (R396). -/
theorem relocked_of_unlocked {s : State} (h : s.dev.err.unlockUntil ≠ none) :
    Relocked s { s with dev := s.dev.relock } := by
  obtain ⟨e, he, hpwr, hboot, hdict⟩ : ∃ e, s.dev.relock = e ∧ e.pwr = s.dev.pwr ∧ e.boot = s.dev.boot ∧
      e.dict = s.dev.dict.filter (fun e => !isPert (e.1 / 65536)) :=
    ⟨_, rfl, by rw [Dev.relock_of_unlocked h]; rfl, by rw [Dev.relock_of_unlocked h]; rfl,
      by rw [Dev.relock_of_unlocked h]; rfl⟩
  have hobj : ∀ i u n, u < 256 → n < 256 → e.obj i u n =
      if isPert i then objDefault s.dev.pwr.straps s.dev.boot.active i u n else s.dev.obj i u n :=
    fun i u n hu hn => Dev.obj_filter_pert hdict (by rw [hpwr]) (by rw [hboot]) hu hn
  refine ⟨?_, ?_, ?_, fun k => ?_, fun i u n h1 h2 hu hn => ?_, fun i u n hi hu hn => ?_, ?_⟩
  · dsimp only
    rw [Dev.relock_of_unlocked h]
    rfl
  · dsimp only
    rw [Dev.relock_of_unlocked h, Dev.boardClear_board]
    simp
  · dsimp only
    rw [Dev.relock_of_unlocked h]
    rfl
  · dsimp only
    rw [Dev.relock_of_unlocked h]
    exact KMap.get_mapVal s.dev.tiles (fun x => { x with tbArm := [], asArm := [] }) k.val {} rfl
  · exact (congrArg (fun d => Dev.obj d i u n) he).trans ((hobj i u n hu hn).trans (if_pos ((isPert_iff i).mpr ⟨h1, h2⟩)))
  · exact (congrArg (fun d => Dev.obj d i u n) he).trans ((hobj i u n hu hn).trans
      (if_neg (fun hp => by have := (isPert_iff i).mp hp; omega)))
  · dsimp only
    rw [Dev.relock_of_unlocked h]
    rfl

theorem Dev.unlock_of_permitted {d : Dev} (h : d.obj 0x3804 0 0 = 1) : d.unlock =
    ({ d with err := { d.err with unlockUntil := some (d.pwr.tick + d.obj 0xD001 0 0), testSeen := true } } : Dev).boardSet
      { code := 0x49 } := if_pos h

/-! ### Armed flips -/

/-- The fields of PERT_ECC_FLIP stand side by side (Table 20.9). -/
theorem flipValue_fields {store bits unit off : Nat} (hs : store < 4) (hb : bits < 4) (hu : unit < 128)
    (ho : off < 2 ^ 112) :
    bitsAt (flipValue store bits unit off) 126 2 = store ∧ bitsAt (flipValue store bits unit off) 124 2 = bits ∧
      bitsAt (flipValue store bits unit off) 119 5 = 0 ∧ bitsAt (flipValue store bits unit off) 112 7 = unit ∧
      bitsAt (flipValue store bits unit off) 0 112 = off := by
  simp only [bitsAt_eq, flipValue]
  refine ⟨?_, ?_, ?_, ?_, ?_⟩ <;> omega

/-- An armed flip replaces an earlier one of its word. -/
def armPut (l : List Arm) (w bits : Nat) : List Arm := l.filter (fun a => a.word != w) ++ [⟨w, bits⟩]

theorem exec_pertEccFlip_of_unlocked {s : State} {v : BitVec 128} {store bits unit off : Nat} (hl : s.dev.live = true)
    (hu : s.dev.err.unlockUntil ≠ none) (hv : v.toNat = flipValue store bits unit off) (hs : store < 3) (h1 : 1 ≤ bits)
    (h2 : bits ≤ 2) (hk : unit < 128) (ho : off < 2 ^ 112)
    (hoff : (if store = 0 then decide (off < 393216) else if store = 1 then decide (off < 2097152)
      else decide (off < s.dev.hbmTop)) = true) (hunit : store = 2 ∨ s.dev.has unit = true) :
    exec (.pertEccFlip v) s = .next { s with dev := s.dev.arm (flipValue store bits unit off) } := by
  obtain ⟨fs, fb, fz, fu, fo⟩ := flipValue_fields (by omega : store < 4) (by omega : bits < 4) hk ho
  have hok : s.dev.flipOk (flipValue store bits unit off) = true := by
    unfold Dev.flipOk
    dsimp only
    rw [fs, fb, fz, fo, hoff, bne_iff_ne.mpr (by omega : store ≠ 3), Nat.ble_eq_true_of_le h1, Nat.ble_eq_true_of_le h2]
    rfl
  refine exec_dev rfl ?_
  dsimp only
  rw [hv]
  refine if_pos ?_
  rw [hl, Option.isSome_iff_ne_none.mpr hu, hok, fs, fu]
  rcases hunit with rfl | h
  · rfl
  · rw [h, Bool.or_true]
    rfl

theorem Dev.arm_hbm {bits off : Nat} (hb : bits < 4) (ho : off < 2 ^ 112) (d : Dev) : d.arm (flipValue 2 bits 0 off) =
    { d with mem := { d.mem with armed := armPut d.mem.armed (off / 64) bits } } := by
  obtain ⟨fs, fb, -, -, fo⟩ := flipValue_fields (by omega : 2 < 4) hb (by omega : 0 < 128) ho
  unfold Dev.arm
  dsimp only
  rw [fs, fb, fo]
  rfl

theorem Dev.arm_tb {bits k off : Nat} (hb : bits < 4) (hk : k < 128) (ho : off < 2 ^ 112) (d : Dev) :
    d.arm (flipValue 0 bits k off) = d.updTile k (fun x => { x with tbArm := armPut x.tbArm (off / 16) bits }) := by
  obtain ⟨fs, fb, -, fu, fo⟩ := flipValue_fields (by omega : 0 < 4) hb hk ho
  unfold Dev.arm
  dsimp only
  rw [fs, fb, fu, fo]
  rfl

theorem Dev.arm_as {bits k off : Nat} (hb : bits < 4) (hk : k < 128) (ho : off < 2 ^ 112) (d : Dev) :
    d.arm (flipValue 1 bits k off) = d.updTile k (fun x => { x with asArm := armPut x.asArm (off / 8) bits }) := by
  obtain ⟨fs, fb, -, fu, fo⟩ := flipValue_fields (by omega : 1 < 4) hb hk ho
  unfold Dev.arm
  dsimp only
  rw [fs, fb, fu, fo]
  rfl

theorem onlyTile_updTile (s : State) (k : TileId) (f : Tile → Tile) :
    OnlyTile k s { s with dev := s.dev.updTile k.val f } :=
  ⟨rfl, fun j hj => Dev.tile_updTile_other s.dev f (fun he => hj (Fin.ext he))⟩

theorem linesOf_line (l : Nat) : linesOf (64 * l) 64 = [l] := by
  have hn : (64 * l + 64 - 1) / 64 - 64 * l / 64 + 1 = 1 := by omega
  have hl : 64 * l / 64 = l := by omega
  rw [linesOf, if_neg (by omega), hn, hl]
  rfl

theorem armedMark_of_find {arms : List Arm} {l : Nat} {a : Arm} (h : arms.find? (fun a => a.word == l) = some a) :
    armedMark arms l = some (if a.bits = 1 then .correctable else .uncorrectable) := by
  simp [armedMark, h]

/-- The write of a whole line with a flip armed: the line is marked, the flip gone (Table 20.8). -/
theorem Mem.writeMarks_armed {m : Mem} {l : Nat} {bs : List Byte} {e : WordErr} (hb : bs.length = 64)
    (ha : armedMark m.armed l = some e) : ∃ c, (m.writeMarks (64 * l) bs).1 =
      { m with cells := c, lines := (m.lines.drop l).put l e, armed := m.armed.filter (fun a => a.word != l) } := by
  have hlo : Nat.max (64 * l) (l * 64) = l * 64 := Nat.max_eq_right (by omega)
  have hhi : Nat.min (64 * l + 64) (l * 64 + 64) = l * 64 + 64 := Nat.min_eq_right (by omega)
  unfold Mem.writeMarks
  rw [hb, linesOf_line, List.foldl_cons, List.foldl_nil]
  dsimp only
  rw [hlo, hhi, ha, if_neg (by simp)]
  exact ⟨_, rfl⟩

/-! ### The peak of a die -/

theorem dieNum_le (x : Die) : dieNum x ≤ 4 := by
  cases x with
  | hub => exact Nat.zero_le 4
  | chip c => exact c.isLt

theorem signed_unsigned_16 {x : Int} (hlo : -32768 ≤ x) (hhi : x < 32768) : signed (unsigned x 16) 16 = x :=
  signed_unsigned x 16 (by decide) (by exact hlo) (by exact hhi)

/-- Settles O55: each command through its equation; a message by the state of its vector. -/
theorem errorControl : Obligations.ErrorControl := by
  refine ⟨fun s n irq hs h hb hh => ?enables, fun s irq hs h hb => ?held, fun s n irq hs h hb => ?noBase,
    fun s n irq hs h => ?irqBit, fun s n hs => ?disables, fun s n u hs hi hu ht => ?timer,
    fun s hs => exec_dev rfl (by exact if_pos hs), fun s hs h => ?unlocks, fun s hs h => ?refused,
    fun s hl h => ⟨_, exec_dev rfl (by exact if_pos hl), relocked_of_unlocked h⟩, fun s u hl hu ht => ?expires,
    fun s u hl hu ht => ?stillOpen, fun s v bits off hl hu h1 h2 hv ho ho2 => ?hbm,
    fun s v k bits off hl hu h1 h2 hv ho hk => ?tb, fun s v k bits off hl hu h1 h2 hv ho hk => ?as, fun s v hu => ?locked,
    fun m l bs a hb ha => ?line, fun s x hl hb hlo hhi => ?peak⟩
  case enables =>
    refine ⟨_, exec_errRingEnable hs irq, ?_⟩
    rw [Dev.errEnable_of_none_held h hb hh]
    exact ⟨Dev.errRing_setErrRing_same _ _ _, fun m hm => Dev.errRing_setErrRing_other _ _ (FnId.val_ne hm), rfl⟩
  case held =>
    refine ⟨_, exec_errRingEnable hs irq, ?_⟩
    have he : s.dev.errEnable (0 : FnId).val irq = (s.dev.setErrRing 0 (s.dev.freshErrRing 0 irq)).postHeld :=
      (Dev.errEnable_of_base h hb irq).trans (if_pos rfl)
    have hrep := Dev.postHeld_rep (s.dev.setErrRing 0 (s.dev.freshErrRing 0 irq))
    rw [he]
    refine ⟨hrep.held, onlyDev_withDev _ _, ?_⟩
    exact hrep.1
  case noBase =>
    refine ⟨_, exec_errRingEnable hs irq, ?_⟩
    rw [Dev.errEnable_of_no_base h hb]
    exact ⟨Dev.errRing_setErrRing_same _ _ _, rfl⟩
  case irqBit =>
    refine ⟨_, exec_errRingEnable hs irq, ?_⟩
    rw [Dev.errEnable_of_enabled h]
    exact ⟨Dev.errRing_setErrRing_same _ _ _, rfl⟩
  case disables =>
    refine ⟨_, exec_errRingDisable hs, ?_, fun m hm => ?_, ?_, rfl⟩
    · exact Dev.errRing_setErrRing_same _ _ _
    · exact Dev.errRing_setErrRing_other _ _ (FnId.val_ne hm)
    · exact Dev.obj_bump_same _ _ _ _ _ _
  case timer =>
    refine ⟨_, exec_errIrqTimer hs hi hu ht, ?_, fun he hm => ?_, fun he hm => ?_, fun he => ?_, ?_⟩
    · dsimp only
      rw [Dev.errRing, Dev.msix_frame]
      exact Dev.errRing_setErrRing_same _ _ _
    · dsimp only [Emits]
      rw [Dev.msix_of_unmasked (by exact he) (by exact hm)]
      exact ⟨rfl, rfl⟩
    · dsimp only
      rw [Dev.msix_of_masked (by exact he) (by exact hm), Dev.fn_setFn_same]
      exact ⟨rfl, (testBit_putBit _ 1 true :)⟩
    · dsimp only
      rw [Dev.msix_of_off (by exact he)]
      exact ⟨rfl, rfl⟩
    · dsimp only
      rw [Dev.msix_frame]
      rfl
  case unlocks =>
    refine ⟨_, exec_dev rfl (by exact (if_pos hs).trans (Dev.unlock_of_permitted h)), ?_⟩
    have hboard := Dev.boardSet_board { s.dev with err := { s.dev.err with
      unlockUntil := some (s.dev.pwr.tick + s.dev.obj 0xD001 0 0), testSeen := true } } { code := 0x49 } 0x49
    have hears := Dev.boardSet_hears { s.dev with err := { s.dev.err with
      unlockUntil := some (s.dev.pwr.tick + s.dev.obj 0xD001 0 0), testSeen := true } } { code := 0x49 }
    have hmirror := Dev.boardSet_mirror { s.dev with err := { s.dev.err with
      unlockUntil := some (s.dev.pwr.tick + s.dev.obj 0xD001 0 0), testSeen := true } } { code := 0x49 }
    generalize Dev.boardSet _ _ = e at *
    unfold Dev.Hears ButReport at hears
    rw [hmirror] at hears
    have hun : e.err.unlockUntil = some (s.dev.pwr.tick + s.dev.obj 0xD001 0 0) := by rw [hears]
    refine ⟨hun, by rw [hears], hboard.trans (by simp), onlyDev_withDev s e, ?_⟩
    unfold ButReport
    dsimp only
    rw [hun]
    exact hears
  case refused => exact exec_dev rfl (by exact (if_pos hs).trans (if_neg h))
  case expires =>
    refine ⟨_, exec_dev rfl (by exact if_pos (by simp [hl, hu, ht])), relocked_of_unlocked (by rw [hu]; exact nofun)⟩
  case stillOpen => exact exec_dev rfl (by exact if_neg (by simp [hl, hu]; omega))
  case hbm =>
    refine ⟨_, exec_pertEccFlip_of_unlocked hl hu hv (by omega) h1 h2 (by omega) ho2 (by simpa using ho) (Or.inl rfl), ?_⟩
    rw [Dev.arm_hbm (by omega) ho2]
    rfl
  case tb =>
    have ho2 : off < 2 ^ 112 := ho.trans (by decide)
    refine ⟨_, exec_pertEccFlip_of_unlocked hl hu hv (by omega) h1 h2 k.isLt ho2 (by simpa using ho) (Or.inr hk), ?_⟩
    rw [Dev.arm_tb (by omega) k.isLt ho2]
    exact ⟨onlyTile_updTile s k _, Dev.tile_updTile_same _ _ _⟩
  case as =>
    have ho2 : off < 2 ^ 112 := ho.trans (by decide)
    refine ⟨_, exec_pertEccFlip_of_unlocked hl hu hv (by omega) h1 h2 k.isLt ho2 (by simpa using ho) (Or.inr hk), ?_⟩
    rw [Dev.arm_as (by omega) k.isLt ho2]
    exact ⟨onlyTile_updTile s k _, Dev.tile_updTile_same _ _ _⟩
  case locked => exact exec_dev rfl (by exact if_neg (by simp [hu]))
  case line =>
    obtain ⟨c, hc⟩ := Mem.writeMarks_armed hb (armedMark_of_find ha)
    rw [hc]
    refine ⟨KMap.find_put_same _ _ _, fun b hb => ?_⟩
    simpa using (List.mem_filter.mp hb).2
  case peak =>
    refine ⟨_, exec_dev rfl (by exact if_pos (by rw [hl, hb]; rfl)), ?_, rfl, fun i u n hu hn hne => ?_⟩
    · dsimp only
      rw [Dev.peakReset, Dev.obj_setObj_same, signed_unsigned_16 hlo hhi]
    · refine Dev.obj_setObj_other _ fun he => hne ?_
      have hd := dieNum_le x
      obtain ⟨rfl, rfl, rfl⟩ := okey_inj hu hn (by omega) (by omega) he
      rfl

end Sys2Proof.Machine

/-! ## MCTP control (R118, R119) -/

namespace Sys2Proof.Machine

open Sys2Proof.Stm

/-- Both bindings answer on a live module whose link is up and whose server runs. -/
theorem Dev.mctpOn_of_up {d : Dev} {b : Binding} (ha : d.pwr.aon = true) (hl : d.live = true) (hg : d.boot.pcieGen ≠ 0)
    (hs : 2 ≤ d.boot.stage) (hb : b = .i3c → d.mgt.addr ≠ 0) : d.mctpOn b = true := by
  cases b with
  | i3c =>
    have hm := hb rfl
    simpa [Dev.mctpOn, Dev.mgtPort, ha] using hm
  | vdm => simp [Dev.mctpOn, Dev.server, Dev.linkUp, hl, hg, hs]

theorem Dev.mctpAnswer_of_on {d : Dev} {b : Binding} (h : d.mctpOn b = true) (cmd : Nat) (head : List Byte) :
    d.mctpAnswer b cmd head = { d with emits := d.emits ++ [.mctp b (head ++ Config.mctpValue (bindNum b) cmd)] } := if_pos h

/-- Settles O18: each message is answered on the binding that it came on. -/
theorem mctpControl : Obligations.MctpControl := by
  intro s b ha hl hg hs hb
  have hon := Dev.mctpOn_of_up ha hl hg hs hb
  have hanswer := Dev.mctpAnswer_of_on hon
  refine ⟨fun e h0 h1 => ?_, ?_, ?_, ?_, ?_⟩
  · have he : (s.dev.mctpOn b && e.toNat != 0 && e.toNat != 255) = true := by
      have h0' : e.toNat ≠ 0 := fun h => h0 (BitVec.eq_of_toNat_eq h)
      have h1' : e.toNat ≠ 255 := fun h => h1 (BitVec.eq_of_toNat_eq h)
      rw [hon, bne_iff_ne.mpr h0', bne_iff_ne.mpr h1']
      rfl
    cases b with
    | i3c =>
      refine ⟨_, exec_dev rfl ((congrArg (fun d => Dev.mctpAnswer d .i3c 0x01 []) (if_pos he)).trans
        (Dev.mctpAnswer_of_on (by exact hon) 1 [])), rfl, rfl, fun _ => rfl, nofun⟩
    | vdm =>
      refine ⟨_, exec_dev rfl ((congrArg (fun d => Dev.mctpAnswer d .vdm 0x01 []) (if_pos he)).trans
        (Dev.mctpAnswer_of_on (by exact hon) 1 [])), rfl, rfl, nofun, fun _ => rfl⟩
  · refine exec_dev rfl ((hanswer 2 _).trans ?_)
    cases b <;> rfl
  · exact exec_dev rfl (hanswer 4 [])
  · exact exec_dev rfl (hanswer 5 [0x7E])
  · exact exec_dev rfl (hanswer 6 [0x1F, 0xD8])

end Sys2Proof.Machine

/-! ## Writes of memory that carries no mark (R400) -/

namespace Sys2Proof.Machine

open Sys2Proof.Stm

/-- Memory `m'` is `m` with the bytes `bs` stored from `pa` on. -/
def Mem.Written (m : Mem) (pa : Nat) (bs : List Byte) (m' : Mem) : Prop :=
  m' = { m with cells := m'.cells } ∧
    ∀ x, m'.byte x = if pa ≤ x ∧ x < pa + bs.length then byteAt bs (x - pa) else m.byte x

theorem clean_of_cells {m m' : Mem} (h : Clean m) (he : m' = { m with cells := m'.cells }) : Clean m' := by
  rw [he]
  exact h

theorem Mem.Written.clean {m m' : Mem} {pa : Nat} {bs : List Byte} (h : m.Written pa bs m') (hc : Clean m) : Clean m' :=
  clean_of_cells hc h.1

theorem byteAt_drop_take {bs : List Byte} {k n i : Nat} (h : i < n) : byteAt ((bs.drop k).take n) i = byteAt bs (k + i) := by
  simp [byteAt, List.getElem?_take_of_lt h]

/-- The step of a checked write at one line, on clean memory: the line's bytes are stored. -/
def Mem.writeLine (pa : Nat) (bs : List Byte) (acc : Mem × Nat) (l : Nat) : Mem × Nat :=
  ({ acc.1 with cells := cellsWrite acc.1.cells (Nat.max pa (l * 64)) ((bs.drop (Nat.max pa (l * 64) - pa)).take
      (Nat.min (pa + bs.length) (l * 64 + 64) - Nat.max pa (l * 64))) }, acc.2)

theorem Mem.writeMarks_eq_lines {m : Mem} (h : Clean m) (pa : Nat) (bs : List Byte) :
    m.writeMarks pa bs = (linesOf pa bs.length).foldl (Mem.writeLine pa bs) (m, 0) := by
  obtain ⟨hl, ha⟩ := h
  unfold Mem.writeMarks
  suffices hs : ∀ (ls : List Nat) (acc : Mem × Nat), acc.1.lines = [] → acc.1.armed = [] → ls.foldl _ acc =
      ls.foldl (Mem.writeLine pa bs) acc from hs _ _ hl ha
  intro ls
  induction ls with
  | nil => exact fun _ _ _ => rfl
  | cons l ls ih =>
    rintro ⟨⟨cells, lines, armed, hdm⟩, n⟩ rfl rfl
    rw [List.foldl_cons, List.foldl_cons]
    dsimp only
    rw [if_neg (by simp [badMark, Mem.mark])]
    exact ih _ rfl rfl

/-- The bytes stored after the first `k` lines of a write. -/
theorem Mem.writeLines_byte {pa : Nat} {bs : List Byte} (m : Mem) (hb : bs ≠ []) (k : Nat)
    (hk : k ≤ (pa + bs.length - 1) / 64 - pa / 64 + 1) :
    ∃ m', ((List.range k).map (fun i => pa / 64 + i)).foldl (Mem.writeLine pa bs) (m, 0) = (m', 0) ∧
      m' = { m with cells := m'.cells } ∧ ∀ x, m'.byte x =
        if pa ≤ x ∧ x < pa + bs.length ∧ x < (pa / 64 + k) * 64 then byteAt bs (x - pa) else m.byte x := by
  have hpos : 0 < bs.length := List.length_pos_iff.mpr hb
  induction k with
  | zero => exact ⟨m, rfl, rfl, fun x => by rw [if_neg (by omega)]⟩
  | succ k ih =>
    obtain ⟨m1, he, hf, hbyte⟩ := ih (by omega)
    refine ⟨(Mem.writeLine pa bs (m1, 0) (pa / 64 + k)).1, ?_, by rw [hf]; rfl, fun x => ?_⟩
    · rw [List.range_succ, List.map_append, List.foldl_append, he]
      rfl
    · obtain ⟨lo, hlo⟩ : ∃ lo, lo = Nat.max pa ((pa / 64 + k) * 64) := ⟨_, rfl⟩
      obtain ⟨hi, hhi⟩ : ∃ hi, hi = Nat.min (pa + bs.length) ((pa / 64 + k) * 64 + 64) := ⟨_, rfl⟩
      have hlo' : lo = max pa ((pa / 64 + k) * 64) := hlo
      have hhi' : hi = min (pa + bs.length) ((pa / 64 + k) * 64 + 64) := hhi
      have hlen : ((bs.drop (lo - pa)).take (hi - lo)).length = hi - lo := by
        rw [List.length_take, List.length_drop]
        omega
      have hw : (Mem.writeLine pa bs (m1, 0) (pa / 64 + k)).1.byte x =
          cellAt (cellsWrite m1.cells lo ((bs.drop (lo - pa)).take (hi - lo))) x := by rw [hlo, hhi]; rfl
      rw [hw, cellAt_write, hlen]
      by_cases hin : lo ≤ x ∧ x < lo + (hi - lo)
      · rw [if_pos hin, byteAt_drop_take (by omega), if_pos (by omega)]
        congr 1
        omega
      · rw [if_neg hin]
        refine (hbyte x).trans ?_
        by_cases hold : pa ≤ x ∧ x < pa + bs.length ∧ x < (pa / 64 + k) * 64
        · rw [if_pos hold, if_pos (by omega)]
        · rw [if_neg hold, if_neg (by omega)]

/-- A checked write of clean memory stores its bytes and refuses nothing. -/
theorem Mem.writeMarks_of_clean {m : Mem} (h : Clean m) (pa : Nat) (bs : List Byte) :
    ∃ m', m.writeMarks pa bs = (m', 0) ∧ m.Written pa bs m' := by
  rw [Mem.writeMarks_eq_lines h]
  by_cases hb : bs = []
  · subst hb
    exact ⟨m, rfl, rfl, fun x => by rw [if_neg (by simp)]⟩
  · have hpos : 0 < bs.length := List.length_pos_iff.mpr hb
    obtain ⟨m', he, hf, hbyte⟩ := Mem.writeLines_byte (pa := pa) m hb _ le_rfl
    refine ⟨m', ?_, hf, fun x => ?_⟩
    · rw [linesOf, if_neg (by omega)]
      exact he
    · rw [hbyte x]
      congr 1
      exact propext (by omega)

theorem Mem.mergedCe_of_clean {m : Mem} (h : Clean m) (pa len : Nat) : m.mergedCe pa len = 0 := by
  have hmark : ∀ l, m.mark l = none := fun l => by simp [Mem.mark, h.1]
  simp [Mem.mergedCe, hmark]

theorem Dev.hbmErrors_zero (d : Dev) (tenant source : Nat) (job : Option Nat) : d.hbmErrors tenant source job 0 0 = d := rfl

/-- A checked write of one piece of clean memory touches its bytes alone. -/
theorem Dev.markWrite_of_clean {d : Dev} (h : Clean d.mem) (tenant source : Nat) (job : Option Nat) (pa : Nat)
    (bs : List Byte) : ∃ m', d.markWrite tenant source job [(pa, 0, bs.length)] bs = { d with mem := m' } ∧
      d.mem.Written pa bs m' := by
  obtain ⟨m', he, hw⟩ := Mem.writeMarks_of_clean h pa bs
  refine ⟨m', ?_, hw⟩
  have hp : d.writePieces [(pa, 0, bs.length)] bs = ({ d with mem := m' }, 0) := by
    simp [Dev.writePieces, he]
  simp only [Dev.markWrite, hp, List.foldl_cons, List.foldl_nil, Mem.mergedCe_of_clean h]
  rfl

/-! ### Stores of software (R138, R353) -/

/-- The bytes after runs of stores. -/
def runBytes (f : Nat → Byte) (rs : List (Nat × List Byte)) : Nat → Byte :=
  rs.foldl (fun f r x => if r.1 ≤ x ∧ x < r.1 + r.2.length then byteAt r.2 (x - r.1) else f x) f

theorem runBytes_cons (f : Nat → Byte) (x : ByteStore) (rest : List ByteStore) :
    runBytes f (runsOf (x :: rest)) = runBytes (fun a => if a = x.addr then x.byte else f a) (runsOf rest) := by
  have hone : (fun a => if x.addr ≤ a ∧ a < x.addr + [x.byte].length then byteAt [x.byte] (a - x.addr) else f a) =
      fun a => if a = x.addr then x.byte else f a := by
    funext a
    by_cases ha : a = x.addr
    · subst ha; simp [byteAt]
    · rw [if_neg (by simp; omega), if_neg ha]
  rw [runsOf]
  split
  case h_1 a bs more hr =>
    split
    case isTrue ha =>
      rw [hr]
      subst ha
      refine congrArg (fun g => runBytes g more) (funext fun a => ?_)
      dsimp only
      by_cases h0 : a = x.addr
      · subst h0
        rw [if_pos (by simp), if_neg (by omega), if_pos rfl]
        simp [byteAt]
      · by_cases h1 : x.addr + 1 ≤ a ∧ a < x.addr + 1 + bs.length
        · rw [if_pos (by simp; omega), if_pos h1]
          obtain ⟨k, rfl⟩ : ∃ k, a = x.addr + 1 + k := ⟨a - (x.addr + 1), by omega⟩
          simp [byteAt, show x.addr + 1 + k - x.addr = k + 1 by omega]
        · rw [if_neg (by simp; omega), if_neg h1, if_neg h0]
    case isFalse =>
      rw [hr, ← hone]
      rfl
  case h_2 hr =>
    rw [hr, ← hone]
    rfl

theorem runBytes_other {f : Nat → Byte} {l : List ByteStore} {a : Nat} (h : ∀ w ∈ l, w.addr ≠ a) :
    runBytes f (runsOf l) a = f a := by
  induction l generalizing f with
  | nil => rfl
  | cons x rest ih =>
    rw [runBytes_cons, ih (fun w hw => h w (List.mem_cons_of_mem _ hw)), if_neg (Ne.symm (h x List.mem_cons_self))]

theorem runBytes_last {f : Nat → Byte} {l : List ByteStore} {w : ByteStore} (h : l.getLast? = some w) :
    runBytes f (runsOf l) w.addr = w.byte := by
  induction l generalizing f with
  | nil => cases h
  | cons x rest ih =>
    rw [runBytes_cons]
    cases rest with
    | nil =>
      obtain rfl : x = w := by simpa using h
      exact if_pos rfl
    | cons y more => exact ih (by rw [← h, List.getLast?_cons_cons])

/-- The host's stores to clean memory touch bytes alone, and the last store of an address wins. -/
theorem Dev.stores_of_clean {d : Dev} (h : Clean d.mem) (l : List ByteStore) :
    ∃ m', d.stores 0x86 l = { d with mem := m' } ∧ m' = { d.mem with cells := m'.cells } ∧ StoredBytes l d.mem m' := by
  suffices hs : ∀ (rs : List (Nat × List Byte)) (d : Dev), Clean d.mem → ∃ m', rs.foldl (fun (d : Dev) r =>
      d.markWrite 0 0x86 none [(r.1, 0, r.2.length)] r.2) d = { d with mem := m' } ∧
      m' = { d.mem with cells := m'.cells } ∧ m'.byte = runBytes d.mem.byte rs by
    obtain ⟨m', he, hf, hb⟩ := hs (runsOf l) d h
    refine ⟨m', he, hf, fun a ha => ?_, fun w hw => ?_⟩
    · rw [hb, runBytes_other ha]
    · rw [hb, runBytes_last hw]
  intro rs
  induction rs with
  | nil => exact fun d _ => ⟨d.mem, rfl, rfl, rfl⟩
  | cons r rs ih =>
    intro d hd
    obtain ⟨m1, he, hw⟩ := Dev.markWrite_of_clean hd 0 0x86 none r.1 r.2
    obtain ⟨m2, he2, hf2, hb2⟩ := ih { d with mem := m1 } (hw.clean hd)
    refine ⟨m2, ?_, ?_, ?_⟩
    · rw [List.foldl_cons, he, he2]
    · rw [hf2, hw.1]
    · rw [hb2]
      exact congrArg (fun g => runBytes g rs) (funext hw.2)

end Sys2Proof.Machine

/-! ## Mailbox, tick, interrupt and doorbell registers (R121, R122, R132 to R138, R150, R151) -/

namespace Sys2Proof.Machine

open Sys2Proof.Stm

theorem Dev.barOk_iff (d : Dev) (n : FnId) : d.barOk n.val = true ↔ BarUp d n := by
  have hn : n.val = 0 ↔ n = 0 := ⟨fun h => Fin.ext h, fun h => by rw [h]; rfl⟩
  simp only [Dev.barOk, BarUp, Dev.fnExists, Bool.and_eq_true, Bool.or_eq_true, Bool.not_eq_true', bne_iff_ne, ne_eq,
    beq_iff_eq, Nat.ble_eq, hn, and_assoc]

/-- A unit's copy of the tick is at most two ticks behind (R49). -/
theorem localTick_le (u t : Nat) : localTick u t ≤ t :=
  Nat.max_le.mpr ⟨Nat.sub_le _ _, Nat.max_le.mpr ⟨by omega, Nat.sub_le _ _⟩⟩

theorem le_localTick (u t : Nat) : t ≤ localTick u t + 2 := by
  have h : t - 2 ≤ localTick u t := (Nat.le_max_right _ _).trans (Nat.le_max_right _ _)
  omega

/-! ### Reads -/

/-- The shown registers of BAR0, and the offsets that read 0. -/
theorem Dev.bar0Read_of_reserved (d : Dev) (n : Nat) {off : Nat} (h : off = 0x1000 ∨ 0x3004 ≤ off) :
    d.bar0Read n off = 0 := by
  unfold Dev.bar0Read
  dsimp only
  rw [if_neg (by omega), if_neg (by omega), if_neg (by omega), if_neg (by omega), if_neg (by omega), if_neg (by omega),
    if_neg (by omega), if_neg (by simp; omega), if_neg (by simp; omega), if_neg (by simp; omega), if_neg (by omega)]

theorem Dev.barSize_two_eq_zero (d : Dev) (n : FnId) : d.barSize n.val 2 = 0 ↔ n ≠ 0 ∨ d.boot.cxl = 0 := by
  have hn : n.val = 0 ↔ n = 0 := ⟨fun h => Fin.ext h, fun h => by rw [h]; rfl⟩
  by_cases h : n = 0
  · by_cases hc : d.boot.cxl = 0 <;> simp [Dev.barSize, h, hc]
  · simp [Dev.barSize, h, hn]

theorem Dev.barRead_eq_BarValue (d : Dev) (n : FnId) (r : BarRead) : d.barRead n.val r = BarValue d n r := by
  unfold BarValue
  by_cases hok : r.len ≠ 4 ∨ r.off % 4 ≠ 0
  · rw [if_pos hok]
    exact if_pos (by simpa [dwordOk, Decidable.imp_iff_not_or] using hok)
  rw [if_neg hok]
  have hdw : dwordOk r.off r.len = true := by simpa [dwordOk] using hok
  cases hb : r.bar with
  | bar0 =>
    have hread : d.barRead n.val r = d.bar0Read n.val r.off := by simp [Dev.barRead, hdw, hb]
    rw [if_pos rfl, hread]
    by_cases h0 : r.off = 0
    · rw [if_pos h0, h0]
      rfl
    rw [if_neg h0]
    by_cases h4 : r.off = 0x1004
    · rw [if_pos h4, h4]
      rfl
    rw [if_neg h4]
    by_cases hz : r.off = 0x1000 ∨ 0x3004 ≤ r.off
    · rw [if_pos hz, Dev.bar0Read_of_reserved d n.val hz]
    · rw [if_neg hz]
  | bar2 =>
    have hread : d.barRead n.val r = if r.off < 262144 then d.bar2Read n.val r.off else 0 := by simp [Dev.barRead, hdw, hb]
    rw [if_neg (by decide), if_pos rfl, hread]
    by_cases hin : r.off < 262144
    · rw [if_pos hin]
      unfold Dev.bar2Read
      simp only [hin, true_and, Bool.and_eq_true, decide_eq_true_eq, Bool.not_eq_true', and_assoc]
    · rw [if_neg hin, if_neg (fun h => hin h.1)]
  | bar4 =>
    have hread : d.barRead n.val r = if d.barSize n.val 2 = 0 then 0 else d.bar4Read r.off := by
      simp [Dev.barRead, hdw, hb]
    rw [if_neg (by decide), if_neg (by decide), hread]
    simp only [Dev.barSize_two_eq_zero]
    split <;> rfl

/-- A read of FN_TICK_LO latches FN_TICK_HI. -/
theorem exec_fnTickLoRead {s : State} {n : FnId} (h : BarUp s.dev n) :
    exec (.fnTickLoRead ⟨n, ⟨.bar0, 8, 4⟩⟩) s = .next { s with
      dev := (s.dev.updFn n.val (fun f => { f with tickHi := s.dev.stamp 128 / 2 ^ 32 })).emit
        (.barRead n.val (s.dev.stamp 128 % 2 ^ 32)) } := by
  have hv : s.dev.barRead n.val ⟨.bar0, 8, 4⟩ = s.dev.stamp 128 % 2 ^ 32 := rfl
  refine exec_dev rfl ((if_pos ((Dev.barOk_iff s.dev n).mpr h)).trans ?_)
  rw [← hv]
  rfl

/-! ### Vector masks -/

theorem Dev.barWrite_vectorControl (d : Dev) (n : FnId) (v : Fin 32) (x : BitVec 32) :
    d.barWrite n.val (vectorControl v x) = d.msixMask n.val v.val (x.getLsbD 0) := by
  have hv := v.isLt
  have h1 : (8192 + 16 * v.val + 12) % 4 = 0 := by omega
  have h2 : 8192 + 16 * v.val + 12 - 8192 = 16 * v.val + 12 := by omega
  have h3 : (16 * v.val + 12) / 16 = v.val := by omega
  have h4 : (16 * v.val + 12) % 16 = 12 := by omega
  have hdw : dwordOk (8192 + 16 * v.val + 12) 4 = true := by simp [dwordOk, h1]
  unfold Dev.barWrite vectorControl
  dsimp only
  rw [if_neg (by simp [hdw])]
  unfold Dev.bar0Write
  rw [if_neg (by omega), if_neg (by omega), if_neg (by omega), if_neg (by simp; omega), if_pos (by simp; omega), h2]
  unfold Dev.msixWrite
  dsimp only
  rw [h3, h4, if_neg (by omega), if_neg (by omega), if_neg (by omega)]
  rfl

section
variable {d : Dev} {n v : Nat}

theorem Dev.msixMask_of_mask : d.msixMask n v true = d.setFn n { d.fn n with unmasked := putBit (d.fn n).unmasked v false } := rfl

theorem Dev.msixMask_of_pending (he : (d.fn n).msixEn = true) (hp : (d.fn n).pba.testBit v = true) :
    d.msixMask n v false = (d.setFn n { d.fn n with
      unmasked := putBit (d.fn n).unmasked v true
      pba := putBit (d.fn n).pba v false }).emit (.msix n v) := by
  simp only [Dev.msixMask, he, bitAt, hp, Dev.updFn, Dev.fn_setFn_same, Bool.not_false, Bool.and_self, if_true]
  simp only [Dev.setFn, KMap.put_put]

theorem Dev.msixMask_of_clear (hp : (d.fn n).pba.testBit v = false) :
    d.msixMask n v false = d.setFn n { d.fn n with unmasked := putBit (d.fn n).unmasked v true } := by
  simp [Dev.msixMask, bitAt, hp]

end

theorem exec_msixUnmask {s : State} {n : FnId} {w : BarWrite} (h : BarUp s.dev n) :
    exec (.msixUnmask n w) s = .next { s with dev := s.dev.barWrite n.val w } :=
  exec_dev rfl (by exact if_pos ((Dev.barOk_iff _ _).mpr h))

/-! ### The mailbox -/

theorem Dev.mbxGo_of_idle {d : Dev} {n : Nat} {b : List Byte} (q : Bool) (hbusy : (d.fn n).busy = false)
    (hb : b.length = 1040) (hr : (d.fn n).rsp.length = 1040) :
    (d.updFn n (fun f => { f with
      req := if f.busy then f.req else (b ++ List.replicate 1040 0).take 1040
      irq := q })).mbxSubmit n =
      { d with fns := d.fns.put n { d.fn n with req := b, busy := true, done := false, irq := q } } := by
  have htake : ∀ l : List Byte, l.length = 1040 → (l ++ List.replicate 1040 0).take 1040 = l := fun l hl => by
    rw [List.take_append_of_le_length (by omega), List.take_of_length_le (by omega)]
  simp only [Dev.mbxSubmit, Dev.updFn, Dev.fn_setFn_same, hbusy, Bool.false_eq_true, if_false, htake b hb,
    htake _ hr]
  simp only [Dev.setFn, KMap.put_put]

theorem Dev.mbxGo_of_busy {d : Dev} {n : Nat} (b : List Byte) (q : Bool) (hbusy : (d.fn n).busy = true) :
    (d.updFn n (fun f => { f with
      req := if f.busy then f.req else (b ++ List.replicate 1040 0).take 1040
      irq := q })).mbxSubmit n =
      { d with fns := d.fns.put n { d.fn n with irq := q } } := by
  simp only [Dev.mbxSubmit, Dev.updFn, Dev.fn_setFn_same, hbusy, if_true]
  simp only [Dev.setFn, KMap.put_put]

/-! ### Doorbells -/

theorem Dev.ringOwner_of_running {d : Dev} {k : Nat} (h : (d.ring k).st = .enabled ∨ (d.ring k).st = .draining) :
    d.ringOwner k = (d.ring k).fn := if_pos (by obtain h | h := h <;> rw [h] <;> rfl)

section
variable {d : Dev} {n : FnId} {k v : Nat} (hs : d.serving = true) (hb : BarUp d n) (hf : (d.ring k).fn = n.val)
include hs hb hf

/-- The doorbell of an enabled ring, written by its owner. -/
theorem Dev.sqTail_of_owner (he : (d.ring k).st = .enabled) : d.sqTail n.val k v =
    if v < 2 ^ (d.ring k).size then
      d.setRing k (if (d.ring k).pending = 0 && ({ d.ring k with sqTail := v } : Ring).pending != 0 then
        { d.ring k with sqTail := v, firstPend := d.pwr.tick } else { d.ring k with sqTail := v })
    else d.doorbellRange k :=
  if_pos (by rw [hs, (Dev.barOk_iff d n).mpr hb, Dev.ringOwner_of_running (.inl he), hf, he]; simp)

theorem Dev.sqTail_of_inside (he : (d.ring k).st = .enabled) (hv : v < 2 ^ (d.ring k).size) :
    ∃ p, d.sqTail n.val k v = d.setRing k { d.ring k with sqTail := v, firstPend := p } := by
  rw [Dev.sqTail_of_owner hs hb hf he, if_pos hv]
  split
  · exact ⟨d.pwr.tick, rfl⟩
  · exact ⟨(d.ring k).firstPend, rfl⟩

theorem Dev.cqHead_of_posted (he : (d.ring k).st = .enabled ∨ (d.ring k).st = .draining) (hv : v < 2 ^ (d.ring k).size)
    (hp : (v + 2 ^ (d.ring k).size - (d.ring k).cqHead) % 2 ^ (d.ring k).size ≤
      ((d.ring k).cqTail + 2 ^ (d.ring k).size - (d.ring k).cqHead) % 2 ^ (d.ring k).size) :
    d.cqHead n.val k v = d.setRing k { d.ring k with
      cqHead := v
      unrel := ((d.ring k).cqTail + 2 ^ (d.ring k).size - v) % 2 ^ (d.ring k).size } := by
  have hrun : ((d.ring k).st == .enabled || (d.ring k).st == .draining) = true := by obtain h | h := he <;> rw [h] <;> rfl
  refine (if_pos ?_).trans (if_pos ?_)
  · rw [hs, (Dev.barOk_iff d n).mpr hb, Dev.ringOwner_of_running he, hf, hrun]
    simp
  · exact Bool.and_eq_true_iff.mpr ⟨decide_eq_true hv, Nat.ble_eq.mpr hp⟩

end

theorem RingId.val_ne {j k : RingId} (h : j ≠ k) : j.val ≠ k.val := fun he => h (Fin.ext he)

/-- A doorbell that is discarded counts at its ring and by the code of R382. -/
theorem Dev.doorbellRange_eq (d : Dev) (k : Nat) :
    d.doorbellRange k = (d.bump 0x3025 (k + 1) 0 32).bump 0xA010 0x23 (d.ringOwner k) 32 := rfl

theorem Dev.doorbellRange_counts {d : Dev} {k : Nat} (hk : k < 64) (ho : d.ringOwner k < 256) :
    (d.doorbellRange k).obj 0x3025 (k + 1) 0 = Nat.min (d.obj 0x3025 (k + 1) 0 + 1) (2 ^ 32 - 1) := by
  have hkey : okey 0x3025 (k + 1) 0 ≠ okey 0xA010 0x23 (d.ringOwner k) := by
    unfold okey
    omega
  rw [Dev.doorbellRange_eq, Dev.obj_bump_other _ hkey, Dev.obj_bump_same]

/-- Settles O19: each register's write through its equation; the stores of a doorbell are stores to clean memory. -/
theorem barRegisters : Obligations.BarRegisters := by
  refine ⟨fun s n b q hb hbusy hl hr =>
      exec_dev rfl (by exact (if_pos ((Dev.barOk_iff _ _).mpr hb)).trans (Dev.mbxGo_of_idle q hbusy hl hr)),
    fun s n b q hb hbusy =>
      exec_dev rfl (by exact (if_pos ((Dev.barOk_iff _ _).mpr hb)).trans (Dev.mbxGo_of_busy b q hbusy)),
    fun s n b q hb => exec_dev rfl (by exact if_neg (fun h => hb ((Dev.barOk_iff _ _).mp h))),
    fun s n hb => exec_dev rfl (by exact if_pos ((Dev.barOk_iff _ _).mpr hb)), fun s n hb => ?tick, fun s n r hb hr => ?value,
    fun s n w hb hw => ?partWrite, fun s n v x hb hx => ?masks, fun s n v x hb hx he hp => ?sends,
    fun s n v x hb hx hp => ?unmasks, fun s n k v l hs hb he hf hv hl ha => ?rings, fun s n k v hs hb he hf hv => ?discards,
    fun s n k v hs hb he hf hv hp => ?releases⟩
  case tick =>
    refine ⟨_, exec_fnTickLoRead hb, localTick 128 s.dev.pwr.tick, localTick_le _ _, le_localTick _ _, rfl, ?_, rfl⟩
    exact congrArg Fn.tickHi (Dev.fn_setFn_same _ _ _)
  case value =>
    refine exec_dev rfl ((if_pos ((Dev.barOk_iff s.dev n).mpr hb)).trans ?_)
    have hnot : (r.bar == .bar0 && r.off == 8 && r.len == 4) = false := by
      rw [Bool.eq_false_iff]
      simp only [ne_eq, Bool.and_eq_true, beq_iff_eq]
      rintro ⟨⟨h1, h2⟩, h3⟩
      obtain h | h | h := hr
      · exact h h1
      · exact h h2
      · exact h h3
    dsimp only
    rw [hnot, if_neg Bool.false_ne_true, Dev.barRead_eq_BarValue]
    rfl
  case partWrite =>
    rw [exec_msixUnmask hb]
    have hd : s.dev.barWrite n.val w = s.dev := if_pos (by simpa [dwordOk, Decidable.imp_iff_not_or] using hw)
    rw [hd]
  case masks =>
    refine ⟨_, exec_msixUnmask hb, ?_⟩
    rw [Dev.barWrite_vectorControl, hx, Dev.msixMask_of_mask]
    refine ⟨rfl, ?_, ?_⟩
    · rw [Dev.fn_setFn_same]
      exact testBit_putBit (s.dev.fn n.val).unmasked v.val false
    · rw [Dev.fn_setFn_same]
  case sends =>
    refine ⟨_, exec_msixUnmask hb, ?_⟩
    rw [Dev.barWrite_vectorControl, hx, Dev.msixMask_of_pending he hp]
    refine ⟨rfl, rfl, ?_, ?_⟩
    · exact (congrArg (fun f : Fn => f.unmasked.testBit v.val) (Dev.fn_setFn_same s.dev n.val _)).trans
        (testBit_putBit (s.dev.fn n.val).unmasked v.val true)
    · exact (congrArg (fun f : Fn => f.pba.testBit v.val) (Dev.fn_setFn_same s.dev n.val _)).trans
        (testBit_putBit (s.dev.fn n.val).pba v.val false)
  case unmasks =>
    refine ⟨_, exec_msixUnmask hb, ?_⟩
    rw [Dev.barWrite_vectorControl, hx, Dev.msixMask_of_clear hp]
    refine ⟨rfl, ?_, ?_⟩
    · rw [Dev.fn_setFn_same]
      exact testBit_putBit (s.dev.fn n.val).unmasked v.val true
    · rw [Dev.fn_setFn_same]
  case rings =>
    obtain ⟨m, hm, -, hother, hlast⟩ := Dev.stores_of_clean (d := s.dev) ⟨hl, ha⟩ l
    obtain ⟨p, hp⟩ := Dev.sqTail_of_inside (d := { s.dev with mem := m }) (n := n) (k := k.val) hs hb hf he hv
    refine ⟨_, exec_dev rfl (by exact (congrArg (fun d => Dev.sqTail d n.val k.val v.toNat) hm).trans hp), ?_⟩
    refine ⟨rfl, ?_, fun j hj => Dev.ring_setRing_other _ _ (RingId.val_ne hj), hother, hlast⟩
    dsimp only
    rw [Dev.ring_setRing_same]
    rfl
  case discards =>
    have hq : s.dev.sqTail n.val k.val v.toNat = s.dev.doorbellRange k.val :=
      (Dev.sqTail_of_owner hs hb hf he).trans (if_neg (by omega))
    refine ⟨_, exec_dev rfl hq, rfl, Dev.doorbellRange_counts k.isLt ?_⟩
    rw [Dev.ringOwner_of_running (.inl he), hf]
    exact n.isLt.trans (by decide)
  case releases =>
    refine ⟨_, exec_dev rfl (Dev.cqHead_of_posted hs hb hf he hv hp), ⟨rfl, fun j hj =>
      Dev.ring_setRing_other _ _ (RingId.val_ne hj)⟩, ?_⟩
    exact Dev.ring_setRing_same _ _ _

end Sys2Proof.Machine

/-! ## How a job ends (R149, R178, R193, R383), and ring control (R126, R136, R152, R153) -/

namespace Sys2Proof.Machine

open Sys2Proof.Stm

/-- What releasing a job's tiles and clearing its banks may touch. -/
def Dev.Freed (d e : Dev) : Prop := e = { d with tiles := e.tiles, clk := e.clk, scout := e.scout }

theorem Dev.Freed.refl (d : Dev) : d.Freed d := rfl

theorem Dev.Freed.trans {a b c : Dev} (h : a.Freed b) (h' : b.Freed c) : a.Freed c := by
  rw [Dev.Freed] at *
  rw [h', h]

theorem Dev.wakeChips_frame (d : Dev) (cs : List Nat) :
    cs.foldl Dev.wakeChip d = { d with clk := (cs.foldl Dev.wakeChip d).clk } :=
  foldl_keeps (fun e => e = { d with clk := e.clk }) _ (fun e c he => by rw [he]; rfl) cs d rfl

theorem Dev.wakeArrays_frame (d : Dev) (as : List Nat) : d.wakeArrays as = { d with clk := (d.wakeArrays as).clk } :=
  Dev.wakeChips_frame d _

theorem Dev.startClear_freed (d : Dev) (t : Nat) : d.Freed (d.startClear t) := by
  unfold Dev.startClear
  split <;> exact rfl

/-- A released tile before its clear: stopped, without a job, idle when it ran. -/
def Dev.restTile (d : Dev) (t : Nat) : Dev :=
  let d := d.updTile t (fun x => { x.stop with job := none, rank := 0 })
  if (d.tile t).power == .run then d.idleTile t else d

theorem Dev.releaseTile_eq (d : Dev) (t : Nat) : d.releaseTile t =
    if (d.restTile t).clearEvery && !((d.restTile t).tile t).clearing then (d.restTile t).startClear t
    else d.restTile t := rfl

theorem Dev.restTile_freed (d : Dev) (t : Nat) : d.Freed (d.restTile t) := by
  unfold Dev.restTile
  dsimp only
  split <;> exact rfl

theorem Dev.releaseTile_freed (d : Dev) (t : Nat) : d.Freed (d.releaseTile t) := by
  rw [Dev.releaseTile_eq]
  split
  · exact (d.restTile_freed t).trans (Dev.startClear_freed _ t)
  · exact d.restTile_freed t

theorem Dev.releaseTiles_freed (d : Dev) (ts : List Nat) : d.Freed (d.releaseTiles ts) :=
  foldl_keeps (fun e => d.Freed e) _ (fun e t he => he.trans (e.releaseTile_freed t)) ts d (Dev.Freed.refl d)

theorem Dev.clearJobBanks_frame (d : Dev) (x : Job) :
    d.clearJobBanks x = { d with clk := (d.clearJobBanks x).clk, scout := (d.clearJobBanks x).scout } := by
  unfold Dev.clearJobBanks
  refine foldl_keeps (fun (e : Dev) => e = { d with clk := e.clk, scout := e.scout }) _ (fun e sp he => ?_) _ d rfl
  dsimp only
  refine foldl_keeps (fun (e : Dev) => e = { d with clk := e.clk, scout := e.scout }) _ (fun e a he => by rw [he]; rfl) _ _ ?_
  rw [he, Dev.wakeArrays_frame]

/-- Only a RUN job has banks of its own. -/
theorem Dev.clearJobBanks_of_not_run (d : Dev) {x : Job} (h : x.opcode ≠ 1) : d.clearJobBanks x = d := by
  simp [Dev.clearJobBanks, h]

/-- A job that has ended keeps its opcode, its identity and what its completion says. -/
def Job.endedAs (x : Job) (status tick key : Nat) : Job :=
  { x with st := .ended status, tiles := [], ckpts := [], endTick := tick, endKey := key }

section
variable {d : Dev} {j : Nat} {x : Job} (hx : KMap.find d.jobs j = some x) (hst : ∀ n, x.st ≠ .ended n)
include hx hst

/-- A job that has not ended ends: its requests are withdrawn, its tiles released, its banks cleared. -/
theorem Dev.endJob_of_running (status key : Nat) : d.endJob j status key =
    (((d.withdraw (fun r => r.job == some j)).releaseTiles x.tiles).clearJobBanks x).setJob j
      (x.endedAs status d.pwr.tick key) := by
  obtain ⟨e, he⟩ : ∃ e, e = ((d.withdraw (fun r => r.job == some j)).releaseTiles x.tiles).clearJobBanks x := ⟨_, rfl⟩
  have hp : e.pwr = d.pwr := by
    rw [he, Dev.clearJobBanks_frame, Dev.releaseTiles_freed (d.withdraw _) x.tiles]
    rfl
  unfold Dev.endJob
  rw [hx]
  dsimp only
  rw [← he, hp]
  cases h : x.st with
  | ended n => exact absurd h (hst n)
  | waiting => rfl
  | assigned => rfl
  | running => rfl
  | offTile hold => rfl

theorem Dev.endJob_frame (status key : Nat) : d.endJob j status key = { d with
    jobs := d.jobs.put j (x.endedAs status d.pwr.tick key)
    stu := (d.withdraw (fun r => r.job == some j)).stu
    tiles := (d.endJob j status key).tiles
    clk := (d.endJob j status key).clk
    scout := (d.endJob j status key).scout } := by
  obtain ⟨e, he⟩ : ∃ e, e = ((d.withdraw (fun r => r.job == some j)).releaseTiles x.tiles).clearJobBanks x := ⟨_, rfl⟩
  have hf : e = { d.withdraw (fun r => r.job == some j) with tiles := e.tiles, clk := e.clk, scout := e.scout } := by
    rw [he, Dev.clearJobBanks_frame, Dev.releaseTiles_freed (d.withdraw _) x.tiles]
  rw [Dev.endJob_of_running hx hst, ← he, Dev.setJob, show e.jobs = d.jobs by rw [hf]; rfl]
  rw [hf]
  rfl

/-- A job without tiles that is no RUN ends: its requests are withdrawn. -/
theorem Dev.endJob_of_idle (ht : x.tiles = []) (ho : x.opcode ≠ 1) (status key : Nat) : d.endJob j status key = { d with
    jobs := d.jobs.put j (x.endedAs status d.pwr.tick key)
    stu := (d.withdraw (fun r => r.job == some j)).stu } := by
  rw [Dev.endJob_of_running hx hst, ht, Dev.clearJobBanks_of_not_run _ ho]
  rfl

/-- A job without tiles leaves the tiles as they are. -/
theorem Dev.endJob_tiles (ht : x.tiles = []) (status key : Nat) : (d.endJob j status key).tiles = d.tiles := by
  rw [Dev.endJob_of_running hx hst, ht]
  simp only [Dev.setJob_tiles]
  rw [Dev.clearJobBanks_frame]
  rfl

theorem Dev.endJob_jobs (status key : Nat) :
    (d.endJob j status key).jobs = d.jobs.put j (x.endedAs status d.pwr.tick key) := by
  rw [Dev.endJob_frame hx hst]

end

/-! ### Ring control -/

theorem Dev.ringEnable_of_ok {d : Dev} {k : Nat} (hs : d.serving = true)
    (hst : (d.ring k).st = .disabled ∨ (d.ring k).st = .error) : d.ringEnable k =
      if d.obj 0x3011 (k + 1) 0 != 0 && d.obj 0x3012 (k + 1) 0 != 0 && d.obj 0x3011 (k + 1) 0 % 4096 == 0 &&
          d.obj 0x3012 (k + 1) 0 % 4096 == 0 && d.fnExists (d.obj 0x3010 (k + 1) 0) &&
          (d.fn (d.obj 0x3010 (k + 1) 0)).busMaster then
        d.setRing k {
          st := .enabled, fn := d.obj 0x3010 (k + 1) 0, sqBase := d.obj 0x3011 (k + 1) 0, cqBase := d.obj 0x3012 (k + 1) 0
          size := d.obj 0x3013 (k + 1) 0, pasid := d.obj 0x3014 (k + 1) 0, vec := d.obj 0x301A (k + 1) 0
          lastFetch := d.pwr.tick }
      else (d.setRing k { d.ring k with st := .error }).report
        { code := 0x20, tenant := d.obj 0x3010 (k + 1) 0, source := 0x80, detail := k } :=
  if_neg (by obtain h | h := hst <;> simp [hs, h])

/-- A ring that stops fetching: it drains, and its waiting SQ read is withdrawn. -/
theorem Dev.stopFetch_eq (d : Dev) (k : Nat) : d.stopFetch k = { d with
    rings := d.rings.put k { d.ring k with st := .draining }
    stu := (d.withdraw (fun r => r.source == 0x80 && r.ring == k && r.tag == 0)).stu } := rfl

theorem Dev.ring_stopFetch (d : Dev) (k : Nat) : (d.stopFetch k).ring k = { d.ring k with st := .draining } :=
  Dev.ring_setRing_same _ _ _

theorem Dev.ringJobs_eq_nil {d : Dev} {k : Nat} : d.ringJobs k = [] ↔ ∀ e ∈ d.jobs, e.2.ring ≠ k := by
  simp [Dev.ringJobs, List.filter_eq_nil_iff]

/-- The end of a drain: a ring of which no job is left is DISABLED. -/
theorem Dev.ringDrainCheck_of_none {d : Dev} {k : Nat} (hst : (d.ring k).st = .draining) (hj : ∀ e ∈ d.jobs, e.2.ring ≠ k) :
    d.ringDrainCheck k = d.setRing k { d.ring k with st := .disabled } :=
  if_pos (by rw [hst, Dev.ringJobs_eq_nil.mpr hj]; rfl)

theorem Dev.ringDrainCheck_of_some {d : Dev} {k : Nat} {e : Nat × Job} (he : e ∈ d.jobs) (hr : e.2.ring = k) :
    d.ringDrainCheck k = d := by
  have hne : d.ringJobs k ≠ [] := fun h => Dev.ringJobs_eq_nil.mp h e he hr
  exact if_neg (by simp [hne])

theorem Dev.ringDrainCheck_of_not_draining {d : Dev} {k : Nat} (h : (d.ring k).st ≠ .draining) : d.ringDrainCheck k = d :=
  if_neg (by simp [h])

/-- A stopped ring without a job is DISABLED at once. -/
theorem Dev.stopFetch_drained {d : Dev} {k : Nat} (hj : ∀ e ∈ d.jobs, e.2.ring ≠ k) :
    (d.stopFetch k).ringDrainCheck k = { d with
      rings := d.rings.put k { d.ring k with st := .disabled }
      stu := (d.withdraw (fun r => r.source == 0x80 && r.ring == k && r.tag == 0)).stu } := by
  rw [Dev.ringDrainCheck_of_none (d := d.stopFetch k) (by rw [Dev.ring_stopFetch]) hj, Dev.ring_stopFetch, Dev.stopFetch_eq]
  simp only [Dev.setRing, KMap.put_put]

section
variable {d : Dev} {k : Nat} (h : (d.ring k).st = .enabled)
include h

theorem Dev.ringDrain_of_enabled : d.ringDrain k = (d.stopFetch k).ringDrainCheck k := if_pos (by rw [h]; rfl)

theorem Dev.ringAbort_of_enabled : d.ringAbort k = (((d.stopFetch k).ringJobs k).foldl (fun (d : Dev) e =>
    if d.runsFree e.2 then d.setJob e.1 { e.2 with cancel := true } else d.endJob e.1 5 0) (d.stopFetch k)).ringDrainCheck k :=
  if_pos (by rw [h]; rfl)

theorem Dev.ringAbort_of_none (hj : ∀ e ∈ d.jobs, e.2.ring ≠ k) : d.ringAbort k = (d.stopFetch k).ringDrainCheck k := by
  have hnil : (d.stopFetch k).ringJobs k = [] := Dev.ringJobs_eq_nil.mpr hj
  rw [Dev.ringAbort_of_enabled h, hnil]
  rfl

theorem Dev.ringAbort_of_one {j : Nat} {x : Job} (hj : d.jobs = [(j, x)]) (hx : x.ring = k) : d.ringAbort k =
    (if (d.stopFetch k).runsFree x then (d.stopFetch k).setJob j { x with cancel := true }
      else (d.stopFetch k).endJob j 5 0).ringDrainCheck k := by
  have hone : (d.stopFetch k).ringJobs k = [(j, x)] := by
    have hjobs : (d.stopFetch k).jobs = [(j, x)] := hj
    rw [Dev.ringJobs, hjobs]
    simp [hx]
  rw [Dev.ringAbort_of_enabled h, hone]
  rfl

end

theorem KMap.put_singleton {α : Type} (j : Nat) (x y : α) : KMap.put ([(j, x)] : KMap α) j y = [(j, y)] := by
  simp [KMap.put]

theorem KMap.find_singleton {α : Type} (j : Nat) (x : α) : KMap.find ([(j, x)] : KMap α) j = some x := by
  simp [KMap.find]

theorem onlyRingStop_of {s : State} {k : RingId} (x : Ring) :
    OnlyRingStop k s { s with
      dev := { s.dev with
        rings := s.dev.rings.put k.val x
        stu := (s.dev.withdraw (fun r => r.source == 0x80 && r.ring == k.val && r.tag == 0)).stu } } :=
  ⟨rfl, fun _ hj => Dev.ring_setRing_other s.dev x (RingId.val_ne hj)⟩

/-- Settles O20: ENABLE by its checks; a stopped ring by whether a job of it is left. -/
theorem ringControl : Obligations.RingControl := by
  refine ⟨fun s k hs hst hq0 hq hc0 hc hf hb => ?enables, fun s k hs hst hq0 => ?noQueue, fun s k h => ?drains,
    fun s k h hj => ?abortsIdle, fun s k j x h hj hx hw ht => ?cancels, fun s k j x h hj hx hr ht hst => ?marks⟩
  case enables =>
    have hex : s.dev.fnExists (s.dev.obj 0x3010 (k.val + 1) 0) = true := by
      simp [Dev.fnExists, hf]
    refine ⟨_, exec_dev rfl ((Dev.ringEnable_of_ok hs hst).trans (if_pos ?_)), ⟨rfl, fun j hj =>
      Dev.ring_setRing_other _ _ (RingId.val_ne hj)⟩, Dev.ring_setRing_same _ _ _⟩
    simp [hq0, hq, hc0, hc, hex, hb]
  case noQueue =>
    have hbad : s.dev.ringEnable k.val = (s.dev.setRing k.val { s.dev.ring k.val with st := .error }).report
        { code := 0x20, tenant := s.dev.obj 0x3010 (k.val + 1) 0, source := 0x80, detail := k.val } :=
      (Dev.ringEnable_of_ok hs (.inl hst)).trans (if_neg (by simp [hq0]))
    have hrep := Dev.report_rep (s.dev.setRing k.val { s.dev.ring k.val with st := .error })
      { code := 0x20, tenant := s.dev.obj 0x3010 (k.val + 1) 0, source := 0x80, detail := k.val }
    rw [← hbad] at hrep
    have hring : ∀ j, (s.dev.ringEnable k.val).ring j = (s.dev.setRing k.val { s.dev.ring k.val with st := .error }).ring j :=
      fun j => by rw [Dev.ring, hrep.rings]; rfl
    refine ⟨_, exec_dev rfl rfl, ?_, ?_, onlyDev_withDev _ _, fun j hj => ?_⟩
    · exact (congrArg Ring.st (hring k.val)).trans (congrArg Ring.st (Dev.ring_setRing_same _ _ _))
    · dsimp only
      rw [hrep.rings]
      exact butReport_of_rep hrep
    · exact (hring j.val).trans (Dev.ring_setRing_other _ _ (RingId.val_ne hj))
  case drains =>
    by_cases hj : ∀ e ∈ s.dev.jobs, e.2.ring ≠ k.val
    · refine ⟨_, exec_dev rfl ((Dev.ringDrain_of_enabled h).trans (Dev.stopFetch_drained hj)), onlyRingStop_of _,
        fun _ => Dev.ring_setRing_same _ _ _, fun ⟨e, he, hr⟩ => absurd hr (hj e he)⟩
    · obtain ⟨e, he, hr⟩ : ∃ e ∈ s.dev.jobs, e.2.ring = k.val := by
        by_contra hno
        exact hj fun e he hr => hno ⟨e, he, hr⟩
      exact ⟨_, exec_dev rfl ((Dev.ringDrain_of_enabled h).trans (Dev.ringDrainCheck_of_some (d := s.dev.stopFetch k.val) he hr)),
        onlyRingStop_of _, fun hno => absurd hr (hno e he), fun _ => Dev.ring_setRing_same _ _ _⟩
  case abortsIdle =>
    exact ⟨_, exec_dev rfl ((Dev.ringAbort_of_none h hj).trans (Dev.stopFetch_drained hj)), onlyRingStop_of _,
      Dev.ring_setRing_same _ _ _⟩
  case cancels =>
    have hfind : KMap.find (s.dev.stopFetch k.val).jobs j = some x :=
      (congrArg (fun m => KMap.find m j) hj).trans (KMap.find_singleton j x)
    have hlive : ∀ n, x.st ≠ .ended n := fun n => by rw [hw]; exact JobState.noConfusion
    have hfree : (s.dev.stopFetch k.val).runsFree x = false := by simp [Dev.runsFree, hw]
    have hjobs : ((s.dev.stopFetch k.val).endJob j 5 0).jobs = [(j, x.endedAs 5 s.dev.pwr.tick 0)] := by
      rw [Dev.endJob_jobs hfind hlive]
      exact (congrArg (fun m => KMap.put m j _) hj).trans (KMap.put_singleton j x _)
    have hd : s.dev.ringAbort k.val = (s.dev.stopFetch k.val).endJob j 5 0 := by
      rw [Dev.ringAbort_of_one h hj hx, hfree, if_neg Bool.false_ne_true]
      exact Dev.ringDrainCheck_of_some (e := (j, x.endedAs 5 s.dev.pwr.tick 0)) (by rw [hjobs]; simp) hx
    refine ⟨_, exec_dev rfl hd, ?_, ⟨_, hjobs, rfl, rfl⟩, Dev.endJob_tiles hfind hlive ht 5 0, ?_⟩
    · dsimp only
      rw [Dev.endJob_frame hfind hlive]
      exact congrArg Ring.st (Dev.ring_stopFetch s.dev k.val)
    · dsimp only
      rw [Dev.endJob_frame hfind hlive]
      rfl
  case marks =>
    have hfree : (s.dev.stopFetch k.val).runsFree x = true := by
      have htile : ∀ i, (s.dev.stopFetch k.val).tile i = s.dev.tile i := fun _ => rfl
      simp only [Dev.runsFree, hr, Bool.and_eq_true, List.all_eq_true, Bool.not_eq_true', Tile.stalled, htile]
      exact ⟨⟨rfl, by simpa using ht⟩, fun i hi => by rw [hst i hi]; rfl⟩
    have hjobs : ((s.dev.stopFetch k.val).setJob j { x with cancel := true }).jobs = [(j, { x with cancel := true })] :=
      (congrArg (fun m => KMap.put m j _) hj).trans (KMap.put_singleton j x _)
    have hd : s.dev.ringAbort k.val = (s.dev.stopFetch k.val).setJob j { x with cancel := true } := by
      rw [Dev.ringAbort_of_one h hj hx, hfree, if_pos rfl]
      exact Dev.ringDrainCheck_of_some (e := (j, { x with cancel := true })) (by rw [hjobs]; simp) hx
    exact ⟨_, exec_dev rfl hd, congrArg Ring.st (Dev.ring_stopFetch s.dev k.val), hjobs, rfl⟩

end Sys2Proof.Machine

/-! ## The fetch of an entry (R138 to R144) -/

namespace Sys2Proof.Machine

open Sys2Proof.Stm

/-- The ring after a fetch (R143, R144). -/
def Dev.fetched (d : Dev) (k : Nat) : Dev :=
  { d.updRing k (fun r => { r with
      sqHead := (r.sqHead + 1) % 2 ^ r.size, lastFetch := d.pwr.tick
      turns := if d.lastTurn = k then (if r.turns < d.obj 0x3016 (k + 1) 0 then r.turns + 1 else 1) else 1 }) with
    lastTurn := k }

theorem Dev.fetched_head (d : Dev) (k : Nat) :
    ((d.fetched k).ring k).sqHead = ((d.ring k).sqHead + 1) % 2 ^ (d.ring k).size :=
  congrArg Ring.sqHead (Dev.ring_setRing_same _ _ _)

/-- The next entry is accepted as read. -/
theorem exec_ringFetchEntry {s : State} {k e : Nat} {d : Dev} (hs : s.dev.serving = true) (h : NextEntry s.dev k e d)
    (he : e < 2 ^ 512) : exec .ringFetchEntry s = .next { s with dev := (d.accept k e).fetched k } := by
  obtain ⟨hk, ps, d1, d2, ht, ho, hr⟩ := h
  have hback : leNat (leBytes e 64) = e := by
    rw [leNat_leBytes]
    exact Nat.mod_eq_of_lt (lt_of_lt_of_eq he (pow_mul 2 8 64))
  have hfetch : s.dev.fetch = (d.accept k e).fetched k := by
    unfold Dev.fetch
    rw [hk]
    dsimp only
    rw [ht]
    dsimp only
    rw [ho]
    dsimp only
    rw [hr]
    dsimp only
    rw [Dev.hbmErrors_zero, hback]
    rfl
  exact exec_dev rfl ((if_pos hs).trans hfetch)

/-- An entry that fails the format check. -/
theorem Dev.accept_of_bad {d : Dev} {k e : Nat} (hf : d.obj 0xD015 (k + 1) 0 = 0) (hbad : sqOk e = false) :
    d.accept k e = ({ d with nextJob := d.nextJob + 1 } : Dev).setJob d.nextJob {
      ring := k, tenant := (d.newJob k e).tenant, pasid := (d.newJob k e).pasid, sqIndex := (d.newJob k e).sqIndex
      userTag := (d.newJob k e).userTag, fetchTick := (d.newJob k e).fetchTick, cls := (d.newJob k e).cls
      st := .ended 1, endTick := d.pwr.tick } := by
  unfold Dev.accept
  dsimp only
  rw [hf, if_pos rfl, if_pos (by rw [hbad]; rfl)]

/-- A well-formed entry is a job of the device. -/
def Dev.taken (d : Dev) (k e : Nat) : Dev := ({ d with nextJob := d.nextJob + 1 } : Dev).setJob d.nextJob (d.newJob k e)

section
variable {d : Dev} {k e : Nat} (he : e < 2 ^ 512) (hop : e / 2 ^ 264 % 256 = 0) (hdl : d.stamp 128 < e / 2 ^ 448)

theorem Dev.newJob_opcode (hop : e / 2 ^ 264 % 256 = 0) : (d.newJob k e).opcode = 0 :=
  (bitsAt_eq e 264 8).trans hop

theorem Dev.newJob_deadline (he : e < 2 ^ 512) (hdl : d.stamp 128 < e / 2 ^ 448) : (d.newJob k e).deadline = e / 2 ^ 448 := by
  have hlt : e / 2 ^ 448 < 2 ^ 64 := Nat.div_lt_of_lt_mul (lt_of_lt_of_eq he (pow_add 2 448 64))
  have hbits : bitsAt e 448 64 = e / 2 ^ 448 := (bitsAt_eq e 448 64).trans (Nat.mod_eq_of_lt hlt)
  have hne : bitsAt e 448 64 ≠ 0 := by
    rw [hbits]
    omega
  exact (if_neg hne).trans hbits

include he hop hdl

/-- A NOP entry with time left becomes a job, or fails for want of tiles (R142). -/
theorem Dev.accept_of_nop (hf : d.obj 0xD015 (k + 1) 0 = 0) (hok : sqOk e = true) : d.accept k e =
    if d.tileLimit (d.ring k).fn < e / 2 ^ 248 % 256 then (d.taken k e).endJob d.nextJob 9 0 else d.taken k e := by
  obtain ⟨x, hx⟩ : ∃ x, x = d.newJob k e := ⟨_, rfl⟩
  have hopc : x.opcode = 0 := by rw [hx]; exact Dev.newJob_opcode hop
  have hdead : x.deadline = e / 2 ^ 448 := by rw [hx]; exact Dev.newJob_deadline he hdl
  have htick : x.fetchTick = d.stamp 128 := by rw [hx]; rfl
  have hten : x.tenant = (d.ring k).fn := by rw [hx]; rfl
  have hmin : x.minTiles = e / 2 ^ 248 % 256 := by
    rw [Job.minTiles, hopc, if_neg (by decide), hx]
    exact bitsAt_eq e 248 8
  have hlate : Nat.ble x.deadline x.fetchTick = false := by
    rw [hdead, htick, Bool.eq_false_iff]
    exact fun h => absurd (Nat.ble_eq.mp h) (Nat.not_le.mpr hdl)
  have hseq : (d.taken k e).seqOk x = true := by simp [Dev.seqOk, hopc]
  have hlim : (d.taken k e).tileLimit x.tenant = d.tileLimit (d.ring k).fn := by
    rw [hten]
    rfl
  unfold Dev.accept
  dsimp only
  rw [hf, if_pos rfl, if_neg (by rw [hok]; decide), ← hx]
  change (if _ then _ else _) = _
  have hput : ({ d with nextJob := d.nextJob + 1 } : Dev).setJob d.nextJob x = d.taken k e := by rw [hx]; rfl
  rw [hput, hlate, if_neg (show ¬ (0 != 0 || false) = true by decide), hseq, hopc, hlim, hmin]
  simp

end

theorem Dev.taken_find (d : Dev) (k e : Nat) : KMap.find (d.taken k e).jobs d.nextJob = some (d.newJob k e) :=
  Dev.find_setJob_same _ _ _

/-- Settles O21: the entry read is accepted, by its format, its tiles and its opcode. -/
theorem ringFetch : Obligations.RingFetch := by
  intro s k e d hs hn he hf
  have hexec := exec_ringFetchEntry hs hn he
  refine ⟨fun hbad => ⟨_, hexec, ?_⟩, fun hok hop hdl hlim => ⟨_, hexec, ?_⟩, fun hok hop hdl hlim => ⟨_, hexec, ?_⟩⟩
  case refine_1 =>
    rw [Dev.accept_of_bad hf hbad]
    refine ⟨⟨_, Dev.find_setJob_same _ _ _, rfl, rfl, ?_⟩, rfl, Dev.fetched_head _ _, rfl, onlyDev_withDev _ _⟩
    exact bitsAt_eq e 288 32
  case refine_2 =>
    have hst : ∀ n, (d.newJob k e).st ≠ .ended n := fun n => JobState.noConfusion
    rw [Dev.accept_of_nop he hop hdl hf hok, if_pos hlim]
    refine ⟨⟨(d.newJob k e).endedAs 9 d.pwr.tick 0, ?_, rfl, bitsAt_eq e 288 32⟩, ?_⟩
    · have hj := Dev.endJob_jobs (d.taken_find k e) hst 9 0
      exact (congrArg (fun m => KMap.find m d.nextJob) hj).trans (KMap.find_put_same _ _ _)
    · have hn := congrArg Dev.nextJob (Dev.endJob_frame (d.taken_find k e) hst 9 0)
      exact hn
  case refine_3 =>
    rw [Dev.accept_of_nop he hop hdl hf hok, if_neg (by omega)]
    refine ⟨⟨_, d.taken_find k e, rfl, rfl, rfl, Dev.newJob_opcode hop, bitsAt_eq e 288 32, Dev.newJob_deadline he hdl,
      rfl, rfl, rfl⟩, rfl, Dev.fetched_head _ _, fun j hj => KMap.find_put_other _ _ _ _ hj, rfl⟩

end Sys2Proof.Machine

/-! ## Completions and deadline misses (R145, R149 to R152, R389, R390) -/

namespace Sys2Proof.Machine

open Sys2Proof.Stm

/-- A job whose turn it is may be taken. -/
theorem Dev.takes_of_waits {d : Dev} {j op : Nat} {x : Job} (h : Waits d j op x) :
    d.takes j op = some { x with taken := true } := by
  obtain ⟨hs, hx, hop, hst, hheld, hturn⟩ := h
  unfold Dev.takes
  rw [hx]
  refine if_pos ?_
  simp [hop, Dev.startable, hst, hs, hheld, hturn]

theorem Job.endedAs_of_idle {x : Job} (ht : x.tiles = []) (status tick key : Nat) :
    { x with st := .ended status, ckpts := [], endTick := tick, endKey := key } = x.endedAs status tick key := by
  cases x
  cases ht
  rfl

/-- A NOP or BARRIER whose turn it is ends with OK. -/
theorem Dev.endJob_of_waits {d : Dev} {j op : Nat} {x : Job} (h : Waits d j op x) (hop1 : op ≠ 1) (ht : x.tiles = []) :
    d.endJob j 0 0 = { d with
      jobs := d.jobs.put j (x.endedAs 0 d.pwr.tick 0)
      stu := (d.withdraw (fun r => r.job == some j)).stu } := by
  obtain ⟨-, hx, hop, hst, -, -⟩ := h
  exact Dev.endJob_of_idle hx (fun n => by rw [hst]; exact JobState.noConfusion) ht (by rw [hop]; exact hop1) 0 0

/-- A BARRIER waits for every earlier job of its ring. -/
theorem Dev.takes_barrier_of_earlier {d : Dev} {j : Nat} {x : Job} {e : Nat × Job} (hx : KMap.find d.jobs j = some x)
    (hop : x.opcode = 5) (he : e ∈ d.jobs) (hlt : e.1 < j) (hr : e.2.ring = x.ring) : d.takes j 5 = none := by
  have hheld : d.held j x = true := List.any_eq_true.mpr ⟨e, he, by simp [hlt, hr, hop]⟩
  unfold Dev.takes
  rw [hx]
  exact if_neg (by simp [Dev.startable, hheld])

/-! ### Completions -/

theorem Dev.dropJob_frame (d : Dev) (j k : Nat) :
    d.dropJob j k = { d with jobs := d.jobs.drop j, sfu := (d.dropJob j k).sfu, rings := (d.dropJob j k).rings } := by
  unfold Dev.dropJob Dev.ringDrainCheck
  split <;> rfl

/-- A job of a running ring leaves the device. -/
theorem Dev.dropJob_of_enabled {d : Dev} {k : Nat} (h : (d.ring k).st = .enabled) (j : Nat) :
    d.dropJob j k = { d with jobs := d.jobs.drop j, sfu := (d.dropJob j k).sfu } := by
  have hcheck : d.dropJob j k = ({ d with jobs := d.jobs.drop j } : Dev).sfuRetire :=
    Dev.ringDrainCheck_of_not_draining (fun hd => RingState.noConfusion (h.symm.trans hd))
  rw [hcheck]
  rfl

theorem Dev.complete_of_discard {d : Dev} {j status : Nat} {x : Job} (hl : d.live = true)
    (hx : KMap.find d.jobs j = some x) (hst : x.st = .ended status) (hd : x.discard = true) :
    d.complete j = d.dropJob j x.ring := by
  unfold Dev.complete
  rw [hx]
  dsimp only
  rw [hst]
  dsimp only
  rw [hl, if_neg (by decide), if_pos (by rw [hd]; rfl)]

/-- A ring after a posted completion that raises no interrupt (R149, R151). -/
def Ring.posted (r : Ring) : Ring :=
  { r with
    cqTail := (r.cqTail + 1) % 2 ^ r.size
    phase := if (r.cqTail + 1) % 2 ^ r.size = 0 then !r.phase else r.phase
    done := satAdd r.done 1 32
    unrel := r.unrel + 1 }

/-- The device after the write of a completion entry, its clamps counted. -/
def Dev.entryWritten (d : Dev) (r : Ring) (j status : Nat) (x : Job) (ps : List (Nat × Nat × Nat)) : Dev :=
  let e := d.busWrite r.fn r.pasid 0x80 (some j) ps (leBytes (Completion x status (d.pwr.tick - x.fetchTick) r.sqHead r.phase) 16)
  if x.clamped then e.bump 0x6810 4 x.tenant 64 else e

/-- What follows the write of an entry: the ring moves on, the message goes out when it is due, the job leaves. -/
def Dev.afterEntry (d : Dev) (r : Ring) (j : Nat) (x : Job) : Dev :=
  ((d.setRing x.ring { d.ring x.ring with
    cqTail := (r.cqTail + 1) % 2 ^ r.size
    phase := if (r.cqTail + 1) % 2 ^ r.size = 0 then !r.phase else r.phase
    done := satAdd r.done 1 32
    unrel := r.unrel + 1
    counted := if x.noIrq then r.counted else r.counted + 1
    oldest := if !x.noIrq && r.counted = 0 then d.pwr.tick else r.oldest }).irqCheck x.ring).dropJob j x.ring

theorem Dev.afterEntry_of_quiet {d : Dev} {r : Ring} {x : Job} (hirq : x.noIrq = true) (hc : r.counted = 0)
    (hring : d.ring x.ring = r) (j : Nat) : d.afterEntry r j x = (d.setRing x.ring r.posted).dropJob j x.ring := by
  have hzero : ((d.setRing x.ring r.posted).ring x.ring).counted = 0 := by
    rw [Dev.ring_setRing_same]
    exact hc
  have hcheck : (d.setRing x.ring r.posted).irqCheck x.ring = d.setRing x.ring r.posted :=
    if_neg (by rw [hzero]; simp)
  rw [Dev.afterEntry, hring, hirq]
  exact congrArg (fun e => Dev.dropJob e j x.ring) hcheck

theorem Dev.entryWritten_ring (d : Dev) (r : Ring) (j status : Nat) (x : Job) (ps : List (Nat × Nat × Nat)) (k : Nat) :
    (d.entryWritten r j status x ps).ring k = d.ring k := by
  have hb := (Dev.busWrite_rep d r.fn r.pasid 0x80 (some j) ps
    (leBytes (Completion x status (d.pwr.tick - x.fetchTick) r.sqHead r.phase) 16)).rings
  have hr : (d.entryWritten r j status x ps).rings = d.rings := by
    unfold Dev.entryWritten
    dsimp only
    split <;> exact hb
  exact congrArg (fun m => KMap.get m k {}) hr

theorem Dev.complete_of_open {d d' : Dev} {j status : Nat} {x : Job} {ps : List (Nat × Nat × Nat)} (hl : d.live = true)
    (hx : KMap.find d.jobs j = some x) (hst : x.st = .ended status) (hd : x.discard = false)
    (hr : (d.ring x.ring).st = .enabled) (ho : SlotOpen d x.ring j x ps d') (hirq : x.noIrq = true)
    (hc : (d.ring x.ring).counted = 0) (hring : d'.ring x.ring = d.ring x.ring) :
    d.complete j = ((d'.entryWritten (d.ring x.ring) j status x ps).setRing x.ring (d.ring x.ring).posted).dropJob j x.ring := by
  obtain ⟨d1, ht, hown⟩ := ho
  have hsame := (d'.entryWritten_ring (d.ring x.ring) j status x ps x.ring).trans hring
  unfold Dev.complete
  rw [hx]
  dsimp only
  rw [hst]
  dsimp only
  rw [hl, if_neg (by decide), if_neg (by rw [hd, hr]; decide), ht]
  dsimp only
  rw [hown]
  exact Dev.afterEntry_of_quiet hirq hc hsame j

/-- The write of a completion that is refused nowhere stores its bytes and reports nothing. -/
theorem Dev.entryWritten_mem {d : Dev} {r : Ring} {j status : Nat} {x : Job} {ps : List (Nat × Nat × Nat)} {bs : List Byte}
    (hbs : bs = leBytes (Completion x status (d.pwr.tick - x.fetchTick) r.sqHead r.phase) 16)
    (hue : ((d.onBus r.fn r.pasid true ps).writePieces ps bs).2 = 0) :
    (d.entryWritten r j status x ps).mem = ((d.onBus r.fn r.pasid true ps).writePieces ps bs).1.mem ∧
      (d.entryWritten r j status x ps).emits = (d.onBus r.fn r.pasid true ps).emits := by
  obtain ⟨b, hb⟩ : ∃ b, b = d.onBus r.fn r.pasid true ps := ⟨_, rfl⟩
  have hframe := (Dev.writePieces_frame b ps bs).1
  have hwrite : ∃ ce, d.busWrite r.fn r.pasid 0x80 (some j) ps bs = (b.writePieces ps bs).1.countOnly 0x05 r.fn ce :=
    ⟨_, by
      rw [Dev.busWrite, ← hb, Dev.markWrite]
      dsimp only
      rw [Dev.hbmErrors, hb, hue, if_pos rfl]⟩
  obtain ⟨ce, hce⟩ := hwrite
  have hcount : ∀ e : Dev, (e.countOnly 0x05 r.fn ce).mem = e.mem ∧ (e.countOnly 0x05 r.fn ce).emits = e.emits := fun e => by
    unfold Dev.countOnly
    split <;> exact ⟨rfl, rfl⟩
  have hemits : (b.writePieces ps bs).1.emits = b.emits := by rw [hframe]
  obtain ⟨hm, hq⟩ := hcount (b.writePieces ps bs).1
  unfold Dev.entryWritten
  rw [← hbs, hce, ← hb]
  dsimp only
  split
  · exact ⟨hm, hq.trans hemits⟩
  · exact ⟨hm, hq.trans hemits⟩

/-! ### Interrupts and misses -/

theorem Dev.ringIrq_of_unmasked {d : Dev} {k : Nat} (hc : (d.ring k).counted ≠ 0)
    (he : (d.fn (d.ring k).fn).msixEn = true) (hu : (d.fn (d.ring k).fn).unmasked.testBit (d.ring k).vec = true) :
    d.ringIrq k = (d.setRing k { d.ring k with counted := 0 }).emit (.msix (d.ring k).fn (d.ring k).vec) :=
  (if_neg hc).trans (Dev.msix_of_unmasked he hu)

/-- The counters and the record of a deadline miss (R389). -/
def Dev.missCounted (d : Dev) (j : Nat) (x : Job) : Dev :=
  ((d.bump 0xA040 1 x.tenant 64).bump 0xA040 (x.dlPolicy + 1) x.tenant 64).report
    { code := 0x16, cls := some (if x.dlPolicy = 2 then 2 else 1), tenant := x.tenant, source := 0x8C, job := some j
      detail := x.deadline * 2 ^ 192 + x.dlPolicy * 2 ^ 128 }

theorem Dev.missCounted_rep (d : Dev) (j : Nat) (x : Job) : d.Rep (d.missCounted j x) :=
  ((d.bump_rep _ _ _ _ _).trans (Dev.bump_rep _ _ _ _ _ _)).trans (Dev.report_rep _ _)

/-- A job that has missed its deadline, demoted by policy 3. -/
def Job.late (x : Job) : Job := { x with missed := true, demoted := x.demoted || x.dlPolicy == 3 }

theorem Dev.missJob_of_first {d : Dev} {j : Nat} {x : Job} (hx : KMap.find d.jobs j = some x) (hm : x.missed = false) :
    d.missJob j = if x.dlPolicy = 2 then ((d.missCounted j x).setJob j x.late).endJob j 4 (faultKey none 0x16)
      else (d.missCounted j x).setJob j x.late := by
  unfold Dev.missJob
  rw [hx]
  dsimp only
  rw [hm]
  rfl

theorem exec_deadlineMiss {s : State} {j : Nat} {x : Job} (hs : s.dev.serving = true) (hx : KMap.find s.dev.jobs j = some x)
    (hst : ∀ n, x.st ≠ .ended n) (hd : x.deadline < s.dev.pwr.tick) :
    exec (.deadlineMiss j) s = .next { s with dev := s.dev.missJob j } := by
  refine exec_dev rfl ?_
  dsimp only
  rw [hx]
  dsimp only
  cases h : x.st with
  | ended n => exact absurd h (hst n)
  | _ => exact if_pos (by simp [hs, hd])

/-- Settles O22: NOP and BARRIER end, an ended job posts or is dropped, and the timers act through their equations. -/
theorem jobsEnd : Obligations.JobsEnd := by
  refine ⟨fun s j x h ht => ?nop, fun s j x h ht => ?barrier, fun s j x e hs hx hop he hlt hr => ?waits,
    fun s j status x ps d hl hx hst hd hr ho hirq hc hring hue => ?posts, fun s j status x hl hx hst hd => ?discards,
    fun s k hs hc ht he hu => ?timer, fun s j x hs hx hst hm hd hp => ?late, fun s j x hs hx hst hm hd hp => ?stopped⟩
  case nop =>
    have hd : s.dev.endJob j 0 0 = _ := Dev.endJob_of_waits h (by decide) ht
    refine ⟨_, exec_dev rfl (by exact (if_pos (by rw [Dev.takes_of_waits h]; rfl)).trans hd), ?_,
      fun i hi => KMap.find_put_other _ _ _ _ hi, rfl⟩
    rw [Job.endedAs_of_idle ht]
    exact KMap.find_put_same _ _ _
  case barrier =>
    have hd : s.dev.endJob j 0 0 = _ := Dev.endJob_of_waits h (by decide) ht
    refine ⟨_, exec_dev rfl (by exact (if_pos (by rw [Dev.takes_of_waits h]; rfl)).trans hd), ?_,
      fun i hi => KMap.find_put_other _ _ _ _ hi, rfl⟩
    rw [Job.endedAs_of_idle ht]
    exact KMap.find_put_same _ _ _
  case waits =>
    refine exec_dev rfl (if_neg ?_)
    rw [Dev.takes_barrier_of_earlier hx hop he hlt hr]
    decide
  case posts =>
    have hd' := Dev.complete_of_open hl hx hst hd hr ho hirq hc hring
    obtain ⟨hmem, hemits⟩ := Dev.entryWritten_mem (j := j) rfl hue
    have henabled : (((d.entryWritten (s.dev.ring x.ring) j status x ps).setRing x.ring (s.dev.ring x.ring).posted).ring
        x.ring).st = .enabled := by
      rw [Dev.ring_setRing_same]
      exact hr
    rw [Dev.dropJob_of_enabled henabled] at hd'
    have hpost := Dev.ring_setRing_same (d.entryWritten (s.dev.ring x.ring) j status x ps) x.ring (s.dev.ring x.ring).posted
    refine ⟨_, exec_dev rfl hd', hmem, KMap.find_drop_same _ _, congrArg Ring.cqTail hpost, ?_, congrArg Ring.done hpost,
      congrArg Ring.unrel hpost, henabled, hemits, onlyDev_withDev _ _⟩
    have hphase := congrArg Ring.phase hpost
    have htail := congrArg Ring.cqTail hpost
    by_cases h0 : ((s.dev.ring x.ring).cqTail + 1) % 2 ^ (s.dev.ring x.ring).size = 0
    · refine ⟨fun he => ?_, fun hne => absurd (htail.trans h0) hne⟩
      have hflip : (s.dev.ring x.ring).posted.phase = !(s.dev.ring x.ring).phase := if_pos h0
      exact absurd (hflip.symm.trans (hphase.symm.trans he)) (Bool.not_ne_self _)
    · exact ⟨fun _ hz => h0 (htail.symm.trans hz), fun _ => hphase.trans (if_neg h0)⟩
  case discards =>
    refine ⟨_, exec_dev rfl (Dev.complete_of_discard hl hx hst hd), ?_, ?_, ?_⟩ <;> dsimp only <;> rw [Dev.dropJob_frame]
    exact KMap.find_drop_same _ _
  case timer =>
    have hdue : (s.dev.serving && (s.dev.ring k.val).counted != 0 &&
        Nat.ble (s.dev.obj 0x301C (k.val + 1) 0) (s.dev.pwr.tick - (s.dev.ring k.val).oldest)) = true := by
      simp [hs, hc]
      omega
    exact ⟨{ s with
      dev := (s.dev.setRing k.val { s.dev.ring k.val with counted := 0 }).emit
        (.msix (s.dev.ring k.val).fn (s.dev.ring k.val).vec) },
      exec_dev rfl (by exact (if_pos hdue).trans (Dev.ringIrq_of_unmasked hc he hu)), rfl, congrArg Ring.counted (Dev.ring_setRing_same _ _ _), rfl⟩
  case late =>
    have hlive : ∀ n, x.st ≠ .ended n := fun n => by rw [hst]; exact JobState.noConfusion
    have hmiss : s.dev.missJob j = (s.dev.missCounted j x).setJob j x.late :=
      (Dev.missJob_of_first hx hm).trans (if_neg hp)
    refine ⟨_, exec_dev (exec_deadlineMiss hs hx hlive hd) hmiss, Dev.find_setJob_same _ _ _, ?_, onlyDev_withDev _ _⟩
    have hrep := s.dev.missCounted_rep j x
    rw [ButReport, Dev.setJob, hrep.1]
  case stopped =>
    have hmiss : s.dev.missJob j = ((s.dev.missCounted j x).setJob j x.late).endJob j 4 (faultKey none 0x16) :=
      (Dev.missJob_of_first hx hm).trans (if_pos hp)
    have hlive : ∀ n, x.st ≠ .ended n := fun n => by rw [hst]; exact JobState.noConfusion
    have hjobs := Dev.endJob_jobs (d := (s.dev.missCounted j x).setJob j x.late) (Dev.find_setJob_same _ j x.late) hlive 4
      (faultKey none 0x16)
    refine ⟨_, exec_dev (exec_deadlineMiss hs hx hlive hd) hmiss,
      x.late.endedAs 4 ((s.dev.missCounted j x).setJob j x.late).pwr.tick (faultKey none 0x16), ?_, rfl, rfl, rfl⟩
    exact (congrArg (fun m => KMap.find m j) hjobs).trans (KMap.find_put_same _ _ _)

end Sys2Proof.Machine

/-! ## The scrubber (R220, R226 to R229) -/

namespace Sys2Proof.Machine

open Sys2Proof.Stm

/-- A fold whose steps all leave the start as it is. -/
theorem foldl_eq_self {α β : Type} {f : α → β → α} {a : α} {l : List β} (h : ∀ b ∈ l, f a b = a) : l.foldl f a = a := by
  induction l with
  | nil => rfl
  | cons b l ih =>
    rw [List.foldl_cons, h b List.mem_cons_self]
    exact ih (fun c hc => h c (List.mem_cons_of_mem _ hc))

/-- A fold of which one step alone acts. -/
theorem foldl_eq_step {α β : Type} {f : α → β → α} {a : α} {w : β} {l : List β} (hn : l.Nodup) (hw : w ∈ l)
    (hbefore : ∀ b, b ≠ w → f a b = a) (hafter : ∀ b, b ≠ w → f (f a w) b = f a w) : l.foldl f a = f a w := by
  obtain ⟨l1, l2, rfl⟩ := List.append_of_mem hw
  rw [List.nodup_append] at hn
  obtain ⟨-, hn2, hdis⟩ := hn
  rw [List.foldl_append, foldl_eq_self (fun b hb => hbefore b (fun he => hdis b hb w List.mem_cons_self he)), List.foldl_cons]
  exact foldl_eq_self (fun b hb => hafter b (fun he => (List.nodup_cons.mp hn2).1 (he ▸ hb)))

/-- A word without a mark is left alone. -/
theorem Dev.scrubWord_of_unmarked {d : Dev} {t kind w : Nat} (h : KMap.find ((d.tile t).marks kind) w = none) :
    d.scrubWord t kind w = d := by
  unfold Dev.scrubWord
  dsimp only
  rw [h]

theorem Dev.scrubWord_of_other {d : Dev} {t w v : Nat} {e : WordErr} (h : (d.tile t).tbErr = [(w, e)]) (hv : v ≠ w) :
    d.scrubWord t 1 v = d := by
  refine Dev.scrubWord_of_unmarked ?_
  have hmarks : (d.tile t).marks 1 = [(w, e)] := h
  rw [hmarks, KMap.find_cons, if_neg (Ne.symm hv)]
  rfl

theorem Dev.scrubWord_of_clean {d : Dev} {t v : Nat} (h : (d.tile t).tbErr = []) : d.scrubWord t 1 v = d := by
  refine Dev.scrubWord_of_unmarked ?_
  have hmarks : (d.tile t).marks 1 = [] := h
  rw [hmarks]
  rfl

/-- A correctable word is corrected and counted. -/
theorem Dev.scrubWord_of_correctable {d : Dev} {t w : Nat} (h : (d.tile t).tbErr = [(w, .correctable)]) :
    d.scrubWord t 1 w = ((d.setTile t { d.tile t with tbErr := [] }).bump 0x5810 1 0 64 1).bump 0x5811 (t + 1) 0 32 1 := by
  have hmarks : (d.tile t).marks 1 = [(w, .correctable)] := h
  have hdrop : KMap.drop ([(w, .correctable)] : KMap WordErr) w = [] := by simp [KMap.drop]
  unfold Dev.scrubWord
  dsimp only
  rw [hmarks, KMap.find_singleton]
  dsimp only
  rw [hdrop]
  rfl

/-- An uncorrectable word is poisoned, counted and reported. -/
theorem Dev.scrubWord_of_uncorrectable {d : Dev} {t w : Nat} (h : (d.tile t).tbErr = [(w, .uncorrectable)]) :
    (d.scrubWord t 1 w).tiles = d.tiles.put t { d.tile t with tbErr := [(w, .poison)] } := by
  have hmarks : (d.tile t).marks 1 = [(w, .uncorrectable)] := h
  unfold Dev.scrubWord
  dsimp only
  rw [hmarks, KMap.find_singleton]
  dsimp only
  rw [KMap.put_singleton, if_neg (by decide)]
  exact (Dev.report_rep _ _).tiles

/-- The words of a granule of the tile buffer. -/
def granuleWords (g : Nat) : List Nat := (List.range 4).map (fun i => g * 4 + i)

theorem granuleWords_nodup (g : Nat) : (granuleWords g).Nodup :=
  List.nodup_range.map (fun _ _ h => Nat.add_left_cancel h)

theorem mem_granuleWords {g w : Nat} (h : w / 4 = g) : w ∈ granuleWords g :=
  List.mem_map.mpr ⟨w % 4, List.mem_range.mpr (Nat.mod_lt _ (by decide)), by omega⟩

section
variable {s : State} {k : TileId} (hl : s.dev.live = true) (hon : (s.dev.tile k.val).scrubOn = true)
  (hp : (s.dev.tile k.val).power ≠ .sleep) (hc : (s.dev.tile k.val).clearing = false)
  (hpos : (s.dev.tile k.val).scrubPos < 6144)
include hl hon hp hc hpos

/-- A granule of the tile buffer: its words are checked and the pass goes on. -/
theorem exec_scrubGranule_of_tb : exec (.scrubGranule k) s = .next { s with
    dev := ((granuleWords (s.dev.tile k.val).scrubPos).foldl (Dev.scrubWord k.val 1) s.dev).updTile k.val
      (fun x => { x with scrubPos := (s.dev.tile k.val).scrubPos + 1 }) } := by
  have hcond : (s.dev.live && (s.dev.tile k.val).scrubOn && !(s.dev.tile k.val).clearing &&
      (s.dev.tile k.val).power != .sleep) = true := by simp [hl, hon, hp, hc]
  have htb : (s.dev.tile k.val).scrubPos < scrubTb := hpos
  have hend : ¬ (s.dev.tile k.val).scrubPos + 1 = scrubEnd := by
    rw [scrubEnd]
    omega
  refine exec_dev rfl ((if_pos hcond).trans ?_)
  dsimp only
  rw [if_pos htb, if_neg hend]
  rfl

end

theorem Dev.scrubWake_of_awake {d : Dev} {t : Nat} (h : (d.tile t).power ≠ .sleep) : d.scrubWake t = d :=
  if_pos (by simpa using h)

/-- The position of the pass is no part of the words. -/
theorem Dev.updTile_scrubPos_words (d : Dev) (t n : Nat) :
    ((d.updTile t (fun x => { x with scrubPos := n })).tile t).tbErr = (d.tile t).tbErr ∧
      ((d.updTile t (fun x => { x with scrubPos := n })).tile t).tb = (d.tile t).tb := by
  rw [Dev.tile_updTile_same]
  exact ⟨rfl, rfl⟩

/-- Settles O25: a pass starts by its period; a granule acts on its one marked word; a late pass is reported once. -/
theorem scrubber : Obligations.Scrubber := by
  refine ⟨fun s k hs hh hf hc hon hi ht => ?starts, fun s k hl hon hp hc hpos herr => ?clean,
    fun s k w hl hon hp hc hpos herr hw => ?corrects, fun s k w hl hon hp hc hpos herr hw => ?poisons,
    fun s k hl hon hlate ht => ?late, fun s k hlate => exec_dev rfl (by exact if_neg (by simp [hlate]))⟩
  case starts =>
    obtain ⟨y, hy⟩ : ∃ y, y = ({ s.dev.tile k.val with
      scrubOn := true, scrubPos := 0, scrubStart := s.dev.pwr.tick, scrubLate := false } : Tile) := ⟨_, rfl⟩
    have hdue : Nat.ble (s.dev.obj 0x5801 0 0) (s.dev.since (Nat.max (s.dev.tile k.val).scrubStart s.dev.boot.start)) = true :=
      Nat.ble_since_of_le (by omega)
    have hwake : (s.dev.setTile k.val y).scrubWake k.val = s.dev.setTile k.val y := by
      refine Dev.scrubWake_of_awake ?_
      rw [Dev.tile_setTile_same, hy]
      exact fun h => TilePower.noConfusion (hi.symm.trans h)
    refine ⟨{ s with dev := s.dev.setTile k.val y }, ?_, ⟨rfl, fun j hj => ?_⟩, ?_⟩
    · refine exec_dev rfl ((if_pos (by simp [hs, hh, hf, hc, hon, hdue])).trans ?_)
      rw [← hwake, hy]
    · exact Dev.tile_setTile_other _ _ (fun he => hj (Fin.ext he))
    · exact (Dev.tile_setTile_same _ _ _).trans hy
  case clean =>
    have hfold : (granuleWords (s.dev.tile k.val).scrubPos).foldl (Dev.scrubWord k.val 1) s.dev = s.dev :=
      foldl_eq_self fun v _ => Dev.scrubWord_of_clean herr
    refine ⟨_, exec_scrubGranule_of_tb hl hon hp hc hpos, ?_⟩
    rw [hfold]
    exact ⟨onlyTile_updTile s k _, Dev.tile_updTile_same _ _ _⟩
  case corrects =>
    have hstep := Dev.scrubWord_of_correctable herr
    obtain ⟨d1, hd1⟩ : ∃ d1, d1 = (s.dev.setTile k.val { s.dev.tile k.val with tbErr := [] }).bump 0x5810 1 0 64 1 := ⟨_, rfl⟩
    rw [← hd1] at hstep
    have htile : (d1.bump 0x5811 (k.val + 1) 0 32 1).tile k.val = { s.dev.tile k.val with tbErr := [] } := by
      rw [hd1]
      exact Dev.tile_setTile_same _ _ _
    have hfold : (granuleWords (s.dev.tile k.val).scrubPos).foldl (Dev.scrubWord k.val 1) s.dev =
        d1.bump 0x5811 (k.val + 1) 0 32 1 := by
      rw [← hstep]
      refine foldl_eq_step (granuleWords_nodup _) (mem_granuleWords hw) (fun v hv => Dev.scrubWord_of_other herr hv)
        (fun v _ => Dev.scrubWord_of_clean ?_)
      rw [hstep, htile]
    have hobj : d1.obj 0x5811 (k.val + 1) 0 = s.dev.obj 0x5811 (k.val + 1) 0 := by
      rw [hd1, Dev.obj_bump_other _ (by unfold okey; omega)]
      rfl
    refine ⟨_, exec_scrubGranule_of_tb hl hon hp hc hpos, ?_⟩
    rw [hfold]
    obtain ⟨herrs, htb⟩ := Dev.updTile_scrubPos_words (d1.bump 0x5811 (k.val + 1) 0 32 1) k.val
      ((s.dev.tile k.val).scrubPos + 1)
    refine ⟨herrs.trans (by rw [htile]), htb.trans (by rw [htile]), ?_, ?_⟩
    · exact (Dev.obj_bump_same d1 0x5811 (k.val + 1) 0 32 1).trans (by rw [hobj])
    · rw [hd1]
      rfl
  case poisons =>
    have htile : ((s.dev.scrubWord k.val 1 w).tile k.val) = { s.dev.tile k.val with tbErr := [(w, .poison)] } := by
      rw [Dev.tile, Dev.scrubWord_of_uncorrectable herr]
      exact KMap.get_put_same _ _ _ _
    have hfold : (granuleWords (s.dev.tile k.val).scrubPos).foldl (Dev.scrubWord k.val 1) s.dev =
        s.dev.scrubWord k.val 1 w :=
      foldl_eq_step (granuleWords_nodup _) (mem_granuleWords hw) (fun v hv => Dev.scrubWord_of_other herr hv)
        (fun v hv => Dev.scrubWord_of_other (congrArg Tile.tbErr htile) hv)
    refine ⟨_, exec_scrubGranule_of_tb hl hon hp hc hpos, ?_⟩
    rw [hfold]
    obtain ⟨herrs, htb⟩ := Dev.updTile_scrubPos_words (s.dev.scrubWord k.val 1 w) k.val ((s.dev.tile k.val).scrubPos + 1)
    exact ⟨herrs.trans (by rw [htile]), congrArg Tile.scrubPos (Dev.tile_updTile_same _ _ _), htb.trans (by rw [htile])⟩
  case late =>
    have hcond : (s.dev.live && (s.dev.tile k.val).scrubOn && !(s.dev.tile k.val).scrubLate &&
        Nat.ble (s.dev.obj 0x5801 0 0) (s.dev.since (s.dev.tile k.val).scrubStart)) = true := by
      rw [hl, hon, hlate, Nat.ble_since_of_le (by omega)]
      rfl
    obtain ⟨e, he⟩ : ∃ e, e = (s.dev.setTile k.val { s.dev.tile k.val with scrubLate := true }).bump 0x5810 9 0 32 := ⟨_, rfl⟩
    obtain ⟨r, hr⟩ : ∃ r : Rec, r = { code := 0x34, tenant := (s.dev.tile k.val).owner.getD 0, source := k.val
                                      detail := e.spmRecord k.val 0 5 0 0 } := ⟨_, rfl⟩
    have hrep : (s.dev.setTile k.val { s.dev.tile k.val with scrubLate := true }).Rep (e.report r) := by
      rw [he]
      exact (Dev.bump_rep _ _ _ _ _ _).trans (Dev.report_rep _ r)
    have hd : exec (.scrubLate k) s = .next { s with dev := e.report r } := by
      refine exec_dev rfl ((if_pos hcond).trans ?_)
      rw [hr, he]
    refine ⟨_, hd, ?_, ?_, onlyDev_withDev _ _⟩
    · dsimp only
      rw [Dev.tile, hrep.tiles]
      exact KMap.get_put_same _ _ _ _
    · dsimp only
      rw [hrep.tiles]
      exact butReport_of_rep hrep

end Sys2Proof.Machine

/-! ## Host and engine accesses, and the ownership check (R128, R130, R157, R158, R171, R172, R186, R400) -/

namespace Sys2Proof.Machine

open Sys2Proof.Stm

/-! ### One piece of clean memory -/

/-- An access within a page is one piece. -/
theorem pieces_of_page {pa len : Nat} (hlen : 0 < len) (hp : pa / 4096 = (pa + len - 1) / 4096) :
    pieces pa len = [(0, len)] := by
  have hlo : Nat.max pa ((pa / 4096 + 0) * 4096) = pa := Nat.max_eq_left (by omega)
  have hhi : Nat.min (pa + len) ((pa / 4096 + 0 + 1) * 4096) = pa + len := Nat.min_eq_left (by omega)
  have hn : (pa + len - 1) / 4096 - pa / 4096 + 1 = 1 := by omega
  rw [pieces, if_neg (by omega), hn]
  change [(Nat.max pa ((pa / 4096 + 0) * 4096) - pa, Nat.min (pa + len) ((pa / 4096 + 0 + 1) * 4096) -
    Nat.max pa ((pa / 4096 + 0) * 4096))] = _
  rw [hlo, hhi, Nat.sub_self, Nat.add_sub_cancel_left]

theorem Dev.readPieces_of_clean {d : Dev} (h : Clean d.mem) (pa len : Nat) :
    d.readPieces [(pa, 0, len)] = ({ bytes := d.mem.read pa len, bad := [], badLines := 0, corrected := 0 }, d) := by
  simp [Dev.readPieces, Mem.readMarks_of_clean h]

/-! ### Ownership -/

/-- A PRIVATE region is its tenant's alone (R186). -/
theorem rotAllows_privateOf (m n : FnId) (write : Bool) : rotAllows (privateOf m.val) n.val write = decide (m = n) := by
  have hbits : ∀ m : FnId, bitsAt (privateOf m.val) 14 2 = 1 ∧ bitsAt (privateOf m.val) 0 6 = m.val ∧
      bitsAt (privateOf m.val) 6 8 = 0 := by decide
  obtain ⟨h1, h2, h3⟩ := hbits m
  simp only [rotAllows, h1, h2, h3, bne_self_eq_false, Bool.false_eq_true, if_false, beq_self_eq_true, if_true]
  rw [Bool.eq_iff_iff, beq_iff_eq, decide_eq_true_eq]
  exact ⟨fun h => Fin.ext h, fun h => by rw [h]⟩

/-- The entry of a region, read from clean memory where it is not cached. -/
theorem Dev.rotEntry_of_clean {d : Dev} {region e : Nat} (h : Clean d.mem) (he : KMap.find d.stu.rotCache region = some e ∨
    (KMap.find d.stu.rotCache region = none ∧ leNat (d.mem.read (d.obj 0x3800 0 0 + 2 * region) 2) = e)) :
    ∃ c, d.rotEntry region = (e, { d with stu := { d.stu with rotCache := c } }) := by
  unfold Dev.rotEntry
  obtain he | ⟨hn, he⟩ := he
  · rw [he]
    exact ⟨d.stu.rotCache, rfl⟩
  · rw [hn, Mem.readMarks_of_clean h]
    exact ⟨d.stu.rotCache.put region e, by rw [← he]; rfl⟩

/-- Whatever marks memory carries, the entry used is that of the region, or one that permits nothing. -/
theorem Dev.rotEntry_entry {d : Dev} {region e : Nat} (he : KMap.find d.stu.rotCache region = some e ∨
    (KMap.find d.stu.rotCache region = none ∧ leNat (d.mem.read (d.obj 0x3800 0 0 + 2 * region) 2) = e)) :
    (d.rotEntry region).1 = e ∨ (d.rotEntry region).1 = 0xC000 := by
  unfold Dev.rotEntry
  obtain he | ⟨hn, he⟩ := he
  · rw [he]
    exact .inl rfl
  · rw [hn]
    dsimp only
    split
    · exact .inr rfl
    · exact .inl he

/-- What reading an entry may touch: the cache, the corrected marks, the counters of memory errors. -/
theorem Dev.rotEntry_frame (d : Dev) (region : Nat) : (d.rotEntry region).2 = { d with
    dict := (d.rotEntry region).2.dict
    stu := { d.stu with rotCache := (d.rotEntry region).2.stu.rotCache }
    mem := { d.mem with lines := (d.rotEntry region).2.mem.lines } } := by
  unfold Dev.rotEntry
  split
  · rfl
  · dsimp only
    split
    · rfl
    · split <;> rfl

/-- An access in a page of HBM is checked against the entry of its region. -/
theorem Dev.ownOkAll_one {d : Dev} {tenant pa len : Nat} {write : Bool} (htop : pa + len ≤ d.hbmTop) :
    d.ownOkAll tenant [(pa, 0, len)] write =
      (rotAllows (d.rotEntry (pa / 2097152)).1 tenant write, (d.rotEntry (pa / 2097152)).2) := by
  simp only [Dev.ownOkAll, List.foldl_cons, List.foldl_nil, Dev.ownOk, if_pos htop, Bool.true_and]

theorem Dev.hbmTop_lt_hostBase (d : Dev) : d.hbmTop < hostBase := by
  have h : d.stacks ≤ 8 := (List.length_filter_le _ _).trans (by simp)
  have h' : d.stacks * 36 * 2 ^ 30 ≤ 8 * 36 * 2 ^ 30 :=
    Nat.mul_le_mul_right _ (Nat.mul_le_mul_right _ h)
  exact lt_of_le_of_lt h' (by decide)

/-! ### Snoops of the CXL window -/

/-- A line lies in a span. -/
def lineIn (pa len l : Nat) : Bool := Nat.ble (pa / 64) l && decide (l * 64 < pa + len)

theorem Dev.snoop_eq (d : Dev) (pa len : Nat) : d.snoop pa len = { d with
    mem := { d.mem with hdmLines := d.mem.hdmLines.filter (fun l => !lineIn pa len l) }
    emits := d.emits ++ (d.mem.hdmLines.filter (lineIn pa len)).map Emit.backInvalidate } := by
  have hemit : ∀ (ls : List Nat) (e : Dev), ls.foldl (fun (d : Dev) l => d.emit (.backInvalidate l)) e =
      { e with emits := e.emits ++ ls.map Emit.backInvalidate } := fun ls => by
    induction ls with
    | nil => exact fun e => by rw [List.map_nil, List.append_nil]; rfl
    | cons l ls ih => exact fun e => (ih _).trans (by simp [Dev.emit])
  unfold Dev.snoop
  dsimp only
  rw [show (fun l => Nat.ble (pa / 64) l && decide (l * 64 < pa + len)) = lineIn pa len from rfl, hemit]
  rfl

/-- An access of HBM puts snoops alone on the host link. -/
theorem Dev.onBus_of_hbm {d : Dev} {pa len : Nat} (h : pa + len ≤ d.hbmTop) (tenant pasid : Nat) (write : Bool) :
    d.onBus tenant pasid write [(pa, 0, len)] = d.snoop pa len := by
  have hlow : Nat.ble hostBase pa = false := by
    rw [Bool.eq_false_iff, ne_eq, Nat.ble_eq]
    have := d.hbmTop_lt_hostBase
    omega
  simp [Dev.onBus, Dev.hostReqs, hlow]

theorem snooped_snoop (d : Dev) (pa len : Nat) : Snooped d.mem (d.snoop pa len).mem d.emits (d.snoop pa len).emits := by
  rw [Dev.snoop_eq]
  exact ⟨rfl, _, rfl, fun e he => by
    obtain ⟨n, -, rfl⟩ := List.mem_map.mp he
    exact ⟨n, rfl⟩⟩

theorem Dev.snoop_clean {d : Dev} (h : Clean d.mem) (pa len : Nat) : Clean (d.snoop pa len).mem := by
  rw [Dev.snoop_eq]
  exact h

theorem Dev.snoop_byte (d : Dev) (pa len : Nat) : (d.snoop pa len).mem.byte = d.mem.byte := by
  rw [Dev.snoop_eq]
  rfl

theorem Dev.snoop_read (d : Dev) (pa len a n : Nat) : (d.snoop pa len).mem.read a n = d.mem.read a n := by
  rw [Dev.snoop_eq]
  rfl

/-! ### The host's window -/

theorem mem_linesOf {pa n i : Nat} (h : i < n) : (pa + i) / 64 ∈ linesOf pa n := by
  rw [linesOf, if_neg (by omega)]
  exact List.mem_map.mpr ⟨(pa + i) / 64 - pa / 64, List.mem_range.mpr (by omega), by omega⟩

theorem Dev.mem_hostCaches {d : Dev} {pa n l : Nat} :
    l ∈ (d.hostCaches pa n).mem.hdmLines ↔ l ∈ d.mem.hdmLines ∨ l ∈ linesOf pa n := by
  simp only [Dev.hostCaches, List.mem_append, List.mem_filter, Bool.not_eq_true', List.contains_eq_mem]
  by_cases h : l ∈ d.mem.hdmLines <;> simp [h]

theorem written_getD {m m' : Mem} {pa : Nat} {b : List Byte} (h : m.Written pa b m') :
    (∀ i < b.length, m'.byte (pa + i) = b.getD i 0) ∧ (∀ a, ¬ (pa ≤ a ∧ a < pa + b.length) → m'.byte a = m.byte a) := by
  refine ⟨fun i hi => ?_, fun a ha => (h.2 a).trans (if_neg ha)⟩
  rw [h.2, if_pos (by omega), Nat.add_sub_cancel_left]
  rfl

section
variable {s : State} {off : Nat} (hl : s.dev.live = true) (ha : s.dev.boot.memActive = true) (hx : s.dev.boot.cxl ≠ 0)
  (hon : s.dev.boot.hdmDec.on = true) (hc : Clean s.dev.mem)
include hl ha hx hon hc

theorem exec_hdmHostAccess_read {n : Nat} (hn : off + n ≤ s.dev.boot.hdmGib * 2 ^ 30) :
    exec (.hdmHostAccess off (.read n)) s = .next { s with
      dev := (s.dev.hostCaches (windowPa s.dev off) n).emit (.hdm (s.dev.mem.read (windowPa s.dev off) n) false) } := by
  refine exec_dev rfl ((if_pos (by simp [hl, ha, hx, hon])).trans ?_)
  dsimp only
  rw [if_pos hn, Mem.readMarks_of_clean hc]
  rfl

theorem exec_hdmHostAccess_write {b : List Byte} (hn : off + b.length ≤ s.dev.boot.hdmGib * 2 ^ 30) :
    ∃ m, exec (.hdmHostAccess off (.write b)) s = .next { s with dev := { s.dev with mem := m } } ∧
      s.dev.mem.Written (windowPa s.dev off) b m := by
  obtain ⟨m, hm, hw⟩ := Dev.markWrite_of_clean hc 0 0x86 none (windowPa s.dev off) b
  refine ⟨m, exec_dev rfl ((if_pos (by simp [hl, ha, hx, hon])).trans ?_), hw⟩
  dsimp only
  rw [if_pos hn]
  exact hm

end

/-! ### Engine accesses -/

section
variable {s : State} {src : BitVec 8} {n : FnId} {pa : Nat} (hs : s.dev.serving = true) (hc : Clean s.dev.mem)
include hs hc

/-- A permitted read: snoops, the bytes, nothing else. -/
theorem exec_engineHbmAccess_read {len : Nat} (h : InRegion s.dev pa len (privateOf n.val)) :
    ∃ c, exec (.engineHbmAccess src n none pa (.read len)) s = .next { s with
      dev := (({ s.dev with stu := { s.dev.stu with rotCache := c } } : Dev).snoop pa len).emit
        (.engineRead src.toNat (s.dev.mem.read pa len) false) } := by
  obtain ⟨hlen, hpage, htop, he⟩ := h
  obtain ⟨c, hrot⟩ := Dev.rotEntry_of_clean hc he
  obtain ⟨e, hd⟩ : ∃ e, e = ({ s.dev with stu := { s.dev.stu with rotCache := c } } : Dev) := ⟨_, rfl⟩
  have hetop : pa + len ≤ e.hbmTop := by rw [hd]; exact htop
  have hclean : Clean (e.snoop pa len).mem := Dev.snoop_clean (by rw [hd]; exact hc) pa len
  have hbytes : (e.snoop pa len).mem.read pa len = s.dev.mem.read pa len := by rw [Dev.snoop_read, hd]
  refine ⟨c, exec_dev rfl ?_⟩
  dsimp only
  rw [pieces_of_page hlen hpage, if_pos hs]
  simp only [List.map_cons, List.map_nil, Nat.add_zero]
  rw [Dev.ownOkAll_one htop, hrot, rotAllows_privateOf, decide_eq_true rfl]
  dsimp only
  rw [← hd, Dev.busRead, Dev.onBus_of_hbm hetop, Dev.readPieces_of_clean hclean, hbytes]
  rfl

/-- A permitted write: snoops, the bytes, nothing else. -/
theorem exec_engineHbmAccess_write {b : List Byte} (h : InRegion s.dev pa b.length (privateOf n.val)) :
    ∃ c m, exec (.engineHbmAccess src n none pa (.write b)) s = .next { s with
      dev := { ({ s.dev with stu := { s.dev.stu with rotCache := c } } : Dev).snoop pa b.length with mem := m } } ∧
      (({ s.dev with stu := { s.dev.stu with rotCache := c } } : Dev).snoop pa b.length).mem.Written pa b m := by
  obtain ⟨hlen, hpage, htop, he⟩ := h
  obtain ⟨c, hrot⟩ := Dev.rotEntry_of_clean hc he
  obtain ⟨e, hd⟩ : ∃ e, e = ({ s.dev with stu := { s.dev.stu with rotCache := c } } : Dev) := ⟨_, rfl⟩
  have hetop : pa + b.length ≤ e.hbmTop := by rw [hd]; exact htop
  have hclean : Clean (e.snoop pa b.length).mem := Dev.snoop_clean (by rw [hd]; exact hc) pa b.length
  obtain ⟨m, hm, hw⟩ := Dev.markWrite_of_clean hclean n.val src.toNat none pa b
  rw [hd] at hm hw
  refine ⟨c, m, exec_dev rfl ?_, hw⟩
  dsimp only
  rw [pieces_of_page hlen hpage, if_pos hs]
  simp only [List.map_cons, List.map_nil, Nat.add_zero]
  rw [Dev.ownOkAll_one htop, hrot, rotAllows_privateOf, decide_eq_true rfl]
  dsimp only
  rw [← hd, Dev.busWrite, Dev.onBus_of_hbm hetop, hd]
  exact hm

end

/-! ### A refused access -/

/-- A record of code 2 meets a ring that is not enabled: its counters alone move (R382, R386). -/
theorem Dev.ownReport_of_idle_ring {d : Dev} {tenant : Nat} (hst : (d.errRing tenant).st ≠ .enabled)
    (hw : (d.errRing tenant).waiting = []) (pasid va access : Nat) (req : Requester) :
    d.ownReport tenant pasid va access req =
      ((d.bump 0x4022 0 tenant 32).bump 0xA010 2 tenant 32).bump 0xA004 0 tenant 32 := by
  have hqueue : ∀ (e : Dev) (b : Nat), e.errRing tenant = d.errRing tenant →
      (e.errQueue tenant b).errWrite tenant = e.bump 0xA004 0 tenant 32 := fun e b he => by
    have hq : e.errQueue tenant b = e.bump 0xA004 0 tenant 32 := if_neg (by rw [he]; simpa using hst)
    rw [hq]
    exact Dev.errWrite_of_empty (by rw [← hw, ← he]; rfl)
  rw [Dev.ownReport, Dev.report_eq, if_neg (show ¬ (pathEr0 2 && !(pathEr 2 && tenant == 0)) = true by simp [pathEr0]),
    if_pos (show pathEr 2 = true by decide), Dev.post]
  exact hqueue _ _ rfl

theorem exec_engineHbmAccess_refused {s : State} {src : BitVec 8} {n m : FnId} {pa len : Nat} {op : EngineOp} {j : Nat}
    {write : Bool} (hop : (op = .read len ∧ write = false) ∨ (∃ b, op = .write b ∧ b.length = len ∧ write = true))
    (hs : s.dev.serving = true) (h : InRegion s.dev pa len (privateOf m.val)) (hm : m ≠ n) :
    exec (.engineHbmAccess src n (some j) pa op) s = .next { s with
      dev := ((s.dev.rotEntry (pa / 2097152)).2.ownReport n.val (((KMap.find s.dev.jobs j).map (·.pasid)).getD 0) pa
        (if write then 1 else 0) (s.dev.withJob (some j) { source := src.toNat })).endJob j 3 (faultKey none 0x02) } := by
  obtain ⟨hlen, hpage, htop, he⟩ := h
  have hno : rotAllows (s.dev.rotEntry (pa / 2097152)).1 n.val write = false := by
    obtain he | he := Dev.rotEntry_entry he
    · rw [he, rotAllows_privateOf, decide_eq_false hm]
    · rw [he]
      simp [rotAllows, bitsAt_eq]
  have hown : s.dev.ownOkAll n.val ([(0, len)].map (fun p => (pa + p.1, p.1, p.2))) write =
      (false, (s.dev.rotEntry (pa / 2097152)).2) := by
    rw [← hno]
    exact Dev.ownOkAll_one htop
  obtain ⟨rfl, rfl⟩ | ⟨b, rfl, rfl, rfl⟩ := hop <;>
  · refine exec_dev rfl ?_
    dsimp only
    rw [pieces_of_page hlen hpage, if_pos hs, hown]
    rfl

/-- Settles O26: the window and an engine's own region through their equations; a refused access counts, then ends its job. -/
theorem memoryAccesses : Obligations.MemoryAccesses := by
  refine ⟨fun s off n hl ha hx hon hc hn => ?hostReads, fun s off op hon => exec_dev rfl (by exact if_neg (by simp [hon])),
    fun s off b hl ha hx hon hc hn => ?hostWrites, fun s src n pa len hs hc h => ?reads, fun s src n pa b hs hc h => ?writes,
    fun s src n m pa op j x hs h hm hx hst => ?refuses⟩
  case hostReads =>
    refine ⟨_, exec_hdmHostAccess_read hl ha hx hon hc hn, rfl, fun i hi => ?_, fun i hi => ?_, rfl⟩
    · exact Dev.mem_hostCaches.mpr (.inr (mem_linesOf hi))
    · exact Dev.mem_hostCaches.mpr (.inl hi)
  case hostWrites =>
    obtain ⟨m, hd, hw⟩ := exec_hdmHostAccess_write hl ha hx hon hc hn
    exact ⟨_, hd, rfl, written_getD hw⟩
  case reads =>
    obtain ⟨c, hd⟩ := exec_engineHbmAccess_read (src := src) hs hc h
    refine ⟨_, hd, ⟨_, snooped_snoop _ pa len, rfl⟩, fun i hi => ?_, ?_⟩
    · have hlines : (({ s.dev with stu := { s.dev.stu with rotCache := c } } : Dev).snoop pa len).mem.hdmLines =
          s.dev.mem.hdmLines.filter (fun l => !lineIn pa len l) := by rw [Dev.snoop_eq]
      have hout := (List.mem_filter.mp (hlines ▸ hi)).2
      rintro ⟨h1, h2⟩
      have hlen := h.1
      have hin : lineIn pa len i = true := by
        simp [lineIn, h1]
        omega
      rw [hin] at hout
      exact Bool.noConfusion hout
    · rw [Dev.snoop_eq]
      rfl
  case writes =>
    obtain ⟨c, m, hd, hw⟩ := exec_engineHbmAccess_write (src := src) hs hc h
    obtain ⟨hin, hout⟩ := written_getD hw
    refine ⟨_, hd, ?_, hin, fun a ha => (hout a ha).trans ?_⟩
    · rw [Dev.snoop_eq]
    · rw [Dev.snoop_byte]
  case refuses =>
    obtain ⟨len, write, hlen, hop⟩ : ∃ len write, InRegion s.dev pa len (privateOf m.val) ∧
        ((op = .read len ∧ write = false) ∨ (∃ b, op = .write b ∧ b.length = len ∧ write = true)) := by
      cases op with
      | read k => exact ⟨k, false, h, .inl ⟨rfl, rfl⟩⟩
      | write b => exact ⟨b.length, true, h, .inr ⟨b, rfl, rfl, rfl⟩⟩
    have hd := exec_engineHbmAccess_refused (src := src) (j := j) hop hs hlen hm
    obtain ⟨pasid, hpasid⟩ : ∃ p, p = ((KMap.find s.dev.jobs j).map (·.pasid)).getD 0 := ⟨_, rfl⟩
    obtain ⟨access, haccess⟩ : ∃ a, a = if write = true then 1 else 0 := ⟨_, rfl⟩
    obtain ⟨req, hreq⟩ : ∃ r, r = s.dev.withJob (some j) { source := src.toNat } := ⟨_, rfl⟩
    rw [← hpasid, ← haccess, ← hreq] at hd
    obtain ⟨d1, hd1⟩ : ∃ d1, d1 = (s.dev.rotEntry (pa / 2097152)).2 := ⟨_, rfl⟩
    rw [← hd1] at hd
    have hframe := s.dev.rotEntry_frame (pa / 2097152)
    rw [← hd1] at hframe
    have hrep := d1.ownReport_rep n.val pasid pa access req
    have hfind : KMap.find (d1.ownReport n.val pasid pa access req).jobs j = some x := by
      rw [hrep.jobs, hframe]
      exact hx
    have hlive : ∀ k, x.st ≠ .ended k := fun k => by rw [hst]; exact JobState.noConfusion
    have hend := Dev.endJob_frame hfind hlive 3 (faultKey none 0x02)
    refine ⟨_, hd, onlyDev_withDev _ _, ⟨x.endedAs 3 (d1.ownReport n.val pasid pa access req).pwr.tick (faultKey none 0x02),
      ?_, rfl⟩, fun hring hwait => ?_⟩
    · have hjobs := Dev.endJob_jobs hfind hlive 3 (faultKey none 0x02)
      exact (congrArg (fun q => KMap.find q j) hjobs).trans (KMap.find_put_same _ _ _)
    · have herr : d1.errRing n.val = s.dev.errRing n.val := by
        rw [hframe]
        rfl
      have hown := Dev.ownReport_of_idle_ring (by rw [herr]; exact hring) (by rw [herr]; exact hwait) pasid pa access req
      have hobj : d1.obj 0x4022 0 n.val = s.dev.obj 0x4022 0 n.val := by
        have hk := s.dev.rotEntry_keeps (L := ownKeys) (List.Subset.refl _) (pa / 2097152)
        rw [← hd1] at hk
        refine hk.obj (by rw [hframe]) (by rw [hframe]) ?_
        have := n.isLt
        simp only [ownKeys, List.mem_cons, List.not_mem_nil, or_false, okey]
        omega
      have hlast : ((d1.ownReport n.val pasid pa access req).endJob j 3 (faultKey none 0x02)).obj 0x4022 0 n.val =
          (d1.ownReport n.val pasid pa access req).obj 0x4022 0 n.val := by
        rw [hend]
        rfl
      have hmem : ((d1.ownReport n.val pasid pa access req).endJob j 3 (faultKey none 0x02)).mem = d1.mem := by
        rw [hend, hown]
        rfl
      refine ⟨hlast.trans ?_, fun a => ?_, ?_⟩
      · have h2 : okey 0x4022 0 n.val ≠ okey 0xA010 2 n.val := by unfold okey; omega
        have h3 : okey 0x4022 0 n.val ≠ okey 0xA004 0 n.val := by unfold okey; omega
        rw [hown, Dev.obj_bump_other _ h3, Dev.obj_bump_other _ h2, Dev.obj_bump_same, hobj]
      · dsimp only
        rw [hmem, hframe]
        rfl
      · dsimp only
        rw [hend, hown, hframe]
        rfl

end Sys2Proof.Machine

/-! ## Dispatch, start, segments and resume (R142, R145, R146, R183, R193, R196, R197, R209, R211) -/

namespace Sys2Proof.Machine

open Sys2Proof.Stm

/-! ### Waking and holding tiles -/

/-- A tile after work has been addressed to it (R54). -/
def Tile.woken (x : Tile) (tick : Nat) : Tile :=
  if x.power == .sleep || x.scrubWoke then { x with power := .idle, idleSince := tick, scrubWoke := false } else x

theorem Dev.wakeTile_tile (d : Dev) (t k : Nat) :
    (d.wakeTile t).tile k = if k = t then (d.tile t).woken d.pwr.tick else d.tile k := by
  by_cases h : k = t
  · subst h
    rw [if_pos rfl]
    exact Dev.tile_updTile_same _ _ _
  · rw [if_neg h]
    exact Dev.tile_updTile_other _ _ h

theorem Dev.wakeTile_frame (d : Dev) (t : Nat) :
    d.wakeTile t = { d with clk := (d.wakeTile t).clk, tiles := (d.wakeTile t).tiles } := rfl

theorem Tile.woken_awake (x : Tile) (tick : Nat) : (x.woken tick).power ≠ .sleep := by
  unfold Tile.woken
  split
  case isTrue => exact TilePower.noConfusion
  case isFalse h => exact fun he => h (by rw [he]; rfl)

/-- What waking leaves as it is. -/
structure Tile.SameWork (x y : Tile) : Prop where
  job : y.job = x.job
  rank : y.rank = x.rank
  owner : y.owner = x.owner
  clearing : y.clearing = x.clearing
  awake : x.power ≠ .sleep → y.power ≠ .sleep
  failed : y.failed = x.failed
  tb : y.tb = x.tb
  as : y.as = x.as

theorem Tile.SameWork.refl (x : Tile) : x.SameWork x := ⟨rfl, rfl, rfl, rfl, fun h => h, rfl, rfl, rfl⟩

theorem Tile.SameWork.trans {x y z : Tile} (h : x.SameWork y) (h' : y.SameWork z) : x.SameWork z :=
  ⟨h'.job.trans h.job, h'.rank.trans h.rank, h'.owner.trans h.owner, h'.clearing.trans h.clearing,
    fun ha => h'.awake (h.awake ha), h'.failed.trans h.failed, h'.tb.trans h.tb, h'.as.trans h.as⟩

theorem Tile.woken_sameWork (x : Tile) (tick : Nat) : x.SameWork (x.woken tick) := by
  refine ⟨?_, ?_, ?_, ?_, fun _ => x.woken_awake tick, ?_, ?_, ?_⟩ <;> · unfold Tile.woken; split <;> rfl

theorem Dev.wakeTile_sameWork (d : Dev) (t k : Nat) : (d.tile k).SameWork ((d.wakeTile t).tile k) := by
  rw [Dev.wakeTile_tile]
  split
  case isTrue h => rw [h]; exact Tile.woken_sameWork _ _
  case isFalse => exact Tile.SameWork.refl _

/-- What waking and holding tiles may touch. -/
def Dev.Held (d e : Dev) : Prop := e = { d with clk := e.clk, tiles := e.tiles, mirror := e.mirror }

theorem Dev.Held.refl (d : Dev) : d.Held d := rfl

theorem Dev.Held.trans {a b c : Dev} (h : a.Held b) (h' : b.Held c) : a.Held c := by
  rw [Dev.Held] at *
  rw [h', h]

theorem Dev.Held.mem {d e : Dev} (h : d.Held e) : e.mem = d.mem := by rw [h]
theorem Dev.Held.rings {d e : Dev} (h : d.Held e) : e.rings = d.rings := by rw [h]
theorem Dev.Held.jobs {d e : Dev} (h : d.Held e) : e.jobs = d.jobs := by rw [h]

theorem Dev.wakeTile_held (d : Dev) (t : Nat) : d.Held (d.wakeTile t) := rfl

/-- Tiles are woken and nothing else of them changes. -/
def Dev.Woken (d e : Dev) : Prop := d.Held e ∧ ∀ k, (d.tile k).SameWork (e.tile k)

theorem Dev.wakeTiles_woken (d : Dev) (ts : List Nat) : d.Woken (ts.foldl Dev.wakeTile d) :=
  foldl_keeps (fun e => d.Woken e) _ (fun e t he =>
    ⟨he.1.trans (e.wakeTile_held t), fun k => (he.2 k).trans (e.wakeTile_sameWork t k)⟩) ts d ⟨Dev.Held.refl d, fun _ =>
      Tile.SameWork.refl _⟩

theorem Dev.Woken.trans {a b c : Dev} (h : a.Woken b) (h' : b.Woken c) : a.Woken c :=
  ⟨h.1.trans h'.1, fun k => (h.2 k).trans (h'.2 k)⟩

theorem Dev.keepAwake_woken (d : Dev) : d.Woken d.keepAwake := by
  have haw : d.Woken d.wakeAwake :=
    foldl_keeps (fun e => d.Woken e) _ (fun e _ he => he.trans (e.wakeTiles_woken _)) _ d
      ⟨Dev.Held.refl d, fun _ => Tile.SameWork.refl _⟩
  exact haw.trans (d.wakeAwake.wakeTiles_woken _)

theorem Dev.unflag_tile (d : Dev) (k : Nat) : d.unflag.tile k = { d.tile k with flagged := false } :=
  KMap.get_mapVal d.tiles (fun x => { x with flagged := false }) k {} rfl

/-! ### Folds over the tiles of a job -/

/-- Steps that each act on their own tile: what they do to it, and that they leave the others. -/
theorem foldl_tiles {f : Dev → Nat × Nat → Dev} {P : Nat × Nat → Tile → Tile → Prop}
    (hown : ∀ d e, P e (d.tile e.1) ((f d e).tile e.1)) (hother : ∀ d e k, k ≠ e.1 → (f d e).tile k = d.tile k)
    (l : List (Nat × Nat)) (d : Dev) (hn : (l.map Prod.fst).Nodup) :
    (∀ e ∈ l, P e (d.tile e.1) ((l.foldl f d).tile e.1)) ∧ ∀ k, k ∉ l.map Prod.fst → (l.foldl f d).tile k = d.tile k := by
  induction l generalizing d with
  | nil => exact ⟨fun e he => absurd he (List.not_mem_nil), fun _ _ => rfl⟩
  | cons a l ih =>
    rw [List.map_cons, List.nodup_cons] at hn
    obtain ⟨hmine, hrest⟩ := ih (f d a) hn.2
    refine ⟨fun e he => ?_, fun k hk => ?_⟩
    · rw [List.foldl_cons]
      rcases List.mem_cons.mp he with rfl | he
      · rw [hrest e.1 hn.1]
        exact hown d e
      · have hne : e.1 ≠ a.1 := fun h => hn.1 (h ▸ List.mem_map_of_mem (f := Prod.fst) he)
        rw [← hother d a e.1 hne]
        exact hmine e he
    · rw [List.map_cons, List.mem_cons, not_or] at hk
      rw [List.foldl_cons, hrest k hk.2, hother d a k hk.1]

theorem mem_zipIdx_of_getElem? {l : List Nat} {r k : Nat} (h : l[r]? = some k) : (k, r) ∈ l.zipIdx :=
  List.mk_mem_zipIdx_iff_getElem?.mpr h

theorem zipIdx_fst_nodup {l : List Nat} (h : l.Nodup) : (l.zipIdx.map Prod.fst).Nodup := by
  rw [List.zipIdx_map_fst]
  exact h

/-! ### Dispatch -/

/-- A tile that a job holds. -/
def HeldFor (j tenant : Nat) (e : Nat × Nat) (x y : Tile) : Prop :=
  y.job = some j ∧ y.rank = e.2 ∧ y.owner = some tenant ∧ y.power ≠ .sleep ∧
    (x.failed = false → x.owner ≠ some tenant → y.clearing = true)

theorem Dev.startClear_tile (d : Dev) (t : Nat) : (d.startClear t).tile t = if (d.tile t).failed then d.tile t else
    { ((d.tile t).woken d.pwr.tick).stop with
      clearing := true, clearStart := d.pwr.tick, mustClear := true, uTlb := [], scrubOn := false } := by
  unfold Dev.startClear
  split
  · rfl
  · rw [Dev.tile_updTile_same, Dev.wakeTile_tile, if_pos rfl]

theorem Dev.startClear_tile_other (d : Dev) {t k : Nat} (h : k ≠ t) : (d.startClear t).tile k = d.tile k := by
  unfold Dev.startClear
  split
  · rfl
  · rw [Dev.tile_updTile_other _ _ h, Dev.wakeTile_tile, if_neg h]

theorem Dev.startClear_held (d : Dev) (t : Nat) : d.Held (d.startClear t) := by
  unfold Dev.startClear
  split <;> exact rfl

theorem Dev.countOwner_tile (d : Dev) (t k : Nat) :
    (d.countOwner t).tile k = if k = t then { d.tile t with occSince := d.pwr.tick } else d.tile k := by
  have hu : (d.updTile t (fun y => { y with occSince := d.pwr.tick })).tile k =
      if k = t then { d.tile t with occSince := d.pwr.tick } else d.tile k := by
    by_cases h : k = t
    · subst h
      rw [if_pos rfl, Dev.tile_updTile_same]
    · rw [if_neg h, Dev.tile_updTile_other _ _ h]
  unfold Dev.countOwner
  dsimp only
  split <;> exact hu

theorem Dev.countOwner_held (d : Dev) (t : Nat) : d.Held (d.countOwner t) := by
  unfold Dev.countOwner
  dsimp only
  split <;> exact rfl

/-- The tile that `assignTile` hands to the job, before its clear. -/
def Dev.handTile (d : Dev) (j tenant t rank : Nat) : Dev :=
  let d := d.wakeTile t
  let e := if (d.tile t).owner != some tenant then d.countOwner t else d
  e.setTile t { e.tile t with job := some j, rank := rank, owner := some tenant }

theorem Dev.assignTile_eq (d : Dev) (j tenant t rank : Nat) : d.assignTile j tenant t rank =
    if (((d.wakeTile t).tile t).owner != some tenant || ((d.wakeTile t).tile t).mustClear) &&
        !((d.wakeTile t).tile t).clearing then (d.handTile j tenant t rank).startClear t
    else d.handTile j tenant t rank := rfl

theorem Dev.handTile_held (d : Dev) (j tenant t rank : Nat) : d.Held (d.handTile j tenant t rank) := by
  unfold Dev.handTile
  dsimp only
  split
  · exact (Dev.Held.trans (d.wakeTile_held t) (Dev.countOwner_held _ t)).trans rfl
  · exact (d.wakeTile_held t).trans rfl

theorem Dev.handTile_tile_other (d : Dev) (j tenant rank : Nat) {t k : Nat} (h : k ≠ t) :
    (d.handTile j tenant t rank).tile k = d.tile k := by
  unfold Dev.handTile
  dsimp only
  rw [Dev.tile_setTile_other _ _ h]
  split
  · rw [Dev.countOwner_tile, if_neg h, Dev.wakeTile_tile, if_neg h]
  · rw [Dev.wakeTile_tile, if_neg h]

theorem Dev.handTile_tile (d : Dev) (j tenant t rank : Nat) : ∃ y, (d.tile t).SameWork y ∧ y.power ≠ .sleep ∧
    (d.handTile j tenant t rank).tile t = { y with job := some j, rank := rank, owner := some tenant } := by
  have hw := d.wakeTile_sameWork t t
  have haw : ((d.wakeTile t).tile t).power ≠ .sleep := by
    rw [Dev.wakeTile_tile, if_pos rfl]
    exact Tile.woken_awake _ _
  unfold Dev.handTile
  dsimp only
  rw [Dev.tile_setTile_same]
  split
  · rw [Dev.countOwner_tile, if_pos rfl]
    exact ⟨{ (d.wakeTile t).tile t with occSince := (d.wakeTile t).pwr.tick },
      hw.trans ⟨rfl, rfl, rfl, rfl, fun h => h, rfl, rfl, rfl⟩, haw, rfl⟩
  · exact ⟨(d.wakeTile t).tile t, hw, haw, rfl⟩

theorem Dev.assignTile_held (d : Dev) (j tenant t rank : Nat) : d.Held (d.assignTile j tenant t rank) := by
  rw [Dev.assignTile_eq]
  split
  · exact (d.handTile_held j tenant t rank).trans (Dev.startClear_held _ t)
  · exact d.handTile_held j tenant t rank

theorem Dev.assignTile_tile_other (d : Dev) (j tenant rank : Nat) {t k : Nat} (h : k ≠ t) :
    (d.assignTile j tenant t rank).tile k = d.tile k := by
  rw [Dev.assignTile_eq]
  split
  · rw [Dev.startClear_tile_other _ h, Dev.handTile_tile_other _ _ _ _ h]
  · rw [Dev.handTile_tile_other _ _ _ _ h]

/-- A tile is held for the job, awake, and is being cleared where another tenant had it (R193). -/
theorem Dev.assignTile_tile (d : Dev) (j tenant : Nat) (e : Nat × Nat) :
    HeldFor j tenant e (d.tile e.1) ((d.assignTile j tenant e.1 e.2).tile e.1) := by
  obtain ⟨y, hy, haw, hyt⟩ := d.handTile_tile j tenant e.1 e.2
  have hw := d.wakeTile_sameWork e.1 e.1
  rw [Dev.assignTile_eq, hw.owner, hw.clearing]
  split
  case isTrue hneed =>
    rw [Dev.startClear_tile, hyt]
    split
    case isTrue hf =>
      refine ⟨rfl, rfl, rfl, haw, fun hnf _ => ?_⟩
      have : y.failed = false := hy.failed.trans hnf
      rw [this] at hf
      exact absurd hf Bool.false_ne_true
    case isFalse =>
      obtain ⟨z, hz⟩ : ∃ z : Tile, z = { y with job := some j, rank := e.2, owner := some tenant } := ⟨_, rfl⟩
      rw [← hz]
      have hs := Tile.woken_sameWork z (d.handTile j tenant e.1 e.2).pwr.tick
      have hzaw : z.power ≠ .sleep := by rw [hz]; exact haw
      refine ⟨hs.job.trans (by rw [hz]), hs.rank.trans (by rw [hz]), hs.owner.trans (by rw [hz]), hs.awake hzaw,
        fun _ _ => rfl⟩
  case isFalse hneed =>
    rw [hyt]
    refine ⟨rfl, rfl, rfl, haw, fun _ ho => ?_⟩
    have hcl : (d.tile e.1).clearing = true := by
      have hne : ((d.tile e.1).owner != some tenant) = true := bne_iff_ne.mpr ho
      simpa [hne] using hneed
    exact hy.clearing.trans hcl

/-- A job whose tiles fit keeps its minimum within the tenant's limit (R142, R183). -/
theorem Dev.minTiles_le_of_fit {d : Dev} {j : Nat} {x : Job} {l : List Nat} (hfirst : d.firstRun j x = true)
    (hn : x.nTiles = 0) (hfit : d.tilesFit x l = true) : x.minTiles ≤ d.tileLimit x.tenant := by
  simp only [Dev.firstRun, Bool.and_eq_true, beq_iff_eq] at hfirst
  obtain ⟨⟨⟨hop, -⟩, -⟩, -⟩ := hfirst
  simp only [Dev.tilesFit, Bool.and_eq_true, Nat.ble_eq] at hfit
  obtain ⟨⟨⟨⟨-, hneeds⟩, -⟩, hallow⟩, hfree⟩ := hfit
  have hmin : x.needs = x.minTiles := by simp [Job.needs, Job.minTiles, hn, hop]
  have h1 : x.minTiles ≤ d.obj 0x3821 0 x.tenant := by
    unfold Dev.allowance at hallow
    omega
  have hon : d.freeTiles.length ≤ ((List.range 128).filter d.tileOn).length := by
    rw [Dev.freeTiles, ← List.countP_eq_length_filter, ← List.countP_eq_length_filter]
    refine List.countP_mono_left fun t _ ht => ?_
    simp only [Dev.tileOk, Bool.and_eq_true] at ht
    exact ht.1.1.1
  have h2 : x.minTiles ≤ ((List.range 128).filter d.tileOn).length := by
    unfold Dev.freeFor at hfree
    omega
  exact Nat.le_min.mpr ⟨h1, h2⟩

/-- The job of an assignment. -/
def Job.onTiles (x : Job) (l : List Nat) : Job := { x with st := .assigned, tiles := l, nTiles := l.length }

theorem Dev.assign_held (d : Dev) (j : Nat) (x : Job) (l : List Nat) : (d.setJob j (x.onTiles l)).Held (d.assign j x l) :=
  (foldl_keeps (fun e => (d.setJob j (x.onTiles l)).Held e) _ (fun e a he => he.trans (e.assignTile_held j x.tenant a.1 a.2)) _ _
    (Dev.Held.refl _)).trans (Dev.keepAwake_woken _).1

/-- Each tile of an assignment is held with its rank (R193, R196). -/
theorem Dev.assign_tile {d : Dev} {l : List Nat} (hn : l.Nodup) (j : Nat) (x : Job) {r k : Nat} (hk : l[r]? = some k) :
    HeldFor j x.tenant (k, r) (d.tile k) ((d.assign j x l).tile k) := by
  obtain ⟨hmine, -⟩ := foldl_tiles (f := fun (d : Dev) e => d.assignTile j x.tenant e.1 e.2) (P := HeldFor j x.tenant)
    (fun d e => d.assignTile_tile j x.tenant e) (fun d e k h => d.assignTile_tile_other j x.tenant e.2 h) l.zipIdx
    (d.setJob j (x.onTiles l)) (zipIdx_fst_nodup hn)
  obtain ⟨h1, h2, h3, h4, h5⟩ := hmine (k, r) (mem_zipIdx_of_getElem? hk)
  have hw := (Dev.keepAwake_woken (l.zipIdx.foldl (fun (d : Dev) e => d.assignTile j x.tenant e.1 e.2)
    (d.setJob j (x.onTiles l)))).2 k
  exact ⟨hw.job.trans h1, hw.rank.trans h2, hw.owner.trans h3, hw.awake h4, fun hf ho => hw.clearing.trans (h5 hf ho)⟩

theorem Dev.schedule_of_fit {d : Dev} {x : Job} {l : List Nat} (hfit : d.tilesFit x l = true) (j : Nat) :
    d.schedule j x l = (d.assign j x l).unflag := if_pos hfit

theorem Dev.schedule_jobs {d : Dev} {x : Job} {l : List Nat} (hfit : d.tilesFit x l = true) (j : Nat) :
    (d.schedule j x l).jobs = d.jobs.put j (x.onTiles l) := by
  rw [Dev.schedule_of_fit hfit]
  exact (d.assign_held j x l).jobs

theorem exec_schedulerDispatch_of_fit {s : State} {j : Nat} {x : Job} {l : List TileId} (hx : KMap.find s.dev.jobs j = some x)
    (hfirst : s.dev.firstRun j x = true) (hn : x.nTiles = 0) (hfit : s.dev.tilesFit x (l.map (·.val)) = true) :
    exec (.schedulerDispatch j l) s = .next { s with dev := s.dev.schedule j x (l.map (·.val)) } := by
  have hmin := Dev.minTiles_le_of_fit hfirst hn hfit
  refine exec_dev rfl ?_
  dsimp only
  rw [hx]
  dsimp only
  rw [if_neg (by simp [hn]), if_neg (by simp; omega), if_pos hfirst]

/-! ### The start of a job (R196) -/

theorem Tile.startJob_sregs (x : Tile) (job : Job) (rank : Nat) : (x.startJob job rank).sregs =
    [(1, BitVec.ofNat 64 (bitsAt job.inline 0 64)), (2, BitVec.ofNat 64 (bitsAt job.inline 64 64)),
      (3, BitVec.ofNat 64 job.seq), (4, BitVec.ofNat 64 rank), (5, BitVec.ofNat 64 job.nTiles),
      (6, BitVec.ofNat 64 job.deadline)] := by
  unfold Tile.startJob
  dsimp only
  split <;> rfl

/-- A tile at job start: position 0, the registers of R196, its stores untouched. -/
structure Started (job : Job) (rank : Nat) (x y : Tile) : Prop where
  active : y.active = true
  power : y.power = .run
  pos : y.pos = 0
  seg : y.seg = 0
  loops : y.loops = []
  preds : y.preds = 1
  out : y.out = []
  sregs : ∃ z : Tile, y.sregs = (z.startJob job rank).sregs
  tb : y.tb = x.tb
  as : y.as = x.as

theorem Tile.startJob_started (x : Tile) (job : Job) (rank : Nat) : Started job rank x (x.startJob job rank) := by
  refine ⟨?_, ?_, ?_, ?_, ?_, ?_, ?_, ⟨x, rfl⟩, ?_, ?_⟩ <;> · unfold Tile.startJob; dsimp only; split <;> rfl

section
variable {job : Job} {rank : Nat} {x y : Tile} (h : Started job rank x y)
include h

theorem Started.s_named : y.s 0 = 0 ∧ y.s 1 = job.inline % 2 ^ 64 ∧ y.s 2 = job.inline / 2 ^ 64 % 2 ^ 64 ∧
    y.s 3 = job.seq % 2 ^ 64 ∧ y.s 4 = rank % 2 ^ 64 ∧ y.s 5 = job.nTiles % 2 ^ 64 ∧ y.s 6 = job.deadline % 2 ^ 64 := by
  obtain ⟨z, hz⟩ := h.sregs
  rw [Tile.startJob_sregs] at hz
  have hs : ∀ i, i ≠ 0 → y.s i = (KMap.get y.sregs i 0).toNat := fun i hi => if_neg hi
  refine ⟨rfl, ?_, ?_, ?_, ?_, ?_, ?_⟩ <;> rw [hs _ (by decide), hz]
  · simp [KMap.get, KMap.find, bitsAt_eq]
  · simp [KMap.get, KMap.find, bitsAt_eq]
  all_goals simp [KMap.get, KMap.find]

theorem Started.s_rest {i : Nat} (hi : 7 ≤ i) : y.s i = 0 := by
  obtain ⟨z, hz⟩ := h.sregs
  rw [Tile.startJob_sregs] at hz
  have hs : y.s i = (KMap.get y.sregs i 0).toNat := if_neg (by omega)
  rw [hs, hz]
  simp only [KMap.get, KMap.find]
  rw [if_neg (by omega), if_neg (by omega), if_neg (by omega), if_neg (by omega), if_neg (by omega), if_neg (by omega)]
  rfl

end

/-- One tile takes up its rank. -/
def Dev.startRank (job : Job) (d : Dev) (e : Nat × Nat) : Dev := (d.wakeTile e.1).updTile e.1 (fun y => y.startJob job e.2)

theorem Dev.startRank_tile (job : Job) (d : Dev) (e : Nat × Nat) :
    Started job e.2 (d.tile e.1) ((d.startRank job e).tile e.1) := by
  have hw := d.wakeTile_sameWork e.1 e.1
  have hs := Tile.startJob_started ((d.wakeTile e.1).tile e.1) job e.2
  rw [Dev.startRank, Dev.tile_updTile_same]
  exact { hs with tb := hs.tb.trans hw.tb, as := hs.as.trans hw.as }

theorem Dev.startRank_tile_other (job : Job) (d : Dev) (e : Nat × Nat) {k : Nat} (h : k ≠ e.1) :
    (d.startRank job e).tile k = d.tile k := by
  rw [Dev.startRank, Dev.tile_updTile_other _ _ h, Dev.wakeTile_tile, if_neg h]

theorem Dev.startRank_held (d : Dev) (job : Job) (e : Nat × Nat) : d.Held (d.startRank job e) := rfl

/-- The job of a start. -/
def Dev.startedJob (d : Dev) (x : Job) : Job :=
  { x with
    st := .running, started := d.pwr.tick, front := false, gens := d.latchGens x.tenant
    headroom := d.obj 0x6801 0 x.tenant }

theorem exec_run_of_ready {s : State} {j : Nat} {x : Job} (hs : s.dev.serving = true) (hx : KMap.find s.dev.jobs j = some x)
    (hop : x.opcode = 1) (hst : x.st = .assigned) (hc : x.ckpts = []) (hr : ∀ k ∈ x.tiles, s.dev.tileReady k = true) :
    exec (.run j) s = .next { s with
      dev := x.tiles.zipIdx.foldl (Dev.startRank x) (s.dev.setJob j (s.dev.startedJob x)) } := by
  refine exec_dev rfl ?_
  dsimp only
  rw [hx]
  dsimp only
  rw [if_pos (by simpa [hs, hop, hst, hc] using hr)]
  rfl

/-- Settles O23: the tiles of the fit job, and of the started one, by the folds over them. -/
theorem dispatchAndRun : Obligations.DispatchAndRun := by
  refine ⟨fun s j x l hx hfirst hn hfit => ?dispatches, fun s j x hs hx hop hst hc hnd hr => ?runs⟩
  case dispatches =>
    have hjobs := Dev.schedule_jobs hfit j
    have hjob : x.onTiles (l.map (·.val)) =
        { x with st := .assigned, tiles := l.map (·.val), nTiles := l.length } := by
      rw [Job.onTiles, List.length_map]
    have hheld := s.dev.assign_held j x (l.map (·.val))
    have hall : (∀ t ∈ l.map (·.val), t ∈ s.dev.freeTiles) ∧ (l.map (·.val)).Nodup := by
      simp only [Dev.tilesFit, Bool.and_eq_true, List.all_eq_true, List.contains_iff_mem, decide_eq_true_eq] at hfit
      exact ⟨hfit.1.1.1.1.1, hfit.1.1.1.1.2⟩
    obtain ⟨hfree, hnd⟩ := hall
    refine ⟨_, exec_schedulerDispatch_of_fit hx hfirst hn hfit, onlyDev_withDev _ _, ?_, fun i hi => ?_, ?_, fun r k hk => ?_⟩
    · dsimp only
      rw [hjobs, KMap.find_put_same, hjob]
    · dsimp only
      rw [hjobs, KMap.find_put_other _ _ _ _ hi]
    · dsimp only
      rw [Dev.schedule_of_fit hfit]
      exact hheld.mem
    · have hk' : (l.map (·.val))[r]? = some k.val := by rw [List.getElem?_map, hk]; rfl
      have hok : (s.dev.tile k.val).failed = false := by
        have hmem := hfree k.val (List.mem_of_getElem? hk')
        simp only [Dev.freeTiles, List.mem_filter, Dev.tileOk, Dev.tileOn, Bool.and_eq_true, Bool.not_eq_true'] at hmem
        exact hmem.2.1.1.1.2
      obtain ⟨h1, h2, h3, h4, h5⟩ := Dev.assign_tile (d := s.dev) hnd j x hk'
      dsimp only
      rw [Dev.schedule_of_fit hfit, Dev.unflag_tile]
      exact ⟨h1, h2, h3, h4, h5 hok⟩
  case runs =>
    obtain ⟨hmine, hrest⟩ := foldl_tiles (f := Dev.startRank x) (P := fun e => Started x e.2) (Dev.startRank_tile x)
      (fun d e k h => d.startRank_tile_other x e h) x.tiles.zipIdx (s.dev.setJob j (s.dev.startedJob x)) (zipIdx_fst_nodup hnd)
    have hheld : (s.dev.setJob j (s.dev.startedJob x)).Held
        (x.tiles.zipIdx.foldl (Dev.startRank x) (s.dev.setJob j (s.dev.startedJob x))) :=
      foldl_keeps (fun e => (s.dev.setJob j (s.dev.startedJob x)).Held e) _ (fun e a he => he.trans (e.startRank_held x a)) _ _
        (Dev.Held.refl _)
    rw [List.zipIdx_map_fst] at hrest
    have hjobs := hheld.jobs
    refine ⟨_, exec_run_of_ready hs hx hop hst hc hr, onlyDev_withDev _ _, hheld.mem, hheld.rings,
      ⟨s.dev.startedJob x, ?_, rfl, rfl, rfl⟩, fun i hi => ?_, fun r k hk => ?_, fun k hk => hrest k.val hk⟩
    · exact (congrArg (fun m => KMap.find m j) hjobs).trans (KMap.find_put_same _ _ _)
    · exact (congrArg (fun m => KMap.find m i) hjobs).trans (KMap.find_put_other _ _ _ _ hi)
    · have hstart := hmine (k, r) (mem_zipIdx_of_getElem? hk)
      obtain ⟨h0, h1, h2, h3, h4, h5, h6⟩ := hstart.s_named
      exact ⟨hstart.active, hstart.power, hstart.pos, hstart.seg, hstart.loops, hstart.preds, hstart.out, h0, h1, h2, h3, h4, h5,
        h6, fun i hi _ => hstart.s_rest hi, hstart.tb, hstart.as⟩

end Sys2Proof.Machine

/-! ## Segments, checkpoints and resume (R146, R153, R209, R211, R222) -/

namespace Sys2Proof.Machine

open Sys2Proof.Stm

/-! ### The job of a tile -/

/-- The job that a tile runs is running and stands among the jobs. -/
theorem Dev.tileJob_eq_some {d : Dev} {t j : Nat} {x : Job} :
    d.tileJob t = some (j, x) ↔ (d.tile t).job = some j ∧ KMap.find d.jobs j = some x ∧ x.st = .running := by
  unfold Dev.tileJob
  cases hj : (d.tile t).job with
  | none => simp
  | some i =>
    dsimp only
    cases hx : KMap.find d.jobs i with
    | none =>
      simp only [reduceCtorEq, false_iff, Option.some.injEq]
      rintro ⟨rfl, h, -⟩
      rw [hx] at h
      cases h
    | some y =>
      dsimp only
      by_cases hr : y.st = .running
      · rw [if_pos (by rw [hr]; rfl)]
        simp only [Option.some.injEq, Prod.mk.injEq]
        constructor
        · rintro ⟨rfl, rfl⟩
          exact ⟨rfl, hx, hr⟩
        · rintro ⟨rfl, h, -⟩
          rw [hx] at h
          exact ⟨rfl, Option.some.inj h⟩
      · rw [if_neg (by simpa using hr)]
        simp only [reduceCtorEq, false_iff, Option.some.injEq]
        rintro ⟨rfl, h, h'⟩
        rw [hx] at h
        exact hr (Option.some.inj h ▸ h')

theorem Dev.tileJob_congr {d e : Dev} {t : Nat} (ht : e.tile t = d.tile t) (hj : e.jobs = d.jobs) :
    e.tileJob t = d.tileJob t := by
  unfold Dev.tileJob
  rw [ht, hj]

section
variable {d : Dev} {t j : Nat} {x : Job} (h : d.tileJob t = some (j, x))
include h

theorem Dev.tileJob_find : KMap.find d.jobs j = some x := (Dev.tileJob_eq_some.mp h).2.1

theorem Dev.tileJob_live (n : Nat) : x.st ≠ .ended n := by
  rw [(Dev.tileJob_eq_some.mp h).2.2]
  exact JobState.noConfusion

end

theorem Dev.countFault_rep (d : Dev) (code tenant : Nat) : d.Rep (d.countFault code tenant) := by
  have hb : ∀ i u w, d.Rep (d.bump i u tenant w) := fun i u w => d.bump_rep i u tenant w 1
  unfold Dev.countFault
  split
  · exact hb _ _ _
  split
  · exact hb _ _ _
  split
  · exact hb _ _ _
  split
  · exact hb _ _ _
  split
  · exact hb _ _ _
  · exact Dev.Rep.refl d

/-- A rank's fault is counted and reported, and ends its job (R197, R383). -/
theorem Dev.rankFault_ends {d : Dev} {t j : Nat} {x : Job} (h : d.tileJob t = some (j, x)) (code detail : Nat) :
    ∃ e key, d.Rep e ∧ d.rankFault t code detail = e.endJob j (statusOf code) key := by
  unfold Dev.rankFault
  rw [h]
  exact ⟨_, _, (d.countFault_rep code x.tenant).trans (Dev.report_rep _ _), rfl⟩

theorem exec_segmentOverrun_of_over {s : State} {k : TileId} {j : Nat} {x : Job} (hs : s.dev.serving = true)
    (hj : s.dev.tileJob k.val = some (j, x)) (ha : (s.dev.tile k.val).active = true)
    (hseg : 16384 ≤ (s.dev.tile k.val).seg) : exec (.segmentOverrun k) s = .next { s with
      dev := (s.dev.maxObj 0x5002 0 x.tenant (s.dev.tile k.val).seg 16).rankFault k.val 0x08
        (x.tcwVa (s.dev.tile k.val).pos + 0 * 2 ^ 64) } := by
  have hj' : (s.dev.maxObj 0x5002 0 x.tenant (s.dev.tile k.val).seg 16).tileJob k.val = some (j, x) := hj
  refine exec_dev rfl ?_
  dsimp only
  rw [hj]
  dsimp only
  rw [if_pos (by simp [hs, ha, hseg]), Dev.tileErr, hj']

/-! ### A tile taken at its boundary -/

section
variable {s : State} {k : TileId} {j : Nat} {x : Job} (hs : s.dev.serving = true)
  (hj : s.dev.tileJob k.val = some (j, x)) (ha : (s.dev.tile k.val).active = true)
  (hb : (s.dev.tile k.val).atBoundary = true)
include hs hj ha hb

theorem exec_segmentBoundaryTake_of_stop (hstop : x.stopAtBoundary = true) (hc : x.cancel = false) :
    exec (.segmentBoundaryTake k) s = .next { s with
      dev := ((s.dev.setJob j { x with tiles := x.tiles.filter (· != k.val) }).updTile k.val (fun y => { y with
        draining := some (j, (s.dev.tile k.val).rank) })).releaseTile k.val } := by
  have hjob : ({ x with stopAtBoundary := true, tiles := x.tiles.filter (· != k.val) } : Job) =
      { x with tiles := x.tiles.filter (· != k.val) } := by rw [← hstop]
  refine exec_dev rfl ?_
  dsimp only
  rw [hj]
  dsimp only
  rw [if_pos (by simp [hs, ha, hb, Dev.wantsStop, hstop]), if_neg (by simp [hc]), hjob]

theorem exec_segmentBoundaryTake_of_cancel (hc : x.cancel = true) :
    exec (.segmentBoundaryTake k) s = .next { s with dev := (s.dev.updTile k.val Tile.stop).cancelCheck j } := by
  refine exec_dev rfl ?_
  dsimp only
  rw [hj]
  dsimp only
  rw [if_pos (by simp [hs, ha, hb, Dev.wantsStop, hc]), if_pos hc]

end

/-- A tile released where a clear is not due at every job's end (R193). -/
theorem Dev.releaseTile_of_no_clear {d : Dev} {t : Nat} (h : d.clearEvery = false) : d.releaseTile t = d.restTile t := by
  have hc : (d.restTile t).clearEvery = false := by
    have hf : d.Freed (d.restTile t) := d.restTile_freed t
    rw [hf]
    exact h
  rw [Dev.releaseTile_eq, hc]
  rfl

theorem Dev.restTile_tile (d : Dev) (t k : Nat) : ∃ p i, (d.restTile t).tile k =
    if k = t then { (d.tile t).stop with job := none, rank := 0, power := p, idleSince := i } else d.tile k := by
  by_cases hk : k = t
  · subst hk
    unfold Dev.restTile
    dsimp only
    split
    · refine ⟨.idle, d.pwr.tick, ?_⟩
      rw [if_pos rfl, Dev.idleTile, Dev.tile_updTile_same, Dev.tile_updTile_same]
      rfl
    · refine ⟨(d.tile k).power, (d.tile k).idleSince, ?_⟩
      rw [if_pos rfl, Dev.tile_updTile_same]
      rfl
  · refine ⟨.idle, 0, ?_⟩
    rw [if_neg hk]
    unfold Dev.restTile
    dsimp only
    split
    · rw [Dev.idleTile, Dev.tile_updTile_other _ _ hk, Dev.tile_updTile_other _ _ hk]
    · rw [Dev.tile_updTile_other _ _ hk]

/-! ### A drained checkpoint -/

/-- A buffer without a marked word drains (R211, R220). -/
theorem Dev.drainRead_of_clean {d : Dev} {t : Nat} (h : (d.tile t).cErr = []) : d.drainRead t = (none,
    d.setTile t { d.tile t with draining := none, ckpt := none, copied := false }) := by
  simp only [Dev.drainRead, h, List.filter_nil, List.foldl_nil, List.head?_nil, List.length_nil, Dev.countCe, if_true]

theorem Dev.releaseDone_of_no_tiles {d : Dev} {j : Nat} {x : Job} (hx : KMap.find d.jobs j = some x)
    (hstop : x.stopAtBoundary = true) (ht : x.tiles = []) : d.releaseDone j = d.setJob j { x with tiles := [] } := by
  unfold Dev.releaseDone
  rw [hx]
  dsimp only
  refine (if_pos (by rw [ht, hstop]; rfl)).trans ?_
  rw [ht]
  rfl

/-- A preempted job of one rank whose record is held waits at the front of its class. -/
theorem Dev.requeueCheck_of_one {d : Dev} {j : Nat} {x : Job} {c : Ckpt} (hx : KMap.find d.jobs j = some x)
    (hst : x.st = .running) (hstop : x.stopAtBoundary = true) (hn : x.nTiles = 1) (hc : KMap.find x.ckpts 0 = some c) :
    d.requeueCheck j = d.setJob j { x with
      st := .waiting, front := true, preempted := true, stopAtBoundary := false, tiles := [] } := by
  have hall : (List.range x.nTiles).all (fun r => x.doneRanks.contains r || (KMap.find x.ckpts r).isSome) = true := by
    rw [hn]
    simp [hc]
  unfold Dev.requeueCheck
  rw [hx]
  dsimp only
  rw [hst, hall, hstop]
  rfl

/-- The job of a drained record, preempted and waiting. -/
def Job.requeued (x : Job) (c : Ckpt) : Job :=
  { x with
    ckpts := x.ckpts.put 0 c, st := .waiting, front := true, preempted := true, stopAtBoundary := false, tiles := [] }

theorem exec_checkpointDrainDone_of_last {s : State} {k : TileId} {j : Nat} {x : Job} {c : Ckpt}
    (hd : (s.dev.tile k.val).draining = some (j, 0)) (he : (s.dev.tile k.val).cErr = [])
    (hc : (s.dev.tile k.val).ckpt = some c) (hx : KMap.find s.dev.jobs j = some x) (hst : x.st = .running)
    (hstop : x.stopAtBoundary = true) (ht : x.tiles = []) (hn : x.nTiles = 1) :
    exec (.checkpointDrainDone k) s = .next { s with
      dev := ((s.dev.setTile k.val { s.dev.tile k.val with draining := none, ckpt := none, copied := false }).bump 0x5003 3
        x.tenant 64).setJob j (x.requeued c) } := by
  obtain ⟨e, hedef⟩ : ∃ e, e = (s.dev.setTile k.val
    { s.dev.tile k.val with draining := none, ckpt := none, copied := false }).bump 0x5003 3 x.tenant 64 := ⟨_, rfl⟩
  obtain ⟨y, hy⟩ : ∃ y : Job, y = { x with st := .running, ckpts := x.ckpts.put 0 c } := ⟨_, rfl⟩
  have hrel : (e.setJob j y).releaseDone j = (e.setJob j y).setJob j { y with tiles := [] } :=
    Dev.releaseDone_of_no_tiles (Dev.find_setJob_same _ _ _) (by rw [hy]; exact hstop) (by rw [hy]; exact ht)
  have hreq : ((e.setJob j y).setJob j { y with tiles := [] }).requeueCheck j =
      ((e.setJob j y).setJob j { y with tiles := [] }).setJob j { y with
        st := .waiting, front := true, preempted := true, stopAtBoundary := false, tiles := [] } :=
    Dev.requeueCheck_of_one (x := { y with tiles := [] }) (c := c) (Dev.find_setJob_same _ _ _) (by rw [hy]) (by rw [hy]; exact hstop)
      (by rw [hy]; exact hn) (by rw [hy]; exact KMap.find_put_same _ _ _)
  have hputs : ((e.setJob j y).setJob j { y with tiles := [] }).setJob j { y with
      st := .waiting, front := true, preempted := true, stopAtBoundary := false, tiles := [] } = e.setJob j (x.requeued c) := by
    rw [hy]
    simp only [Dev.setJob, KMap.put_put]
    rfl
  refine exec_dev rfl ?_
  dsimp only
  rw [hd]
  dsimp only
  rw [Dev.drainRead_of_clean he]
  dsimp only
  rw [show (s.dev.setTile k.val { s.dev.tile k.val with draining := none, ckpt := none, copied := false }).jobs = s.dev.jobs
    from rfl, hx]
  dsimp only
  rw [hst, hc]
  dsimp only
  rw [← hedef, ← hy, hrel, hreq, hputs]

/-! ### Resume -/

theorem Tile.setP7_p7 (x : Tile) : (x.setP7 true).p 7 = true := by
  have hbit : (putBit x.preds.toNat 7 true % 2 ^ 8).testBit 7 = true := by
    rw [Nat.testBit_mod_two_pow, testBit_putBit]
    rfl
  exact hbit

theorem exec_jobResume_of_waiting {s : State} {j : Nat} {x : Job} {l : List TileId} (hx : KMap.find s.dev.jobs j = some x)
    (hc : x.ckpts ≠ []) (hop : x.opcode = 1) (hst : x.st = .waiting) (hfirst : s.dev.firstRun j x = true) :
    exec (.jobResume j l) s = .next { s with dev := s.dev.schedule j x (l.map (·.val)) } := by
  refine exec_dev rfl ?_
  dsimp only
  rw [hx]
  dsimp only
  rw [if_neg (by simp [hc, hop]), if_pos (by rw [hst]; rfl), if_pos hfirst]

/-- The job of a resume. -/
def Dev.resumedJob (d : Dev) (x : Job) : Job :=
  { x with st := .running, started := d.pwr.tick, front := false, ckpts := [] }

/-- A job of one rank resumes on its tile. -/
theorem exec_jobResume_of_one {s : State} {j k : Nat} {x : Job} {c : Ckpt} (l : List TileId) (hs : s.dev.serving = true)
    (hx : KMap.find s.dev.jobs j = some x) (hop : x.opcode = 1) (hst : x.st = .assigned) (ht : x.tiles = [k])
    (hc : x.ckpts = [(0, c)]) (hr : s.dev.tileReady k = true) : exec (.jobResume j l) s = .next { s with
      dev := (((s.dev.setJob j (s.dev.resumedJob x)).wakeTile k).updTile k (fun y => y.resume c 0 false)).bump 0x5003 4 x.tenant
        64 } := by
  have hready : (s.dev.serving && x.st == .assigned && x.tiles.all s.dev.tileReady) = true := by
    rw [ht, hs, hst]
    simp [hr]
  refine exec_dev rfl ?_
  dsimp only
  rw [hx]
  dsimp only
  rw [if_neg (by simp [hc, hop]), if_neg (by rw [hst]; decide), if_pos hready, show x.tiles.zipIdx = [(k, 0)] by rw [ht]; rfl,
    List.foldl_cons, List.foldl_nil]
  dsimp only
  rw [show KMap.find x.ckpts 0 = some c by rw [hc]; rfl]
  rfl

/-- Settles O24: a fault or a cancel ends the job; a taken tile rests, its record drains, and the job takes it up again. -/
theorem segmentsAndResume : Obligations.SegmentsAndResume := by
  refine ⟨fun s k j x hs hj ha hseg => ?overruns, fun s k j x hs hj ha hb hstop hc hclear => ?taken,
    fun s k j x hs hj ha hb hc ht => ?cancels, fun s k j r x c hd he hc hx hst hstop ht hn hr => ?drains,
    fun s j x l hx hc hop hst hfirst hfit => ?again, fun s j k x c l hs hx hop hst ht hc hr => ?resumes⟩
  case overruns =>
    obtain ⟨d, hd⟩ : ∃ d, d = s.dev.maxObj 0x5002 0 x.tenant (s.dev.tile k.val).seg 16 := ⟨_, rfl⟩
    have hj' : d.tileJob k.val = some (j, x) := by rw [hd]; exact hj
    obtain ⟨e, key, hrep, hend⟩ := Dev.rankFault_ends hj' 0x08 (x.tcwVa (s.dev.tile k.val).pos + 0 * 2 ^ 64)
    have hfind : KMap.find e.jobs j = some x := by rw [hrep.jobs]; exact Dev.tileJob_find hj'
    have hframe := Dev.endJob_frame hfind (Dev.tileJob_live hj') (statusOf 0x08) key
    have hjobs := Dev.endJob_jobs hfind (Dev.tileJob_live hj') (statusOf 0x08) key
    refine ⟨_, exec_segmentOverrun_of_over hs hj ha hseg, onlyDev_withDev _ _, ⟨x.endedAs 6 e.pwr.tick key, ?_, rfl, rfl⟩, ?_, ?_⟩
    · dsimp only
      rw [← hd, hend, hjobs]
      exact KMap.find_put_same _ _ _
    · dsimp only
      rw [← hd, hend, hframe]
      exact hrep.pwr.trans (by rw [hd]; rfl)
    · dsimp only
      rw [← hd, hend, hframe]
      exact hrep.rings.trans (by rw [hd]; rfl)
  case taken =>
    obtain ⟨d, hd⟩ : ∃ d, d = (s.dev.setJob j { x with tiles := x.tiles.filter (· != k.val) }).updTile k.val (fun y => { y with
      draining := some (j, (s.dev.tile k.val).rank) }) := ⟨_, rfl⟩
    have hrel : d.releaseTile k.val = d.restTile k.val := Dev.releaseTile_of_no_clear (by rw [hd]; exact hclear)
    have hfreed := d.restTile_freed k.val
    have htile : d.tile k.val = { s.dev.tile k.val with draining := some (j, (s.dev.tile k.val).rank) } := by
      rw [hd]
      exact Dev.tile_updTile_same _ _ _
    obtain ⟨p, i, hrest⟩ := d.restTile_tile k.val k.val
    rw [if_pos rfl, htile] at hrest
    refine ⟨_, exec_segmentBoundaryTake_of_stop hs hj ha hb hstop hc, onlyDev_withDev _ _, ?_, ?_, ?_, ?_, ?_, fun m hm => ?_, ?_⟩ <;>
      dsimp only <;> rw [← hd, hrel]
    · rw [hfreed, hd]
      exact KMap.find_put_same _ _ _
    · rw [hrest]
      rfl
    · rw [hrest]
      rfl
    · rw [hrest]
    · rw [hrest]
      rfl
    · have hne : m.val ≠ k.val := fun he => hm (Fin.ext he)
      obtain ⟨p', i', hother⟩ := d.restTile_tile k.val m.val
      rw [hother, if_neg hne, hd]
      exact Dev.tile_updTile_other _ _ hne
    · rw [hfreed, hd]
      rfl
  case cancels =>
    have hx := Dev.tileJob_find hj
    have hrun := (Dev.tileJob_eq_some.mp hj).2.2
    have hcheck : (s.dev.updTile k.val Tile.stop).cancelCheck j = (s.dev.updTile k.val Tile.stop).endJob j 5 0 := by
      unfold Dev.cancelCheck
      rw [show (s.dev.updTile k.val Tile.stop).jobs = s.dev.jobs from rfl, hx]
      dsimp only
      rw [if_pos]
      rw [hc, hrun, ht]
      simp [Tile.stop]
    have hjobs := Dev.endJob_jobs (d := s.dev.updTile k.val Tile.stop) hx (Dev.tileJob_live hj) 5 0
    refine ⟨_, exec_segmentBoundaryTake_of_cancel hs hj ha hb hc, x.endedAs 5 s.dev.pwr.tick 0, ?_, rfl, rfl⟩
    dsimp only
    rw [hcheck, hjobs]
    exact KMap.find_put_same _ _ _
  case drains =>
    subst hr
    refine ⟨_, exec_checkpointDrainDone_of_last hd he hc hx hst hstop ht hn, onlyDev_withDev _ _, ?_, ?_,
      ⟨x.requeued c, Dev.find_setJob_same _ _ _, rfl, rfl, rfl, KMap.find_put_same _ _ _⟩, ?_⟩
    · exact congrArg Tile.draining (Dev.tile_setTile_same s.dev k.val _)
    · exact congrArg Tile.ckpt (Dev.tile_setTile_same s.dev k.val _)
    · exact Dev.obj_bump_same _ _ _ _ _ _
  case again =>
    refine ⟨_, exec_jobResume_of_waiting hx hc hop hst hfirst, x.onTiles (l.map (·.val)), ?_, rfl, rfl, rfl⟩
    dsimp only
    rw [Dev.schedule_jobs hfit]
    exact KMap.find_put_same _ _ _
  case resumes =>
    obtain ⟨e, he⟩ : ∃ e, e = (s.dev.setJob j (s.dev.resumedJob x)).wakeTile k := ⟨_, rfl⟩
    have htile : ((e.updTile k (fun y => y.resume c 0 false)).bump 0x5003 4 x.tenant 64).tile k = (e.tile k).resume c 0 false :=
      Dev.tile_updTile_same e k (fun y => y.resume c 0 false)
    refine ⟨_, exec_jobResume_of_one l hs hx hop hst ht hc hr, onlyDev_withDev _ _,
      ⟨s.dev.resumedJob x, Dev.find_setJob_same _ _ _, rfl, rfl⟩, ?_⟩
    dsimp only
    rw [← he, htile]
    refine ⟨rfl, rfl, rfl, rfl, Tile.setP7_p7 _, rfl, rfl, rfl, fun i hi => ?_, fun a ha => ?_⟩
    · exact (cellAt_write [] c.keepStart c.keepData _).trans (by rw [if_pos (by omega), Nat.add_sub_cancel_left]; rfl)
    · exact (cellAt_write [] c.keepStart c.keepData _).trans (if_neg ha)

end Sys2Proof.Machine

/-! ## Walks, fault records and stalls (R161 to R166, R173, R175, R391, R401) -/

namespace Sys2Proof.Machine

open Sys2Proof.Stm

/-- The walk that a waiting walk becomes on its walker. -/
def Dev.startedWalk (d : Dev) (w : Walk) : Walk :=
  { w with
    active := true, reserved := (d.walkerFor w).getD false, start := d.pwr.tick, deadline := d.obj 0xA030 0 0
    delay := d.obj 0xD012 0 0 }

theorem exec_walkStart_of_ready {s : State} {k : Nat} {w : Walk} (hs : s.dev.serving = true)
    (hw : s.dev.walkQueue.find? (fun w => (s.dev.walkerFor w.2).isSome) = some (k, w)) :
    exec .walkStart s = .next { s with dev := (s.dev.putWalk k (s.dev.startedWalk w)).bump 0x4020 3 0 64 } := by
  refine exec_dev rfl ((if_pos hs).trans ?_)
  unfold Dev.walkStart
  rw [hw]
  rfl

/-! ### The end of a walk -/

/-- The device of a walk that leaves its walker, its length counted. -/
def Dev.walkEnded (d : Dev) (k : Nat) (w : Walk) : Dev := (d.dropWalk k).maxObj 0x4020 4 0 (d.pwr.tick - w.start) 32

theorem Dev.walk_inTime {d : Dev} {w : Walk} (ha : w.active = true) (hdelay : w.delay ≤ d.pwr.tick - w.start)
    (hdead : d.pwr.tick - w.start ≤ w.deadline) :
    ¬ (!w.active || decide (d.since w.start < w.delay) || decide (w.deadline < d.since w.start)) = true := by
  have h1 : decide (d.since w.start < w.delay) = false := decide_eq_false (Nat.not_lt.mpr hdelay)
  have h2 : decide (w.deadline < d.since w.start) = false := decide_eq_false (Nat.not_lt.mpr hdead)
  rw [ha, h1, h2]
  decide

section
variable {s : State} {k : Nat} {w : Walk} (hw : KMap.find s.dev.stu.walks k = some w)
  (ha : w.active = true) (hdelay : w.delay ≤ s.dev.pwr.tick - w.start) (hdead : s.dev.pwr.tick - w.start ≤ w.deadline)
include hw ha hdelay hdead

/-- A walk within its time ends with what it found. -/
theorem Dev.walkComplete_fault {d : Dev} {cause level : Nat}
    (hwalk : (s.dev.walkEnded k w).walk w.tenant w.pasid w.va = (.fault cause level, d)) :
    s.dev.walkComplete k = w.reqs.foldl (fun (d : Dev) r => d.walkFault w cause level r) d := by
  have hgo := Dev.walk_inTime ha hdelay hdead
  unfold Dev.walkComplete
  rw [hw]
  dsimp only
  rw [if_neg hgo]
  change (match (s.dev.walkEnded k w).walk w.tenant w.pasid w.va with | (.leaf e pte level addr, d') => _ | (.fault c l, d) => _) = _
  rw [hwalk]

/-- A walk of one request of an engine that is no tile and waits for no engine's own work: the leaf is held. -/
theorem Dev.walkComplete_leaf {d : Dev} {r : Requester} {e : TlbEntry} {pte l a : Nat} (hreqs : w.reqs = [r])
    (hsrc : 128 ≤ r.source) (h8a : r.source ≠ 0x8A) (h84 : r.source ≠ 0x84) (h82 : r.source ≠ 0x82)
    (hwalk : (s.dev.walkEnded k w).walk w.tenant w.pasid w.va = (.leaf e pte l a, d)) (hu : leafUsable pte = true)
    (hc : leafCause pte r.access = 0) : s.dev.walkComplete k = d.putIotlb e := by
  have hgo := Dev.walk_inTime ha hdelay hdead
  have hspecial : (r.checks || r.moves) = false := by simp [Requester.checks, Requester.moves, h84, h82]
  have hplain : (!(r.checks || r.moves)) = true := by rw [hspecial]; rfl
  have hfs : [r].filter (fun r => r.checks || r.moves) = [] := by simp [hspecial]
  have hfp : [r].filter (fun r => !(r.checks || r.moves)) = [r] := List.filter_cons_of_pos hplain
  have hfg : [r].filter (fun r => leafCause pte r.access == 0) = [r] := by simp [hc]
  have hfb : [r].filter (fun r => leafCause pte r.access != 0) = [] := by simp [hc]
  have hnear : ∀ x : Dev, x.putNear r.source e = x := fun x => if_neg (by omega)
  have hreplay : ∀ x : Dev, x.replayEngines [r] = x := fun x => by simp [Dev.replayEngines, h8a, h84]
  unfold Dev.walkComplete
  rw [hw]
  dsimp only
  rw [if_neg hgo]
  change (match (s.dev.walkEnded k w).walk w.tenant w.pasid w.va with | (.leaf e pte level addr, d') => _ | (.fault c l, d) => _) = _
  rw [hwalk]
  dsimp only
  rw [hreqs, hfs, hfp, hfg, hfb, hu, if_pos rfl, if_neg (show ¬ [r].isEmpty = true from Bool.false_ne_true), hreplay]
  simp only [List.foldl_cons, List.foldl_nil, hnear]

end

theorem Dev.putIotlb_of_room {d : Dev} (e : TlbEntry) (h : d.stu.iotlb.length < 16384) :
    ∃ l, d.putIotlb e = { d with stu := { d.stu with iotlb := l ++ [e] } } := by
  have hlen : (d.stu.iotlb.filter (fun x => !(x.tenant == e.tenant && x.pasid == e.pasid && x.vpn == e.vpn &&
      x.pages == e.pages))).length < 16384 := lt_of_le_of_lt (List.length_filter_le _ _) h
  refine ⟨d.stu.iotlb.filter (fun x => !(x.tenant == e.tenant && x.pasid == e.pasid && x.vpn == e.vpn &&
      x.pages == e.pages)), ?_⟩
  unfold Dev.putIotlb tlbPut
  dsimp only
  rw [if_pos hlen]

/-! ### Fault records -/

/-- The first record of an empty queue. -/
theorem Dev.fileFault_of_none {d : Dev} {f : FaultRec} (h : d.stu.faults = []) (again : Bool) :
    d.fileFault f again = f.reqs.foldl (fun (d : Dev) r => d.tileFaults r false)
      (({ d with stu := { d.stu with faults := [(d.freshFault, f)], nextFault := (d.freshFault + 1) % 65536 } } : Dev).bump 0x4020
        7 0 64) := by
  unfold Dev.fileFault
  rw [h]
  rfl

/-- A request of the hub's engines stalls no tile. -/
theorem Dev.tileFaults_of_hub {d : Dev} {r : Requester} (h : 128 ≤ r.source) (queued : Bool) : d.tileFaults r queued = d := by
  unfold Dev.tileFaults
  split
  · rfl
  · exact if_pos h

/-- A tile's request under policy 1 stalls its engine. -/
theorem Dev.tileFaults_of_stall {d : Dev} {r : Requester} {j : Nat} (hsrc : r.source < 128) (hj : r.job = some j)
    (hp : r.policy = 1) (ht : (d.tile r.source).job = some j)
    (hx : ∀ x, KMap.find d.jobs j = some x → x.stopAtBoundary = false ∧ x.cancel = false) (queued : Bool) :
    d.tileFaults r queued = d.updTile r.source (fun x => { x with
      stalls := x.stalls.filter (fun n => n != r.tag) ++ [r.tag] }) := by
  have hany : (KMap.find d.jobs j).any (fun x => x.stopAtBoundary || x.cancel) = false := by
    cases hf : KMap.find d.jobs j with
    | none => rfl
    | some x =>
      obtain ⟨h1, h2⟩ := hx x hf
      simp [h1, h2]
  unfold Dev.tileFaults
  rw [hj]
  dsimp only
  rw [if_neg (by omega), hany, if_neg Bool.false_ne_true, if_neg (by omega), if_pos (by rw [ht]; exact beq_self_eq_true _)]

/-- The record of one stalled request. -/
def Dev.stalledRec (d : Dev) (w : Walk) (r : Requester) (level : Nat) : FaultRec := d.faultOf w r 1 level

theorem Dev.walkFault_of_tile {d : Dev} {w : Walk} {r : Requester} (hsrc : r.source < 128) (level : Nat) :
    d.walkFault w 1 level r = d.fileFault (d.stalledRec w r level) false := by
  have h84 : r.checks = false := by
    simp [Requester.checks]
    omega
  have h82 : r.moves = false := by
    simp [Requester.moves]
    omega
  unfold Dev.walkFault
  rw [h84, h82]
  simp [Dev.stalledRec]

/-! ### Expiry -/

/-- The device of a walk that starts again: its length and its start counted. -/
def Dev.walkAgain (d : Dev) (k : Nat) (w : Walk) : Dev :=
  (((d.maxObj 0x4020 4 0 (d.pwr.tick - w.start) 32).freeBelow 5).2.putWalk k { w with
    restarted := true, start := d.pwr.tick }).bump 0x4020 3 0 64

theorem Dev.walkAgain_frame (d : Dev) (k : Nat) (w : Walk) : ∃ f, d.walkAgain k w =
    ({ d.maxObj 0x4020 4 0 (d.pwr.tick - w.start) 32 with
      free := f, stu := { d.stu with walks := d.stu.walks.put k { w with restarted := true, start := d.pwr.tick } } } :
        Dev).bump 0x4020 3 0 64 := ⟨_, rfl⟩

/-- The record of a walk's first expiry (R391). -/
def Dev.expiryRec (d : Dev) (k : Nat) (w : Walk) (r : Requester) : Rec :=
  { code := 0x35, source := 0x83
    detail := faultBits ((d.walkAgain k w).faultOf w r 0xB ((d.maxObj 0x4020 4 0 (d.pwr.tick - w.start) 32).freeBelow 5).1) 0 r }

theorem exec_walkTimeout_of_first {s : State} {k : Nat} {w : Walk} {r : Requester} (hs : s.dev.serving = true)
    (hw : KMap.find s.dev.stu.walks k = some w) (ha : w.active = true) (hr : w.restarted = false)
    (hd : w.deadline < s.dev.pwr.tick - w.start) (hreqs : w.reqs.head? = some r) :
    exec (.walkTimeout k) s = .next { s with dev := (s.dev.walkAgain k w).report (s.dev.expiryRec k w r) } := by
  have hgo : ¬ (!w.active || Nat.ble (s.dev.since w.start) w.deadline) = true := by
    rw [ha, Bool.not_true, Bool.false_or, Nat.ble_eq]
    exact Nat.not_le.mpr hd
  refine exec_dev rfl ((if_pos hs).trans ?_)
  unfold Dev.walkTimeout
  rw [hw]
  dsimp only
  rw [if_neg hgo, if_neg (by rw [hr]; decide), hreqs]
  rfl

/-- Code 0x35 with no error ring: its counters alone move. -/
theorem Dev.report_of_no_rings {d : Dev} (h : d.err.rings = []) {r : Rec} (her : pathEr r.code = false)
    (h0 : pathEr0 r.code = true) : d.report r = (d.bump 0xA010 r.code 0 32).bump 0xA004 0 0 32 := by
  have hring : (d.bump 0xA010 r.code 0 32).errRing 0 = {} := by
    have : (d.bump 0xA010 r.code 0 32).err.rings = [] := h
    rw [Dev.errRing, this]
    rfl
  have hq : (d.bump 0xA010 r.code 0 32).errQueue 0 (d.recBits r) = (d.bump 0xA010 r.code 0 32).bump 0xA004 0 0 32 :=
    if_neg (by rw [hring]; decide)
  rw [Dev.report_eq, if_pos (by simp [her, h0]), if_neg (by simp [her]), Dev.post, hq]
  refine Dev.errWrite_of_empty ?_
  have hkeep : ((d.bump 0xA010 r.code 0 32).bump 0xA004 0 0 32).errRing 0 = {} := hring
  rw [hkeep]

/-- Settles O28: the walk's start, end and expiry through their equations; a tile's fault fills the empty queue. -/
theorem walksAndRecords : Obligations.WalksAndRecords := by
  refine ⟨fun s k w hs hw => ?starts, fun s k w r e pte l a d hs hw ha hdelay hdead hreqs hsrc h8a h84 h82 hwalk hu hc hroom =>
      ?leaf, fun s k j l w r d hs hw ha hdelay hdead hreqs hsrc hj hp ht hst hx hwalk htiles hf => ?fault,
    fun s k w hs hw ha hr hd hreqs herr => ?expires, fun s f r hs hwait hf hreqs hsrc => ?slot⟩
  case starts =>
    have hsome : ((s.dev.walkerFor w)).isSome = true :=
      List.find?_some (p := fun w : Nat × Walk => (s.dev.walkerFor w.2).isSome) hw
    refine ⟨_, exec_walkStart_of_ready hs hw, ⟨s.dev.startedWalk w, KMap.find_put_same _ _ _, rfl, rfl, rfl, rfl, ?_⟩,
      Dev.obj_bump_same _ _ _ _ _ _, fun j hj => KMap.find_put_other _ _ _ _ hj, rfl⟩
    obtain ⟨b, hb⟩ := Option.isSome_iff_exists.mp hsome
    change (s.dev.walkerFor w).getD false = true ↔ _
    rw [hb]
    simp
  case leaf =>
    obtain ⟨lst, hput⟩ := Dev.putIotlb_of_room e hroom
    have hd := Dev.walkComplete_leaf hw ha hdelay hdead hreqs hsrc h8a h84 h82 hwalk hu hc
    have hexec : exec (.walkComplete k) s = .next { s with
        dev := { d with stu := { d.stu with iotlb := lst ++ [e] } } } := exec_dev rfl (by exact (if_pos hs).trans (hd.trans hput))
    refine ⟨_, hexec, ?_, rfl, rfl, rfl, rfl⟩
    exact List.mem_append_right _ (List.mem_singleton_self e)
  case fault =>
    have hd := Dev.walkComplete_fault hw ha hdelay hdead hwalk
    obtain ⟨f, hfdef⟩ : ∃ f, f = d.stalledRec w r l := ⟨_, rfl⟩
    obtain ⟨r', hr'⟩ : ∃ r', r' = { r with since := d.pwr.tick, limit := d.obj 0x4002 0 0 } := ⟨_, rfl⟩
    have hfr : f.reqs = [r'] := by rw [hfdef, hr']; rfl
    obtain ⟨e, he⟩ : ∃ e, e = ({ d with
      stu := { d.stu with faults := [(d.freshFault, f)], nextFault := (d.freshFault + 1) % 65536 } } : Dev).bump 0x4020 7 0 64 :=
      ⟨_, rfl⟩
    have htile : e.tile r.source = s.dev.tile r.source := by
      rw [he]
      exact congrArg (fun m => KMap.get m r.source {}) htiles
    have hstall : e.tileFaults r' false = e.updTile r.source (fun x => { x with
        stalls := x.stalls.filter (fun n => n != r.tag) ++ [r.tag] }) := by
      rw [hr']
      exact Dev.tileFaults_of_stall (r := { r with since := d.pwr.tick, limit := d.obj 0x4002 0 0 }) hsrc hj hp
        (by exact (congrArg Tile.job htile).trans ht) (by rw [he]; exact hx) false
    have hend : s.dev.walkComplete k = e.updTile r.source (fun x => { x with
        stalls := x.stalls.filter (fun n => n != r.tag) ++ [r.tag] }) := by
      rw [hd, hreqs, List.foldl_cons, List.foldl_nil, Dev.walkFault_of_tile hsrc, ← hfdef, Dev.fileFault_of_none hf, ← he,
        hfr, List.foldl_cons, List.foldl_nil, hstall]
    refine ⟨_, exec_dev rfl (by exact (if_pos hs).trans hend), onlyDev_withDev _ _, ⟨d.freshFault, f, ?_, ?_⟩, ?_, ?_⟩
    · rw [he]
      rfl
    · rw [hfdef]
      exact ⟨rfl, rfl, rfl, rfl, rfl, rfl⟩
    · refine (congrArg Tile.stalls (Dev.tile_updTile_same _ _ _)).trans ?_
      rw [htile, hst]
      rfl
    · rw [he]
      rfl
  case expires =>
    obtain ⟨r, hhead⟩ : ∃ r, w.reqs.head? = some r := by
      cases h : w.reqs with
      | nil => exact absurd h hreqs
      | cons r rs => exact ⟨r, rfl⟩
    have hd := exec_walkTimeout_of_first hs hw ha hr hd hhead
    obtain ⟨f, hagain⟩ := s.dev.walkAgain_frame k w
    have hrings : (s.dev.walkAgain k w).err.rings = [] := by
      rw [hagain]
      exact herr
    have hrep : (s.dev.walkAgain k w).report (s.dev.expiryRec k w r) =
        ((s.dev.walkAgain k w).bump 0xA010 0x35 0 32).bump 0xA004 0 0 32 :=
      Dev.report_of_no_rings hrings (r := s.dev.expiryRec k w r) (show pathEr 0x35 = false by decide)
        (show pathEr0 0x35 = true by decide)
    rw [hrep, hagain] at hd
    obtain ⟨m, hm⟩ : ∃ m, m = s.dev.maxObj 0x4020 4 0 (s.dev.pwr.tick - w.start) 32 := ⟨_, rfl⟩
    have hobj : m.obj 0xA010 0x35 0 = s.dev.obj 0xA010 0x35 0 := by
      rw [hm]
      exact Dev.obj_setObj_other _ (by decide)
    have htiles : m.tiles = s.dev.tiles := by rw [hm]; rfl
    have hjobs : m.jobs = s.dev.jobs := by rw [hm]; rfl
    have hmem : m.mem = s.dev.mem := by rw [hm]; rfl
    rw [← hm] at hd
    refine ⟨_, hd, onlyDev_withDev _ _, ?_, KMap.find_put_same _ _ _, fun j hj => KMap.find_put_other _ _ _ _ hj, ?_, ?_, ?_, ?_⟩
    · rfl
    · refine (Dev.obj_bump_other _ (by decide)).trans ((Dev.obj_bump_same _ _ _ _ _ _).trans ?_)
      rw [Dev.obj_bump_other _ (by decide)]
      exact congrArg (fun n => Nat.min (n + 1) (2 ^ 32 - 1)) hobj
    · exact htiles
    · exact hjobs
    · exact hmem
  case slot =>
    obtain ⟨d, hd⟩ : ∃ d, d = ({ s.dev with stu := { s.dev.stu with faultWait := [] } } : Dev) := ⟨_, rfl⟩
    have hnone : d.stu.faults = [] := by rw [hd]; exact hf
    have hfile := Dev.fileFault_of_none (f := f) hnone true
    rw [hreqs, List.foldl_cons, List.foldl_nil, Dev.tileFaults_of_hub hsrc] at hfile
    have hexec : exec .faultQueueSlotFree s = .next { s with dev := d.fileFault f true } := by
      refine exec_dev rfl ?_
      dsimp only
      rw [hwait]
      dsimp only
      rw [if_pos (by rw [hs, hf]; decide), ← hd]
    rw [hfile] at hexec
    refine ⟨_, hexec, ?_, ⟨d.freshFault, f, rfl, rfl, rfl, rfl, rfl⟩, ?_⟩
    · rw [hd]
      rfl
    · rw [hd]
      rfl

end Sys2Proof.Machine

/-! ## Answers of the fault handler (R174 to R178, R180) -/

namespace Sys2Proof.Machine

open Sys2Proof.Stm

/-! ### What looking up, checking and reporting leaves of the STU -/

/-- Only walks, chiplet TLBs and cached ownership entries of the STU may differ. -/
def Dev.StuKept (d e : Dev) : Prop := e.stu = { d.stu with
  walks := e.stu.walks, nextWalk := e.stu.nextWalk, chipTlb := e.stu.chipTlb, rotCache := e.stu.rotCache }

theorem Dev.StuKept.of_stu {d e : Dev} (h : e.stu = d.stu) : d.StuKept e := by rw [Dev.StuKept, h]

theorem Dev.StuKept.refl (d : Dev) : d.StuKept d := .of_stu rfl

theorem Dev.StuKept.trans {a b c : Dev} (h : a.StuKept b) (h' : b.StuKept c) : a.StuKept c := by
  rw [Dev.StuKept] at *
  rw [h', h]

theorem Dev.StuKept.faults {d e : Dev} (h : d.StuKept e) : e.stu.faults = d.stu.faults := by rw [h]

theorem Dev.bump_stuKept (d : Dev) (i u n w b : Nat) : d.StuKept (d.bump i u n w b) := .of_stu rfl

theorem Dev.requestWalk_stuKept (d : Dev) (tenant pasid va : Nat) (r : Requester) :
    d.StuKept (d.requestWalk tenant pasid va r) := by
  unfold Dev.requestWalk
  dsimp only
  split <;> exact rfl

theorem Dev.tlbPut_stu (d : Dev) (l : List TlbEntry) (cap : Nat) (e : TlbEntry) : (tlbPut d l cap e).2.stu = d.stu := by
  rw [tlbPut_snd]

theorem Dev.putMicroTlb_stuKept (d : Dev) (t : Nat) (e : TlbEntry) : d.StuKept (d.putMicroTlb t e) :=
  .of_stu (Dev.tlbPut_stu d (d.tile t).uTlb 64 e)

theorem Dev.putChipTlb_stuKept (d : Dev) (c : Nat) (e : TlbEntry) : d.StuKept (d.putChipTlb c e) := by
  have hstu : (d.putChipTlb c e).stu = { (tlbPut d (d.stu.chipTlb.get c []) 4096 e).2.stu with
    chipTlb := (d.putChipTlb c e).stu.chipTlb } := rfl
  rw [Dev.tlbPut_stu] at hstu
  rw [Dev.StuKept, hstu]

theorem Dev.putNear_stuKept (d : Dev) (src : Nat) (e : TlbEntry) : d.StuKept (d.putNear src e) := by
  unfold Dev.putNear
  split
  · exact (d.putChipTlb_stuKept _ e).trans (Dev.putMicroTlb_stuKept _ _ e)
  · exact .refl d

theorem Dev.translate_stuKept (d : Dev) (tenant pasid va access : Nat) (req : Requester) :
    d.StuKept (d.translate tenant pasid va access req).2 := by
  have hwalk : ∀ (e : Dev) (r : Requester), e.StuKept (e.missWalk tenant pasid va r) := fun e r =>
    (e.bump_stuKept _ _ _ _ _).trans (Dev.requestWalk_stuKept _ _ _ _ _)
  unfold Dev.translate
  dsimp only
  split
  · exact .refl d
  · split
    · split
      · exact .refl d
      · split
        · exact d.putMicroTlb_stuKept _ _
        · split
          · exact ((d.bump_stuKept _ _ _ _ _).trans (Dev.bump_stuKept _ _ _ _ _ _)).trans (Dev.putNear_stuKept _ _ _)
          · exact (d.bump_stuKept _ _ _ _ _).trans (hwalk _ _)
    · split
      · exact d.bump_stuKept _ _ _ _ _
      · exact hwalk _ _

theorem Dev.translateSpan_stuKept (d : Dev) (tenant pasid va len access : Nat) (req : Requester) :
    d.StuKept (d.translateSpan tenant pasid va len access req).2 := by
  unfold Dev.translateSpan
  refine foldl_keeps (fun (acc : Option (List (Nat × Nat × Nat)) × Dev) => d.StuKept acc.2) _ (fun acc p ha => ?_) _ _ (.refl d)
  obtain ⟨o, e⟩ := acc
  cases o with
  | none => exact ha
  | some l =>
    have hstep := Dev.translate_stuKept e tenant pasid ((va + p.1) % 2 ^ 64) access req
    dsimp only
    split <;> rename_i heq <;> rw [heq] at hstep <;> exact ha.trans hstep

theorem Dev.ownOkAll_stuKept (d : Dev) (tenant : Nat) (ps : List (Nat × Nat × Nat)) (write : Bool) :
    d.StuKept (d.ownOkAll tenant ps write).2 := by
  have hrot : ∀ (e : Dev) (region : Nat), e.StuKept (e.rotEntry region).2 := fun e region => by
    rw [e.rotEntry_frame region]
    rfl
  unfold Dev.ownOkAll
  refine foldl_keeps (fun (acc : Bool × Dev) => d.StuKept acc.2) _ (fun acc p ha => ha.trans ?_) _ _ (.refl d)
  dsimp only [Dev.ownOk]
  split
  · exact hrot _ _
  · exact .refl _

theorem Dev.snoop_stuKept (d : Dev) (pa len : Nat) : d.StuKept (d.snoop pa len) :=
  .of_stu (by rw [Dev.snoop_eq])

theorem Dev.emit_stuKept (d : Dev) (e : Emit) : d.StuKept (d.emit e) := .of_stu rfl

theorem Dev.onBus_stuKept (d : Dev) (tenant pasid : Nat) (write : Bool) (ps : List (Nat × Nat × Nat)) :
    d.StuKept (d.onBus tenant pasid write ps) :=
  foldl_keeps (fun e => d.StuKept e) _ (fun e _ he => he.trans (e.snoop_stuKept _ _)) _ _
    (foldl_keeps (fun e => d.StuKept e) _ (fun e _ he => he.trans (e.emit_stuKept _)) _ _ (.refl d))

theorem Dev.msix_stuKept (d : Dev) (n v : Nat) : d.StuKept (d.msix n v) := .of_stu (by rw [Dev.msix_frame])

theorem Dev.errQueue_stuKept (d : Dev) (n e : Nat) : d.StuKept (d.errQueue n e) := by
  unfold Dev.errQueue
  dsimp only
  split <;> exact .of_stu rfl

theorem Dev.errFlush_stuKept (n : Nat) (l : List Nat) : ∀ d : Dev, d.StuKept (d.errFlush n l).1 := by
  induction l with
  | nil => exact fun d => .refl d
  | cons e l ih =>
    intro d
    have h1 := Dev.translateSpan_stuKept d n (d.errRing n).pasid
      (((d.errRing n).base + 64 * (nextSeq (d.errRing n).seq % 2 ^ (d.errRing n).size)) % 2 ^ 64) 64 1 (errReq n)
    rw [Dev.errFlush]
    dsimp only
    split
    · rename_i heq; rw [heq] at h1; exact h1
    · rename_i ps d1 heq
      rw [heq] at h1
      have h2 := Dev.ownOkAll_stuKept d1 n ps true
      split
      · rename_i heq'; rw [heq'] at h2; exact h1.trans h2
      · rename_i d2 heq'
        rw [heq'] at h2
        have h3 : d2.StuKept ((d2.onBus n (d.errRing n).pasid true ps).writePieces ps
            (leBytes (e + nextSeq (d.errRing n).seq * 2 ^ 416) 64)).1 :=
          (Dev.onBus_stuKept d2 n (d.errRing n).pasid true ps).trans (.of_stu (by rw [(Dev.writePieces_frame _ _ _).1]))
        refine ((h1.trans h2).trans h3).trans (Dev.StuKept.trans ?_ (ih _))
        split
        · exact Dev.StuKept.trans (.of_stu rfl) (Dev.msix_stuKept _ _ _)
        · exact .of_stu rfl

theorem Dev.errOwn_stuKept (d : Dev) (n : Nat) : d.StuKept (d.errOwn n) :=
  ((d.bump_stuKept _ _ _ _ _).trans (Dev.bump_stuKept _ _ _ _ _ _)).trans (Dev.errQueue_stuKept _ _ _)

theorem Dev.errWrite_stuKept (d : Dev) (n : Nat) : d.StuKept (d.errWrite n) := by
  have hfail : ∀ (e : Dev) (m : Nat), e.StuKept (((e.errRingFail m).errOwn m).bump 0xA010 0x26 0 32) := fun e m => by
    have h : e.StuKept (e.errRingFail m) := .of_stu rfl
    exact h.trans ((Dev.errOwn_stuKept _ m).trans (Dev.bump_stuKept _ _ _ _ _ _))
  have h1 := Dev.errFlush_stuKept n (d.errRing n).waiting d
  unfold Dev.errWrite
  split
  · rename_i heq; rw [heq] at h1; exact h1
  · rename_i d1 heq
    rw [heq] at h1
    have h2 := h1.trans (hfail d1 n)
    dsimp only
    split
    · exact h2.trans (Dev.errQueue_stuKept _ _ _)
    · generalize hq : Dev.errQueue _ 0 _ = dq
      have h3 : d.StuKept dq := hq ▸ h2.trans (Dev.errQueue_stuKept _ _ _)
      have h4 := Dev.errFlush_stuKept 0 (dq.errRing 0).waiting dq
      split
      · rename_i heq'; rw [heq'] at h4; exact h3.trans h4
      · rename_i d3 heq'
        rw [heq'] at h4
        exact ((h3.trans h4).trans (hfail d3 0)).trans (Dev.errQueue_stuKept _ _ _)

theorem Dev.post_stuKept (d : Dev) (code n e : Nat) : d.StuKept (d.post code n e) :=
  ((d.bump_stuKept _ _ _ _ _).trans (Dev.errQueue_stuKept _ _ _)).trans (Dev.errWrite_stuKept _ _)

/-- A record leaves the fault queue as it is. -/
theorem Dev.report_stuKept (d : Dev) (r : Rec) : d.StuKept (d.report r) := by
  have h1 : d.StuKept (if pathEr r.code = true then d.post r.code r.tenant (d.recBits r) else d) := by
    split
    · exact Dev.post_stuKept _ _ _ _
    · exact .refl d
  rw [Dev.report_eq]
  split
  · exact h1.trans (Dev.post_stuKept _ _ _ _)
  · exact h1

/-! ### RETRY -/

/-- Stores of a host core to clean memory, with the snoops of the lines that the host caches. -/
theorem Dev.coreStores_of_clean {d : Dev} (h : Clean d.mem) (l : List ByteStore) :
    ∃ m' e', d.stores 0x89 l = { d with mem := m', emits := e' } ∧ Clean m' ∧ StoredBytes l d.mem m' := by
  suffices hs : ∀ (rs : List (Nat × List Byte)) (d : Dev), Clean d.mem → ∃ m' e', rs.foldl (fun (d : Dev) r =>
      (d.snoop r.1 r.2.length).markWrite 0 0x89 none [(r.1, 0, r.2.length)] r.2) d = { d with mem := m', emits := e' } ∧
      Clean m' ∧ m'.byte = runBytes d.mem.byte rs by
    obtain ⟨m', e', he, hc, hb⟩ := hs (runsOf l) d h
    refine ⟨m', e', he, hc, fun a ha => ?_, fun w hw => ?_⟩
    · rw [hb, runBytes_other ha]
    · rw [hb, runBytes_last hw]
  intro rs
  induction rs with
  | nil => exact fun d hd => ⟨d.mem, d.emits, rfl, hd, rfl⟩
  | cons r rs ih =>
    intro d hd
    have hclean := Dev.snoop_clean hd r.1 r.2.length
    obtain ⟨m1, he, hw⟩ := Dev.markWrite_of_clean hclean 0 0x89 none r.1 r.2
    obtain ⟨m2, e2, he2, hc2, hb2⟩ := ih { d.snoop r.1 r.2.length with mem := m1 } (hw.clean hclean)
    refine ⟨m2, e2, ?_, hc2, ?_⟩
    · rw [List.foldl_cons, he, he2, Dev.snoop_eq]
    · rw [hb2]
      refine congrArg (fun g => runBytes g rs) (funext fun x => (hw.2 x).trans ?_)
      rw [Dev.snoop_byte]

theorem Dev.not_moving_of_none {d : Dev} (h : d.stu.moves = []) (tenant pasid va : Nat) :
    d.moving tenant pasid va = false := by
  rw [Dev.moving, h]
  rfl

theorem exec_faultRetry_of_hub {s : State} {id : BitVec 16} {f : FaultRec} {r : Requester} {l : List ByteStore}
    (hs : s.dev.serving = true) (hf : KMap.find s.dev.stu.faults id.toNat = some f)
    (hm : s.dev.moving f.tenant f.pasid f.va = false) (hr : f.reqs = [r]) (hsrc : 128 ≤ r.source) :
    exec (.faultRetry id l) s = .next { s with
      dev := ((s.dev.stores 0x89 l).dropFault id.toNat).requestWalk f.tenant f.pasid r.va r } := by
  refine exec_dev rfl ?_
  dsimp only
  rw [hf]
  dsimp only
  rw [if_neg (by rw [hs, hm]; decide), hr, List.foldl_cons, List.foldl_nil]
  exact if_neg (by omega)

theorem Dev.requestWalk_of_none {d : Dev} (h : d.stu.walks = []) (tenant pasid va : Nat) (r : Requester) :
    d.requestWalk tenant pasid va r = { d with
      stu := { d.stu with
        walks := [(d.stu.nextWalk, { tenant := tenant, pasid := pasid, va := va, reqs := [r] })]
        nextWalk := d.stu.nextWalk + 1 } } := by
  unfold Dev.requestWalk
  dsimp only
  rw [h]
  rfl

/-! ### FAIL and the stall limit -/

/-- A tile's request ends its running job with TRANSLATION. -/
theorem Dev.requestEnd_of_tile {d : Dev} {tenant bits j : Nat} {r : Requester} {x : Job} (hsrc : r.source < 128)
    (hj : r.job = some j) (hx : KMap.find d.jobs j = some x) (hst : x.st = .running) :
    d.requestEnd tenant bits r false =
      (d.report { code := 0x01, tenant := tenant, source := r.source, detail := bits, job := some j }).endJob j 2
        (faultKey none 0x01) := by
  unfold Dev.requestEnd
  dsimp only
  rw [if_neg (by omega), if_neg (by omega), if_neg (by omega), if_neg (by omega), hj]
  dsimp only
  rw [hx, if_pos (by rw [Option.any_some, hst]), if_neg Bool.false_ne_true]
  rfl

/-- Withdrawing requests brings no record back. -/
theorem Dev.withdraw_faults_none {d : Dev} {k : Nat} (h : KMap.find d.stu.faults k = none) (p : Requester → Bool) :
    KMap.find (d.withdraw p).stu.faults k = none := by
  suffices hs : ∀ m : KMap FaultRec, KMap.find m k = none → KMap.find ((m.map (fun f => (f.1, { f.2 with
      reqs := f.2.reqs.filter (fun r => !p r) }))).filter (fun f => !f.2.reqs.isEmpty) : KMap FaultRec) k = none from hs _ h
  intro m
  induction m with
  | nil => exact fun _ => rfl
  | cons c m ih =>
    obtain ⟨a, f⟩ := c
    intro hm
    rw [KMap.find_cons] at hm
    split at hm
    · cases hm
    case isFalse hne =>
      rw [List.map_cons, List.filter_cons]
      split
      · rw [KMap.find_cons, if_neg hne]
        exact ih hm
      · exact ih hm

theorem exec_faultFail_of_tile {s : State} {id : BitVec 16} {f : FaultRec} {r : Requester} {j : Nat} {x : Job}
    (hs : s.dev.serving = true) (hm : s.dev.moving f.tenant f.pasid f.va = false)
    (hf : KMap.find s.dev.stu.faults id.toNat = some f) (hr : f.reqs = [r]) (hsrc : r.source < 128) (hj : r.job = some j)
    (hx : KMap.find s.dev.jobs j = some x) (hst : x.st = .running) :
    exec (.faultFail id) s = .next { s with
      dev := ((s.dev.dropFault id.toNat).report { code := 0x01, tenant := f.tenant, source := r.source, detail := faultBits f id.toNat r
                                                  job := some j }).endJob j 2 (faultKey none 0x01) } := by
  refine exec_dev rfl ?_
  dsimp only
  rw [hf]
  dsimp only
  rw [if_pos (by rw [hs, hm]; decide), Dev.endAll, hr, List.foldl_cons, List.foldl_nil]
  exact Dev.requestEnd_of_tile hsrc hj hx hst

/-- A tile's request that has stalled for its limit: its record stays, its job leaves its tiles. -/
theorem exec_stallLimitExpiry_of_tile {s : State} {id : BitVec 16} {f : FaultRec} {r : Requester} {j : Nat}
    (hs : s.dev.serving = true) (hf : KMap.find s.dev.stu.faults id.toNat = some f) (hr : f.reqs = [r]) (hsrc : r.source < 128)
    (hj : r.job = some j) (hlim : r.limit + r.since ≤ s.dev.pwr.tick) (hwait : s.dev.stu.faultWait = []) :
    exec (.stallLimitExpiry id) s = .next { s with
      dev := (({ s.dev with stu := { s.dev.stu with faults := s.dev.stu.faults.put id.toNat f } } : Dev).switchOutJob j
        true).requeueCheck j } := by
  have hwaitEnd : s.dev.waitEnd = s.dev := by
    have hw : ({ s.dev with stu := { s.dev.stu with faultWait := [] } } : Dev) = s.dev := by rw [← hwait]
    unfold Dev.waitEnd
    rw [hwait]
    exact hw
  have hlate : s.dev.stalledOut r = true := Nat.ble_eq.mpr (by unfold Dev.since; omega)
  have hrest : s.dev.stallRest f = f := by
    have hfil : f.reqs.filter (fun r => !(s.dev.stalledOut r && !decide (r.source < 128))) = f.reqs := by
      rw [hr]
      simp [hsrc]
    rw [Dev.stallRest, hfil]
  obtain ⟨e, he⟩ : ∃ e, e = ({ s.dev with stu := { s.dev.stu with faults := s.dev.stu.faults.put id.toNat f } } : Dev) :=
    ⟨_, rfl⟩
  have hlate' : e.stalledOut r = true := by rw [he]; exact hlate
  have hend : e.stallEnd f id.toNat = (e.switchOutJob j true).requeueCheck j := by
    unfold Dev.stallEnd
    rw [hr]
    simp [hlate', hsrc, hj, Dev.endAll, List.eraseDups_cons]
  refine exec_dev rfl ?_
  dsimp only
  rw [if_neg (by rw [hs]; decide), hwaitEnd, hf]
  dsimp only
  rw [hrest, if_neg (by rw [hr]; exact Bool.false_ne_true), ← he, hend]

/-- The job of a switch-out that waits for RETRY. -/
def Job.heldOff (x : Job) : Job := { x with st := .offTile true, tiles := [], front := true, stopAtBoundary := false }

/-- A running job whose open record names it is held off its tiles; the record stays. -/
theorem Dev.switchOutJob_held {d : Dev} {j : Nat} {x : Job} (hx : KMap.find d.jobs j = some x) (hst : x.st = .running)
    (hc : x.cancel = false) (hf : d.stu.faults.any (fun f => f.2.reqs.any (fun r => r.job == some j)) = true) :
    (d.switchOutJob j true).jobs = d.jobs.put j x.heldOff ∧ (d.switchOutJob j true).stu.faults = d.stu.faults ∧
      (d.switchOutJob j true).mem = d.mem := by
  obtain ⟨e, he⟩ : ∃ e, e = ({ d.withdraw (fun r => r.job == some j) with
    stu := { (d.withdraw (fun r => r.job == some j)).stu with faults := d.stu.faults } } : Dev) := ⟨_, rfl⟩
  obtain ⟨g, hg⟩ : ∃ g, g = x.tiles.foldl (fun (d : Dev) t =>
      (d.updTile t (fun y => if y.active then { y with draining := some (j, (d.tile t).rank) } else y)).releaseTile t) e := ⟨_, rfl⟩
  have hfreed : e.Freed g := by
    rw [hg]
    refine foldl_keeps (fun a => e.Freed a) _ (fun a t ha => ?_) _ _ (Dev.Freed.refl e)
    have hdrain : a.Freed (a.updTile t (fun y => if y.active then { y with draining := some (j, (a.tile t).rank) } else y)) :=
      rfl
    exact (ha.trans hdrain).trans (Dev.releaseTile_freed _ t)
  have hout : d.switchOutJob j true = g.setJob j x.heldOff := by
    unfold Dev.switchOutJob
    rw [hx]
    dsimp only
    rw [hst, if_pos (by decide), hf, if_neg (by rw [hc]; decide)]
    rw [hg, he]
    rfl
  have hjobs : g.jobs = d.jobs := by rw [hfreed, he]; rfl
  have hfaults : g.stu.faults = d.stu.faults := by rw [hfreed, he]
  have hmem : g.mem = d.mem := by rw [hfreed, he]; rfl
  rw [hout]
  exact ⟨by rw [Dev.setJob, hjobs], hfaults, hmem⟩

theorem Dev.requeueCheck_of_held {d : Dev} {j : Nat} {x : Job} (hx : KMap.find d.jobs j = some x)
    (hst : x.st = .offTile true) : d.requeueCheck j = d := by
  unfold Dev.requeueCheck
  rw [hx]
  dsimp only
  rw [hst]

/-- Settles O29: RETRY by the stores and the fresh walk, FAIL by the job's end, the limit by the switch-out. -/
theorem faultAnswers : Obligations.FaultAnswers := by
  refine ⟨fun s id f r l hs hf hmv hr hsrc hw hc => ?retries, fun s id f hf hm => ?held,
    fun s id f r j x hs hm hf hr hsrc hj hx hst ht => ?fails, fun s id f r j x hs hf hr hsrc hj hlim hx hst hc hwait => ?limit⟩
  case retries =>
    obtain ⟨m', e', he, -, hbytes⟩ := Dev.coreStores_of_clean hc l
    obtain ⟨d, hd⟩ : ∃ d, d = ({ s.dev with mem := m', emits := e' } : Dev).dropFault id.toNat := ⟨_, rfl⟩
    have hexec := exec_faultRetry_of_hub (l := l) hs hf (Dev.not_moving_of_none hmv _ _ _) hr hsrc
    rw [he, ← hd, Dev.requestWalk_of_none (by rw [hd]; exact hw)] at hexec
    refine ⟨_, hexec, ?_, ⟨{ tenant := f.tenant, pasid := f.pasid, va := r.va, reqs := [r] }, ?_, rfl, rfl, rfl, rfl, rfl⟩, ?_, ?_⟩
    · rw [hd]
      exact KMap.find_drop_same _ _
    · rw [hd]
      rfl
    · rw [hd]
      exact hbytes
    · rw [hd]
      rfl
  case held =>
    refine ⟨exec_dev rfl ?_, fun l => exec_dev rfl ?_⟩ <;> dsimp only <;> rw [hf] <;> dsimp only <;> rw [hm]
    · exact if_neg (by simp)
    · exact if_pos (by simp)
  case fails =>
    obtain ⟨d, hd⟩ : ∃ d, d = s.dev.dropFault id.toNat := ⟨_, rfl⟩
    obtain ⟨rc, hrc⟩ : ∃ rc : Rec, rc = { code := 0x01, tenant := f.tenant, source := r.source
                                          detail := faultBits f id.toNat r, job := some j } := ⟨_, rfl⟩
    have hexec := exec_faultFail_of_tile hs hm hf hr hsrc hj hx hst
    rw [← hd, ← hrc] at hexec
    have hrep := d.report_rep rc
    have hfind : KMap.find (d.report rc).jobs j = some x := by
      rw [hrep.jobs, hd]
      exact hx
    have hlive : ∀ n, x.st ≠ .ended n := fun n => by rw [hst]; exact JobState.noConfusion
    have hjobs := Dev.endJob_jobs hfind hlive 2 (faultKey none 0x01)
    have hframe := Dev.endJob_frame hfind hlive 2 (faultKey none 0x01)
    refine ⟨_, hexec, onlyDev_withDev _ _, ?_, ⟨x.endedAs 2 (d.report rc).pwr.tick (faultKey none 0x01), ?_, rfl, rfl⟩, ?_⟩
    · dsimp only
      rw [hframe]
      refine Dev.withdraw_faults_none ?_ _
      rw [(d.report_stuKept rc).faults, hd]
      exact KMap.find_drop_same _ _
    · dsimp only
      rw [hjobs]
      exact KMap.find_put_same _ _ _
    · have hobj : ((d.report rc).endJob j 2 (faultKey none 0x01)).obj 0xA010 0x01 f.tenant =
          (d.report rc).obj 0xA010 0x01 f.tenant := by
        rw [hframe]
        rfl
      have hkey : okey 0xA010 0x01 f.tenant ∉ errKeys f.tenant := by
        simp only [errKeys, lookupKeys, ownKeys, List.mem_append, List.mem_cons, List.not_mem_nil, or_false, okey]
        omega
      have hcount : (d.report rc).obj 0xA010 0x01 f.tenant = Nat.min (d.obj 0xA010 0x01 f.tenant + 1) (2 ^ 32 - 1) := by
        have h := Dev.report_counts_er (d := d) (r := rc) (by rw [hrc]; exact (by decide : pathEr 0x01 = true))
          (.inl (by rw [hrc]; exact (by decide : pathEr0 0x01 = false)))
          (by rw [hrc]; exact hkey)
        rw [hrc] at h ⊢
        exact h
      refine hobj.trans (hcount.trans ?_)
      rw [hd]
      rfl
  case limit =>
    obtain ⟨e, he⟩ : ∃ e, e = ({ s.dev with stu := { s.dev.stu with faults := s.dev.stu.faults.put id.toNat f } } : Dev) :=
      ⟨_, rfl⟩
    have hnamed : e.stu.faults.any (fun f => f.2.reqs.any (fun r => r.job == some j)) = true := by
      have hmem := KMap.find_mem (KMap.find_put_same s.dev.stu.faults id.toNat f)
      rw [he]
      exact List.any_eq_true.mpr ⟨_, hmem, by rw [hr]; simp [hj]⟩
    obtain ⟨hjobs, hfaults, hmem⟩ := Dev.switchOutJob_held (d := e) (by rw [he]; exact hx) hst hc hnamed
    have hfind : KMap.find (e.switchOutJob j true).jobs j = some x.heldOff := by
      rw [hjobs]
      exact KMap.find_put_same _ _ _
    have hexec := exec_stallLimitExpiry_of_tile hs hf hr hsrc hj hlim hwait
    rw [← he, Dev.requeueCheck_of_held hfind rfl] at hexec
    refine ⟨_, hexec, onlyDev_withDev _ _, ⟨f, ?_, hr⟩, ⟨x.heldOff, hfind, rfl, rfl, rfl⟩, ?_⟩
    · dsimp only
      rw [hfaults, he]
      exact KMap.find_put_same _ _ _
    · exact hmem.trans (by rw [he])

end Sys2Proof.Machine

/-! ## Tenant clears, unit failures, policy modules (R189 to R193, R213, R391) -/

namespace Sys2Proof.Machine

open Sys2Proof.Stm

/-! ### Units that a record names, and ALERT_N -/

theorem foldl_or_ne_zero {f : Nat → Nat} (hf : ∀ c, f c ≠ 0) (l : List Nat) (n c : Nat) (h : n ≠ 0 ∨ c ∈ l) :
    l.foldl (fun n c => n ||| f c) n ≠ 0 := by
  induction l generalizing n with
  | nil => exact h.resolve_right List.not_mem_nil
  | cons a l ih =>
    refine ih _ ?_
    rcases h with h | h
    · exact .inl (fun h0 => h (Nat.or_eq_zero_iff.mp h0).1)
    · rcases List.mem_cons.mp h with rfl | h
      · exact .inl (fun h0 => hf _ (Nat.or_eq_zero_iff.mp h0).2)
      · exact .inr h

theorem Dev.alertAsserted_of_unit {d : Dev} {c : Nat} (h : c ∈ d.err.unit) : d.alertAsserted = true := by
  have hfold := foldl_or_ne_zero (f := fun c => 2 ^ (c - 0x30)) (fun c => (Nat.two_pow_pos _).ne') (d.err.board ++ d.err.unit) 0 c
    (.inr (List.mem_append_right _ h))
  have hpend : d.alertPending ≠ 0 := fun h0 => hfold (Nat.or_eq_zero_iff.mp h0).1
  rw [Dev.alertAsserted, bne_iff_ne.mpr hpend, Bool.true_or]

/-- A record of a unit, up to what posting touches. -/
theorem Dev.reportUnit_frame (d : Dev) (r : Rec) :
    d.reportUnit r = { d with
      dict := (d.reportUnit r).dict, err := (d.reportUnit r).err, stu := (d.reportUnit r).stu, mem := (d.reportUnit r).mem
      fns := (d.reportUnit r).fns, emits := (d.reportUnit r).emits } := by
  have h := (Dev.report_rep { d with
    err := { d.err with unit := if d.err.unit.contains r.code then d.err.unit else d.err.unit ++ [r.code] } } r).1
  rw [Dev.reportUnit]
  generalize Dev.report _ r = e at h
  rw [h]

theorem Dev.reportUnit_unit (d : Dev) (r : Rec) : r.code ∈ (d.reportUnit r).err.unit := by
  have h := (Dev.report_rep { d with
    err := { d.err with unit := if d.err.unit.contains r.code then d.err.unit else d.err.unit ++ [r.code] } } r).1
  rw [Dev.reportUnit]
  generalize Dev.report _ r = e at h
  rw [h]
  dsimp only
  split
  case isTrue hc => exact List.contains_iff_mem.mp hc
  case isFalse => exact List.mem_append_right _ (List.mem_singleton.mpr rfl)

theorem Dev.reportUnit_alert (d : Dev) (r : Rec) : (d.reportUnit r).alertAsserted = true :=
  Dev.alertAsserted_of_unit (d.reportUnit_unit r)

theorem Dev.reportUnit_obj (d : Dev) (r : Rec) {i u n : Nat} (h : okey i u n ∉ reportKeys r.code r.tenant) :
    (d.reportUnit r).obj i u n = d.obj i u n :=
  (Dev.report_rep _ r).obj (Dev.report_keeps _ r) h

/-- A counter below the walk counters is no counter of a record. -/
theorem okey_not_mem_reportKeys {i u n code m : Nat} (h : okey i u n < okey 0x4020 0 0) : okey i u n ∉ reportKeys code m := by
  simp only [reportKeys, errKeys, lookupKeys, ownKeys, List.mem_append, List.mem_cons, List.not_mem_nil, or_false]
  simp only [okey] at h ⊢
  omega

/-! ### Waking, with all of a tile -/

theorem woken_refl (x : Tile) : Woken x x := ⟨rfl, .inl rfl⟩

theorem woken_trans {x y z : Tile} (h : Woken x y) (h' : Woken y z) : Woken x z := by
  refine ⟨by rw [h'.1, h.1], h'.2.elim (fun he => he ▸ h.2) .inr⟩

theorem Tile.woken_woken (x : Tile) (tick : Nat) : Stm.Woken x (x.woken tick) := by
  unfold Tile.woken
  split
  · exact ⟨rfl, .inr ⟨rfl, rfl⟩⟩
  · exact ⟨rfl, .inl rfl⟩

theorem Dev.wakeTile_woken (d : Dev) (t k : Nat) : Stm.Woken (d.tile k) ((d.wakeTile t).tile k) := by
  rw [Dev.wakeTile_tile]
  split
  case isTrue h => rw [h]; exact Tile.woken_woken _ _
  case isFalse => exact woken_refl _

/-- What every waking of a tile that may be woken keeps, R53's keeping-awake keeps. -/
theorem Dev.keepAwake_keeps {P : Dev → Prop} {Q : Nat → Prop} (hcan : ∀ d t, P d → d.canWake t = true → Q t)
    (hwake : ∀ d t, P d → Q t → P (d.wakeTile t)) {d : Dev} (h : P d) : P d.keepAwake := by
  have hall : ∀ (l : List Nat) (d : Dev), (∀ t ∈ l, Q t) → P d → P (l.foldl Dev.wakeTile d) := by
    intro l
    induction l with
    | nil => exact fun _ _ h => h
    | cons t l ih =>
      exact fun d hq h => ih _ (fun u hu => hq u (List.mem_cons_of_mem _ hu)) (hwake d t h (hq t List.mem_cons_self))
  have hawake : P d.wakeAwake := foldl_keeps P _ (fun d c hd =>
    hall _ d (fun t ht => hcan d t hd (List.mem_filter.mp (List.mem_of_mem_take ht)).2) hd) _ d h
  refine hall _ _ (fun t ht => ?_) hawake
  have hmem := (List.mem_filter.mp (List.mem_of_mem_take ht)).2
  exact hcan _ t hawake (Bool.and_eq_true_iff.mp hmem).1

/-- Tiles are woken, a chiplet that is out of C-LOW stays out, and nothing else changes. -/
structure Dev.Awoken (d e : Dev) : Prop where
  frame : e = { d with clk := e.clk, tiles := e.tiles }
  tiles : ∀ k, Stm.Woken (d.tile k) (e.tile k)
  chips : ∀ c, KMap.find d.clk.chipLow c = none → KMap.find e.clk.chipLow c = none

theorem Dev.Awoken.refl (d : Dev) : d.Awoken d := ⟨rfl, fun _ => woken_refl _, fun _ h => h⟩

theorem KMap.find_drop_none {α : Type} {m : KMap α} {k : Nat} (h : KMap.find m k = none) (j : Nat) :
    KMap.find (KMap.drop m j) k = none := by
  by_cases hk : k = j
  · rw [hk]
    exact KMap.find_drop_same m j
  · rw [KMap.find_drop_other m j k hk, h]

theorem Dev.Awoken.wakeTile {d e : Dev} (h : d.Awoken e) (t : Nat) : d.Awoken (e.wakeTile t) :=
  ⟨by rw [e.wakeTile_frame t, h.frame], fun k => woken_trans (h.tiles k) (e.wakeTile_woken t k),
    fun c hc => KMap.find_drop_none (h.chips c hc) _⟩

theorem Dev.keepAwake_awoken (d : Dev) : d.Awoken d.keepAwake :=
  Dev.keepAwake_keeps (Q := fun _ => True) (fun _ _ _ _ => trivial) (fun _ t h _ => h.wakeTile t) (Dev.Awoken.refl d)

theorem Dev.tileOk_congr {d e : Dev} (h : e = { d with clk := e.clk, tiles := e.tiles }) {k : Nat} (ht : e.tile k = d.tile k) :
    e.tileOk k = d.tileOk k := by
  have hobj : e.obj 0x5001 (k + 1) 0 = d.obj 0x5001 (k + 1) 0 := by rw [h]; rfl
  have hhas : e.has k = d.has k := by rw [h]; rfl
  rw [Dev.tileOk, Dev.tileOk, Dev.tileOn, Dev.tileOn, hobj, hhas, ht]

/-- A tile that cannot be used is not woken. -/
theorem Dev.keepAwake_tile_of_not_ok {d : Dev} {k : Nat} (h : d.tileOk k = false) : d.keepAwake.tile k = d.tile k := by
  have hkept := Dev.keepAwake_keeps (P := fun e => d.Awoken e ∧ e.tile k = d.tile k) (Q := fun t => t ≠ k) (d := d)
    (fun e t he hc htk => ?_) (fun e t he htk => ⟨he.1.wakeTile t, ?_⟩) ⟨Dev.Awoken.refl d, rfl⟩
  · exact hkept.2
  · rw [htk, Dev.canWake, Dev.tileOk_congr he.1.frame he.2, h] at hc
    exact Bool.false_ne_true hc
  · rw [Dev.wakeTile_tile, if_neg (Ne.symm htk), he.2]

/-! ### Clears that pass -/

variable {s : State}

theorem exec_tenantClearDone_zero {u : ClearUnit} (hl : s.dev.live = true) (hc : s.dev.isClearing u = true) :
    exec (.tenantClearDone u .zero) s = .next { s with dev := s.dev.clearPass u } :=
  exec_dev rfl (if_pos (by rw [hl, hc]; rfl))

theorem exec_tenantClearDone_failed {u : ClearUnit} {x : Fin 4} {off : Nat} (hl : s.dev.live = true)
    (hc : s.dev.isClearing u = true) :
    exec (.tenantClearDone u (.failed x off)) s = .next { s with dev := s.dev.clearFail u x.val off } :=
  exec_dev rfl (if_pos (by rw [hl, hc]; rfl))

theorem Dev.clearPoison_frame (d : Dev) (m : KMap WordErr) : d.clearPoison m = { d with dict := (d.clearPoison m).dict } := by
  unfold Dev.clearPoison
  dsimp only
  split <;> rfl

theorem Dev.clearPoison_obj (d : Dev) (m : KMap WordErr) {i u n : Nat} (h : okey i u n ≠ okey 0x5810 7 0) :
    (d.clearPoison m).obj i u n = d.obj i u n := by
  unfold Dev.clearPoison
  dsimp only
  split
  · rfl
  · exact Dev.obj_bump_other d h

theorem Dev.tileCleared_frame (d : Dev) (t : Nat) :
    d.tileCleared t = { d with tiles := d.tiles.put t ((d.tile t).cleared d.pwr.tick), dict := (d.tileCleared t).dict } := by
  unfold Dev.tileCleared
  dsimp only
  obtain ⟨e, he⟩ : ∃ e, e = d.clearPoison ((d.tile t).tbErr ++ (d.tile t).asErr ++ (d.tile t).hErr) := ⟨_, rfl⟩
  have hf : e = { d with dict := e.dict } := by rw [he]; exact d.clearPoison_frame _
  rw [← he, hf]
  rfl

theorem Dev.tileCleared_obj (d : Dev) (t : Nat) (ht : t < 128) :
    (d.tileCleared t).obj 0x3830 0 0 = Nat.min (d.obj 0x3830 0 0 + 1) (2 ^ 64 - 1) := by
  have hpoison := d.clearPoison_obj ((d.tile t).tbErr ++ (d.tile t).asErr ++ (d.tile t).hErr)
    (show okey 0x3830 0 0 ≠ okey 0x5810 7 0 by decide)
  refine (Dev.obj_bump_same _ _ _ _ _ _).trans ?_
  rw [Dev.obj_bump_other _ (show okey 0x3830 0 0 ≠ okey 0x5810 0x0A 0 by decide),
    Dev.obj_setObj_other _ (show okey 0x3830 0 0 ≠ okey 0x5802 (t + 1) 0 by simp only [okey]; omega)]
  exact congrArg (fun n => Nat.min (n + 1) (2 ^ 64 - 1)) hpoison

theorem Dev.slotCleared_slot (d : Dev) (k : Nat) : (d.slotCleared k).slot k =
    { d.slot k with clearing := false, lastTenant := some (d.slotTenant k), resident := none } :=
  KMap.get_put_same _ _ _ _

theorem Dev.slotCleared_obj (d : Dev) {k i : Nat} (hi : i = 0x7C20 ∨ i = 0x7C23) : (d.slotCleared k).obj i (k + 1) 0 = 0 := by
  unfold Dev.slotCleared Dev.countClear
  dsimp only [List.foldl_cons, List.foldl_nil]
  rw [Dev.obj_bump_other _ (by simp only [okey]; omega)]
  rcases hi with rfl | rfl
  · rw [Dev.obj_setObj_other _ (by simp only [okey]; omega), Dev.obj_setObj_other _ (by simp only [okey]; omega),
      Dev.obj_setObj_other _ (by simp only [okey]; omega), Dev.obj_setObj_same]
  · exact Dev.obj_setObj_same _ _ _ _ _

/-! ### What the scout manager's going on leaves -/

/-- Memory, the jobs, the sketches in the arrays and the count of clears are kept. -/
structure Dev.Scouts (d e : Dev) : Prop where
  mem : e.mem = d.mem
  jobs : e.jobs = d.jobs
  words : ∀ a b, ((e.array a).bank b).words = ((d.array a).bank b).words
  clears : e.obj 0x3830 0 0 = d.obj 0x3830 0 0

theorem Dev.Scouts.refl (d : Dev) : d.Scouts d := ⟨rfl, rfl, fun _ _ => rfl, rfl⟩

theorem Dev.Scouts.trans {a b c : Dev} (h : a.Scouts b) (h' : b.Scouts c) : a.Scouts c :=
  ⟨h'.mem.trans h.mem, h'.jobs.trans h.jobs, fun x y => (h'.words x y).trans (h.words x y), h'.clears.trans h.clears⟩

/-- An array that keeps its sketches. -/
theorem Dev.setArray_scouts (d : Dev) (a : Nat) (x : SArray) (h : ∀ b, (x.bank b).words = ((d.array a).bank b).words) :
    d.Scouts (d.setArray a x) := by
  refine ⟨rfl, rfl, fun c b => ?_, rfl⟩
  by_cases hc : c = a
  · subst hc
    rw [show (d.setArray c x).array c = x from KMap.get_put_same _ _ _ _]
    exact h b
  · rw [show (d.setArray a x).array c = d.array c from KMap.get_put_other _ _ _ _ _ hc]

theorem Dev.takeBank_scouts (d : Dev) (tenant b a : Nat) : d.Scouts (d.takeBank tenant b a) := by
  refine d.setArray_scouts a _ (fun c => ?_)
  unfold SArray.setTenant SArray.setClearing SArray.bank
  split <;> split <;> rfl

theorem Dev.setSpans_scouts (d : Dev) (l : List ScSpan) : d.Scouts (d.setSpans l) := ⟨rfl, rfl, fun _ _ => rfl, rfl⟩

theorem Dev.putSpan_scouts (d : Dev) (sp : ScSpan) : d.Scouts (d.putSpan sp) := d.setSpans_scouts _

theorem Dev.dropSpan_scouts (d : Dev) (n : Nat) : d.Scouts (d.dropSpan n) := d.setSpans_scouts _

theorem Dev.setTiles_scouts (d : Dev) (m : KMap Tile) : d.Scouts { d with tiles := m } := ⟨rfl, rfl, fun _ _ => rfl, rfl⟩

theorem Dev.updTile_scouts (d : Dev) (t : Nat) (f : Tile → Tile) : d.Scouts (d.updTile t f) := d.setTiles_scouts _

theorem Dev.wakeArrays_scouts (d : Dev) (l : List Nat) : d.Scouts (d.wakeArrays l) :=
  foldl_keeps (fun e => d.Scouts e) _ (fun e c he => he.trans (⟨rfl, rfl, fun _ _ => rfl, rfl⟩ : e.Scouts (e.wakeChip c))) _ d (.refl d)

/-- The scout manager's own counters. -/
theorem Dev.bump_scouts (d : Dev) (u n w : Nat) : d.Scouts (d.bump 0x7830 u n w) :=
  ⟨rfl, rfl, fun _ _ => rfl, Dev.obj_bump_other d (by simp only [okey]; omega)⟩

theorem Dev.makeSlots_scouts (tenant need seq n : Nat) : ∀ d : Dev, d.Scouts (Dev.makeSlots tenant need seq n d).2 := by
  induction n with
  | zero => exact fun d => .refl d
  | succ n ih =>
    intro d
    rw [Dev.makeSlots]
    dsimp only
    split
    · exact .refl d
    · split
      · exact .refl d
      · split
        · exact (d.dropSpan_scouts _).trans (ih _)
        · exact .refl d

theorem Dev.spanFor_scouts (d : Dev) (n : Nat) (q : Seq) : d.Scouts (d.spanFor n q).2 := by
  have hslots := (d.dropSpan_scouts n).trans
    (Dev.makeSlots_scouts q.tenant (ceilDiv (q.groups * q.pages) 64) n (d.dropSpan n).spans.length (d.dropSpan n))
  unfold Dev.spanFor
  split
  · exact .refl d
  · dsimp only
    split
    · rename_i heq; rw [heq] at hslots; exact hslots
    · rename_i heq; rw [heq] at hslots; exact hslots.trans (Dev.putSpan_scouts _ _)

theorem Dev.setNextLoad_scouts (d : Dev) (n : Nat) : d.Scouts { d with scout := { d.scout with nextLoad := n } } :=
  ⟨rfl, rfl, fun _ _ => rfl, rfl⟩

theorem Dev.startLoad_scouts (d : Dev) (sp : ScSpan) (layer b prio : Nat) : d.Scouts (d.startLoad sp layer b prio) := by
  unfold Dev.startLoad
  dsimp only
  generalize ScSpan.setBank _ _ _ = sp'
  have htake : d.Scouts (sp'.arrays.foldl (fun (d : Dev) a => d.takeBank sp'.tenant b a)
      ((d.wakeArrays sp'.arrays).putSpan sp')) :=
    foldl_keeps (fun e => d.Scouts e) _ (fun e a he => he.trans (e.takeBank_scouts _ _ _)) _ _
      ((d.wakeArrays_scouts _).trans (Dev.putSpan_scouts _ _))
  exact (htake.trans (Dev.setNextLoad_scouts _ _)).trans (Dev.bump_scouts _ _ _ _)

theorem Dev.pumpNext_scouts (d : Dev) (sp : ScSpan) : d.Scouts (d.pumpNext sp) := by
  unfold Dev.pumpNext
  split
  · exact .refl d
  · split
    · exact d.putSpan_scouts _
    · split
      · exact .refl d
      · exact d.startLoad_scouts _ _ _ _

theorem Dev.setThresh_scouts (d : Dev) (l : List Nat) (b : Nat) (blk : List Byte) : d.Scouts (d.setThresh l b blk) := by
  refine foldl_keeps (fun e => d.Scouts e) _ (fun e a he => he.trans (e.setArray_scouts a _ (fun c => ?_))) l d (.refl d)
  unfold SArray.setBank SArray.bank
  split <;> split <;> rfl

theorem Dev.startQuery_scouts (d : Dev) (q : Query) (sq : Seq) (sp : ScSpan) (b : Nat) (l : Layer) :
    d.Scouts (d.startQuery q sq sp b l) := by
  unfold Dev.startQuery
  dsimp only
  generalize Dev.evaluate _ _ _ _ _ = snap
  exact (((d.wakeArrays_scouts _).trans (Dev.setThresh_scouts _ _ _ _)).trans
    (((Dev.putSpan_scouts _ _).trans (Dev.setTiles_scouts _ _)))).trans (Dev.pumpNext_scouts _ _)

theorem Dev.queryTry_scouts (d : Dev) (t : Nat) : d.Scouts (d.queryTry t) := by
  unfold Dev.queryTry
  split
  · exact .refl d
  · rename_i q _
    split
    · exact .refl d
    · split
      · exact d.updTile_scouts _ _
      · rename_i sq _
        have hspan := d.spanFor_scouts q.seq sq
        split
        · rename_i heq
          rw [heq] at hspan
          exact (hspan.trans (Dev.updTile_scouts _ _ _)).trans (Dev.bump_scouts _ _ _ _)
        · rename_i heq
          rw [heq] at hspan
          refine hspan.trans ?_
          split
          · split
            · exact Dev.startQuery_scouts _ _ _ _ _ _
            · exact Dev.putSpan_scouts _ _
          · split
            · exact Dev.startLoad_scouts _ _ _ _ _
            · exact .refl _

/-- What waits in the scout manager goes on: no sketch, no memory, no job and no count of clears moves. -/
theorem Dev.scoutPump_scouts (d : Dev) : d.Scouts d.scoutPump := by
  have htry : d.Scouts ((d.tiles.map (fun e => e.1)).foldl Dev.queryTry d) :=
    foldl_keeps (fun e => d.Scouts e) _ (fun e t he => he.trans (e.queryTry_scouts t)) _ d (.refl d)
  refine foldl_keeps (fun e => d.Scouts e) _ (fun e sp he => he.trans ?_) _ _ htry
  split
  · exact e.pumpNext_scouts _
  · exact .refl e

/-! ### Clears that fail -/

theorem Dev.countUe_frame (d : Dev) (t n : Nat) : d.countUe t n = { d with dict := (d.countUe t n).dict } := by
  unfold Dev.countUe
  split <;> rfl

theorem Dev.countUe_obj (d : Dev) (t n : Nat) {i u m : Nat} (h : okey i u m ≠ okey 0x5812 (t + 1) 0) :
    (d.countUe t n).obj i u m = d.obj i u m := by
  unfold Dev.countUe
  split
  · rfl
  · exact Dev.obj_bump_other d h

/-- A tile whose clear has failed. -/
structure Dev.ClearFailed (d e : Dev) (t : Nat) : Prop where
  failed : (e.tile t).failed = true
  clearing : (e.tile t).clearing = false
  notOk : e.tileOk t = false
  unit : 0x30 ∈ e.err.unit
  alert : e.alertAsserted = true
  count : e.obj 0x3831 0 0 = Nat.min (d.obj 0x3831 0 0 + 1) (2 ^ 32 - 1)

/-- A tile out of a clear that failed (R193). -/
def Tile.failClear (x : Tile) : Tile := { x with clearing := false, failed := true }

theorem Dev.tileClearFail_eq {d : Dev} {t : Nat} (hj : (d.tile t).job = none) (store off : Nat) :
    ∃ r : Rec, r.code = 0x30 ∧ d.tileClearFail t store off =
      (((d.setTile t (d.tile t).failClear).countUe t 1).keepAwake.bump 0x3831 0 0 32).reportUnit r := by
  refine ⟨{ code := 0x30, tenant := (d.tile t).owner.getD 0, source := t
            detail := ((d.setTile t (d.tile t).failClear).countUe t 1).keepAwake.spmRecord t store 4 0xA off }, rfl, ?_⟩
  unfold Dev.tileClearFail Dev.clearFailed Tile.failClear
  dsimp only
  rw [hj]

theorem Dev.tileClearFail_of_idle {d : Dev} {t : Nat} (ht : t < 128) (hj : (d.tile t).job = none) (store off : Nat) :
    d.ClearFailed (d.tileClearFail t store off) t := by
  obtain ⟨r, hcode, hr⟩ := Dev.tileClearFail_eq hj store off
  obtain ⟨c, hc⟩ : ∃ c, c = (d.setTile t (d.tile t).failClear).countUe t 1 := ⟨_, rfl⟩
  rw [hr, ← hc]
  have hawake := c.keepAwake_awoken
  have hbefore : c.tile t = (d.tile t).failClear := by
    rw [hc, Dev.countUe_frame]
    exact Dev.tile_setTile_same _ _ _
  obtain ⟨e, he⟩ : ∃ e, e = (c.keepAwake.bump 0x3831 0 0 32).reportUnit r := ⟨_, rfl⟩
  have htile : e.tile t = c.keepAwake.tile t := by
    rw [he, Dev.reportUnit_frame]
    rfl
  have hfailed : (c.keepAwake.tile t).failed = true ∧ (c.keepAwake.tile t).clearing = false := by
    rw [(hawake.tiles t).1, hbefore]
    exact ⟨rfl, rfl⟩
  have hunit : 0x30 ∈ e.err.unit := by
    rw [he, ← hcode]
    exact Dev.reportUnit_unit _ _
  have hcount : e.obj 0x3831 0 0 = Nat.min (d.obj 0x3831 0 0 + 1) (2 ^ 32 - 1) := by
    have hobj : c.keepAwake.obj 0x3831 0 0 = d.obj 0x3831 0 0 := by
      rw [hawake.frame, hc]
      exact Dev.countUe_obj _ t 1 (show okey 0x3831 0 0 ≠ okey 0x5812 (t + 1) 0 by simp only [okey]; omega)
    rw [he, Dev.reportUnit_obj _ _ (okey_not_mem_reportKeys (by decide)), Dev.obj_bump_same, hobj]
  rw [← he]
  refine ⟨by rw [htile, hfailed.1], by rw [htile, hfailed.2], ?_, hunit, Dev.alertAsserted_of_unit hunit, hcount⟩
  rw [Dev.tileOk, Dev.tileOn, htile, hfailed.1, Bool.not_true, Bool.and_false, Bool.false_and]

theorem exec_tenantClearDeadline_tile {k : TileId} (hl : s.dev.live = true) (hc : (s.dev.tile k.val).clearing = true)
    (ht : (s.dev.tile k.val).clearStart + 61 < s.dev.pwr.tick) : ∃ store off n,
    exec (.tenantClearDeadline (.tile k)) s = .next { s with
      dev := ({ s.dev with free := n } : Dev).tileClearFail k.val store off } := by
  refine ⟨_, _, _, exec_dev rfl (if_pos ?_)⟩
  have hsince : 61 < s.dev.pwr.tick - (s.dev.tile k.val).clearStart := by omega
  rw [hl, Bool.true_and, Bool.and_eq_true_iff]
  exact ⟨hc, decide_eq_true hsince⟩

/-! ### Policy modules -/

theorem exec_policyTrap {c : Fin 8} (hs : s.dev.serving = true) (hp : s.dev.policyCore c.val = true)
    (hst : (s.dev.core c.val).st = 1) : exec (.policyTrap c) s = .next { s with
      dev := (s.dev.setCore c.val { s.dev.core c.val with st := 3 }).reportUnit
        { code := 0x37, tenant := s.dev.coreTenant c.val } } :=
  exec_dev rfl (if_pos (by rw [hs, hp, hst]; rfl))

/-! ### TILE_ENABLE -/

theorem exec_tileEnable {k : TileId} {on : Bool} (hs : s.dev.serving = true) (hh : s.dev.has k.val = true) :
    exec (.tileEnable k on) s = .next { s with dev := s.dev.tileEnable k.val on } :=
  exec_dev rfl (if_pos (by rw [hs, hh]; rfl))

/-- TILE_ENABLE 1: the tile's chiplet leaves C-LOW unless the tile sleeps. -/
theorem nexts_tileEnable_true {k : TileId} (hs : s.dev.serving = true) (hh : s.dev.has k.val = true) :
    Nexts (.tileEnable k true) s fun t =>
      t.dev.obj 0x5001 (k.val + 1) 0 = 1 ∧ (∀ i : TileId, Woken (s.dev.tile i.val) (t.dev.tile i.val)) ∧
      ((s.dev.tile k.val).power ≠ .sleep → t.dev.clk.chipLow.get (k.val / 32) false = false) ∧
      t = { s with dev := { s.dev with dict := t.dev.dict, tiles := t.dev.tiles, clk := t.dev.clk } } := by
  obtain ⟨d, hd⟩ : ∃ d, d = s.dev.setObj 0x5001 (k.val + 1) 0 1 := ⟨_, rfl⟩
  obtain ⟨e, he⟩ : ∃ e, e = if (d.tile k.val).power == .sleep then d else d.wakeChip (k.val / 32) := ⟨_, rfl⟩
  have hframe : e = { d with clk := e.clk } := by rw [he]; split <;> rfl
  have hawake := e.keepAwake_awoken
  have hexec := exec_tileEnable (on := true) hs hh
  rw [show s.dev.tileEnable k.val true = e.keepAwake by rw [he, hd]; rfl] at hexec
  refine ⟨_, hexec, ?_, fun i => ?_, fun hp => ?_, ?_⟩
  · dsimp only
    rw [hawake.frame, hframe, hd]
    exact Dev.obj_setObj_same _ _ _ _ _
  · have h := hawake.tiles i.val
    rw [hframe, hd] at h
    rw [hframe, hd]
    exact h
  · have hgone : KMap.find e.clk.chipLow (k.val / 32) = none := by
      rw [he, if_neg (by rw [hd]; exact fun h => hp (beq_iff_eq.mp h))]
      exact KMap.find_drop_same _ _
    dsimp only
    rw [KMap.get, hawake.chips _ hgone]
    rfl
  · dsimp only
    rw [hawake.frame, hframe, hd]
    rfl

/-- TILE_ENABLE 0 of a tile without a job: it is to be cleared before its next work. -/
theorem nexts_tileEnable_false {k : TileId} (hs : s.dev.serving = true) (hh : s.dev.has k.val = true)
    (hj : (s.dev.tile k.val).job = none) :
    Nexts (.tileEnable k false) s fun t => t.dev.obj 0x5001 (k.val + 1) 0 = 0 ∧ t.dev.tileOk k.val = false ∧
      t.dev.tile k.val = { s.dev.tile k.val with mustClear := true } ∧
      (∀ j : TileId, j ≠ k → Woken (s.dev.tile j.val) (t.dev.tile j.val)) ∧
      t = { s with dev := { s.dev with tiles := t.dev.tiles, dict := t.dev.dict, clk := t.dev.clk } } := by
  obtain ⟨e, he⟩ : ∃ e, e = (s.dev.setObj 0x5001 (k.val + 1) 0 0).updTile k.val (fun x => { x with mustClear := true }) := ⟨_, rfl⟩
  have hawake := e.keepAwake_awoken
  have hobj : e.obj 0x5001 (k.val + 1) 0 = 0 := by rw [he]; exact Dev.obj_setObj_same _ _ _ _ _
  have hnot : e.tileOk k.val = false := by
    rw [Dev.tileOk, Dev.tileOn, hobj]
    simp
  have hexec := exec_tileEnable (on := false) hs hh
  have hoff : s.dev.tileEnable k.val false = e.keepAwake := by
    unfold Dev.tileEnable
    dsimp only
    rw [if_neg Bool.false_ne_true, show ((s.dev.setObj 0x5001 (k.val + 1) 0 false.toNat).tile k.val).job = none from hj, he]
    rfl
  have htile := Dev.keepAwake_tile_of_not_ok hnot
  rw [hoff] at hexec
  refine ⟨_, hexec, ?_, (Dev.tileOk_congr hawake.frame htile).trans hnot, htile.trans ?_, fun j hjk => ?_, ?_⟩
  · dsimp only
    rw [hawake.frame]
    exact hobj
  · rw [he]
    exact Dev.tile_updTile_same _ _ _
  · have h := hawake.tiles j.val
    rw [show e.tile j.val = s.dev.tile j.val by
      rw [he]; exact Dev.tile_updTile_other _ _ (fun hv => hjk (Fin.ext hv))] at h
    exact h
  · dsimp only
    rw [hawake.frame, he]
    rfl

/-! ### The obligation -/

/-- A bank whose clear passes holds no sketch, whatever the scout manager then starts. -/
theorem Dev.bankCleared_words (d : Dev) (a b : Nat) : (((d.bankCleared a b).array a).bank b).words = [] ∧
    (d.bankCleared a b).obj 0x3830 0 0 = Nat.min (d.obj 0x3830 0 0 + 1) (2 ^ 64 - 1) ∧ (d.bankCleared a b).mem = d.mem ∧
    (d.bankCleared a b).jobs = d.jobs := by
  obtain ⟨x, hx⟩ : ∃ x, x = ((d.array a).setClearing b false).setBank b {} := ⟨_, rfl⟩
  have hpump := Dev.scoutPump_scouts ((d.setArray a x).countClear)
  have hout : d.bankCleared a b = (d.setArray a x).countClear.scoutPump := by rw [hx]; rfl
  rw [hout]
  refine ⟨(hpump.words a b).trans ?_, hpump.clears.trans (Dev.obj_bump_same _ _ _ _ _ _), hpump.mem, hpump.jobs⟩
  have hbank : (d.setArray a x).countClear.array a = x := KMap.get_put_same _ _ _ _
  rw [hbank, hx]
  unfold SArray.setBank SArray.bank
  split <;> rfl

/-- Settles O31: clears by what passing and failing write, TILE_ENABLE by what keeping tiles awake leaves. -/
theorem tenancy : Obligations.Tenancy := by
  refine ⟨fun s k hl hc => ?tile, fun s k hl hc => ?slot, fun s a b hl hc => ?bank, fun s k x off hl hc hj => ?fails,
    fun s k hl hc hj ht => ?late, fun s c hs hp hi => ?start, fun s c hs hp hst => ?stop, fun s c hs hp hst => ?trap,
    fun s k hs hh => nexts_tileEnable_true hs hh, fun s k hs hh hj => nexts_tileEnable_false hs hh hj⟩
  case tile =>
    have hexec := exec_tenantClearDone_zero (u := .tile k) hl hc
    have hframe := s.dev.tileCleared_frame k.val
    have htile : (s.dev.tileCleared k.val).tile k.val = (s.dev.tile k.val).cleared s.dev.pwr.tick := by
      rw [hframe]
      exact KMap.get_put_same _ _ _ _
    refine ⟨{ s with dev := s.dev.tileCleared k.val }, hexec, ?_⟩
    dsimp only
    rw [htile]
    refine ⟨rfl, rfl, rfl, rfl, rfl, rfl, rfl, rfl, rfl, rfl, rfl, s.dev.tileCleared_obj k.val k.isLt, fun j hj => ?_, ?_⟩
    · rw [hframe]
      exact KMap.get_put_other _ _ _ _ _ (fun hv => hj (Fin.ext hv))
    · rw [hframe]
  case slot =>
    have hslot := s.dev.slotCleared_slot k.val
    refine ⟨_, exec_tenantClearDone_zero (u := .solver k) hl hc, ?_, ?_, ?_, s.dev.slotCleared_obj (.inl rfl),
      s.dev.slotCleared_obj (.inr rfl)⟩ <;> exact (congrArg _ hslot).trans rfl
  case bank =>
    obtain ⟨hwords, hcount, hmem, hjobs⟩ := s.dev.bankCleared_words a.val b.val
    exact ⟨_, exec_tenantClearDone_zero (u := .bank a b) hl hc, hwords, hcount, hmem, hjobs, onlyDev_withDev _ _⟩
  case fails =>
    have h := Dev.tileClearFail_of_idle k.isLt hj x.val off
    have hexec := exec_tenantClearDone_failed (u := .tile k) (x := x) (off := off) hl hc
    rw [Dev.clearFail] at hexec
    generalize s.dev.tileClearFail k.val x.val off = e at h hexec
    exact ⟨_, hexec, h.failed, h.clearing, h.notOk, h.unit, h.alert, h.count, onlyDev_withDev _ _⟩
  case late =>
    obtain ⟨store, off, n, hexec⟩ := exec_tenantClearDeadline_tile hl hc ht
    have h := Dev.tileClearFail_of_idle (d := { s.dev with free := n }) k.isLt hj store off
    generalize Dev.tileClearFail _ k.val store off = e at h hexec
    exact ⟨_, hexec, h.failed, h.clearing, h.unit, onlyDev_withDev _ _⟩
  case start => exact exec_dev rfl (if_pos (by rw [hs, hp, hi]; rfl))
  case stop => exact exec_dev rfl (if_pos (by rw [hs, hp, hst]; rfl))
  case trap =>
    obtain ⟨d, hd⟩ : ∃ d, d = s.dev.setCore c.val { s.dev.core c.val with st := 3 } := ⟨_, rfl⟩
    have hexec := exec_policyTrap hs hp hst
    rw [← hd] at hexec
    refine ⟨_, hexec, ?_, Dev.reportUnit_unit d _, Dev.reportUnit_alert d _, ?_, ?_, onlyDev_withDev _ _⟩ <;> dsimp only <;>
      rw [Dev.reportUnit_frame, hd]
    · exact KMap.get_put_same _ _ _ _
    · rfl
    · rfl

end Sys2Proof.Machine

/-! ## The sequencer: issue, scalar and predicate functions (R196, R199, R200, R203, R207) -/

namespace Sys2Proof.Machine

open Sys2Proof.Stm

/-! ### Running a meaning -/

/-- A meaning runs to its end: its result and the device after it. -/
def TM.Runs {α : Type} (m : TM α) (d : Dev) (a : α) (e : Dev) : Prop := m.run.run d = (.ok a, e)

section
variable {α β : Type} {d e : Dev}

theorem TM.Runs.bind {m : TM α} {f : α → TM β} {a : α} {b : β} {e' : Dev} (h : TM.Runs m d a e) (h' : TM.Runs (f a) e b e') :
    TM.Runs (m >>= f) d b e' := by
  unfold TM.Runs at *
  rw [ExceptT.run_bind, StateT.run_bind, h]
  exact h'

theorem TM.runs_pure (a : α) (d : Dev) : TM.Runs (pure a) d a d := rfl

theorem TM.runs_get (d : Dev) : TM.Runs get d d d := rfl

theorem TM.runs_set (d e : Dev) : TM.Runs (set e) d ⟨⟩ e := rfl

theorem TM.runs_upd (f : Dev → Dev) (d : Dev) : TM.Runs (TM.upd f) d () (f d) := rfl

theorem TM.runs_need {c : Bool} (h : c = true) (err : TileErr) (d : Dev) : TM.Runs (TM.need c err) d () d := by
  rw [TM.need, if_pos h]
  exact TM.runs_pure () d

end

/-! ### One tile changes -/

/-- Of a device, tile `t` becomes `y`, and nothing else changes. -/
structure Dev.OneTile (d : Dev) (t : Nat) (y : Tile) (e : Dev) : Prop where
  frame : e = { d with tiles := e.tiles }
  tile : e.tile t = y
  other : ∀ j, j ≠ t → e.tile j = d.tile j

theorem Dev.OneTile.refl (d : Dev) (t : Nat) : d.OneTile t (d.tile t) d := ⟨rfl, rfl, fun _ _ => rfl⟩

theorem Dev.OneTile.setTile {d e : Dev} {t : Nat} {y : Tile} (h : d.OneTile t y e) (z : Tile) : d.OneTile t z (e.setTile t z) :=
  ⟨by rw [Dev.setTile, h.frame], Dev.tile_setTile_same e t z, fun j hj => by rw [Dev.tile_setTile_other e z hj, h.other j hj]⟩

theorem Dev.OneTile.updTile {d e : Dev} {t : Nat} {y : Tile} (h : d.OneTile t y e) (f : Tile → Tile) :
    d.OneTile t (f y) (e.updTile t f) := by
  have hset := h.setTile (f (e.tile t))
  rw [h.tile] at hset
  rw [Dev.updTile, h.tile]
  exact hset

theorem Dev.OneTile.trans {a b c : Dev} {t : Nat} {x y : Tile} (h : a.OneTile t x b) (h' : b.OneTile t y c) : a.OneTile t y c :=
  ⟨by rw [h'.frame, h.frame], h'.tile, fun j hj => (h'.other j hj).trans (h.other j hj)⟩

theorem Dev.oneTile_setTile (d : Dev) (t : Nat) (y : Tile) : d.OneTile t y (d.setTile t y) := (Dev.OneTile.refl d t).setTile y

theorem Dev.OneTile.onlyTileOf {d' e : Dev} {k : TileId} {y : Tile} (h : d'.OneTile k.val y e) (s : State) :
    OnlyTileOf k d' s { s with dev := e } :=
  ⟨by rw [← h.frame], fun j hj => h.other j.val (fun hv => hj (Fin.ext hv))⟩

theorem Dev.OneTile.tileJob {d e : Dev} {t : Nat} {y : Tile} (h : d.OneTile t y e) (hj : y.job = (d.tile t).job) :
    e.tileJob t = d.tileJob t := by
  have hjobs : e.jobs = d.jobs := by rw [h.frame]
  unfold Dev.tileJob
  rw [h.tile, hj, hjobs]

/-! ### Issue -/

theorem bitsAt_field (w : Tcw) (lo n : Nat) : bitsAt w.toNat lo n = fieldOf w lo n := by
  rw [bitsAt, Nat.shiftRight_eq_div_pow, fieldOf]

/-- A command takes a word of a group and a function, with the registers it names, at a tile. -/
structure Cmd.Fits (c : Cmd) (w : Tcw) (grp fn : Nat) (regs : List Nat) (y : Tile) : Prop where
  grp_eq : c.grp = grp
  fn_eq : c.fn = fn
  mine : c.mine w.toNat = true
  regs_eq : c.regs w.toNat = regs
  listed : tcwListed grp fn = true
  legal : c.legal w.toNat = true
  count : c.count y w.toNat = true

theorem Dev.firstTcw_tiles (d : Dev) (j : Nat) (x : Job) : (d.firstTcw j x).tiles = d.tiles := by
  unfold Dev.firstTcw
  dsimp only
  split
  · rfl
  · split <;> rfl

theorem Dev.tcw_of_issues {d d' : Dev} {k : Nat} {w : Tcw} {grp fn : Nat} {regs : List Nat} {c : Cmd} {body : TcwBody}
    (h : Issues d k w grp fn regs d') (hc : c.Fits w grp fn regs (d'.tile k)) :
    d.tcw k w c body = d'.runTcw k w.toNat body := by
  obtain ⟨j, x, d1, hcan, hjob, hfetch, hd', hgrp, hfn, hskip, hfree, hpred⟩ := h
  have htile : d'.tile k = d1.tile k := by rw [hd', Dev.tile, Dev.firstTcw_tiles]; rfl
  have hcount := hc.count
  rw [htile] at hcount
  have hheld : ((d1.tile k).out.any fun o => o.holdsReg (c.regs w.toNat)) = false := by
    rw [hc.regs_eq, List.any_eq_false]
    exact fun o ho => by rw [hfree o ho]; exact Bool.false_ne_true
  have hact : ((d1.tile k).p (bitsAt w.toNat 115 3) == bitAt w.toNat 114) = false := by
    rw [bitsAt_field, beq_eq_false_iff_ne]
    exact hpred
  unfold Dev.tcw
  rw [if_pos hcan, hjob]
  dsimp only
  rw [hfetch]
  dsimp only
  rw [hgrp, hfn, hc.listed, hc.grp_eq, hc.fn_eq, hc.mine, hskip, hc.legal, hcount, hact]
  dsimp only
  rw [hheld, hd']
  simp

/-- The word acts: its meaning runs, and the sequencer goes on. -/
theorem exec_of_runs {c : Instr} {cmd : Cmd} {body : TcwBody} {s : State} {k : TileId} {w : Tcw} {grp fn : Nat}
    {regs : List Nat} {d' e : Dev} {next : Option Nat} (hexec : exec c s = tcwStep k w cmd body s)
    (hi : Issues s.dev k.val w grp fn regs d') (hc : cmd.Fits w grp fn regs (d'.tile k.val))
    (hrun : TM.Runs (body k.val w.toNat) d' next e) :
    exec c s = .next { s with dev := e.updTile k.val (fun x => { x.pass (if grp == 9 then 0 else 1) with
      pos := next.getD ((d'.tile k.val).pos + 1), atBoundary := grp == 9 }) } := by
  have hgrp : tcwGroup w.toNat = grp := by
    obtain ⟨_, _, _, _, _, _, _, hgrp, _⟩ := hi
    exact hgrp
  rw [hexec, tcwStep_next, Dev.tcw_of_issues hi hc, Dev.runTcw]
  dsimp only
  rw [show (body k.val w.toNat).run.run d' = (.ok next, e) from hrun, hgrp]

/-- The word's meaning stops. -/
theorem exec_of_stops {c : Instr} {cmd : Cmd} {body : TcwBody} {s : State} {k : TileId} {w : Tcw} {grp fn : Nat}
    {regs : List Nat} {d' e : Dev} {err : TileErr} (hexec : exec c s = tcwStep k w cmd body s)
    (hi : Issues s.dev k.val w grp fn regs d') (hc : cmd.Fits w grp fn regs (d'.tile k.val))
    (hrun : (body k.val w.toNat).run.run d' = (.error err, e)) :
    exec c s = .next { s with dev := e.tileErr k.val (d'.tile k.val).pos err } := by
  rw [hexec, tcwStep_next, Dev.tcw_of_issues hi hc, Dev.runTcw]
  dsimp only
  rw [hrun]

/-- The tile after a word whose meaning left it as `y`. -/
def Tile.goesOn (y : Tile) (pos : Nat) : Tile := { y.pass 1 with pos := pos, atBoundary := false }

/-- A word that changes one tile: the state after it. -/
theorem nexts_of_runs {c : Instr} {cmd : Cmd} {body : TcwBody} {s : State} {k : TileId} {w : Tcw} {grp fn : Nat}
    {regs : List Nat} {d' e : Dev} {next : Option Nat} {y : Tile} {P : State → Prop}
    (hexec : exec c s = tcwStep k w cmd body s) (hi : Issues s.dev k.val w grp fn regs d')
    (hc : cmd.Fits w grp fn regs (d'.tile k.val)) (hgrp : (grp == 9) = false)
    (hrun : TM.Runs (body k.val w.toNat) d' next e) (hy : d'.OneTile k.val y e)
    (hP : ∀ f, d'.OneTile k.val (y.goesOn (next.getD ((d'.tile k.val).pos + 1))) f → P { s with dev := f }) :
    Nexts c s P := by
  have hnext := exec_of_runs hexec hi hc hrun
  rw [hgrp] at hnext
  exact ⟨_, hnext, hP _ (hy.updTile (fun x => x.goesOn _))⟩

theorem goes_of_oneTile {k : TileId} {d' e : Dev} {s : State} {y : Tile} {pos : Nat} (h : d'.OneTile k.val (y.goesOn pos) e) :
    Goes k d' s { s with dev := e } y pos false := ⟨h.onlyTileOf s, h.tile⟩

/-! ### Registers and predicates -/

theorem Tile.s_setS_same (x : Tile) {i : Nat} (h : i ≠ 0) (v : Nat) : (x.setS i v).s i = v % 2 ^ 64 := by
  rw [Tile.s, if_neg h, Tile.setS, if_neg h]
  dsimp only
  rw [KMap.get_put_same, BitVec.toNat_ofNat]

theorem Tile.s_setS_other (x : Tile) {i j : Nat} (h : j ≠ i) (v : Nat) : (x.setS i v).s j = x.s j := by
  unfold Tile.setS
  split
  · rfl
  · unfold Tile.s
    split
    · rfl
    · dsimp only
      rw [KMap.get_put_other _ _ _ _ _ h]

theorem Tile.setS_frame (x : Tile) (i v : Nat) : x.setS i v = { x with sregs := (x.setS i v).sregs } := by
  unfold Tile.setS
  split <;> rfl

theorem Tile.pass_frame (x : Tile) (n : Nat) : x.pass n = { x with seg := (x.pass n).seg } := by
  unfold Tile.pass
  split <;> rfl

theorem Tile.goesOn_frame (x : Tile) (pos : Nat) :
    x.goesOn pos = { x with pos := pos, seg := (x.goesOn pos).seg, atBoundary := false } := by
  unfold Tile.goesOn
  rw [x.pass_frame 1]

theorem Tile.goesOn_s (x : Tile) (pos i : Nat) : (x.goesOn pos).s i = x.s i := by
  rw [x.goesOn_frame pos]
  rfl

theorem Tile.goesOn_p (x : Tile) (pos i : Nat) : (x.goesOn pos).p i = x.p i := by
  rw [x.goesOn_frame pos]
  rfl

theorem putBit_lt {n i : Nat} (hn : n < 256) (hi : i < 8) (b : Bool) : putBit n i b < 256 := by
  unfold putBit
  split
  · exact Nat.or_lt_two_pow (n := 8) hn (Nat.pow_lt_pow_right (by decide) hi)
  · split
    · exact Nat.lt_of_le_of_lt (Nat.sub_le _ _) hn
    · exact hn

theorem testBit_sub_two_pow {n i j : Nat} (h : n.testBit i = true) (hj : j ≠ i) : (n - 2 ^ i).testBit j = n.testBit j := by
  induction i generalizing n j with
  | zero =>
    obtain ⟨k, rfl⟩ := Nat.exists_eq_succ_of_ne_zero hj
    have hodd : n % 2 = 1 := by simpa [Nat.testBit_zero] using h
    rw [Nat.succ_eq_add_one, Nat.testBit_add_one, Nat.testBit_add_one, show (n - 2 ^ 0) / 2 = n / 2 by omega]
  | succ i ih =>
    rw [Nat.testBit_add_one] at h
    rw [Nat.pow_succ]
    cases j with
    | zero => rw [Nat.testBit_zero, Nat.testBit_zero, show (n - 2 ^ i * 2) % 2 = n % 2 by have := Nat.ge_two_pow_of_testBit h; omega]
    | succ j =>
      rw [Nat.testBit_add_one, Nat.testBit_add_one, show (n - 2 ^ i * 2) / 2 = n / 2 - 2 ^ i by omega]
      exact ih h (fun he => hj (by rw [he]))

theorem testBit_putBit_other {n i j : Nat} (h : j ≠ i) (b : Bool) : (putBit n i b).testBit j = n.testBit j := by
  unfold putBit
  split
  · rw [Nat.testBit_or, Nat.testBit_two_pow_of_ne (Ne.symm h), Bool.or_false]
  · split
    case isTrue hb => exact testBit_sub_two_pow hb h
    case isFalse => rfl

theorem Tile.p_setP_same (x : Tile) {i : Nat} (h0 : i ≠ 0) (h : i < 8) (b : Bool) : (x.setP i b).p i = b := by
  rw [Tile.setP, if_neg h0, Tile.p]
  dsimp only
  rw [beq_eq_false_iff_ne.mpr h0, Bool.false_or, BitVec.toNat_ofNat, Nat.mod_eq_of_lt (putBit_lt x.preds.isLt h b),
    testBit_putBit]

theorem Tile.p_setP_other (x : Tile) {i j : Nat} (h : i < 8) (hj : j ≠ i) (b : Bool) : (x.setP i b).p j = x.p j := by
  unfold Tile.setP
  split
  · rfl
  · unfold Tile.p
    dsimp only
    rw [BitVec.toNat_ofNat, Nat.mod_eq_of_lt (putBit_lt x.preds.isLt h b), testBit_putBit_other hj]

theorem Tile.setP_frame (x : Tile) (i : Nat) (b : Bool) : x.setP i b = { x with preds := (x.setP i b).preds } := by
  unfold Tile.setP
  split <;> rfl

/-! ### Scalar and predicate functions -/

/-- A scalar function's word: SD is written, and the sequencer goes on. -/
theorem scalarCmd_of_body {c : TileId → Tcw → Instr} {fn : Nat} {extra : List (Nat × Nat)} {f g : Nat → Nat → Nat → Nat}
    (hexec : ∀ k w s, exec (c k w) s = tcwStep k w { grp := 7, fn := fn, regs := scalarRegs, legal := scalarLegal extra }
      (scalarBody g) s) (hl : tcwListed 7 fn = true) (hfg : ∀ a b i, g a b i = f a b i) : ScalarCmd c fn extra f := by
  intro s k w d' hi hsd hbits
  have hfits : ({ grp := 7, fn := fn, regs := scalarRegs, legal := scalarLegal extra } : Cmd).Fits w 7 fn
      [fieldOf w 108 4, fieldOf w 104 4, fieldOf w 100 4] (d'.tile k.val) := by
    refine ⟨rfl, rfl, rfl, ?_, hl, ?_, rfl⟩
    · simp only [scalarRegs, bitsAt_field]
    · dsimp only [scalarLegal]
      rw [bitsAt_field, hbits, bne_iff_ne.mpr hsd, Bool.and_true]
  obtain ⟨v, hv⟩ : ∃ v, v = f ((d'.tile k.val).s (fieldOf w 104 4)) ((d'.tile k.val).s (fieldOf w 100 4)) (fieldOf w 36 64) :=
    ⟨_, rfl⟩
  have hrun : TM.Runs (scalarBody g k.val w.toNat) d' none (d'.setTile k.val ((d'.tile k.val).setS (fieldOf w 108 4) v)) := by
    rw [hv, ← hfg]
    simp only [← bitsAt_field]
    rfl
  rw [← hv]
  refine nexts_of_runs (hexec k w s) hi hfits rfl hrun (Dev.oneTile_setTile d' k.val _) (fun e he => ?_)
  have hframe := Tile.goesOn_frame ((d'.tile k.val).setS (fieldOf w 108 4) v) ((d'.tile k.val).pos + 1)
  refine ⟨he.onlyTileOf s, ?_, fun i hi => ?_, ?_, ?_⟩ <;> dsimp only <;> rw [he.tile]
  · rw [Tile.goesOn_s, Tile.s_setS_same _ hsd]
  · rw [Tile.goesOn_s, Tile.s_setS_other _ hi]
  · rfl
  · rw [Option.getD_none, hframe, Tile.setS_frame]

/-- A predicate function's word: PD is written, and the sequencer goes on. -/
theorem nexts_setsPred {c : Instr} {cmd : Cmd} {body : TcwBody} {s : State} {k : TileId} {w : Tcw} {grp fn : Nat}
    {regs : List Nat} {d' : Dev} {pd : Nat} {b : Bool} (hexec : exec c s = tcwStep k w cmd body s)
    (hi : Issues s.dev k.val w grp fn regs d') (hc : cmd.Fits w grp fn regs (d'.tile k.val)) (hgrp : (grp == 9) = false)
    (h1 : 1 ≤ pd) (h6 : pd ≤ 6)
    (hrun : TM.Runs (body k.val w.toNat) d' none (d'.setTile k.val ((d'.tile k.val).setP pd b))) :
    Nexts c s fun t => SetsPred k d' s t pd b := by
  refine nexts_of_runs hexec hi hc hgrp hrun (Dev.oneTile_setTile d' k.val _) (fun e he => ?_)
  have hframe := Tile.goesOn_frame ((d'.tile k.val).setP pd b) ((d'.tile k.val).pos + 1)
  refine ⟨he.onlyTileOf s, ?_, fun i _ hi => ?_, ?_⟩ <;> dsimp only <;> rw [he.tile]
  · rw [Tile.goesOn_p, Tile.p_setP_same _ (by omega) (by omega)]
  · rw [Tile.goesOn_p, Tile.p_setP_other _ (by omega) hi]
  · rw [Option.getD_none, hframe, Tile.setP_frame]

theorem pdOk_of_range {w : Tcw} (h1 : 1 ≤ fieldOf w 109 3) (h6 : fieldOf w 109 3 ≤ 6) : pdOk w.toNat = true := by
  rw [pdOk, bitsAt_field, bne_iff_ne.mpr (by omega), bne_iff_ne.mpr (by omega)]
  rfl

theorem signed_toInt {a : Nat} (h : a < 2 ^ 64) : signed a 64 = (BitVec.ofNat 64 a).toInt := by
  rw [BitVec.toInt_eq_toNat_cond, BitVec.toNat_ofNat, signed]
  simp only [Nat.mod_eq_of_lt h]
  split <;> split <;> omega

/-- The model's comparison is the comparison of 64-bit values. -/
theorem compares_eq {a b c : Nat} (ha : a < 2 ^ 64) (hb : b < 2 ^ 64) (hc : c ≤ 5) :
    compares c a b = cmpOf c (BitVec.ofNat 64 a) (BitVec.ofNat 64 b) := by
  have hna : (BitVec.ofNat 64 a).toNat = a := by rw [BitVec.toNat_ofNat, Nat.mod_eq_of_lt ha]
  have hnb : (BitVec.ofNat 64 b).toNat = b := by rw [BitVec.toNat_ofNat, Nat.mod_eq_of_lt hb]
  have heq : (BitVec.ofNat 64 a == BitVec.ofNat 64 b) = (a == b) := by
    rw [Bool.eq_iff_iff, beq_iff_eq, beq_iff_eq, ← BitVec.toNat_inj, hna, hnb]
  interval_cases c
  · exact heq.symm
  · simp only [compares, cmpOf, bne, heq]
    rfl
  · simp [compares, cmpOf, BitVec.ult, hna, hnb]
  · simp only [compares, cmpOf, BitVec.ule, hna, hnb]
    rw [Bool.eq_iff_iff]
    simp [Nat.ble_eq]
  · simp [compares, cmpOf, BitVec.slt, signed_toInt ha, signed_toInt hb]
  · simp [compares, cmpOf, BitVec.sle, signed_toInt ha, signed_toInt hb]

theorem Tile.s_lt (x : Tile) (i : Nat) : x.s i < 2 ^ 64 := by
  unfold Tile.s
  split
  · decide
  · exact BitVec.isLt _

/-- Settles O34: each word's meaning writes one register or one predicate. -/
theorem scalarAndPredicate : Obligations.ScalarAndPredicate := by
  refine ⟨scalarCmd_of_body (fun _ _ _ => rfl) rfl (fun _ _ _ => rfl), scalarCmd_of_body (fun _ _ _ => rfl) rfl (fun _ _ _ => rfl),
    scalarCmd_of_body (fun _ _ _ => rfl) rfl (fun _ _ _ => rfl), scalarCmd_of_body (fun _ _ _ => rfl) rfl (fun _ _ _ => rfl),
    scalarCmd_of_body (fun _ _ _ => rfl) rfl (fun _ _ _ => rfl),
    scalarCmd_of_body (fun _ _ _ => rfl) rfl (fun _ _ _ => Nat.shiftRight_eq_div_pow _ _),
    fun s k w d' hi h1 h6 hcmp hbits => ?setp, fun s k w d' hi h1 h6 hbits => ?plogic⟩
  case setp =>
    refine nexts_setsPred (cmd := { grp := 8, fn := 0, regs := fun w => [bitsAt w 105 4, bitsAt w 101 4]
                                    legal := fun w => pdOk w && Nat.ble (bitsAt w 98 3) 5 && onlyBits w [(111, 34)] })
      (body := setpBody) rfl hi ⟨rfl, rfl, rfl, ?_, rfl, ?_, rfl⟩ rfl h1 h6 ?_
    · simp only [bitsAt_field]
    · dsimp only
      rw [pdOk_of_range h1 h6, bitsAt_field, Nat.ble_eq.mpr hcmp, hbits]
      rfl
    · have hmod : ∀ n, BitVec.ofNat 64 n = BitVec.ofNat 64 (n % 2 ^ 64) := fun n => BitVec.eq_of_toNat_eq (by simp)
      rw [hmod ((d'.tile k.val).s (fieldOf w 101 4) + fieldOf w 34 64), ← compares_eq (Tile.s_lt _ _) (Nat.mod_lt _ (by decide)) hcmp]
      simp only [← bitsAt_field]
      rfl
  case plogic =>
    refine nexts_setsPred (cmd := { grp := 8, fn := 1, regs := fun _ => []
                                    legal := fun w => pdOk w && onlyBits w [(111, 101)] })
      (body := plogicBody) rfl hi ⟨rfl, rfl, rfl, rfl, rfl, ?_, rfl⟩ rfl h1 h6 ?_
    · dsimp only
      rw [pdOk_of_range h1 h6, hbits]
      rfl
    · have hop : fieldOf w 101 2 < 4 := Nat.mod_lt _ (by decide)
      unfold plogicBody
      simp only [bitsAt_field]
      generalize fieldOf w 101 2 = op at hop ⊢
      interval_cases op
      · rfl
      · rfl
      · rw [if_neg (by decide), if_neg (by decide), if_pos rfl]
        rw [← Bool.bne_eq_xor]
        rfl
      · rfl

end Sys2Proof.Machine

/-! ## Loops, segments, DONE and ABORT (R197, R206, R209, R210) -/

namespace Sys2Proof.Machine

open Sys2Proof.Stm

/-! ### Meanings that change one tile -/

/-- A meaning runs to its end and makes tile `t` a given tile, and changes nothing else. -/
def TM.Turns {α : Type} (m : TM α) (d : Dev) (t : Nat) (a : α) (y : Tile) : Prop :=
  ∃ e, TM.Runs m d a e ∧ d.OneTile t y e

section
variable {α β : Type} {d : Dev} {t : Nat} {y z : Tile}

theorem TM.Turns.bind {m : TM α} {f : α → TM β} {a : α} {b : β} (h : TM.Turns m d t a y)
    (h' : ∀ e, d.OneTile t y e → TM.Turns (f a) e t b z) : TM.Turns (m >>= f) d t b z := by
  obtain ⟨e, hrun, he⟩ := h
  obtain ⟨e', hrun', he'⟩ := h' e he
  exact ⟨e', hrun.bind hrun', he.trans he'⟩

theorem TM.turns_pure (a : α) (d : Dev) (t : Nat) : TM.Turns (pure a) d t a (d.tile t) := ⟨d, TM.runs_pure a d, .refl d t⟩

/-- A meaning that leaves the device as it is, before another. -/
theorem TM.turns_bind_of_runs {m : TM α} {f : α → TM β} {a : α} {b : β} (hm : TM.Runs m d a d) (h : TM.Turns (f a) d t b y) :
    TM.Turns (m >>= f) d t b y := by
  obtain ⟨e, hrun, he⟩ := h
  exact ⟨e, hm.bind hrun, he⟩

theorem TM.turns_get_bind {f : Dev → TM β} {b : β} (h : TM.Turns (f d) d t b y) : TM.Turns (get >>= f) d t b y :=
  TM.turns_bind_of_runs (TM.runs_get d) h

theorem TM.turns_need_bind {c : Bool} {err : TileErr} {f : Unit → TM β} {b : β} (hc : c = true)
    (h : TM.Turns (f ()) d t b y) : TM.Turns (TM.need c err >>= f) d t b y :=
  TM.turns_bind_of_runs (TM.runs_need hc err d) h

theorem TM.turns_set {e : Dev} (h : d.OneTile t y e) : TM.Turns (set e : TM PUnit) d t ⟨⟩ y := ⟨e, TM.runs_set d e, h⟩

theorem TM.turns_setTile_pure (d : Dev) (t : Nat) (y : Tile) (a : α) :
    TM.Turns (do set (d.setTile t y); pure a : TM α) d t a y :=
  ⟨_, (TM.runs_set d _).bind (TM.runs_pure a _), Dev.oneTile_setTile d t y⟩

end

/-- A word that changes one tile, by its meaning. -/
theorem nexts_of_turns {c : Instr} {cmd : Cmd} {body : TcwBody} {s : State} {k : TileId} {w : Tcw} {grp fn : Nat}
    {regs : List Nat} {d' : Dev} {next : Option Nat} {y : Tile} {P : State → Prop}
    (hexec : exec c s = tcwStep k w cmd body s) (hi : Issues s.dev k.val w grp fn regs d')
    (hc : cmd.Fits w grp fn regs (d'.tile k.val)) (hgrp : (grp == 9) = false)
    (hturns : TM.Turns (body k.val w.toNat) d' k.val next y)
    (hP : ∀ f, d'.OneTile k.val (y.goesOn (next.getD ((d'.tile k.val).pos + 1))) f → P { s with dev := f }) :
    Nexts c s P := by
  obtain ⟨e, hrun, he⟩ := hturns
  exact nexts_of_runs hexec hi hc hgrp hrun he hP

theorem Dev.OneTile.maxObj {d e : Dev} {t : Nat} {y : Tile} (h : d.OneTile t y e) (i u n v w : Nat) :
    (d.maxObj i u n v w).OneTile t y (e.maxObj i u n v w) := by
  obtain ⟨m, hm⟩ : ∃ m, e = { d with tiles := m } := ⟨_, h.frame⟩
  subst hm
  exact ⟨rfl, h.tile, h.other⟩

/-! ### Loops -/

theorem noPred_of_field {w : Tcw} (h : fieldOf w 114 4 = 0) : noPred w.toNat = true := by
  rw [noPred, bitsAt_field, h]
  rfl

theorem Tile.s_setS_zero (x : Tile) (i : Nat) : (x.setS i 0).s i = 0 := by
  by_cases h : i = 0
  · rw [h]
    rfl
  · exact Tile.s_setS_same x h 0

/-- The tile after LOOP with a count that is not 0. -/
def Tile.looped (x : Tile) (idx n : Nat) : Tile := { x.setS idx 0 with loops := ⟨x.pos + 1, n, 0, idx⟩ :: x.loops }

/-- The tile after ENDLOOP goes back. -/
def Tile.wentBack (x : Tile) (l : LoopLevel) (r : List LoopLevel) : Tile :=
  { x.setS l.idxReg (l.index + 1) with loops := { l with left := l.left - 1, index := l.index + 1 } :: r }

section
variable {d : Dev} {k : Nat} {w : Tcw}

theorem loopBody_turns {n : Nat} (hl : (d.tile k).loops.length < 4)
    (hn : n = (if fieldOf w 108 4 = 0 then fieldOf w 72 32 else (d.tile k).s (fieldOf w 108 4))) :
    TM.Turns (loopBody k w.toNat) d k none
      (if n = 0 then { d.tile k with skip := some 0 } else (d.tile k).looped (fieldOf w 104 4) n) := by
  unfold loopBody
  refine TM.turns_get_bind (TM.turns_need_bind (decide_eq_true hl) ?_)
  dsimp only
  rw [bitsAt_field, bitsAt_field, bitsAt_field, ← hn]
  split
  · exact TM.turns_setTile_pure d k _ none
  · exact TM.turns_setTile_pure d k _ none

theorem TM.runs_freeRegs {regs : List Nat} (h : ∀ o ∈ (d.tile k).out, o.holdsReg regs = false) :
    TM.Runs (TM.freeRegs k regs) d () d := by
  refine (TM.runs_get d).bind (TM.runs_need ?_ _ d)
  rw [Bool.not_eq_true', List.any_eq_false]
  exact fun o ho => by rw [h o ho]; exact Bool.false_ne_true

theorem endloopBody_turns {l : LoopLevel} {r : List LoopLevel} (hl : (d.tile k).loops = l :: r)
    (hout : ∀ o ∈ (d.tile k).out, o.holdsReg [l.idxReg] = false) (n : Nat) :
    TM.Turns (endloopBody k n) d k (if l.left ≤ 1 then none else some l.start)
      (if l.left ≤ 1 then { d.tile k with loops := r } else (d.tile k).wentBack l r) := by
  unfold endloopBody
  refine TM.turns_get_bind ?_
  dsimp only
  rw [hl]
  dsimp only
  split
  · exact TM.turns_setTile_pure d k _ none
  · refine TM.turns_bind_of_runs (TM.runs_freeRegs hout) ?_
    exact TM.turns_setTile_pure d k _ (some l.start)

theorem brkBody_turns {l : LoopLevel} {r : List LoopLevel} (hl : (d.tile k).loops = l :: r) (n : Nat) :
    TM.Turns (brkBody k n) d k none { d.tile k with loops := r, skip := some 0 } := by
  unfold brkBody
  refine TM.turns_get_bind ?_
  dsimp only
  rw [hl]
  exact TM.turns_setTile_pure d k _ none

end

/-! ### Reading the stores and the handle table without marks -/

section
variable {d : Dev} {k : Nat}

theorem Dev.countCe_zero (d : Dev) (t kind : Nat) : d.countCe t kind 0 = d := if_pos rfl

theorem Tile.setMarks_self (x : Tile) (kind : Nat) : x.setMarks kind (x.marks kind) = x := by
  unfold Tile.setMarks Tile.marks
  split <;> rfl

/-- A read of a store without marks gives its bytes and changes nothing. -/
theorem Dev.spmRead_of_unmarked {kind : Nat} (h : (d.tile k).marks kind = []) (off len : Nat) :
    d.spmRead k kind off len = (cellsRead ((d.tile k).cells kind) off len, none, d.setTile k (d.tile k)) := by
  have hself := Tile.setMarks_self (d.tile k) kind
  rw [h] at hself
  unfold Dev.spmRead
  dsimp only
  rw [h]
  refine congrArg (fun e => (_, none, e)) (Eq.trans (Dev.countCe_zero _ _ _) ?_)
  exact congrArg (d.setTile k) hself

theorem TM.read_turns {unit : Nat} {sp : Span} (h : (d.tile k).marks sp.kind = []) :
    TM.Turns (TM.read k unit sp) d k (cellsRead ((d.tile k).cells sp.kind) sp.start sp.len) (d.tile k) := by
  unfold TM.read
  refine TM.turns_get_bind ?_
  dsimp only
  rw [Dev.spmRead_of_unmarked h]
  exact TM.turns_setTile_pure d k _ _

theorem TM.handle_turns {spec : Nat} (hm : (d.tile k).hErr = []) (ho : (d.tile k).loadingHandle (spec / 16 % 64) = false) :
    TM.Turns (TM.handle k spec) d k () (d.tile k) := by
  have hself : ({ d.tile k with hErr := [] } : Tile) = d.tile k := by rw [← hm]
  unfold TM.handle
  refine TM.turns_get_bind (TM.turns_need_bind (by rw [ho]; rfl) ?_)
  dsimp only
  rw [hm]
  dsimp only [List.filter_nil, List.length_nil, List.head?_nil]
  rw [hself, Dev.countCe_zero]
  exact TM.turns_set (Dev.oneTile_setTile d k _)

theorem TM.operand_turns {spec len : Nat} {kinds : List Nat} {write : Bool} {sp : Span} (hm : (d.tile k).hErr = [])
    (ho : (d.tile k).loadingHandle (spec / 16 % 64) = false) (hs : (d.tile k).operand spec len kinds write = some sp) :
    TM.Turns (TM.operand k spec len kinds write) d k sp (d.tile k) := by
  refine TM.Turns.bind (TM.handle_turns hm ho) (fun e he => TM.turns_get_bind ?_)
  rw [he.tile, hs]
  exact ⟨e, TM.runs_pure sp e, he.tile ▸ Dev.OneTile.refl e k⟩

theorem TM.copyHandles_turns (hm : (d.tile k).hErr = []) : TM.Turns (TM.copyHandles k) d k () (d.tile k) := by
  have hone : d.OneTile k (d.tile k) (d.setTile k { d.tile k with hErr := [] }) := by
    rw [show ({ d.tile k with hErr := [] } : Tile) = d.tile k by rw [← hm]]
    exact Dev.oneTile_setTile d k _
  unfold TM.copyHandles
  refine TM.turns_get_bind ?_
  dsimp only
  rw [hm]
  dsimp only [List.filter_nil, List.length_nil, List.head?_nil]
  rw [Dev.countCe_zero]
  exact TM.turns_set hone

theorem Tile.loadingHandle_of_none {x : Tile} (h : x.out = []) (n : Nat) : x.loadingHandle n = false := by
  unfold Tile.loadingHandle
  rw [h]
  rfl

end

/-! ### SEG -/

/-- The tile after SEG has kept its record. -/
def Tile.kept (x : Tile) (keep start : Nat) (b : List Byte) (n : Nat) : Tile :=
  let y : Tile := { x with seg := 0 }
  (y.setP7 false).ckptCopy (y.record (y.pos + 1) keep start b) (ckptWords n)

/-- What SEG keeps of its KEEP operand. -/
def SegKeeps (y : Tile) (w : Tcw) (sp : Span) (b : List Byte) : Prop :=
  (fieldOf w 93 9 = 0 ∧ sp = ⟨2, 0, 0⟩ ∧ b = []) ∨
    (fieldOf w 93 9 ≠ 0 ∧ y.asErr = [] ∧ y.operand (fieldOf w 102 10) (64 * fieldOf w 93 9) [2] false = some sp ∧
      b = cellsRead y.as sp.start sp.len)

theorem Tile.operand_kind {x : Tile} {spec len kind : Nat} {write : Bool} {sp : Span}
    (h : x.operand spec len [kind] write = some sp) : sp.kind = kind := by
  unfold Tile.operand Tile.operandAt at h
  dsimp only at h
  split at h
  case isTrue hc =>
    cases h
    simp only [Bool.and_eq_true, List.contains_iff_mem, List.mem_singleton] at hc
    exact hc.1.1.1
  case isFalse => cases h

/-- What SEG does once its KEEP bytes are read. -/
def segRest (k keep n : Nat) (sp : Span) (b : List Byte) : TM (Option Nat) := do
  TM.copyHandles k
  let d ← get
  TM.need (decide ((d.tile k).seg + (16 + ceilDiv n 256) < 16384)) (.fault 0x08 0)
  set ((d.boundary k (d.tileTenant k) (16 + ceilDiv n 256)).updTile k (fun x =>
    (x.setP7 false).ckptCopy (x.record (x.pos + 1) keep sp.start b) (ckptWords n)))
  pure none

section
variable {d : Dev} {k : Nat} {w : Tcw} {sp : Span} {b : List Byte} (hout : (d.tile k).out = [])
  (herr : (d.tile k).hErr = [])

include herr in
theorem segRest_runs {d1 : Dev} {n keep : Nat} (hd1 : d.OneTile k (d.tile k) d1)
    (hseg : (d.tile k).seg + (16 + ceilDiv n 256) < 16384) : ∃ e, TM.Runs (segRest k keep n sp b) d1 none e ∧
      (d.maxObj 0x5002 0 (d.tileTenant k) ((d.tile k).seg + (16 + ceilDiv n 256)) 16).OneTile k ((d.tile k).kept keep sp.start b n) e := by
  obtain ⟨d2, hrun2, hd2⟩ := TM.copyHandles_turns (d := d1) (k := k) (by rw [hd1.tile, herr])
  have hd : d.OneTile k (d.tile k) d2 := hd1.tile ▸ hd1.trans hd2
  have hten : d2.tileTenant k = d.tileTenant k := by rw [Dev.tileTenant, Dev.tileTenant, hd.tileJob rfl]
  refine ⟨(d2.boundary k (d2.tileTenant k) (16 + ceilDiv n 256)).updTile k (fun x =>
    (x.setP7 false).ckptCopy (x.record (x.pos + 1) keep sp.start b) (ckptWords n)), ?_, ?_⟩
  · refine hrun2.bind ((TM.runs_get d2).bind ((TM.runs_need (decide_eq_true ?_) _ d2).bind ?_))
    · rw [hd.tile]
      exact hseg
    · exact (TM.runs_set _ _).bind (TM.runs_pure none _)
  · rw [hten, Dev.boundary, hd.tile]
    have hmax := (hd.maxObj 0x5002 0 (d.tileTenant k) ((d.tile k).seg + (16 + ceilDiv n 256)) 16).updTile (fun x => { x with seg := 0 })
    exact hmax.updTile (fun x => (x.setP7 false).ckptCopy (x.record (x.pos + 1) keep sp.start b) (ckptWords n))

include hout herr in
theorem segBody_runs (hkeep : SegKeeps (d.tile k) w sp b)
    (hseg : (d.tile k).seg + (16 + ceilDiv (64 * fieldOf w 93 9) 256) < 16384) :
    ∃ e, TM.Runs (segBody k w.toNat) d none e ∧
    (d.maxObj 0x5002 0 (d.tileTenant k) ((d.tile k).seg + (16 + ceilDiv (64 * fieldOf w 93 9) 256)) 16).OneTile k
      ((d.tile k).kept (fieldOf w 102 10) sp.start b (64 * fieldOf w 93 9)) e := by
  unfold segBody
  simp only [bitsAt_field]
  rcases hkeep with ⟨h0, rfl, rfl⟩ | ⟨h0, hmarks, hop, rfl⟩
  · obtain ⟨e, hrun, he⟩ := segRest_runs (keep := fieldOf w 102 10) (sp := ⟨2, 0, 0⟩) (b := []) herr (.refl d k) hseg
    refine ⟨e, (TM.runs_get d).bind ((TM.runs_need (by rw [hout]; rfl) _ d).bind ?_), he⟩
    rw [if_pos (by omega)]
    exact (TM.runs_pure _ d).bind hrun
  · have hkind := Tile.operand_kind hop
    obtain ⟨d1, hrun1, hd1⟩ := TM.operand_turns herr (Tile.loadingHandle_of_none hout _) hop
    have hread := TM.read_turns (d := d1) (k := k) (unit := 8) (sp := sp) (by rw [hd1.tile, hkind]; exact hmarks)
    rw [hd1.tile, hkind] at hread
    obtain ⟨d2, hrun2, hd2⟩ := hread
    obtain ⟨e, hrun, he⟩ := segRest_runs (keep := fieldOf w 102 10) (sp := sp) (b := cellsRead (d.tile k).as sp.start sp.len)
      herr (hd1.trans hd2) hseg
    refine ⟨e, (TM.runs_get d).bind ((TM.runs_need (by rw [hout]; rfl) _ d).bind ?_), he⟩
    rw [if_neg (by omega)]
    exact hrun1.bind (hrun2.bind ((TM.runs_pure _ d2).bind hrun))

end

/-- The tile at the boundary that SEG makes. -/
def Tile.segAt (y : Tile) (pos : Nat) : Tile := { y.pass 0 with pos := pos, atBoundary := true }

theorem Tile.kept_seg (x : Tile) (keep start : Nat) (b : List Byte) (n pos : Nat) :
    ((x.kept keep start b n).segAt pos).seg = 0 := by
  unfold Tile.segAt Tile.pass
  split <;> rfl

theorem Tile.kept_p7 (x : Tile) (keep start : Nat) (b : List Byte) (n pos : Nat) :
    ((x.kept keep start b n).segAt pos).p 7 = false := by
  have hframe : ((x.kept keep start b n).segAt pos).preds = BitVec.ofNat 8 (putBit x.preds.toNat 7 false) := by
    unfold Tile.segAt
    rw [Tile.pass_frame]
    rfl
  rw [Tile.p, hframe, BitVec.toNat_ofNat, Nat.mod_eq_of_lt (putBit_lt x.preds.isLt (by decide) false), testBit_putBit]
  rfl

theorem Tile.segAt_frame (y : Tile) (pos : Nat) :
    y.segAt pos = { y with pos := pos, seg := (y.segAt pos).seg, atBoundary := true } := by
  unfold Tile.segAt
  rw [y.pass_frame 0]

theorem Tile.kept_ckpt (x : Tile) (keep start : Nat) (b : List Byte) (n pos : Nat) :
    ((x.kept keep start b n).segAt pos).ckpt = some (({ x with seg := 0 } : Tile).record (x.pos + 1) keep start b) ∧
      ((x.kept keep start b n).segAt pos).copied = true := by
  rw [Tile.segAt_frame]
  exact ⟨rfl, rfl⟩

/-- SEG completes: of the device with its longest segment, the tile alone changes. -/
theorem exec_seg_of_keeps {s : State} {k : TileId} {w : Tcw} {d' : Dev} {sp : Span} {b : List Byte}
    (hi : Issues s.dev k.val w 9 0 [fieldOf w 102 4] d') (hp : fieldOf w 114 4 = 0)
    (hb : onlyBits w.toNat [(111, 93)] = true) (h256 : fieldOf w 93 9 ≤ 256) (hout : (d'.tile k.val).out = [])
    (herr : (d'.tile k.val).hErr = []) (hkeep : SegKeeps (d'.tile k.val) w sp b)
    (hseg : (d'.tile k.val).seg + (16 + ceilDiv (64 * fieldOf w 93 9) 256) < 16384) :
    ∃ e, exec (.seg k w) s = .next { s with dev := e } ∧
      (d'.maxObj 0x5002 0 (d'.tileTenant k.val) ((d'.tile k.val).seg + (16 + ceilDiv (64 * fieldOf w 93 9) 256)) 16).OneTile k.val
        (((d'.tile k.val).kept (fieldOf w 102 10) sp.start b (64 * fieldOf w 93 9)).segAt ((d'.tile k.val).pos + 1)) e := by
  obtain ⟨e, hrun, he⟩ := segBody_runs hout herr hkeep hseg
  have hregs : [offReg (bitsAt w.toNat 102 10)] = [fieldOf w 102 4] := by
    rw [bitsAt_field, offReg, fieldOf, fieldOf]
    exact congrArg (fun n => [n]) (Nat.mod_mod_of_dvd _ (by decide))
  have hexec := exec_of_runs (c := .seg k w) (cmd := { grp := 9, fn := 0, regs := fun w => [offReg (bitsAt w 102 10)]
                                                       legal := fun w => noPred w && onlyBits w [(111, 93)] &&
                                                         Nat.ble (bitsAt w 93 9) 256 })
    (body := segBody) rfl hi ⟨rfl, rfl, rfl, hregs, rfl, by
      dsimp only
      rw [noPred_of_field hp, hb, bitsAt_field, Nat.ble_eq.mpr h256]
      rfl, rfl⟩ hrun
  exact ⟨_, hexec, he.updTile (fun y => y.segAt ((d'.tile k.val).pos + 1))⟩

/-! ### DONE -/

section
variable {d : Dev} {k j : Nat} {x : Job}

theorem Dev.cancelCheck_of_live (hx : KMap.find d.jobs j = some x) (hc : x.cancel = false) : d.cancelCheck j = d := by
  unfold Dev.cancelCheck
  rw [hx]
  dsimp only
  rw [hc]
  rfl

theorem Dev.cancelCheck_of_stopped (hx : KMap.find d.jobs j = some x) (hc : x.cancel = true) (hst : x.st = .running)
    (ht : ∀ i ∈ x.tiles, (d.tile i).active = false) : d.cancelCheck j = d.endJob j 5 0 := by
  have hall : (x.tiles.all fun t => !(d.tile t).active) = true := List.all_eq_true.mpr (fun i hi => by rw [ht i hi]; rfl)
  unfold Dev.cancelCheck
  rw [hx]
  dsimp only
  rw [hc, hst, hall]
  rfl

theorem Dev.releaseDone_of_going (hx : KMap.find d.jobs j = some x) (hs : x.stopAtBoundary = false) : d.releaseDone j = d := by
  unfold Dev.releaseDone
  rw [hx]
  dsimp only
  rw [hs]
  rfl

theorem Dev.releaseDone_of_none (hx : KMap.find d.jobs j = some x) (ht : x.tiles = []) :
    (d.releaseDone j).mem = d.mem ∧ KMap.find (d.releaseDone j).jobs j = some x ∧
      ∀ i, i ≠ j → KMap.find (d.releaseDone j).jobs i = KMap.find d.jobs i := by
  have hself : ({ x with tiles := [] } : Job) = x := by rw [← ht]
  unfold Dev.releaseDone
  rw [hx]
  dsimp only
  split
  · rw [hself, ht]
    exact ⟨rfl, Dev.find_setJob_same _ _ _, fun i hi => Dev.find_setJob_other _ _ hi⟩
  · exact ⟨rfl, hx, fun _ _ => rfl⟩

theorem Dev.requeueCheck_of_going (hx : KMap.find d.jobs j = some x) (hst : x.st = .running) (hs : x.stopAtBoundary = false) :
    d.requeueCheck j = d := by
  unfold Dev.requeueCheck
  rw [hx]
  dsimp only
  rw [hst, hs]
  dsimp only
  rw [Bool.and_false]
  rfl

theorem Dev.requeueCheck_of_ended {n : Nat} (hx : KMap.find d.jobs j = some x) (hst : x.st = .ended n) :
    d.requeueCheck j = d := by
  unfold Dev.requeueCheck
  rw [hx]
  dsimp only
  rw [hst]

/-- The device on which the end of a rank is decided (R197). -/
def Dev.rankStopped (d : Dev) (k j : Nat) (x : Job) : Dev :=
  ((d.idleTile k).updTile k (fun y => { y with active := false })).setJob j
    { x with doneRanks := x.doneRanks ++ [(d.tile k).rank] }

theorem Dev.rankDone_eq (hj : d.tileJob k = some (j, x)) : d.rankDone k =
    if x.doneRanks.length + 1 = x.nTiles then (d.rankStopped k j x).endJob j 0 0
    else (((d.rankStopped k j x).cancelCheck j).releaseDone j).requeueCheck j := by
  have hrank : (((d.idleTile k).updTile k (fun y => { y with active := false })).tile k).rank = (d.tile k).rank := by
    rw [Dev.tile_updTile_same, Dev.idleTile, Dev.tile_updTile_same]
  unfold Dev.rankDone
  rw [hj]
  dsimp only
  rw [hrank, List.length_append, List.length_singleton]
  rfl

theorem Dev.rankStopped_job (d : Dev) (k j : Nat) (x : Job) : KMap.find (d.rankStopped k j x).jobs j =
    some { x with doneRanks := x.doneRanks ++ [(d.tile k).rank] } := Dev.find_setJob_same _ _ _

theorem Dev.rankStopped_other (d : Dev) (k : Nat) (x : Job) {i : Nat} (hi : i ≠ j) :
    KMap.find (d.rankStopped k j x).jobs i = KMap.find d.jobs i := Dev.find_setJob_other _ _ hi

theorem Dev.tile_setJob (d : Dev) (j : Nat) (x : Job) (i : Nat) : (d.setJob j x).tile i = d.tile i := rfl

theorem Dev.rankStopped_tile (d : Dev) (k j : Nat) (x : Job) (i : Nat) :
    ((d.rankStopped k j x).tile i).active = if i = k then false else (d.tile i).active := by
  unfold Dev.rankStopped
  rw [Dev.tile_setJob]
  split
  case isTrue h => rw [h, Dev.tile_updTile_same]
  case isFalse h => rw [Dev.tile_updTile_other _ _ h, Dev.idleTile, Dev.tile_updTile_other _ _ h]

end

/-- What the end of a rank leaves: the jobs of others and memory; its own job by the cases of R197 and R153. -/
structure Dev.RankEnds (d : Dev) (k j : Nat) (x : Job) (e : Dev) : Prop where
  mem : e.mem = d.mem
  others : ∀ i, i ≠ j → KMap.find e.jobs i = KMap.find d.jobs i
  last : x.doneRanks.length + 1 = x.nTiles → ∃ y, KMap.find e.jobs j = some y ∧ y.st = .ended 0 ∧ y.tiles = []
  goes : x.doneRanks.length + 1 ≠ x.nTiles → x.cancel = false → x.stopAtBoundary = false → (e.tile k).active = false ∧
    KMap.find e.jobs j = some { x with doneRanks := x.doneRanks ++ [(d.tile k).rank] }
  cancelled : x.doneRanks.length + 1 ≠ x.nTiles → x.cancel = true → (∀ i ∈ x.tiles, i ≠ k → (d.tile i).active = false) →
    ∃ y, KMap.find e.jobs j = some y ∧ y.st = .ended 5

theorem Dev.endJob_keeps {d : Dev} {j : Nat} {x : Job} (hx : KMap.find d.jobs j = some x) (hst : x.st = .running)
    (status key : Nat) : (d.endJob j status key).mem = d.mem ∧
      (∀ i, i ≠ j → KMap.find (d.endJob j status key).jobs i = KMap.find d.jobs i) ∧
      KMap.find (d.endJob j status key).jobs j = some (x.endedAs status d.pwr.tick key) := by
  have hlive : ∀ n, x.st ≠ .ended n := fun n => by rw [hst]; exact JobState.noConfusion
  have hframe := Dev.endJob_frame hx hlive status key
  have hjobs := Dev.endJob_jobs hx hlive status key
  refine ⟨by rw [hframe], fun i hi => ?_, ?_⟩ <;> rw [hjobs]
  · exact KMap.find_put_other _ _ _ _ hi
  · exact KMap.find_put_same _ _ _

/-- A job that is stopped at its boundaries or cancelled keeps memory and the other jobs through R197's last checks. -/
theorem Dev.stopChecks_keep (d : Dev) (j : Nat) :
    (((d.cancelCheck j).releaseDone j).requeueCheck j).mem = d.mem ∧
      ∀ i, i ≠ j → KMap.find (((d.cancelCheck j).releaseDone j).requeueCheck j).jobs i = KMap.find d.jobs i := by
  have hcancel : (d.cancelCheck j).mem = d.mem ∧ ∀ i, i ≠ j → KMap.find (d.cancelCheck j).jobs i = KMap.find d.jobs i := by
    unfold Dev.cancelCheck
    split
    case h_1 x hx =>
      split
      case isTrue hc =>
        have hst : x.st = .running := by
          simp only [Bool.and_eq_true, beq_iff_eq] at hc
          exact hc.1.2
        obtain ⟨hmem, hothers, -⟩ := Dev.endJob_keeps hx hst 5 0
        exact ⟨hmem, hothers⟩
      case isFalse => exact ⟨rfl, fun _ _ => rfl⟩
    case h_2 => exact ⟨rfl, fun _ _ => rfl⟩
  have hrelease : ∀ d : Dev, (d.releaseDone j).mem = d.mem ∧ ∀ i, i ≠ j → KMap.find (d.releaseDone j).jobs i = KMap.find d.jobs i := by
    intro d
    unfold Dev.releaseDone
    split
    case h_1 x hx =>
      split
      · have hfreed := Dev.releaseTiles_freed d x.tiles
        refine ⟨by rw [hfreed]; rfl, fun i hi => (Dev.find_setJob_other _ _ hi).trans ?_⟩
        rw [hfreed]
      · exact ⟨rfl, fun _ _ => rfl⟩
    case h_2 => exact ⟨rfl, fun _ _ => rfl⟩
  have hrequeue : ∀ d : Dev, (d.requeueCheck j).mem = d.mem ∧ ∀ i, i ≠ j → KMap.find (d.requeueCheck j).jobs i = KMap.find d.jobs i := by
    intro d
    unfold Dev.requeueCheck
    split
    · dsimp only
      split
      · split
        · exact ⟨rfl, fun i hi => Dev.find_setJob_other _ _ hi⟩
        · exact ⟨rfl, fun _ _ => rfl⟩
      · split
        · exact ⟨rfl, fun i hi => Dev.find_setJob_other _ _ hi⟩
        · exact ⟨rfl, fun _ _ => rfl⟩
      · exact ⟨rfl, fun _ _ => rfl⟩
    · exact ⟨rfl, fun _ _ => rfl⟩
  obtain ⟨hm1, ho1⟩ := hcancel
  obtain ⟨hm2, ho2⟩ := hrelease (d.cancelCheck j)
  obtain ⟨hm3, ho3⟩ := hrequeue ((d.cancelCheck j).releaseDone j)
  exact ⟨hm3.trans (hm2.trans hm1), fun i hi => (ho3 i hi).trans ((ho2 i hi).trans (ho1 i hi))⟩

theorem Dev.rankDone_ends {d : Dev} {k j : Nat} {x : Job} (hj : d.tileJob k = some (j, x)) :
    d.RankEnds k j x (d.rankDone k) := by
  obtain ⟨-, hx, hst⟩ := Dev.tileJob_eq_some.mp hj
  have hfind := d.rankStopped_job k j x
  have hothers : ∀ i, i ≠ j → KMap.find (d.rankStopped k j x).jobs i = KMap.find d.jobs i :=
    fun i hi => d.rankStopped_other k x hi
  have htile := d.rankStopped_tile k j x
  have hmem : (d.rankStopped k j x).mem = d.mem := rfl
  rw [Dev.rankDone_eq hj]
  generalize d.rankStopped k j x = e at hfind hothers htile hmem
  split
  case isTrue hlast =>
    obtain ⟨hm, ho, hmine⟩ := Dev.endJob_keeps hfind hst 0 0
    exact ⟨hm.trans hmem, fun i hi => (ho i hi).trans (hothers i hi), fun _ => ⟨_, hmine, rfl, rfl⟩,
      fun h => absurd hlast h, fun h => absurd hlast h⟩
  case isFalse hmore =>
    obtain ⟨hm, ho⟩ := Dev.stopChecks_keep e j
    refine ⟨hm.trans hmem, fun i hi => (ho i hi).trans (hothers i hi), fun h => absurd h hmore, fun _ hc hs => ?_,
      fun _ hc ht => ?_⟩
    · rw [Dev.cancelCheck_of_live hfind hc, Dev.releaseDone_of_going hfind hs, Dev.requeueCheck_of_going hfind hst hs]
      exact ⟨by rw [htile, if_pos rfl], hfind⟩
    · have hstopped : ∀ i ∈ x.tiles, (e.tile i).active = false := fun i hi => by
        rw [htile]
        split
        · rfl
        · rename_i hik
          exact ht i hi hik
      obtain ⟨-, -, hmine⟩ := Dev.endJob_keeps hfind hst 5 0
      rw [Dev.cancelCheck_of_stopped hfind hc hst hstopped]
      obtain ⟨-, hrel, -⟩ := Dev.releaseDone_of_none hmine rfl
      rw [Dev.requeueCheck_of_ended hrel rfl]
      exact ⟨_, hrel, rfl⟩

/-- A rank's earlier words are complete: DONE ends it. -/
theorem doneBody_runs {d : Dev} {k : Nat} (hout : (d.tile k).out = []) (n : Nat) : TM.Runs (doneBody k n) d (some (d.tile k).pos)
    ((d.maxObj 0x5002 0 (d.tileTenant k) (d.tile k).seg 16).rankDone k) :=
  (TM.runs_get d).bind ((TM.runs_need (by rw [hout]; rfl) _ d).bind ((TM.runs_set _ _).bind (TM.runs_pure _ _)))

/-! ### ABORT -/

theorem Dev.abort_ends {d : Dev} {k j : Nat} {x : Job} (hj : d.tileJob k = some (j, x)) (ht : x.tenant < 64) (detail : Nat) :
    (∃ y, KMap.find (d.rankFault k 0x0D detail).jobs j = some y ∧ y.st = .ended 6 ∧ y.tiles = []) ∧
      (d.rankFault k 0x0D detail).obj 0x5003 5 x.tenant = Nat.min (d.obj 0x5003 5 x.tenant + 1) (2 ^ 32 - 1) ∧
      (d.rankFault k 0x0D detail).obj 0xA010 0x0D x.tenant = Nat.min (d.obj 0xA010 0x0D x.tenant + 1) (2 ^ 32 - 1) := by
  obtain ⟨-, hx, hst⟩ := Dev.tileJob_eq_some.mp hj
  obtain ⟨r, hcode, hten, hr⟩ : ∃ r : Rec, r.code = 0x0D ∧ r.tenant = x.tenant ∧
      d.rankFault k 0x0D detail = ((d.bump 0x5003 5 x.tenant 32).report r).endJob j 6 (faultKey (some (d.tile k).rank) 0x0D) := by
    refine ⟨{ code := 0x0D, tenant := x.tenant, source := k, detail := detail, job := some j }, rfl, rfl, ?_⟩
    unfold Dev.rankFault
    rw [hj]
    rfl
  obtain ⟨e, he⟩ : ∃ e, e = (d.bump 0x5003 5 x.tenant 32).report r := ⟨_, rfl⟩
  have hfind : KMap.find e.jobs j = some x := by
    rw [he, (Dev.report_rep _ r).jobs]
    exact hx
  have hlive : ∀ n, x.st ≠ .ended n := fun n => by rw [hst]; exact JobState.noConfusion
  have hobj : ∀ i u n, (e.endJob j 6 (faultKey (some (d.tile k).rank) 0x0D)).obj i u n = e.obj i u n := fun i u n => by
    rw [Dev.endJob_frame hfind hlive]
    rfl
  obtain ⟨-, -, hmine⟩ := Dev.endJob_keeps hfind hst 6 (faultKey (some (d.tile k).rank) 0x0D)
  rw [hr, ← he, hobj, hobj]
  refine ⟨⟨_, hmine, rfl, rfl⟩, ?_, ?_⟩
  · rw [he, Dev.obj_bump_report]
    rw [hcode, hten]
    simp only [reportKeys, errKeys, lookupKeys, ownKeys, List.mem_append, List.mem_cons, List.not_mem_nil, or_false, okey]
    omega
  · have hcount := Dev.report_counts_er (d := d.bump 0x5003 5 x.tenant 32) (r := r)
      (by rw [hcode]; exact (by decide : pathEr 0x0D = true)) (.inl (by rw [hcode]; exact (by decide : pathEr0 0x0D = false)))
    rw [hcode, hten, Dev.obj_bump_other _ (show okey 0xA010 0x0D x.tenant ≠ okey 0x5003 5 x.tenant by simp only [okey]; omega)]
      at hcount
    rw [he]
    refine hcount ?_
    simp only [errKeys, lookupKeys, ownKeys, List.mem_append, List.mem_cons, List.not_mem_nil, or_false, okey]
    omega

/-! ### The obligation -/

/-- Settles O35: each word's meaning, run at its position. -/
theorem loopsAndSegments : Obligations.LoopsAndSegments := by
  refine ⟨fun s k w d' n hi hp hb hl hn => ?loop, fun s k w d' l r hi hp hb hl hout => ?endloop,
    fun s k w d' l r hi hb hl => ?brk, fun s k w d' j x hi hp hb h0 hout herr hseg hj => ?seg,
    fun s k w d' e hi hp hb h1 h256 hout herr hmarks hop hseg => ?segKeep, fun s k w d' j x hi hb hout hj => ?done,
    fun s k w d' j x hi hb hj ht => ?abort⟩
  case loop =>
    refine nexts_of_turns (cmd := { grp := 7, fn := 0, regs := fun w => [bitsAt w 108 4, bitsAt w 104 4]
                                    legal := fun w => noPred w && onlyBits w [(111, 108), (107, 104), (103, 72)] })
      rfl hi ⟨rfl, rfl, rfl, by simp only [bitsAt_field], rfl, by dsimp only; rw [noPred_of_field hp, hb]; rfl, rfl⟩ rfl
      (loopBody_turns hl hn) (fun e he => ⟨fun h0 => ?_, fun h0 => ?_⟩)
    · rw [if_pos h0] at he
      exact goes_of_oneTile he
    · rw [if_neg h0, Option.getD_none] at he
      refine ⟨he.onlyTileOf s, ?_, ?_, ?_, fun i hi => ?_⟩ <;> dsimp only <;> rw [he.tile]
      · rfl
      · rw [Tile.goesOn_frame]
        rfl
      · rw [Tile.goesOn_s]
        exact Tile.s_setS_zero _ _
      · rw [Tile.goesOn_s]
        exact Tile.s_setS_other _ hi 0
  case endloop =>
    refine nexts_of_turns (cmd := { grp := 7, fn := 1, regs := fun _ => [], legal := fun w => noPred w && onlyBits w [] })
      rfl hi ⟨rfl, rfl, rfl, rfl, rfl, by dsimp only; rw [noPred_of_field hp, hb]; rfl, rfl⟩ rfl
      (endloopBody_turns hl hout w.toNat) (fun e he => ⟨fun h0 => ?_, fun h0 => ?_⟩)
    · rw [if_pos h0, if_pos h0] at he
      exact goes_of_oneTile he
    · rw [if_neg (by omega), if_neg (by omega), Option.getD_some] at he
      refine ⟨he.onlyTileOf s, ?_, ?_, fun hidx => ?_, fun i hi => ?_⟩ <;> dsimp only <;> rw [he.tile]
      · rfl
      · rw [Tile.goesOn_frame]
        rfl
      · rw [Tile.goesOn_s]
        exact Tile.s_setS_same _ hidx _
      · rw [Tile.goesOn_s]
        exact Tile.s_setS_other _ hi _
  case brk =>
    exact nexts_of_turns (cmd := { grp := 7, fn := 2, regs := fun _ => [], legal := fun w => onlyBits w [] })
      rfl hi ⟨rfl, rfl, rfl, rfl, rfl, hb, rfl⟩ rfl (brkBody_turns hl w.toNat) (fun e he => goes_of_oneTile he)
  case seg =>
    have hkeep : SegKeeps (d'.tile k.val) w ⟨2, 0, 0⟩ [] := .inl ⟨h0, rfl, rfl⟩
    have hzero : 16 + ceilDiv (64 * fieldOf w 93 9) 256 = 16 := by rw [h0]; rfl
    have hmax : Nat.min ((d'.tile k.val).seg + 16) (2 ^ 16 - 1) = (d'.tile k.val).seg + 16 := Nat.min_eq_left (by omega)
    have hten : d'.tileTenant k.val = x.tenant := by rw [Dev.tileTenant, hj]; rfl
    obtain ⟨e, hexec, hone⟩ := exec_seg_of_keeps hi hp hb (by omega) hout herr hkeep (by rw [hzero]; exact hseg)
    rw [hzero, hten] at hone
    obtain ⟨m, hm⟩ : ∃ m, e = { d'.maxObj 0x5002 0 x.tenant ((d'.tile k.val).seg + 16) 16 with tiles := m } := ⟨_, hone.frame⟩
    obtain ⟨hckpt, hcopied⟩ := Tile.kept_ckpt (d'.tile k.val) (fieldOf w 102 10) 0 [] (64 * fieldOf w 93 9)
      ((d'.tile k.val).pos + 1)
    refine ⟨_, hexec, ?_, ?_, ?_, ?_, ?_, ?_, ?_, ?_, fun i hik => hone.other i.val (fun hv => hik (Fin.ext hv))⟩
    case refine_7 =>
      rw [← hmax]
      dsimp only
      rw [hm]
      exact Dev.obj_setObj_same d' 0x5002 0 x.tenant _
    case refine_8 => rw [hm]; rfl
    all_goals dsimp only; rw [hone.tile]
    · rfl
    · rfl
    · exact Tile.kept_seg _ _ _ _ _ _
    · exact Tile.kept_p7 _ _ _ _ _ _
    · exact hcopied
    · exact ⟨_, hckpt, rfl, rfl, rfl, rfl, rfl⟩
  case segKeep =>
    have hkeep : SegKeeps (d'.tile k.val) w e (cellsRead (d'.tile k.val).as e.start e.len) :=
      .inr ⟨by omega, hmarks, hop, rfl⟩
    have hceil : ceilDiv (64 * fieldOf w 93 9) 256 = (64 * fieldOf w 93 9 + 255) / 256 := rfl
    obtain ⟨f, hexec, hone⟩ := exec_seg_of_keeps hi hp hb h256 hout herr hkeep (by rw [hceil]; omega)
    refine ⟨_, hexec, ?_, ?_, ?_⟩ <;> dsimp only <;> rw [hone.tile]
    · exact ⟨_, (Tile.kept_ckpt _ _ _ _ _ _).1, rfl, rfl, rfl⟩
    · rfl
    · exact Tile.kept_seg _ _ _ _ _ _
  case done =>
    have hexec := exec_of_runs (c := .done k w) (cmd := { grp := 0xF, fn := 0, regs := fun _ => [], legal := fun w => onlyBits w [] })
      (body := doneBody) rfl hi ⟨rfl, rfl, rfl, rfl, rfl, hb, rfl⟩ (doneBody_runs hout w.toNat)
    have h := Dev.rankDone_ends (d := d'.maxObj 0x5002 0 (d'.tileTenant k.val) (d'.tile k.val).seg 16) hj
    generalize Dev.rankDone _ k.val = e at h hexec
    refine ⟨_, hexec, h.last, fun h1 h2 h3 => ⟨?_, (h.goes h1 h2 h3).2⟩, h.cancelled, h.others, h.mem, onlyDev_withDev _ _⟩
    dsimp only
    rw [Dev.tile_updTile_same, Tile.pass_frame]
    exact (h.goes h1 h2 h3).1
  case abort =>
    have hexec := exec_of_stops (c := .abort k w) (cmd := { grp := 0xF, fn := 1, regs := fun _ => []
                                                            legal := fun w => onlyBits w [(111, 96)] })
      (body := fun _ w => TM.fault 0x0D (bitsAt w 96 16)) (e := d') rfl hi ⟨rfl, rfl, rfl, rfl, rfl, hb, rfl⟩ rfl
    have herr : d'.tileErr k.val (d'.tile k.val).pos (.fault 0x0D (bitsAt w.toNat 96 16)) =
        d'.rankFault k.val 0x0D (x.tcwVa (d'.tile k.val).pos + bitsAt w.toNat 96 16 * 2 ^ 64) := by
      rw [Dev.tileErr, hj]
    rw [herr] at hexec
    obtain ⟨hends, hcount, hrec⟩ := Dev.abort_ends hj ht (x.tcwVa (d'.tile k.val).pos + bitsAt w.toNat 96 16 * 2 ^ 64)
    generalize d'.rankFault k.val 0x0D _ = e at hends hcount hrec hexec
    exact ⟨_, hexec, hends, hcount, hrec, onlyDev_withDev _ _⟩

end Sys2Proof.Machine

/-! ## Memory commands at issue, fences and POLL (R204, R207, R208, R217, R255, R350) -/

namespace Sys2Proof.Machine

open Sys2Proof.Stm

/-! ### Operands of a tile with nothing outstanding -/

section
variable {d : Dev} {k : Nat}

theorem Stm.fresh_marks {y : Tile} (h : Fresh y) (kind : Nat) : y.marks kind = [] := by
  obtain ⟨-, -, htb, has, -, -⟩ := h
  unfold Tile.marks
  split
  · exact htb
  · exact has

theorem TM.operand_turns_of_fresh {spec len : Nat} {kinds : List Nat} {write : Bool} {sp : Span} (h : Fresh (d.tile k))
    (hs : (d.tile k).operand spec len kinds write = some sp) : TM.Turns (TM.operand k spec len kinds write) d k sp (d.tile k) := by
  obtain ⟨hout, herr, -⟩ := h
  exact TM.operand_turns herr (Tile.loadingHandle_of_none hout _) hs

/-- Reading what the tile holds, between turns. -/
theorem TM.Turns.then {α β : Type} {m : TM α} {f : α → TM β} {a : α} {b : β} {z : Tile}
    (h : TM.Turns m d k a (d.tile k)) (h' : ∀ e : Dev, e.tile k = d.tile k → d.OneTile k (d.tile k) e → TM.Turns (f a) e k b z) :
    TM.Turns (m >>= f) d k b z :=
  h.bind (fun e he => h' e he.tile he)

theorem TM.runs_len {lenReg len n : Nat} (hn : n = (d.tile k).lenOf lenReg len) (h1 : 1 ≤ n) (h2 : n ≤ 4194303) :
    TM.Runs (TM.len k lenReg len) d n d := by
  rw [hn] at h1 h2 ⊢
  refine (TM.runs_get d).bind ((TM.runs_need ?_ _ d).bind (TM.runs_pure _ d))
  rw [lenOk, Nat.ble_eq.mpr h1, Nat.ble_eq.mpr h2]
  rfl

/-- The tile with one outstanding command more. -/
def Tile.queued (x : Tile) (unit : Nat) (body : MemOp) (reads writes : List Span) (regs : List Nat) : Tile :=
  { x with out := x.out ++ [.op x.nextOp unit x.pos body reads writes regs], nextOp := x.nextOp + 1 }

theorem TM.enqueue_turns (unit : Nat) (body : MemOp) (reads writes : List Span) (regs : List Nat) :
    TM.Turns (TM.enqueue k unit body reads writes regs) d k () ((d.tile k).queued unit body reads writes regs) :=
  ⟨_, TM.runs_upd _ d, (Dev.OneTile.refl d k).updTile (fun x => x.queued unit body reads writes regs)⟩

theorem TM.enqueue_pure_turns {α : Type} (unit : Nat) (body : MemOp) (reads writes : List Span) (regs : List Nat) (a : α) :
    TM.Turns (do TM.enqueue k unit body reads writes regs; pure a : TM α) d k a
      ((d.tile k).queued unit body reads writes regs) := by
  refine TM.Turns.bind (TM.enqueue_turns unit body reads writes regs) (fun e he => ?_)
  have h := TM.turns_pure a e k
  rw [he.tile] at h
  exact h

end

/-- A word whose meaning queues a command of a tile that had nothing outstanding. -/
theorem nexts_queues {c : Instr} {cmd : Cmd} {body : TcwBody} {s : State} {k : TileId} {w : Tcw} {grp fn : Nat}
    {regs : List Nat} {d' : Dev} {unit : Nat} {op : MemOp} {reads writes : List Span} {held : List Nat}
    (hexec : exec c s = tcwStep k w cmd body s) (hi : Issues s.dev k.val w grp fn regs d')
    (hc : cmd.Fits w grp fn regs (d'.tile k.val)) (hgrp : (grp == 9) = false) (hf : Fresh (d'.tile k.val))
    (hturns : TM.Turns (body k.val w.toNat) d' k.val none ((d'.tile k.val).queued unit op reads writes held)) :
    Nexts c s fun t => Queues k d' s t unit op reads writes held := by
  refine nexts_of_turns hexec hi hc hgrp hturns (fun e he => ?_)
  have hq : (d'.tile k.val).queued unit op reads writes held = { d'.tile k.val with
      out := [.op (d'.tile k.val).nextOp unit (d'.tile k.val).pos op reads writes held]
      nextOp := (d'.tile k.val).nextOp + 1 } := by
    rw [Tile.queued, hf.1, List.nil_append]
  rw [hq] at he
  exact goes_of_oneTile he

theorem offReg_field (w : Tcw) (lo : Nat) : offReg (bitsAt w.toNat lo 10) = fieldOf w lo 4 := by
  rw [bitsAt_field, offReg, fieldOf, fieldOf]
  exact Nat.mod_mod_of_dvd _ (by decide)

theorem offReg_fieldOf (w : Tcw) (lo : Nat) : offReg (fieldOf w lo 10) = fieldOf w lo 4 := by
  rw [← bitsAt_field, offReg_field]

theorem moveCmd_of_body {c : TileId → Tcw → Instr} {fn : Nat} {src dst : List Nat} {op : Span → Span → MemOp}
    (hexec : ∀ k w s, exec (c k w) s = tcwStep k w (moveCmd fn) (moveBody src dst op) s) (hl : tcwListed 1 fn = true) :
    MoveCmd c fn src dst op := by
  intro s k w d' n a b hi hb hf hlen hnz ha hdst
  obtain ⟨hn, h1, h2⟩ := hlen
  have hlenOf : n = (d'.tile k.val).lenOf (fieldOf w 86 4) (fieldOf w 64 22) := hn
  have hfits : (moveCmd fn).Fits w 1 fn [fieldOf w 100 4, fieldOf w 90 4, fieldOf w 86 4] (d'.tile k.val) := by
    refine ⟨rfl, rfl, rfl, ?_, hl, ?_, ?_⟩
    · simp only [moveCmd, moveRegs, moveOf, offReg_field]
      rw [bitsAt_field]
    · simp only [moveCmd, moveLegal, moveOf, bitsAt_field, hb]
      simpa using hnz
    · simp only [moveCmd, moveCount, moveOf, bitsAt_field, ← hlenOf, lenOk, Nat.ble_eq.mpr h1, Nat.ble_eq.mpr h2]
      rfl
  refine nexts_queues (hexec k w s) hi hfits rfl hf ?_
  unfold moveBody moveOf
  simp only [bitsAt_field]
  refine TM.turns_bind_of_runs (TM.runs_len hlenOf h1 h2) ?_
  refine (TM.operand_turns_of_fresh hf ha).then (fun e he _ => ?_)
  rw [← he] at hf hdst
  refine (TM.operand_turns_of_fresh hf hdst).then (fun f hf' _ => ?_)
  rw [← he, ← hf']
  exact TM.enqueue_pure_turns _ _ _ _ _ none

/-! ### HLOAD, LDS and SETFLAG -/

section
variable {s : State} {k : TileId} {w : Tcw} {d' : Dev}

theorem nexts_hload {a : Span} (hi : Issues s.dev k.val w 1 4 [fieldOf w 100 4] d')
    (hb : onlyBits w.toNat [(111, 100), (85, 73)] = true) (hf : Fresh (d'.tile k.val)) (h1 : 1 ≤ fieldOf w 73 7)
    (h64 : fieldOf w 80 6 + fieldOf w 73 7 ≤ 64)
    (ha : (d'.tile k.val).operand (fieldOf w 100 10) (16 * fieldOf w 73 7) [3] false = some a) :
    Nexts (.hload k w) s fun t =>
      Queues k d' s t (fieldOf w 110 2) (.hload a.start (fieldOf w 80 6) (fieldOf w 73 7)) [] [] [] := by
  refine nexts_queues (cmd := { grp := 1, fn := 4, regs := fun w => [offReg (moveOf w).src]
                                legal := fun w =>
                                  let (first, count) := hloadRange w
                                  onlyBits w [(111, 100), (85, 73)] && Nat.ble 1 count && Nat.ble count 64 &&
                                    Nat.ble (first + count) 64 }) (body := hloadBody) rfl hi
    ⟨rfl, rfl, rfl, ?_, rfl, ?_, rfl⟩ rfl hf ?_
  · simp only [moveOf, offReg_field]
  · simp only [hloadRange, bitsAt_field]
    rw [hb, Nat.ble_eq.mpr h1, Nat.ble_eq.mpr (by omega : fieldOf w 73 7 ≤ 64), Nat.ble_eq.mpr h64]
    rfl
  · unfold hloadBody moveOf hloadRange
    simp only [bitsAt_field]
    refine (TM.operand_turns_of_fresh hf ha).then (fun e he _ => ?_)
    rw [← he]
    exact TM.enqueue_pure_turns _ _ _ _ _ none

theorem nexts_lds {a : Span} (hi : Issues s.dev k.val w 1 5 [fieldOf w 100 4, fieldOf w 60 4] d')
    (hb : onlyBits w.toNat [(111, 100), (63, 60)] = true) (hf : Fresh (d'.tile k.val))
    (ha : (d'.tile k.val).operand (fieldOf w 100 10) 8 [3] false = some a) : Nexts (.lds k w) s fun t =>
      Queues k d' s t (fieldOf w 110 2) (.lds a.start (fieldOf w 60 4)) [] [] [fieldOf w 60 4] := by
  refine nexts_queues (cmd := { grp := 1, fn := 5, regs := fun w => [offReg (moveOf w).src, bitsAt w 60 4]
                                legal := fun w => onlyBits w [(111, 100), (63, 60)] }) (body := ldsBody) rfl hi
    ⟨rfl, rfl, rfl, ?_, rfl, hb, rfl⟩ rfl hf ?_
  · simp only [moveOf, offReg_field]
    rw [bitsAt_field]
  · unfold ldsBody moveOf
    simp only [bitsAt_field]
    refine (TM.operand_turns_of_fresh hf ha).then (fun e he _ => ?_)
    rw [← he]
    exact TM.enqueue_pure_turns _ _ _ _ _ none

theorem nexts_setflag {b : Span} (hi : Issues s.dev k.val w 1 6 [fieldOf w 90 4, fieldOf w 60 4] d')
    (hb : onlyBits w.toNat [(111, 110), (99, 90), (63, 60)] = true) (hf : Fresh (d'.tile k.val))
    (ha : (d'.tile k.val).operand (fieldOf w 90 10) 8 [3] true = some b) : Nexts (.setflag k w) s fun t =>
      Queues k d' s t (fieldOf w 110 2)
        (.setflag b.start (BitVec.ofNat 64 ((d'.tile k.val).s (fieldOf w 60 4)))) [] [] [] := by
  refine nexts_queues (cmd := { grp := 1, fn := 6, regs := fun w => [offReg (moveOf w).dst, bitsAt w 60 4]
                                legal := fun w => onlyBits w [(111, 110), (99, 90), (63, 60)] }) (body := setflagBody) rfl hi
    ⟨rfl, rfl, rfl, ?_, rfl, hb, rfl⟩ rfl hf ?_
  · simp only [moveOf, offReg_field]
    rw [bitsAt_field]
  · unfold setflagBody moveOf
    simp only [bitsAt_field]
    refine (TM.operand_turns_of_fresh hf ha).then (fun e he _ => ?_)
    rw [← he]
    exact TM.turns_bind_of_runs ((TM.runs_get e).bind (TM.runs_pure _ e)) (TM.enqueue_pure_turns _ _ _ _ _ none)

end

/-! ### GATHER -/

theorem leNat_testBit (b : List Byte) (i : Nat) : (leNat b).testBit i = (b.getD (i / 8) 0).toNat.testBit (i % 8) := by
  induction b generalizing i with
  | nil => simp [leNat]
  | cons a b ih =>
    have hlt : a.toNat < 2 ^ 8 := a.isLt
    rw [leNat, Nat.add_comm, show (256 : Nat) = 2 ^ 8 by decide, Nat.testBit_two_pow_mul_add _ hlt]
    split
    case isTrue h => rw [Nat.div_eq_of_lt h, Nat.mod_eq_of_lt h, List.getD_cons_zero]
    case isFalse h =>
      rw [ih, show i / 8 = (i - 8) / 8 + 1 by omega, List.getD_cons_succ, show (i - 8) % 8 = i % 8 by omega]

theorem filterMap_ite_some {α β : Type} (p : α → Bool) (f : α → β) (l : List α) :
    l.filterMap (fun x => if p x then some (f x) else none) = (l.filter p).map f := by
  induction l with
  | nil => rfl
  | cons a l ih =>
    rw [List.filterMap_cons, List.filter_cons, ih]
    split <;> rename_i h <;> split at h <;> simp_all

/-- The ones of a vector that lies at a byte address, by their numbers (R255). -/
theorem oneBits_cells {m : List Host.Cell} {at' start limit : Nat} :
    oneBits (cellsRead m at' ((limit + 7) / 8 - start / 8)) start limit =
      (List.range' start (limit - start)).filter (fun p => (cellAt m (at' + p / 8 - start / 8)).toNat.testBit (p % 8)) := by
  unfold oneBits bitAt
  dsimp only
  rw [filterMap_ite_some (fun i => (leNat (cellsRead m at' ((limit + 7) / 8 - start / 8))).testBit (start % 8 + i)),
    List.range'_eq_map_range, List.filter_map]
  refine congrArg (List.map _) (List.filter_congr (fun i hi => ?_))
  rw [List.mem_range] at hi
  have hin : (start % 8 + i) / 8 < (limit + 7) / 8 - start / 8 := by omega
  rw [leNat_testBit, cellsRead_eq, Function.comp_apply, List.getD_eq_getElem _ _ (by simpa using hin), List.getElem_map,
    List.getElem_range]
  rw [show at' + (start + i) / 8 - start / 8 = at' + (start % 8 + i) / 8 by omega,
    show (start + i) % 8 = (start % 8 + i) % 8 by omega]

theorem TM.runs_hazard {d : Dev} {k : Nat} (h : (d.tile k).out = []) (reads writes : List Span) :
    TM.Runs (TM.hazard k reads writes) d () d :=
  (TM.runs_get d).bind (TM.runs_need (by rw [h]; rfl) _ d)

/-- The two arms of a choice go on alike. -/
theorem TM.turns_ite_bind {α β : Type} {c : Prop} [Decidable c] {m n : TM α} {f : α → TM β} {d : Dev} {k : Nat} {b : β} {y : Tile}
    (h : TM.Turns ((if c then m else n) >>= f) d k b y) : TM.Turns (if c then m >>= f else n >>= f) d k b y := by
  split at h
  case isTrue hc => rw [if_pos hc]; exact h
  case isFalse hc => rw [if_neg hc]; exact h

/-- The bytes of GATHER's vector: none where no page is looked for. -/
theorem gatherVector_turns {d : Dev} {k unit len : Nat} {sp : Span} (h : (d.tile k).marks sp.kind = []) (hlen : sp.len = len) :
    TM.Turns (if len = 0 then pure [] else TM.read k unit sp : TM (List Byte)) d k
      (cellsRead ((d.tile k).cells sp.kind) sp.start len) (d.tile k) := by
  split
  case isTrue h0 =>
    rw [h0]
    exact TM.turns_pure _ d k
  case isFalse =>
    rw [← hlen]
    exact TM.read_turns h

theorem Tile.operandAt_len {x : Tile} {spec extra len : Nat} {kinds : List Nat} {write : Bool} {sp : Span}
    (h : x.operandAt spec extra len kinds write = some sp) : sp.len = len := by
  unfold Tile.operandAt at h
  dsimp only at h
  split at h
  · cases h
    rfl
  · cases h

/-- GATHER with nothing outstanding: its pages are the first `count` ones of its vector. -/
theorem gatherBody_turns {d : Dev} {k : Nat} {w : Tcw} {q : Seq} {a b : Span} {start limit count : Nat} {pages : List Nat}
    (hf : Fresh (d.tile k)) (hq : d.seqOf (d.tileTenant k) ((d.tile k).s 3) = some q)
    (hlay : (d.tile k).s (fieldOf w 48 4) < q.layers) (hgrp : (d.tile k).s (fieldOf w 44 4) < q.groups)
    (hstart : start = (d.tile k).s (fieldOf w 60 4)) (hlimit : limit = (d.tile k).s (fieldOf w 52 4)) (hcap : limit ≤ q.pageCap)
    (hcount : count = (d.tile k).s (fieldOf w 56 4))
    (ha : (d.tile k).operandAt (fieldOf w 100 10) (start / 8) (if limit ≤ start then 0 else (limit + 7) / 8 - start / 8) [1, 2] =
      some a)
    (hpages : pages = ((List.range' start (limit - start)).filter (fun p =>
      (cellAt ((d.tile k).cells a.kind) (a.start + p / 8 - start / 8)).toNat.testBit (p % 8))).take count)
    (hb : (d.tile k).operand (fieldOf w 90 10) (pages.length * q.payload (w.toNat.testBit 43)) [1] true = some b) :
    TM.Turns (gatherBody k w.toNat) d k none ((d.tile k).queued (fieldOf w 110 2)
      (.gather ((d.tile k).s 3) ((d.tile k).s (fieldOf w 48 4)) ((d.tile k).s (fieldOf w 44 4)) (w.toNat.testBit 43) pages b
        (fieldOf w 56 4) (if w.toNat.testBit 42 then fieldOf w 60 4 else 0)
        (if count = 0 ∨ limit ≤ start then start else if pages.length < count then limit else pages.getLastD start + 1))
      [] [b] (fieldOf w 56 4 :: if w.toNat.testBit 42 then [fieldOf w 60 4] else [])) := by
  obtain ⟨len, hlen⟩ : ∃ len, len = if limit ≤ start then 0 else (limit + 7) / 8 - start / 8 := ⟨_, rfl⟩
  have hones : pages = (oneBits (cellsRead ((d.tile k).cells a.kind) a.start len) start limit).take count := by
    by_cases hle : limit ≤ start
    · rw [hpages, show limit - start = 0 by omega, oneBits, show limit - start = 0 by omega]
      rfl
    · rw [hlen, if_neg hle, oneBits_cells, hpages]
  rw [← hlen] at ha
  unfold gatherBody moveOf
  simp only [bitsAt_field, bitAt]
  refine TM.turns_get_bind ?_
  rw [hq, ← hstart, ← hlimit, ← hcount]
  dsimp only
  refine TM.turns_need_bind (by rw [decide_eq_true hlay, decide_eq_true hgrp, Nat.ble_eq.mpr hcap]; rfl) ?_
  refine (TM.handle_turns hf.2.1 (Tile.loadingHandle_of_none hf.1 _)).then (fun e he _ => ?_)
  have hceil : (if limit ≤ start then 0 else ceilDiv limit 8 - start / 8) = len := by rw [hlen]; rfl
  rw [hceil, ha]
  dsimp only
  rw [← he] at hf hb hones ⊢
  refine TM.turns_bind_of_runs (TM.runs_hazard hf.1 _ _) ?_
  refine TM.turns_ite_bind ((gatherVector_turns (Stm.fresh_marks hf _) (Tile.operandAt_len ha)).then (fun f hf' _ => ?_))
  rw [← hones]
  rw [← hf'] at hf hb ⊢
  refine (TM.operand_turns_of_fresh hf hb).then (fun g hg _ => ?_)
  rw [← hg]
  simp only [Bool.or_eq_true, decide_eq_true_eq, List.singleton_append]
  exact TM.enqueue_pure_turns _ _ _ _ _ none

/-! ### FENCE WAIT -/

theorem fenceBody_turns_of_none {d : Dev} {k : Nat} {w : Tcw} (h : (d.tile k).out = []) :
    TM.Turns (fenceBody k w.toNat) d k none (d.tile k) := by
  unfold fenceBody
  refine TM.turns_get_bind ?_
  dsimp only
  rw [h]
  refine TM.turns_need_bind rfl ?_
  split
  · exact TM.turns_need_bind rfl (TM.turns_pure none d k)
  · split
    · exact TM.turns_need_bind rfl (TM.turns_pure none d k)
    · rw [if_neg (by simp)]
      exact TM.turns_pure none d k

/-- RELEASE with accesses of memory outstanding: a fence stands behind them. -/
theorem fenceBody_turns_of_release {d : Dev} {k : Nat} {w : Tcw} (hu : ∀ o ∈ (d.tile k).out, ∀ u, o.unit? = some u →
    u ∉ fenceUnits w.toNat) (h2 : fieldOf w 102 2 = 2) (hm : ∃ o ∈ (d.tile k).out, o.readsMem = true ∨ o.writesMem = true) :
    TM.Turns (fenceBody k w.toNat) d k none { d.tile k with out := (d.tile k).out ++ [.fence 2] } := by
  have hidle : (!(d.tile k).out.any fun o => o.unit?.any (fenceUnits w.toNat).contains) = true := by
    rw [Bool.not_eq_true', List.any_eq_false]
    intro o ho
    cases hou : o.unit? with
    | none => exact Bool.false_ne_true
    | some u => simpa using hu o ho u hou
  have hmem : ((d.tile k).out.any fun o => o.readsMem || o.writesMem) = true := by
    obtain ⟨o, ho, h⟩ := hm
    exact List.any_eq_true.mpr ⟨o, ho, Bool.or_eq_true_iff.mpr h⟩
  unfold fenceBody
  refine TM.turns_get_bind ?_
  dsimp only
  refine TM.turns_need_bind hidle ?_
  rw [bitsAt_field, h2, if_neg (by decide), if_neg (by decide), hmem, if_pos (by decide)]
  exact TM.turns_setTile_pure d k _ none

section
variable {s : State} {k : TileId} {w : Tcw} {d' : Dev}

theorem nexts_fenceWait {y : Tile} (hi : Issues s.dev k.val w 6 0 [] d') (hb : onlyBits w.toNat [(111, 102)] = true)
    (hturns : TM.Turns (fenceBody k.val w.toNat) d' k.val none y) : Nexts (.fenceWait k w) s fun t =>
      Goes k d' s t y ((d'.tile k.val).pos + 1) false :=
  nexts_of_turns (cmd := { grp := 6, fn := 0, regs := fun _ => [], legal := fun w => onlyBits w [(111, 102)] }) rfl hi
    ⟨rfl, rfl, rfl, rfl, rfl, hb, rfl⟩ rfl hturns (fun _ he => goes_of_oneTile he)

/-! ### POLL -/

/-- The tile while POLL waits for its word. -/
def Tile.polled (x : Tile) (p : PollWait) : Tile :=
  let y : Tile := { x with seg := 0 }
  { y.ckptCopy y.pollRecord (ckptWords 0) with poll := some p }

theorem Tile.pollRecord_fields (x : Tile) : x.pollRecord.pos = x.pos ∧ x.pollRecord.sregs = x.sregs := by
  unfold Tile.pollRecord
  split <;> exact ⟨rfl, rfl⟩

theorem pollBody_runs {d : Dev} {k : Nat} {a : Span} {j : Nat} {x : Job} (hf : Fresh (d.tile k)) (hj : d.tileJob k = some (j, x))
    (ha : (d.tile k).operand (fieldOf w 102 10) 8 [2, 3] false = some a) (h8 : a.start % 8 = 0) :
    ∃ e, TM.Runs (pollBody k w.toNat) d (some (d.tile k).pos) e ∧
      (d.maxObj 0x5002 0 x.tenant (d.tile k).seg 16).OneTile k ((d.tile k).polled
        ⟨a.kind == 3, a.start, BitVec.ofNat 64 ((d.tile k).s (fieldOf w 98 4)), fieldOf w 96 2⟩) e := by
  obtain ⟨d1, hrun1, hd1⟩ := TM.operand_turns_of_fresh hf ha
  obtain ⟨d2, hrun2, hd2⟩ := TM.copyHandles_turns (d := d1) (k := k) (by rw [hd1.tile, hf.2.1])
  have hd : d.OneTile k (d.tile k) d2 := hd1.tile ▸ hd1.trans hd2
  have hone := ((hd.maxObj 0x5002 0 x.tenant (d.tile k).seg 16).updTile (fun x => { x with seg := 0 })).updTile
    (fun y => { y.ckptCopy y.pollRecord (ckptWords 0) with
      poll := some ⟨a.kind == 3, a.start, BitVec.ofNat 64 ((d.tile k).s (fieldOf w 98 4)), fieldOf w 96 2⟩ })
  refine ⟨_, ?_, hone⟩
  unfold pollBody
  simp only [bitsAt_field]
  refine (TM.runs_get d).bind ((TM.runs_need (by rw [hf.1]; rfl) _ d).bind (hrun1.bind ?_))
  refine (TM.runs_need (by rw [h8]; rfl) _ d1).bind (hrun2.bind ((TM.runs_get d2).bind ?_))
  rw [hd.tileJob rfl, hj]
  dsimp only
  rw [Dev.boundary, hd.tile]
  exact (TM.runs_set _ _).bind (TM.runs_pure _ _)

theorem nexts_poll {a : Span} {j : Nat} {x : Job} (hi : Issues s.dev k.val w 6 1 [fieldOf w 98 4, fieldOf w 102 4] d')
    (hp : fieldOf w 114 4 = 0) (hcmp : fieldOf w 96 2 ≠ 3) (hb : onlyBits w.toNat [(111, 96)] = true)
    (hf : Fresh (d'.tile k.val)) (hj : d'.tileJob k.val = some (j, x))
    (ha : (d'.tile k.val).operand (fieldOf w 102 10) 8 [2, 3] false = some a) (h8 : a.start % 8 = 0) :
    Nexts (.poll k w) s fun t =>
      (t.dev.tile k.val).poll = some ⟨a.kind == 3, a.start, BitVec.ofNat 64 ((d'.tile k.val).s (fieldOf w 98 4)),
        fieldOf w 96 2⟩ ∧ (t.dev.tile k.val).pos = (d'.tile k.val).pos ∧ (t.dev.tile k.val).seg = 0 ∧
      (∃ c, (t.dev.tile k.val).ckpt = some c ∧ c.pos = (d'.tile k.val).pos ∧ c.sregs = (d'.tile k.val).sregs) ∧
      t = { s with dev := { d' with tiles := t.dev.tiles, dict := t.dev.dict } } := by
  obtain ⟨e, hrun, he⟩ := pollBody_runs (w := w) hf hj ha h8
  have hexec := exec_of_runs (c := .poll k w) (cmd := { grp := 6, fn := 1
                                                        regs := fun w => [bitsAt w 98 4, offReg (bitsAt w 102 10)]
                                                        legal := fun w => noPred w && bitsAt w 96 2 != 3 &&
                                                          onlyBits w [(111, 96)] }) (body := pollBody) rfl hi
    ⟨rfl, rfl, rfl, by simp only [offReg_fieldOf, bitsAt_field], rfl, by
      dsimp only
      rw [noPred_of_field hp, bitsAt_field, bne_iff_ne.mpr hcmp, hb]
      rfl, rfl⟩ hrun
  have hone := he.updTile (fun y => y.goesOn (d'.tile k.val).pos)
  obtain ⟨p, hpoll⟩ : ∃ p : PollWait, p = ⟨a.kind == 3, a.start, BitVec.ofNat 64 ((d'.tile k.val).s (fieldOf w 98 4)),
    fieldOf w 96 2⟩ := ⟨_, rfl⟩
  rw [← hpoll] at hone ⊢
  have hpass : ((d'.tile k.val).polled p).pass 1 = (d'.tile k.val).polled p := by
    rw [Tile.pass, show ((d'.tile k.val).polled p).poll.isSome = true from rfl, Bool.or_true, if_pos rfl]
  rw [Tile.goesOn, hpass] at hone
  obtain ⟨hpos, hregs⟩ := Tile.pollRecord_fields ({ d'.tile k.val with seg := 0 } : Tile)
  obtain ⟨f, hf'⟩ : ∃ f, f = e.updTile k.val (fun y => y.goesOn (d'.tile k.val).pos) := ⟨_, rfl⟩
  rw [← hf'] at hone
  obtain ⟨m, hm⟩ : ∃ m, f = { d'.maxObj 0x5002 0 x.tenant (d'.tile k.val).seg 16 with tiles := m } := ⟨_, hone.frame⟩
  exact ⟨{ s with dev := f }, hexec.trans (by rw [hf']; rfl), congrArg Tile.poll hone.tile, (congrArg Tile.pos hone.tile).trans rfl,
    congrArg Tile.seg hone.tile, ⟨_, congrArg Tile.ckpt hone.tile, hpos, hregs⟩, by rw [hm]; rfl⟩

end

/-- The tile after its POLL has ended. -/
def Tile.pollDone (x : Tile) : Tile := { x with poll := none, pos := x.pos + 1, atBoundary := false }

theorem Dev.pollCheck_of_true {d : Dev} {t v : Nat} {p : PollWait} (h : pollTrue p.cmp v p.value.toNat = true) :
    d.pollCheck t p v = d.updTile t Tile.pollDone := if_pos h

section
variable {s : State} {k : TileId} {p : PollWait} {j : Nat} {x : Job} (hs : s.dev.serving = true)
  (hp : (s.dev.tile k.val).poll = some p) (hj : s.dev.tileJob k.val = some (j, x)) (hact : (s.dev.tile k.val).active = true)
  (hfl : (s.dev.tile k.val).flagged = false) (hst : s.dev.wantsStop x = false)
include hs hp hj hact hfl hst

theorem exec_pollSatisfied_of_data {r : ReadResult} {d : Dev} (hm : p.memory = true)
    (hr : s.dev.engRead x.tenant x.pasid p.addr 8 (s.dev.tileReq k.val 0 1) = (.data r, d)) (hbad : r.bad = [])
    (htrue : pollTrue p.cmp (leNat r.bytes) p.value.toNat = true) :
    exec (.pollSatisfied k) s = .next { s with dev := (d.unstall k.val 1).updTile k.val Tile.pollDone } := by
  refine exec_dev rfl ?_
  dsimp only
  rw [hp, hj]
  dsimp only
  rw [if_neg (by rw [hs, hact, hfl, hst]; decide), if_pos hm, hr]
  dsimp only
  rw [hbad]
  exact Dev.pollCheck_of_true htrue

theorem exec_pollSatisfied_of_as (hm : p.memory = false) (herr : (s.dev.tile k.val).asErr = [])
    (htrue : pollTrue p.cmp (leNat (cellsRead (s.dev.tile k.val).as p.addr 8)) p.value.toNat = true) :
    exec (.pollSatisfied k) s = .next { s with
      dev := (s.dev.setTile k.val (s.dev.tile k.val)).updTile k.val Tile.pollDone } := by
  have hread : (TM.read k.val 8 ⟨2, p.addr, 8⟩).run.run s.dev =
      (.ok (cellsRead (s.dev.tile k.val).as p.addr 8), s.dev.setTile k.val (s.dev.tile k.val)) := by
    have h := Dev.spmRead_of_unmarked (d := s.dev) (k := k.val) (kind := 2) herr p.addr 8
    refine TM.Runs.bind (TM.runs_get _) ?_
    dsimp only
    rw [h]
    exact (TM.runs_set _ _).bind (TM.runs_pure _ _)
  refine exec_dev rfl ?_
  dsimp only
  rw [hp, hj]
  dsimp only
  rw [if_neg (by rw [hs, hact, hfl, hst]; decide), if_neg (by rw [hm]; exact Bool.false_ne_true), hread]
  exact Dev.pollCheck_of_true htrue

end

/-- Settles O36: each word by its meaning, with the operands that it resolves. -/
theorem memoryCommands : Obligations.MemoryCommands := by
  refine ⟨moveCmd_of_body (fun _ _ _ => rfl) rfl, moveCmd_of_body (fun _ _ _ => rfl) rfl, moveCmd_of_body (fun _ _ _ => rfl) rfl,
    fun s k w d' a hi hb hf h1 h64 ha => nexts_hload hi hb hf h1 h64 ha, fun s k w d' a hi hb hf ha => nexts_lds hi hb hf ha,
    fun s k w d' b hi hb hf hd => nexts_setflag hi hb hf hd,
    fun s k w d' q a b start limit count pages hi hb hf hq hlay hgrp hstart hlimit hcap hcount ha hpages hdst => ?gather,
    fun s k w d' hi hb hout => nexts_fenceWait hi hb (fenceBody_turns_of_none hout),
    fun s k w d' hi hb hu h2 hm => nexts_fenceWait hi hb (fenceBody_turns_of_release hu h2 hm),
    fun s k w d' a j x hi hp hcmp hb hf hj ha h8 => nexts_poll hi hp hcmp hb hf hj ha h8,
    fun s k p j x r d hs hp hj hact hfl hst hm hr hbad htrue => ?polled,
    fun s k p j x hs hp hj hact hfl hst hm herr htrue => ?polledAs⟩
  case gather =>
    refine nexts_queues (cmd := { grp := 1, fn := 3
                                  regs := fun w => [offReg (moveOf w).src, offReg (moveOf w).dst, 3, bitsAt w 60 4,
                                    bitsAt w 56 4, bitsAt w 52 4, bitsAt w 48 4, bitsAt w 44 4]
                                  legal := fun w => onlyBits w [(111, 90), (63, 42)] }) (body := gatherBody) rfl hi
      ⟨rfl, rfl, rfl, ?_, rfl, hb, rfl⟩ rfl hf
      (gatherBody_turns hf hq hlay hgrp hstart hlimit hcap hcount ha hpages hdst)
    simp only [moveOf, offReg_fieldOf, bitsAt_field]
  case polled =>
    refine ⟨_, exec_pollSatisfied_of_data hs hp hj hact hfl hst hm hr hbad htrue, ?_⟩
    have hone := ((Dev.OneTile.refl d k.val).updTile (fun x => { x with stalls := x.stalls.filter (fun n => n != 1) })).updTile
      Tile.pollDone
    exact ⟨hone.onlyTileOf s, hone.tile⟩
  case polledAs =>
    refine ⟨_, exec_pollSatisfied_of_as hs hp hj hact hfl hst hm herr htrue, ?_⟩
    have hone := (Dev.oneTile_setTile s.dev k.val (s.dev.tile k.val)).updTile Tile.pollDone
    exact ⟨hone.onlyTileOf s, hone.tile⟩

end Sys2Proof.Machine

/-! ## Writes of a tile's stores (R224 to R226) -/

namespace Sys2Proof.Machine

open Sys2Proof.Stm

/-- No word of a store is marked, and no flip is armed for it. -/
def Tile.Unmarked (x : Tile) (kind : Nat) : Prop := x.marks kind = [] ∧ x.arms kind = []

theorem Tile.cells_setCells (x : Tile) (kind : Nat) (c : List Host.Cell) : (x.setCells kind c).cells kind = c := by
  unfold Tile.cells Tile.setCells
  split <;> rfl

theorem Tile.setCells_setCells (x : Tile) (kind : Nat) (c c' : List Host.Cell) :
    (x.setCells kind c).setCells kind c' = x.setCells kind c' := by
  unfold Tile.setCells
  split <;> rfl

theorem Tile.setCells_self (x : Tile) (kind : Nat) : x.setCells kind (x.cells kind) = x := by
  unfold Tile.cells Tile.setCells
  split <;> rfl

theorem Tile.setArms_self (x : Tile) (kind : Nat) : x.setArms kind (x.arms kind) = x := by
  unfold Tile.setArms Tile.arms
  split <;> rfl

/-- A store takes new cells, and nothing else of the tile changes. -/
theorem Tile.setCells_frame (x : Tile) (kind : Nat) (c : List Host.Cell) :
    x.setCells kind c = { x with tb := (x.setCells kind c).tb, as := (x.setCells kind c).as } := by
  unfold Tile.setCells
  split <;> rfl

theorem Tile.cells_setCells_other (x : Tile) {kind kind' : Nat} (h : kind = 1 ∨ kind = 2) (h' : kind' = 1 ∨ kind' = 2)
    (hne : kind' ≠ kind) (c : List Host.Cell) : (x.setCells kind c).cells kind' = x.cells kind' := by
  rcases h with rfl | rfl <;> rcases h' with rfl | rfl
  · exact absurd rfl hne
  · rfl
  · rfl
  · exact absurd rfl hne

theorem Tile.Unmarked.setCells {x : Tile} {kind kind' : Nat} (h : x.Unmarked kind) (c : List Host.Cell) :
    (x.setCells kind' c).Unmarked kind := by
  have hm : (x.setCells kind' c).marks kind = x.marks kind := by
    rw [x.setCells_frame kind' c]
    rfl
  have ha : (x.setCells kind' c).arms kind = x.arms kind := by
    rw [x.setCells_frame kind' c]
    rfl
  exact ⟨hm.trans h.1, ha.trans h.2⟩

section
variable {d : Dev} {t kind off : Nat} {bs : List Byte}

/-- One word of a write to an unmarked store. -/
theorem Dev.spmWord_of_unmarked (h : (d.tile t).Unmarked kind) (r : Option Nat) (w : Nat) :
    Dev.spmWord t kind off bs (d, r) w = (d.setTile t ((d.tile t).setCells kind (cellsWrite ((d.tile t).cells kind)
      (Nat.max off (w * wordSize kind)) ((bs.drop (Nat.max off (w * wordSize kind) - off)).take
        (Nat.min (off + bs.length) (w * wordSize kind + wordSize kind) - Nat.max off (w * wordSize kind))))), r) := by
  obtain ⟨hm, ha⟩ := h
  have hself : ((d.tile t).setMarks kind []).setArms kind [] = d.tile t := by
    have h1 := Tile.setMarks_self (d.tile t) kind
    have h2 := Tile.setArms_self (d.tile t) kind
    rw [hm] at h1
    rw [ha] at h2
    rw [h1, h2]
  unfold Dev.spmWord
  dsimp only
  rw [hm, ha]
  have hdrop : (KMap.drop ([] : KMap WordErr) w) = [] := rfl
  simp only [KMap.find_nil, badMark, Bool.and_false, Bool.false_eq_true, if_false, armedMark, List.find?_nil, hdrop,
    List.filter_nil, hself]
  rw [if_neg (by simp), if_neg (by simp)]

/-- What a write of `bs` at `off` makes of cells: its bytes below `top`, the old cells elsewhere. -/
def CellsTo (old : List Host.Cell) (off : Nat) (bs : List Byte) (top : Nat) (new : List Host.Cell) : Prop :=
  ∀ a, cellAt new a = if off ≤ a ∧ a < off + bs.length ∧ a < top then byteAt bs (a - off) else cellAt old a

/-- The words of a write, one after another. -/
theorem Dev.spmWords_of_unmarked (h : (d.tile t).Unmarked kind) (hw : 0 < wordSize kind) (first n : Nat)
    (hfirst : first * wordSize kind ≤ off) : ∃ cs e,
    ((List.range n).map (fun i => first + i)).foldl (Dev.spmWord t kind off bs) (d, none) = (e, none) ∧
      d.OneTile t ((d.tile t).setCells kind cs) e ∧
      CellsTo ((d.tile t).cells kind) off bs ((first + n) * wordSize kind) cs := by
  induction n with
  | zero =>
    refine ⟨(d.tile t).cells kind, d, rfl, ?_, fun a => ?_⟩
    · rw [Tile.setCells_self]
      exact .refl d t
    · rw [if_neg (by rw [Nat.add_zero]; omega)]
  | succ n ih =>
    obtain ⟨cs, e, hfold, he, hcs⟩ := ih
    rw [List.range_succ, List.map_append, List.foldl_append, hfold, List.map_cons, List.map_nil, List.foldl_cons,
      List.foldl_nil, Dev.spmWord_of_unmarked (by rw [he.tile]; exact h.setCells cs), he.tile, Tile.cells_setCells,
      Tile.setCells_setCells]
    refine ⟨_, _, rfl, he.setTile _, fun a => ?_⟩
    obtain ⟨lo, hlo⟩ : ∃ lo, lo = Nat.max off ((first + n) * wordSize kind) := ⟨_, rfl⟩
    obtain ⟨hi, hhi⟩ : ∃ hi, hi = Nat.min (off + bs.length) ((first + n) * wordSize kind + wordSize kind) := ⟨_, rfl⟩
    have hnext : (first + (n + 1)) * wordSize kind = (first + n) * wordSize kind + wordSize kind := by ring
    have hlow : lo = max off ((first + n) * wordSize kind) := hlo
    have hhigh : hi = min (off + bs.length) ((first + n) * wordSize kind + wordSize kind) := hhi
    have hlen : ((bs.drop (lo - off)).take (hi - lo)).length = hi - lo := by
      rw [List.length_take, List.length_drop]
      omega
    rw [← hlo, ← hhi, cellAt_write, hlen, hcs a, hnext]
    by_cases hin : lo ≤ a ∧ a < lo + (hi - lo)
    · rw [if_pos hin, byteAt_drop_take (by omega), if_pos (by omega)]
      exact congrArg (byteAt bs) (by omega)
    · rw [if_neg hin]
      split
      · rw [if_pos (by omega)]
      · rw [if_neg (by omega)]

theorem wordSize_pos (kind : Nat) : 0 < wordSize kind := by
  unfold wordSize
  split <;> decide

/-- A write of bytes to an unmarked store. -/
theorem Dev.spmWrite_of_unmarked (h : (d.tile t).Unmarked kind) : ∃ cs e, d.spmWrite t kind off bs = (e, none) ∧
    d.OneTile t ((d.tile t).setCells kind cs) e ∧
      ∀ a, cellAt cs a = if off ≤ a ∧ a < off + bs.length then byteAt bs (a - off) else cellAt ((d.tile t).cells kind) a := by
  cases bs with
  | nil =>
    refine ⟨(d.tile t).cells kind, d, rfl, ?_, fun a => ?_⟩
    · rw [Tile.setCells_self]
      exact .refl d t
    · rw [if_neg (by simp)]
  | cons b bs =>
    have hw := wordSize_pos kind
    obtain ⟨cs, e, hfold, he, hcs⟩ := Dev.spmWords_of_unmarked (d := d) (t := t) (off := off) (bs := b :: bs) h hw
      (off / wordSize kind) ((off + (b :: bs).length - 1) / wordSize kind - off / wordSize kind + 1) (Nat.div_mul_le_self _ _)
    refine ⟨cs, e, hfold, he, fun a => ?_⟩
    have hmono : off / wordSize kind ≤ (off + (b :: bs).length - 1) / wordSize kind :=
      Nat.div_le_div_right (by rw [List.length_cons]; omega)
    have htop : off + (b :: bs).length ≤ (off / wordSize kind + ((off + (b :: bs).length - 1) / wordSize kind -
        off / wordSize kind + 1)) * wordSize kind := by
      rw [show off / wordSize kind + ((off + (b :: bs).length - 1) / wordSize kind - off / wordSize kind + 1) =
        (off + (b :: bs).length - 1) / wordSize kind + 1 by omega]
      have hdiv := Nat.lt_div_mul_add (a := off + (b :: bs).length - 1) hw
      rw [Nat.add_mul, Nat.one_mul]
      omega
    rw [hcs a]
    split
    · rw [if_pos (by omega)]
    · rw [if_neg (by omega)]

end

/-- A write to an unmarked store, as a meaning. -/
theorem TM.writeAll_one_turns {d : Dev} {k unit : Nat} {sp : Span} {bs : List Byte} (h : (d.tile k).Unmarked sp.kind) :
    ∃ cs, TM.Turns (TM.writeAll k unit [(sp, bs)]) d k () ((d.tile k).setCells sp.kind cs) ∧
      ∀ a, cellAt cs a = if sp.start ≤ a ∧ a < sp.start + bs.length then byteAt bs (a - sp.start)
        else cellAt ((d.tile k).cells sp.kind) a := by
  obtain ⟨cs, e, hw, he, hcs⟩ := Dev.spmWrite_of_unmarked (d := d) (t := k) (kind := sp.kind) (off := sp.start) (bs := bs) h
  refine ⟨cs, ⟨e, ?_, he⟩, hcs⟩
  refine (TM.runs_get d).bind ?_
  dsimp only [List.foldl_cons, List.foldl_nil]
  rw [hw]
  exact (TM.runs_set _ _).bind (TM.runs_pure _ _)

/-- What such a write leaves in the stores. -/
theorem storeHolds_of_cells {y : Tile} {e : Span} {bs : List Byte} {cs : List Host.Cell} (hk : e.kind = 1 ∨ e.kind = 2)
    (hlen : bs.length = e.len)
    (hcs : ∀ a, cellAt cs a = if e.start ≤ a ∧ a < e.start + bs.length then byteAt bs (a - e.start)
      else cellAt (y.cells e.kind) a) : StoreHolds y (y.setCells e.kind cs) e bs := by
  refine ⟨?_, fun kind a hkind hout => ?_⟩
  · rw [Tile.cells_setCells, cellsRead_eq]
    refine List.ext_getElem (by simp [hlen]) (fun i h1 h2 => ?_)
    rw [List.getElem_map, List.getElem_range, hcs, if_pos (by omega), Nat.add_sub_cancel_left, byteAt,
      List.getD_eq_getElem _ _ h2]
  · by_cases hne : kind = e.kind
    · subst hne
      rw [Tile.cells_setCells, hcs, if_neg (fun h => hout ⟨rfl, by omega⟩)]
    · rw [Tile.cells_setCells_other _ hk hkind hne]

end Sys2Proof.Machine

/-! ## Outstanding commands complete (R204, R207, R217, R218, R223, R255, R351) -/

namespace Sys2Proof.Machine

open Sys2Proof.Stm

/-! ### TCW_COMPLETE -/

/-- The tile after its outstanding command `i` has completed, with the items `l` still outstanding. -/
def Tile.completed (x : Tile) (i n : Nat) (l : List OutItem) : Tile :=
  { ({ x with stalls := x.stalls.filter (fun m => m != 16 + i) } : Tile).pass n with out := l }

theorem Tile.completed_frame (x : Tile) (i n : Nat) (l : List OutItem) : x.completed i n l = { x with
    stalls := (x.completed i n l).stalls, seg := (x.completed i n l).seg, out := l } := by
  unfold Tile.completed
  rw [Tile.pass_frame]

/-- An item of the outstanding list is the command of number `i`. -/
def OutItem.numbered (i : Nat) (o : OutItem) : Bool :=
  match o with
  | .op n _ _ _ _ _ _ => n == i
  | .fence _ => false

/-- A command of a DMA queue with nothing before it may be performed. -/
theorem mayPerform_of_first {i u pos : Nat} {body : MemOp} {r w : List Span} {g : List Nat} (hu : u < 4) :
    mayPerform (.op i u pos body r w g) [] = true := by
  have h7 : (u != 7) = true := bne_iff_ne.mpr (by omega)
  unfold mayPerform
  dsimp only [List.any_nil, beforeFence]
  rw [h7, Bool.and_false, Bool.not_false, Bool.or_true]
  cases body <;> rfl

section
variable {s : State} {k : TileId} {i u pos j : Nat} {x : Job} {body : MemOp} (h : Outstanding s.dev k i u pos body j x)
include h

theorem tileTenant_of_outstanding : s.dev.tileTenant k.val = x.tenant := by
  obtain ⟨-, -, hj, -⟩ := h
  rw [Dev.tileTenant, hj]
  rfl

theorem tilePasid_of_outstanding : s.dev.tilePasid k.val = x.pasid := by
  obtain ⟨-, -, hj, -⟩ := h
  rw [Dev.tilePasid, hj]
  rfl

/-- The one outstanding command is performed: it leaves the list. -/
theorem exec_tcwComplete_of_runs {e : Dev} (n : Nat) (hrun : TM.Runs (TM.perform k.val u i body) s.dev () e)
    (hout : (e.tile k.val).out = (s.dev.tile k.val).out) :
    ∃ f, exec (.tcwComplete k i n) s = .next { s with dev := f } ∧ e.OneTile k.val ((e.tile k.val).completed i n []) f := by
  obtain ⟨hs, hact, hj, hu, r, w, g, hone⟩ := h
  refine ⟨(e.unstall k.val (16 + i)).updTile k.val (fun y => { y.pass n with
    out := dropFences (y.out.filter (fun o => !o.numbered i)) }), exec_dev rfl ?_, ?_⟩
  · have hfind : (s.dev.tile k.val).out.find? (OutItem.numbered i) = some (.op i u pos body r w g) := by
      rw [hone, List.find?_cons, OutItem.numbered, beq_self_eq_true]
    have hmay : (s.dev.serving && (s.dev.tile k.val).active && mayPerform (.op i u pos body r w g)
        (outBefore i (s.dev.tile k.val).out)) = true := by
      rw [hs, hact, hone, outBefore, if_pos rfl, mayPerform_of_first hu]
      rfl
    have hstep : (match (s.dev.tile k.val).out.find? (OutItem.numbered i), s.dev.tileJob k.val with
      | some (.op m unit pos body r w g), some _ =>
        if s.dev.serving && (s.dev.tile k.val).active && mayPerform (.op m unit pos body r w g)
            (outBefore i (s.dev.tile k.val).out) then
          match (TM.perform k.val unit m body).run.run s.dev with
          | (.ok _, d) => (d.unstall k.val (16 + i)).updTile k.val (fun y => { y.pass n with
              out := dropFences (y.out.filter (fun o => !o.numbered i)) })
          | (.error e, d) => d.tileErr k.val pos e
        else s.dev
      | _, _ => s.dev) = (e.unstall k.val (16 + i)).updTile k.val (fun y => { y.pass n with
          out := dropFences (y.out.filter (fun o => !o.numbered i)) }) := by
      rw [hfind, hj]
      dsimp only
      rw [if_pos hmay, show (TM.perform k.val u i body).run.run s.dev = (.ok (), e) from hrun]
    exact hstep
  · have hlist : dropFences ((e.tile k.val).out.filter (fun o => !o.numbered i)) = [] := by
      rw [hout, hone, List.filter_cons, OutItem.numbered, beq_self_eq_true]
      rfl
    have hchain := ((Dev.OneTile.refl e k.val).updTile (fun y => { y with stalls := y.stalls.filter (fun m => m != 16 + i) })).updTile
      (fun y => { y.pass n with out := dropFences (y.out.filter (fun o => !o.numbered i)) })
    dsimp only at hchain
    rw [hlist] at hchain
    exact hchain

/-- It changes the tile alone: the state after it. -/
theorem nexts_tcwComplete {d : Dev} {y : Tile} {P : State → Prop} (n : Nat)
    (hrun : ∃ e, TM.Runs (TM.perform k.val u i body) s.dev () e ∧ d.OneTile k.val y e)
    (hout : y.out = (s.dev.tile k.val).out) (hP : ∀ f, d.OneTile k.val (y.completed i n []) f → P { s with dev := f }) :
    Nexts (.tcwComplete k i n) s P := by
  obtain ⟨e, hrun, he⟩ := hrun
  obtain ⟨f, hexec, hf⟩ := exec_tcwComplete_of_runs h n hrun (by rw [he.tile, hout])
  rw [he.tile] at hf
  exact ⟨_, hexec, hP f (he.trans hf)⟩

end

theorem Tile.completed_cells (x : Tile) (i n : Nat) (l : List OutItem) (kind : Nat) : (x.completed i n l).cells kind = x.cells kind := by
  rw [x.completed_frame i n l]
  rfl

theorem Tile.completed_s (x : Tile) (i n : Nat) (l : List OutItem) (r : Nat) : (x.completed i n l).s r = x.s r := by
  rw [x.completed_frame i n l]
  rfl

theorem storeHolds_completed {y z : Tile} {e : Span} {bs : List Byte} (h : StoreHolds y z e bs) (i n : Nat) (l : List OutItem) :
    StoreHolds y (z.completed i n l) e bs := by
  refine ⟨?_, fun kind a hk ha => ?_⟩ <;> rw [Tile.completed_cells]
  · exact h.1
  · exact h.2 kind a hk ha

/-! ### Reads of memory and their landing -/

section
variable {d e : Dev} {k u i pasid va len : Nat} {r : ReadResult}

theorem TM.memRead_runs (h : d.engRead (d.tileTenant k) pasid va len (d.tileReq k (u + 1) (16 + i)) = (.data r, e)) :
    TM.Runs (TM.memRead k u i pasid va len) d r e := by
  refine (TM.runs_get d).bind ?_
  dsimp only
  rw [h]
  exact (TM.runs_set _ _).bind (TM.runs_pure _ _)

theorem TM.memReadGood_runs (h : d.engRead (d.tileTenant k) pasid va len (d.tileReq k (u + 1) (16 + i)) = (.data r, e))
    (hbad : r.bad = []) : TM.Runs (TM.memReadGood k u i pasid va len) d r.bytes e := by
  refine (TM.memRead_runs h).bind ?_
  rw [hbad]
  exact TM.runs_pure _ _

theorem Dev.engRead_out {tenant access : Nat} {req : Requester} (h : d.engRead tenant pasid va len req access = (.data r, e))
    (t : Nat) : (e.tile t).out = (d.tile t).out := by
  have heng := Dev.engRead_eng d tenant pasid va len req access
  rw [h] at heng
  rw [heng.2.1 t]

/-- Data without bad bytes land in an unmarked store. -/
theorem TM.land_turns {sp : Span} (h : (d.tile k).Unmarked sp.kind) (hbad : r.bad = []) :
    ∃ cs, TM.Turns (TM.land k u sp r) d k () ((d.tile k).setCells sp.kind cs) ∧
      ∀ a, cellAt cs a = if sp.start ≤ a ∧ a < sp.start + r.bytes.length then byteAt r.bytes (a - sp.start)
        else cellAt ((d.tile k).cells sp.kind) a := by
  obtain ⟨cs, e, hw, he, hcs⟩ := Dev.spmWrite_of_unmarked (d := d) (t := k) (kind := sp.kind) (off := sp.start) (bs := r.bytes) h
  have hpoison := he.updTile (fun x => x.setMarks sp.kind (x.marks sp.kind))
  rw [Tile.setMarks_self] at hpoison
  refine ⟨cs, ⟨e.spmPoison k sp.kind sp.start r.bad, ?_, by rw [hbad]; exact hpoison⟩, hcs⟩
  refine (TM.runs_get d).bind ?_
  dsimp only [List.foldl_cons, List.foldl_nil]
  rw [hw]
  exact (TM.runs_set _ _).bind (TM.runs_pure _ _)

end

section
variable {s : State} {k : TileId} {i u pos n j : Nat} {x : Job}

theorem perform_load_runs {va : Nat} {e : Span} {r : ReadResult} {d : Dev} (h : Outstanding s.dev k i u pos (.load va e) j x)
    (hr : s.dev.engRead x.tenant x.pasid va e.len (queueReq s.dev k u i) = (.data r, d)) (hbad : r.bad = [])
    (hm : (d.tile k.val).Unmarked e.kind) : ∃ cs f, TM.Runs (TM.perform k.val u i (.load va e)) s.dev () f ∧
      d.OneTile k.val ((d.tile k.val).setCells e.kind cs) f ∧
      ∀ a, cellAt cs a = if e.start ≤ a ∧ a < e.start + r.bytes.length then byteAt r.bytes (a - e.start)
        else cellAt ((d.tile k.val).cells e.kind) a := by
  obtain ⟨cs, ⟨f, hrun, hf⟩, hcs⟩ := TM.land_turns (u := u) hm hbad
  have hread := TM.memRead_runs (k := k.val) (u := u) (i := i) (pasid := s.dev.tilePasid k.val) (va := va) (len := e.len) (d := s.dev)
    (by rw [tileTenant_of_outstanding h, tilePasid_of_outstanding h]; exact hr)
  exact ⟨cs, f, (TM.runs_get _).bind (hread.bind hrun), hf, hcs⟩

theorem unmarked_of_fields {y : Tile} {kind : Nat} (h1 : y.tbErr = []) (h2 : y.asErr = []) (h3 : y.tbArm = []) (h4 : y.asArm = []) :
    y.Unmarked kind := by
  unfold Tile.Unmarked Tile.marks Tile.arms
  split
  · exact ⟨h1, h3⟩
  · exact ⟨h2, h4⟩

theorem perform_copy_runs {a e : Span} (hm : ∀ kind, (s.dev.tile k.val).Unmarked kind) :
    ∃ cs f, TM.Runs (TM.perform k.val u i (.copy a e)) s.dev () f ∧
      s.dev.OneTile k.val ((s.dev.tile k.val).setCells e.kind cs) f ∧
      ∀ b, cellAt cs b = if e.start ≤ b ∧ b < e.start + a.len then
          byteAt (cellsRead ((s.dev.tile k.val).cells a.kind) a.start a.len) (b - e.start)
        else cellAt ((s.dev.tile k.val).cells e.kind) b := by
  obtain ⟨d1, hread, hd1⟩ := TM.read_turns (d := s.dev) (k := k.val) (unit := u) (sp := a) (hm a.kind).1
  obtain ⟨cs, ⟨f, hwrite, hf⟩, hcs⟩ := TM.writeAll_one_turns (d := d1) (k := k.val) (unit := u) (sp := e)
    (bs := cellsRead ((s.dev.tile k.val).cells a.kind) a.start a.len) (by rw [hd1.tile]; exact hm e.kind)
  rw [hd1.tile] at hf hcs
  rw [cellsRead_length] at hcs
  refine ⟨cs, f, (TM.runs_get _).bind ?_, hd1.trans hf, hcs⟩
  dsimp only
  rw [show (TM.read k.val u a).run.run s.dev = (.ok _, d1) from hread]
  exact (TM.runs_set _ _).bind hwrite

theorem perform_lds_runs {va reg : Nat} {r : ReadResult} {d : Dev} (h : Outstanding s.dev k i u pos (.lds va reg) j x)
    (hr : s.dev.engRead x.tenant x.pasid va 8 (queueReq s.dev k u i) = (.data r, d)) (hbad : r.bad = []) :
    TM.Runs (TM.perform k.val u i (.lds va reg)) s.dev () (d.updTile k.val (fun y => y.setS reg (leNat r.bytes))) := by
  have hread := TM.memReadGood_runs (k := k.val) (u := u) (i := i) (pasid := s.dev.tilePasid k.val) (va := va) (len := 8)
    (d := s.dev) (by rw [tileTenant_of_outstanding h, tilePasid_of_outstanding h]; exact hr) hbad
  exact (TM.runs_get _).bind (hread.bind (TM.runs_upd _ _))

theorem perform_setflag_runs {va : Nat} {v : Qword} {r : ReadResult} {d : Dev}
    (h : Outstanding s.dev k i u pos (.setflag va v) j x)
    (hr : s.dev.engWrite x.tenant x.pasid va (leBytes v.toNat 8) (queueReq s.dev k u i) = (.data r, d)) :
    TM.Runs (TM.perform k.val u i (.setflag va v)) s.dev () d := by
  refine (TM.runs_get _).bind ?_
  dsimp only
  rw [tileTenant_of_outstanding h, tilePasid_of_outstanding h]
  rw [show s.dev.engWrite x.tenant x.pasid va (leBytes v.toNat 8) (s.dev.tileReq k.val (u + 1) (16 + i)) = (.data r, d) from hr]
  exact (TM.runs_set _ _).bind (TM.runs_pure _ _)

end

/-! ### STORE -/

/-- The device with other tiles. -/
def Dev.withTiles (d : Dev) (m : KMap Tile) : Dev := { d with tiles := m }

/-- Putting accesses on the host link looks at no tile. -/
theorem Dev.onBus_withTiles (d : Dev) (m : KMap Tile) (tenant pasid : Nat) (write : Bool) (ps : List (Nat × Nat × Nat)) :
    (d.withTiles m).onBus tenant pasid write ps = (d.onBus tenant pasid write ps).withTiles m := by
  have hreqs : (d.withTiles m).hostReqs tenant pasid write ps = (d.hostReqs tenant pasid write ps).withTiles m := by
    unfold Dev.hostReqs
    exact List.foldl_hom (fun d : Dev => d.withTiles m) (fun _ _ => rfl)
  have hsnoop : ∀ (e : Dev) (p : Nat × Nat × Nat), (e.withTiles m).snoop p.1 p.2.2 = (e.snoop p.1 p.2.2).withTiles m :=
    fun e p => by rw [Dev.snoop_eq, Dev.snoop_eq]; rfl
  unfold Dev.onBus
  rw [hreqs]
  exact List.foldl_hom (fun d : Dev => d.withTiles m) hsnoop

theorem Dev.writePieces_withTiles (d : Dev) (m : KMap Tile) (ps : List (Nat × Nat × Nat)) (bs : List Byte) :
    (d.withTiles m).writePieces ps bs = ((d.writePieces ps bs).1.withTiles m, (d.writePieces ps bs).2) := by
  unfold Dev.writePieces
  exact List.foldl_hom (fun a : Dev × Nat => (a.1.withTiles m, a.2)) (init := (d, 0)) (fun _ _ => rfl)

/-- Clean memory refuses and corrects nothing. -/
theorem Dev.writePieces_of_clean {d : Dev} (h : Clean d.mem) (ps : List (Nat × Nat × Nat)) (bs : List Byte) :
    (d.writePieces ps bs).2 = 0 ∧ d.writePieces ps bs = ({ d with mem := (d.writePieces ps bs).1.mem }, 0) := by
  have hall := foldl_keeps (fun (a : Dev × Nat) => a.2 = 0 ∧ Clean a.1.mem ∧ a.1 = { d with mem := a.1.mem })
    (fun (acc : Dev × Nat) (p : Nat × Nat × Nat) =>
      (({ acc.1 with mem := (acc.1.mem.writeMarks p.1 ((bs.drop p.2.1).take p.2.2)).1 } : Dev),
        acc.2 + (acc.1.mem.writeMarks p.1 ((bs.drop p.2.1).take p.2.2)).2))
    (fun a p ha => by
      obtain ⟨h0, hc, hf⟩ := ha
      obtain ⟨m', he, hw⟩ := Mem.writeMarks_of_clean hc p.1 ((bs.drop p.2.1).take p.2.2)
      refine ⟨by rw [he, h0]; rfl, ?_, ?_⟩
      · rw [he]
        exact hw.clean hc
      · dsimp only
        rw [hf]) ps (d, 0) ⟨rfl, h, rfl⟩
  obtain ⟨h0, -, hf⟩ := hall
  exact ⟨h0, Prod.ext hf h0⟩

theorem Dev.onBus_clean {d : Dev} (h : Clean d.mem) (tenant pasid : Nat) (write : Bool) (ps : List (Nat × Nat × Nat)) :
    Clean (d.onBus tenant pasid write ps).mem :=
  foldl_keeps (fun e : Dev => Clean e.mem) _ (fun e p he => Dev.snoop_clean he p.1 p.2.2) _ _
    (foldl_keeps (fun e : Dev => Clean e.mem) _ (fun e _ he => (Dev.emit_mem e _).symm ▸ he) _ _ h)

theorem Dev.busWrite_of_clean {d : Dev} (h : Clean d.mem) (tenant pasid source : Nat) (job : Option Nat)
    (ps : List (Nat × Nat × Nat)) (bs : List Byte) : d.busWrite tenant pasid source job ps bs =
      { d.onBus tenant pasid true ps with mem := ((d.onBus tenant pasid true ps).writePieces ps bs).1.mem } := by
  have hclean := Dev.onBus_clean h tenant pasid true ps
  have hce : ps.foldl (fun n p => n + (d.onBus tenant pasid true ps).mem.mergedCe p.1 p.2.2) 0 = 0 :=
    foldl_eq_self (fun p _ => (Nat.zero_add _).trans (Mem.mergedCe_of_clean hclean p.1 p.2.2))
  obtain ⟨h0, hw⟩ := Dev.writePieces_of_clean hclean ps bs
  unfold Dev.busWrite Dev.markWrite
  dsimp only
  rw [hce, h0, Dev.hbmErrors_zero]
  exact congrArg Prod.fst hw

section
variable {s : State} {k : TileId} {i u pos n j : Nat} {x : Job}

theorem perform_store_runs {va : Nat} {e : Span} {ps : List (Nat × Nat × Nat)} {d d1 : Dev}
    (h : Outstanding s.dev k i u pos (.store va e) j x)
    (htr : s.dev.translateSpan x.tenant x.pasid va e.len 1 (queueReq s.dev k u i) = (some ps, d))
    (hown : d.ownOkAll x.tenant ps true = (true, d1)) (hclean : Clean d1.mem) (hm : (d1.tile k.val).marks e.kind = []) :
    ∃ f, TM.Runs (TM.perform k.val u i (.store va e)) s.dev () f ∧
      ({ d1.onBus x.tenant x.pasid true ps with
        mem := ((d1.onBus x.tenant x.pasid true ps).writePieces ps (cellsRead ((d1.tile k.val).cells e.kind) e.start e.len)).1.mem } :
        Dev).OneTile k.val (d1.tile k.val) f := by
  obtain ⟨d2, hread, hd2⟩ := TM.read_turns (d := d1) (k := k.val) (unit := u) (sp := e) hm
  obtain ⟨m, hm2⟩ : ∃ m, d2 = d1.withTiles m := ⟨_, hd2.frame⟩
  obtain ⟨b, hb⟩ : ∃ b, b = ({ d1.onBus x.tenant x.pasid true ps with
    mem := ((d1.onBus x.tenant x.pasid true ps).writePieces ps
      (cellsRead ((d1.tile k.val).cells e.kind) e.start e.len)).1.mem } : Dev) := ⟨_, rfl⟩
  have hwrite : d2.busWrite x.tenant x.pasid (queueReq s.dev k u i).source (queueReq s.dev k u i).job ps
      (cellsRead ((d1.tile k.val).cells e.kind) e.start e.len) = b.withTiles m := by
    rw [hb, Dev.busWrite_of_clean (by rw [hm2]; exact hclean), hm2, Dev.onBus_withTiles, Dev.writePieces_withTiles]
    rfl
  rw [← hb]
  refine ⟨b.withTiles m, ?_, ⟨rfl, (congrArg (fun d : Dev => d.tile k.val) hm2).symm.trans hd2.tile, fun i hi => ?_⟩⟩
  case refine_2 =>
    have hbus : b.tile i = d1.tile i := by
      rw [hb, Dev.tile, (Dev.onBus_rep d1 x.tenant x.pasid true ps).tiles]
      rfl
    exact ((congrArg (fun d : Dev => d.tile i) hm2).symm.trans (hd2.other i hi)).trans hbus.symm
  · refine (TM.runs_get _).bind ((TM.runs_get _).bind ?_)
    dsimp only
    rw [tileTenant_of_outstanding h, tilePasid_of_outstanding h]
    rw [show s.dev.translateSpan x.tenant x.pasid va e.len 1 (s.dev.tileReq k.val (u + 1) (16 + i)) = (some ps, d) from htr]
    dsimp only
    rw [hown]
    dsimp only
    refine (TM.runs_set _ _).bind ((TM.runs_get _).bind ?_)
    rw [show (TM.read k.val u e).run.run d1 = (.ok _, d2) from hread]
    dsimp only
    rw [← hwrite]
    exact TM.runs_set _ _

end

/-! ### HLOAD -/

/-- Entries put one after another from a key. -/
theorem KMap.get_foldl_put {α β : Type} (f : β → α) (l : List β) (first n : Nat) (m : KMap α) (z : α) (a : Nat) :
    ((l.zipIdx n).foldl (fun (m : KMap α) e => m.put (first + e.2) (f e.1)) m).get a z =
      if first + n ≤ a ∧ a < first + n + l.length then (l.map f).getD (a - first - n) z else m.get a z := by
  induction l generalizing n m with
  | nil => rw [if_neg (by simp)]; rfl
  | cons b l ih =>
    rw [List.zipIdx_cons, List.foldl_cons, ih, List.map_cons]
    by_cases ha : a = first + n
    · rw [if_neg (by omega), if_pos (by rw [List.length_cons]; omega), ha, KMap.get_put_same,
        show first + n - first - n = 0 by omega, List.getD_cons_zero]
    · rw [KMap.get_put_other _ _ _ _ _ ha]
      by_cases hin : first + (n + 1) ≤ a ∧ a < first + (n + 1) + l.length
      · rw [if_pos hin, if_pos (by rw [List.length_cons]; omega), show a - first - n = a - first - (n + 1) + 1 by omega,
          List.getD_cons_succ]
      · rw [if_neg hin, if_neg (by rw [List.length_cons]; omega)]

/-- The handle entries that an HLOAD reads. -/
def handlesRead (r : ReadResult) (count : Nat) : List (Option Handle) :=
  (List.range count).map (fun i => handleOf (leNat r.bytes / 2 ^ (128 * i) % 2 ^ 128))

theorem handlesRead_getElem {r : ReadResult} {count m : Nat} (hm : m < count) :
    (handlesRead r count)[m]? = some (handleOf (leNat r.bytes / 2 ^ (128 * m) % 2 ^ 128)) := by
  unfold handlesRead
  rw [List.getElem?_map, List.getElem?_range hm]
  rfl

/-- What an HLOAD of well-formed entries makes of the handles. -/
def HandlesTo (old new : KMap Handle) (r : ReadResult) (first count : Nat) : Prop :=
  (∀ m < count, handleOf (leNat r.bytes / 2 ^ (128 * m) % 2 ^ 128) = some (new.get (first + m) {})) ∧
    ∀ m, ¬ (first ≤ m ∧ m < first + count) → new.get m {} = old.get m {}

/-- Well-formed entries take effect together. -/
theorem TM.loadHandles_runs {d : Dev} {t first count : Nat} {r : ReadResult} (hbad : r.bad = [])
    (hok : ∀ m < count, (handleOf (leNat r.bytes / 2 ^ (128 * m) % 2 ^ 128)).isSome = true) :
    ∃ (ms : KMap WordErr) (hs : KMap Handle) (es : KMap WordErr) (ks : List MaskEntry),
      TM.Runs (TM.loadHandles t first count r) d () ((d.clearPoison ms).updTile t (fun x => { x with
        handles := hs, hErr := es, masks := ks })) ∧ HandlesTo ((d.clearPoison ms).tile t).handles hs r first count := by
  have hes : ((List.range count).map (fun i => if r.bad.any (fun b => b / 16 == i) then some ({} : Handle)
      else handleOf (bitsAt (leNat r.bytes) (128 * i) 128))) = handlesRead r count := by
    unfold handlesRead
    refine List.map_congr_left (fun i _ => ?_)
    rw [hbad, bitsAt, Nat.shiftRight_eq_div_pow]
    rfl
  have hall : ((handlesRead r count).all fun e => e.isSome) = true := by
    unfold handlesRead
    rw [List.all_map, List.all_eq_true]
    exact fun i hi => hok i (List.mem_range.mp hi)
  have hlen : (handlesRead r count).length = count := by simp [handlesRead]
  obtain ⟨ms, hms⟩ : ∃ ms, ms = (d.tile t).hErr.filter (fun e => Nat.ble first (e.1 / 2) && decide (e.1 / 2 < first + count)) :=
    ⟨_, rfl⟩
  refine ⟨ms, ((handlesRead r count).zipIdx.foldl (fun (m : KMap Handle) e => m.put (first + e.2) (e.1.getD {}))
    ((d.clearPoison ms).tile t).handles),
    r.bad.foldl (fun m b => m.put (2 * first + b / 8) .poison) (((d.clearPoison ms).tile t).hErr.filter
      (fun e => !(Nat.ble first (e.1 / 2) && decide (e.1 / 2 < first + count)))),
    ((d.clearPoison ms).tile t).masks.filter (fun e => !(Nat.ble first e.handle && decide (e.handle < first + count))),
    ?_, fun m hm => ?_, fun m hm => ?_⟩
  · unfold TM.loadHandles
    dsimp only
    rw [hes]
    refine (TM.runs_need hall _ d).bind ?_
    rw [hms]
    exact TM.runs_upd _ d
  · have hsome := hok m hm
    have hget := handlesRead_getElem (r := r) hm
    rw [KMap.get_foldl_put (fun e : Option Handle => e.getD {}), if_pos (by rw [hlen]; omega),
      show first + m - first - 0 = m by omega, List.getD_eq_getElem?_getD, List.getElem?_map, hget, Option.map_some,
      Option.getD_some]
    obtain ⟨h, hh⟩ := Option.isSome_iff_exists.mp hsome
    rw [hh, Option.getD_some]
  · rw [KMap.get_foldl_put (fun e : Option Handle => e.getD {}), if_neg (by rw [hlen]; omega)]

/-! ### GATHER -/

section
variable {s : State} {k : TileId} {i u pos n j : Nat} {x : Job}

theorem TM.mapM_one_runs {α β : Type} {f : α → TM β} {a : α} {b : β} {d e : Dev} (h : TM.Runs (f a) d b e) :
    TM.Runs ([a].mapM f) d [b] e := h.bind (TM.runs_pure [b] e)

/-- The registers of a GATHER after it has moved its pages. -/
def Tile.gathered (y : Tile) (creg pages sreg next : Nat) : Tile := (y.setS creg pages).setS sreg next

theorem perform_gather_runs {seq layer group creg sreg next : Nat} {v : Bool} {pages : List Nat} {e : Span} {d : Dev}
    (hrun : TM.Runs (TM.gatherPages k.val u i seq layer group v pages e) s.dev () d) :
    TM.Runs (TM.perform k.val u i (.gather seq layer group v pages e creg sreg next)) s.dev ()
      (d.updTile k.val (fun y => y.gathered creg pages.length sreg next)) :=
  (TM.runs_get _).bind (hrun.bind (TM.runs_upd _ _))

theorem gatherPages_none_turns {seq layer group : Nat} {v : Bool} {e : Span} {q : Seq}
    (hq : s.dev.seqOf (s.dev.tileTenant k.val) seq = some q) :
    TM.Turns (TM.gatherPages k.val u i seq layer group v [] e) s.dev k.val () (s.dev.tile k.val) := by
  have hpoison := (Dev.OneTile.refl s.dev k.val).updTile (fun x => x.setMarks e.kind (x.marks e.kind))
  rw [Tile.setMarks_self] at hpoison
  refine ⟨s.dev.spmPoison k.val e.kind e.start [], ?_, hpoison⟩
  refine (TM.runs_get _).bind ?_
  dsimp only
  rw [hq]
  exact (TM.runs_pure [] _).bind ((TM.runs_pure [] _).bind ((TM.runs_get _).bind ((TM.runs_set _ _).bind (TM.runs_pure _ _))))

theorem gatherPages_one_runs {seq layer group p : Nat} {e : Span} {q : Seq} {r1 r2 : ReadResult} {d1 d2 : Dev}
    (hten : s.dev.tileTenant k.val = x.tenant) (hq : s.dev.seqOf x.tenant seq = some q)
    (h1 : s.dev.engRead x.tenant (s.dev.obj 0x6010 0 x.tenant) (q.descVa layer group p) 16 (queueReq s.dev k u i) = (.data r1, d1))
    (hb1 : r1.bad = []) (hst : (descOf (leNat r1.bytes)).st ≠ 0) (hten1 : d1.tileTenant k.val = x.tenant)
    (h2 : d1.engRead x.tenant (s.dev.obj 0x6010 0 x.tenant) (descOf (leNat r1.bytes)).key (q.payload false) (queueReq d1 k u i) =
      (.data r2, d2)) (hb2 : r2.bad = []) (hm : (d2.tile k.val).Unmarked e.kind) :
    ∃ cs, ∃ f, TM.Runs (TM.gatherPages k.val u i seq layer group false [p] e) s.dev () f ∧
      d2.OneTile k.val ((d2.tile k.val).setCells e.kind cs) f ∧
      ∀ a, cellAt cs a = if e.start ≤ a ∧ a < e.start + r2.bytes.length then byteAt r2.bytes (a - e.start)
        else cellAt ((d2.tile k.val).cells e.kind) a := by
  have hdesc := TM.memReadGood_runs (d := s.dev) (k := k.val) (u := u) (i := i) (by rw [hten]; exact h1) hb1
  have hpage := TM.memRead_runs (d := d1) (k := k.val) (u := u) (i := i) (by rw [hten1]; exact h2)
  have hfold : ([r2].foldl (fun (a r : ReadResult) =>
      { bytes := a.bytes ++ r.bytes, bad := a.bad ++ r.bad.map (· + a.bytes.length), badLines := 0, corrected := 0 })
      ⟨[], [], 0, 0⟩) = ({ bytes := r2.bytes, bad := [], badLines := 0, corrected := 0 } : ReadResult) := by
    rw [List.foldl_cons, List.foldl_nil, hb2]
    rfl
  obtain ⟨cs, ⟨f, hland, hf⟩, hcs⟩ := TM.land_turns (u := u) (sp := e) (d := d2) (k := k.val)
    (r := { bytes := r2.bytes, bad := [], badLines := 0, corrected := 0 }) hm rfl
  rw [← hfold] at hland
  refine ⟨cs, f, ?_, hf, hcs⟩
  refine (TM.runs_get _).bind ?_
  dsimp only
  rw [hten, hq]
  refine TM.Runs.bind (TM.mapM_one_runs (b := (descOf (leNat r1.bytes)).key) (e := d1) ?_)
    (TM.Runs.bind (TM.mapM_one_runs (b := r2) (e := d2) hpage) hland)
  exact hdesc.bind ((TM.runs_need (bne_iff_ne.mpr hst) _ d1).bind (TM.runs_pure _ d1))

end

/-! ### The obligation -/

/-- Settles O37: what is performed, by the kind of the outstanding command. -/
theorem completions : Obligations.Completions := by
  refine ⟨fun s k i u pos n j va x e r d h hk hr hbad hlen h1 h2 h3 h4 => ?load,
    fun s k i u pos n j va x e ps d d1 h hk htr hown hclean h1 h2 => ?store,
    fun s k i u pos n j x a e h ha he hlen h1 h2 h3 h4 => ?copy, fun s k i u pos n j va reg x r d h hr hbad => ?lds,
    fun s k i u pos n j va v x r d h hr => ?setflag, fun s k i u pos n j va first count x r d h hr hbad hok => ?hload,
    fun s k i u pos n j seq layer group creg sreg next v e x q h hlen hq => ?gatherNone,
    fun s k i u pos n j seq layer group p creg e x q r1 r2 d1 d2 h hk hq hr1 hb1 hst hj1 hr2 hb2 hlen h1 h2 => ?gatherOne⟩
  case load =>
    obtain ⟨cs, f, hrun, hf, hcs⟩ := perform_load_runs h hr hbad (unmarked_of_fields h1 h2 h3 h4)
    refine nexts_tcwComplete h n ⟨f, hrun, hf⟩ ?_ (fun g hg => ?_)
    · rw [Tile.setCells_frame]
      exact Dev.engRead_out hr k.val
    · refine ⟨?_, ?_, ?_, ?_, hg.onlyTileOf s⟩ <;> dsimp only <;> rw [hg.tile]
      · exact storeHolds_completed (storeHolds_of_cells hk hlen hcs) i n []
      · rfl
      · rw [Tile.completed_frame, Tile.setCells_frame]
      · rw [Tile.completed_frame, Tile.setCells_frame]
  case store =>
    have hmarks : (d1.tile k.val).marks e.kind = [] := by
      unfold Tile.marks
      split
      · exact h1
      · exact h2
    obtain ⟨f, hrun, hf⟩ := perform_store_runs h htr hown hclean hmarks
    refine nexts_tcwComplete h n ⟨f, hrun, hf⟩ ?_ (fun g hg => ?_)
    · have hxl := (Dev.translateSpan_xl s.dev x.tenant x.pasid va e.len 1 (queueReq s.dev k u i)).eng
      have hrep := (Dev.ownOkAll_rep d x.tenant ps true).eng
      rw [htr] at hxl
      rw [hown] at hrep
      rw [(hxl.trans hrep).2.1 k.val]
    · refine ⟨?_, ?_, fun kind a => ?_, ?_, ?_⟩
      · exact congrArg Tile.out hg.tile
      · rw [hg.frame]
      · dsimp only
        rw [hg.tile, Tile.completed_cells]
      · dsimp only
        rw [hg.tile, Tile.completed_frame]
      · obtain ⟨m, hm⟩ : ∃ m, g = { d1.onBus x.tenant x.pasid true ps with
            mem := ((d1.onBus x.tenant x.pasid true ps).writePieces ps
              (cellsRead ((d1.tile k.val).cells e.kind) e.start e.len)).1.mem
            tiles := m } := ⟨_, hg.frame⟩
        rw [hm]
  case copy =>
    obtain ⟨cs, f, hrun, hf, hcs⟩ := perform_copy_runs (u := u) (i := i) (a := a) (e := e)
      (fun kind => unmarked_of_fields (kind := kind) h1 h2 h3 h4)
    refine nexts_tcwComplete h n ⟨f, hrun, hf⟩ (by rw [Tile.setCells_frame]) (fun g hg => ?_)
    refine ⟨hg.onlyTileOf s, ?_, ?_, ?_⟩ <;> dsimp only <;> rw [hg.tile]
    · exact storeHolds_completed (storeHolds_of_cells he (by rw [cellsRead_length, hlen]) (by rw [cellsRead_length]; exact hcs)) i n []
    · rfl
    · rw [Tile.completed_frame, Tile.setCells_frame]
  case lds =>
    refine nexts_tcwComplete h n ⟨_, perform_lds_runs h hr hbad, (Dev.OneTile.refl d k.val).updTile _⟩ ?_ (fun g hg => ?_)
    · rw [Tile.setS_frame]
      exact Dev.engRead_out hr k.val
    · refine ⟨hg.onlyTileOf s, ?_, fun h0 => ?_, fun m hm => ?_⟩ <;> dsimp only <;> rw [hg.tile]
      · rfl
      · rw [Tile.completed_s, Tile.s_setS_same _ h0]
      · rw [Tile.completed_s, Tile.s_setS_other _ hm]
  case setflag =>
    refine nexts_tcwComplete h n ⟨d, perform_setflag_runs h hr, .refl d k.val⟩ ?_ (fun g hg => ?_)
    · have heng := Dev.engWrite_eng s.dev x.tenant x.pasid va (leBytes v.toNat 8) (queueReq s.dev k u i)
      rw [hr] at heng
      rw [heng.2.1 k.val]
    · refine ⟨hg.onlyTileOf s, ?_, ?_, ?_⟩ <;> dsimp only
      · rw [hg.tile]
        rfl
      · rw [hg.tile, Tile.completed_frame]
      · rw [hg.frame]
  case hload =>
    obtain ⟨ms, hs, es, ks, hrun, hnew, hold⟩ := TM.loadHandles_runs (d := d) (t := k.val) (first := first) hbad hok
    obtain ⟨m, hm⟩ : ∃ m, d.clearPoison ms = { d with dict := m } := ⟨_, d.clearPoison_frame ms⟩
    have hread := TM.memRead_runs (k := k.val) (u := u) (i := i) (pasid := s.dev.tilePasid k.val) (va := va) (len := 16 * count)
      (d := s.dev) (by rw [tileTenant_of_outstanding h, tilePasid_of_outstanding h]; exact hr)
    refine nexts_tcwComplete h n ⟨_, (TM.runs_get _).bind (hread.bind hrun), (Dev.OneTile.refl _ k.val).updTile _⟩ ?_
      (fun g hg => ?_)
    · rw [hm]
      exact Dev.engRead_out hr k.val
    · obtain ⟨ts, hts⟩ : ∃ ts, g = { d with dict := m, tiles := ts } := ⟨g.tiles, by rw [hg.frame, hm]⟩
      refine ⟨by rw [hts], fun j hj => ?_, ?_, fun a ha => ?_, fun a ha => ?_⟩
      · have hother := hg.other j.val (fun hv => hj (Fin.ext hv))
        rw [hm] at hother
        exact hother
      · exact congrArg Tile.out hg.tile
      · dsimp only
        rw [hg.tile, Tile.completed_frame]
        exact hnew a ha
      · dsimp only
        rw [hg.tile, Tile.completed_frame]
        rw [hm] at hold
        exact hold a ha
  case gatherNone =>
    obtain ⟨f, hrun, hf⟩ := gatherPages_none_turns (u := u) (i := i) (layer := layer) (group := group) (v := v) (e := e)
      (by rw [tileTenant_of_outstanding h]; exact hq)
    refine nexts_tcwComplete h n ⟨_, perform_gather_runs hrun, hf.updTile _⟩ ?_ (fun g hg => ?_)
    · rw [Tile.gathered, Tile.setS_frame, Tile.setS_frame]
    · refine ⟨hg.onlyTileOf s, ?_, fun h0 hne => ?_, fun h0 => ?_, fun m h1 h2 => ?_, fun kind a => ?_⟩ <;> dsimp only <;>
        rw [hg.tile]
      · rfl
      · rw [Tile.completed_s, Tile.gathered, Tile.s_setS_other _ hne, Tile.s_setS_same _ h0]
        rfl
      · rw [Tile.completed_s, Tile.gathered, Tile.s_setS_same _ h0]
      · rw [Tile.completed_s, Tile.gathered, Tile.s_setS_other _ h2, Tile.s_setS_other _ h1]
      · rw [Tile.completed_cells, Tile.gathered, Tile.setS_frame, Tile.setS_frame]
        rfl
  case gatherOne =>
    have hten1 : d1.tileTenant k.val = x.tenant := by rw [Dev.tileTenant, hj1]; rfl
    have hm : (d2.tile k.val).Unmarked e.kind := by rw [hk]; exact ⟨h1, h2⟩
    obtain ⟨cs, f, hrun, hf, hcs⟩ := gatherPages_one_runs (tileTenant_of_outstanding h) hq hr1 hb1 hst hten1 hr2 hb2 hm
    refine nexts_tcwComplete h n ⟨_, perform_gather_runs hrun, hf.updTile _⟩ ?_ (fun g hg => ?_)
    · rw [Tile.gathered, Tile.setS_frame, Tile.setS_frame, Tile.setCells_frame]
      exact (Dev.engRead_out hr2 k.val).trans (Dev.engRead_out hr1 k.val)
    · refine ⟨hg.onlyTileOf s, ?_, ?_, fun h0 => ?_⟩ <;> dsimp only <;> rw [hg.tile]
      · rfl
      · have hstore := storeHolds_of_cells (y := d2.tile k.val) (.inl hk) hlen hcs
        refine storeHolds_completed ?_ i n []
        rw [Tile.gathered, Tile.setS_frame, Tile.setS_frame]
        exact hstore
      · rw [Tile.completed_s, Tile.gathered, Tile.s_setS_other _ h0, Tile.s_setS_same _ h0]
        rfl

end Sys2Proof.Machine

/-! ## Page moves, advice and evictions (R179 to R181, R257, R258, R401) -/

namespace Sys2Proof.Machine

open Sys2Proof.Stm

/-! ### The pages of a PREFETCH or an ADVISE -/

theorem inlinePages_eq (x : Job) : inlinePages x = x.inline / 2 ^ 32 % 2 ^ 32 := bitsAt_eq _ _ _

theorem inlineMode_eq (x : Job) : inlineMode x = x.inline % 256 := by simp [inlineMode, bitsAt]

theorem Job.scanVa_eq (x : Job) : x.scanVa = (x.inline / 2 ^ 64 % 2 ^ 64 + 4096 * x.scanPos) % 2 ^ 64 := by
  rw [Job.scanVa, inlineVa, bitsAt_eq]

/-- A range is done: its job ends with OK. -/
theorem Dev.scanNext_of_done {d : Dev} {j : Nat} {x : Job} (hx : KMap.find d.jobs j = some x)
    (hm : ∀ m ∈ d.stu.moves, m.job ≠ some j) (hpos : inlinePages x ≤ x.scanPos) : d.scanNext j = d.endJob j 0 0 := by
  have hany : d.stu.moves.any (fun m => m.job == some j) = false :=
    List.any_eq_false.mpr fun m hmem => by simpa using hm m hmem
  unfold Dev.scanNext
  rw [hx]
  dsimp only
  rw [hany, if_neg Bool.false_ne_true, if_pos hpos]

/-- A job whose page is moving waits. -/
theorem Dev.scanNext_of_move {d : Dev} {j : Nat} {m : Move} (hm : m ∈ d.stu.moves) (hj : m.job = some j) :
    d.scanNext j = d := by
  have hany : d.stu.moves.any (fun m => m.job == some j) = true := List.any_eq_true.mpr ⟨m, hm, by simp [hj]⟩
  unfold Dev.scanNext
  split
  · rfl
  · exact if_pos hany

/-- The next page of a range is asked for. -/
theorem Dev.scanNext_of_page {d : Dev} {j : Nat} {x : Job} (hx : KMap.find d.jobs j = some x)
    (hm : ∀ m ∈ d.stu.moves, m.job ≠ some j) (hpos : x.scanPos < inlinePages x) :
    d.scanNext j = d.pageWalk x.tenant x.pasid x.scanVa (d.moveReq j) := by
  have hany : d.stu.moves.any (fun m => m.job == some j) = false :=
    List.any_eq_false.mpr fun m hmem => by simpa using hm m hmem
  unfold Dev.scanNext
  rw [hx]
  dsimp only
  rw [hany, if_neg Bool.false_ne_true, if_neg (Nat.not_le.mpr hpos)]

/-- What goes on after a page leaves memory, the moves and the advice as they are. -/
theorem Dev.scanNext_frame {d : Dev} {j : Nat} {x : Job} (hx : KMap.find d.jobs j = some x) (hst : x.st = .waiting) :
    (d.scanNext j).mem = d.mem ∧ (d.scanNext j).stu.moves = d.stu.moves ∧ (d.scanNext j).stu.advice = d.stu.advice := by
  have hlive : ∀ n, x.st ≠ .ended n := fun n => by rw [hst]; exact JobState.noConfusion
  unfold Dev.scanNext
  rw [hx]
  dsimp only
  split
  · exact ⟨rfl, rfl, rfl⟩
  · split
    · rw [Dev.endJob_frame hx hlive]
      exact ⟨rfl, rfl, rfl⟩
    · unfold Dev.pageWalk
      dsimp only
      split
      · exact ⟨rfl, rfl, rfl⟩
      · unfold Dev.requestWalk
        dsimp only
        split <;> exact ⟨rfl, rfl, rfl⟩

/-- A job that waits ends with OK. -/
theorem Dev.endJob_endsOk {s : State} {d : Dev} {j : Nat} {x : Job} (hx : KMap.find d.jobs j = some x) (hst : x.st = .waiting) :
    EndsOk { s with dev := d.endJob j 0 0 } j ∧ (d.endJob j 0 0).mem = d.mem ∧ (d.endJob j 0 0).stu.moves = d.stu.moves := by
  have hlive : ∀ n, x.st ≠ .ended n := fun n => by rw [hst]; exact JobState.noConfusion
  refine ⟨⟨_, (congrArg (KMap.find · j) (Dev.endJob_jobs hx hlive 0 0)).trans (KMap.find_put_same _ _ _), rfl⟩, ?_⟩
  rw [Dev.endJob_frame hx hlive]
  exact ⟨rfl, rfl⟩

/-- The request of the migration engine for a page of a job. -/
def Job.moveReq (x : Job) (j : Nat) : Requester :=
  { source := 0x82, job := some j, ring := x.ring, sqIndex := x.sqIndex, userTag := x.userTag, prio := x.effClass
    va := x.scanVa }

/-- With nothing waiting, the walk of a page that does not move is the device's only one. -/
theorem Dev.pageWalk_of_none {d : Dev} {tenant pasid va : Nat} {r : Requester} (hm : d.moving tenant pasid va = false)
    (hw : d.stu.walks = []) (hf : d.stu.faults = []) (hq : d.stu.faultWait = []) :
    d.pageWalk tenant pasid va r = { d with stu := { d.stu with
      walks := [(d.stu.nextWalk, { tenant := tenant, pasid := pasid, va := va, reqs := [{ r with va := va }] })]
      nextWalk := d.stu.nextWalk + 1 } } := by
  have hwait : d.waitingReq tenant pasid va { r with va := va } = false := by
    rw [Dev.waitingReq, hw, hf, hq]
    rfl
  unfold Dev.pageWalk
  dsimp only
  rw [hm, hwait, if_neg (by decide), Dev.requestWalk_of_none hw]

/-- A command that goes through its pages: taken, it goes on. -/
theorem scanCmd_of_exec {c : Nat → Instr} {op : Nat} {ok : Nat → Bool}
    (h : ∀ (s : State) (j : Nat) (x : Job), Waits s.dev j op x → ok (x.inline % 256) = true →
      exec (c j) s = .next { s with
        dev := (s.dev.setJob j { x with taken := true }).scanNext j }) : ScanCmd c op ok := by
  refine ⟨fun s j x hw hok hm hpos hmov hwalk hf hq => ?_, fun s j x hw hok hm hpos => ?_⟩
  · have hfind : KMap.find (s.dev.setJob j { x with taken := true }).jobs j = some { x with taken := true } :=
      KMap.find_put_same _ _ _
    have hreq : ({ (s.dev.setJob j { x with taken := true }).moveReq j with va := x.scanVa } : Requester) = x.moveReq j := by
      unfold Dev.moveReq Dev.withJob
      dsimp only
      rw [hfind]
      rfl
    have hdev := (Dev.scanNext_of_page hfind hm (lt_of_lt_of_eq hpos (inlinePages_eq x).symm)).trans
      (Dev.pageWalk_of_none (d := s.dev.setJob j { x with taken := true }) hmov hwalk hf hq)
    rw [show ({ x with taken := true } : Job).scanVa = x.scanVa from rfl, hreq] at hdev
    refine ⟨_, h s j x hw hok, ?_⟩
    rw [hdev]
    exact ⟨⟨_, _, rfl, rfl, rfl, rfl, x.scanVa_eq, rfl, rfl, rfl, rfl⟩, hfind, rfl⟩
  · have hfind : KMap.find (s.dev.setJob j { x with taken := true }).jobs j = some { x with taken := true } :=
      KMap.find_put_same _ _ _
    have hst : x.st = .waiting := hw.2.2.2.1
    refine ⟨_, h s j x hw hok, rfl, ?_⟩
    rw [Dev.scanNext_of_done hfind hm ((inlinePages_eq x).trans_le hpos)]
    exact Dev.endJob_endsOk hfind hst

theorem scanCmd_prefetchToHbm : ScanCmd .prefetchToHbm 2 (fun m => m == 1) :=
  scanCmd_of_exec fun s j x hw hok => by
    refine exec_dev rfl ?_
    have hmode : ¬ (inlineMode { x with taken := true } != 1) = true := by
      rw [show inlineMode { x with taken := true } = _ from inlineMode_eq x]
      simpa using hok
    dsimp only
    unfold Dev.prefetch
    rw [Dev.takes_of_waits hw]
    exact if_neg hmode

theorem scanCmd_prefetchToHost : ScanCmd .prefetchToHost 2 (fun m => m == 2) :=
  scanCmd_of_exec fun s j x hw hok => by
    refine exec_dev rfl ?_
    have hmode : ¬ (inlineMode { x with taken := true } != 2) = true := by
      rw [show inlineMode { x with taken := true } = _ from inlineMode_eq x]
      simpa using hok
    dsimp only
    unfold Dev.prefetch
    rw [Dev.takes_of_waits hw]
    exact if_neg hmode

theorem scanCmd_advise : ScanCmd .advise 3 (fun _ => true) :=
  scanCmd_of_exec fun s j x hw _ => by
    refine exec_dev rfl ?_
    dsimp only
    rw [Dev.takes_of_waits hw]

/-! ### The walk of a page ends -/

/-- A walk that leaves nothing in its caches: those of device `e` stand. -/
def Dev.withWalkCaches (d e : Dev) : Dev :=
  { d with stu := { d.stu with ctxCache := e.stu.ctxCache, walkCache := e.stu.walkCache } }

section
variable {s : State} {k j : Nat} {w : Walk} {r : Requester} {x : Job} {d : Dev} (h : PageWalked s k j w r x d)
include h

/-- A leaf found for the migration engine goes to it, and stands in no cache. -/
theorem exec_walkComplete_of_moves {e : TlbEntry} {pte l a : Nat} (hwalk : walkEndOf s.dev k w = (.leaf e pte l a, d)) :
    exec (.walkComplete k) s = .next { s with
      dev := (d.withWalkCaches (s.dev.walkEnded k w)).moveLeaf w.tenant w.pasid r ⟨pte, l, a⟩ } := by
  obtain ⟨hs, hw, ha, hdelay, hdead, hreqs, hsrc, htag, -⟩ := h
  have hchecks : r.checks = false := by simp [Requester.checks, hsrc]
  have hmoves : r.moves = true := by simp [Requester.moves, hsrc, htag]
  have hspecial : (r.checks || r.moves) = true := by simp [hmoves]
  have hfs : [r].filter (fun r => r.checks || r.moves) = [r] := List.filter_cons_of_pos hspecial
  have hfp : [r].filter (fun r => !(r.checks || r.moves)) = [] :=
    List.filter_cons_of_neg (by rw [hspecial]; decide)
  refine exec_dev rfl ((if_pos hs).trans ?_)
  unfold Dev.walkComplete
  rw [hw]
  dsimp only
  rw [if_neg (Dev.walk_inTime ha hdelay hdead)]
  change (match (s.dev.walkEnded k w).walk w.tenant w.pasid w.va with | (.leaf e pte level addr, d') => _ | (.fault c l, d) => _) = _
  rw [show (s.dev.walkEnded k w).walk w.tenant w.pasid w.va = _ from hwalk]
  dsimp only
  rw [hreqs, hfs, hfp]
  exact if_neg (by rw [hchecks]; decide)

/-- A page that is not mapped and does not move is skipped. -/
theorem exec_walkComplete_of_skip {l : Nat} (hwalk : walkEndOf s.dev k w = (.fault 1 l, d))
    (hm : ∀ m ∈ d.stu.moves, m.tenant ≠ w.tenant) :
    exec (.walkComplete k) s = .next { s with
      dev := (d.setJob j { x with scanPos := x.scanPos + 1 }).scanNext j } := by
  obtain ⟨hs, hw, ha, hdelay, hdead, hreqs, hsrc, htag, hj, hx, -⟩ := h
  have hchecks : r.checks = false := by simp [Requester.checks, hsrc]
  have hmoves : r.moves = true := by simp [Requester.moves, hsrc, htag]
  have hmov : d.moving w.tenant w.pasid r.va = false :=
    List.any_eq_false.mpr fun m hmem => by simp [hm m hmem]
  refine exec_dev rfl ((if_pos hs).trans ?_)
  rw [Dev.walkComplete_fault hw ha hdelay hdead hwalk, hreqs, List.foldl_cons, List.foldl_nil]
  unfold Dev.walkFault
  rw [hchecks, hmoves, hj]
  rw [if_neg Bool.false_ne_true, if_neg (by decide), if_pos (by simp)]
  unfold Dev.moveSkip
  rw [hj]
  dsimp only
  rw [hx]
  exact if_neg (by rw [hmov]; decide)

end

/-! ### A leaf that is found -/

/-- Where a leaf's PTEs stand, and how many there are. -/
def Leaf.ptes (l : Leaf) : Nat × Nat := if l.napot then (l.addr - l.addr % 128, 16) else (l.addr, 1)

theorem Dev.putPte_eq (d : Dev) (l : Leaf) (pte : Nat) : d.putPte l pte =
    (d.snoop l.ptes.1 (8 * l.ptes.2)).markWrite 0 0x89 none [(l.ptes.1, 0, 8 * l.ptes.2)]
      (List.replicate l.ptes.2 (leBytes pte 8)).flatten := by
  unfold Dev.putPte Leaf.ptes
  rfl

theorem Dev.putPte_rep (d : Dev) (l : Leaf) (pte : Nat) : d.Rep (d.putPte l pte) := by
  rw [Dev.putPte_eq]
  exact (d.snoop_rep _ _).trans (Dev.markWrite_rep _ _ _ _ _ _)

theorem Dev.hbmErrors_stuKept (d : Dev) (tenant source : Nat) (job : Option Nat) (ue ce : Nat) :
    d.StuKept (d.hbmErrors tenant source job ue ce) := by
  have hcount : d.StuKept (d.countOnly 5 tenant ce) := by
    unfold Dev.countOnly
    split
    · exact .refl d
    · exact d.bump_stuKept _ _ _ _ _
  unfold Dev.hbmErrors
  dsimp only
  split
  · exact hcount
  · exact hcount.trans (Dev.report_stuKept _ _)

theorem Dev.markWrite_stuKept (d : Dev) (tenant source : Nat) (job : Option Nat) (ps : List (Nat × Nat × Nat))
    (bs : List Byte) : d.StuKept (d.markWrite tenant source job ps bs) :=
  have hstu := congrArg Dev.stu (Dev.writePieces_frame d ps bs).1
  Dev.StuKept.trans (.of_stu hstu) (Dev.hbmErrors_stuKept _ _ _ _ _ _)

theorem Dev.putPte_stuKept (d : Dev) (l : Leaf) (pte : Nat) : d.StuKept (d.putPte l pte) := by
  rw [Dev.putPte_eq]
  exact (d.snoop_stuKept _ _).trans (Dev.markWrite_stuKept _ _ _ _ _ _)

theorem Dev.fenceRemove_frame (d : Dev) (va asid : Option Nat) : d.fenceRemove va asid = { d with
    dict := (d.fenceRemove va asid).dict
    tiles := (d.fenceRemove va asid).tiles
    stu := { d.stu with
      iotlb := d.stu.iotlb.filter (fun e => !fenceHits va asid e)
      chipTlb := (d.fenceRemove va asid).stu.chipTlb
      walkCache := (d.fenceRemove va asid).stu.walkCache
      ctxCache := (d.fenceRemove va asid).stu.ctxCache } } := rfl

theorem Dev.startMove_jobs (d : Dev) (tenant pasid va : Nat) (l : Leaf) (toHbm : Bool) (job : Option Nat) :
    (d.startMove tenant pasid va l toHbm job).jobs = d.jobs := by
  have hjobs : (d.putPte l (l.pte - l.pte % 2)).jobs = d.jobs := by rw [(d.putPte_rep l (l.pte - l.pte % 2)).1]
  rw [← hjobs]
  unfold Dev.startMove
  dsimp only
  rw [Dev.fenceRemove_frame]

/-- The move of a leaf, as it is entered. -/
def Leaf.move (l : Leaf) (tenant pasid va : Nat) (toHbm : Bool) (job : Option Nat) : Move :=
  { tenant := tenant, pasid := pasid, va := l.base va, level := l.level, pteAddr := l.addr, pte := l.pte, src := l.src
    bytes := l.bytes, toHbm := toHbm, job := job }

theorem Dev.startMove_moves (d : Dev) (tenant pasid va : Nat) (l : Leaf) (toHbm : Bool) (job : Option Nat) :
    (d.startMove tenant pasid va l toHbm job).stu.moves = d.stu.moves ++ [l.move tenant pasid va toHbm job] := by
  have hmoves : (d.putPte l (l.pte - l.pte % 2)).stu.moves = d.stu.moves := by rw [d.putPte_stuKept l (l.pte - l.pte % 2)]
  rw [← hmoves]
  unfold Dev.startMove
  dsimp only
  rw [Dev.fenceRemove_frame]
  rfl

/-- The page of a move stands in no entry of the IOTLB. -/
theorem Dev.startMove_iotlb (d : Dev) (tenant pasid va : Nat) (l : Leaf) (toHbm : Bool) (job : Option Nat) :
    ∀ e ∈ (d.startMove tenant pasid va l toHbm job).stu.iotlb, ¬ (e.vpn ≤ va / 4096 ∧ va / 4096 < e.vpn + e.pages) := by
  intro e he hin
  unfold Dev.startMove at he
  dsimp only at he
  rw [Dev.fenceRemove_frame] at he
  have hhit : fenceHits (some va) none e = true := by simp [fenceHits, hin]
  have hnot := (List.mem_filter.mp he).2
  rw [hhit] at hnot
  cases hnot

theorem wantMove_of_host {tenant pasid va : Nat} {d : Dev} {l : Leaf} (h : 2 ^ 55 ≤ l.src) :
    wantMove tenant pasid true d va l = true :=
  Nat.ble_eq.mpr h

/-- A job's leaf in the host window begins to move, and the job waits for it. -/
theorem Dev.moveLeaf_of_host {d : Dev} {tenant pasid j : Nat} {r : Requester} {l : Leaf} {x : Job} (hj : r.job = some j)
    (hx : KMap.find d.jobs j = some x) (hop : x.opcode = 2) (hmode : inlineMode x = 1) (hsrc : 2 ^ 55 ≤ l.src) :
    d.moveLeaf tenant pasid r l = (d.setJob j { x with scanPos := x.scanPos + l.pagesFrom r.va }).startMove x.tenant x.pasid r.va
      l true (some j) := by
  have hleaf : d.scanLeaf j x r.va l = (d.setJob j { x with scanPos := x.scanPos + l.pagesFrom r.va }).startMove x.tenant x.pasid
      r.va l true (some j) := by
    unfold Dev.scanLeaf
    dsimp only
    rw [if_pos hop, hmode, show ((1 : Nat) == 1) = true from rfl, wantMove_of_host hsrc]
    exact if_pos rfl
  unfold Dev.moveLeaf
  rw [hj]
  dsimp only
  rw [hx]
  dsimp only
  rw [hleaf]
  refine Dev.scanNext_of_move (m := l.move x.tenant x.pasid r.va true (some j)) ?_ rfl
  rw [Dev.startMove_moves]
  exact List.mem_append_right _ (List.mem_singleton_self _)

/-- The pages of an ADVISE take its attribute. -/
theorem Dev.mem_setAdvice {d : Dev} {tenant pasid vpn n mode i : Nat} (hmode : mode ≠ 1) (hi : i < n) :
    (⟨tenant, pasid, vpn + i, mode⟩ : Advice) ∈ (d.setAdvice tenant pasid vpn n mode).stu.advice := by
  unfold Dev.setAdvice
  dsimp only
  rw [if_neg hmode]
  exact List.mem_append_right _ (List.mem_map.mpr ⟨i, List.mem_range.mpr hi, rfl⟩)

/-- An ADVISE goes on from the leaf that it was given. -/
theorem Dev.moveLeaf_of_advise {d : Dev} {tenant pasid j : Nat} {r : Requester} {l : Leaf} {x : Job} (hj : r.job = some j)
    (hx : KMap.find d.jobs j = some x) (hop : x.opcode = 3) :
    d.moveLeaf tenant pasid r l = ((d.setJob j { x with scanPos := x.scanPos + l.pagesFrom r.va }).setAdvice x.tenant x.pasid
      (r.va / 4096) (Nat.min (l.pagesFrom r.va) (inlinePages x - x.scanPos)) (inlineMode x)).scanNext j := by
  unfold Dev.moveLeaf
  rw [hj]
  dsimp only
  rw [hx]
  unfold Dev.scanLeaf
  dsimp only
  rw [if_neg (by omega)]

end Sys2Proof.Machine

/-! ## The end of a page move (R179, R180, R400) and the pages of an eviction (R257) -/

namespace Sys2Proof.Machine

open Sys2Proof.Stm

/-! ### A page is copied -/

/-- Keys that move from `src` on to `dst` on. -/
theorem KMap.find_moved {α : Type} {m : KMap α} {src : Nat} (h : ∀ c ∈ m, src ≤ c.1) (dst a : Nat) :
    KMap.find (m.map (fun c => (c.1 - src + dst, c.2)) : KMap α) (dst + a) = KMap.find m (src + a) := by
  induction m with
  | nil => rfl
  | cons c m ih =>
    obtain ⟨n, v⟩ := c
    have hn : src ≤ n := h _ List.mem_cons_self
    rw [List.map_cons, KMap.find_cons, KMap.find_cons, ih (fun c hc => h c (List.mem_cons_of_mem _ hc))]
    exact if_congr (by dsimp only; omega) rfl rfl

theorem KMap.find_moved_below {α : Type} (m : KMap α) {src dst a : Nat} (h : a < dst) :
    KMap.find (m.map (fun c => (c.1 - src + dst, c.2)) : KMap α) a = none := by
  induction m with
  | nil => rfl
  | cons c m ih =>
    obtain ⟨n, v⟩ := c
    rw [List.map_cons, KMap.find_cons, if_neg (by dsimp only; omega), ih]

/-- The cells after a copy: those of the span are the source's. -/
theorem Mem.copyRange_byte (m : Mem) (src dst len : Nat) :
    (∀ i < len, (m.copyRange src dst len).byte (dst + i) = m.byte (src + i)) ∧
    (∀ a, ¬ (dst ≤ a ∧ a < dst + len) → (m.copyRange src dst len).byte a = m.byte a) := by
  obtain ⟨s, hs⟩ : ∃ s : KMap Byte, s = m.cells.filter (fun c => Nat.ble src c.1 && decide (c.1 < src + len)) := ⟨_, rfl⟩
  have hge : ∀ c ∈ s, src ≤ c.1 := fun c hc => by
    rw [hs] at hc
    simpa using (Bool.and_eq_true_iff.mp (List.mem_filter.mp hc).2).1
  have hcells : ∀ a, (m.copyRange src dst len).byte a = (((KMap.find (m.cells.filter (fun c => decide (c.1 < dst))) a).or
      (KMap.find (s.map (fun c => (c.1 - src + dst, c.2)) : KMap Byte) a)).or
        (KMap.find (m.cells.filter (fun c => decide (dst + len ≤ c.1))) a)).getD 0 := fun a => by
    rw [← find_append, ← find_append, hs]
    exact cellAt_eq _ a
  have hlow := fun a (h : decide (a < dst) = false) => KMap.find_filter_none m.cells (fun n => decide (n < dst)) a h
  have hhigh := fun a (h : decide (dst + len ≤ a) = false) =>
    KMap.find_filter_none m.cells (fun n => decide (dst + len ≤ n)) a h
  refine ⟨fun i hi => ?_, fun a ha => ?_⟩
  · rw [hcells, hlow _ (by simp), hhigh _ (by simp; omega), KMap.find_moved hge, hs,
      KMap.find_filter m.cells (fun n => Nat.ble src n && decide (n < src + len)) (src + i) (by simp; omega)]
    rw [show m.byte (src + i) = _ from cellAt_eq m.cells (src + i)]
    simp
  · refine Eq.trans ?_ (cellAt_eq m.cells a).symm
    rw [hcells]
    by_cases hlt : a < dst
    · rw [KMap.find_moved_below _ hlt, hhigh _ (by simp; omega),
        KMap.find_filter m.cells (fun n => decide (n < dst)) a (by simpa using hlt)]
      simp
    · obtain ⟨i, rfl⟩ : ∃ i, a = dst + i := ⟨a - dst, by omega⟩
      rw [hlow _ (by simp), KMap.find_moved hge, hs,
        KMap.find_filter_none m.cells (fun n => Nat.ble src n && decide (n < src + len)) (src + i) (by simp; omega),
        KMap.find_filter m.cells (fun n => decide (dst + len ≤ n)) (dst + i) (by simp; omega)]
      simp

theorem Mem.copyRange_clean {m : Mem} (h : Clean m) (src dst len : Nat) : Clean (m.copyRange src dst len) := by
  obtain ⟨hl, ha⟩ := h
  unfold Mem.copyRange Clean
  dsimp only
  rw [hl, ha]
  exact ⟨rfl, rfl⟩

theorem Mem.marked_of_clean {m : Mem} (h : Clean m) (pa len : Nat) (bad : Bool) : m.marked pa len bad = 0 := by
  rw [Mem.marked, h.1]
  rfl

/-- Checking an access of clean memory leaves memory as it is. -/
theorem Dev.ownOkAll_mem_of_clean {d : Dev} (h : Clean d.mem) (tenant : Nat) (ps : List (Nat × Nat × Nat)) (write : Bool) :
    (d.ownOkAll tenant ps write).2.mem = d.mem := by
  have hrot : ∀ (e : Dev) (region : Nat), Clean e.mem → (e.rotEntry region).2.mem = e.mem := fun e region he => by
    unfold Dev.rotEntry
    split
    · rfl
    · rw [Mem.readMarks_of_clean he]
      rfl
  unfold Dev.ownOkAll
  refine foldl_keeps (fun (acc : Bool × Dev) => acc.2.mem = d.mem) _ (fun acc p ha => ?_) _ _ rfl
  dsimp only [Dev.ownOk]
  split
  · exact (hrot _ _ (ha ▸ h)).trans ha
  · exact ha

theorem Dev.onBus_byte (d : Dev) (tenant pasid : Nat) (write : Bool) (ps : List (Nat × Nat × Nat)) :
    (d.onBus tenant pasid write ps).mem.byte = d.mem.byte :=
  foldl_keeps (fun e : Dev => e.mem.byte = d.mem.byte) _ (fun e p he => (e.snoop_byte p.1 p.2.2).trans he) _ _
    (foldl_keeps (fun e : Dev => e.mem.byte = d.mem.byte) _ (fun e _ he => (congrArg Mem.byte (Dev.emit_mem e _)).trans he) _ _ rfl)

/-- The PTE of one page in clean memory is written, and nothing else of memory changes. -/
theorem Dev.putPte_of_clean {d : Dev} {l : Leaf} (h : Clean d.mem) (hn : l.napot = false) (pte : Nat) :
    (∀ a, (d.putPte l pte).mem.byte a =
      if l.addr ≤ a ∧ a < l.addr + 8 then byteAt (leBytes pte 8) (a - l.addr) else d.mem.byte a) ∧
    (d.putPte l pte).stu = d.stu := by
  have hptes : l.ptes = (l.addr, 1) := if_neg (by rw [hn]; decide)
  have hbytes : (List.replicate 1 (leBytes pte 8)).flatten = leBytes pte 8 := by simp
  obtain ⟨m, hm, -, hbyte⟩ := Dev.markWrite_of_clean (Dev.snoop_clean h l.addr 8) 0 0x89 none l.addr (leBytes pte 8)
  rw [leBytes_length] at hm hbyte
  rw [Dev.putPte_eq, hptes, hbytes]
  rw [show (d.snoop l.addr (8 * 1)).markWrite 0 0x89 none [(l.addr, 0, 8 * 1)] (leBytes pte 8) = _ from hm]
  refine ⟨fun a => (hbyte a).trans ?_, ?_⟩
  · rw [Dev.snoop_byte]
  · rw [Dev.snoop_eq]

/-- The device after a page is copied and its PTE rewritten, before it is accounted. -/
def Dev.copied (d : Dev) (m : Move) (rest : List Move) (dst : Nat) : Dev :=
  ({ d with mem := d.mem.copyRange m.src dst m.bytes, stu := { d.stu with moves := rest } } : Dev).putPte m.leaf
    (m.pte - ptePpn m.pte * 2 ^ 10 + (dst / 4096 + (if m.leaf.napot then 8 else 0)) * 2 ^ 10)

/-- A finished move is accounted in the pool, and in its eviction. -/
def Dev.accounted (d : Dev) (m : Move) : Dev :=
  if m.job.isSome then d.accountMove m else (d.accountMove m).evictLeafDone m.tenant m.va m.bytes

theorem Dev.accounted_frame (d : Dev) (m : Move) :
    d.accounted m = { d with kv := (d.accounted m).kv, dict := (d.accounted m).dict } := by
  unfold Dev.accounted
  split
  · rfl
  · unfold Dev.evictLeafDone
    dsimp only
    split <;> rfl

/-- The requests on the host link of a copy: the source is read, the destination written. -/
def Dev.copyBus (d : Dev) (m : Move) (dst : Nat) : Dev :=
  (d.onBus m.tenant m.pasid false [(m.src, 0, m.bytes)]).onBus m.tenant m.pasid true [(dst, 0, m.bytes)]

theorem Dev.moveDone_of_fits {d : Dev} {m : Move} {rest : List Move} {dst : Nat} (hm : d.stu.moves = m :: rest)
    (hfit : d.moveFit m dst = .fits) (hc : Clean d.mem)
    (hown : (d.ownOkAll m.tenant (regionPieces m.src m.bytes) false).1 = true) :
    d.moveDone dst = ((((d.ownOkAll m.tenant (regionPieces m.src m.bytes) false).2.copyBus m dst).copied m rest dst)).accounted m := by
  obtain ⟨e, he⟩ : ∃ e, e = (d.ownOkAll m.tenant (regionPieces m.src m.bytes) false).2 := ⟨_, rfl⟩
  have hpair : d.ownOkAll m.tenant (regionPieces m.src m.bytes) false = (true, e) := Prod.ext hown he.symm
  have hclean : Clean (e.copyBus m dst).mem := Dev.onBus_clean (Dev.onBus_clean (by
    rw [he, Dev.ownOkAll_mem_of_clean hc]
    exact hc) _ _ _ _) _ _ _ _
  unfold Dev.moveDone
  rw [hm]
  dsimp only
  rw [hfit, hpair]
  dsimp only
  change _ = ((e.copyBus m dst).copied m rest dst).accounted m
  rw [show (e.onBus m.tenant m.pasid false [(m.src, 0, m.bytes)]).onBus m.tenant m.pasid true [(dst, 0, m.bytes)] =
    e.copyBus m dst from rfl, Mem.marked_of_clean hclean, Mem.marked_of_clean hclean, Dev.hbmErrors_zero]
  rfl

theorem Dev.Rep.jobs_eq {d e : Dev} (h : d.Rep e) : e.jobs = d.jobs := by rw [h.1]

theorem Dev.cancelMove_jobs (d : Dev) (m : Move) : (d.cancelMove m).jobs = d.jobs := by
  rw [← (d.putPte_rep m.leaf m.pte).jobs_eq]
  unfold Dev.cancelMove
  rfl

/-- Where the source region is not the tenant's, the job of a move ends with OWNERSHIP. -/
theorem Dev.moveDone_of_refused {d : Dev} {m : Move} {rest : List Move} {dst j : Nat} (hm : d.stu.moves = m :: rest)
    (hfit : d.moveFit m dst = .fits) (hj : m.job = some j)
    (hown : (d.ownOkAll m.tenant (regionPieces m.src m.bytes) false).1 = false) : ∃ e : Dev, e.jobs = d.jobs ∧
      d.moveDone dst = e.endJob j 3 (faultKey none 0x02) := by
  obtain ⟨e, he⟩ : ∃ e, e = (d.ownOkAll m.tenant (regionPieces m.src m.bytes) false).2 := ⟨_, rfl⟩
  have hpair : d.ownOkAll m.tenant (regionPieces m.src m.bytes) false = (false, e) := Prod.ext hown he.symm
  have hrep : d.Rep e := he ▸ d.ownOkAll_rep _ _ _
  refine ⟨(e.ownReport m.tenant m.pasid m.va 0 (e.moveReq j)).cancelMove m, ?_, ?_⟩
  · obtain ⟨f, hf⟩ : ∃ f, f = e.ownReport m.tenant m.pasid m.va 0 (e.moveReq j) := ⟨_, rfl⟩
    have hef : e.Rep f := hf ▸ e.ownReport_rep _ _ _ _ _
    rw [← hf]
    exact (f.cancelMove_jobs m).trans (hef.jobs_eq.trans hrep.jobs_eq)
  · unfold Dev.moveDone
    rw [hm]
    dsimp only
    rw [hfit, hpair]
    dsimp only
    rw [hj]
    dsimp only
    unfold Dev.moveFail
    rw [hj]

end Sys2Proof.Machine

/-! ## The pages of an eviction are asked for (R257, R166), and the obligation on migration -/

namespace Sys2Proof.Machine

open Sys2Proof.Stm

/-! ### Maps with rising keys -/

/-- The keys of a map rise. -/
def KMap.Rising {α : Type} (m : KMap α) : Prop := List.Pairwise (fun a b : Nat × α => a.1 < b.1) m

theorem KMap.mem_put {α : Type} {m : KMap α} {k : Nat} {v : α} {e : Nat × α} (h : e ∈ (KMap.put m k v : List (Nat × α))) :
    e = (k, v) ∨ e ∈ (m : List (Nat × α)) := by
  induction m with
  | nil => exact .inl (List.mem_singleton.mp h)
  | cons c m ih =>
    obtain ⟨a, w⟩ := c
    rw [KMap.put] at h
    split at h
    · exact (List.mem_cons.mp h).imp_right (List.mem_cons_of_mem _)
    · split at h
      · exact List.mem_cons.mp h
      · obtain rfl | h := List.mem_cons.mp h
        · exact .inr List.mem_cons_self
        · exact (ih h).imp_right (List.mem_cons_of_mem _)

theorem KMap.Rising.put {α : Type} {m : KMap α} (h : KMap.Rising m) (k : Nat) (v : α) : KMap.Rising (KMap.put m k v) := by
  induction m with
  | nil => exact List.pairwise_singleton _ _
  | cons c m ih =>
    obtain ⟨a, w⟩ := c
    obtain ⟨hlt, htail⟩ := List.pairwise_cons.mp h
    rw [KMap.put]
    split
    case isTrue hk =>
      subst hk
      exact List.pairwise_cons.mpr ⟨hlt, htail⟩
    case isFalse hk =>
      split
      case isTrue hka =>
        refine List.pairwise_cons.mpr ⟨fun e he => ?_, h⟩
        obtain rfl | he := List.mem_cons.mp he
        · exact hka
        · exact hka.trans (hlt e he)
      case isFalse hka =>
        refine List.pairwise_cons.mpr ⟨fun e he => ?_, ih htail⟩
        obtain rfl | he := KMap.mem_put he
        · dsimp only
          omega
        · exact hlt e he

theorem KMap.Rising.find {α : Type} {m : KMap α} (h : KMap.Rising m) {k : Nat} {v : α} (hm : (k, v) ∈ (m : List (Nat × α))) :
    KMap.find m k = some v := by
  induction m with
  | nil => cases hm
  | cons c m ih =>
    obtain ⟨a, w⟩ := c
    obtain ⟨hlt, htail⟩ := List.pairwise_cons.mp h
    rw [KMap.find_cons]
    obtain he | hm := List.mem_cons.mp hm
    · cases he
      exact if_pos rfl
    · rw [if_neg (Nat.ne_of_lt (hlt _ hm))]
      exact ih htail hm

/-! ### Walks that are asked for -/

/-- Only walks are asked for. -/
def Dev.Asked (d e : Dev) : Prop := e = { d with stu := { d.stu with walks := e.stu.walks, nextWalk := e.stu.nextWalk } }

/-- The walks stand in the order of their numbers, below the next one. -/
def Dev.WalksRise (d : Dev) : Prop := KMap.Rising d.stu.walks ∧ ∀ e ∈ (d.stu.walks : List (Nat × Walk)), e.1 < d.stu.nextWalk

/-- A walk holds a request for its page. -/
def Walk.holds (w : Walk) (tenant pasid va : Nat) (r : Requester) : Bool :=
  w.tenant == tenant && w.pasid == pasid && w.va / 4096 == va / 4096 && w.reqs.any (fun q => q.same r)

theorem Dev.waitingReq_eq (d : Dev) (tenant pasid va : Nat) (r : Requester) : d.waitingReq tenant pasid va r =
    (d.stu.walks.any (fun w => w.2.holds tenant pasid va r) ||
    d.stu.faults.any (fun f => f.2.tenant == tenant && f.2.pasid == pasid && f.2.va / 4096 == va / 4096 &&
      f.2.reqs.any (fun q => q.same r)) ||
    d.stu.faultWait.any (fun f => f.tenant == tenant && f.pasid == pasid && f.va / 4096 == va / 4096 &&
      f.reqs.any (fun q => q.same r))) := rfl

theorem Walk.holds_append {w : Walk} {tenant pasid va : Nat} {r : Requester} (h : w.holds tenant pasid va r = true)
    (l : List Requester) : ({ w with reqs := w.reqs ++ l } : Walk).holds tenant pasid va r = true := by
  unfold Walk.holds at *
  dsimp only
  rw [List.any_append]
  simp only [Bool.and_eq_true, Bool.or_eq_true] at *
  exact ⟨h.1, .inl h.2⟩

theorem Requester.same_self (r : Requester) : r.same r = true := by simp [Requester.same]

/-- What asking for a walk leaves and adds. -/
theorem Dev.requestWalk_asks {d : Dev} (h : d.WalksRise) (tenant pasid va : Nat) (r : Requester) :
    d.Asked (d.requestWalk tenant pasid va r) ∧ (d.requestWalk tenant pasid va r).WalksRise ∧
    (∃ e ∈ ((d.requestWalk tenant pasid va r).stu.walks : List (Nat × Walk)), e.2.holds tenant pasid va r = true) ∧
    ∀ t p v q, (∃ e ∈ (d.stu.walks : List (Nat × Walk)), e.2.holds t p v q = true) →
      ∃ e ∈ ((d.requestWalk tenant pasid va r).stu.walks : List (Nat × Walk)), e.2.holds t p v q = true := by
  obtain ⟨hrise, hlt⟩ := h
  unfold Dev.requestWalk
  dsimp only
  split
  case h_1 k w hfind =>
    have hmem : (k, w) ∈ (d.stu.walks : List (Nat × Walk)) := List.mem_of_find?_eq_some hfind
    have hpage := List.find?_some hfind
    have hput := KMap.find_mem (KMap.find_put_same d.stu.walks k { w with reqs := w.reqs ++ [r] })
    refine ⟨rfl, ⟨hrise.put _ _, fun e he => ?_⟩, ⟨_, hput, ?_⟩, fun t p v q ⟨e, he, hq⟩ => ?_⟩
    · obtain rfl | he := KMap.mem_put he
      · exact hlt (k, w) hmem
      · exact hlt e he
    · unfold Walk.holds
      dsimp only at hpage ⊢
      rw [hpage]
      simp [Requester.same_self]
    · by_cases hk : e.1 = k
      · have he2 : e.2 = w := Option.some.inj ((hrise.find (k := e.1) he).symm.trans (hk ▸ hrise.find hmem))
        exact ⟨_, hput, (he2 ▸ Walk.holds_append hq [r])⟩
      · exact ⟨e, KMap.find_mem ((KMap.find_put_other _ _ _ _ hk).trans (hrise.find he)), hq⟩
  case h_2 hnone =>
    have hput := KMap.find_mem (KMap.find_put_same d.stu.walks d.stu.nextWalk
      { tenant := tenant, pasid := pasid, va := va, reqs := [r] })
    refine ⟨rfl, ⟨hrise.put _ _, fun e he => ?_⟩, ⟨_, hput, ?_⟩, fun t p v q ⟨e, he, hq⟩ => ?_⟩
    · obtain rfl | he := KMap.mem_put he
      · exact Nat.lt_succ_self _
      · exact (hlt e he).trans (Nat.lt_succ_self _)
    · simp [Walk.holds, Requester.same_self]
    · exact ⟨e, KMap.find_mem ((KMap.find_put_other _ _ _ _ (Nat.ne_of_lt (hlt e he))).trans (hrise.find he)), hq⟩

/-- Asking for a page makes its request wait, unless the page moves; every request that waits goes on waiting. -/
theorem Dev.pageWalk_asks {d : Dev} (h : d.WalksRise) (tenant pasid va : Nat) (r : Requester) :
    d.Asked (d.pageWalk tenant pasid va r) ∧ (d.pageWalk tenant pasid va r).WalksRise ∧
    (d.moving tenant pasid va = true ∨ (d.pageWalk tenant pasid va r).waitingReq tenant pasid va { r with va := va } = true) ∧
    ∀ t p v q, d.waitingReq t p v q = true → (d.pageWalk tenant pasid va r).waitingReq t p v q = true := by
  obtain ⟨hask, hrise, hnew, hold⟩ := Dev.requestWalk_asks h tenant pasid va { r with va := va }
  unfold Dev.pageWalk
  dsimp only
  split
  case isTrue hno =>
    exact ⟨rfl, h, Bool.or_eq_true_iff.mp hno, fun _ _ _ _ hq => hq⟩
  case isFalse =>
    refine ⟨hask, hrise, .inr ?_, fun t p v q hq => ?_⟩
    · rw [Dev.waitingReq_eq, List.any_eq_true.mpr hnew]
      rfl
    · rw [Dev.waitingReq_eq] at hq
      rw [Dev.waitingReq_eq, hask]
      simp only [Bool.or_eq_true] at hq ⊢
      exact hq.imp_left (Or.imp_left fun hw => List.any_eq_true.mpr (hold t p v q (List.any_eq_true.mp hw)))

/-- Every page of an eviction is asked for. -/
theorem Dev.pageWalks_ask (tenant : Nat) (r : Requester) (vas : List Nat) : ∀ d : Dev, d.WalksRise →
    d.Asked (vas.foldl (fun (d : Dev) va => d.pageWalk tenant (d.obj 0x6010 0 tenant) va r) d) ∧
    (∀ t p v q, d.waitingReq t p v q = true →
      (vas.foldl (fun (d : Dev) va => d.pageWalk tenant (d.obj 0x6010 0 tenant) va r) d).waitingReq t p v q = true) ∧
    ∀ va ∈ vas, d.moving tenant (d.obj 0x6010 0 tenant) va = true ∨
      (vas.foldl (fun (d : Dev) va => d.pageWalk tenant (d.obj 0x6010 0 tenant) va r) d).waitingReq tenant (d.obj 0x6010 0 tenant)
        va { r with va := va } = true := by
  induction vas with
  | nil => exact fun d _ => ⟨rfl, fun _ _ _ _ hq => hq, fun _ hva => by cases hva⟩
  | cons va vas ih =>
    intro d h
    obtain ⟨hask, hrise, hnew, hold⟩ := Dev.pageWalk_asks h tenant (d.obj 0x6010 0 tenant) va r
    obtain ⟨hask', hold', hnew'⟩ := ih _ hrise
    have hmoving : ∀ p v, (d.pageWalk tenant (d.obj 0x6010 0 tenant) va r).moving tenant p v = d.moving tenant p v :=
      fun p v => by rw [hask]; rfl
    have hobj : (d.pageWalk tenant (d.obj 0x6010 0 tenant) va r).obj 0x6010 0 tenant = d.obj 0x6010 0 tenant := by
      rw [hask]
      rfl
    rw [List.foldl_cons]
    refine ⟨?_, fun t p v q hq => hold' t p v q (hold t p v q hq), fun v hv => ?_⟩
    · rw [Dev.Asked] at *
      rw [hask', hask]
    · obtain rfl | hv := List.mem_cons.mp hv
      · exact hnew.imp_right (hold' _ _ _ _)
      · have hw := hnew' v hv
        rw [hmoving, hobj] at hw
        exact hw

/-- An eviction starts: the candidate's pages are entered, and asked for. -/
theorem Dev.evict_of_candidate {d : Dev} {tenant : Nat} {q : Seq} {x : PageDesc} (hno : d.evicting tenant = false)
    (hover : d.obj 0x6013 0 tenant < d.hbmUsed tenant + d.obj 0x6016 0 tenant) (hc : d.evictable tenant = some (q, x)) :
    d.evict tenant = (q.pagesOf x).foldl (fun (d : Dev) va => d.pageWalk tenant (d.obj 0x6010 0 tenant) va (evictReq tenant))
      { d with kv := { d.kv with evicts := d.kv.evicts ++ [⟨tenant, q.pagesOf x⟩] } } := by
  have hold : d.kv.evicts.filter (fun e => e.tenant == tenant) = [] :=
    List.filter_eq_nil_iff.mpr (List.any_eq_false.mp hno)
  have hvas : ((d.kv.evicts ++ [(⟨tenant, q.pagesOf x⟩ : Evict)]).filter (fun e => e.tenant == tenant)).flatMap (fun e => e.vas) =
      q.pagesOf x := by
    rw [List.filter_append, hold]
    simp
  unfold Dev.evict
  dsimp only
  rw [hno, if_neg Bool.false_ne_true, decide_eq_true hover, if_pos (Bool.true_or _), hc]
  dsimp only
  unfold Dev.evictNext
  dsimp only
  rw [hvas]

theorem Mem.read_eq_of_bytes {m : Mem} {pa n : Nat} {bs : List Byte} (hlen : bs.length = n)
    (h : ∀ i < n, m.byte (pa + i) = byteAt bs i) : m.read pa n = bs := by
  refine (cellsRead_eq _ _ _).trans (List.ext_getElem (by simp [hlen]) fun i hi hb => ?_)
  rw [List.getElem_map, List.getElem_range]
  exact (h i (hlen ▸ hb)).trans (by simp [byteAt, hb])

/-! ### The obligation -/

/-- Settles O32: the scans, the leaves that they find, an eviction's start, the end of a move, and the quota. -/
theorem migration : Obligations.Migration := by
  refine ⟨scanCmd_prefetchToHbm, scanCmd_prefetchToHost, scanCmd_advise,
    fun s k j w r x e pte l a d h hwalk hop hmode hsrc => ?prefetch, fun s k j w r x e pte l a d h hwalk hop hmode => ?advise,
    fun s k j w r x l d h hwalk hlast hop hm => ?skip, fun s n q x hs hno hover hc hwalks => ?evict,
    fun s m l dst hs hm hfit hclean hn _ hown hapart => ?copy, fun s m l dst j x hs hm hfit hj hx hst hown => ?refused,
    fun s n v hs hv hused => ?quota⟩
  case prefetch =>
    obtain ⟨-, -, -, -, -, -, -, -, hj, hx, -⟩ := id h
    refine ⟨_, exec_walkComplete_of_moves h hwalk, rfl, ?_⟩
    obtain ⟨-, -, -, -, -, -, -, -, -, -, -, hten, hpas⟩ := h
    dsimp only
    rw [Dev.moveLeaf_of_host (d := d.withWalkCaches (s.dev.walkEnded k w)) hj hx hop ((inlineMode_eq x).trans hmode) hsrc, Dev.startMove_moves, Dev.startMove_jobs, hten, hpas]
    exact ⟨rfl, Dev.startMove_iotlb _ _ _ _ _ _ _, KMap.find_put_same _ _ _⟩
  case advise =>
    obtain ⟨-, -, -, -, -, -, -, -, hj, hx, hst, -⟩ := id h
    refine ⟨_, exec_walkComplete_of_moves h hwalk, rfl, ?_⟩
    dsimp only
    rw [Dev.moveLeaf_of_advise (d := d.withWalkCaches (s.dev.walkEnded k w)) hj hx hop]
    obtain ⟨hmem, hmoves, hadvice⟩ := Dev.scanNext_frame (j := j)
      (d := (((d.withWalkCaches (s.dev.walkEnded k w)).setJob j
          { x with scanPos := x.scanPos + (⟨pte, l, a⟩ : Leaf).pagesFrom r.va }).setAdvice x.tenant x.pasid (r.va / 4096)
          (Nat.min ((⟨pte, l, a⟩ : Leaf).pagesFrom r.va) (inlinePages x - x.scanPos)) (inlineMode x)))
      (KMap.find_put_same _ _ _) hst
    rw [hmem, hmoves, hadvice]
    refine ⟨rfl, rfl, fun i hi => ?_⟩
    rw [inlineMode_eq]
    exact Dev.mem_setAdvice hmode hi
  case skip =>
    obtain ⟨-, -, -, -, -, -, -, -, -, -, hst, -⟩ := id h
    have hfind : KMap.find (d.setJob j { x with scanPos := x.scanPos + 1 }).jobs j = some { x with scanPos := x.scanPos + 1 } :=
      KMap.find_put_same _ _ _
    refine ⟨_, exec_walkComplete_of_skip h hwalk (fun m hmem => (hm m hmem).2), rfl, ?_⟩
    rw [Dev.scanNext_of_done hfind (fun m hmem => (hm m hmem).1) (le_of_eq hlast)]
    obtain ⟨hok, hmem, hmoves⟩ := Dev.endJob_endsOk (s := s) hfind hst
    exact ⟨hok, hmoves, hmem⟩
  case evict =>
    have hrise : Dev.WalksRise { s.dev with kv := { s.dev.kv with evicts := s.dev.kv.evicts ++ [⟨n.val, q.pagesOf x⟩] } } := by
      unfold Dev.WalksRise
      dsimp only
      rw [hwalks]
      exact ⟨List.Pairwise.nil, fun e he => by cases he⟩
    obtain ⟨hask, -, hpages⟩ := Dev.pageWalks_ask n.val (evictReq n.val) (q.pagesOf x) _ hrise
    rw [← Dev.evict_of_candidate hno hover hc] at hask hpages
    refine ⟨_, exec_dev rfl (if_pos hs), ?_, hpages, ?_⟩
    · exact congrArg (fun e : Dev => e.kv.evicts) hask
    · dsimp only
      rw [hask]
  case copy =>
    obtain ⟨e, he⟩ : ∃ e, e = (s.dev.ownOkAll m.tenant (regionPieces m.src m.bytes) false).2.copyBus m dst := ⟨_, rfl⟩
    have hmem := Dev.ownOkAll_mem_of_clean hclean m.tenant (regionPieces m.src m.bytes) false
    have hec : Clean e.mem := he ▸ Dev.onBus_clean (Dev.onBus_clean (hmem ▸ hclean) _ _ _ _) _ _ _ _
    have heb : e.mem.byte = s.dev.mem.byte := by rw [he, Dev.copyBus, Dev.onBus_byte, Dev.onBus_byte, hmem]
    obtain ⟨hin, hout⟩ := e.mem.copyRange_byte m.src dst m.bytes
    obtain ⟨hpte, hstu⟩ := Dev.putPte_of_clean (d := { e with mem := e.mem.copyRange m.src dst m.bytes, stu := { e.stu with moves := l } })
      (Mem.copyRange_clean hec _ _ _) hn (m.pte - ptePpn m.pte * 2 ^ 10 + (dst / 4096 + (if m.leaf.napot then 8 else 0)) * 2 ^ 10)
    refine ⟨{ s with dev := (e.copied m l dst).accounted m }, exec_dev rfl ?_, rfl, ?_, fun i hi => ?_, ?_, fun a ha hp => ?_⟩
    · rw [he]
      exact (if_pos hs).trans (Dev.moveDone_of_fits hm hfit hclean hown)
    all_goals
      dsimp only
      rw [Dev.accounted_frame]
      dsimp only [Dev.copied]
    · rw [hstu]
    · rw [hpte, if_neg (by show ¬ (m.pteAddr ≤ _ ∧ _ < m.pteAddr + 8); omega), hin i hi, heb]
    · refine (congrArg leNat (Mem.read_eq_of_bytes (leBytes_length _ 8) fun i hi =>
        ((hpte _).trans (if_pos ?_)).trans (congrArg (byteAt _) (Nat.add_sub_cancel_left m.pteAddr i)))).trans ?_
      · exact ⟨Nat.le_add_right _ _, Nat.add_lt_add_left hi _⟩
      · rw [leNat_leBytes, hn]
        rfl
    · rw [hpte, if_neg (show ¬ (m.leaf.addr ≤ a ∧ a < m.leaf.addr + 8) from hp), hout a ha, heb]
  case refused =>
    obtain ⟨e, hjobs, hdone⟩ := Dev.moveDone_of_refused hm hfit hj hown
    refine ⟨_, exec_dev rfl ((if_pos hs).trans hdone), rfl, x.endedAs 3 e.pwr.tick (faultKey none 0x02), ?_, rfl⟩
    dsimp only
    rw [Dev.endJob_jobs (hjobs ▸ hx) (fun n => by rw [hst]; exact JobState.noConfusion)]
    exact KMap.find_put_same _ _ _
  case quota =>
    refine ⟨{ s with dev := s.dev.setObj 0x6013 0 n.val v.toNat }, exec_dev rfl ?_, rfl, s.dev.obj_setObj_same _ _ _ _⟩
    dsimp only
    rw [if_pos (by rw [hs, hv]; decide)]
    exact if_neg (Nat.not_lt.mpr hused)

end Sys2Proof.Machine

/-! ## Ethernet ports, peers and probes (R335, R336, R343) -/

namespace Sys2Proof.Machine

open Sys2Proof.Stm

/-! ### Changes of peers -/

/-- Only peers change. -/
def Dev.PeersOnly (d e : Dev) : Prop := e = { d with scale := { d.scale with peers := e.scale.peers } }

/-- A sweep over the first peers, whose step at peer `m` changes that peer alone, to `new m`. -/
theorem foldl_peers {d : Dev} {f : Dev → Nat → Dev} {new : Nat → Peer}
    (hstep : ∀ e m, d.PeersOnly e → e.peer m = d.peer m →
      d.PeersOnly (f e m) ∧ (f e m).peer m = new m ∧ ∀ i, i ≠ m → (f e m).peer i = e.peer i) (n : Nat) :
    d.PeersOnly ((List.range n).foldl f d) ∧
      ∀ i, ((List.range n).foldl f d).peer i = if i < n then new i else d.peer i := by
  induction n with
  | zero => exact ⟨rfl, fun i => (if_neg (Nat.not_lt_zero i)).symm⟩
  | succ n ih =>
    obtain ⟨hframe, hpeer⟩ := ih
    rw [List.range_succ, List.foldl_append, List.foldl_cons, List.foldl_nil]
    obtain ⟨hf, hnew, hother⟩ := hstep _ n hframe ((hpeer n).trans (if_neg (Nat.lt_irrefl n)))
    refine ⟨hf, fun i => ?_⟩
    by_cases hi : i = n
    · rw [hi, hnew, if_pos (Nat.lt_succ_self n)]
    · rw [hother i hi, hpeer i]
      exact if_congr (by omega) rfl rfl

theorem Dev.PeersOnly.setPeer {d e : Dev} (h : d.PeersOnly e) (m : Nat) (x : Peer) : d.PeersOnly (e.setPeer m x) := by
  rw [Dev.PeersOnly] at *
  rw [h]
  rfl

/-! ### Ports that go down -/

theorem Dev.portUp_lt {d : Dev} {p : Nat} (h : d.portUp p = true) : p < 6 ∧ d.port p = .up := by
  simpa [Dev.portUp] using h

theorem Dev.portUp_of_up {d : Dev} {p : PortId} (h : d.port p.val = .up) : d.portUp p.val = true := by
  rw [Dev.portUp, decide_eq_true p.isLt, h]
  rfl

/-- A peer whose primary or alternate port is UP has a path. -/
theorem Dev.pathOf_isSome {d : Dev} {m : Nat} {b : Bool} (h : d.portUp (d.peerPort m b) = true) : (d.pathOf m).isSome = true := by
  unfold Dev.pathOf
  rw [List.find?_isSome]
  refine ⟨_, ?_, h⟩
  cases b <;> cases (d.peer m).alternate <;> simp

/-- Where every UP peer has a path, none is LOST. -/
theorem Dev.checkPeers_of_paths {d : Dev} (h : ∀ m < 32, (d.peer m).st = 1 → (d.pathOf m).isSome = true) :
    d.checkPeers = d := by
  refine foldl_eq_self (fun m hm => if_neg ?_)
  intro hc
  obtain ⟨hst, hnone⟩ := Bool.and_eq_true_iff.mp hc
  have hp := h m (List.mem_range.mp hm) (of_decide_eq_true hst)
  rw [Option.isNone_iff_eq_none] at hnone
  rw [hnone] at hp
  cases hp

/-- What the loss of a port makes of a peer. -/
def Dev.movedPeer (d : Dev) (p m : Nat) : Peer :=
  if d.peerPort m false = p ∧ (d.peer m).st ≠ 0 then { d.peer m with alternate := true } else d.peer m

/-- The device after a port has lost its link, before peers without a path are LOST. -/
def Dev.portMoved (d : Dev) (p : Nat) (st : PortState) : Dev :=
  (List.range 32).foldl (fun (d : Dev) m =>
    if d.peerPort m false = p && (d.peer m).st != 0 then d.setPeer m { d.peer m with alternate := true } else d) (d.setPort p st)

theorem Dev.portMoved_spec (d : Dev) (p : Nat) (st : PortState) : (d.setPort p st).PeersOnly (d.portMoved p st) ∧
    ∀ m, (d.portMoved p st).peer m = if m < 32 then d.movedPeer p m else d.peer m := by
  refine foldl_peers (d := d.setPort p st) (new := d.movedPeer p) (fun e m he hm => ?_) 32
  have hport : e.peerPort m false = d.peerPort m false := by rw [he]; rfl
  have hpeer : e.peer m = d.peer m := hm
  rw [hport, hpeer]
  unfold Dev.movedPeer
  by_cases hc : d.peerPort m false = p ∧ (d.peer m).st ≠ 0
  · rw [if_pos (by simpa using hc), if_pos hc]
    exact ⟨he.setPeer _ _, Dev.peer_setPeer_same _ _ _, fun i hi => Dev.peer_setPeer_other _ _ hi⟩
  · rw [if_neg (by simpa using hc), if_neg hc]
    exact ⟨he, hpeer, fun _ _ => rfl⟩

/-- A port goes down while every UP peer has another: no peer is LOST. -/
theorem Dev.portDrop_of_reachable {d : Dev} {p : Nat} (h : Reachable d p) (st : PortState) :
    d.portDrop p st = d.portMoved p st := by
  obtain ⟨hframe, hpeer⟩ := d.portMoved_spec p st
  change (d.portMoved p st).checkPeers = _
  generalize d.portMoved p st = e at hframe hpeer
  refine Dev.checkPeers_of_paths (fun m hm hst => ?_)
  have hst' : (d.peer m).st = 1 := by
    rw [hpeer, if_pos hm] at hst
    unfold Dev.movedPeer at hst
    split at hst <;> exact hst
  obtain ⟨b, hne, hup⟩ := h m hm hst'
  obtain ⟨hlt, hport⟩ := Dev.portUp_lt hup
  refine Dev.pathOf_isSome (b := b) ?_
  have hpp : e.peerPort m b = d.peerPort m b := by rw [hframe]; rfl
  have hpt : e.port (d.peerPort m b) = .up := by
    rw [hframe]
    exact (d.port_setPort_other st hne).trans hport
  rw [hpp, Dev.portUp, hpt, decide_eq_true hlt]
  rfl

/-- What the loss of a port leaves, on the device whose peers it moves. -/
theorem portMoved_parts {s : State} {d : Dev} {p : PortId} (st : PortState)
    (hd : d = { s.dev with dict := d.dict }) (hobj : ∀ m, d.peerPort m false = s.dev.peerPort m false) :
    ∃ e, d.portMoved p.val st = e ∧ OnlyScale s { s with dev := e } ∧ e.port p.val = st ∧ OtherPorts p s { s with dev := e } ∧
      PeersMove p.val s { s with dev := e } ∧ e.scale.chans = s.dev.scale.chans ∧ e.dict = d.dict := by
  obtain ⟨hframe, hpeer⟩ := d.portMoved_spec p.val st
  generalize d.portMoved p.val st = e at hframe hpeer
  have hpeers : ∀ m, d.peer m = s.dev.peer m := fun m => by rw [hd]; rfl
  refine ⟨e, rfl, ?_, ?_, fun i hi => ?_, fun m hm => ?_, ?_, ?_⟩
  · unfold OnlyScale
    rw [hframe, hd]
    rfl
  · rw [hframe]
    exact d.port_setPort_same _ _
  · dsimp only
    rw [hframe, hd]
    exact Dev.port_setPort_other s.dev st (fun hv => hi (Fin.ext hv))
  · refine (hpeer m).trans ((if_pos hm).trans ?_)
    unfold Dev.movedPeer
    rw [hobj, hpeers]
  · rw [hframe, hd]
    rfl
  · rw [hframe]
    rfl

/-! ### Neighbour messages -/

/-- With nothing unacknowledged, an advertisement gives the peers of its address their on-link address. -/
theorem Dev.neighborAdv_spec {d : Dev} (h : ∀ e ∈ d.scale.chans, e.2.unacked = []) {p target link : Nat} (ht : target ≠ 0) :
    d.PeersOnly (d.neighborAdv p target link) ∧ ∀ m, (d.neighborAdv p target link).peer m =
      if m < 32 then (if d.obj 0x8020 (m + 1) 0 = target then { d.peer m with link := (d.peer m).link.put p link } else d.peer m)
      else d.peer m := by
  refine foldl_peers (fun e m he hm => ?_) 32
  have hobj : e.obj 0x8020 (m + 1) 0 = d.obj 0x8020 (m + 1) 0 := by rw [he]; rfl
  have hchans : e.scale.chans = d.scale.chans := by rw [he]
  rw [hobj]
  by_cases hc : d.obj 0x8020 (m + 1) 0 = target
  · have hquiet : ∀ (x : Dev) (q : Nat × Chan → Bool), (e.scale.chans.filter q).foldl (fun (d : Dev) c =>
        c.2.unacked.foldl (fun (d : Dev) k => d.sendPkt c.1 k) d) x = x := fun x q =>
      foldl_eq_self (fun c hc => by rw [h c (hchans ▸ (List.mem_filter.mp hc).1)]; rfl)
    rw [if_pos (by simp [hc, ht]), if_pos hc]
    dsimp only
    rw [show (e.setPeer m { e.peer m with link := (e.peer m).link.put p link }).scale.chans = e.scale.chans from rfl, hquiet,
      ite_self, hm]
    exact ⟨he.setPeer _ _, Dev.peer_setPeer_same _ _ _, fun i hi => Dev.peer_setPeer_other _ _ hi⟩
  · rw [if_neg (by simp [hc]), if_neg hc]
    exact ⟨he, hm, fun _ _ => rfl⟩

theorem Dev.sendTo_of_link {d : Dev} {m p l : Nat} (h : KMap.find (d.peer m).link p = some l) (addr src dst : Nat)
    (b : List Byte) : d.sendTo m p addr src dst b = d.emit (.packet p l addr src dst b) := by
  unfold Dev.sendTo
  rw [show (d.peer m).link.find p = some l from h]

/-! ### The obligation -/

/-- Settles O46: ports, neighbour messages and probes, command by command. -/
theorem portsAndPeers : Obligations.PortsAndPeers := by
  refine ⟨fun s p hs hon hoff => ?enable, fun s p hs hhas hr => ?disable, fun s p hon ht => ?up, fun s p hl hup hr => ?down,
    fun s p a hl hup ha hown => ?solicitation, fun s p a l hl hup ha hq => ?advertisement, fun s g h pl l hin hg hm haddr hl => ?probe,
    fun s g h pl hin hg hm hst => ?reply, fun s m p l hs hst hpath hp => ?timer, fun s m x hx hlt => ?early⟩
  case enable =>
    have hhas : s.dev.has (288 + p.val) = true := by
      simp only [Dev.etherOn, Bool.and_eq_true] at hon
      exact hon.1.1.2
    have hon' : (s.dev.setObj 0x8001 (p.val + 1) 0 1).etherOn p.val = true := hon
    refine ⟨{ s with dev := (s.dev.setObj 0x8001 (p.val + 1) 0 1).setPort p.val .training }, exec_dev rfl ?_, rfl,
      Dev.port_setPort_same _ _ _, fun i hi => Dev.port_setPort_other _ _ (fun hv => hi (Fin.ext hv)), Dev.obj_setObj_same _ _ _ _ _,
      rfl, rfl⟩
    dsimp only
    rw [if_pos (by rw [hs, hhas]; rfl)]
    unfold Dev.portEnable
    dsimp only
    rw [if_neg (by decide), show (s.dev.setObj 0x8001 (p.val + 1) 0 true.toNat).port p.val = .off from hoff, if_pos (by decide)]
    exact congrArg _ (if_pos hon')
  case disable =>
    obtain ⟨e, he⟩ : ∃ e, e = s.dev.setObj 0x8001 (p.val + 1) 0 0 := ⟨_, rfl⟩
    have hport : ∀ m b, e.peerPort m b = s.dev.peerPort m b := fun m b => by
      unfold Dev.peerPort
      rw [he, Dev.obj_setObj_other _ (by simp only [okey]; omega)]
    have hreach : Reachable e p.val := fun m hm hst => by
      obtain ⟨b, hne, hup⟩ := hr m hm (by rw [he] at hst; exact hst)
      exact ⟨b, by rw [hport]; exact hne, by rw [hport, he]; exact hup⟩
    have hdrop := Dev.portDrop_of_reachable hreach .off
    obtain ⟨f, hf, h1, h2, h3, h4, h5, h6⟩ :=
      portMoved_parts (s := s) (d := e) (p := p) .off (by rw [he]; rfl) (fun m => hport m false)
    refine ⟨{ s with dev := f }, exec_dev rfl ?_, h1, h2, h3, ?_, h4, h5⟩
    · dsimp only
      rw [if_pos (by rw [hs, hhas]; rfl), ← hf, ← hdrop, he]
      rfl
    · unfold Dev.obj
      dsimp only
      rw [h6, he]
      exact congrArg (Option.getD · _) (KMap.find_put_same _ _ _)
  case up =>
    refine ⟨{ s with dev := s.dev.setPort p.val .up }, exec_dev rfl (if_pos (by rw [hon, ht]; rfl)), rfl,
      Dev.port_setPort_same _ _ _, fun i hi => Dev.port_setPort_other _ _ (fun hv => hi (Fin.ext hv)), rfl, rfl, rfl⟩
  case down =>
    have hdrop := Dev.portDrop_of_reachable hr .training
    obtain ⟨f, hf, h1, h2, h3, h4, h5, h6⟩ := portMoved_parts (s := s) (d := s.dev) (p := p) .training rfl (fun m => rfl)
    refine ⟨{ s with dev := f }, exec_dev rfl ?_, h1, h2, h3, h4, h5, h6⟩
    exact (if_pos (by rw [hl, hup]; rfl)).trans (hdrop.trans hf)
  case solicitation =>
    refine exec_dev rfl (if_pos ?_)
    have hne : a.toNat ≠ 0 := fun h0 => ha (BitVec.eq_of_toNat_eq h0)
    rw [hl, Dev.portUp_of_up hup, bne_iff_ne.mpr hne, hown]
    simp
  case advertisement =>
    have hne : a.toNat ≠ 0 := fun h0 => ha (BitVec.eq_of_toNat_eq h0)
    have hexec : exec (.neighborAdvertisement p a l) s = .next { s with dev := s.dev.neighborAdv p.val a.toNat l.toNat } :=
      exec_dev rfl (if_pos (by rw [hl, Dev.portUp_of_up hup]; rfl))
    obtain ⟨hframe, hpeer⟩ := Dev.neighborAdv_spec hq (p := p.val) (link := l.toNat) hne
    generalize s.dev.neighborAdv p.val a.toNat l.toNat = e at hexec hframe hpeer
    refine ⟨_, hexec, fun m hm hobj => ?_, fun m hm hobj => ?_, fun m hm => ?_, ?_⟩
    · dsimp only
      rw [hpeer, if_pos hm, if_pos hobj]
      exact KMap.find_put_same _ _ _
    · exact (hpeer m).trans ((if_pos hm).trans (if_neg hobj))
    · dsimp only
      rw [hpeer, if_pos hm]
      split <;> exact ⟨rfl, rfl⟩
    · exact congrArg (fun e => { s with dev := e }) hframe
  case probe =>
    refine exec_dev rfl ?_
    dsimp only
    rw [hin]
    dsimp only
    have hours : s.dev.ours h = true := by
      unfold Dev.ours
      rw [hg, hm]
      simp
    rw [hours, if_pos (by simpa using haddr)]
    exact Dev.sendTo_of_link hl _ _ _ _
  case reply =>
    have hours : s.dev.ours h = true := by
      unfold Dev.ours
      rw [hg, hm]
      simp
    refine ⟨{ s with dev := s.dev.setPeer h.srcMember { s.dev.peer h.srcMember with st := 1 } }, exec_dev rfl ?_,
      Dev.peer_setPeer_same _ _ _, fun m hne => Dev.peer_setPeer_other _ _ hne, rfl⟩
    dsimp only
    rw [hin]
    exact if_pos (by rw [hours, hst]; rfl)
  case timer =>
    obtain ⟨hpath, hlink⟩ := hpath
    obtain ⟨e, he⟩ : ∃ e, e = s.dev.setPeer m.val { s.dev.peer m.val with lastProbe := some s.dev.pwr.tick } := ⟨_, rfl⟩
    have hlink' : KMap.find (e.peer m.val).link p = some l := by
      rw [he, Dev.peer_setPeer_same]
      exact hlink
    refine ⟨{ s with dev := e.emit (.packet p l (s.dev.obj 0x8020 (m.val + 1) 0) 0xC000 (s.dev.obj 0x8010 0 0)
      (lrtBytes { type := 5, srcMember := s.dev.obj 0x8012 0 0, dstMember := m.val, dstCh := 0, srcCh := 0
                  group := s.dev.obj 0x8011 0 0 } [])) }, exec_dev rfl ?_, ?_, fun i hi => ?_, by rw [he]; rfl⟩
    · dsimp only
      split
      case h_1 q _ hq =>
        cases hq.symm.trans hpath
        rw [if_pos (by rw [hs, due_of_periodOver hp]; rfl), ← he]
        exact Dev.sendTo_of_link hlink' _ _ _ _
      case h_2 hno => exact (hno p hst hpath).elim
    · rw [he]
      exact Dev.peer_setPeer_same _ _ _
    · rw [he]
      exact Dev.peer_setPeer_other _ _ (fun hv => hi (Fin.ext hv))
  case early =>
    refine exec_dev rfl ?_
    have hdue : s.dev.due (s.dev.peer m.val).lastProbe 25000 = false := by
      rw [hx]
      exact Bool.eq_false_iff.mpr fun hle => absurd (Nat.le_of_ble_eq_true hle) (Nat.not_le.mpr hlt)
    dsimp only
    split
    · exact if_neg (by rw [hdue]; simp)
    · rfl

end Sys2Proof.Machine

/-! ## The solver's slots and batches (R322 to R326, R331 to R333) -/

namespace Sys2Proof.Machine

open Sys2Proof.Stm

/-! ### Accesses of a slot -/

/-- A read of a unit of the hub leaves the tiles alone. -/
theorem Dev.engRead_rep (d : Dev) (tenant pasid va len : Nat) {req : Requester} (h : 128 ≤ req.source) :
    d.Rep (d.engRead tenant pasid va len req).2 := by
  have h1 := (Dev.translateSpan_xlHub d tenant pasid va len 0 req h).rep
  unfold Dev.engRead
  split
  · rename_i heq; rw [heq] at h1; exact h1
  · rename_i ps d1 heq
    rw [heq] at h1
    have h2 := h1.trans (Dev.ownOkAll_rep d1 tenant ps false)
    split
    · rename_i heq'; rw [heq'] at h2; exact h2.trans (Dev.ownReport_rep _ _ _ _ _ _)
    · rename_i heq'
      rw [heq'] at h2
      exact (h2.trans (Dev.busRead_rep _ tenant pasid ps)).trans (Dev.hbmErrors_rep _ _ _ _ _ _)

/-- A write of a unit of the hub leaves the tiles alone. -/
theorem Dev.engWrite_rep (d : Dev) (tenant pasid va : Nat) (bs : List Byte) {req : Requester} (h : 128 ≤ req.source) :
    d.Rep (d.engWrite tenant pasid va bs req).2 := by
  have h1 := (Dev.translateSpan_xlHub d tenant pasid va bs.length 1 req h).rep
  unfold Dev.engWrite
  split
  · rename_i heq; rw [heq] at h1; exact h1
  · rename_i ps d1 heq
    rw [heq] at h1
    have h2 := h1.trans (Dev.ownOkAll_rep d1 tenant ps true)
    split
    · rename_i heq'; rw [heq'] at h2; exact h2.trans (Dev.ownReport_rep _ _ _ _ _ _)
    · rename_i heq'
      rw [heq'] at h2
      exact h2.trans (Dev.busWrite_rep _ tenant pasid req.source req.job ps bs)

theorem slotReq_source (k : Nat) (queue : Bool) : 128 ≤ (slotReq k queue).source := (by decide : 128 ≤ 0x81)

/-- A read of a slot's queue that gives bytes touches what an access may touch. -/
theorem Dev.slotRead_rep {d e : Dev} {k va len : Nat} {b : List Byte} (h : d.slotRead k va len = (some b, e)) : d.Rep e := by
  have hrep := d.engRead_rep (d.slotTenant k) (d.slot k).pasid (va % 2 ^ 64) len (slotReq_source k true)
  unfold Dev.slotRead at h
  dsimp only at h
  split at h
  · cases h
  · cases h
  · rename_i r f heq
    rw [heq] at hrep
    split at h
    · cases h
      exact hrep
    · cases h

/-! ### Polls -/

/-- A poll reads the producer index, the consumer index before it where ENABLE has not. -/
theorem Dev.slotPoll_of_reads {d d0 d1 e : Dev} {k : Nat} {ci b : List Byte} (hon : d.solverOn = true)
    (hst : (d.slot k).st = .enabled) (hf : (d.slot k).failed = false) (hready : (d.slot k).ready = true → d1 = d)
    (hread : (d.slot k).ready = false → d.slotRead k ((d.slot k).base + 8) 4 = (some ci, d0) ∧
      d1 = d0.setSlot k { d0.slot k with ready := true, ci := leNat ci % 2 ^ (d.slot k).size })
    (hpi : d1.slotRead k (d.slot k).base 4 = (some b, e)) (hb : leNat b < 2 ^ (d.slot k).size) :
    d.slotPoll k = e.setSlot k { e.slot k with pi := leNat b, lastPoll := e.pwr.tick } := by
  have hgo : ¬ (!d.solverOn || (d.slot k).st != .enabled || (d.slot k).failed) = true := by
    rw [hon, hst, hf]
    decide
  unfold Dev.slotPoll
  dsimp only
  rw [if_neg hgo]
  cases hr : (d.slot k).ready with
  | true =>
    rw [hready hr] at hpi
    rw [if_pos rfl]
    dsimp only
    rw [if_neg (by decide), hpi]
    exact if_pos hb
  | false =>
    obtain ⟨hci, he⟩ := hread hr
    rw [if_neg Bool.false_ne_true, hci]
    dsimp only
    rw [if_neg (by decide), ← he, hpi]
    exact if_pos hb

/-- A slot that is enabled and waits for its consumer index. -/
theorem Dev.slotPoll_of_wait {d e : Dev} {k : Nat} (hon : d.solverOn = true) (hst : (d.slot k).st = .enabled)
    (hf : (d.slot k).failed = false) (hr : (d.slot k).ready = false)
    (hw : d.engRead (d.slotTenant k) (d.slot k).pasid (((d.slot k).base + 8) % 2 ^ 64) 4 (slotReq k true) = (.wait, e)) :
    d.slotPoll k = e := by
  have hgo : ¬ (!d.solverOn || (d.slot k).st != .enabled || (d.slot k).failed) = true := by
    rw [hon, hst, hf]
    decide
  have hread : d.slotRead k ((d.slot k).base + 8) 4 = (none, e) := by
    unfold Dev.slotRead
    dsimp only
    rw [hw]
  unfold Dev.slotPoll
  dsimp only
  rw [if_neg hgo, hr, if_neg Bool.false_ne_true, hread]
  rfl

/-- What a poll's command leaves. -/
theorem pollCmd_of_exec {c : SolvSlot → Instr} {due : Dev → SSlot → Prop}
    (h : ∀ (s : State) (k : SolvSlot), due s.dev (s.dev.slot k.val) → exec (c k) s = .next { s with dev := s.dev.slotPoll k.val }) :
    PollCmd c due := by
  intro s k b ci d0 d1 d hon hdue hst hf hready hread hpi hb
  refine ⟨_, h s k hdue, ?_⟩
  rw [Dev.slotPoll_of_reads hon hst hf hready hread hpi hb]
  exact ⟨Dev.slot_setSlot_same _ _ _, fun i hi => Dev.slot_setSlot_other _ _ (fun hv => hi (Fin.ext hv)), rfl⟩

/-! ### DISABLE and ABORT -/

theorem onlySlot_set {s : State} {k : SolvSlot} (p : Requester → Bool) (x : SSlot) :
    OnlySlot k s { s with dev := (s.dev.withdraw p).setSlot k.val x } :=
  ⟨rfl, fun _ hi => Dev.slot_setSlot_other _ _ (fun hv => hi (Fin.ext hv))⟩

theorem Dev.slotDisable_of_enabled {d : Dev} {k : Nat} (hst : (d.slot k).st = .enabled) : d.slotDisable k =
    (d.withdraw (fun r => r.source == 0x81 && r.tag / 2 == k && !d.slotBusy k)).setSlot k
      { d.slot k with st := if d.slotBusy k then .draining else .disabled } :=
  if_pos (by rw [hst]; rfl)

/-- A slot whose batch does not run stops. -/
theorem Dev.slotStop_of_idle {d : Dev} {k : Nat} (hst : (d.slot k).st ≠ .disabled) (hb : d.slotBusy k = false) (write : Bool) :
    d.slotStop k write =
      (d.withdraw (fun r => r.source == 0x81 && r.tag / 2 == k)).setSlot k { d.slot k with st := .disabled } := by
  obtain ⟨e, he⟩ : ∃ e, e = d.withdraw (fun r => r.source == 0x81 && r.tag / 2 == k) := ⟨_, rfl⟩
  have hbatch : e.solv.batch = d.solv.batch := by rw [he]; rfl
  have hslot : e.slot k = d.slot k := by rw [he]; rfl
  unfold Dev.slotStop
  dsimp only
  rw [if_neg (by simpa using hst), ← he, ← hslot]
  cases hs : e.solv.batch with
  | none => rfl
  | some b =>
    have hne : b.slot ≠ k := by
      unfold Dev.slotBusy at hb
      rw [← hbatch, hs] at hb
      simpa using hb
    dsimp only
    rw [if_neg hne]

theorem Dev.dropBatch_of_own {d : Dev} {k : Nat} {b : SolvBatch} (h : d.solv.batch = some b) (hk : b.slot = k) :
    (d.dropBatch k).jobs = d.jobs ∧ (d.dropBatch k).tiles = d.tiles ∧ (d.dropBatch k).solv.batch = none := by
  unfold Dev.dropBatch
  rw [h]
  dsimp only
  rw [if_pos hk]
  split <;> exact ⟨rfl, rfl, rfl⟩

/-- The batch of a slot that stops is gone, and nothing of the jobs or the tiles changes. -/
theorem Dev.slotStop_of_busy {d : Dev} {k : Nat} (hst : (d.slot k).st ≠ .disabled) (hb : d.slotBusy k = true) (write : Bool) :
    ((d.slotStop k write).slot k).st = .disabled ∧ (d.slotStop k write).solv.batch = none ∧
      (d.slotStop k write).jobs = d.jobs ∧ (d.slotStop k write).tiles = d.tiles := by
  obtain ⟨e, he⟩ : ∃ e, e = d.withdraw (fun r => r.source == 0x81 && r.tag / 2 == k) := ⟨_, rfl⟩
  have hbatch : e.solv.batch = d.solv.batch := by rw [he]; rfl
  unfold Dev.slotStop
  dsimp only
  rw [if_neg (by simpa using hst), ← he]
  unfold Dev.slotBusy at hb
  rw [← hbatch] at hb
  cases hs : e.solv.batch with
  | none =>
    rw [hs] at hb
    cases hb
  | some b =>
    rw [hs] at hb
    have hk : b.slot = k := by simpa using hb
    dsimp only
    rw [if_pos hk]
    obtain ⟨f, hf⟩ : ∃ f, f = if (write && !b.posted) = true then
        (e.engWrite (e.slotTenant k) (d.slot k).pasid b.desc (leBytes (completionWord 8 0 0 (e.since b.start)) 8) (slotReq k true)).2
      else e := ⟨_, rfl⟩
    have hrep : e.Rep f := by
      rw [hf]
      split
      · exact e.engWrite_rep _ _ _ _ (slotReq_source k true)
      · exact .refl e
    rw [← hf]
    obtain ⟨hjobs, htiles, hnone⟩ := Dev.dropBatch_of_own (d := f.withdraw (fun r => r.source == 0x81 && r.tag / 2 == k)) (k := k)
      (b := b) (by rw [Dev.withdraw_solv, hrep.1, hs]) hk
    refine ⟨by rw [Dev.slot_setSlot_same], hnone, ?_, ?_⟩
    · rw [Dev.setSlot_jobs, hjobs, Dev.withdraw_jobs, hrep.1, he]
      rfl
    · rw [Dev.setSlot_tiles, htiles, Dev.withdraw_tiles, hrep.1, he]
      rfl

/-! ### A batch starts and runs -/

/-- A batch of the slot, as it is held; the slot is served next in turn after it. -/
def Dev.putBatch (d : Dev) (k : Nat) (b : SolvBatch) : Dev :=
  { d with solv := { d.solv with batch := some b, lastServed := if k = 0 then d.solv.lastServed else k } }

theorem batchStarted_eq (d : Dev) (k va : Nat) : batchStarted d k va =
    (d.setSlot k { d.slot k with lastTenant := some (d.slotTenant k) }).putBatch k
      { slot := k, desc := va, start := d.pwr.tick, status := 0 } := rfl

/-- What a slot's batch does once its descriptor is read. -/
def Dev.runDesc (d : Dev) (k va : Nat) (desc : BatchDesc) (delta : Bool) : Dev :=
  if !desc.ok then (batchStarted d k va).putBatch k { slot := k, desc := va, start := d.pwr.tick, status := 2 }
  else
    match (if delta then deltaBatch k desc else fullBatch k desc).run.run (batchStarted d k va) with
    | (.ok (out, piv, rng, r), e) => e.putBatch k
        { slot := k, desc := va, start := d.pwr.tick, status := 1, pivots := piv, ranges := rng, out := out, outVa := desc.outVa
          resident := some (some r) }
    | (.error (.wait bad), e) => e.putBatch k
        { slot := k, desc := va, start := d.pwr.tick, status := 0, resident := if bad then some none else none }
    | (.error (.status n bad), e) => (if Nat.ble 5 n then e.batchFault k else e).putBatch k
        { slot := k, desc := va, start := d.pwr.tick, status := n, resident := if bad then some none else none }

theorem Dev.runSlot_of_ready {d e : Dev} {k va : Nat} {raw : List Byte} {delta : Bool} (h : BatchReady d k va raw e)
    (hd : (batchDesc (leNat raw)).ok = true → (batchDesc (leNat raw)).delta = delta) :
    d.runSlot k delta = e.runDesc k va (batchDesc (leNat raw)) delta := by
  obtain ⟨hon, hnone, hnext, hclear, rfl, hread⟩ := h
  have hrep := Dev.slotRead_rep hread
  have hsolv : e.solv = d.solv := by rw [hrep.1]
  have hgo : ¬ (!d.solverOn || !(d.solv.batch.any (fun b => b.slot == k && b.status == 0) ||
      (d.solv.batch.isNone && d.nextSlot == some k))) = true := by
    rw [hon, hnone, hnext]
    simp
  have hdesc : ¬ ((batchDesc (leNat raw)).ok && (batchDesc (leNat raw)).delta != delta) = true := fun hc => by
    obtain ⟨hok, hne⟩ := Bool.and_eq_true_iff.mp hc
    rw [hd hok] at hne
    exact (bne_iff_ne.mp hne) rfl
  have hbegin : e.slotBegin k (((d.slot k).base + 64 + 64 * (d.slot k).ci) % 2 ^ 64) = e.pwr.tick := by
    unfold Dev.slotBegin
    rw [hsolv, hnone]
  unfold Dev.runSlot
  dsimp only
  rw [if_neg hgo, hclear]
  dsimp only
  rw [hread]
  dsimp only
  rw [if_neg hdesc, hbegin]
  rfl

/-! ### The end of a batch -/

theorem Dev.batchIndex_of_write {d e : Dev} {b : SolvBatch} {r : ReadResult} (h : IndexWrite d b.slot r e) :
    d.batchIndex b = e.afterBatch b := by
  unfold Dev.batchIndex
  dsimp only
  rw [show d.engWrite _ _ _ _ _ = _ from h]

theorem Dev.batchWord_of_write {d e : Dev} {b : SolvBatch} {r : ReadResult}
    (h : d.engWrite (d.slotTenant b.slot) (d.slot b.slot).pasid b.desc
      (leBytes (completionWord b.status b.pivots b.ranges (d.since b.start)) 8) (slotReq b.slot true) = (.data r, e)) :
    d.batchWord b = (e.postBatch b).batchIndex { b with posted := true, out := [] } := by
  unfold Dev.batchWord
  dsimp only
  rw [h]

/-- The slot of a batch that has ended. -/
theorem Dev.afterBatch_served {s : State} {d : Dev} {b : SolvBatch} : (d.afterBatch b).solv.batch = none ∧
    SlotServed b.slot d s { s with dev := d.afterBatch b } := by
  refine ⟨rfl, (Dev.slot_setSlot_same _ _ _).trans ?_, fun i hi => Dev.slot_setSlot_other _ _ hi, rfl⟩
  simp

/-- Counting and posting a batch: its structure is the slot's, its number counted once. -/
theorem Dev.postBatch_counts (d : Dev) (b : SolvBatch) :
    ((d.postBatch b).slot b.slot).resident = b.resident.getD (d.slot b.slot).resident ∧
    (d.postBatch b).obj 0x7C20 (b.slot + 1) 0 = Nat.min (d.obj 0x7C20 (b.slot + 1) 0 + 1) (2 ^ 64 - 1) := by
  refine ⟨congrArg SSlot.resident (Dev.slot_setSlot_same _ _ _), ?_⟩
  have hcount : (d.countBatch b).obj 0x7C20 (b.slot + 1) 0 = Nat.min (d.obj 0x7C20 (b.slot + 1) 0 + 1) (2 ^ 64 - 1) := by
    have h3 : ((((d.bump 0x7C20 (b.slot + 1) 0 64).bump 0x7C21 (b.slot + 1) 0 64 b.pivots).bump 0x7C22 (b.slot + 1) 0 64
        b.ranges).obj 0x7C20 (b.slot + 1) 0) = Nat.min (d.obj 0x7C20 (b.slot + 1) 0 + 1) (2 ^ 64 - 1) := by
      rw [Dev.obj_bump_other _ (by simp only [okey]; omega), Dev.obj_bump_other _ (by simp only [okey]; omega),
        Dev.obj_bump_same]
    unfold Dev.countBatch
    dsimp only
    split
    · rw [Dev.obj_bump_other _ (by simp only [okey]; omega), h3]
    · exact h3
  exact hcount

/-- A batch whose results are in memory, or are none, ends with its word and its index. -/
theorem Dev.batchResults_of_writes {d d0 d1 d2 d3 : Dev} {b : SolvBatch} {r1 r2 r3 : ReadResult} (hnone : b.out = [] → d1 = d)
    (hsome : b.out ≠ [] → d.engWrite (d.slotTenant b.slot) (d.slot b.slot).pasid b.outVa b.out (slotReq b.slot false) =
      (.data r1, d0) ∧ d1 = { d0 with solv := { d0.solv with batch := some { b with out := [] } } })
    (hword : d1.engWrite (d1.slotTenant b.slot) (d1.slot b.slot).pasid b.desc
      (leBytes (completionWord b.status b.pivots b.ranges (d1.since b.start)) 8) (slotReq b.slot true) = (.data r2, d2))
    (hindex : IndexWrite (d2.postBatch { b with out := [] }) b.slot r3 d3) :
    d.batchResults b = d3.afterBatch { b with posted := true, out := [] } := by
  have hrest : d1.batchWord { b with out := [] } = d3.afterBatch { b with posted := true, out := [] } :=
    (Dev.batchWord_of_write (b := { b with out := [] }) hword).trans
      (Dev.batchIndex_of_write (b := { b with posted := true, out := [] }) hindex)
  unfold Dev.batchResults
  dsimp only
  by_cases hout : b.out = []
  · have hb : ({ b with out := [] } : SolvBatch) = b := by
      cases b
      cases hout
      rfl
    rw [hb] at hrest
    rw [hout, if_pos List.isEmpty_nil, ← hnone hout]
    rw [hrest]
  · obtain ⟨hw, he⟩ := hsome hout
    rw [if_neg (by simpa using hout), hw]
    dsimp only
    rw [← he]
    exact hrest

/-! ### The obligation -/

/-- Settles O45: ENABLE, polls, DISABLE and ABORT of a slot, and a batch from its start to its end. -/
theorem solverSlots : Obligations.SolverSlots := by
  refine ⟨fun s k d hon hf hst hw => ?enable, pollCmd_of_exec fun s k _ => exec_dev rfl rfl,
    pollCmd_of_exec fun s k hdue => exec_dev rfl (if_pos (by unfold Dev.since; omega)),
    fun s k hlt => exec_dev rfl (if_neg (by unfold Dev.since; omega)), fun s k hst hb => ?disable, fun s k hst hb => ?drain,
    fun s k hst hb => ?abortIdle, fun s k hst hb => ?abortBusy, fun s k va piv rng raw out r d1 d2 h hok hdelta hrun => ?full,
    fun s k va raw d1 h hbad => ?invalid, fun s k va piv rng raw out r d1 d2 h hok hdelta hrun => ?delta,
    fun s b c r1 r2 r3 d0 d1 d2 d3 hon hb hst hp hc hnone hsome hword hindex => ?done,
    fun s b r3 d3 hon hb hst hp hindex => ?posted⟩
  case enable =>
    obtain ⟨e, he⟩ : ∃ e, e = s.dev.setSlot k.val (slotLatched s.dev k.val) := ⟨_, rfl⟩
    have hslot : e.slot k.val = slotLatched s.dev k.val := he ▸ Dev.slot_setSlot_same _ _ _
    have hten : e.slotTenant k.val = s.dev.slotTenant k.val := by rw [he]; rfl
    rw [← he] at hw
    have hrep := e.engRead_rep (s.dev.slotTenant k.val) (s.dev.obj 0x7C12 (k.val + 1) 0)
      ((s.dev.obj 0x7C11 (k.val + 1) 0 + 8) % 2 ^ 64) 4 (slotReq_source k.val true)
    rw [hw] at hrep
    change e.Rep d at hrep
    have hsolv : d.solv = e.solv := by rw [hrep.1]
    have hpoll : e.slotPoll k.val = d := by
      refine Dev.slotPoll_of_wait (by rw [he]; exact hon) (by rw [hslot]; rfl) (by rw [hslot]; exact hf) (by rw [hslot]; rfl) ?_
      rw [hslot, hten]
      exact hw
    refine ⟨{ s with dev := d }, exec_dev rfl ?_, rfl, ?_, fun i hi => ?_⟩
    · rw [← hpoll, he]
      refine if_pos ?_
      rw [hon, hf]
      obtain h | h := hst <;> rw [h] <;> rfl
    · unfold Dev.slot at hslot ⊢
      dsimp only
      rw [hsolv, hslot]
    · unfold Dev.slot
      dsimp only
      rw [hsolv, he]
      exact Dev.slot_setSlot_other s.dev _ (fun hv => hi (Fin.ext hv))
  case disable =>
    refine ⟨_, exec_dev rfl (Dev.slotDisable_of_enabled hst), onlySlot_set _ _, (Dev.slot_setSlot_same _ _ _).trans ?_⟩
    rw [hb]
    rfl
  case drain =>
    refine ⟨_, exec_dev rfl (Dev.slotDisable_of_enabled hst), onlySlot_set _ _, (Dev.slot_setSlot_same _ _ _).trans ?_⟩
    rw [hb]
    rfl
  case abortIdle =>
    exact ⟨_, exec_dev rfl (Dev.slotStop_of_idle hst hb true), onlySlot_set _ _, Dev.slot_setSlot_same _ _ _⟩
  case abortBusy =>
    obtain ⟨h1, h2, h3, h4⟩ := Dev.slotStop_of_busy hst hb true
    exact ⟨_, exec_dev rfl rfl, h1, h2, h3, h4, rfl⟩
  case full =>
    refine ⟨{ s with dev := d2.putBatch k.val _ }, exec_dev rfl ((Dev.runSlot_of_ready h fun _ => hdelta).trans ?_), rfl, rfl, rfl⟩
    unfold Dev.runDesc
    rw [hok, if_neg (by decide), if_neg Bool.false_ne_true, hrun]
  case invalid =>
    refine ⟨{ s with dev := (batchStarted d1 k.val va).putBatch k.val _ }, exec_dev rfl
      ((Dev.runSlot_of_ready h fun hok => absurd (hok.symm.trans hbad) (by decide)).trans ?_), rfl, rfl, rfl⟩
    exact if_pos (by rw [hbad]; rfl)
  case delta =>
    refine ⟨{ s with dev := d2.putBatch k.val _ }, exec_dev rfl ((Dev.runSlot_of_ready h fun _ => hdelta).trans ?_), rfl, rfl, rfl⟩
    unfold Dev.runDesc
    rw [hok, if_neg (by decide), if_pos rfl, hrun]
  case done =>
    subst hc
    obtain ⟨hres, hcount⟩ := d2.postBatch_counts { b with out := [] }
    obtain ⟨hbatch, hserved⟩ := Dev.afterBatch_served (s := s) (d := d3) (b := { b with posted := true, out := [] })
    refine ⟨_, exec_dev rfl ?_, hbatch, fun r hr => ?_, hcount, hserved⟩
    · unfold Dev.batchDone
      rw [hb]
      dsimp only
      rw [if_neg (by simp [hst, hon]), hp, if_neg Bool.false_ne_true]
      exact Dev.batchResults_of_writes hnone hsome hword hindex
    · refine hres.trans ?_
      dsimp only
      rw [hr]
      rfl
  case posted =>
    obtain ⟨hbatch, hserved⟩ := Dev.afterBatch_served (s := s) (d := d3) (b := b)
    refine ⟨_, exec_dev rfl ?_, hbatch, hserved⟩
    unfold Dev.batchDone
    rw [hb]
    dsimp only
    rw [if_neg (by simp [hst, hon]), hp, if_pos rfl]
    exact Dev.batchIndex_of_write hindex

end Sys2Proof.Machine

/-! ## Scout queries (R297 to R306, R316) -/

namespace Sys2Proof.Machine

open Sys2Proof.Stm

/-! ### What the scout manager's going on does to the tiles -/

/-- A waiting query goes on: it may start or be forced, and stays the query it is. -/
def QueryLater (a b : Option Query) : Prop :=
  (a = none → b = none) ∧ ∀ q, a = some q → ∃ z, b = some z ∧ z = { q with snap := z.snap, forced := z.forced }

theorem QueryLater.refl (a : Option Query) : QueryLater a a := ⟨id, fun q h => ⟨q, h, rfl⟩⟩

theorem QueryLater.trans {a b c : Option Query} (h : QueryLater a b) (h' : QueryLater b c) : QueryLater a c := by
  refine ⟨fun ha => h'.1 (h.1 ha), fun q hq => ?_⟩
  obtain ⟨y, hy, hyq⟩ := h.2 q hq
  obtain ⟨z, hz, hzy⟩ := h'.2 y hy
  exact ⟨z, hz, by rw [hzy, hyq]⟩

/-- Only queries of the tiles, the scout manager, the dictionary and the clocks differ; every query goes on. -/
structure Dev.QueriesGoOn (d e : Dev) : Prop where
  frame : e = { d with tiles := e.tiles, scout := e.scout, dict := e.dict, clk := e.clk }
  tile : ∀ i, ∃ o, e.tile i = { d.tile i with query := o } ∧ QueryLater (d.tile i).query o

theorem Dev.QueriesGoOn.refl (d : Dev) : d.QueriesGoOn d := ⟨rfl, fun i => ⟨(d.tile i).query, rfl, .refl _⟩⟩

theorem Dev.QueriesGoOn.trans {a b c : Dev} (h : a.QueriesGoOn b) (h' : b.QueriesGoOn c) : a.QueriesGoOn c := by
  refine ⟨by rw [h'.frame, h.frame], fun i => ?_⟩
  obtain ⟨o, ho, hlater⟩ := h.tile i
  obtain ⟨o', ho', hlater'⟩ := h'.tile i
  rw [ho] at ho' hlater'
  exact ⟨o', ho', hlater.trans hlater'⟩

/-- Only the scout manager, the dictionary and the clocks differ. -/
def Dev.ScoutOnly (d e : Dev) : Prop := e = { d with scout := e.scout, dict := e.dict, clk := e.clk }

theorem Dev.ScoutOnly.trans {a b c : Dev} (h : a.ScoutOnly b) (h' : b.ScoutOnly c) : a.ScoutOnly c := by
  rw [Dev.ScoutOnly] at *
  rw [h', h]

theorem Dev.ScoutOnly.queries {d e : Dev} (h : d.ScoutOnly e) : d.QueriesGoOn e := by
  refine ⟨by rw [h], fun i => ⟨(d.tile i).query, ?_, .refl _⟩⟩
  rw [show e.tile i = d.tile i by rw [h]; rfl]

theorem Dev.wakeArrays_only (d : Dev) (l : List Nat) : d.ScoutOnly (d.wakeArrays l) := by
  rw [Dev.wakeArrays_frame]
  rfl

theorem Dev.setArrays_only {d : Dev} (f : Dev → Nat → SArray) (l : List Nat) {e : Dev} (h : d.ScoutOnly e) :
    d.ScoutOnly (l.foldl (fun (d : Dev) a => d.setArray a (f d a)) e) :=
  foldl_keeps (fun e => d.ScoutOnly e) _ (fun e a he => he.trans (show e.ScoutOnly (e.setArray a (f e a)) from rfl)) l e h

theorem Dev.makeSlots_only (tenant need seq n : Nat) : ∀ d : Dev, d.ScoutOnly (Dev.makeSlots tenant need seq n d).2 := by
  induction n with
  | zero => exact fun d => rfl
  | succ n ih =>
    intro d
    rw [Dev.makeSlots]
    dsimp only
    split
    · exact rfl
    · split
      · exact rfl
      · split
        · exact Dev.ScoutOnly.trans (b := d.dropSpan _) rfl (ih _)
        · exact rfl

theorem Dev.spanFor_only (d : Dev) (n : Nat) (q : Seq) : d.ScoutOnly (d.spanFor n q).2 := by
  have hslots : d.ScoutOnly _ := Dev.ScoutOnly.trans (b := d.dropSpan n) rfl
    (Dev.makeSlots_only q.tenant (ceilDiv (q.groups * q.pages) 64) n (d.dropSpan n).spans.length (d.dropSpan n))
  unfold Dev.spanFor
  split
  · exact rfl
  · dsimp only
    split
    · rename_i heq; rw [heq] at hslots; exact hslots
    · rename_i heq; rw [heq] at hslots; exact hslots.trans rfl

theorem Dev.startLoad_only (d : Dev) (sp : ScSpan) (layer b prio : Nat) : d.ScoutOnly (d.startLoad sp layer b prio) := by
  unfold Dev.startLoad
  dsimp only
  generalize ScSpan.setBank _ _ _ = sp'
  have htake : d.ScoutOnly (sp'.arrays.foldl (fun (d : Dev) a => d.takeBank sp'.tenant b a) ((d.wakeArrays sp'.arrays).putSpan sp')) :=
    Dev.setArrays_only _ _ ((d.wakeArrays_only _).trans rfl)
  exact htake.trans rfl

theorem Dev.pumpNext_only (d : Dev) (sp : ScSpan) : d.ScoutOnly (d.pumpNext sp) := by
  unfold Dev.pumpNext
  split
  · exact rfl
  · split
    · exact rfl
    · split
      · exact rfl
      · exact d.startLoad_only _ _ _ _

/-- A tile's query is forced to select every page. -/
theorem Dev.forced_queries {d : Dev} {t : Nat} {q : Query} (h : (d.tile t).query = some q) :
    d.QueriesGoOn (d.updTile t (fun x => { x with query := some { q with forced := true } })) := by
  refine ⟨rfl, fun i => ?_⟩
  by_cases hi : i = t
  · subst hi
    refine ⟨some { q with forced := true }, Dev.tile_setTile_same _ _ _, fun hn => ?_, fun z hz => ?_⟩
    · rw [h] at hn
      cases hn
    · rw [h] at hz
      cases hz
      exact ⟨_, rfl, rfl⟩
  · exact ⟨(d.tile i).query, Dev.tile_setTile_other _ _ hi, .refl _⟩

/-- Queries that share an evaluation receive its result. -/
def Tile.given (shares : Query → Bool) (sn : QSnap) (x : Tile) : Tile :=
  { x with query := x.query.map (fun o => if shares o then { o with snap := some sn } else o) }

theorem Dev.given_queries (d : Dev) (shares : Query → Bool) (sn : QSnap) :
    d.QueriesGoOn { d with tiles := d.tiles.mapVal (Tile.given shares sn) } := by
  refine ⟨rfl, fun i => ⟨_, KMap.get_mapVal d.tiles (Tile.given shares sn) i {} rfl, fun hn => ?_, fun q hq => ?_⟩⟩
  · rw [Option.map_eq_none_iff]
    exact hn
  · refine ⟨if shares q then { q with snap := some sn } else q, ?_, ?_⟩
    · rw [show ((d.tiles.get i {}).query : Option Query) = some q from hq]
      rfl
    · split <;> rfl

theorem Dev.startQuery_queries (d : Dev) (q : Query) (sq : Seq) (sp : ScSpan) (b : Nat) (l : Layer) :
    d.QueriesGoOn (d.startQuery q sq sp b l) := by
  unfold Dev.startQuery
  dsimp only
  generalize Dev.evaluate _ _ _ _ _ = sn
  have hthresh : d.ScoutOnly ((d.wakeArrays sn.arrays).setThresh sn.arrays.eraseDups b q.block) :=
    Dev.setArrays_only _ _ (d.wakeArrays_only _)
  exact ((hthresh.trans (c := Dev.putSpan _ _) rfl).queries.trans (Dev.given_queries _ _ sn)).trans (Dev.pumpNext_only _ _).queries

theorem Dev.queryTry_queries (d : Dev) (t : Nat) : d.QueriesGoOn (d.queryTry t) := by
  unfold Dev.queryTry
  split
  · exact .refl d
  · rename_i q hq
    split
    · exact .refl d
    · split
      · exact Dev.forced_queries hq
      · rename_i sq _
        have hspan := d.spanFor_only q.seq sq
        split
        · rename_i e heq
          rw [heq] at hspan
          have hq' : (e.tile t).query = some q := by rw [show e = _ from hspan]; exact hq
          exact (hspan.queries.trans (Dev.forced_queries hq')).trans (Dev.ScoutOnly.queries (e := Dev.bump _ _ _ _ _) rfl)
        · rename_i heq
          rw [heq] at hspan
          refine hspan.queries.trans ?_
          split
          · split
            · exact Dev.startQuery_queries _ _ _ _ _ _
            · exact Dev.ScoutOnly.queries rfl
          · split
            · exact (Dev.startLoad_only _ _ _ _ _).queries
            · exact .refl _

/-- What waits in the scout manager goes on: the tiles keep everything but the progress of their queries. -/
theorem Dev.scoutPump_queries (d : Dev) : d.QueriesGoOn d.scoutPump := by
  have htry : d.QueriesGoOn ((d.tiles.map (fun e => e.1)).foldl Dev.queryTry d) :=
    foldl_keeps (fun e => d.QueriesGoOn e) _ (fun e t he => he.trans (e.queryTry_queries t)) _ d (.refl d)
  refine foldl_keeps (fun e => d.QueriesGoOn e) _ (fun e sp he => he.trans ?_) _ _ htry
  split
  · exact (e.pumpNext_only _).queries
  · exact .refl e

theorem Dev.QueriesGoOn.cells {d e : Dev} (h : d.QueriesGoOn e) (i kind : Nat) : (e.tile i).cells kind = (d.tile i).cells kind := by
  obtain ⟨o, ho, -⟩ := h.tile i
  rw [ho]
  rfl

/-! ### Answers -/

/-- An outstanding item of the scout. -/
def OutItem.ofScout : OutItem → Bool
  | .op _ unit _ _ _ _ _ => unit == 7
  | .fence _ => false

/-- A tile whose query has its answer: COUNTREG holds the number, nothing of the scout is outstanding. -/
def Tile.queryEnded (x : Tile) (reg n : Nat) : Tile :=
  { x.setS reg n with out := dropFences (x.out.filter (fun o => !o.ofScout)) }

/-- A tile whose query no longer waits; its wait counts in the segment. -/
def Tile.queryGone (x : Tile) (seg : Nat) : Tile := { x with query := none, seg := if x.stalled then x.seg else Nat.max x.seg seg }

theorem Tile.queryEnded_cells (x : Tile) (reg n kind : Nat) : (x.queryEnded reg n).cells kind = x.cells kind := by
  rw [Tile.queryEnded, Tile.setS_frame]
  rfl

theorem Tile.queryGone_setCells (x : Tile) (seg kind : Nat) (cs : List Host.Cell) :
    (x.queryGone seg).setCells kind cs = (x.setCells kind cs).queryGone seg := by
  unfold Tile.setCells
  split <;> rfl

theorem Tile.s_setS_congr {x y : Tile} (h : x.sregs = y.sregs) (i v j : Nat) : (x.setS i v).s j = (y.setS i v).s j := by
  have hregs : (x.setS i v).sregs = (y.setS i v).sregs := by
    unfold Tile.setS
    split
    · exact h
    · exact congrArg (fun m => m.put i (BitVec.ofNat 64 v)) h
  unfold Tile.s
  rw [hregs]

/-- The counters of an answered query. -/
def Dev.queryCounted (d : Dev) (q : Query) (late : Bool) : Dev :=
  let d' := (d.bump 0x7830 1 q.tenant 64).bump 0x7830 3 q.tenant 64 ((d.queryBits q late).filter (fun b => b)).length
  let d' := if q.snap.any (fun sn => sn.exact) then d'.bump 0x7830 2 q.tenant 64 else d'
  if late then d'.bump 0x7830 4 q.tenant 32 else d'

theorem Dev.queryCounted_frame (d : Dev) (q : Query) (late : Bool) :
    d.queryCounted q late = { d with dict := (d.queryCounted q late).dict } := by
  unfold Dev.queryCounted
  dsimp only
  split <;> split <;> rfl

/-- A tile's query is answered: the tile as said, and besides it only counters and what the scout manager does next. -/
theorem Dev.queryDone_answers {d : Dev} {t j : Nat} {q : Query} {x : Job} (hq : (d.tile t).query = some q)
    (hj : d.tileJob t = some (j, x)) (hm : (d.tile t).Unmarked q.result.kind) (late : Bool) : ∃ (e : Dev) (seg : Nat) (cs : List Host.Cell),
    e.scoutPump = d.queryDone t late ∧ e.mem = d.mem ∧ e.jobs = d.jobs ∧
    e.tile t = (((d.tile t).queryGone seg).setCells q.result.kind cs).queryEnded q.countReg
      ((d.queryBits q late).filter (fun b => b)).length ∧
    ∀ a, cellAt cs a = if q.result.start ≤ a ∧ a < q.result.start + (bitBytes (d.queryBits q late) q.result.len).length then
      byteAt (bitBytes (d.queryBits q late) q.result.len) (a - q.result.start) else cellAt ((d.tile t).cells q.result.kind) a := by
  obtain ⟨c, hc⟩ : ∃ c, c = d.queryCounted q late := ⟨_, rfl⟩
  have hcount : c = { d with dict := c.dict } := by
    rw [hc]
    exact d.queryCounted_frame q late
  have hgone := (Dev.OneTile.refl c t).updTile (fun y => y.queryGone (c.querySeg t q))
  rw [show c.tile t = d.tile t by rw [hcount]; rfl] at hgone
  obtain ⟨e, he⟩ : ∃ e, e = c.updTile t (fun y => y.queryGone (c.querySeg t q)) := ⟨_, rfl⟩
  rw [← he] at hgone
  have hm1 : (e.tile t).Unmarked q.result.kind := by
    rw [hgone.tile]
    exact hm
  obtain ⟨cs, ⟨f, hrun, hf⟩, hcs⟩ := TM.writeAll_one_turns (unit := 7) (bs := bitBytes (d.queryBits q late) q.result.len) hm1
  rw [hgone.tile] at hf hcs
  have hend := (hgone.trans hf).updTile (fun y => y.queryEnded q.countReg ((d.queryBits q late).filter (fun b => b)).length)
  refine ⟨_, c.querySeg t q, cs, ?_, ?_, ?_, hend.tile, hcs⟩
  · unfold Dev.queryDone
    rw [hq, hj]
    dsimp only
    change _ = (match (TM.write t 7 q.result (bitBytes (d.queryBits q late) q.result.len)).run.run ((d.queryCounted q late).updTile t
      (fun y => y.queryGone ((d.queryCounted q late).querySeg t q))) with
        | (.ok _, g) => g.updTile t (fun y => y.queryEnded q.countReg ((d.queryBits q late).filter (fun b => b)).length)
        | (.error err, g) => g.tileErr t _ err : Dev).scoutPump
    rw [← hc, ← he, show (TM.write t 7 q.result (bitBytes (d.queryBits q late) q.result.len)).run.run e = _ from hrun]
  · rw [hend.frame, hcount]
  · rw [hend.frame, hcount]

/-- What an answered query leaves on its tile. -/
theorem Dev.queryDone_answered {s : State} {d : Dev} {k : TileId} {j : Nat} {q : Query} {x : Job} (hq : QueryTile d k q j x)
    (hm : Stm.Unmarked (d.tile k.val)) (late : Bool) :
    QueryAnswered k d q (d.queryBits q late) { s with dev := d.queryDone k.val late } ∧ (d.queryDone k.val late).mem = d.mem ∧
      (d.queryDone k.val late).jobs = d.jobs := by
  obtain ⟨hquery, hj, hk⟩ := hq
  obtain ⟨h1, h2, h3, h4⟩ := hm
  obtain ⟨e, seg, cs, hpump, hmem, hjobs, htile, hcs⟩ :=
    Dev.queryDone_answers hquery hj (unmarked_of_fields (kind := q.result.kind) h1 h2 h3 h4) late
  have hs := e.scoutPump_scouts
  obtain ⟨o, ho, hlater⟩ := e.scoutPump_queries.tile k.val
  rw [hpump] at hs ho
  obtain ⟨n, hn⟩ : ∃ n, n = ((d.queryBits q late).filter (fun b => b)).length := ⟨_, rfl⟩
  rw [← hn] at htile
  have hnone : o = none := hlater.1 (by rw [htile, Tile.queryEnded, Tile.setS_frame, Tile.setCells_frame]; rfl)
  have hregs : ∀ i, ((d.queryDone k.val late).tile k.val).s i = (((d.tile k.val).queryGone seg).setS q.countReg n).s i := fun i => by
    rw [ho, htile]
    exact Tile.s_setS_congr (by rw [Tile.setCells_frame]) _ _ _
  have hcells : ∀ kind, ((d.queryDone k.val late).tile k.val).cells kind = ((d.tile k.val).setCells q.result.kind cs).cells kind :=
    fun kind => by
      rw [ho, htile, Tile.queryGone_setCells]
      exact Tile.queryEnded_cells _ _ _ _
  refine ⟨⟨?_, ?_, fun h0 => ?_, fun i hi => ?_, ?_⟩, hs.mem.trans hmem, hs.jobs.trans hjobs⟩
  · rw [ho, hnone]
  · obtain ⟨hin, hout⟩ := storeHolds_of_cells (y := d.tile k.val) hk (leBytes_length _ _) hcs
    refine ⟨?_, fun kind a hkind ha => ?_⟩
    · dsimp only
      rw [hcells]
      exact hin
    · dsimp only
      rw [hcells]
      exact hout kind a hkind ha
  · dsimp only
    rw [hregs, Tile.s_setS_same _ h0, hn]
  · dsimp only
    rw [hregs, Tile.s_setS_other _ hi]
    rfl
  · dsimp only
    rw [ho, htile, Tile.queryEnded, Tile.setS_frame, Tile.setCells_frame]
    rfl

/-! ### The selection contract -/

theorem foldl_add_map {α : Type} (f : α → Int) (l : List α) (n : Int) : l.foldl (fun e x => e + f x) n = n + (l.map f).sum := by
  induction l generalizing n with
  | nil => simp
  | cons a l ih => rw [List.foldl_cons, ih, List.map_cons, List.sum_cons, add_assoc]

/-- The levels of a column, code by code. -/
theorem sketchLevels_codes (d : Dev) (a b col : Nat) : sketchLevels (d.sketchAt a b col) =
    (List.range 256).map (fun i => 2 * ((codeAt d a b col i : Nat) : Int) - 3) := by
  refine List.map_congr_left fun i _ => ?_
  rw [bitsAt_eq]
  rfl

section
variable {d : Dev} {q : Query} {sp : ScSpan} {b : Nat} {l : Layer} {qs : List Int} {p a col : Nat} (hp : p < l.np)
  (hcol : ColumnIs q sp p a col) (hl : l.failed = false) (hsilent : d.silentArray q a = false)
include hp hcol hl hsilent

/-- The bit of a page whose array answers. -/
theorem Dev.pageBit_of_column : d.pageBit q sp b l qs p =
    (l.always.getD (q.group * sp.np + p) true ||
      if d.exactOn q a then decide (threshOf q.block ≤ exactScore qs (sketchLevels (d.sketchAt a b col)))
      else bitAt (d.array a).suspect col ||
        d.chargeOn q a col (chargeScore qs (sketchLevels (d.sketchAt a b col))) (threshCOf q.block)) := by
  obtain ⟨slot, hslot, rfl⟩ := hcol
  have hof : sp.columnOf q.group p = (a, slot * 64 + (q.group * sp.np + p) % 64) := by
    unfold ScSpan.columnOf
    dsimp only
    rw [List.getD_eq_getElem?_getD, hslot]
    rfl
  unfold Dev.pageBit
  rw [hof]
  dsimp only
  rw [if_neg (Nat.not_le.mpr hp), hl, hsilent, Bool.false_or, Bool.or_false]
  cases l.always.getD (q.group * sp.np + p) true with
  | true => rfl
  | false =>
    rw [if_neg Bool.false_ne_true, Bool.false_or]
    split
    · rfl
    · cases bitAt (d.array a).suspect (slot * 64 + (q.group * sp.np + p) % 64) <;> rfl

theorem Dev.pageBit_exact (hex : d.exactOn q a = true) (hlen : q.group * sp.np + p < l.always.length) :
    d.pageBit q sp b l qs p = true ↔ l.always[q.group * sp.np + p]? = some true ∨
      threshOf q.block ≤ ((qs.zip ((List.range 256).map (fun i => 2 * ((codeAt d a b col i : Nat) : Int) - 3))).map
        (fun e => e.1 * e.2)).sum := by
  rw [Dev.pageBit_of_column hp hcol hl hsilent, if_pos hex, Bool.or_eq_true, decide_eq_true_eq, sketchLevels_codes, exactScore,
    foldl_add_map, zero_add, List.getD_eq_getElem?_getD, List.getElem?_eq_getElem hlen, Option.getD_some, Option.some_inj]

theorem Dev.pageBit_charge (hex : d.exactOn q a = false) (halways : l.always[q.group * sp.np + p]? = some false)
    (hsus : (d.array a).suspect.testBit col = false) (hshift : KMap.find q.shift a = none) {e : Int}
    (he : e = ((qs.zip ((List.range 256).map (fun i => 2 * ((codeAt d a b col i : Nat) : Int) - 3))).map
      (fun x => x.1 / 4 * x.2)).sum) :
    (threshCOf q.block ≤ e → d.pageBit q sp b l qs p = true) ∧
    (e < threshCOf q.block - 2 * (d.obj 0x7810 0 0 : Int) → d.pageBit q sp b l qs p = false) := by
  have hscore : chargeScore qs (sketchLevels (d.sketchAt a b col)) = e := by
    rw [he, sketchLevels_codes, chargeScore, foldl_add_map, zero_add]
  have hnone : ¬ (KMap.find q.shift a).isSome = true := by rw [hshift]; decide
  rw [Dev.pageBit_of_column hp hcol hl hsilent, List.getD_eq_getElem?_getD, halways, Option.getD_some, Bool.false_or, hex,
    if_neg Bool.false_ne_true, show bitAt (d.array a).suspect col = false from hsus, Bool.false_or, hscore, Dev.chargeOn]
  rw [if_neg hnone]
  refine ⟨fun hle => if_pos hle, fun hlt => ?_⟩
  rw [if_neg (by omega), if_pos hlt]

end

/-! ### SCOUT QUERY -/

/-- The query that a word enters. -/
def Entered (y : Tile) (w : Tcw) (blk res : Span) (tick : Nat) (z : Query) : Prop :=
  z.seq = y.s 3 ∧ z.layer = y.s (fieldOf w 88 4) ∧ z.group = y.s (fieldOf w 84 4) ∧ z.block = bytesAt y blk ∧ z.result = res ∧
    z.countReg = fieldOf w 80 4 ∧ z.start = tick

/-- The query that SCOUT QUERY enters on a device that has read its operands. -/
def Dev.enteredQuery (d : Dev) (k : Nat) (w : Tcw) (y : Tile) (tenant : Nat) (b : List Byte) (res : Span) : Query :=
  let key := fun (o : Query) => o.tenant == tenant && o.seq == y.s 3 && o.layer == y.s (fieldOf w 88 4) &&
    o.group == y.s (fieldOf w 84 4) && o.block == b
  { id := d.scout.nextQuery
    eval := ((d.tiles.findSome? (fun e => e.2.query.filter (fun o => o.snap.isNone && key o))).map (fun o => o.eval)).getD
      d.scout.nextQuery
    tenant := tenant, seq := y.s 3, layer := y.s (fieldOf w 88 4), group := y.s (fieldOf w 84 4), block := b
    result := res, countReg := fieldOf w 80 4, exact := w.toNat.testBit 79 || d.obj 0x7820 0 tenant == 1
    limit := d.obj 0x7811 0 0, start := d.pwr.tick
    prio := match d.tileJob k with
      | some (_, j) => j.effClass
      | none => 6
    shift := ((List.range 128).map (fun a => (a, d.obj 0xD014 (a + 1) 0))).filter (fun e => e.2 != 0), seg := y.seg }

/-- A number of a query is spent. -/
def Dev.queryNumbered (d : Dev) : Dev := { d with scout := { d.scout with nextQuery := d.scout.nextQuery + 1 } }

theorem scoutBody_runs {d : Dev} {k : Nat} {w : Tcw} {q : Seq} {blk res : Span} (hf : Fresh (d.tile k))
    (hnone : (d.tile k).query = none) (hq : d.seqOf (d.tileTenant k) ((d.tile k).s 3) = some q)
    (hblk : (d.tile k).operand (fieldOf w 102 10) 136 [1, 2] false = some blk)
    (hres : (d.tile k).operand (fieldOf w 92 10) (((q.pageCap + 511) / 512) * 64) [1, 2] true = some res)
    (hlay : (d.tile k).s (fieldOf w 88 4) < q.layers) (hgrp : (d.tile k).s (fieldOf w 84 4) < q.groups)
    (hzero : leNat (((bytesAt (d.tile k) blk).drop 128).take 4) = 0) : ∃ (e : Dev) (z : Query),
    TM.Runs (scoutBody k w.toNat) d none e.scoutPump ∧ e = { d with tiles := e.tiles, scout := e.scout } ∧
      e.tile k = { (d.tile k).queued 7 .compute [] [res] [fieldOf w 80 4] with query := some z } ∧
      Entered (d.tile k) w blk res d.pwr.tick z := by
  obtain ⟨d1, hrun1, hd1⟩ := TM.operand_turns_of_fresh hf hblk
  rw [← hd1.tile] at hf hres hzero
  obtain ⟨d2, hrun2, hd2⟩ := TM.operand_turns_of_fresh hf hres
  rw [← hd2.tile] at hf hzero
  obtain ⟨d3, hrun3, hd3⟩ := TM.read_turns (unit := 7) (Stm.fresh_marks hf blk.kind)
  have hone : d.OneTile k (d.tile k) d3 := by
    have h2 := hd2.tile ▸ hd2
    have h3 := (hd1.trans hd2).trans hd3
    rw [hd2.tile, hd1.tile] at h3
    exact h3
  have hbytes : cellsRead ((d2.tile k).cells blk.kind) blk.start blk.len = bytesAt (d.tile k) blk := by
    rw [hd2.tile, hd1.tile]
    rfl
  rw [hbytes] at hrun3
  have hlow : (bitsAt (leNat ((bytesAt (d.tile k) blk).drop 128)) 0 32 == 0) = true := by
    have hz := bitsAt_leNat (b := (bytesAt (d.tile k) blk).drop 128) (k := 0) (Nat.zero_le _) 4
    rw [hd2.tile, hd1.tile] at hzero
    rw [List.drop_zero, hzero] at hz
    exact beq_iff_eq.mpr hz
  obtain ⟨m, hm⟩ : ∃ m, d3 = { d with tiles := m } := ⟨_, hone.frame⟩
  obtain ⟨z, hz⟩ : ∃ z, z = d3.enteredQuery k w (d.tile k) (d.tileTenant k) (bytesAt (d.tile k) blk) res := ⟨_, rfl⟩
  have hrun : TM.Runs (scoutBody k w.toNat) d none ((d3.queryNumbered.updTile k (fun x => x.queued 7 .compute [] [res]
      [fieldOf w 80 4])).updTile k (fun x => { x with query := some z })).scoutPump := by
    unfold scoutBody
    simp only [bitsAt_field, bitAt]
    refine (TM.runs_get d).bind ((TM.runs_need (by rw [hnone]; rfl) _ d).bind ?_)
    rw [hq]
    dsimp only
    refine hrun1.bind (hrun2.bind ((TM.runs_need (by rw [decide_eq_true hlay, decide_eq_true hgrp]; rfl) _ d2).bind ?_))
    refine (TM.runs_hazard hf.1 _ _).bind (hrun3.bind ((TM.runs_need ?_ _ d3).bind ((TM.runs_get d3).bind ?_)))
    · rw [← bitsAt_field] at *
      exact hlow
    · rw [hz]
      exact (TM.runs_set d3 _).bind ((TM.runs_upd _ _).bind ((TM.runs_upd _ _).bind (TM.runs_pure none _)))
  refine ⟨_, z, hrun, ?_, ?_, ?_⟩
  · rw [hm]
    rfl
  · unfold Dev.updTile
    rw [Dev.tile_setTile_same, Dev.tile_setTile_same, show d3.queryNumbered.tile k = d.tile k from hone.tile]
  · rw [hz]
    refine ⟨rfl, rfl, rfl, rfl, rfl, rfl, ?_⟩
    rw [hm]
    rfl

/-- SCOUT QUERY of a tile with nothing outstanding and no query. -/
theorem nexts_scoutQuery {s : State} {k : TileId} {w : Tcw} {d' : Dev} {q : Seq} {blk res : Span} (hi : Issues s.dev k.val w 5 0
      [fieldOf w 102 4, fieldOf w 92 4, 3, fieldOf w 88 4, fieldOf w 84 4, fieldOf w 80 4] d')
    (hlegal : onlyBits w.toNat [(111, 79)] = true) (hf : Fresh (d'.tile k.val)) (hnone : (d'.tile k.val).query = none)
    (hq : d'.seqOf (d'.tileTenant k.val) ((d'.tile k.val).s 3) = some q)
    (hblk : (d'.tile k.val).operand (fieldOf w 102 10) 136 [1, 2] false = some blk)
    (hres : (d'.tile k.val).operand (fieldOf w 92 10) (((q.pageCap + 511) / 512) * 64) [1, 2] true = some res)
    (hlay : (d'.tile k.val).s (fieldOf w 88 4) < q.layers) (hgrp : (d'.tile k.val).s (fieldOf w 84 4) < q.groups)
    (hzero : leNat (((bytesAt (d'.tile k.val) blk).drop 128).take 4) = 0) : Nexts (.scoutQuery k w) s fun t =>
      (∃ z, (t.dev.tile k.val).query = some z ∧ Entered (d'.tile k.val) w blk res d'.pwr.tick z) ∧
      (t.dev.tile k.val).pos = (d'.tile k.val).pos + 1 ∧ (t.dev.tile k.val).sregs = (d'.tile k.val).sregs ∧
      (∃ i p, (t.dev.tile k.val).out = [.op i 7 p .compute [] [res] [fieldOf w 80 4]]) ∧
      (∀ kind a, cellAt ((t.dev.tile k.val).cells kind) a = cellAt ((d'.tile k.val).cells kind) a) ∧
      t = { s with dev := { d' with
        tiles := t.dev.tiles, scout := t.dev.scout, dict := t.dev.dict, clk := t.dev.clk } } := by
  obtain ⟨e, z, hrun, hframe, htile, hz⟩ := scoutBody_runs hf hnone hq hblk hres hlay hgrp hzero
  have hexec := exec_of_runs (c := .scoutQuery k w) (cmd := { grp := 5, fn := 0
                                                              regs := fun w => [offReg (bitsAt w 102 10),
                                                                offReg (bitsAt w 92 10), 3, bitsAt w 88 4, bitsAt w 84 4,
                                                                bitsAt w 80 4]
                                                              legal := fun w => onlyBits w [(111, 79)] })
    (body := scoutBody) rfl hi ⟨rfl, rfl, rfl, by simp only [offReg_fieldOf, bitsAt_field], rfl, hlegal, rfl⟩ hrun
  obtain ⟨f, hf'⟩ : ∃ f, f = e.scoutPump.updTile k.val (fun y => y.goesOn ((d'.tile k.val).pos + 1)) := ⟨_, rfl⟩
  obtain ⟨o, ho, hlater⟩ := e.scoutPump_queries.tile k.val
  rw [htile] at ho hlater
  obtain ⟨z', hz', hzz⟩ := hlater.2 z rfl
  have hfin : f.tile k.val = ({ (d'.tile k.val).queued 7 .compute [] [res] [fieldOf w 80 4] with query := o } : Tile).goesOn
      ((d'.tile k.val).pos + 1) := by
    rw [hf', Dev.updTile, Dev.tile_setTile_same, ho]
  rw [Tile.goesOn_frame] at hfin
  have hframe' : f = { d' with tiles := f.tiles, scout := f.scout, dict := f.dict, clk := f.clk } := by
    rw [hf', Dev.updTile, e.scoutPump_queries.frame, hframe]
    rfl
  refine ⟨{ s with dev := f }, hexec.trans (by rw [hf']; rfl), ⟨z', ?_, ?_⟩, ?_, ?_,
    ⟨(d'.tile k.val).nextOp, (d'.tile k.val).pos, ?_⟩, fun kind a => ?_,
    congrArg (fun g : Dev => { s with dev := g }) hframe'⟩
  · dsimp only
    rw [hfin]
    exact hz'
  · rw [hzz]
    exact hz
  · dsimp only
    rw [hfin]
  · dsimp only
    rw [hfin]
    rfl
  · dsimp only
    rw [hfin]
    dsimp only
    rw [Tile.queued, hf.1, List.nil_append]
  · dsimp only
    rw [hfin]
    rfl

theorem Dev.scoutPump_tick (d : Dev) : d.scoutPump.pwr = d.pwr := by
  rw [d.scoutPump_queries.frame]

/-- SCOUT_QUERY_COMPLETE of a query that has its pages. -/
theorem nexts_queryComplete {s : State} {k : TileId} {q : Query} {j : Nat} {x : Job} {d1 : Dev} (hd : d1 = s.dev.scoutPump)
    (hserve : d1.serving = true) (hq : QueryTile d1 k q j x) (hm : Stm.Unmarked (d1.tile k.val))
    (hhas : q.forced = true ∨ q.snap.isSome = true) (hin : s.dev.pwr.tick - q.start < q.limit) :
    Nexts (.scoutQueryComplete k) s fun t =>
      QueryAnswered k d1 q (d1.queryBits q false) t ∧ t.dev.mem = d1.mem ∧ t.dev.jobs = d1.jobs := by
  refine ⟨_, exec_dev rfl ?_, Dev.queryDone_answered (s := s) hq hm false⟩
  dsimp only
  have hsince : d1.since q.start < q.limit := by
    rw [Dev.since, hd, s.dev.scoutPump_tick]
    exact hin
  have hhas' : (q.forced || q.snap.isSome) = true := Bool.or_eq_true_iff.mpr hhas
  rw [← hd, hq.1]
  dsimp only
  rw [hserve, hhas', decide_eq_true hsince]
  rfl

/-- A late query selects every page that it may. -/
theorem Dev.queryBits_late {d : Dev} {q : Query} {n : Nat} (h : LatePages d q n) : d.queryBits q true = List.replicate n true := by
  unfold Dev.queryBits
  obtain ⟨sn, hsn, rfl⟩ | ⟨hsn, sq, hsq, ht, rfl⟩ := h
  · rw [hsn]
    rfl
  · rw [hsn]
    dsimp only
    rw [Dev.seqOf, hsq]
    simp [ht]

/-- SCOUT_QUERY_TIMEOUT of a query that has waited its limit. -/
theorem nexts_queryTimeout {s : State} {k : TileId} {q : Query} {j n : Nat} {x : Job} (hserve : s.dev.serving = true)
    (hq : QueryTile s.dev k q j x) (hm : Stm.Unmarked (s.dev.tile k.val)) (hlate : q.limit + q.start ≤ s.dev.pwr.tick)
    (hn : LatePages s.dev q n) : Nexts (.scoutQueryTimeout k) s fun t =>
      QueryAnswered k s.dev q (List.replicate n true) t ∧ t.dev.mem = s.dev.mem ∧ t.dev.jobs = s.dev.jobs := by
  refine ⟨_, exec_dev rfl ?_, Dev.queryBits_late hn ▸ Dev.queryDone_answered (s := s) hq hm true⟩
  dsimp only
  rw [hq.1]
  dsimp only
  rw [hserve, Nat.ble_eq.mpr (show q.limit ≤ s.dev.since q.start from Nat.le_sub_of_add_le hlate)]
  rfl

/-- Settles O43: a query stays the query it is while the scout manager goes on, and its answer is written from the pages it
selected. -/
theorem scoutQueries : Obligations.ScoutQueries := by
  refine ⟨fun s k w d' q blk res hi hl hf hnone hq hblk hres hlay hgrp hzero =>
      nexts_scoutQuery hi hl hf hnone hq hblk hres hlay hgrp hzero,
    fun s k q j x d1 hd hserve hq hm hhas hin => nexts_queryComplete hd hserve hq hm hhas hin,
    fun s k q j n x hserve hq hm hlate hn => nexts_queryTimeout hserve hq hm hlate hn,
    fun d q sp b l qs p a col hp hcol hl hs hex hlen => Dev.pageBit_exact hp hcol hl hs hex hlen,
    fun d q sp b l qs p a col e hp hcol hl hs hex hal hsus hshift he => Dev.pageBit_charge hp hcol hl hs hex hal hsus hshift he,
    fun d q sn p b a hsn hb ha => ?_⟩
  unfold Dev.queryBits
  rw [hsn]
  dsimp only
  rw [if_neg Bool.false_ne_true, List.getElem?_map, (List.getElem?_zip_eq_some (z := (b, a))).mpr ⟨hb, ha⟩]
  rfl

end Sys2Proof.Machine

/-! ## Computing commands (R207, R222, R225): they read their operands, compute, write, and stand in their unit -/

namespace Sys2Proof.Machine

open Sys2Proof.Stm

/-! ### What a tile writes -/

/-- Spans that share no byte, whose kinds are stores of a tile, with as many bytes as they are long. -/
def Apart (l : List (Span × List Byte)) : Prop :=
  (∀ e ∈ l, (e.1.kind = 1 ∨ e.1.kind = 2) ∧ e.2.length = e.1.len) ∧ l.Pairwise (fun a b => a.1.overlaps b.1 = false)

/-- Of a tile only the stores changed: each span of `l` holds its bytes, and no other byte changed. -/
structure Tile.Wrote (y : Tile) (l : List (Span × List Byte)) (z : Tile) : Prop where
  frame : z = { y with tb := z.tb, as := z.as }
  holds : ∀ e ∈ l, cellsRead (z.cells e.1.kind) e.1.start e.1.len = e.2
  keeps : ∀ kind a, kind = 1 ∨ kind = 2 → (∀ e ∈ l, ¬ (kind = e.1.kind ∧ e.1.start ≤ a ∧ a < e.1.start + e.1.len)) →
    cellAt (z.cells kind) a = cellAt (y.cells kind) a

theorem Tile.Wrote.nil (y : Tile) : y.Wrote [] y := ⟨rfl, fun _ h => (List.not_mem_nil h).elim, fun _ _ _ _ => rfl⟩

theorem Span.apart_of_overlaps {a b : Span} (h : a.overlaps b = false) {i : Nat} (hk : a.kind = b.kind) (ha : a.start ≤ i)
    (ha' : i < a.start + a.len) : ¬ (b.start ≤ i ∧ i < b.start + b.len) := by
  intro hb
  rw [← Bool.not_eq_true] at h
  refine h ?_
  unfold Span.overlaps
  simp only [Bool.and_eq_true, beq_iff_eq, decide_eq_true_eq]
  exact ⟨⟨⟨⟨hk, by omega⟩, by omega⟩, by omega⟩, by omega⟩

/-- One more span written first. -/
theorem Tile.Wrote.cons {y x z : Tile} {e : Span × List Byte} {l : List (Span × List Byte)} (hx : StoreHolds y x e.1 e.2)
    (hfr : x = { y with tb := x.tb, as := x.as }) (hk : e.1.kind = 1 ∨ e.1.kind = 2) (h : x.Wrote l z)
    (hap : ∀ b ∈ l, e.1.overlaps b.1 = false) : y.Wrote (e :: l) z := by
  refine ⟨by rw [h.frame, hfr], fun b hb => ?_, fun kind a hkind ha => ?_⟩
  · obtain rfl | hb := List.mem_cons.mp hb
    · rw [← hx.1, cellsRead_eq, cellsRead_eq]
      refine List.map_congr_left fun i hi => h.keeps _ _ hk fun c hc hin => ?_
      have hlt := List.mem_range.mp hi
      exact Span.apart_of_overlaps (hap c hc) hin.1 (by omega) (by omega) hin.2
    · exact h.holds b hb
  · rw [h.keeps kind a hkind fun b hb => ha b (List.mem_cons_of_mem _ hb)]
    exact hx.2 kind a hkind (ha e List.mem_cons_self)

/-- The writes of a command, one span after another. -/
theorem Dev.spmWrites_of_unmarked {t : Nat} (l : List (Span × List Byte)) : ∀ {d : Dev}, Apart l →
    (∀ kind, (d.tile t).Unmarked kind) → ∃ e z, l.foldl (fun (acc : Dev × Option (Nat × Nat)) e =>
      let (d, ref) := acc.1.spmWrite t e.1.kind e.1.start e.2
      (d, acc.2 <|> ref.map (fun off => (e.1.kind, off)))) (d, none) = (e, none) ∧ d.OneTile t z e ∧ (d.tile t).Wrote l z := by
  induction l with
  | nil => exact fun _ _ => ⟨_, _, rfl, .refl _ t, .nil _⟩
  | cons b l ih =>
    intro d ⟨hall, hpair⟩ hm
    obtain ⟨hk, hlen⟩ := hall b List.mem_cons_self
    obtain ⟨cs, f, hw, hf, hcs⟩ := Dev.spmWrite_of_unmarked (d := d) (off := b.1.start) (bs := b.2) (hm b.1.kind)
    have hm' : ∀ kind, (f.tile t).Unmarked kind := fun kind => by
      rw [hf.tile]
      exact (hm kind).setCells cs
    obtain ⟨e, z, hfold, he, hz⟩ := ih (d := f) ⟨fun c hc => hall c (List.mem_cons_of_mem _ hc), hpair.of_cons⟩ hm'
    rw [hf.tile] at hz
    refine ⟨e, z, ?_, hf.trans he,
      .cons (storeHolds_of_cells hk hlen hcs) (Tile.setCells_frame _ _ _) hk hz (fun c hc => List.rel_of_pairwise_cons hpair hc)⟩
    rw [List.foldl_cons]
    dsimp only
    rw [hw]
    exact hfold

/-! ### What a tile holds of descriptors and images -/

/-- The mask descriptors, tables and programs that a tile holds. -/
structure SfuHeld where
  masks : List MaskEntry
  tabs : List (Nat × Nat)
  progs : List (Nat × Nat)

def Tile.held (x : Tile) : SfuHeld := ⟨x.masks, x.sfuTabs, x.sfuProgs⟩

def Tile.withHeld (x : Tile) (h : SfuHeld) : Tile := { x with masks := h.masks, sfuTabs := h.tabs, sfuProgs := h.progs }

/-- While a command reads: only what its tile holds of descriptors and images differs. -/
def Dev.Still (d : Dev) (k : Nat) (h : SfuHeld) (e : Dev) : Prop := d.OneTile k ((d.tile k).withHeld h) e

theorem Dev.Still.refl (d : Dev) (k : Nat) : d.Still k (d.tile k).held d := Dev.OneTile.refl d k

/-- A device after a command has written: `l` stands in the stores of its tile. -/
def Dev.Lands (d : Dev) (k : Nat) (h : SfuHeld) (l : List (Span × List Byte)) (e : Dev) : Prop :=
  ∃ z, d.OneTile k z e ∧ ((d.tile k).withHeld h).Wrote l z

/-- A device after a computing command: what it wrote, and the command in its unit. -/
def Dev.Computed (d : Dev) (k unit : Nat) (h : SfuHeld) (l : List (Span × List Byte)) (e : Dev) : Prop :=
  ∃ f r w, d.Lands k h l f ∧ e = f.updTile k (fun x => x.queued unit .compute r w [])

/-! ### Runs of meanings -/

/-- A meaning runs to a result and a device that `Q` holds of. -/
def TM.Ends {α : Type} (m : TM α) (d : Dev) (Q : α → Dev → Prop) : Prop := ∃ a e, TM.Runs m d a e ∧ Q a e

section
variable {α β : Type} {d d0 : Dev} {k : Nat} {h : SfuHeld} {Q : β → Dev → Prop}

theorem TM.Ends.of_runs {m : TM α} {f : α → TM β} {a : α} {e : Dev} (hm : TM.Runs m d a e) (h : TM.Ends (f a) e Q) :
    TM.Ends (m >>= f) d Q := by
  obtain ⟨b, e', hrun, hq⟩ := h
  exact ⟨b, e', hm.bind hrun, hq⟩

theorem TM.ends_pure {b : β} (hq : Q b d) : TM.Ends (pure b) d Q := ⟨b, d, TM.runs_pure b d, hq⟩

/-- A step that only reads the tile, before the rest. -/
theorem TM.Ends.of_turns {m : TM α} {f : α → TM β} {a : α} (hd : d0.Still k h d) (hm : TM.Turns m d k a (d.tile k))
    (rest : ∀ e, d0.Still k h e → TM.Ends (f a) e Q) : TM.Ends (m >>= f) d Q := by
  obtain ⟨e, hrun, he⟩ := hm
  rw [hd.tile] at he
  exact .of_runs hrun (rest e (hd.trans he))

end

section
variable {d d0 : Dev} {k : Nat} {h : SfuHeld} (hd : d0.Still k h d)
include hd

theorem Dev.Still.fresh (hf : Fresh (d0.tile k)) : Fresh (d.tile k) := by
  rw [hd.tile]
  exact hf

theorem Dev.Still.unmarked (hf : Fresh (d0.tile k)) (kind : Nat) : (d.tile k).Unmarked kind := by
  obtain ⟨-, -, h1, h2, h3, h4⟩ := hd.fresh hf
  exact unmarked_of_fields h1 h2 h3 h4

theorem Dev.Still.tileJob : d.tileJob k = d0.tileJob k := Dev.OneTile.tileJob hd rfl

theorem Dev.Still.tileTenant : d.tileTenant k = d0.tileTenant k := by
  unfold Dev.tileTenant
  rw [hd.tileJob]

theorem Dev.Still.bytesAt (sp : Span) : bytesAt (d.tile k) sp = bytesAt (d0.tile k) sp := by
  rw [hd.tile]
  rfl

section
variable {β : Type} {Q : β → Dev → Prop}

theorem Dev.Still.len {f : Nat → TM β} {lenReg len n : Nat} (hn : n = (d0.tile k).lenOf lenReg len) (h1 : 1 ≤ n)
    (h2 : n ≤ 4194303) (rest : TM.Ends (f n) d Q) : TM.Ends (TM.len k lenReg len >>= f) d Q :=
  .of_runs (TM.runs_len (by rw [hd.tile]; exact hn) h1 h2) rest

theorem Dev.Still.sreg {f : Nat → TM β} {i : Nat} (rest : TM.Ends (f ((d0.tile k).s i)) d Q) :
    TM.Ends (TM.s k i >>= f) d Q :=
  .of_runs (a := (d0.tile k).s i) ((TM.runs_get d).bind (by rw [hd.tile]; exact TM.runs_pure _ d)) rest

theorem Dev.Still.operand {f : Span → TM β} {spec len : Nat} {kinds : List Nat} {write : Bool} {sp : Span} (hf : Fresh (d0.tile k))
    (hs : (d0.tile k).operand spec len kinds write = some sp) (rest : ∀ e, d0.Still k h e → TM.Ends (f sp) e Q) :
    TM.Ends (TM.operand k spec len kinds write >>= f) d Q :=
  .of_turns hd (TM.operand_turns_of_fresh (hd.fresh hf) (by rw [hd.tile]; exact hs)) rest

theorem Dev.Still.read {f : List Byte → TM β} {unit : Nat} {sp : Span} (hf : Fresh (d0.tile k))
    (rest : ∀ e, d0.Still k h e → TM.Ends (f (Stm.bytesAt (d0.tile k) sp)) e Q) : TM.Ends (TM.read k unit sp >>= f) d Q := by
  have hread := TM.read_turns (unit := unit) (Stm.fresh_marks (hd.fresh hf) sp.kind)
  rw [show cellsRead ((d.tile k).cells sp.kind) sp.start sp.len = _ from hd.bytesAt sp] at hread
  exact .of_turns hd hread rest

/-- An operand that a command has in some of its forms. -/
theorem Dev.Still.operandIf {f : Span → TM β} {use : Bool} {spec len : Nat} {kinds : List Nat} {write : Bool} {sp sp' : Span}
    (hf : Fresh (d0.tile k)) (hs : use = true → (d0.tile k).operand spec len kinds write = some sp)
    (rest : ∀ e, d0.Still k h e → TM.Ends (f (if use then sp else sp')) e Q) :
    TM.Ends (if use then TM.operand k spec len kinds write >>= f else pure sp' >>= f) d Q := by
  cases use with
  | true => exact hd.operand hf (hs rfl) rest
  | false => exact .of_runs (TM.runs_pure sp' d) (rest d hd)

/-- A span that a command reads in some of its forms. -/
theorem Dev.Still.readIf {f : List Byte → TM β} {use : Bool} {unit : Nat} {sp : Span} (hf : Fresh (d0.tile k))
    (rest : ∀ e, d0.Still k h e → TM.Ends (f (if use then Stm.bytesAt (d0.tile k) sp else [])) e Q) :
    TM.Ends (if use then TM.read k unit sp >>= f else pure [] >>= f) d Q := by
  cases use with
  | true => exact hd.read hf rest
  | false => exact .of_runs (TM.runs_pure [] d) (rest d hd)

/-- A span that a command does not read in some of its forms. -/
theorem Dev.Still.readUnless {f : List Byte → TM β} {skip : Bool} {unit : Nat} {sp : Span} (hf : Fresh (d0.tile k))
    (rest : ∀ e, d0.Still k h e → TM.Ends (f (if skip then [] else Stm.bytesAt (d0.tile k) sp)) e Q) :
    TM.Ends (if skip then pure [] >>= f else TM.read k unit sp >>= f) d Q := by
  cases skip with
  | true => exact .of_runs (TM.runs_pure [] d) (rest d hd)
  | false => exact hd.read hf rest

end

/-- A command's write, the last of its steps. -/
theorem Dev.Still.writeAll {unit : Nat} {l : List (Span × List Byte)} (hf : Fresh (d0.tile k)) (hl : Apart l)
    (after : Dev → Dev) : TM.Ends (TM.writeAll k unit l after) d (fun _ e => ∃ f, d0.Lands k h l f ∧ e = after f) := by
  obtain ⟨e, z, hfold, he, hz⟩ := Dev.spmWrites_of_unmarked l hl (hd.unmarked hf)
  rw [hd.tile] at hz
  refine ⟨(), after e, ?_, e, ⟨z, hd.trans he, hz⟩, rfl⟩
  refine (TM.runs_get d).bind ?_
  rw [hfold]
  exact (TM.runs_set _ _).bind (TM.runs_pure _ _)

/-- A command's write that nothing follows. -/
theorem Dev.Still.write {unit : Nat} {l : List (Span × List Byte)} (hf : Fresh (d0.tile k)) (hl : Apart l) :
    TM.Ends (TM.writeAll k unit l) d (fun _ e => d0.Lands k h l e) := by
  obtain ⟨_, _, hrun, f, hland, rfl⟩ := hd.writeAll (unit := unit) hf hl id
  exact ⟨_, _, hrun, hland⟩

/-- A computing command whose operands are free. -/
theorem Dev.Still.compute {unit : Nat} {reads writes : List Span} {act : TM Unit} {c : Dev} {l : List (Span × List Byte)}
    (hf : Fresh (d0.tile k)) (hact : TM.Ends act d (fun _ e => c.Lands k h l e)) :
    TM.Ends (do TM.compute k unit reads writes act; pure none : TM (Option Nat)) d
      (fun next e => next = none ∧ c.Computed k unit h l e) := by
  obtain ⟨⟨⟩, f, hrun, hland⟩ := hact
  refine .of_runs (e := f.updTile k (fun x => x.queued unit .compute reads writes [])) (a := ()) ?_
    (TM.ends_pure ⟨rfl, f, _, _, hland, rfl⟩)
  refine (TM.runs_hazard (hd.fresh hf).1 reads writes).bind ((TM.runs_get d).bind ?_)
  rw [show act.run.run d = (.ok (), f) from hrun]
  exact (TM.runs_set _ _).bind (TM.runs_upd _ _)

end

/-! ### The step -/

section
variable {c : Instr} {cmd : Cmd} {body : TcwBody} {s : State} {k : TileId} {w : Tcw} {grp fn unit : Nat} {regs : List Nat}
  {d' b : Dev} {h : SfuHeld} {l : List (Span × List Byte)}

/-- A tile after its computing command. -/
theorem Tile.Wrote.computes {y z : Tile} (hz : (y.withHeld h).Wrote l z) (hout : y.out = []) (r w : List Span) :
    TileComputes y ((z.queued unit .compute r w []).goesOn (y.pos + 1)) unit l := by
  obtain ⟨z', hz'⟩ : ∃ z', z' = (z.queued unit .compute r w []).goesOn (y.pos + 1) := ⟨_, rfl⟩
  have hfr := Tile.goesOn_frame (z.queued unit .compute r w []) (y.pos + 1)
  rw [← hz'] at hfr ⊢
  have hcells : ∀ kind, z'.cells kind = z.cells kind := fun kind => by
    rw [hfr]
    rfl
  refine ⟨fun e he => ?_, fun kind a hkind ha => ?_, ⟨r, w, ?_⟩, ?_⟩
  · rw [hcells]
    exact hz.holds e he
  · rw [hcells]
    exact hz.keeps kind a hkind ha
  · rw [hfr, Tile.queued, hz.frame]
    dsimp only [Tile.withHeld]
    rw [hout, List.nil_append]
  · rw [hfr, Tile.queued, hz.frame]
    rfl

/-- A computing command steps. -/
theorem nexts_computed (hexec : exec c s = tcwStep k w cmd body s) (hi : Issues s.dev k.val w grp fn regs d')
    (hc : cmd.Fits w grp fn regs (d'.tile k.val)) (hgrp : (grp == 9) = false) (hf : Fresh (d'.tile k.val))
    (hb : b = { d' with dict := b.dict, jobs := b.jobs })
    (hends : TM.Ends (body k.val w.toNat) d' (fun next e => next = none ∧ b.Computed k.val unit h l e)) :
    Nexts c s fun t => Counts k d' s t unit l ∧ t.dev.dict = b.dict ∧ t.dev.jobs = b.jobs ∧ (t.dev.tile k.val).held = h := by
  obtain ⟨_, e, hrun, rfl, f, r, w', ⟨z, hone, hz⟩, rfl⟩ := hends
  have hnext := exec_of_runs hexec hi hc hrun
  rw [hgrp] at hnext
  have hall := (hone.updTile (fun x => x.queued unit .compute r w' [])).updTile (fun x => x.goesOn ((d'.tile k.val).pos + 1))
  obtain ⟨g, hg⟩ : ∃ g, g = (f.updTile k.val (fun x => x.queued unit .compute r w' [])).updTile k.val
    (fun x => x.goesOn ((d'.tile k.val).pos + 1)) := ⟨_, rfl⟩
  rw [← hg] at hall
  have htiles : ∀ i, b.tile i = d'.tile i := fun i => by
    rw [hb]
    rfl
  rw [htiles] at hz
  obtain ⟨m, hm⟩ : ∃ m, g = { b with tiles := m } := ⟨_, hall.frame⟩
  refine ⟨{ s with dev := g }, hnext.trans (by rw [hg]; rfl), ⟨?_, fun j hj => ?_, ?_⟩, ?_, ?_, ?_⟩
  · dsimp only
    rw [hm, hb]
  · dsimp only
    rw [hall.other j.val (fun hv => hj (Fin.ext hv)), htiles]
  · dsimp only
    rw [hall.tile]
    exact hz.computes hf.1 r w'
  · dsimp only
    rw [hm]
  · dsimp only
    rw [hm]
  · dsimp only
    rw [hall.tile, Tile.goesOn_frame, Tile.queued, hz.frame]
    rfl

/-- A computing command that changes its tile only. -/
theorem nexts_computes (hexec : exec c s = tcwStep k w cmd body s) (hi : Issues s.dev k.val w grp fn regs d')
    (hc : cmd.Fits w grp fn regs (d'.tile k.val)) (hgrp : (grp == 9) = false) (hf : Fresh (d'.tile k.val))
    (hends : TM.Ends (body k.val w.toNat) d'
      (fun next e => next = none ∧ d'.Computed k.val unit (d'.tile k.val).held l e)) :
    Nexts c s fun t => Computes k d' s t unit l := by
  obtain ⟨t, ht, ⟨hframe, hother, htile⟩, hdict, hjobs, hheld⟩ := nexts_computed hexec hi hc hgrp hf (b := d') rfl hends
  rw [hdict, hjobs] at hframe
  exact ⟨t, ht, ⟨hframe, hother⟩, htile, congrArg SfuHeld.masks hheld, congrArg SfuHeld.tabs hheld, congrArg SfuHeld.progs hheld⟩

end

end Sys2Proof.Machine

/-! ## The vector unit (R238, R240) -/

namespace Sys2Proof.Machine

open Sys2Proof.Stm

/-! ### Words and packed elements -/

theorem fmtGet_bits {c : Nat} (h : c ≤ 0xA) : (fmtGet c).bits = fmtBits c := by
  interval_cases c <;> rfl

theorem pack_length (w : Nat) (es : List Nat) : (pack w es).length = ceilDiv (w * es.length) 8 := leBytes_length _ _

theorem packed_length (c : Nat) (vs : List Val) : (packed c vs).length = packedBytes c vs.length := by
  rw [packed, pack_length, List.length_map]
  rfl

theorem unpack_length (w n : Nat) (b : List Byte) : (unpack w n b).length = n := by simp [unpack]

theorem vecOf_eq (w : Tcw) : vecOf w.toNat =
    { opA := fieldOf w 102 10, opB := fieldOf w 92 10, opD := fieldOf w 82 10, fin := finOf w, fout := foutOf w
      lenReg := fieldOf w 70 4, len := fieldOf w 48 22, row := fieldOf w 32 16, sreg := fieldOf w 28 4 } := by
  simp only [vecOf, bitsAt_field]
  rfl

theorem vecRegs_eq (w : Tcw) : vecRegs w.toNat = vecRegsOf w := by
  simp only [vecRegs, vecOf, vecRegsOf, bitsAt_field, offReg_fieldOf]

/-- The length of a word, as the model reads it. -/
theorem vecLen_eq {y : Tile} {w : Tcw} {n : Nat} (h : VecLen y w n) :
    n = y.lenOf (fieldOf w 70 4) (fieldOf w 48 22) ∧ lenOk n = true ∧ vecLen y w.toNat = n := by
  obtain ⟨hn, h1, h2, -⟩ := h
  refine ⟨hn, ?_, ?_⟩
  · rw [lenOk, Nat.ble_eq.mpr h1, Nat.ble_eq.mpr h2]
    rfl
  · rw [vecLen, vecOf_eq]
    exact hn.symm

theorem vecLen_named {y : Tile} {w : Tcw} {n : Nat} (h : VecLen y w n) : (fieldOf w 70 4 != 0 || fieldOf w 48 22 != 0) = true := by
  rw [Bool.or_eq_true, bne_iff_ne, bne_iff_ne]
  exact h.2.2.2

theorem vecLegal_of {w : Tcw} {y : Tile} {n : Nat} (hb : onlyBits w.toNat [(111, 28)] = true) (hin : finOf w ≤ 0xA)
    (hout : foutOf w ≤ 0xA) (hn : VecLen y w n) : vecLegal w.toNat = true := by
  rw [vecLegal, hb, VecOp.fmtLegal, vecOf_eq]
  dsimp only
  rw [Nat.ble_eq.mpr hin,
    Nat.ble_eq.mpr hout, vecLen_named hn]
  rfl

theorem eltCount_of {y : Tile} {w : Tcw} {n : Nat} (hn : VecLen y w n) (hin : countOk (finOf w) n = true)
    (hout : countOk (foutOf w) n = true) : eltCount y w.toNat = true := by
  obtain ⟨-, hok, hlen⟩ := vecLen_eq hn
  rw [eltCount, hlen, vecOf_eq]
  dsimp only
  rw [hok, hin, hout]
  rfl

/-- The kind of an operand in a store. -/
theorem Tile.operand_store {x : Tile} {spec len : Nat} {write : Bool} {sp : Span}
    (h : x.operand spec len [1, 2] write = some sp) : sp.kind = 1 ∨ sp.kind = 2 := by
  unfold Tile.operand Tile.operandAt at h
  dsimp only at h
  split at h
  case isTrue hc =>
    cases h
    simp only [Bool.and_eq_true, List.contains_iff_mem, List.mem_cons, List.not_mem_nil, or_false] at hc
    exact hc.1.1.1
  case isFalse => cases h

theorem Tile.operand_len {x : Tile} {spec len : Nat} {kinds : List Nat} {write : Bool} {sp : Span}
    (h : x.operand spec len kinds write = some sp) : sp.len = len := Tile.operandAt_len h

theorem apart_one {x : Tile} {spec len : Nat} {write : Bool} {sp : Span} {bs : List Byte}
    (h : x.operand spec len [1, 2] write = some sp) (hlen : bs.length = len) : Apart [(sp, bs)] := by
  refine ⟨fun e he => ?_, List.pairwise_singleton _ _⟩
  obtain rfl := List.mem_singleton.mp he
  exact ⟨Tile.operand_store h, hlen.trans (Tile.operand_len h).symm⟩

/-! ### Elementwise commands -/

/-- What an elementwise function gives for element `i`. -/
def EltFn.at (e : EltFn) (y : Tile) (w : Tcw) (n : Nat) (a b o : Span) (i : Nat) : Val :=
  let v := e.f (elemAt y (finOf w) n a i) (elemAt y (finOf w) n b i) (elemAt y (foutOf w) n o i)
    (scalarOf (finOf w) (y.s (fieldOf w 28 4)))
  if e.rounds then domRound (finOf w) v (if e.useD then some (foutOf w) else none) else v

/-- An operand that a function does not read may hold anything. -/
theorem EltFn.value_congr {e : EltFn} (hbn : e.useB = false → ∀ x y u v v', e.f x v y u = e.f x v' y u)
    (hdn : e.useD = false → ∀ x y u v v', e.f x y v u = e.f x y v' u) {b b' o o' : Val} (hb : e.useB = true → b = b')
    (ho : e.useD = true → o = o') (a x : Val) : e.f a b o x = e.f a b' o' x := by
  calc e.f a b o x = e.f a b' o x := by
        cases hu : e.useB with
        | true => rw [hb hu]
        | false => exact hbn hu _ _ _ _ _
    _ = e.f a b' o' x := by
        cases hu : e.useD with
        | true => rw [ho hu]
        | false => exact hdn hu _ _ _ _ _

section
variable {d' : Dev} {k : Nat} {w : Tcw} {n : Nat} {a b o : Span}

theorem eltBody_ends {e : EltFn} (hin : finOf w ≤ 0xA) (hout : foutOf w ≤ 0xA) (hf : Fresh (d'.tile k))
    (hn : VecLen (d'.tile k) w n) (ha : (d'.tile k).operand (fieldOf w 102 10) (packedBytes (finOf w) n) [1, 2] false = some a)
    (hb : e.useB = true → (d'.tile k).operand (fieldOf w 92 10) (packedBytes (finOf w) n) [1, 2] false = some b)
    (hbn : e.useB = false → ∀ x y u v v', e.f x v y u = e.f x v' y u)
    (hdn : e.useD = false → ∀ x y u v v', e.f x y v u = e.f x y v' u)
    (ho : (d'.tile k).operand (fieldOf w 82 10) (packedBytes (foutOf w) n) [1, 2] true = some o) :
    TM.Ends (eltBody e k w.toNat) d' (fun next f => next = none ∧ d'.Computed k 5 (d'.tile k).held
      [(o, packed (foutOf w) ((List.range n).map (e.at (d'.tile k) w n a b o)))] f) := by
  obtain ⟨hlen, hok⟩ := vecLen_eq hn
  obtain ⟨-, h1, h2, -⟩ := hn
  unfold eltBody
  dsimp only
  rw [vecOf_eq]
  dsimp only
  refine Dev.Still.len (.refl d' k) hlen h1 h2 (Dev.Still.sreg (.refl d' k) (Dev.Still.operand (.refl d' k) hf ha fun e1 hd1 => ?_))
  refine hd1.operandIf hf hb fun e2 hd2 => hd2.operand hf ho fun e3 hd3 => hd3.compute hf ?_
  refine hd3.read hf fun e4 hd4 => hd4.read hf fun e5 hd5 => hd5.readIf hf fun e6 hd6 => ?_
  have hlen' := packed_length (foutOf w) ((List.range n).map (e.at (d'.tile k) w n a b o))
  rw [List.length_map, List.length_range] at hlen'
  refine (congrArg (fun bs => TM.Ends (TM.write k 5 o bs) e6 _) ?_).mpr (hd6.write hf (apart_one ho hlen'))
  rw [packed, List.map_map, ← fmtGet_bits hout]
  refine congrArg (pack _) (List.map_congr_left fun i _ => ?_)
  have hbits := fmtGet_bits hin
  have hval := EltFn.value_congr hbn hdn (b := elemAt (d'.tile k) (finOf w) n b i) (o := elemAt (d'.tile k) (foutOf w) n o i)
    (b' := (fmtGet (finOf w)).decode ((unpack (fmtGet (finOf w)).bits n (bytesAt (d'.tile k)
      (if e.useB then b else ⟨a.kind, a.start, 0⟩))).getD i 0))
    (o' := (fmtGet (foutOf w)).decode ((unpack (fmtGet (foutOf w)).bits n
      (if e.useD then bytesAt (d'.tile k) o else [])).getD i 0))
    (fun hu => by rw [hu, hbits]; rfl) (fun hu => by rw [hu, fmtGet_bits hout]; rfl)
  rw [Function.comp, EltFn.at, hval, elemAt, ← hbits]

end

/-- The exact value rounded as a function's results are. -/
def EltFn.result (e : EltFn) (cin cout : Nat) (v : Val) : Val :=
  if e.rounds then domRound cin v (if e.useD then some cout else none) else v

theorem eltCmd_of_body {c : TileId → Tcw → Instr} {fn : Nat} {e : EltFn} {f : Nat → Nat → Val → Val → Val → Val → Val}
    (hexec : ∀ k w s, exec (c k w) s = tcwStep k w (vecCmd fn) (eltBody e) s) (hl : tcwListed 3 fn = true)
    (hbn : e.useB = false → ∀ x y u v v', e.f x v y u = e.f x v' y u)
    (hdn : e.useD = false → ∀ x y u v v', e.f x y v u = e.f x y v' u)
    (hv : ∀ cin cout a b d x, e.result cin cout (e.f a b d x) = f cin cout a b d x) : EltCmd c fn e.useB f := by
  intro s k w d' n a b o hi hbits hin hout hf hn hcin hcout ha hb ho
  have hends := eltBody_ends hin hout hf hn ha hb hbn hdn ho
  rw [show ∀ l : List Nat, l.map (e.at (d'.tile k.val) w n a b o) = l.map _ from
    fun l => List.map_congr_left fun i _ => hv (finOf w) (foutOf w) _ _ _ _] at hends
  exact nexts_computes (hexec k w s) hi ⟨rfl, rfl, rfl, vecRegs_eq w, hl, vecLegal_of hbits hin hout hn,
    eltCount_of hn hcin hcout⟩ rfl hf hends

/-! ### RSUM -/

theorem vecOf_rowLen (w : Tcw) (n : Nat) : (vecOf w.toNat).rowLen n = if fieldOf w 32 16 = 0 then n else fieldOf w 32 16 := by
  rw [VecOp.rowLen, vecOf_eq]

theorem rowCount_of {perRow : Nat → Nat} {y : Tile} {w : Tcw} {n row : Nat} (hn : VecLen y w n)
    (hrow : row = if fieldOf w 32 16 = 0 then n else fieldOf w 32 16) (hdiv : n % row = 0) (hin : countOk (finOf w) n = true)
    (hout : countOk (foutOf w) (n / row * perRow row) = true) : rowCount perRow y w.toNat = true := by
  obtain ⟨-, hok, hlen⟩ := vecLen_eq hn
  rw [rowCount, hlen]
  rw [vecOf_rowLen, ← hrow, hok, vecOf]
  simp only [bitsAt_field]
  rw [hdiv, show fieldOf w 78 4 = finOf w from rfl, show fieldOf w 74 4 = foutOf w from rfl, hin, hout]
  rfl

/-- A row of whole rows is made of consecutive elements. -/
theorem row_of_rows {α : Type} (f : Nat → α) {n row r : Nat} (hr : r < n / row) :
    (((List.range n).map f).drop (r * row)).take row = (List.range row).map (fun c => f (r * row + c)) := by
  have hle : (r + 1) * row ≤ n := (Nat.mul_le_mul_right row hr).trans (Nat.div_mul_le_self n row)
  rw [Nat.add_mul, Nat.one_mul] at hle
  refine List.ext_getElem ?_ fun i h1 h2 => ?_
  · simp only [List.length_take, List.length_drop, List.length_map, List.length_range]
    omega
  · simp only [List.getElem_take, List.getElem_drop, List.getElem_map, List.getElem_range]

theorem rowsOf_map_range {α : Type} (f : Nat → α) (n row : Nat) :
    rowsOf ((List.range n).map f) row (n / row) = (List.range (n / row)).map (fun r => (List.range row).map (fun c => f (r * row + c))) :=
  List.map_congr_left fun _ hr => row_of_rows f (List.mem_range.mp hr)

/-- The elements of a span as values. -/
theorem unpack_decode {c n : Nat} (hc : c ≤ 0xA) (y : Tile) (a : Span) :
    (unpack (fmtGet c).bits n (bytesAt y a)).map (fmtGet c).decode = (List.range n).map (elemAt y c n a) := by
  refine List.ext_getElem (by simp [unpack_length]) fun i h1 h2 => ?_
  rw [List.getElem_map, List.getElem_map, List.getElem_range, elemAt, ← fmtGet_bits hc, List.getD_eq_getElem]

theorem rsumBody_ends {d' : Dev} {k : Nat} {w : Tcw} {n row : Nat} {a o : Span} (hin : finOf w ≤ 0xA) (hout : foutOf w ≤ 0xA)
    (hf : Fresh (d'.tile k)) (hn : VecLen (d'.tile k) w n) (hrow : row = if fieldOf w 32 16 = 0 then n else fieldOf w 32 16)
    (ha : (d'.tile k).operand (fieldOf w 102 10) (packedBytes (finOf w) n) [1, 2] false = some a)
    (ho : (d'.tile k).operand (fieldOf w 82 10) (packedBytes (foutOf w) (n / row)) [1, 2] true = some o) :
    TM.Ends (rsumBody k w.toNat) d' (fun next f => next = none ∧ d'.Computed k 5 (d'.tile k).held
      [(o, packed (foutOf w) ((List.range (n / row)).map (fun r => rowSum (domRound (finOf w))
        ((List.range row).map (fun c => elemAt (d'.tile k) (finOf w) n a (r * row + c))))))] f) := by
  obtain ⟨hlen, -⟩ := vecLen_eq hn
  obtain ⟨-, h1, h2, -⟩ := hn
  unfold rsumBody
  dsimp only
  rw [vecOf_eq]
  dsimp only [VecOp.rowLen]
  refine Dev.Still.len (.refl d' k) hlen h1 h2 ?_
  rw [← hrow]
  refine Dev.Still.operand (.refl d' k) hf ha fun e1 hd1 => hd1.operand hf ho fun e2 hd2 => hd2.compute hf ?_
  refine hd2.read hf fun e3 hd3 => ?_
  rw [unpack_decode hin, rowsOf_map_range, List.map_map, fmtGet_bits hout]
  have hlen' := packed_length (foutOf w) ((List.range (n / row)).map (fun r => rowSum (domRound (finOf w))
        ((List.range row).map (fun c => elemAt (d'.tile k) (finOf w) n a (r * row + c)))))
  rw [List.length_map, List.length_range] at hlen'
  refine (congrArg (fun bs => TM.Ends (TM.write k 5 o bs) e3 _) ?_).mpr (hd3.write hf (apart_one ho hlen'))
  rw [packed, List.map_map]
  rfl

/-- Settles O38: a command reads its operands, and its results, each rounded once, are the only bytes that change. -/
theorem vectorUnit : Obligations.VectorUnit := by
  refine ⟨eltCmd_of_body (e := ⟨false, false, false, fun a _ _ _ => a⟩) (fun _ _ _ => rfl) rfl (fun _ _ _ _ _ _ => rfl)
      (fun _ _ _ _ _ _ => rfl) (fun _ _ _ _ _ _ => rfl),
    eltCmd_of_body (e := ⟨true, false, true, fun a b _ _ => a.add b⟩) (fun _ _ _ => rfl) rfl (fun h => by cases h)
      (fun _ _ _ _ _ _ => rfl) (fun _ _ _ _ _ _ => rfl),
    eltCmd_of_body (e := ⟨true, false, true, fun a b _ _ => a.sub b⟩) (fun _ _ _ => rfl) rfl (fun h => by cases h)
      (fun _ _ _ _ _ _ => rfl) (fun _ _ _ _ _ _ => rfl),
    eltCmd_of_body (e := ⟨true, false, true, fun a b _ _ => a.mul b⟩) (fun _ _ _ => rfl) rfl (fun h => by cases h)
      (fun _ _ _ _ _ _ => rfl) (fun _ _ _ _ _ _ => rfl),
    eltCmd_of_body (e := ⟨true, true, true, fun a b d _ => (a.mul b).add d⟩) (fun _ _ _ => rfl) rfl (fun h => by cases h)
      (fun h => by cases h) (fun cin cout a b d _ => ?fma),
    eltCmd_of_body (e := ⟨true, false, true, fun a b _ _ => a.max b⟩) (fun _ _ _ => rfl) rfl (fun h => by cases h)
      (fun _ _ _ _ _ _ => rfl) (fun _ _ _ _ _ _ => rfl),
    eltCmd_of_body (e := ⟨true, false, true, fun a b _ _ => a.min b⟩) (fun _ _ _ => rfl) rfl (fun h => by cases h)
      (fun _ _ _ _ _ _ => rfl) (fun _ _ _ _ _ _ => rfl),
    eltCmd_of_body (e := ⟨false, false, false, fun a _ _ _ => a⟩) (fun _ _ _ => rfl) rfl (fun _ _ _ _ _ _ => rfl)
      (fun _ _ _ _ _ _ => rfl) (fun _ _ _ _ _ _ => rfl),
    eltCmd_of_body (e := ⟨false, false, true, fun a _ _ x => a.mul x⟩) (fun _ _ _ => rfl) rfl (fun _ _ _ _ _ _ => rfl)
      (fun _ _ _ _ _ _ => rfl) (fun _ _ _ _ _ _ => rfl),
    fun s k w d' n row a o hi hbits hin hout hf hn hrow hdiv hcin hcout ha ho => ?rsum⟩
  case fma =>
    unfold EltFn.result domRound
    simp
  case rsum =>
    exact nexts_computes (c := .rsum k w) (cmd := { vecCmd 0x08 with count := rowCount (fun _ => 1) }) rfl hi
      ⟨rfl, rfl, rfl, vecRegs_eq w, rfl, vecLegal_of hbits hin hout hn,
        rowCount_of (perRow := fun _ => 1) hn hrow hdiv hcin (by rw [Nat.mul_one]; exact hcout)⟩ rfl hf (rsumBody_ends hin hout hf hn hrow ha ho)

end Sys2Proof.Machine

/-! ## The matrix unit (R205, R235, R239) -/

namespace Sys2Proof.Machine

open Sys2Proof.Stm

/-! ### Operands with scales -/

/-- The scales of an operand: none, or those that follow it at the next boundary of 64 bytes. -/
def scaleSpan (a : Span) (scales : Nat) : Span :=
  if scales = 0 then { a with len := 0 } else ⟨a.kind, roundUp (a.start + a.len) 64, scales⟩

theorem bytesAt_scaleSpan (y : Tile) (a : Span) (scales : Nat) :
    bytesAt y (scaleSpan a scales) = bytesAt y ⟨a.kind, roundUp (a.start + a.len) 64, scales⟩ := by
  unfold scaleSpan
  split
  case isTrue h =>
    rw [h]
    rfl
  case isFalse => rfl

theorem Dev.Still.mxOperand {d d0 : Dev} {k : Nat} {h : SfuHeld} (hd : d0.Still k h d) {β : Type} {Q : β → Dev → Prop}
    {f : Span × Span → TM β} {spec bytes scales : Nat} {a : Span} (hf : Fresh (d0.tile k))
    (ha : (d0.tile k).operand spec bytes [1, 2] false = some a)
    (hsc : scales ≠ 0 → (d0.tile k).operand spec (roundUp (a.start + a.len) 64 + scales - a.start) [1, 2] false ≠ none)
    (rest : ∀ e, d0.Still k h e → TM.Ends (f (a, scaleSpan a scales)) e Q) :
    TM.Ends (TM.mxOperand k spec bytes scales >>= f) d Q := by
  have hlen := Tile.operand_len ha
  have hmx : TM.Turns (TM.mxOperand k spec bytes scales) d k (a, scaleSpan a scales) (d.tile k) := by
    unfold TM.mxOperand scaleSpan
    have hf' := hd.fresh hf
    rw [show d0.tile k = _ from rfl] at ha
    refine (TM.operand_turns_of_fresh hf' (by rw [hd.tile]; exact ha)).then fun e he _ => ?_
    split
    case isTrue => exact he ▸ TM.turns_pure _ e k
    case isFalse hz =>
      obtain ⟨sp, hsp⟩ := Option.ne_none_iff_exists'.mp (hsc hz)
      rw [← he] at hf'
      rw [← hlen]
      have hsp' : (e.tile k).operand spec (roundUp (a.start + a.len) 64 + scales - a.start) [1, 2] false = some sp := by
        rw [he, hd.tile]
        exact hsp
      rw [← he]
      refine (TM.operand_turns_of_fresh hf' hsp').then fun g hg _ => ?_
      exact hg ▸ TM.turns_pure _ g k
  exact .of_turns hd hmx rest

/-! ### The result -/

theorem unpack_nil (w n : Nat) : unpack w n [] = List.replicate n 0 := by
  unfold unpack
  dsimp only
  rw [List.map_congr_left (g := fun _ => 0) fun i _ => by rw [show leNat ([] : List Byte) = 0 from rfl, bitsAt_eq, Nat.zero_div,
    Nat.zero_mod], List.map_const', List.length_range]

theorem flatMap_length_const {α β : Type} {l : List α} {f : α → List β} {n : Nat} (h : ∀ x ∈ l, (f x).length = n) :
    (l.flatMap f).length = l.length * n := by
  rw [List.length_flatMap, List.map_congr_left h, List.map_const', List.sum_replicate, smul_eq_mul]

/-- The outputs of a product, row by row. -/
theorem grid_length (m n : Nat) : ((List.range m).flatMap (fun i => (List.range n).map (fun j => (i, j)))).length = m * n := by
  rw [flatMap_length_const (n := n) fun _ _ => by rw [List.length_map, List.length_range], List.length_range]

/-- The formats of a permitted product: two integers, or two floats with a float result. -/
theorem MmaOp.formats_of_legal {o : MmaOp} (h : o.legal = true) :
    (o.outf = 3 ∧ ∃ wa wb, fmtOf o.fmtA = some (.int wa) ∧ fmtOf o.fmtB = some (.int wb)) ∨
      ∃ fa fb fo, fmtOf o.fmtA = some (.float fa) ∧ fmtOf o.fmtB = some (.float fb) ∧ fmtOf (outFmt o.outf) = some (.float fo) := by
  unfold MmaOp.legal at h
  simp only [Bool.and_eq_true, Nat.ble_eq, beq_iff_eq] at h
  obtain ⟨⟨⟨⟨⟨⟨⟨⟨hA, hB⟩, hpair⟩, hout⟩, -⟩, -⟩, -⟩, -⟩, -⟩ := h
  have hint : ∀ c, c ≤ 9 → (c == 8 || c == 9) = true → ∃ v, fmtOf c = some (.int v) := fun c _ hc => by
    obtain rfl | rfl : c = 8 ∨ c = 9 := by simpa using hc
    · exact ⟨8, rfl⟩
    · exact ⟨4, rfl⟩
  have hfloat : ∀ c, c ≤ 9 → (c == 8 || c == 9) = false → ∃ f, fmtOf c = some (.float f) := fun c hle hc => by
    have h7 : c ≤ 7 := by
      simp at hc
      omega
    interval_cases c <;> exact ⟨_, rfl⟩
  cases hk : (o.fmtA == 8 || o.fmtA == 9) with
  | true =>
    obtain ⟨wa, ha⟩ := hint _ hA hk
    obtain ⟨wb, hb⟩ := hint _ hB (hpair.symm.trans hk)
    rw [hk, beq_iff_eq] at hout
    exact .inl ⟨hout, wa, wb, ha, hb⟩
  | false =>
    obtain ⟨fa, ha⟩ := hfloat _ hA hk
    obtain ⟨fb, hb⟩ := hfloat _ hB (hpair.symm.trans hk)
    obtain ⟨fo, hfo⟩ : ∃ fo, fmtOf (outFmt o.outf) = some (.float fo) := by
      unfold outFmt
      split
      · exact ⟨_, rfl⟩
      · split <;> exact ⟨_, rfl⟩
    exact .inr ⟨fa, fb, fo, ha, hb, hfo⟩

theorem MmaOp.result_length {o : MmaOp} (h : o.legal = true) (x : MmaIn) : (o.result x).length = o.m * o.n * outBytes o.outf := by
  unfold MmaOp.result
  obtain ⟨hout, wa, wb, hA, hB⟩ | ⟨fa, fb, fo, hA, hB, hO⟩ := MmaOp.formats_of_legal h
  · rw [hA, hB]
    dsimp only
    rw [flatMap_length_const (n := 4) fun _ _ => leBytes_length _ _, grid_length, hout]
    rfl
  · rw [hA, hB, hO]
    dsimp only
    rw [flatMap_length_const fun _ _ => leBytes_length _ _, grid_length]

theorem mmaBody_ends {d' : Dev} {k : Nat} {w : Tcw} {o : MmaOp} {a b e sa sb : Span} (ho : o = mmaOf w.toNat) (hl : o.legal = true)
    (hf : Fresh (d'.tile k))
    (ha : (d'.tile k).operand (fieldOf w 102 10) (packedBytes o.fmtA (o.m * o.k)) [1, 2] false = some a)
    (hb : (d'.tile k).operand (fieldOf w 92 10) (packedBytes o.fmtB (o.n * o.k)) [1, 2] false = some b)
    (he : (d'.tile k).operand (fieldOf w 82 10) (o.m * o.n * outBytes o.outf) [1, 2] true = some e)
    (hsa : sa = ⟨a.kind, roundUp (a.start + a.len) 64, if o.mxA then o.m * (o.k / 32) else 0⟩)
    (hsb : sb = ⟨b.kind, roundUp (b.start + b.len) 64, if o.mxB then o.n * (o.k / 32) else 0⟩)
    (hoa : o.mxA = true → (d'.tile k).operand (fieldOf w 102 10) (sa.start + sa.len - a.start) [1, 2] false ≠ none)
    (hob : o.mxB = true → (d'.tile k).operand (fieldOf w 92 10) (sb.start + sb.len - b.start) [1, 2] false ≠ none) :
    TM.Ends (mmaBody k w.toNat) d' (fun next f => next = none ∧ d'.Computed k 6 (d'.tile k).held [(e, o.result
      { a := unpack (fmtBits o.fmtA) (o.m * o.k) (bytesAt (d'.tile k) a)
        b := unpack (fmtBits o.fmtB) (o.n * o.k) (bytesAt (d'.tile k) b)
        sa := (bytesAt (d'.tile k) sa).map (·.toNat), sb := (bytesAt (d'.tile k) sb).map (·.toNat)
        d := if o.acc then unpack (8 * outBytes o.outf) (o.m * o.n) (bytesAt (d'.tile k) e)
          else List.replicate (o.m * o.n) 0 })] f) := by
  have hscale : ∀ {mx : Bool} {n : Nat}, (if mx then n else 0) ≠ 0 → mx = true := fun {mx n} hn => by
    cases mx with
    | true => rfl
    | false => exact absurd rfl hn
  unfold mmaBody
  dsimp only
  rw [← ho]
  simp only [bitsAt_field]
  refine Dev.Still.mxOperand (.refl d' k) hf ha (fun hn => ?_) fun e1 hd1 => hd1.mxOperand hf hb (fun hn => ?_) fun e2 hd2 => ?_
  · have hne := hoa (hscale hn)
    rw [hsa] at hne
    exact hne
  · have hne := hob (hscale hn)
    rw [hsb] at hne
    exact hne
  refine hd2.operand hf he fun e3 hd3 => hd3.compute hf ?_
  refine hd3.read hf fun e4 hd4 => hd4.read hf fun e5 hd5 => hd5.read hf fun e6 hd6 => hd6.read hf fun e7 hd7 => ?_
  refine hd7.readIf hf fun e8 hd8 => ?_
  rw [bytesAt_scaleSpan, bytesAt_scaleSpan, ← hsa, ← hsb]
  refine (congrArg (fun bs => TM.Ends (TM.write k 6 e bs) e8 _) ?_).mpr (hd8.write hf (apart_one he (MmaOp.result_length hl _)))
  refine congrArg (fun l => o.result { a := _, b := _, sa := _, sb := _, d := l }) ?_
  cases o.acc with
  | true => rfl
  | false => exact unpack_nil _ _

/-! ### Exact dot products -/

/-- A signed element of at most 8 bits. -/
theorem signed_bounds {v : Nat} (n : Nat) (h1 : 1 ≤ v) (h8 : v ≤ 8) : -128 ≤ signed n v ∧ signed n v ≤ 128 := by
  obtain ⟨u, rfl⟩ : ∃ u, v = u + 1 := ⟨v - 1, by omega⟩
  unfold signed
  dsimp only
  have hlt := Nat.mod_lt n (Nat.two_pow_pos (u + 1))
  generalize n % 2 ^ (u + 1) = c at hlt ⊢
  have htop : 2 ^ u ≤ 128 := Nat.pow_le_pow_right (n := 2) (by decide) (show u ≤ 7 by omega)
  rw [Nat.add_sub_cancel, Nat.pow_succ] at *
  generalize 2 ^ u = p at hlt htop ⊢
  split <;> omega

theorem signed_mul_bounds {va vb : Nat} (m n : Nat) (ha : 1 ≤ va) (ha' : va ≤ 8) (hb : 1 ≤ vb) (hb' : vb ≤ 8) :
    |signed m va * signed n vb| ≤ 16384 := by
  obtain ⟨h1, h2⟩ := signed_bounds m ha ha'
  obtain ⟨h3, h4⟩ := signed_bounds n hb hb'
  rw [abs_mul]
  calc |signed m va| * |signed n vb| ≤ 128 * 128 :=
        mul_le_mul (abs_le.mpr ⟨h1, h2⟩) (abs_le.mpr ⟨h3, h4⟩) (abs_nonneg _) (by decide)
    _ = 16384 := by decide

theorem abs_sum_le {f : Nat → Int} {B : Int} (hf : ∀ i, |f i| ≤ B) (n : Nat) : |((List.range n).map f).sum| ≤ n * B := by
  induction n with
  | zero => simp
  | succ n ih =>
    rw [List.range_succ, List.map_append, List.sum_append]
    refine (abs_add_le _ _).trans ?_
    have hn := hf n
    simp only [List.map_cons, List.map_nil, List.sum_singleton]
    push_cast
    linarith

/-- Sums over consecutive indices join. -/
theorem sum_range_append (f : Nat → Int) (m n : Nat) :
    ((List.range m).map f).sum + ((List.range n).map (fun i => f (m + i))).sum = ((List.range (m + n)).map f).sum := by
  rw [List.range_add, List.map_append, List.sum_append, List.map_map]
  rfl

/-- One group more of an exact sum. -/
def exactStep (o : MmaOp) (f : Nat → Int) (acc : Option Int) (k0 : Nat) : Option Int :=
  match acc with
  | some a => some (satW 32 (a + ((o.inGroup 32 k0).map f).sum)).1
  | none => none

theorem satW_of_small {i : Int} (h : |i| ≤ 2 ^ 30) : (satW 32 i).1 = i := by
  obtain ⟨h1, h2⟩ := abs_le.mp h
  unfold satW
  norm_num at h1 h2 ⊢
  rw [if_neg (by omega), if_neg (by omega)]

/-- Groups add up exactly: no sum of at most 65536 products leaves 32 bits. -/
theorem groups_sum {o : MmaOp} {f : Nat → Int} (hk : o.k ≤ 65536) (hf : ∀ i, |f i| ≤ 16384) (n : Nat) (hn : n ≤ ceilDiv o.k 32) :
    ((List.range n).map (fun i => i * 32)).foldl (exactStep o f) (some 0) =
      some ((List.range (Nat.min (n * 32) o.k)).map f).sum := by
  induction n with
  | zero => simp
  | succ n ih =>
    rw [List.range_succ, List.map_append, List.foldl_append, ih (by omega), List.map_cons, List.map_nil, List.foldl_cons,
      List.foldl_nil]
    rw [ceilDiv, if_neg (by decide)] at hn
    have hlow : Nat.min (n * 32) o.k = n * 32 := Nat.min_eq_left (by omega)
    have hhigh : n * 32 + Nat.min 32 (o.k - n * 32) = Nat.min ((n + 1) * 32) o.k := by
      simp only [Nat.min_def]
      split <;> split <;> omega
    rw [hlow, exactStep, MmaOp.inGroup, List.map_map]
    have hsum := sum_range_append f (n * 32) (Nat.min 32 (o.k - n * 32))
    rw [hhigh] at hsum
    rw [show f ∘ (fun i => n * 32 + i) = fun i => f (n * 32 + i) from rfl, hsum]
    refine congrArg some (satW_of_small ((abs_sum_le hf _).trans ?_))
    have hmin : Nat.min ((n + 1) * 32) o.k ≤ 65536 := (Nat.min_le_right _ _).trans hk
    norm_num
    omega

theorem MmaOp.intAt_exact {o : MmaOp} (x : MmaIn) {wa wb : Nat} (m n : Nat) (hA : o.mxA = false) (hB : o.mxB = false) (ha : 1 ≤ wa)
    (ha' : wa ≤ 8) (hb : 1 ≤ wb) (hb' : wb ≤ 8) (hk : o.k ≤ 65536) : o.intAt x wa wb 0 m n = ((List.range o.k).map (fun i =>
      signed (x.a.getD (m * o.k + i) 0) wa * signed (x.b.getD (if o.bt then i * o.n + n else n * o.k + i) 0) wb)).sum := by
  obtain ⟨f, hf⟩ : ∃ f : Nat → Int, f = fun i => signed (x.a.getD (m * o.k + i) 0) wa *
      signed (x.b.getD (if o.bt then i * o.n + n else n * o.k + i) 0) wb := ⟨_, rfl⟩
  have hscales : ∀ j, o.scales x m n j = some 0 := fun j => by
    rw [MmaOp.scales, hA, hB]
    rfl
  have hstep : o.intAt x wa wb 0 m n = ((o.starts 32).foldl (exactStep o f) (some 0)).getD 0 := by
    unfold MmaOp.intAt
    refine congrArg (fun g => Option.getD (List.foldl g (some 0) (o.starts 32)) 0) (funext fun acc => funext fun k0 => ?_)
    dsimp only
    rw [hscales, hA, hB]
    unfold exactStep
    cases acc with
    | none => rfl
    | some a =>
      dsimp only
      rw [hf]
      simp [MmaOp.bIdx]
  have hfull : Nat.min (ceilDiv o.k 32 * 32) o.k = o.k := Nat.min_eq_right (by
    rw [ceilDiv, if_neg (by decide)]
    omega)
  rw [hstep, MmaOp.starts, groups_sum hk (fun i => by rw [hf]; exact signed_mul_bounds _ _ ha ha' hb hb') _ le_rfl, hfull, hf]
  rfl

/-- Settles O39: the operands are read with their scales, the result is the only write, and groups of integers add up without
saturation. -/
theorem matrixUnit : Obligations.MatrixUnit := by
  refine ⟨fun s k w d' o a b e sa sb hi hbits ho hl hf ha hb he hsa hsb hoa hob => ?_,
    fun o x wa wb m n hA hB ha ha' hb hb' hk => MmaOp.intAt_exact x m n hA hB ha ha' hb hb' hk⟩
  refine nexts_computes (c := .mma k w) (cmd := { grp := 2, fn := 0
                                                  regs := fun w => [offReg (bitsAt w 102 10), offReg (bitsAt w 92 10),
                                                    offReg (bitsAt w 82 10)]
                                                  legal := fun w => onlyBits w [(111, 36)] && (mmaOf w).legal })
    rfl hi ⟨rfl, rfl, rfl, ?_, rfl, ?_, rfl⟩ rfl hf (mmaBody_ends ho hl hf ha hb he hsa hsb hoa hob)
  · simp only [offReg_field]
  · dsimp only
    rw [hbits, ← ho, hl]
    rfl

end Sys2Proof.Machine

/-! ## Partials: XPACK, COMBINE and NORMALISE (R260 to R268) -/

namespace Sys2Proof.Machine

open Sys2Proof.Stm

/-! ### COMBINE is symmetric -/

theorem Val.add_comm (a b : Val) : a.add b = b.add a := by
  cases a with
  | nan => cases b <;> rfl
  | inf s =>
    cases b with
    | nan => rfl
    | inf t => cases s <;> cases t <;> rfl
    | fin t n f => rfl
  | fin s m e =>
    cases b with
    | nan => rfl
    | inf t => rfl
    | fin t n f =>
      unfold Val.add
      dsimp only
      rw [min_comm f e, Int.add_comm, Bool.and_comm]

theorem combineRow_comm {a b : PRow} (h : a.h.empty = false ∨ b.h.empty = false) : combineRow a b = combineRow b a := by
  unfold combineRow
  dsimp only
  cases ha : a.h.empty with
  | true =>
    cases hb : b.h.empty with
    | true =>
      rw [ha, hb] at h
      exact absurd h (by decide)
    | false => simp only [if_true, Bool.false_eq_true, if_false, Bool.or_comm]
  | false =>
    cases hb : b.h.empty with
    | true => simp only [if_true, Bool.false_eq_true, if_false, Bool.or_comm]
    | false =>
      simp only [Bool.false_eq_true, if_false]
      have hmax : b.h.exp.max a.h.exp = a.h.exp.max b.h.exp := Nat.max_comm _ _
      have hv := List.zipWith_comm (as := b.v) (bs := a.v) (f := fun p q => fp32.encode
        (((fp32.decode p).scale (b.h.exp - (a.h.exp.max b.h.exp : Nat))).r32.add
          ((fp32.decode q).scale (a.h.exp - (a.h.exp.max b.h.exp : Nat))).r32))
      rw [hmax, Bool.or_comm b.h.sat, Bool.or_comm b.h.nan, hv,
        Val.add_comm ((fp32.decode b.h.sum).scale (b.h.exp - (a.h.exp.max b.h.exp : Nat))).r32]
      refine congrArg (fun f => PRow.mk (List.zipWith f a.v b.v) _) (funext fun p => funext fun q => ?_)
      rw [Val.add_comm]

/-! ### Lengths -/

theorem combineRow_length {a b : PRow} {n : Nat} (ha : a.v.length = n) (hb : b.v.length = n) : (combineRow a b).v.length = n := by
  unfold combineRow
  dsimp only
  split
  · exact hb
  · split
    · exact ha
    · rw [List.length_zipWith, ha, hb, Nat.min_self]

theorem normaliseRow_length (fo : Nat) (r : PRow) : (normaliseRow fo r).1.length = r.v.length := by
  unfold normaliseRow
  split
  · exact List.length_map _
  · split
    · exact List.length_map _
    · exact List.length_map _

theorem rowsOf_length {α : Type} (l : List α) (row rows : Nat) : (rowsOf l row rows).length = rows := by simp [rowsOf]

/-- The rows of a list of whole rows. -/
theorem length_of_mem_rowsOf {α : Type} {l r : List α} {row rows : Nat} (hl : l.length = rows * row) (h : r ∈ rowsOf l row rows) :
    r.length = row := by
  obtain ⟨i, hi, rfl⟩ := List.mem_map.mp h
  have hle : (i + 1) * row ≤ rows * row := Nat.mul_le_mul_right row (List.mem_range.mp hi)
  rw [Nat.add_mul, Nat.one_mul] at hle
  rw [List.length_take, List.length_drop, hl]
  omega

theorem partialOf_length (rows cols : Nat) (b : List Byte) : (partialOf rows cols b).length = rows := by
  unfold partialOf
  rw [List.length_zipWith, rowsOf_length, unpack_length, Nat.min_self]

theorem length_of_mem_partialOf {rows cols : Nat} {b : List Byte} {r : PRow} (h : r ∈ partialOf rows cols b) : r.v.length = cols := by
  obtain ⟨v, hv, n, -, rfl⟩ : ∃ v ∈ rowsOf (unpack 32 (rows * cols) b) cols rows, ∃ n, True ∧ r = { v := v, h := hdrOf n } := by
    unfold partialOf at h
    obtain ⟨i, hi, rfl⟩ := List.mem_iff_getElem.mp h
    rw [List.getElem_zipWith]
    exact ⟨_, List.getElem_mem _, _, trivial, rfl⟩
  exact length_of_mem_rowsOf (unpack_length _ _ _) hv

theorem ceilDiv_mul (n : Nat) {k : Nat} (hk : k ≠ 0) : ceilDiv (k * n) k = n := by
  rw [ceilDiv, if_neg hk, show k * n + k - 1 = k - 1 + k * n by omega, Nat.add_mul_div_left _ _ (Nat.pos_of_ne_zero hk),
    Nat.div_eq_of_lt (by omega), Nat.zero_add]

theorem pack32_length (es : List Nat) : (pack 32 es).length = 4 * es.length := by
  rw [pack_length, show 32 * es.length = 8 * (4 * es.length) by ring, ceilDiv_mul _ (by decide)]

theorem pack64_length (es : List Nat) : (pack 64 es).length = 8 * es.length := by
  rw [pack_length, show 64 * es.length = 8 * (8 * es.length) by ring, ceilDiv_mul _ (by decide)]

/-- The bytes of a partial of whole rows. -/
theorem partialBytes_length {rs : List PRow} {row rows : Nat} (hrows : rs.length = rows) (hrow : ∀ r ∈ rs, r.v.length = row) :
    (partialBytes rs).length = 4 * (rows * row) + 8 * rows := by
  rw [partialBytes, List.length_append, pack32_length, pack64_length, flatMap_length_const hrow, List.length_map, hrows]

/-- Two spans that share no byte. -/
theorem apart_two {x : Tile} {spec spec' len len' : Nat} {write write' : Bool} {a b : Span} {as bs : List Byte}
    (ha : x.operand spec len [1, 2] write = some a) (hb : x.operand spec' len' [1, 2] write' = some b) (has : as.length = len)
    (hbs : bs.length = len') (h : a.overlaps b = false) : Apart [(a, as), (b, bs)] := by
  refine ⟨fun e he => ?_, ?_⟩
  · obtain rfl | he := List.mem_cons.mp he
    · exact (apart_one ha has).1 _ List.mem_cons_self
    · exact (apart_one hb hbs).1 _ he
  · refine List.pairwise_cons.mpr ⟨fun c hc => ?_, List.pairwise_singleton _ _⟩
    obtain rfl := List.mem_singleton.mp hc
    exact h

theorem Span.overlaps_comm (a b : Span) : a.overlaps b = b.overlaps a := by
  unfold Span.overlaps
  rw [show (a.kind == b.kind) = (b.kind == a.kind) from Bool.beq_comm]
  generalize (b.kind == a.kind) = p
  generalize decide (0 < a.len) = q
  generalize decide (0 < b.len) = r
  generalize decide (a.start < b.start + b.len) = u
  generalize decide (b.start < a.start + a.len) = v
  revert p q r u v
  decide

/-! ### COMBINE and NORMALISE -/

section
variable {d' : Dev} {k : Nat} {w : Tcw} {n row : Nat} {a b e : Span} (hf : Fresh (d'.tile k)) (hn : VecLen (d'.tile k) w n)
  (hrow : row = fieldOf w 32 16) (hdiv : n % row = 0)
include hf hn hrow hdiv

theorem combineBody_ends (ha : (d'.tile k).operand (fieldOf w 102 10) (4 * n + 8 * (n / row)) [1, 2] false = some a)
    (hb : (d'.tile k).operand (fieldOf w 92 10) (4 * n + 8 * (n / row)) [1, 2] false = some b)
    (he : (d'.tile k).operand (fieldOf w 82 10) (4 * n + 8 * (n / row)) [1, 2] true = some e) :
    TM.Ends (combineBody k w.toNat) d' (fun next f => next = none ∧ d'.Computed k 5 (d'.tile k).held
      [(e, partialBytes (List.zipWith combineRow (partialOf (n / row) row (bytesAt (d'.tile k) a))
        (partialOf (n / row) row (bytesAt (d'.tile k) b))))] f) := by
  obtain ⟨hlen, -⟩ := vecLen_eq hn
  obtain ⟨-, h1, h2, -⟩ := hn
  unfold combineBody
  dsimp only
  rw [vecOf_eq]
  dsimp only
  rw [← hrow]
  refine Dev.Still.len (.refl d' k) hlen h1 h2 (Dev.Still.operand (.refl d' k) hf ha fun e1 hd1 => ?_)
  refine hd1.operand hf hb fun e2 hd2 => hd2.operand hf he fun e3 hd3 => hd3.compute hf ?_
  refine hd3.read hf fun e4 hd4 => hd4.read hf fun e5 hd5 => hd5.write hf (apart_one he ?_)
  rw [partialBytes_length (rows := n / row) (row := row), Nat.div_mul_cancel (Nat.dvd_of_mod_eq_zero hdiv)]
  · rw [List.length_zipWith, partialOf_length, partialOf_length, Nat.min_self]
  · intro r hr
    obtain ⟨i, hi, rfl⟩ := List.mem_iff_getElem.mp hr
    rw [List.getElem_zipWith]
    exact combineRow_length (length_of_mem_partialOf (List.getElem_mem _)) (length_of_mem_partialOf (List.getElem_mem _))

theorem normaliseBody_ends
    (ha : (d'.tile k).operand (fieldOf w 102 10) (4 * n + 8 * (n / row)) [1, 2] false = some a)
    (hb : (d'.tile k).operand (fieldOf w 92 10) (4 * (n / row)) [1, 2] true = some b)
    (he : (d'.tile k).operand (fieldOf w 82 10) (packedBytes (foutOf w) n) [1, 2] true = some e) (hap : b.overlaps e = false) :
    TM.Ends (normaliseBody k w.toNat) d' (fun next f => next = none ∧ d'.Computed k 5 (d'.tile k).held
      [(e, pack (fmtBits (foutOf w)) (((partialOf (n / row) row (bytesAt (d'.tile k) a)).map
          (normaliseRow (foutOf w))).flatMap (fun r => r.1))),
        (b, pack 32 (((partialOf (n / row) row (bytesAt (d'.tile k) a)).map (normaliseRow (foutOf w))).map (fun r => r.2)))] f) := by
  obtain ⟨hlen, -⟩ := vecLen_eq hn
  obtain ⟨-, h1, h2, -⟩ := hn
  unfold normaliseBody
  dsimp only
  rw [vecOf_eq]
  dsimp only
  rw [← hrow]
  refine Dev.Still.len (.refl d' k) hlen h1 h2 (Dev.Still.operand (.refl d' k) hf ha fun e1 hd1 => ?_)
  refine hd1.operand hf hb fun e2 hd2 => hd2.operand hf he fun e3 hd3 => hd3.compute hf ?_
  refine hd3.read hf fun e4 hd4 => hd4.write hf (apart_two he hb ?_ ?_ (by rw [Span.overlaps_comm]; exact hap))
  · rw [pack_length, flatMap_length_const (n := row), List.length_map, partialOf_length,
      Nat.div_mul_cancel (Nat.dvd_of_mod_eq_zero hdiv)]
    · rfl
    · intro r hr
      obtain ⟨p, hp, rfl⟩ := List.mem_map.mp hr
      rw [normaliseRow_length, length_of_mem_partialOf hp]
  · rw [pack32_length, List.length_map, List.length_map, partialOf_length]

end

/-! ### Counts that mark a job (R260) -/

/-- A change that neither reads nor writes the tiles. -/
def BesideTiles (g : Dev → Dev) : Prop := ∀ (d : Dev) (m : KMap Tile), g { d with tiles := m } = { g d with tiles := m }

theorem BesideTiles.oneTile {g : Dev → Dev} (hg : BesideTiles g) {d e : Dev} {k : Nat} {z : Tile} (h : d.OneTile k z e) :
    (g d).OneTile k z (g e) := by
  have he : g e = { g d with tiles := e.tiles } := by
    rw [← hg d e.tiles, ← h.frame]
  have hd : g d = { g d with tiles := d.tiles } := hg d d.tiles
  refine ⟨by rw [he], ?_, fun j hj => ?_⟩
  · rw [he]
    exact h.tile
  · rw [he, hd]
    exact h.other j hj

theorem BesideTiles.lands {g : Dev → Dev} (hg : BesideTiles g) {d f : Dev} {k : Nat} {h : SfuHeld} {l : List (Span × List Byte)}
    (hl : d.Lands k h l f) : (g d).Lands k h l (g f) := by
  obtain ⟨z, hone, hz⟩ := hl
  refine ⟨z, hg.oneTile hone, ?_⟩
  rw [show (g d).tile k = d.tile k by rw [show g d = _ from hg d d.tiles]; rfl]
  exact hz

/-- Elements counted for the tenant of a job, which they mark. -/
def Dev.clampMarked (d : Dev) (j : Nat) (x : Job) (sub n : Nat) : Dev :=
  if n = 0 then d else (d.bump 0x6810 sub x.tenant 64 n).setJob j { x with clamped := true }

section
variable {d : Dev} {j : Nat} {x : Job} {sub n : Nat}

theorem besideTiles_clampMarked : BesideTiles (fun d => d.clampMarked j x sub n) := fun d m => by
  unfold Dev.clampMarked
  split <;> rfl

theorem Dev.clampMarked_frame : d.clampMarked j x sub n = { d with dict := (d.clampMarked j x sub n).dict, jobs := (d.clampMarked j x sub n).jobs } := by
  unfold Dev.clampMarked
  split <;> rfl

theorem Dev.clampMarked_none : d.clampMarked j x sub 0 = d := if_pos rfl

theorem Dev.clampMarked_some (h : n ≠ 0) : KMap.find (d.clampMarked j x sub n).jobs j = some { x with clamped := true } ∧
    (d.clampMarked j x sub n).obj 0x6810 sub x.tenant = Nat.min (d.obj 0x6810 sub x.tenant + n) (2 ^ 64 - 1) := by
  unfold Dev.clampMarked
  rw [if_neg h]
  exact ⟨KMap.find_put_same _ _ _, d.obj_bump_same _ _ _ _ _⟩

theorem Dev.clampMarked_of_tileJob {k : Nat} (h : d.tileJob k = some (j, x)) :
    (if n = 0 then d else (d.bump 0x6810 sub (d.tileTenant k) 64 n).markClamped k) = d.clampMarked j x sub n := by
  unfold Dev.clampMarked
  split
  · rfl
  · have hten : d.tileTenant k = x.tenant := by rw [Dev.tileTenant, h]; rfl
    rw [Dev.markClamped, show (d.bump 0x6810 sub (d.tileTenant k) 64 n).tileJob k = _ from h, hten]

end

/-! ### XPACK -/

theorem packBlock_length (f : FloatFmt) (emax : Nat) (h : RowHdr) (es : List Val) : (packBlock f emax h es).2.1.length = es.length := by
  unfold packBlock
  dsimp only
  split
  · exact List.length_map _
  · simp

/-- One block more of a row. -/
def packStep (f : FloatFmt) (emax : Nat) (acc : List Nat × List Nat × RowHdr) (blk : List Val) : List Nat × List Nat × RowHdr :=
  (acc.1 ++ (packBlock f emax acc.2.2 blk).2.1, acc.2.1 ++ [(packBlock f emax acc.2.2 blk).1], (packBlock f emax acc.2.2 blk).2.2)

theorem packSteps_length (f : FloatFmt) (emax : Nat) (l : List (List Val)) : ∀ acc, (∀ b ∈ l, b.length = 32) →
    (l.foldl (packStep f emax) acc).1.length = acc.1.length + l.length * 32 ∧
      (l.foldl (packStep f emax) acc).2.1.length = acc.2.1.length + l.length := by
  induction l with
  | nil => exact fun acc _ => ⟨by simp, by simp⟩
  | cons b l ih =>
    intro acc hl
    obtain ⟨h1, h2⟩ := ih (packStep f emax acc b) fun c hc => hl c (List.mem_cons_of_mem _ hc)
    have hb := packBlock_length f emax acc.2.2 b
    rw [hl b List.mem_cons_self] at hb
    rw [List.foldl_cons, List.length_cons, h1, h2, packStep]
    dsimp only
    rw [List.length_append, List.length_append, hb, List.length_singleton]
    omega

/-- A row of `n` blocks gives 32 elements and one scale for each. -/
theorem packRow_length (f : FloatFmt) (emax head : Nat) (init : Bool) (h : RowHdr) {row : List Nat} {n : Nat} (hrow : row.length = n * 32) :
    (packRow f emax head init h row).1.length = n * 32 ∧ (packRow f emax head init h row).2.1.length = n := by
  have hvs : (row.map xr.decode).length = n * 32 := by rw [List.length_map, hrow]
  have hsteps := fun hdr => packSteps_length f emax (rowsOf (row.map xr.decode) 32 n) ([], [], hdr) fun b hb => length_of_mem_rowsOf hvs hb
  rw [rowsOf_length] at hsteps
  unfold packRow
  dsimp only
  rw [hvs, Nat.mul_div_cancel _ (by decide)]
  exact ⟨(hsteps _).1.trans (by simp), (hsteps _).2.trans (by simp)⟩

section
variable {d' : Dev} {k : Nat} {w : Tcw} {n row rows j : Nat} {x : Job} {a h e sc : Span} {f : FloatFmt}
    {rs : List ((List Nat × List Nat × RowHdr) × Bool)}

theorem unpack_nil_getD (w n i : Nat) : (unpack w n []).getD i 0 = 0 := by
  rw [unpack_nil, List.getD_eq_getElem?_getD, List.getElem?_replicate]
  split <;> rfl

/-- The rows that XPACK makes. -/
theorem xpackRows_eq {rs' : List ((List Nat × List Nat × RowHdr) × Bool)} {vs : List Nat} {hb hb' : List Byte} {init : Bool} {head : Nat}
    {emax : Nat} (hhb : hb' = if init then [] else hb)
    (hrs : rs = (rowsOf vs row rows).zipIdx.map (fun p =>
      let old := if init then {} else hdrOf ((unpack 64 rows hb).getD p.2 0)
      (packRow f emax head init { old with sat := false } p.1, old.sat)))
    (hrs' : rs' = (rowsOf vs row rows).zipIdx.map (fun p =>
      let h := hdrOf ((unpack 64 rows hb').getD p.2 0)
      (packRow f emax head init { h with sat := false } p.1, h.sat && !init))) : rs' = rs := by
  rw [hrs, hrs', hhb]
  refine List.map_congr_left fun p _ => ?_
  cases init with
  | true =>
    dsimp only
    rw [if_pos rfl, unpack_nil_getD]
    rfl
  | false =>
    dsimp only
    rw [if_neg Bool.false_ne_true, Bool.not_false, Bool.and_true]
    rfl

theorem le_roundUp (n : Nat) {k : Nat} (hk : k ≠ 0) : n ≤ roundUp n k := by
  rw [roundUp, if_neg hk]
  have h := Nat.lt_div_mul_add (a := n + k - 1) (Nat.pos_of_ne_zero hk)
  omega

/-- What follows a span at a boundary shares no byte with it. -/
theorem Span.apart_roundUp (e : Span) (kind len : Nat) : e.overlaps ⟨kind, roundUp (e.start + e.len) 64, len⟩ = false := by
  have h := le_roundUp (e.start + e.len) (k := 64) (by decide)
  unfold Span.overlaps
  rw [decide_eq_false (show ¬ roundUp (e.start + e.len) 64 < e.start + e.len by omega), Bool.and_false]

theorem xpackRows_length {vs : List Nat} {g : List Nat × Nat → (List Nat × List Nat × RowHdr) × Bool}
    (hrs : rs = (rowsOf vs row rows).zipIdx.map g) : rs.length = rows := by
  rw [hrs, List.length_map, List.length_zipIdx, rowsOf_length]

/-- Every row of XPACK has its elements and its scales. -/
theorem xpackRow_length {vs : List Nat} {emax head : Nat} {init : Bool} {old : Nat → RowHdr} {sat : Nat → Bool} (h32 : row % 32 = 0)
    (hvs : vs.length = rows * row)
    (hrs : rs = (rowsOf vs row rows).zipIdx.map (fun p => (packRow f emax head init (old p.2) p.1, sat p.2)))
    {r : (List Nat × List Nat × RowHdr) × Bool} (hr : r ∈ rs) : r.1.1.length = row ∧ r.1.2.1.length = row / 32 := by
  rw [hrs] at hr
  obtain ⟨p, hp, rfl⟩ := List.mem_map.mp hr
  have hrow : p.1.length = row / 32 * 32 := by
    rw [Nat.div_mul_cancel (Nat.dvd_of_mod_eq_zero h32)]
    exact length_of_mem_rowsOf hvs (List.fst_mem_of_mem_zipIdx hp)
  obtain ⟨h1, h2⟩ := packRow_length f emax head init (old p.2) hrow
  rw [Nat.div_mul_cancel (Nat.dvd_of_mod_eq_zero h32)] at h1
  exact ⟨h1, h2⟩

/-- The three spans of XPACK. -/
theorem xpack_apart {y : Tile} (ha' : h.overlaps e = false) (hb' : h.overlaps sc = false)
    (hh : y.operand (fieldOf w 92 10) (8 * rows) [1, 2] true = some h)
    (he : y.operand (fieldOf w 82 10) (packedBytes (foutOf w) n) [1, 2] true = some e)
    (hsc : sc = ⟨e.kind, roundUp (e.start + e.len) 64, n / 32⟩) (hlen : rs.length = rows) (hn : rows * row = n) (h32 : row % 32 = 0)
    (hrows : ∀ r ∈ rs, r.1.1.length = row ∧ r.1.2.1.length = row / 32) :
    Apart [(e, pack (fmtBits (foutOf w)) (rs.flatMap (fun r => r.1.1))), (sc, (rs.flatMap (fun r => r.1.2.1)).map (BitVec.ofNat 8)),
      (h, pack 64 (rs.map (fun r => { r.1.2.2 with sat := r.1.2.2.sat || r.2 }.bits)))] := by
  have hscales : (rs.flatMap (fun r => r.1.2.1)).length = n / 32 := by
    rw [flatMap_length_const fun r hr => (hrows r hr).2, hlen, ← hn,
      Nat.mul_div_assoc _ (Nat.dvd_of_mod_eq_zero h32)]
  have helems : (rs.flatMap (fun r => r.1.1)).length = n := by
    rw [flatMap_length_const fun r hr => (hrows r hr).1, hlen, hn]
  obtain ⟨hall, hpair⟩ := apart_two (bs := pack 64 (rs.map (fun r => { r.1.2.2 with sat := r.1.2.2.sat || r.2 }.bits))) he hh
    (show (pack (fmtBits (foutOf w)) (rs.flatMap (fun r => r.1.1))).length = _ by rw [pack_length, helems]; rfl)
    (by rw [pack64_length, List.length_map, hlen]) (by rw [Span.overlaps_comm]; exact ha')
  rw [List.forall_mem_cons] at hall
  have he0 := List.rel_of_pairwise_cons hpair (List.mem_singleton_self _)
  refine ⟨List.forall_mem_cons.mpr ⟨hall.1, List.forall_mem_cons.mpr ⟨?_, hall.2⟩⟩, ?_⟩
  · rw [hsc, List.length_map]
    exact ⟨hall.1.1, hscales⟩
  · refine .cons (List.forall_mem_cons.mpr ⟨?_, fun c hc => ?_⟩) (.cons (fun c hc => ?_) (List.pairwise_singleton _ _))
    · rw [hsc]
      exact e.apart_roundUp _ _
    · obtain rfl := List.mem_singleton.mp hc
      exact he0
    · obtain rfl := List.mem_singleton.mp hc
      rw [Span.overlaps_comm]
      exact hb'

theorem xpackBody_ends (hf : Fresh (d'.tile k)) (hn : VecLen (d'.tile k) w n) (hrow : row = fieldOf w 32 16) (h32 : row % 32 = 0)
    (hdiv : n % row = 0) (hrows : rows = n / row) (hj : d'.tileJob k = some (j, x)) (hfmt : fmtGet (foutOf w) = .float f)
    (ha : (d'.tile k).operand (fieldOf w 102 10) (4 * n) [1, 2] false = some a)
    (hh : (d'.tile k).operand (fieldOf w 92 10) (8 * rows) [1, 2] true = some h)
    (he : (d'.tile k).operand (fieldOf w 82 10) (packedBytes (foutOf w) n) [1, 2] true = some e)
    (hsc : sc = ⟨e.kind, roundUp (e.start + e.len) 64, n / 32⟩)
    (hse : (d'.tile k).operand (fieldOf w 82 10) (sc.start + sc.len - e.start) [1, 2] true ≠ none)
    (ha' : h.overlaps e = false) (hb' : h.overlaps sc = false)
    (hrs : rs = (rowsOf (unpack 32 n (bytesAt (d'.tile k) a)) row rows).zipIdx.map (fun p =>
      let old := if w.toNat.testBit 27 then {}
        else hdrOf ((unpack 64 rows (bytesAt (d'.tile k) h)).getD p.2 0)
      (packRow f (emaxOf (foutOf w)) x.headroom (w.toNat.testBit 27) { old with sat := false } p.1, old.sat))) :
    TM.Ends (xpackBody k w.toNat) d' (fun next g => next = none ∧
      (d'.clampMarked j x 2 (rs.filter (fun r => r.1.2.2.sat)).length).Computed k 5 (d'.tile k).held
        [(e, pack (fmtBits (foutOf w)) (rs.flatMap (fun r => r.1.1))), (sc, (rs.flatMap (fun r => r.1.2.1)).map (BitVec.ofNat 8)),
          (h, pack 64 (rs.map (fun r => { r.1.2.2 with sat := r.1.2.2.sat || r.2 }.bits)))] g) := by
  obtain ⟨hlen, -⟩ := vecLen_eq hn
  obtain ⟨-, h1, h2, -⟩ := hn
  have hwhole : rows * row = n := by rw [hrows, Nat.div_mul_cancel (Nat.dvd_of_mod_eq_zero hdiv)]
  have hap := xpack_apart ha' hb' hh he hsc (xpackRows_length hrs) hwhole h32
    fun r hr => xpackRow_length (old := fun i => { (if w.toNat.testBit 27 then {}
        else hdrOf ((unpack 64 rows (bytesAt (d'.tile k) h)).getD i 0) : RowHdr) with sat := false })
        (sat := fun i => (if w.toNat.testBit 27 then {} else hdrOf ((unpack 64 rows (bytesAt (d'.tile k) h)).getD i 0) : RowHdr).sat) h32
          (by rw [unpack_length, hwhole]) hrs hr
  have helen := Tile.operand_len he
  obtain ⟨sp, hsp⟩ := Option.ne_none_iff_exists'.mp hse
  rw [hsc] at hsp
  unfold xpackBody
  dsimp only
  rw [vecOf_eq]
  dsimp only
  rw [← hrow]
  refine Dev.Still.len (.refl d' k) hlen h1 h2 ?_
  rw [← hrows, ← helen]
  refine Dev.Still.operand (.refl d' k) hf ha fun e1 hd1 => hd1.operand hf hh fun e2 hd2 => ?_
  refine hd2.operand hf (by rw [helen]; exact he) fun e3 hd3 => hd3.operand hf hsp fun e4 hd4 => hd4.compute hf ?_
  refine hd4.read hf fun e5 hd5 => ?_
  refine hd5.readUnless hf fun e6 hd6 => .of_runs (TM.runs_get e6) ?_
  have hmodel := xpackRows_eq (init := bitAt w.toNat 27) (hb' := if bitAt w.toNat 27 then [] else bytesAt (d'.tile k) h) rfl hrs rfl
  rw [hfmt, hd6.tileJob, hj]
  dsimp only [Option.map_some, Option.getD_some] at hmodel ⊢
  simp only [hmodel, ← hsc]
  obtain ⟨_, e7, hrun, g, hland, rfl⟩ := hd6.writeAll (unit := 5) hf hap (fun d => if (rs.filter (fun r => r.1.2.2.sat)).length = 0 then d
    else (d.bump 0x6810 2 (d.tileTenant k) 64 (rs.filter (fun r => r.1.2.2.sat)).length).markClamped k)
  refine ⟨_, _, hrun, ?_⟩
  have hjob : g.tileJob k = some (j, x) := by
    obtain ⟨z, hone, hz⟩ := hland
    rw [hone.tileJob (by rw [hz.frame]; rfl), hj]
  rw [Dev.clampMarked_of_tileJob hjob]
  exact besideTiles_clampMarked.lands hland

end

/-! ### The obligation -/

theorem xpack_fits {y : Tile} {w : Tcw} {n row : Nat} (hb : onlyBits w.toNat [(111, 28), (27, 27)] = true) (hin : finOf w = 0xA)
    (h3 : 3 ≤ foutOf w) (h7 : foutOf w ≤ 7) (hrow : row = fieldOf w 32 16) (h0 : row ≠ 0) (h32 : row % 32 = 0) (hn : VecLen y w n)
    (hdiv : n % row = 0) (hcount : countOk (foutOf w) n = true) :
    Cmd.Fits { grp := 3, fn := 0x0B, regs := vecRegs
               legal := fun w => onlyBits w [(111, 28), (27, 27)] && (vecOf w).fmtLegal && (vecOf w).fin == 0xA &&
                 Nat.ble 3 (vecOf w).fout && Nat.ble (vecOf w).fout 7 && (vecOf w).row != 0 && (vecOf w).row % 32 == 0
               count := rowCount id } w 3 0x0B (vecRegsOf w) y := by
  refine ⟨rfl, rfl, rfl, vecRegs_eq w, rfl, ?_, rowCount_of hn (by rw [← hrow, if_neg h0]) hdiv (by rw [hin]; rfl) ?_⟩
  · dsimp only
    rw [hb, VecOp.fmtLegal, vecOf_eq]
    dsimp only
    rw [hin, vecLen_named hn, ← hrow, Nat.ble_eq.mpr h3, Nat.ble_eq.mpr h7, Nat.ble_eq.mpr (h7.trans (show 7 ≤ 0xA by decide)),
      bne_iff_ne.mpr h0, h32]
    rfl
  · rw [id, Nat.div_mul_cancel (Nat.dvd_of_mod_eq_zero hdiv)]
    exact hcount

theorem xcomb_fits {y : Tile} {w : Tcw} {n row other : Nat} (hb : onlyBits w.toNat [(111, 26)] = true) (hin : finOf w = 0)
    (hmode : fieldOf w 26 2 ≤ 1) (hother : fieldOf w 26 2 ≠ other) (hout : foutOf w ≤ if fieldOf w 26 2 = 0 then 0 else 7)
    (hrow : row = fieldOf w 32 16) (h0 : row ≠ 0) (hn : VecLen y w n) (hdiv : n % row = 0) (heven : n % 2 = 0)
    (hcount : countOk (foutOf w) n = true) : (xcombCmd other).Fits w 3 0x0A (vecRegsOf w) y := by
  have hA : foutOf w ≤ 0xA := hout.trans (by split <;> decide)
  refine ⟨rfl, rfl, ?_, vecRegs_eq w, rfl, ?_, ?_⟩
  · rw [xcombCmd]
    dsimp only
    rw [bitsAt_field]
    exact bne_iff_ne.mpr hother
  · unfold xcombCmd xcombLegal
    dsimp only
    rw [hb, VecOp.fmtLegal, vecOf_eq, bitsAt_field]
    dsimp only
    rw [hin, vecLen_named hn, ← hrow, Nat.ble_eq.mpr hmode, Nat.ble_eq.mpr hA, Nat.ble_eq.mpr hout, bne_iff_ne.mpr h0]
    rfl
  · obtain ⟨-, -, hlen⟩ := vecLen_eq hn
    unfold xcombCmd xcombCount
    dsimp only
    rw [rowCount_of (perRow := id) hn (by rw [← hrow, if_neg h0]) hdiv (by rw [hin]; rfl)
      (by rw [id, Nat.div_mul_cancel (Nat.dvd_of_mod_eq_zero hdiv)]; exact hcount), hlen, heven]
    rfl

/-- Settles O40: each command's writes are its rows, one after another; XPACK counts the rows that saturate; COMBINE is symmetric
because exact sums are. -/
theorem partials : Obligations.Partials := by
  refine ⟨?_, ?_, ?_, fun a b _ h => combineRow_comm h⟩
  · intro s k w d' n row rows j x a h e sc f rs hi hb hin h3 h7 hrow h0 h32 hf hn hdiv hrows hcount hj _ hfmt ha hh he hsc hse ha' hb' hrs
    obtain ⟨t, ht, hcounts, hdict, hjobs, -⟩ := nexts_computed (c := .xpack k w) rfl hi
      (xpack_fits hb hin h3 h7 hrow h0 h32 hn hdiv hcount) rfl hf Dev.clampMarked_frame
      (xpackBody_ends hf hn hrow h32 hdiv hrows hj hfmt ha hh he hsc hse ha' hb' hrs)
    refine ⟨t, ht, hcounts, fun hnone => ?_, fun hsome => ?_⟩
    · rw [hdict, hjobs, List.filter_eq_nil_iff.mpr fun r hr => by rw [hnone r hr]; exact Bool.false_ne_true]
      exact ⟨rfl, rfl⟩
    · obtain ⟨r, hr, hsat⟩ := hsome
      obtain ⟨h1, h2⟩ := Dev.clampMarked_some (d := d') (j := j) (x := x) (sub := 2)
        (n := (rs.filter (fun r => r.1.2.2.sat)).length)
        (List.length_pos_iff.mpr (List.ne_nil_of_mem (List.mem_filter.mpr ⟨hr, hsat⟩))).ne'
      rw [hjobs]
      refine ⟨h1, ?_⟩
      rw [← h2]
      refine Dev.obj_congr hdict ?_ ?_ _ _ _
      · rw [hcounts.1, Dev.clampMarked_frame]
      · rw [hcounts.1, Dev.clampMarked_frame]
  · intro s k w d' n row a b e hi hb hin hout hmode hrow h0 hf hn hdiv heven ha hbb he
    exact nexts_computes (c := .xcombCombine k w) rfl hi (xcomb_fits hb hin (by rw [hmode]; decide) (by rw [hmode]; decide)
      (by rw [hmode, if_pos rfl, hout]) hrow h0 hn hdiv heven (by rw [hout]; rfl)) rfl hf (combineBody_ends hf hn hrow hdiv ha hbb he)
  · intro s k w d' n row a b e hi hb hin hout hmode hrow h0 hf hn hdiv heven hcount ha hbb he hap
    exact nexts_computes (c := .xcombNormalise k w) rfl hi (xcomb_fits hb hin (by rw [hmode]) (by rw [hmode]; decide)
      (by rw [hmode]; exact hout) hrow h0 hn hdiv heven hcount) rfl hf (normaliseBody_ends hf hn hrow hdiv ha hbb he hap)

end Sys2Proof.Machine

/-! ## The special-function unit: its words, its operands, what it holds (R270 to R280, R293 to R295) -/

namespace Sys2Proof.Machine

open Sys2Proof.Stm

/-! ### Words -/

/-- A field inside a field that is 0 is 0. -/
theorem fieldOf_inside {w : Tcw} {lo n : Nat} (h : fieldOf w lo n = 0) (a b : Nat) (hab : a + b ≤ n) : fieldOf w (lo + a) b = 0 := by
  unfold fieldOf at *
  have hdvd : 2 ^ (a + b) ∣ w.toNat / 2 ^ lo := (Nat.pow_dvd_pow 2 hab).trans (Nat.dvd_of_mod_eq_zero h)
  rw [Nat.pow_add, ← Nat.div_div_eq_div_mul, ← Nat.mod_mul_right_div_self, ← Nat.pow_add, Nat.mod_eq_zero_of_dvd hdvd, Nat.zero_div]

theorem testBit_of_field {w : Tcw} {i : Nat} (h : fieldOf w i 1 = 0) : w.toNat.testBit i = false := by
  rw [Nat.testBit_eq_decide_div_mod_eq]
  unfold fieldOf at h
  rw [Nat.pow_one] at h
  rw [h]
  rfl

theorem sfuOf_eq (w : Tcw) : sfuOf w.toNat =
    { mask := w.toNat.testBit 27, slot := fieldOf w 24 3, act := fieldOf w 21 3, gain := w.toNat.testBit 20 } := by
  simp only [sfuOf, bitsAt_field, bitAt]

/-- A word that a function without a gate takes. -/
theorem sfuLegal_of {u : SfuUse} {w : Tcw} {y : Tile} {n : Nat} (hb : onlyBits w.toNat [(111, 20)] = true) (hn : VecLen y w n)
    (hg : u.gated = false) (hin : u.fin (finOf w) = true) (hout : u.fout (foutOf w) = true)
    (hmask : w.toNat.testBit 27 = false ∨ u.mask = true) (hslot : fieldOf w 24 3 = 0 ∨ u.slot = true)
    (hneed : u.slotNeeded = false ∨ fieldOf w 24 3 ≠ 0) (hact : fieldOf w 21 3 = 0) (hgain : w.toNat.testBit 20 = false ∨ u.gain = true)
    (hB : w.toNat.testBit 27 = true ∨ w.toNat.testBit 20 = true ∨ fieldOf w 92 10 = 0) : sfuLegal u w.toNat = true := by
  unfold sfuLegal
  rw [vecOf_eq, sfuOf_eq]
  dsimp only
  rw [hb, vecLen_named hn, hin, hout, hg, hact]
  simp only [Bool.true_and, Bool.and_eq_true, Bool.or_eq_true, Bool.not_eq_true', beq_iff_eq, bne_iff_ne, Bool.false_eq_true,
    if_false, or_false, false_or, ne_eq, and_true]
  exact ⟨⟨⟨⟨hmask.symm, hslot.symm⟩, hneed⟩, hgain.symm⟩, (or_assoc.mpr hB)⟩

/-! ### Results and operands -/

section
variable {d d0 : Dev} {k : Nat} {h : SfuHeld} (hd : d0.Still k h d)
include hd

/-- A result that overlaps its operands only where it may is written. -/
theorem Dev.Still.writeOpd {dsp a : Span} {others : List Span} {wa wd : Nat} {bs : List Byte} (hf : Fresh (d0.tile k))
    (hok : opdOk dsp a others wa wd = true) (hl : Apart [(dsp, bs)]) :
    TM.Ends (TM.writeOpd k dsp a others wa wd bs) d (fun _ e => d0.Lands k h [(dsp, bs)] e) := by
  unfold TM.writeOpd TM.putOpd
  rw [if_pos hok]
  exact hd.write hf hl

end

theorem opdOk_of {e a : Span} {others : List Span} {wa wd : Nat} (h : OverlapOk a e wa wd) (ho : MaskClear e others) :
    opdOk e a others wa wd = true := by
  unfold opdOk
  rw [Bool.and_eq_true, Bool.or_eq_true, Bool.not_eq_true', Bool.not_eq_true', Bool.and_eq_true, beq_iff_eq, beq_iff_eq,
    List.any_eq_false]
  exact ⟨h, fun x hx => by rw [ho x hx]; exact Bool.false_ne_true⟩

theorem maskClear_one {e b : Span} (h : e.overlaps b = false) : MaskClear e [b] := fun x hx => by
  obtain rfl := List.mem_singleton.mp hx
  exact h

theorem maskClear_nil (e : Span) : MaskClear e [] := fun _ hx => (List.not_mem_nil hx).elim

/-! ### Built-in functions -/

theorem elemBody_ends {f : Nat → Nat → Val → Nat → Nat} {d' : Dev} {k : Nat} {w : Tcw} {n : Nat} {a e : Span}
    (hin : finOf w ≤ 0xA) (hs : SfuOperands (d'.tile k) w n n a e) :
    TM.Ends (elemBody f k w.toNat) d' (fun next g => next = none ∧ d'.Computed k 4 (d'.tile k).held [(e, pack (fmtBits (foutOf w))
      ((List.range n).map (fun i => f (finOf w) (foutOf w) (elemAt (d'.tile k) (finOf w) n a i)
        ((unpack (fmtBits (finOf w)) n (bytesAt (d'.tile k) a)).getD i 0))))] g) := by
  obtain ⟨hf, hn, -, -, ha, he, hover⟩ := hs
  obtain ⟨hlen, -⟩ := vecLen_eq hn
  obtain ⟨-, h1, h2, -⟩ := hn
  unfold elemBody
  dsimp only
  rw [vecOf_eq]
  dsimp only
  refine Dev.Still.len (.refl d' k) hlen h1 h2 (Dev.Still.operand (.refl d' k) hf ha fun e1 hd1 => ?_)
  refine hd1.operand hf he fun e2 hd2 => hd2.compute hf ?_
  refine hd2.read hf fun e3 hd3 => ?_
  rw [fmtGet_bits hin]
  have hmap : (unpack (fmtBits (finOf w)) n (bytesAt (d'.tile k) a)).map (fun p => f (finOf w) (foutOf w) ((fmtGet (finOf w)).decode p) p) =
      (List.range n).map (fun i => f (finOf w) (foutOf w) (elemAt (d'.tile k) (finOf w) n a i)
        ((unpack (fmtBits (finOf w)) n (bytesAt (d'.tile k) a)).getD i 0)) := by
    refine List.ext_getElem (by simp [unpack_length]) fun i h1 h2 => ?_
    rw [List.getElem_map, List.getElem_map, List.getElem_range, elemAt, List.getD_eq_getElem]
  rw [hmap]
  refine hd3.writeOpd hf (opdOk_of hover (maskClear_nil e)) (apart_one he ?_)
  rw [pack_length, List.length_map, List.length_range]
  rfl

theorem fmtXr_of {c : Nat} {x : Bool} (h : c ≤ 7 ∨ (x = true ∧ c = 0xA)) :
    c ≤ 0xA ∧ (if x then fmtXr else fun c => Nat.ble c 7) c = true := by
  obtain h7 | ⟨rfl, rfl⟩ := h
  · refine ⟨h7.trans (by decide), ?_⟩
    cases x with
    | true => exact Bool.or_eq_true_iff.mpr (.inl (Nat.ble_eq.mpr h7))
    | false => exact Nat.ble_eq.mpr h7
  · exact ⟨le_rfl, rfl⟩

theorem builtinCmd_of {c : TileId → Tcw → Instr} {fn : Nat} {xrIn xrOut : Bool}
    (hexec : ∀ k w s, exec (c k w) s = tcwStep k w (sfuCmd fn
      { fin := if xrIn then fmtXr else fun c => Nat.ble c 7, fout := if xrOut then fmtXr else fun c => Nat.ble c 7 }) (builtinBody fn) s) (hl : tcwListed 4 fn = true) : BuiltinCmd c fn xrIn xrOut := by
  intro s k w d' n a e hi hb hin hout h20 hB hs
  obtain ⟨hinA, hinOk⟩ := fmtXr_of hin
  obtain ⟨-, houtOk⟩ := fmtXr_of hout
  have hends := elemBody_ends (f := fun fin fout v p => builtin fn v (if fin = 0xA then 2 ^ 32 + p else fp32.encode v) (fmtGet fout))
    hinA hs
  have hval : ∀ i, (if finOf w = 0xA then 2 ^ 32 + (unpack (fmtBits (finOf w)) n (bytesAt (d'.tile k.val) a)).getD i 0
      else fp32.encode (elemAt (d'.tile k.val) (finOf w) n a i)) = if finOf w = 0xA then
        2 ^ 32 + (unpack 32 n (bytesAt (d'.tile k.val) a)).getD i 0 else fp32.encode (elemAt (d'.tile k.val) (finOf w) n a i) :=
    fun i => by
      split
      case isTrue h => rw [h]; rfl
      case isFalse => rfl
  simp only [hval] at hends
  obtain ⟨hf, hn, hcin, hcout, -⟩ := hs
  refine nexts_computes (hexec k w s) hi ⟨rfl, rfl, rfl, vecRegs_eq w, hl, ?_, eltCount_of hn hcin hcout⟩ rfl hf hends
  exact sfuLegal_of hb hn rfl hinOk houtOk (.inl (testBit_of_field (fieldOf_inside h20 7 1 (by decide))))
    (.inl (fieldOf_inside h20 4 3 (by decide))) (.inl rfl) (fieldOf_inside h20 1 3 (by decide))
    (.inl (testBit_of_field (fieldOf_inside h20 0 1 (by decide)))) (.inr (.inr hB))

/-! ### Descriptors -/

theorem TM.Ends.bind {α β : Type} {m : TM α} {f : α → TM β} {d : Dev} {P : α → Dev → Prop} {Q : β → Dev → Prop} (h : TM.Ends m d P)
    (h' : ∀ a e, P a e → TM.Ends (f a) e Q) : TM.Ends (m >>= f) d Q := by
  obtain ⟨a, e, hrun, hp⟩ := h
  exact .of_runs hrun (h' a e hp)

theorem TM.Ends.mono {α : Type} {m : TM α} {d : Dev} {P Q : α → Dev → Prop} (h : TM.Ends m d P) (hpq : ∀ a e, P a e → Q a e) :
    TM.Ends m d Q := by
  obtain ⟨a, e, hrun, hp⟩ := h
  exact ⟨a, e, hrun, hpq a e hp⟩

theorem Tile.operandAt_more {x : Tile} {spec extra len : Nat} {sp : Span}
    (h : x.operandAt spec extra len [1, 2] = some sp) : x.operandAt spec extra len [1, 2, 3] = some sp ∧ sp.kind ≠ 3 := by
  unfold Tile.operandAt at h ⊢
  dsimp only at h ⊢
  split at h
  case isFalse => cases h
  case isTrue hc =>
    cases h
    rw [Bool.and_eq_true, Bool.and_eq_true, Bool.and_eq_true] at hc
    obtain ⟨⟨⟨hkind, h0⟩, hro⟩, hext⟩ := hc
    have h12 : (x.handles.get (spec / 16 % 64) {}).kind = 1 ∨ (x.handles.get (spec / 16 % 64) {}).kind = 2 := by simpa using hkind
    refine ⟨if_pos ?_, ?_⟩
    · rw [Bool.and_eq_true, Bool.and_eq_true, Bool.and_eq_true]
      exact ⟨⟨⟨by simpa using h12.imp id Or.inl, h0⟩, hro⟩, hext⟩
    · dsimp only
      omega

/-- A vector that a descriptor may name. -/
theorem Tile.vector_more {x : Tile} {use : Bool} {spec extra len : Nat} {sp : Span}
    (h : (if use then x.operandAt spec extra len [1, 2] else some ⟨1, 0, 0⟩) = some sp) :
    (if use then x.operandAt spec extra len [1, 2, 3] else some ⟨1, 0, 0⟩) = some sp ∧ sp.kind ≠ 3 := by
  cases use with
  | true => exact Tile.operandAt_more h
  | false =>
    cases h
    exact ⟨rfl, by decide⟩

section
variable {d d0 : Dev} {k : Nat} {h : SfuHeld} (hd : d0.Still k h d) {β : Type} {Q : β → Dev → Prop}
include hd

theorem Dev.Still.fetch {f : List Byte → TM β} {unit : Nat} {sp : Span} (hf : Fresh (d0.tile k)) (hk : sp.kind ≠ 3)
    (rest : ∀ e, d0.Still k h e → TM.Ends (f (Stm.bytesAt (d0.tile k) sp)) e Q) : TM.Ends (TM.fetch k unit sp >>= f) d Q := by
  unfold TM.fetch
  split
  case isTrue h0 =>
    have hnone : Stm.bytesAt (d0.tile k) sp = [] := by
      unfold Stm.bytesAt
      rw [h0, cellsRead_eq]
      rfl
    rw [hnone] at rest
    exact .of_runs (TM.runs_pure [] d) (rest d hd)
  case isFalse => exact hd.read hf rest

theorem Dev.Still.hazard {f : Unit → TM β} (hf : Fresh (d0.tile k)) (reads writes : List Span) (rest : TM.Ends (f ()) d Q) :
    TM.Ends (TM.hazard k reads writes >>= f) d Q :=
  .of_runs (TM.runs_hazard (hd.fresh hf).1 reads writes) rest

theorem Dev.Still.handle {f : Unit → TM β} {spec : Nat} (hf : Fresh (d0.tile k)) (rest : ∀ e, d0.Still k h e → TM.Ends (f ()) e Q) :
    TM.Ends (TM.handle k spec >>= f) d Q :=
  .of_turns hd (TM.handle_turns (hd.fresh hf).2.1 (Tile.loadingHandle_of_none (hd.fresh hf).1 _)) rest

theorem Dev.Still.handleIf {m : TM β} {use : Bool} {spec : Nat} (hf : Fresh (d0.tile k))
    (rest : ∀ e, d0.Still k h e → TM.Ends m e Q) :
    TM.Ends (if use then TM.handle k spec >>= fun _ => m else m) d Q := by
  cases use with
  | true => exact hd.handle hf rest
  | false => exact rest d hd

end

section
variable {d d0 : Dev} {k : Nat} {h : SfuHeld} {w : Tcw} {n : Nat}

/-- A descriptor more is held. -/
def Tile.holding (e : MaskEntry) (x : Tile) : Tile := { x with masks := holdMask x.masks e }

def SfuHeld.holding (h : SfuHeld) (e : MaskEntry) : SfuHeld := { h with masks := holdMask h.masks e }

/-- The descriptor that OPB names is read, with what it names. -/
theorem Dev.Still.mask (hd : d0.Still k h d) (hf : Fresh (d0.tile k)) (hm : h.masks = (d0.tile k).masks) {m : MaskCtx} {sp : List Span}
    (hmask : MaskOf (d0.tile k) w n (some m) sp) :
    TM.Ends (TM.mask k (fieldOf w 92 10) n) d (fun r e => r = (m, sp) ∧ ∃ h', d0.Still k h' e) := by
  obtain ⟨-, hnone, e, ss, bs, v, k0, lim, hop, hv, hok, hk0, hlim, hsel, hbmp, hctx, hsp⟩ := hmask
  obtain ⟨hop', hkind⟩ := Tile.operandAt_more hop
  unfold TM.mask
  refine hd.operand hf hop' fun e1 hd1 => .of_runs (TM.runs_get e1) ?_
  have hx : e1.tile k = (d0.tile k).withHeld h := hd1.tile
  have hfind : (e1.tile k).masks.find? (fun e => e.handle == fieldOf w 92 10 / 16 && e.off == (e1.tile k).s (fieldOf w 92 10 % 16)) = none := by
    rw [hx, show ((d0.tile k).withHeld h).masks = h.masks from rfl, hm, hnone]
    rfl
  dsimp only
  rw [hfind]
  dsimp only
  refine hd1.hazard hf _ _ (hd1.fetch hf hkind fun e2 hd2 => .of_runs (TM.runs_pure _ e2) ?_)
  rw [← hv]
  refine .of_runs (TM.runs_need hok _ e2) (.of_runs (TM.runs_upd _ e2) ?_)
  obtain ⟨x, hentry⟩ : ∃ x : MaskEntry, x = ⟨fieldOf w 92 10 / 16, (e1.tile k).s (fieldOf w 92 10 % 16), v⟩ := ⟨_, rfl⟩
  obtain ⟨e3, he3⟩ : ∃ e3, e3 = e2.updTile k (Tile.holding x) := ⟨_, rfl⟩
  have hd3 : d0.Still k (h.holding x) e3 := by
    rw [he3]
    exact hd2.updTile (Tile.holding x)
  rw [← hentry]
  change TM.Ends _ (e2.updTile k (Tile.holding x)) _
  rw [← he3]
  refine .of_runs (TM.runs_freeRegs (by rw [(hd3.fresh hf).1]; exact fun o ho => (List.not_mem_nil ho).elim)) ?_
  refine hd3.handleIf hf fun e4 hd4 => hd4.handleIf hf fun e5 hd5 => ?_
  obtain ⟨hsel', hss⟩ := Tile.vector_more hsel
  obtain ⟨hbmp', hbs⟩ := Tile.vector_more hbmp
  have hregs : ∀ i, (e1.tile k).s i = (d0.tile k).s i := fun i => by
    rw [hx]
    rfl
  have hops : ∀ a b c d, (e1.tile k).operandAt a b c d = (d0.tile k).operandAt a b c d := fun a b c d => by
    rw [hx]
    rfl
  rw [hregs, hregs, hregs, hops, hops, ← hk0, ← hlim, show ceilDiv lim 8 = (lim + 7) / 8 from rfl, hsel',
    show ceilDiv n 8 = (n + 7) / 8 from rfl, hbmp']
  dsimp only
  refine hd5.hazard hf _ _ (hd5.fetch hf hss fun e6 hd6 => hd6.fetch hf hbs fun e7 hd7 => TM.ends_pure ⟨?_, _, hd7⟩)
  rw [hctx, hsp, hregs]

end

section
variable {d d0 : Dev} {k : Nat} {h : SfuHeld} {w : Tcw} {n : Nat}

/-- The descriptor of a word, if it has one. -/
theorem Dev.Still.maskIf (hd : d0.Still k h d) (hf : Fresh (d0.tile k)) (hm : h.masks = (d0.tile k).masks) {m : Option MaskCtx}
    {sp : List Span} (hmask : MaskOf (d0.tile k) w n m sp) :
    TM.Ends (TM.maskIf k (w.toNat.testBit 27) (fieldOf w 92 10) n) d (fun r e => r = (m, sp) ∧ ∃ h', d0.Still k h' e) := by
  unfold TM.maskIf
  cases m with
  | none =>
    obtain ⟨hbit, hsp⟩ := hmask
    rw [hbit, hsp]
    exact TM.ends_pure ⟨rfl, h, hd⟩
  | some m =>
    have hbit : w.toNat.testBit 27 = true := hmask.1
    rw [hbit]
    refine (hd.mask hf hm hmask).bind fun r e hr => ?_
    obtain ⟨rfl, hstill⟩ := hr
    exact TM.ends_pure ⟨rfl, hstill⟩

/-! ### Images -/

/-- An image of a slot is the one used last. -/
def Tile.touching (prog : Bool) (e : Nat × Nat) (y : Tile) : Tile :=
  if prog then { y with sfuProgs := touch y.sfuProgs e 4 } else { y with sfuTabs := touch y.sfuTabs e 2 }

def SfuHeld.touching (h : SfuHeld) (prog : Bool) (e : Nat × Nat) : SfuHeld :=
  if prog then { h with progs := touch h.progs e 4 } else { h with tabs := touch h.tabs e 2 }

/-- The images that a job latched are named without a change of what else the tile holds. -/
theorem Dev.Still.image (hd : d0.Still k h d) {j : Nat} {x : Job} (hj : d0.tileJob k = some (j, x)) {prog : Bool} {slot : Nat}
    {b : List Byte} (hb : d0.sfuImage x prog slot = some b) :
    TM.Ends (TM.image k prog slot) d (fun r e => r = b ∧ ∃ h', h'.masks = h.masks ∧ d0.Still k h' e) := by
  unfold TM.image
  refine .of_runs (TM.runs_get d) ?_
  rw [hd.tileJob, hj]
  dsimp only
  rw [show d.sfuImage x prog slot = d0.sfuImage x prog slot by rw [show d = _ from hd.frame]; rfl, hb]
  dsimp only
  have htouch := hd.updTile (Tile.touching prog (slot, x.gens.get (sfuKey x.tenant prog slot) 0))
  refine .of_runs (TM.runs_set d _) (TM.ends_pure ⟨rfl, h.touching prog (slot, x.gens.get (sfuKey x.tenant prog slot) 0), ?_, ?_⟩)
  · cases prog <;> rfl
  · cases prog <;> exact htouch

theorem Dev.Still.table32 (hd : d0.Still k h d) {j : Nat} {x : Job} (hj : d0.tileJob k = some (j, x)) {slot : Nat}
    {b : List Byte} (hb : d0.sfuImage x false slot = some b) (hfin : (tabOf b).fin = 0) :
    TM.Ends (TM.table32 k slot) d (fun r e => r = tabOf b ∧ ∃ h', h'.masks = h.masks ∧ d0.Still k h' e) := by
  refine (hd.image hj hb).bind fun r e hr => ?_
  obtain ⟨rfl, hstill⟩ := hr
  exact .of_runs (TM.runs_need (by rw [hfin]; rfl) _ e) (TM.ends_pure ⟨rfl, hstill⟩)

/-- A program without table steps. -/
theorem Dev.Still.program (hd : d0.Still k h d) {j : Nat} {x : Job} (hj : d0.tileJob k = some (j, x)) {slot : Nat}
    {b : List Byte} (hb : d0.sfuImage x true slot = some b) (htabs : progTabs b = []) :
    TM.Ends (TM.program k slot) d (fun r e => r = (b, []) ∧ ∃ h', h'.masks = h.masks ∧ d0.Still k h' e) := by
  refine (hd.image hj hb).bind fun r e hr => ?_
  obtain ⟨rfl, hstill⟩ := hr
  rw [htabs]
  exact .of_runs (TM.runs_pure [] e) (TM.ends_pure ⟨rfl, hstill⟩)

end

end Sys2Proof.Machine

/-! ## The attention exponential and SOFTMAX (R259, R260, R270 to R273, R287, R291, R292) -/

namespace Sys2Proof.Machine

open Sys2Proof.Stm

/-! ### Commands that count -/

theorem BesideTiles.tile {g : Dev → Dev} (hg : BesideTiles g) (d : Dev) (k : Nat) : (g d).tile k = d.tile k := by
  rw [show g d = _ from hg d d.tiles]
  rfl

theorem BesideTiles.still {g : Dev → Dev} (hg : BesideTiles g) {d e : Dev} {k : Nat} {h : SfuHeld} (hd : d.Still k h e) :
    (g d).Still k h (g e) := by
  unfold Dev.Still
  rw [hg.tile]
  exact hg.oneTile hd

theorem BesideTiles.comp {f g : Dev → Dev} (hf : BesideTiles f) (hg : BesideTiles g) : BesideTiles (fun d => f (g d)) := fun d m => by
  dsimp only
  rw [hg, hf]

theorem besideTiles_id : BesideTiles (fun d => d) := fun _ _ => rfl

/-- A computing command that may also count and hold descriptors and images. -/
theorem nexts_counted {c : Instr} {cmd : Cmd} {body : TcwBody} {s : State} {k : TileId} {w : Tcw} {grp fn unit : Nat}
    {regs : List Nat} {d' b : Dev} {l : List (Span × List Byte)} (hexec : exec c s = tcwStep k w cmd body s)
    (hi : Issues s.dev k.val w grp fn regs d') (hc : cmd.Fits w grp fn regs (d'.tile k.val)) (hgrp : (grp == 9) = false)
    (hf : Fresh (d'.tile k.val)) (hb : b = { d' with dict := b.dict, jobs := b.jobs })
    (hends : TM.Ends (body k.val w.toNat) d' (fun next e => next = none ∧ ∃ h, b.Computed k.val unit h l e)) :
    Nexts c s fun t => Counts k d' s t unit l ∧ t.dev.dict = b.dict ∧ t.dev.jobs = b.jobs := by
  obtain ⟨_, e, hrun, rfl, h, hcomp⟩ := hends
  obtain ⟨t, ht, hcounts, hdict, hjobs, -⟩ := nexts_computed hexec hi hc hgrp hf hb ⟨_, e, hrun, rfl, hcomp⟩
  exact ⟨t, ht, hcounts, hdict, hjobs⟩

/-- What is counted is what a device that counts so would read. -/
theorem obj_of_counts {k : TileId} {d' b : Dev} {s t : State} {unit : Nat} {l : List (Span × List Byte)} (h : Counts k d' s t unit l)
    (hdict : t.dev.dict = b.dict) (hb : b = { d' with dict := b.dict, jobs := b.jobs }) (i u n : Nat) :
    t.dev.obj i u n = b.obj i u n := by
  refine Dev.obj_congr hdict ?_ ?_ i u n
  · rw [h.1, hb]
  · rw [h.1, hb]

/-! ### Elements in rows -/

theorem VecOp.rowLen_of {o : VecOp} {n row : Nat} (h : row = if o.row = 0 then n else o.row) : o.rowLen n = row := h.symm

/-- The elements of a span, in a list. -/
def elemList (y : Tile) (w : Tcw) (n : Nat) (a : Span) : List Val := (List.range n).map (elemAt y (finOf w) n a)

theorem elemList_getD {y : Tile} {w : Tcw} {n i : Nat} {a : Span} (hi : i < n) :
    (elemList y w n a).getD i .zero = elemAt y (finOf w) n a i := by
  rw [elemList, List.getD_eq_getElem _ _ (by simpa using hi), List.getElem_map, List.getElem_range]

theorem grid_map {α : Type} {f : Nat × Nat × Nat → α} {g : Nat → α} {n row : Nat} (h : ∀ i < n, f (i / row, i % row, i) = g i) :
    (grid n row).map f = (List.range n).map g := by
  rw [grid, List.map_map]
  exact List.map_congr_left fun i hi => h i (List.mem_range.mp hi)

/-! ### EXPX -/

section
variable {d d' : Dev} {k : Nat} {h : SfuHeld} {w : Tcw} {n row j : Nat} {x : Job} {a e : Span} {m : Option MaskCtx} {sp : List Span}
  {pr : Option (List Byte)}

/-- The program of a word, if it names one. -/
theorem Dev.Still.programIf (hd : d'.Still k h d) (hj : d'.tileJob k = some (j, x)) (hp : ProgOf d' x w pr) {β : Type}
    {f : Option (List Byte × KMap TabImg) → TM β} {Q : β → Dev → Prop}
    (rest : ∀ e h', h'.masks = h.masks → d'.Still k h' e → TM.Ends (f (pr.map (fun b => (b, [])))) e Q) :
    TM.Ends (if fieldOf w 24 3 = 0 then pure none >>= f else (some <$> TM.program k (fieldOf w 24 3)) >>= f) d Q := by
  cases pr with
  | none =>
    have h0 : fieldOf w 24 3 = 0 := hp
    rw [if_pos h0]
    exact .of_runs (TM.runs_pure none d) (rest d h rfl hd)
  | some b =>
    obtain ⟨hne, himg, htabs⟩ := hp
    rw [if_neg hne, ← bind_pure_comp, bind_assoc]
    refine (hd.program hj himg htabs).bind fun r e hr => ?_
    obtain ⟨rfl, h', hm, hd'⟩ := hr
    rw [pure_bind]
    exact rest e h' hm hd'

/-- The score of an element, as the model takes it. -/
theorem scoreAt_eq {y : Tile} {i : Nat} (hi : i < n) : (match pr.map (fun b => (b, ([] : KMap TabImg))) with
      | some (b, tabs) => progRun b tabs (progEnv m (elemList y w n a) n row (i / row) (i % row) i .zero)
      | none => (elemList y w n a).getD i .zero) = scoreAt y w n row a pr m i := by
  cases pr with
  | none => exact elemList_getD hi
  | some b => rfl

/-- The results of EXPX. -/
def expxOut (y : Tile) (w : Tcw) (n row : Nat) (a : Span) (pr : Option (List Byte)) (m : Option MaskCtx) : List (Nat × Bool) :=
  (List.range n).map (fun i => expScore (if m.any (fun x => x.masked row (i / row) (i % row)) then maskVal
    else scoreAt y w n row a pr m i))

theorem expxBody_ends (hs : SfuOperands (d'.tile k) w n n a e) (hin : finOf w ≤ 0xA) (hout : foutOf w = 0xA) (hp : ProgOf d' x w pr)
    (hrow : row = if fieldOf w 32 16 = 0 then n else fieldOf w 32 16) (hmask : MaskOf (d'.tile k) w n m sp) (hclear : MaskClear e sp)
    (hj : d'.tileJob k = some (j, x)) :
    TM.Ends (expxBody k w.toNat) d' (fun next g => next = none ∧ ∃ h,
      (d'.clampMarked j x 1 ((expxOut (d'.tile k) w n row a pr m).filter (fun p => p.2)).length).Computed k 4 h
        [(e, pack 32 ((expxOut (d'.tile k) w n row a pr m).map (fun p => p.1)))] g) := by
  obtain ⟨hf, hn, -, -, ha, he, hover⟩ := hs
  obtain ⟨hlen, -⟩ := vecLen_eq hn
  obtain ⟨-, h1, h2, -⟩ := hn
  unfold expxBody
  dsimp only
  rw [vecOf_eq, sfuOf_eq]
  dsimp only
  refine Dev.Still.len (.refl d' k) hlen h1 h2 ?_
  rw [VecOp.rowLen_of (o := ⟨_, _, _, _, _, _, _, fieldOf w 32 16, _⟩) hrow]
  refine Dev.Still.operand (.refl d' k) hf ha fun e1 hd1 => hd1.operand hf he fun e2 hd2 => hd2.programIf hj hp fun e3 h3 hm3 hd3 => ?_
  refine (hd3.maskIf hf hm3 hmask).bind fun r e4 hr => ?_
  obtain ⟨rfl, h4, hd4⟩ := hr
  dsimp only
  refine (hd4.compute hf ?_).mono fun _ _ hq => ⟨hq.1, h4, hq.2⟩
  refine hd4.read hf fun e5 hd5 => ?_
  rw [unpack_decode hin]
  rw [grid_map (g := fun i => expScore (if m.any (fun x => x.masked row (i / row) (i % row)) then maskVal
    else scoreAt (d'.tile k) w n row a pr m i))]
  · refine .of_runs (TM.runs_upd _ e5) ?_
    rw [Dev.countClamped, Dev.clampMarked_of_tileJob (hd5.tileJob.trans hj), fmtGet_bits hin]
    have hbase := besideTiles_clampMarked (j := j) (x := x) (sub := 1) (n := ((expxOut (d'.tile k) w n row a pr
      m).filter (fun p => p.2)).length)
    rw [hout] at hover he
    refine (hbase.still hd5).writeOpd (by rw [hbase.tile]; exact hf) (opdOk_of hover hclear) (apart_one he ?_)
    rw [pack_length, List.length_map, List.length_map, List.length_range]
    rfl
  · intro i hi
    dsimp only
    rw [← scoreAt_eq hi]
    rfl

end

/-- Clamped elements are counted, whatever else a command counts. -/
theorem clampCount_of {k : TileId} {d' b : Dev} {s t : State} {unit j n : Nat} {x : Job} {l : List (Span × List Byte)}
    (h : Counts k d' s t unit l) (hdict : t.dev.dict = b.dict) (hjobs : t.dev.jobs = b.jobs)
    (hb : b = { d' with dict := b.dict, jobs := b.jobs }) (hbj : b.jobs = (d'.clampMarked j x 1 n).jobs)
    (hbo : b.obj 0x6810 1 x.tenant = (d'.clampMarked j x 1 n).obj 0x6810 1 x.tenant) : ClampCount d' t j x n := by
  refine ⟨fun h0 => ?_, fun hne => ?_⟩
  · rw [hjobs, hbj, h0, Dev.clampMarked_none]
  · obtain ⟨h1, h2⟩ := Dev.clampMarked_some (d := d') (j := j) (x := x) (sub := 1) hne
    rw [hjobs, hbj, obj_of_counts h hdict hb, hbo]
    exact ⟨h1, h2⟩

/-- A span and what follows it at a boundary. -/
theorem apart_next {x : Tile} {spec len : Nat} {write : Bool} {e sp : Span} {es bs : List Byte}
    (he : x.operand spec len [1, 2] write = some e) (hes : es.length = len) (hk : sp.kind = e.kind) (hbs : bs.length = sp.len)
    (hap : e.overlaps sp = false) : Apart [(e, es), (sp, bs)] := by
  have hone := (apart_one he hes).1 _ List.mem_cons_self
  refine ⟨List.forall_mem_cons.mpr ⟨hone, fun c hc => ?_⟩, .cons (fun c hc => ?_) (List.pairwise_singleton _ _)⟩
  · obtain rfl := List.mem_singleton.mp hc
    exact ⟨hk ▸ hone.1, hbs⟩
  · obtain rfl := List.mem_singleton.mp hc
    exact hap

/-! ### SOFTMAX -/

/-- A count of rows with a flag. -/
def Dev.addRows (d : Dev) (sub tenant n : Nat) : Dev := if n = 0 then d else d.bump 0x7040 sub tenant 64 n

theorem besideTiles_addRows (sub tenant n : Nat) : BesideTiles (fun d => d.addRows sub tenant n) := fun d m => by
  unfold Dev.addRows
  split <;> rfl

theorem Dev.addRows_frame (d : Dev) (sub tenant n : Nat) : d.addRows sub tenant n = { d with dict := (d.addRows sub tenant n).dict } := by
  unfold Dev.addRows
  split <;> rfl

theorem Dev.addRows_clamped (d : Dev) {sub tenant : Nat} (n : Nat) (hsub : sub < 4) (ht : tenant < 64) :
    (d.addRows sub tenant n).obj 0x6810 1 tenant = d.obj 0x6810 1 tenant := by
  unfold Dev.addRows
  split
  · rfl
  · refine Dev.obj_bump_other d ?_
    unfold okey
    omega

/-- What SOFTMAX counts: elements clamped, and rows of three kinds. -/
def softCount (j : Nat) (x : Job) (out : List SoftRow) (d : Dev) : Dev :=
  (((d.clampMarked j x 1 (out.foldl (fun k x => k + x.clamped) 0)).addRows 1 x.tenant (out.filter (fun x => x.flags == 1)).length).addRows
    2 x.tenant (out.filter (fun x => x.flags == 2)).length).addRows 3 x.tenant (out.filter (fun x => x.flags == 4)).length

theorem besideTiles_softCount (j : Nat) (x : Job) (out : List SoftRow) : BesideTiles (softCount j x out) :=
  (besideTiles_addRows _ _ _).comp ((besideTiles_addRows _ _ _).comp ((besideTiles_addRows _ _ _).comp besideTiles_clampMarked))

section
variable (d : Dev) (j : Nat) (x : Job) (out : List SoftRow)

theorem softCount_frame : softCount j x out d = { d with dict := (softCount j x out d).dict, jobs := (softCount j x out d).jobs } := by
  unfold softCount
  rw [Dev.addRows_frame (Dev.addRows _ 2 _ _), Dev.addRows_frame (Dev.addRows _ 1 _ _), Dev.addRows_frame (Dev.clampMarked _ _ _ _ _),
    Dev.clampMarked_frame]

theorem softCount_jobs : (softCount j x out d).jobs = (d.clampMarked j x 1 (out.foldl (fun k x => k + x.clamped) 0)).jobs := by
  unfold softCount
  rw [Dev.addRows_frame (Dev.addRows _ 2 _ _), Dev.addRows_frame (Dev.addRows _ 1 _ _), Dev.addRows_frame (Dev.clampMarked _ _ _ _ _)]

theorem softCount_clamped (ht : x.tenant < 64) : (softCount j x out d).obj 0x6810 1 x.tenant =
    (d.clampMarked j x 1 (out.foldl (fun k x => k + x.clamped) 0)).obj 0x6810 1 x.tenant := by
  unfold softCount
  rw [Dev.addRows_clamped _ _ (by decide) ht, Dev.addRows_clamped _ _ (by decide) ht, Dev.addRows_clamped _ _ (by decide) ht]

end

theorem softRow_length (fo : Nat) (scores : List Val) : (softRow fo scores).p.length = scores.length := by
  unfold softRow
  dsimp only
  split
  · exact List.length_map _
  · split
    · exact List.length_map _
    · split
      · exact List.length_map _
      · rw [List.length_map, List.length_map, List.length_map]

/-- The rows of SOFTMAX. -/
def softmaxOut (y : Tile) (w : Tcw) (n row : Nat) (a : Span) (m : Option MaskCtx) : List SoftRow :=
  (List.range (n / row)).map (fun r => softRow (foutOf w) ((List.range row).map (fun c =>
    if m.any (fun x => x.masked row r c) then maskVal else elemAt y (finOf w) n a (r * row + c))))

/-- The scores of SOFTMAX, row by row. -/
theorem softScores_eq {y : Tile} {w : Tcw} {n row : Nat} {a : Span} {m : Option MaskCtx} (hrow : row ≠ 0) :
    (rowsOf ((grid n row).map (fun p => if maskedAt m row p.1 p.2.1 then maskVal else (elemList y w n a).getD p.2.2 .zero)) row
      (n / row)).map (softRow (foutOf w)) = softmaxOut y w n row a m := by
  rw [grid_map (g := fun i => if maskedAt m row (i / row) (i % row) then maskVal else elemAt y (finOf w) n a i)
    fun i hi => by rw [elemList_getD hi], rowsOf_map_range, List.map_map]
  refine List.map_congr_left fun r _ => congrArg (softRow (foutOf w)) (List.map_congr_left fun c hc => ?_)
  have hc' := List.mem_range.mp hc
  rw [Nat.mul_comm r row, Nat.mul_add_div (Nat.pos_of_ne_zero hrow), Nat.div_eq_of_lt hc', Nat.add_zero, Nat.mul_add_mod,
    Nat.mod_eq_of_lt hc']
  rfl

theorem TM.Ends.of_device {α : Type} {m : TM α} {d e : Dev} {Q : α → Dev → Prop} (hde : d = e) (h : TM.Ends m e Q) : TM.Ends m d Q :=
  hde ▸ h

theorem softmaxBody_ends {d' : Dev} {k : Nat} {w : Tcw} {n row j : Nat} {x : Job} {a e rec : Span} {m : Option MaskCtx} {sp : List Span}
    (hs : SfuOperands (d'.tile k) w n n a e) (hin : finOf w ≤ 0xA)
    (hrow : row = if fieldOf w 32 16 = 0 then n else fieldOf w 32 16) (hdiv : n % row = 0)
    (hrec : rec = ⟨e.kind, roundUp (e.start + e.len) 64, 8 * (n / row)⟩) (hra : rec.overlaps a = false)
    (hre : (d'.tile k).operand (fieldOf w 82 10) (rec.start + rec.len - e.start) [1, 2] true ≠ none)
    (hmask : MaskOf (d'.tile k) w n m sp) (hclear : MaskClear e sp) (hrclear : MaskClear rec sp)
    (hj : d'.tileJob k = some (j, x)) :
    TM.Ends (softmaxBody k w.toNat) d' (fun next g => next = none ∧ ∃ h,
      (softCount j x (softmaxOut (d'.tile k) w n row a m) d').Computed k 4 h
        [(e, pack (fmtBits (foutOf w)) ((softmaxOut (d'.tile k) w n row a m).flatMap (fun r => r.p))),
          (rec, pack 64 ((softmaxOut (d'.tile k) w n row a m).map (fun r => r.lse * 2 ^ 32 + r.flags)))] g) := by
  obtain ⟨hf, hn, -, -, ha, he, hover⟩ := hs
  obtain ⟨hlen, -⟩ := vecLen_eq hn
  obtain ⟨-, h1, h2, -⟩ := hn
  have hpos : row ≠ 0 := fun h0 => by
    rw [h0, Nat.mod_zero] at hdiv
    omega
  have helen := Tile.operand_len he
  obtain ⟨rsp, hrsp⟩ := Option.ne_none_iff_exists'.mp hre
  rw [hrec] at hrsp
  unfold softmaxBody
  dsimp only
  rw [vecOf_eq, sfuOf_eq]
  dsimp only
  refine Dev.Still.len (.refl d' k) hlen h1 h2 ?_
  rw [VecOp.rowLen_of (o := ⟨_, _, _, _, _, _, _, fieldOf w 32 16, _⟩) hrow, ← helen]
  refine Dev.Still.operand (.refl d' k) hf ha fun e1 hd1 => ?_
  refine hd1.operand hf (by rw [helen]; exact he) fun e2 hd2 => hd2.operand hf hrsp fun e3 hd3 => ?_
  refine (hd3.maskIf hf rfl hmask).bind fun r e4 hr => ?_
  obtain ⟨rfl, h4, hd4⟩ := hr
  dsimp only
  refine (hd4.compute hf ?_).mono fun _ _ hq => ⟨hq.1, h4, hq.2⟩
  refine hd4.read hf fun e5 hd5 => ?_
  rw [unpack_decode hin]
  have hscores := softScores_eq (y := d'.tile k) (w := w) (n := n) (a := a) (m := m) hpos
  unfold elemList at hscores
  have hten : e5.tileTenant k = x.tenant := by rw [Dev.tileTenant, hd5.tileJob, hj]; rfl
  rw [hscores, fmtGet_bits hin]
  refine .of_runs (TM.runs_upd _ e5) (TM.Ends.of_device (e := softCount j x (softmaxOut (d'.tile k) w n row a m) e5) ?_ ?_)
  · unfold softCount
    rw [hten, ← Dev.clampMarked_of_tileJob (hd5.tileJob.trans hj)]
    rfl
  · have hbase := besideTiles_softCount j x (softmaxOut (d'.tile k) w n row a m)
    have hok : (opdOk e a sp (fmtBits (finOf w)) (fmtBits (foutOf w)) && !(a :: sp).any rec.overlaps) = true := by
      rw [opdOk_of hover hclear, Bool.true_and, Bool.not_eq_true', List.any_eq_false]
      exact List.forall_mem_cons.mpr ⟨by rw [hra]; exact Bool.false_ne_true, fun b hb => by rw [hrclear b hb]; exact Bool.false_ne_true⟩
    rw [← hrec, hok, TM.putOpd, if_pos rfl]
    refine (hbase.still hd5).write (by rw [hbase.tile]; exact hf) ?_
    rw [hrec]
    refine apart_next he ?_ rfl ?_ (e.apart_roundUp _ _)
    · rw [pack_length, flatMap_length_const (n := row), softmaxOut, List.length_map, List.length_range,
        Nat.div_mul_cancel (Nat.dvd_of_mod_eq_zero hdiv)]
      · rfl
      · intro r hr
        obtain ⟨i, -, rfl⟩ := List.mem_map.mp hr
        rw [softRow_length, List.length_map, List.length_range]
    · rw [pack64_length, List.length_map, softmaxOut, List.length_map, List.length_range]

/-! ### The obligation -/

theorem nexts_expx {s : State} {k : TileId} {w : Tcw} {d' : Dev} {n row j : Nat} {x : Job} {a e : Span} {m : Option MaskCtx}
    {sp : List Span} {pr : Option (List Byte)} (hi : Issues s.dev k.val w 4 0x02 (vecRegsOf w) d')
    (hb : onlyBits w.toNat [(111, 20)] = true) (hin : finOf w ≤ 2) (hout : foutOf w = 0xA) (h20 : fieldOf w 20 4 = 0)
    (hp : ProgOf d' x w pr) (hB : w.toNat.testBit 27 = false → fieldOf w 92 10 = 0) (hs : SfuOperands (d'.tile k.val) w n n a e)
    (hrow : row = if fieldOf w 32 16 = 0 then n else fieldOf w 32 16) (hmask : MaskOf (d'.tile k.val) w n m sp)
    (hclear : MaskClear e sp) (hj : d'.tileJob k.val = some (j, x)) : Nexts (.expx k w) s fun t =>
      Counts k d' s t 4 [(e, pack 32 ((expxOut (d'.tile k.val) w n row a pr m).map (fun p => p.1)))] ∧
      ClampCount d' t j x ((expxOut (d'.tile k.val) w n row a pr m).filter (fun p => p.2)).length := by
  obtain ⟨hf, hn, hcin, hcout, -⟩ := id hs
  have hlegal : sfuLegal { fin := fun c => Nat.ble c 2, fout := fun c => c == 0xA, mask := true, slot := true } w.toNat = true := by
    refine sfuLegal_of hb hn rfl (Nat.ble_eq.mpr hin) (beq_iff_eq.mpr hout) (.inr rfl) (.inr rfl) (.inl rfl)
      (fieldOf_inside h20 1 3 (by decide)) (.inl (testBit_of_field (fieldOf_inside h20 0 1 (by decide)))) ?_
    cases hbit : w.toNat.testBit 27 with
    | true => exact .inl rfl
    | false => exact .inr (.inr (hB hbit))
  obtain ⟨t, ht, hcounts, hdict, hjobs⟩ := nexts_counted (c := .expx k w)
    (cmd := sfuCmd 0x02 { fin := fun c => Nat.ble c 2, fout := fun c => c == 0xA, mask := true, slot := true }) rfl hi
    ⟨rfl, rfl, rfl, vecRegs_eq w, rfl, hlegal, eltCount_of hn hcin hcout⟩ rfl hf Dev.clampMarked_frame
    (expxBody_ends hs (hin.trans (by decide)) hout hp hrow hmask hclear hj)
  exact ⟨t, ht, hcounts, clampCount_of hcounts hdict hjobs Dev.clampMarked_frame rfl rfl⟩

/-- Settles O41: a built-in function is applied to each element; the exponential reads its program and its mask before, and counts
what it clamps. -/
theorem specialFunctions : Obligations.SpecialFunctions := by
  refine ⟨builtinCmd_of (fun _ _ _ => rfl) rfl, builtinCmd_of (fun _ _ _ => rfl) rfl, builtinCmd_of (fun _ _ _ => rfl) rfl,
    builtinCmd_of (fun _ _ _ => rfl) rfl, builtinCmd_of (fun _ _ _ => rfl) rfl, builtinCmd_of (fun _ _ _ => rfl) rfl,
    builtinCmd_of (fun _ _ _ => rfl) rfl, builtinCmd_of (fun _ _ _ => rfl) rfl, builtinCmd_of (fun _ _ _ => rfl) rfl, ?_⟩
  intro s k w d' n row j x a e m sp pr out hi hb hin hout h20 hp hB hs hrow hmask hclear hj _ hres
  rw [hres]
  exact nexts_expx hi hb hin hout h20 hp hB hs hrow hmask hclear hj

end Sys2Proof.Machine

/-! ## Row functions, gates, tables and micro-programs (R282 to R293) -/

namespace Sys2Proof.Machine

open Sys2Proof.Stm

/-! ### TABLE and PROG -/

section
variable {d' : Dev} {k : Nat} {w : Tcw} {n row j : Nat} {x : Job} {a b e : Span} {m : Option MaskCtx} {sp : List Span}
  {img : List Byte}

theorem tableBody_ends (hs : SfuOperands (d'.tile k) w n n a e) (hj : d'.tileJob k = some (j, x))
    (himg : d'.sfuImage x false (fieldOf w 24 3) = some img) (hin : (tabOf img).fin = finOf w) (hout : (tabOf img).fout = foutOf w) :
    TM.Ends (tableBody k w.toNat) d' (fun next g => next = none ∧ ∃ h, d'.Computed k 4 h [(e, pack (fmtBits (foutOf w))
      ((unpack (fmtBits (finOf w)) n (bytesAt (d'.tile k) a)).map (tabOf img).eval))] g) := by
  obtain ⟨hf, hn, -, -, ha, he, hover⟩ := hs
  obtain ⟨hlen, -⟩ := vecLen_eq hn
  obtain ⟨-, h1, h2, -⟩ := hn
  unfold tableBody
  dsimp only
  rw [vecOf_eq, sfuOf_eq]
  dsimp only
  refine Dev.Still.len (.refl d' k) hlen h1 h2 (Dev.Still.operand (.refl d' k) hf ha fun e1 hd1 => ?_)
  refine hd1.operand hf he fun e2 hd2 => (hd2.image hj himg).bind fun r e3 hr => ?_
  obtain ⟨rfl, h3, -, hd3⟩ := hr
  refine .of_runs (TM.runs_need (by rw [hin, hout, beq_self_eq_true, beq_self_eq_true]; rfl) _ e3) ?_
  refine (hd3.compute hf ?_).mono fun _ _ hq => ⟨hq.1, h3, hq.2⟩
  refine hd3.read hf fun e4 hd4 => hd4.writeOpd hf (opdOk_of hover (maskClear_nil e)) (apart_one he ?_)
  rw [pack_length, List.length_map, unpack_length]
  rfl

theorem progBody_ends (hs : SfuOperands (d'.tile k) w n n a e) (hin : finOf w ≤ 0xA) (hout : foutOf w ≤ 0xA)
    (hrow : row = if fieldOf w 32 16 = 0 then n else fieldOf w 32 16) (hmask : MaskOf (d'.tile k) w n m sp) (hclear : MaskClear e sp)
    (hj : d'.tileJob k = some (j, x)) (himg : d'.sfuImage x true (fieldOf w 24 3) = some img) (htabs : progTabs img = []) :
    TM.Ends (progBody k w.toNat) d' (fun next g => next = none ∧ ∃ h, d'.Computed k 4 h [(e, packed (foutOf w)
      ((List.range n).map (scoreAt (d'.tile k) w n row a (some img) m)))] g) := by
  obtain ⟨hf, hn, -, -, ha, he, hover⟩ := hs
  obtain ⟨hlen, -⟩ := vecLen_eq hn
  obtain ⟨-, h1, h2, -⟩ := hn
  unfold progBody
  dsimp only
  rw [vecOf_eq, sfuOf_eq]
  dsimp only
  refine Dev.Still.len (.refl d' k) hlen h1 h2 ?_
  rw [VecOp.rowLen_of (o := ⟨_, _, _, _, _, _, _, fieldOf w 32 16, _⟩) hrow]
  refine Dev.Still.operand (.refl d' k) hf ha fun e1 hd1 => hd1.operand hf he fun e2 hd2 => ?_
  refine (hd2.program hj himg htabs).bind fun r e3 hr => ?_
  obtain ⟨rfl, h3, hm3, hd3⟩ := hr
  dsimp only
  refine (hd3.maskIf hf hm3 hmask).bind fun r e4 hr => ?_
  obtain ⟨rfl, h4, hd4⟩ := hr
  dsimp only
  refine (hd4.compute hf ?_).mono fun _ _ hq => ⟨hq.1, h4, hq.2⟩
  refine hd4.read hf fun e5 hd5 => ?_
  rw [unpack_decode hin, fmtGet_bits hin, fmtGet_bits hout, grid_map (g := fun i => (fmtGet (foutOf w)).encode
    (scoreAt (d'.tile k) w n row a (some img) m i)) fun i hi => rfl, packed, List.map_map]
  refine hd5.writeOpd hf (opdOk_of hover hclear) (apart_one he ?_)
  rw [pack_length, List.length_map, List.length_range]
  rfl

/-! ### GATED -/

/-- The value of a gate for element `i`. -/
def Gate.at (g : Gate) (y : Tile) (w : Tcw) (n row : Nat) (a b : Span) (i : Nat) : Val :=
  match g with
  | .fn h => (h ((elemList y w n a).getD i .zero)).mul ((elemList y w n b).getD i .zero)
  | .prog img tabs => progRun img tabs (progEnv none (elemList y w n a) n row (i / row) (i % row) i ((elemList y w n b).getD i .zero))

theorem Dev.Still.gate {d : Dev} {h : SfuHeld} (hd : d'.Still k h d) (hj : d'.tileJob k = some (j, x)) {v : Nat → Val}
    (hg : GateOf d' x (d'.tile k) w n row a b v) : TM.Ends (TM.gate k (fieldOf w 21 3) (fieldOf w 24 3)) d
      (fun g e => (∀ i < n, g.at (d'.tile k) w n row a b i = v i) ∧ ∃ h', d'.Still k h' e) := by
  unfold TM.gate
  obtain ⟨hact, -, hv⟩ | ⟨hact, -, hv⟩ | ⟨hact, -, hv⟩ | ⟨hact, -, img, himg, hin, hout, hv⟩ | ⟨hact, -, img, himg, htabs, hv⟩ := hg
  · rw [hact, if_pos rfl]
    refine TM.ends_pure ⟨fun i hi => ?_, h, hd⟩
    rw [hv, Gate.at, elemList_getD hi, elemList_getD hi]
  · rw [hact, if_neg (by decide), if_pos rfl]
    refine TM.ends_pure ⟨fun i hi => ?_, h, hd⟩
    rw [hv, Gate.at, elemList_getD hi, elemList_getD hi]
  · rw [hact, if_neg (by decide), if_neg (by decide), if_pos rfl]
    refine TM.ends_pure ⟨fun i hi => ?_, h, hd⟩
    rw [hv, Gate.at, elemList_getD hi, elemList_getD hi]
  · rw [hact, if_neg (by decide), if_neg (by decide), if_neg (by decide), if_pos rfl]
    refine (hd.table32 hj himg hin).bind fun r e hr => ?_
    obtain ⟨rfl, h', -, hd'⟩ := hr
    refine .of_runs (TM.runs_need (by rw [hout]; rfl) _ e) (TM.ends_pure ⟨fun i hi => ?_, h', hd'⟩)
    rw [hv, Gate.at, elemList_getD hi, elemList_getD hi]
  · rw [hact, if_neg (by decide), if_neg (by decide), if_neg (by decide), if_neg (by decide)]
    refine (hd.program hj himg htabs).bind fun r e hr => ?_
    obtain ⟨rfl, h', -, hd'⟩ := hr
    refine TM.ends_pure ⟨fun i hi => ?_, h', hd'⟩
    rw [hv, Gate.at, elemList_getD hi]
    rfl

theorem gatedBody_ends (hs : SfuOperands (d'.tile k) w n n a e) (hin : finOf w ≤ 0xA) (hout : foutOf w ≤ 0xA)
    (hrow : row = if fieldOf w 32 16 = 0 then n else fieldOf w 32 16) (hj : d'.tileJob k = some (j, x))
    (hb : (d'.tile k).operand (fieldOf w 92 10) (packedBytes (finOf w) n) [1, 2] false = some b) (hover' : e.overlaps b = false)
    {v : Nat → Val} (hg : GateOf d' x (d'.tile k) w n row a b v) :
    TM.Ends (gatedBody k w.toNat) d' (fun next g => next = none ∧ ∃ h, d'.Computed k 4 h
      [(e, packed (foutOf w) ((List.range n).map v))] g) := by
  obtain ⟨hf, hn, -, -, ha, he, hover⟩ := hs
  obtain ⟨hlen, -⟩ := vecLen_eq hn
  obtain ⟨-, h1, h2, -⟩ := hn
  unfold gatedBody
  dsimp only
  rw [vecOf_eq, sfuOf_eq]
  dsimp only
  refine Dev.Still.len (.refl d' k) hlen h1 h2 ?_
  rw [VecOp.rowLen_of (o := ⟨_, _, _, _, _, _, _, fieldOf w 32 16, _⟩) hrow]
  refine Dev.Still.operand (.refl d' k) hf ha fun e1 hd1 => hd1.operand hf hb fun e2 hd2 => hd2.operand hf he fun e3 hd3 => ?_
  refine (hd3.gate hj hg).bind fun g e4 hr => ?_
  obtain ⟨hv, h4, hd4⟩ := hr
  refine (hd4.compute hf ?_).mono fun _ _ hq => ⟨hq.1, h4, hq.2⟩
  refine hd4.read hf fun e5 hd5 => hd5.read hf fun e6 hd6 => ?_
  rw [unpack_decode hin, unpack_decode hin, fmtGet_bits hin, fmtGet_bits hout, grid_map (g := fun i => (fmtGet (foutOf w)).encode (v i)),
    packed, List.map_map]
  · refine hd6.writeOpd hf (opdOk_of hover (maskClear_one hover')) (apart_one he ?_)
    rw [pack_length, List.length_map, List.length_range]
    rfl
  · intro i hi
    rw [← hv i hi]
    rfl

end

/-! ### Row functions -/

/-- The gains of a row function, if it has them. -/
def GainsOf (y : Tile) (w : Tcw) (row : Nat) (b e : Span) (g : Option (List Val)) : Prop :=
  (w.toNat.testBit 20 = false → g = none) ∧ (w.toNat.testBit 20 = true → e.overlaps b = false ∧
    y.operand (fieldOf w 92 10) (packedBytes (finOf w) row) [1, 2] false = some b ∧
    g = some ((List.range row).map (elemAt y (finOf w) row b)))

theorem Span.apart_empty (e : Span) (kind start : Nat) : e.overlaps ⟨kind, start, 0⟩ = false := by
  unfold Span.overlaps
  simp

theorem rowBody_ends {d' : Dev} {k : Nat} {w : Tcw} {n row : Nat} {a b e : Span} {g : Option (List Val)} {perRow : Nat → Nat}
    {f : VecOp → Val → List Val → Option (List Val) → List Nat} (hf' : ∀ o v r g, (f o v r g).length = perRow r.length)
    (hs : SfuOperands (d'.tile k) w n (n / row * perRow row) a e) (hin : finOf w ≤ 0xA)
    (hrow : row = if fieldOf w 32 16 = 0 then n else fieldOf w 32 16) (hg : GainsOf (d'.tile k) w row b e g) :
    TM.Ends (rowBody perRow f k w.toNat) d' (fun next g' => next = none ∧ d'.Computed k 4 (d'.tile k).held
      [(e, pack (fmtBits (foutOf w)) ((List.range (n / row)).flatMap (fun r =>
        f (vecOf w.toNat) (fp32.decode ((d'.tile k).s (fieldOf w 28 4) % 2 ^ 32))
          ((List.range row).map (fun c => elemAt (d'.tile k) (finOf w) n a (r * row + c))) g)))] g') := by
  obtain ⟨hf, hn, -, -, ha, he, hover⟩ := hs
  obtain ⟨hlen, -⟩ := vecLen_eq hn
  obtain ⟨-, h1, h2, -⟩ := hn
  obtain ⟨hnone, hsome⟩ := hg
  subst hrow
  unfold rowBody
  dsimp only
  simp only [vecOf_rowLen]
  rw [vecOf_eq, sfuOf_eq]
  dsimp only
  refine Dev.Still.len (.refl d' k) hlen h1 h2 ?_
  refine Dev.Still.sreg (.refl d' k) (Dev.Still.operand (.refl d' k) hf ha fun e1 hd1 => ?_)
  refine hd1.operandIf hf (fun hbit => (hsome hbit).2.1) fun e2 hd2 => hd2.operand hf he fun e3 hd3 => hd3.compute hf ?_
  refine hd3.read hf fun e4 hd4 => hd4.read hf fun e5 hd5 => ?_
  have hgains : (if w.toNat.testBit 20 then some ((unpack (fmtGet (finOf w)).bits (if fieldOf w 32 16 = 0 then n else
      fieldOf w 32 16) (bytesAt (d'.tile k) (if w.toNat.testBit 20 then b else ⟨a.kind, a.start, 0⟩))).map (fmtGet (finOf w)).decode) else none) = g := by
    cases hbit : w.toNat.testBit 20 with
    | true => rw [(hsome hbit).2.2, if_pos rfl, if_pos rfl, unpack_decode hin]
    | false => rw [hnone hbit, if_neg Bool.false_ne_true]
  have hclear : MaskClear e [if w.toNat.testBit 20 then b else ⟨a.kind, a.start, 0⟩] := by
    refine maskClear_one ?_
    cases hbit : w.toNat.testBit 20 with
    | true => rw [if_pos rfl, (hsome hbit).1]
    | false =>
      rw [if_neg Bool.false_ne_true]
      exact e.apart_empty _ _
  rw [hgains, unpack_decode hin, rowsOf_map_range, List.flatMap_map, fmtGet_bits hin]
  refine hd5.writeOpd hf (opdOk_of hover hclear) (apart_one he ?_)
  rw [pack_length, flatMap_length_const (n := perRow (if fieldOf w 32 16 = 0 then n else fieldOf w 32 16)), List.length_range]
  · rfl
  · intro r _
    rw [hf', List.length_map, List.length_range]

theorem layerRow_length (o : VecOp) (eps : Val) (r : List Val) (g : Option (List Val)) : (layerRow o eps r g).length = r.length := by
  unfold layerRow
  simp

theorem rmsRow_length (o : VecOp) (eps : Val) (r : List Val) (g : Option (List Val)) : (rmsRow o eps r g).length = r.length := by
  unfold rmsRow
  simp

theorem gainCount_of {perRow : Nat → Nat} {y : Tile} {w : Tcw} {n row : Nat} (hn : VecLen y w n)
    (hrow : row = if fieldOf w 32 16 = 0 then n else fieldOf w 32 16) (hdiv : n % row = 0) (hin : countOk (finOf w) n = true)
    (hout : countOk (foutOf w) (n / row * perRow row) = true)
    (hg : w.toNat.testBit 20 = false ∨ countOk (finOf w) row = true) : gainCount perRow y w.toNat = true := by
  obtain ⟨-, -, hlen⟩ := vecLen_eq hn
  unfold gainCount
  rw [rowCount_of hn hrow hdiv hin hout, hlen, vecOf_rowLen, ← hrow, sfuOf_eq, vecOf_eq, Bool.true_and, Bool.or_eq_true,
    Bool.not_eq_true']
  exact hg

theorem normCmd_of {c : TileId → Tcw → Instr} {fn : Nat} {f : VecOp → Val → List Val → Option (List Val) → List Nat}
    (hexec : ∀ k w s, exec (c k w) s = tcwStep k w (sfuCmd fn { gain := true } (gainCount id)) (rowBody id f) s)
    (hl : tcwListed 4 fn = true) (hf' : ∀ o v r g, (f o v r g).length = r.length) : NormCmd c fn f := by
  intro s k w d' n row a b e g hi hb hin hout h21 hrow hdiv hs hnone hsome
  have hwhole : n / row * id row = n := Nat.div_mul_cancel (Nat.dvd_of_mod_eq_zero hdiv)
  obtain ⟨hf, hn, hcin, hcout, -⟩ := id hs
  have hgain : w.toNat.testBit 20 = false ∨ countOk (finOf w) row = true := by
    cases hbit : w.toNat.testBit 20 with
    | false => exact .inl rfl
    | true => exact .inr (hsome hbit).1
  have hlegal : sfuLegal { gain := true } w.toNat = true := by
    refine sfuLegal_of hb hn rfl (Nat.ble_eq.mpr hin) (Nat.ble_eq.mpr hout)
      (.inl (testBit_of_field (fieldOf_inside h21 6 1 (by decide)))) (.inl (fieldOf_inside h21 3 3 (by decide))) (.inl rfl)
      (fieldOf_inside h21 0 3 (by decide)) (.inr rfl) ?_
    cases hbit : w.toNat.testBit 20 with
    | true => exact .inr (.inl rfl)
    | false => exact .inr (.inr (hnone hbit).1)
  refine nexts_computes (hexec k w s) hi ⟨rfl, rfl, rfl, vecRegs_eq w, hl, hlegal,
    gainCount_of hn hrow hdiv hcin (by rw [hwhole]; exact hcout) hgain⟩ rfl hf
    (rowBody_ends hf' (by rw [hwhole]; exact hs) (hin.trans (by decide)) hrow
      ⟨fun hbit => (hnone hbit).2, fun hbit => (hsome hbit).2⟩)

/-! ### Commands of one generation of images -/

/-- What a command that counts nothing leaves. -/
theorem nexts_uncounted {c : Instr} {cmd : Cmd} {body : TcwBody} {s : State} {k : TileId} {w : Tcw} {grp fn unit : Nat}
    {regs : List Nat} {d' : Dev} {l : List (Span × List Byte)} (hexec : exec c s = tcwStep k w cmd body s)
    (hi : Issues s.dev k.val w grp fn regs d') (hc : cmd.Fits w grp fn regs (d'.tile k.val)) (hgrp : (grp == 9) = false)
    (hf : Fresh (d'.tile k.val)) (hends : TM.Ends (body k.val w.toNat) d' (fun next e => next = none ∧ ∃ h, d'.Computed k.val unit h l e)) :
    Nexts c s fun t => Counts k d' s t unit l ∧ t.dev.dict = d'.dict ∧ t.dev.jobs = d'.jobs :=
  nexts_counted hexec hi hc hgrp hf rfl hends

/-- ACT and SLOT of a gate agree. -/
theorem gateOf_fields {d' : Dev} {x : Job} {y : Tile} {w : Tcw} {n row : Nat} {a b : Span} {v : Nat → Val} (h : GateOf d' x y w n row a b v) :
    (Nat.ble (fieldOf w 21 3) 4 && (Nat.ble 3 (fieldOf w 21 3) == (fieldOf w 24 3 != 0))) = true := by
  obtain ⟨hact, hslot, -⟩ | ⟨hact, hslot, -⟩ | ⟨hact, hslot, -⟩ | ⟨hact, hslot, -⟩ | ⟨hact, hslot, -⟩ := h
  · rw [hact, hslot]; rfl
  · rw [hact, hslot]; rfl
  · rw [hact, hslot]; rfl
  · rw [hact, bne_iff_ne.mpr hslot]; rfl
  · rw [hact, bne_iff_ne.mpr hslot]; rfl

section
variable {s : State} {k : TileId} {w : Tcw} {d' : Dev} {n row j : Nat} {x : Job} {a b e rec : Span} {m : Option MaskCtx} {sp : List Span}
  {img : List Byte} (hb : onlyBits w.toNat [(111, 20)] = true) (hj : d'.tileJob k.val = some (j, x))
include hb hj

theorem nexts_gated {v : Nat → Val} (hi : Issues s.dev k.val w 4 0x10 (vecRegsOf w) d') (hin : finOf w ≤ 7) (hout : foutOf w ≤ 7)
    (h20 : fieldOf w 20 1 = 0) (h27 : fieldOf w 27 1 = 0) (hs : SfuOperands (d'.tile k.val) w n n a e)
    (hrow : row = if fieldOf w 32 16 = 0 then n else fieldOf w 32 16)
    (hB : (d'.tile k.val).operand (fieldOf w 92 10) (packedBytes (finOf w) n) [1, 2] false = some b) (hover : e.overlaps b = false)
    (hg : GateOf d' x (d'.tile k.val) w n row a b v) : Nexts (.gated k w) s fun t =>
      Counts k d' s t 4 [(e, packed (foutOf w) ((List.range n).map v))] ∧ t.dev.dict = d'.dict ∧ t.dev.jobs = d'.jobs := by
  obtain ⟨hf, hn, hcin, hcout, -⟩ := id hs
  have hlegal : sfuLegal { gated := true } w.toNat = true := by
    unfold sfuLegal
    rw [vecOf_eq, sfuOf_eq]
    dsimp only
    rw [hb, vecLen_named hn, if_pos rfl, gateOf_fields hg, testBit_of_field h20, testBit_of_field h27, Nat.ble_eq.mpr hin, Nat.ble_eq.mpr hout]
    rfl
  exact nexts_uncounted (c := .gated k w) (cmd := sfuCmd 0x10 { gated := true }) rfl hi
    ⟨rfl, rfl, rfl, vecRegs_eq w, rfl, hlegal, eltCount_of hn hcin hcout⟩ rfl hf
    (gatedBody_ends hs (hin.trans (by decide)) (hout.trans (by decide)) hrow hj hB hover hg)

theorem nexts_table (hi : Issues s.dev k.val w 4 0x28 (vecRegsOf w) d') (hin : finOf w ≤ 9) (hout : foutOf w ≤ 9)
    (hslot : fieldOf w 24 3 ≠ 0) (h27 : fieldOf w 27 1 = 0) (h20 : fieldOf w 20 4 = 0) (hB : fieldOf w 92 10 = 0)
    (hs : SfuOperands (d'.tile k.val) w n n a e) (himg : d'.sfuImage x false (fieldOf w 24 3) = some img)
    (hfin : (tabOf img).fin = finOf w) (hfout : (tabOf img).fout = foutOf w) : Nexts (.table k w) s fun t =>
      Counts k d' s t 4 [(e, pack (fmtBits (foutOf w)) ((unpack (fmtBits (finOf w)) n (bytesAt (d'.tile k.val) a)).map (tabOf img).eval))] ∧
        t.dev.dict = d'.dict ∧ t.dev.jobs = d'.jobs := by
  obtain ⟨hf, hn, hcin, hcout, -⟩ := id hs
  have hlegal : sfuLegal { fin := fun c => Nat.ble c 9, fout := fun c => Nat.ble c 9, slot := true, slotNeeded := true } w.toNat = true :=
    sfuLegal_of hb hn rfl (Nat.ble_eq.mpr hin) (Nat.ble_eq.mpr hout) (.inl (testBit_of_field h27)) (.inr rfl) (.inr hslot)
      (fieldOf_inside h20 1 3 (by decide)) (.inl (testBit_of_field (fieldOf_inside h20 0 1 (by decide)))) (.inr (.inr hB))
  exact nexts_uncounted (c := .table k w)
    (cmd := sfuCmd 0x28 { fin := fun c => Nat.ble c 9, fout := fun c => Nat.ble c 9, slot := true, slotNeeded := true }) rfl hi
    ⟨rfl, rfl, rfl, vecRegs_eq w, rfl, hlegal, eltCount_of hn hcin hcout⟩ rfl hf (tableBody_ends hs hj himg hfin hfout)

theorem nexts_prog (hi : Issues s.dev k.val w 4 0x29 (vecRegsOf w) d') (hin : finOf w ≤ 7) (hout : foutOf w ≤ 7)
    (hslot : fieldOf w 24 3 ≠ 0) (h20 : fieldOf w 20 4 = 0) (hB : w.toNat.testBit 27 = false → fieldOf w 92 10 = 0)
    (hs : SfuOperands (d'.tile k.val) w n n a e) (hrow : row = if fieldOf w 32 16 = 0 then n else fieldOf w 32 16)
    (hmask : MaskOf (d'.tile k.val) w n m sp) (hclear : MaskClear e sp) (himg : d'.sfuImage x true (fieldOf w 24 3) = some img)
    (htabs : progTabs img = []) : Nexts (.prog k w) s fun t => Counts k d' s t 4 [(e, packed (foutOf w) ((List.range n).map
      (scoreAt (d'.tile k.val) w n row a (some img) m)))] ∧ t.dev.dict = d'.dict ∧ t.dev.jobs = d'.jobs := by
  obtain ⟨hf, hn, hcin, hcout, -⟩ := id hs
  have hlegal : sfuLegal { mask := true, slot := true, slotNeeded := true } w.toNat = true := by
    refine sfuLegal_of hb hn rfl (Nat.ble_eq.mpr hin) (Nat.ble_eq.mpr hout) (.inr rfl) (.inr rfl) (.inr hslot)
      (fieldOf_inside h20 1 3 (by decide)) (.inl (testBit_of_field (fieldOf_inside h20 0 1 (by decide)))) ?_
    cases hbit : w.toNat.testBit 27 with
    | true => exact .inl rfl
    | false => exact .inr (.inr (hB hbit))
  exact nexts_uncounted (c := .prog k w) (cmd := sfuCmd 0x29 { mask := true, slot := true, slotNeeded := true }) rfl hi
    ⟨rfl, rfl, rfl, vecRegs_eq w, rfl, hlegal, eltCount_of hn hcin hcout⟩ rfl hf
    (progBody_ends hs (hin.trans (by decide)) (hout.trans (by decide)) hrow hmask hclear hj himg htabs)

theorem nexts_softmax (hi : Issues s.dev k.val w 4 0x20 (vecRegsOf w) d') (hin : finOf w ≤ 2) (hout : foutOf w ≤ 7)
    (h20 : fieldOf w 20 7 = 0) (hB : w.toNat.testBit 27 = false → fieldOf w 92 10 = 0) (hs : SfuOperands (d'.tile k.val) w n n a e)
    (hrow : row = if fieldOf w 32 16 = 0 then n else fieldOf w 32 16) (hdiv : n % row = 0)
    (hrec : rec = ⟨e.kind, roundUp (e.start + e.len) 64, 8 * (n / row)⟩) (hra : rec.overlaps a = false)
    (hre : (d'.tile k.val).operand (fieldOf w 82 10) (rec.start + rec.len - e.start) [1, 2] true ≠ none)
    (hmask : MaskOf (d'.tile k.val) w n m sp) (hclear : MaskClear e sp) (hrclear : MaskClear rec sp) (ht : x.tenant < 64) :
    Nexts (.softmax k w) s fun t =>
      Counts k d' s t 4 [(e, pack (fmtBits (foutOf w)) ((softmaxOut (d'.tile k.val) w n row a m).flatMap (fun r => r.p))),
        (rec, pack 64 ((softmaxOut (d'.tile k.val) w n row a m).map (fun r => r.lse * 2 ^ 32 + r.flags)))] ∧
      ClampCount d' t j x ((softmaxOut (d'.tile k.val) w n row a m).foldl (fun n r => n + r.clamped) 0) := by
  obtain ⟨hf, hn, hcin, hcout, -⟩ := id hs
  have hlegal : sfuLegal { fin := fun c => Nat.ble c 2, mask := true } w.toNat = true := by
    refine sfuLegal_of hb hn rfl (Nat.ble_eq.mpr hin) (Nat.ble_eq.mpr hout) (.inr rfl) (.inl (fieldOf_inside h20 4 3 (by decide)))
      (.inl rfl) (fieldOf_inside h20 1 3 (by decide)) (.inl (testBit_of_field (fieldOf_inside h20 0 1 (by decide)))) ?_
    cases hbit : w.toNat.testBit 27 with
    | true => exact .inl rfl
    | false => exact .inr (.inr (hB hbit))
  obtain ⟨t, ht', hcounts, hdict, hjobs⟩ := nexts_counted (c := .softmax k w)
    (cmd := sfuCmd 0x20 { fin := fun c => Nat.ble c 2, mask := true } (rowCount id)) rfl hi
    ⟨rfl, rfl, rfl, vecRegs_eq w, rfl, hlegal, rowCount_of (perRow := id) hn hrow hdiv hcin
      (by rw [id, Nat.div_mul_cancel (Nat.dvd_of_mod_eq_zero hdiv)]; exact hcout)⟩ rfl hf (softCount_frame _ _ _ _)
    (softmaxBody_ends hs (hin.trans (by decide)) hrow hdiv hrec hra hre hmask hclear hrclear hj)
  exact ⟨t, ht', hcounts, clampCount_of hcounts hdict hjobs (softCount_frame _ _ _ _) (softCount_jobs _ _ _ _)
    (softCount_clamped _ _ _ _ ht)⟩

end

theorem nexts_meanvar {s : State} {k : TileId} {w : Tcw} {d' : Dev} {n row : Nat} {a e : Span}
    (hi : Issues s.dev k.val w 4 0x18 (vecRegsOf w) d') (hb : onlyBits w.toNat [(111, 20)] = true) (hin : finOf w ≤ 7) (hout : foutOf w = 0)
    (h20 : fieldOf w 20 8 = 0) (hB : fieldOf w 92 10 = 0) (hrow : row = if fieldOf w 32 16 = 0 then n else fieldOf w 32 16)
    (hdiv : n % row = 0) (hs : SfuOperands (d'.tile k.val) w n (n / row * 2) a e) : Nexts (.meanvar k w) s fun t =>
      Computes k d' s t 4 [(e, pack 32 ((List.range (n / row)).flatMap (fun r =>
        let v := meanVar ((List.range row).map (fun c => elemAt (d'.tile k.val) (finOf w) n a (r * row + c)))
        [fp32.encode v.1, fp32.encode v.2])))] := by
  obtain ⟨hf, hn, hcin, hcout, -⟩ := id hs
  have hgain : w.toNat.testBit 20 = false := testBit_of_field (fieldOf_inside h20 0 1 (by decide))
  have hlegal : sfuLegal { fout := fun c => c == 0 } w.toNat = true :=
    sfuLegal_of hb hn rfl (Nat.ble_eq.mpr hin) (beq_iff_eq.mpr hout) (.inl (testBit_of_field (fieldOf_inside h20 7 1 (by decide))))
      (.inl (fieldOf_inside h20 4 3 (by decide))) (.inl rfl) (fieldOf_inside h20 1 3 (by decide)) (.inl hgain) (.inr (.inr hB))
  have hends := rowBody_ends (b := a) (g := none) (perRow := fun _ => 2) (f := fun _ _ r _ =>
      let (m, v) := meanVar r
      [fp32.encode m, fp32.encode v]) (fun _ _ _ _ => rfl) hs (hin.trans (by decide)) hrow
    ⟨fun _ => rfl, fun hbit => by rw [hgain] at hbit; cases hbit⟩
  rw [hout] at hends
  exact nexts_computes (c := .meanvar k w) (cmd := sfuCmd 0x18 { fout := fun c => c == 0 } (gainCount (fun _ => 2))) rfl hi
    ⟨rfl, rfl, rfl, vecRegs_eq w, rfl, hlegal, gainCount_of (perRow := fun _ => 2) hn hrow hdiv hcin hcout (.inl hgain)⟩ rfl hf hends

/-! ### SFU_UNLOAD (R293, R296) -/

theorem KMap.find_mapKeyed {α : Type} (m : KMap α) (f : Nat → α → α) (k : Nat) :
    KMap.find (m.map (fun e => (e.1, f e.1 e.2)) : KMap α) k = (KMap.find m k).map (f k) := by
  induction m with
  | nil => rfl
  | cons c m ih =>
    obtain ⟨a, v⟩ := c
    by_cases h : a = k
    · simp [KMap.find, h]
    · simpa [KMap.find, h] using ih

theorem KMap.get_mapKeyed {α : Type} (m : KMap α) (f : Nat → α → α) (k : Nat) (d : α) (h : f k d = d) :
    KMap.get (m.map (fun e => (e.1, f e.1 e.2)) : KMap α) k d = f k (KMap.get m k d) := by
  unfold KMap.get
  rw [KMap.find_mapKeyed]
  cases KMap.find m k with
  | none => exact h.symm
  | some v => rfl

/-- A slot keeps its current image and those that jobs latched. -/
def Dev.retireSlot (d : Dev) (k : Nat) (x : SfuSlot) : SfuSlot :=
  { x with held := x.held.filter (fun g => x.cur == some g.gen || d.jobs.any (fun j => j.2.gens.any (fun l => l.1 == k && l.2 == g.gen))) }

theorem Dev.sfuRetire_get (d : Dev) (k : Nat) : d.sfuRetire.sfu.get k {} = d.retireSlot k (d.sfu.get k {}) :=
  KMap.get_mapKeyed d.sfu d.retireSlot k {} rfl

theorem Dev.mem_retireSlot_of_latched {d : Dev} {k : Nat} {x : SfuSlot} {g : SfuGen} (hg : g ∈ x.held) {e : Nat × Job} (he : e ∈ d.jobs)
    {l : Nat × Nat} (hl : l ∈ e.2.gens) (hk : l.1 = k) (hgen : g.gen = l.2) : g ∈ (d.retireSlot k x).held := by
  refine List.mem_filter.mpr ⟨hg, Bool.or_eq_true_iff.mpr (.inr ?_)⟩
  refine List.any_eq_true.mpr ⟨e, he, List.any_eq_true.mpr ⟨l, hl, ?_⟩⟩
  rw [hk, hgen, beq_self_eq_true, beq_self_eq_true]
  rfl

/-- The slot of an unload is empty for later jobs. -/
def SfuSlot.unloaded (x : SfuSlot) (here : Bool) : SfuSlot := if here then { x with cur := none } else x

theorem Dev.sfuUnload_get (d : Dev) (tenant : Nat) (p : Bool) (i m : Nat) : (d.sfuUnload tenant p i).sfu.get m {} =
    d.retireSlot m ((d.sfu.get m {}).unloaded (m == sfuKey tenant p i)) := by
  unfold Dev.sfuUnload
  dsimp only
  rw [Dev.sfuRetire_get]
  dsimp only
  by_cases hm : m = sfuKey tenant p i
  · rw [hm, KMap.get_put_same, beq_self_eq_true]
    rfl
  · rw [KMap.get_put_other _ _ _ _ _ hm, beq_false_of_ne hm]
    rfl

theorem SfuSlot.unloaded_held (x : SfuSlot) (here : Bool) : (x.unloaded here).held = x.held := by cases here <;> rfl

theorem nexts_sfuUnload {s : State} {n : FnId} {p : Bool} {i : Fin 8} (hserve : s.dev.serving = true) (hi : i ≠ 0) :
    Nexts (.sfuUnload n p i) s fun t =>
      t = { s with dev := { s.dev with sfu := t.dev.sfu } } ∧ (t.dev.sfu.get (sfuKey n.val p i.val) {}).cur = none ∧
      (∀ m, m ≠ sfuKey n.val p i.val → (t.dev.sfu.get m {}).cur = (s.dev.sfu.get m {}).cur) ∧
      (∀ m g, g ∈ (t.dev.sfu.get m {}).held → g ∈ (s.dev.sfu.get m {}).held) ∧
      (∀ e ∈ s.dev.jobs, ∀ l ∈ e.2.gens, ∀ g ∈ (s.dev.sfu.get l.1 {}).held, g.gen = l.2 →
        g ∈ (t.dev.sfu.get l.1 {}).held) := by
  have hget := s.dev.sfuUnload_get n.val p i.val
  refine ⟨{ s with dev := s.dev.sfuUnload n.val p i.val }, exec_dev rfl ?_, rfl, ?_, fun m hm => ?_, fun m g hg => ?_,
    fun e he l hl g hg hgen => ?_⟩
  · dsimp only
    rw [hserve, bne_iff_ne.mpr (show i.val ≠ 0 from fun h0 => hi (Fin.ext h0))]
    rfl
  · dsimp only
    rw [hget, beq_self_eq_true]
    rfl
  · dsimp only
    rw [hget, beq_false_of_ne hm]
    rfl
  · dsimp only at hg
    rw [hget] at hg
    have hheld := (List.mem_filter.mp hg).1
    rwa [SfuSlot.unloaded_held] at hheld
  · dsimp only
    rw [hget]
    exact Dev.mem_retireSlot_of_latched (by rw [SfuSlot.unloaded_held]; exact hg) he hl rfl hgen

/-- Settles O42: functions of a row take its elements in order; tables and programs are those of the latched generation; an unload
drops only images that no job latched. -/
theorem rowsTablesAndPrograms : Obligations.RowsTablesAndPrograms := by
  refine ⟨?_, ?_, normCmd_of (fun _ _ _ => rfl) rfl layerRow_length, normCmd_of (fun _ _ _ => rfl) rfl rmsRow_length, ?_, ?_, ?_,
    fun s n p i hserve hi => nexts_sfuUnload hserve hi⟩
  · intro s k w d' n row j x a b e v hi hb hin hout h20 h27 hs hrow hj hB hover hg
    exact nexts_gated hb hj hi hin hout h20 h27 hs hrow hB hover hg
  · intro s k w d' n row a e hi hb hin hout h20 hB hrow hdiv hs
    exact nexts_meanvar hi hb hin hout h20 hB hrow hdiv hs
  · intro s k w d' n row j x a e rec m sp out hi hb hin hout h20 hB hs hrow hdiv hrec hra hre hmask hclear hrclear hj ht hres
    rw [hres]
    exact nexts_softmax hb hj hi hin hout h20 hB hs hrow hdiv hrec hra hre hmask hclear hrclear ht
  · intro s k w d' n j x a e b hi hb hin hout hslot h27 h20 hB hs hj himg hfin hfout
    exact nexts_table hb hj hi hin hout hslot h27 h20 hB hs himg hfin hfout
  · intro s k w d' n row j x a e b m sp hi hb hin hout hslot h20 hB hs hrow hmask hclear hj himg htabs
    exact nexts_prog hb hj hi hin hout hslot h20 hB hs hrow hmask hclear himg htabs

end Sys2Proof.Machine

/-! ## Requests through a mailbox: frames, the server's path and its answer (R108 to R110, R114, R123) -/

namespace Sys2Proof.Machine

open Sys2Proof.Stm

/-! ### The header of a request -/

section Header

variable {h : Head} {len : Nat}

theorem Head.num_lt (hok : h.ok) (hop : h.op < 256) (hlen : len < 2 ^ 16) : h.num len 0 false < 256 ^ 16 := by
  obtain ⟨hi, hs, hk, hg, ht, -, -⟩ := hok
  have hl := Bool.toNat_le h.last
  unfold Head.num
  rw [Bool.toNat_false]
  omega

/-- The fields of a request's header stand side by side (Table 5.3). -/
theorem Head.num_fields (hok : h.ok) (hop : h.op < 256) (hlen : len < 2 ^ 16) :
    hLength (h.num len 0 false) = len ∧ hStatus (h.num len 0 false) = 0 ∧ hIndex (h.num len 0 false) = h.index ∧
      hSub (h.num len 0 false) = h.sub ∧ hOp (h.num len 0 false) = h.op ∧ hSession (h.num len 0 false) = h.session ∧
      hSegment (h.num len 0 false) = h.segment ∧ hTenant (h.num len 0 false) = h.tenant := by
  obtain ⟨hi, hs, hk, hg, ht, -, -⟩ := hok
  have hl := Bool.toNat_le h.last
  simp only [hLength, hStatus, hIndex, hSub, hOp, hSession, hSegment, hTenant, bitsAt_eq, Head.num, Bool.toNat_false]
  refine ⟨?_, ?_, ?_, ?_, ?_, ?_, ?_, ?_⟩ <;> omega

/-- The version is 1, the reserved fields and RSP are 0, LAST is as given, and what a response repeats stands in bits 32 to 95. -/
theorem Head.num_rest (hok : h.ok) (hop : h.op < 256) :
    bitsAt (h.num len 0 false) 4 4 = 1 ∧ bitsAt (h.num len 0 false) 8 16 = 0 ∧ bitsAt (h.num len 0 false) 2 2 = 0 ∧
      bitAt (h.num len 0 false) 0 = false ∧ hLast (h.num len 0 false) = h.last ∧
      bitsAt (h.num len 0 false) 32 64 * 2 ^ 32 =
        h.index * 2 ^ 80 + h.sub * 2 ^ 72 + h.op * 2 ^ 64 + h.session * 2 ^ 56 + h.segment * 2 ^ 32 := by
  obtain ⟨hi, hs, hk, hg, ht, -, -⟩ := hok
  have hl := Bool.toNat_le h.last
  have hlast : ∀ x : Bool, decide (x.toNat = 1) = x := fun x => by cases x <;> rfl
  simp only [hLast, bitAt, Nat.testBit_eq_decide_div_mod_eq, bitsAt_eq, Head.num, Bool.toNat_false]
  refine ⟨by omega, by omega, by omega, decide_eq_false (by omega), Eq.trans (decide_eq_decide.mpr ?_) (hlast h.last), by omega⟩
  omega

/-- A response's header repeats the request's. -/
theorem rspHeader_num (hok : h.ok) (hop : h.op < 256) (hlen : len < 2 ^ 16) (status n : Nat) :
    rspHeader (h.num len 0 false) status n none = h.num n status true := by
  obtain ⟨-, -, -, -, -, -, -, htenant⟩ := Head.num_fields hok hop hlen
  obtain ⟨hver, -, -, -, hlast, hmid⟩ := Head.num_rest (len := len) hok hop
  rw [rspHeader, htenant, hver, hlast, hmid, Option.getD_none, Nat.one_mul, Head.num, Bool.toNat_true]
  simp only [Nat.add_assoc]

theorem rspFrame_num (hok : h.ok) (hop : h.op < 256) (hlen : len < 2 ^ 16) (status : Nat) (payload : List Byte) :
    rspFrame (h.num len 0 false) status payload none = h.response status payload := by
  rw [rspFrame, rspHeader_num hok hop hlen, Head.response]

theorem Head.frame_take (hok : h.ok) (hop : h.op < 256) {b : List Byte} (hb : b.length < 2 ^ 16) (l : List Byte) :
    leNat ((h.frame b ++ l).take 16) = h.num b.length 0 false := by
  unfold Head.frame
  rw [List.append_assoc, List.take_left' (leBytes_length _ 16), leNat_leBytes,
    Nat.mod_eq_of_lt (Head.num_lt hok hop hb)]

theorem Head.frame_drop (b l : List Byte) : (h.frame b ++ l).drop 16 = b ++ l := by
  unfold Head.frame
  rw [List.append_assoc, List.drop_left' (leBytes_length _ 16)]

theorem Head.frame_length (b : List Byte) : (h.frame b).length = 16 + b.length := by
  rw [Head.frame, List.length_append, leBytes_length]

theorem Head.response_length (status : Nat) (b : List Byte) : (h.response status b).length = 16 + b.length := by
  rw [Head.response, List.length_append, leBytes_length]

end Header

/-! ### A request that is not rejected -/

/-- An opcode of Table 5.4 with the payload that a WRITE_SET asks for. -/
def FrameOk (h : Head) (b : List Byte) : Prop :=
  h.op ∈ opcodes ∧ (h.op = 6 → h.tenant = 0 ∧ (setEntries b).isSome = true)

theorem frameOk_op_lt {h : Head} {b : List Byte} (hv : FrameOk h b) : h.op < 256 := by
  have hall : ∀ o ∈ opcodes, o < 256 := by decide
  exact hall h.op hv.1

/-- The request that a frame makes. -/
def frameReq (h : Head) (src : ReqSrc) (b : List Byte) : Req := ⟨src, h.num b.length 0 false, some b.length, b⟩

theorem frameReq_accepted {h : Head} {b : List Byte} (hok : h.ok) (hv : FrameOk h b) (hb : b.length ≤ 1024) (src : ReqSrc) :
    (frameReq h src b).rejected = false := by
  obtain ⟨flen, fstatus, -, -, fop, -, fseg, ften⟩ := Head.num_fields hok (frameOk_op_lt hv) (by omega : b.length < 2 ^ 16)
  obtain ⟨rver, rz, rt, rrsp, rlast, -⟩ := Head.num_rest (len := b.length) hok (frameOk_op_lt hv)
  obtain ⟨-, -, -, -, ht, hseg, hlast⟩ := hok
  obtain ⟨hop, hset⟩ := hv
  unfold Req.rejected frameReq
  dsimp only
  rw [flen, fstatus, fop, fseg, ften, rver, rz, rt, rrsp, rlast]
  have hsegOk : (h.segment != 0 && h.op != 3 && h.op != 4) = false := by
    by_cases h0 : h.segment = 0
    · simp [h0]
    · rcases hseg h0 with e | e <;> simp [e]
  have hlastOk : (!h.last && h.op != 4) = false := by
    cases hl : h.last
    · simp [hlast hl]
    · rfl
  have hsetOk : (h.op == 6 && (h.tenant != 0 || (setEntries b).isNone)) = false := by
    by_cases h6 : h.op = 6
    · obtain ⟨h0, hsome⟩ := hset h6
      simp [h0, Option.isNone_eq_false_iff.mpr hsome]
    · simp [h6]
  rw [List.contains_iff_mem.mpr hop, decide_eq_false (by omega : ¬ 63 < h.tenant), decide_eq_false (by omega : ¬ 1024 < b.length),
    hsegOk, hlastOk, hsetOk]
  simp

theorem Dev.reqOf_mailbox {d : Dev} {n : FnId} {h : Head} {b : List Byte} (hok : h.ok) (hop : h.op < 256) (hb : b.length ≤ 1024)
    (hreq : (d.fn n.val).req = h.frame b ++ List.replicate (1040 - (h.frame b).length) 0) :
    d.reqOf (.mailbox n) = frameReq h (.mailbox n) b := by
  obtain ⟨flen, -⟩ := Head.num_fields hok hop (by omega : b.length < 2 ^ 16)
  unfold Dev.reqOf frameReq
  dsimp only
  rw [hreq, Head.frame_take hok hop (by omega), flen, if_pos hb, Head.frame_drop, List.append_assoc, List.take_left]

/-! ### What the server does before the request itself -/

/-- No session is idle for too long or of the reduced endpoint; no flash write, transfer or invalidation is open. -/
def Quiet (d : Dev) : Prop :=
  d.srv.flash = none ∧ (∀ e ∈ d.srv.sessions, d.idleOut e.2 = false ∧ e.2.reduced = false) ∧ d.srv.segs = [] ∧
    d.srv.rotInvals = []

theorem quiet_of_ready {d : Dev} (hr : ServerReady d) : Quiet d := by
  obtain ⟨-, -, -, -, hflash, hsess, hsegs, hrot⟩ := hr
  exact ⟨hflash, by rw [hsess]; exact List.forall_mem_nil _, hsegs, hrot⟩

theorem Dev.settle_of_quiet {d : Dev} (hq : Quiet d) : d.flashDone.expire.dropReduced = d := by
  obtain ⟨hflash, hsess, hsegs, -⟩ := hq
  have hidle : d.srv.sessions.filter (fun e => d.idleOut e.2) = [] :=
    List.filter_eq_nil_iff.mpr fun e he => by rw [(hsess e he).1]; exact Bool.false_ne_true
  have hred : d.srv.sessions.filter (fun e => e.2.reduced) = [] :=
    List.filter_eq_nil_iff.mpr fun e he => by rw [(hsess e he).2]; exact Bool.false_ne_true
  have hdone : d.flashDone = d := by
    unfold Dev.flashDone
    rw [hflash]
  have hexp : d.expire = d := by
    unfold Dev.expire
    dsimp only
    rw [hidle, List.map_nil, List.foldl_nil, hsegs, List.filter_nil, ← hsegs]
  unfold Dev.dropReduced
  rw [hdone, hexp, hred]
  rfl

theorem Counted_eq (d : Dev) : d.bump 0x1110 1 0 32 = Counted d := rfl

/-- The path of a request that the server takes up. -/
theorem Dev.request_of_served {d d' : Dev} {src : ReqSrc} {r : Req} {a : Answer} (hq : Quiet d) (hs : d.servedBy src = .server)
    (hr : d.reqOf src = r) (hrej : r.rejected = false) (hbad : (Counted d).sessionBad r = false)
    (hex : ((Counted d).touchSession r).execute r = (a, d')) (hafter : a.after = 0) :
    d.request (hOp r.hdr) src = if a.wait then d' else d'.respond src r.hdr a := by
  have hrot : d.srv.rotInvals = [] := hq.2.2.2
  have hserve : d.serve src = if a.wait then d' else d'.respond src r.hdr a := by
    unfold Dev.serve
    dsimp only
    rw [hr, hs, hrej, Dev.settle_of_quiet hq]
    simp only [beq_self_eq_true, if_true, Bool.false_eq_true, if_false, Counted_eq, hbad, hex, hafter, OfNat.zero_ne_ofNat,
      zero_ne_one]
  unfold Dev.request
  dsimp only
  rw [hr, hs, hrej, hrot, beq_self_eq_true]
  exact hserve

/-! ### A request of a mailbox -/

/-- The mailbox of function `n` holds the response to the header `h`. -/
def Dev.mailed (d : Dev) (n : FnId) (h : Head) (status : Nat) (payload : List Byte) : Dev :=
  d.setFn n.val { d.fn n.val with
    rsp := h.response status payload ++ (d.fn n.val).rsp.drop (h.response status payload).length, busy := false, done := true }

/-- The device with a refused frame counted (COMM_FRAME_ERRS, log 109). -/
def Dev.errCounted (d : Dev) (status : Nat) : Dev :=
  if status = 1 || status = 2 || status = 0xB then d.bump 0x1110 2 0 32 else d

theorem Dev.errCounted_of_not {status : Nat} (h1 : status ≠ 1) (h2 : status ≠ 2) (hb : status ≠ 0xB) (d : Dev) :
    d.errCounted status = d :=
  if_neg (by simp [h1, h2, hb])

theorem Dev.errCounted_fn (d : Dev) (status m : Nat) : (d.errCounted status).fn m = d.fn m := by
  unfold Dev.errCounted
  split <;> rfl

section Mailed

variable (d : Dev) (n : FnId) (h : Head) (status : Nat) (payload : List Byte)

theorem Dev.mailed_frame : d.mailed n h status payload = { d with fns := (d.mailed n h status payload).fns } := rfl

theorem Dev.mailed_other {m : FnId} (hm : m ≠ n) : (d.mailed n h status payload).fn m.val = d.fn m.val :=
  d.fn_setFn_other _ fun he => hm (Fin.ext he)

theorem Dev.mailed_same : (d.mailed n h status payload).fn n.val = { d.fn n.val with
    rsp := h.response status payload ++ (d.fn n.val).rsp.drop (h.response status payload).length, busy := false, done := true } :=
  d.fn_setFn_same _ _

theorem Dev.mailed_rsp : ((d.mailed n h status payload).fn n.val).rsp.take (16 + payload.length) =
    h.response status payload := by
  rw [d.mailed_same]
  exact List.take_left' (Head.response_length status payload)

theorem answered_mailed (s : State) : Answered { s with dev := d.mailed n h status payload } n h status payload := by
  refine ⟨?_, ?_, d.mailed_rsp n h status payload⟩ <;> dsimp only <;> rw [d.mailed_same]

theorem onlyAnswered_mailed (s : State) :
    OnlyAnswered s { s with dev := (Counted s.dev).mailed n h status payload } n :=
  ⟨rfl, fun _ hm => (Counted s.dev).mailed_other n h status payload hm⟩

end Mailed

section Mailbox

variable {s : State} {n : FnId} {h : Head} {b : List Byte}

/-- A response without an interrupt ends in the mailbox. -/
theorem Dev.respond_silent {d : Dev} (hd : Nat) (a : Answer) (hirq : (d.fn n.val).irq = false) :
    d.respond (.mailbox n) hd a = (d.errCounted a.status).setFn n.val { (d.errCounted a.status).fn n.val with
      rsp := rspFrame hd a.status a.payload a.last ++
        ((d.errCounted a.status).fn n.val).rsp.drop (rspFrame hd a.status a.payload a.last).length
      busy := false
      done := true } := by
  refine if_neg ?_
  change ¬ ((d.errCounted a.status).fn n.val).irq = true
  rw [Dev.errCounted_fn, hirq]
  exact Bool.false_ne_true

theorem Dev.respond_mailbox {d : Dev} {a : Answer} (hok : h.ok) (hop : h.op < 256) (hb : b.length ≤ 1024)
    (hirq : (d.fn n.val).irq = false) (hlast : a.last = none) :
    d.respond (.mailbox n) (h.num b.length 0 false) a = (d.errCounted a.status).mailed n h a.status a.payload := by
  rw [Dev.respond_silent _ a hirq, hlast, rspFrame_num hok hop (by omega)]
  rfl

theorem Dev.servedBy_of_ready {d : Dev} (hr : ServerReady d) (hbusy : (d.fn n.val).busy = true)
    (hflr : (d.fn n.val).flr = false) : d.servedBy (.mailbox n) = .server := by
  obtain ⟨hlive, -, -, hstage, -⟩ := hr
  unfold Dev.servedBy Dev.server
  dsimp only
  rw [hlive, Nat.ble_eq_true_of_le hstage, hbusy, hflr, Bool.or_true]
  rfl

/-- Command `c` submits the frame of `h` and `b` through the mailbox of `n`, outside sessions. -/
structure Submits (c : Instr) (s : State) (n : FnId) (h : Head) (b : List Byte) : Prop where
  command : exec c s = .next { s with dev := s.dev.request h.op (.mailbox n) }
  fits : h.ok
  frame : FrameOk h b
  session : h.session = 0
  noOpen : h.op ≠ 0x10
  noClose : h.op ≠ 0x13
  length : b.length ≤ 1024
  asks : Asks s n (h.frame b)

variable {c : Instr} {a : Answer} {d' : Dev}

/-- What the server makes of a mailbox's frame: the request executed on the device with one request more counted. -/
theorem request_mailbox (hsub : Submits c s n h b) (hex : (Counted s.dev).execute (frameReq h (.mailbox n) b) = (a, d'))
    (hafter : a.after = 0) : s.dev.request h.op (.mailbox n) =
      if a.wait then d' else d'.respond (.mailbox n) (h.num b.length 0 false) a := by
  obtain ⟨-, hok, hv, hsess, hno, hnc, hb, hr, hbusy, hflr, -, hreq, -, -⟩ := hsub
  obtain ⟨-, -, -, -, fop, fsess, -⟩ := Head.num_fields hok (frameOk_op_lt hv) (by omega : b.length < 2 ^ 16)
  have hbad : (Counted s.dev).sessionBad (frameReq h (.mailbox n) b) = false := by
    unfold Dev.sessionBad frameReq
    dsimp only
    rw [fop, fsess, hsess, beq_false_of_ne hno, beq_false_of_ne hnc]
    rfl
  have hpath := Dev.request_of_served (quiet_of_ready hr) (Dev.servedBy_of_ready hr hbusy hflr)
    (Dev.reqOf_mailbox hok (frameOk_op_lt hv) hb hreq) (frameReq_accepted hok hv hb _) hbad hex hafter
  rwa [show hOp (frameReq h (.mailbox n) b).hdr = h.op from fop] at hpath

/-- A command that submits a mailbox's frame ends with the answer in the mailbox. -/
theorem nexts_mailed {P : State → Prop} (hsub : Submits c s n h b)
    (hex : (Counted s.dev).execute (frameReq h (.mailbox n) b) = (a, d')) (hafter : a.after = 0) (hwait : a.wait = false)
    (hlast : a.last = none) (hirq : (d'.fn n.val).irq = false)
    (hP : P { s with dev := (d'.errCounted a.status).mailed n h a.status a.payload }) : Nexts c s P := by
  refine ⟨_, hsub.command.trans ?_, hP⟩
  rw [request_mailbox hsub hex hafter, hwait, if_neg Bool.false_ne_true,
    Dev.respond_mailbox hsub.fits (frameOk_op_lt hsub.frame) hsub.length hirq hlast]

/-- A request whose response waits. -/
theorem exec_waiting (hsub : Submits c s n h b) (hex : (Counted s.dev).execute (frameReq h (.mailbox n) b) = (a, d'))
    (hafter : a.after = 0) (hwait : a.wait = true) : exec c s = .next { s with dev := d' } := by
  rw [hsub.command, request_mailbox hsub hex hafter, if_pos hwait]

/-- The answer of a request that leaves the rest of the device as it is. -/
theorem nexts_only_answered {status : Nat} {payload : List Byte} (hsub : Submits c s n h b)
    (h1 : status ≠ 1) (h2 : status ≠ 2) (h11 : status ≠ 0xB)
    (hex : (Counted s.dev).execute (frameReq h (.mailbox n) b) = ({ status := status, payload := payload }, Counted s.dev)) :
    Nexts c s fun t => OnlyAnswered s t n ∧ Answered t n h status payload := by
  refine nexts_mailed hsub hex rfl rfl rfl hsub.asks.2.2.2.1 ?_
  dsimp only
  rw [Dev.errCounted_of_not h1 h2 h11]
  exact ⟨onlyAnswered_mailed n h status payload s, answered_mailed _ n h status payload s⟩

end Mailbox

/-! ### What the counter of requests leaves as it was -/

section Count

variable (d : Dev)

theorem Counted_obj {i u t : Nat} (h : okey i u t ≠ okey 0x1110 1 0) : (Counted d).obj i u t = d.obj i u t :=
  d.obj_setObj_other h

theorem Counted_policyCore (k : Nat) : (Counted d).policyCore k = d.policyCore k := by
  unfold Dev.policyCore Dev.coreByte
  rw [Counted_obj d (by decide)]
  rfl

theorem Counted_absent (i u : Nat) : (Counted d).absent i u = d.absent i u := by
  unfold Dev.absent
  simp only [Counted_policyCore]
  rfl

theorem Counted_ringOwner {k : Nat} (hk : k < 256) : (Counted d).ringOwner k = d.ringOwner k := by
  unfold Dev.ringOwner
  dsimp only
  rw [Counted_obj d (by unfold okey; omega)]
  rfl

theorem Counted_slotTenant {k : Nat} (hk : k < 256) : (Counted d).slotTenant k = d.slotTenant k := by
  unfold Dev.slotTenant
  rw [Counted_obj d (by unfold okey; omega)]

theorem Counted_owns {w : Who} {i u : Nat} (hu : u < 256) : (Counted d).owns w i u = d.owns w i u := by
  unfold Dev.owns
  rw [Counted_ringOwner d (by omega), Counted_slotTenant d (by omega), Counted_obj d (by unfold okey; omega)]

theorem Counted_readDenied {w : Who} {i u : Nat} (hu : u < 256) : (Counted d).readDenied w i u = d.readDenied w i u := by
  rw [Dev.readDenied, Counted_owns d hu, Dev.readDenied]

theorem Counted_writeDenied {w : Who} {o : ObjRow} {i u v : Nat} (hu : u < 256) :
    (Counted d).writeDenied w o i u v = d.writeDenied w o i u v := by
  unfold Dev.writeDenied
  rw [Counted_owns d hu, Counted_obj d (by decide)]
  rfl

theorem Counted_absentValue (i v : Nat) : (Counted d).absentValue i v = d.absentValue i v := rfl

end Count

/-! ### The checks of Table 5.5 -/

/-- The server serves every object: the boot has ended, and not in Beyby mode. -/
theorem Dev.gate_of_complete {d : Dev} (hc : d.boot.complete = true) (hb : d.boot.beyby = false) (i : Nat) (wr : Bool) :
    d.gate i wr = none := by
  unfold Dev.gate
  rw [hb, hc]
  rfl

section Check

variable {d : Dev} {w : Who} {u : Use} {i s ten : Nat} {value : List Byte} {ov : KMap Nat} {o : ObjRow}

theorem Dev.check_unlisted (h : objRow? i s = none) : d.check w u i s ten value ov = 3 := by
  unfold Dev.check
  rw [h]

/-- The value has a size of its own that is checked. -/
def Use.sized (u : Use) : Bool := u == .write || u == .set

/-- The checks of an object that is listed, served and present. -/
theorem Dev.check_listed (hc : d.boot.complete = true) (hb : d.boot.beyby = false) (ho : objRow? i s = some o)
    (ha : d.absent i s = false) (hv : u.sized = true → d.absentValue i (leNat value) = false) :
    d.check w u i s ten value ov =
      if accessBad o u w.fw then 6
      else if o.perTenant && w.role == 1 && ten != w.tenant then 7
      else if (u.writes && d.writeDenied w o i s (leNat value)) || ((u == .read || u == .readSeg) && d.readDenied w i s) then 7
      else if u.writes && o.lock == .boot && d.boot.lock then 8
      else if u.sized && value.length != o.ty.size then 9
      else if u.sized && !d.valueOk ov i s (if o.perTenant then ten else 0) (leNat value) then 10
      else 0 := by
  have hva : (u.sized && value.length == o.ty.size && d.absentValue i (leNat value)) = false := by
    cases hu : u.sized
    · rfl
    · rw [hv hu, Bool.and_false]
  unfold Dev.check
  rw [ho]
  dsimp only
  rw [Dev.gate_of_complete hc hb]
  dsimp only
  rw [if_neg]
  · rfl
  · change ¬ (d.absent i s || (u.sized && value.length == o.ty.size && d.absentValue i (leNat value))) = true
    rw [ha, hva]
    decide

theorem keyOf_listed (ho : objRow? i s = some o) : keyOf i s ten = ⟨i, s, if o.perTenant then ten else 0⟩ := by
  rw [keyOf, ho]
  rfl

end Check

/-! ### The caller of a mailbox -/

theorem Dev.who_mailbox (d : Dev) (h : Head) (n : FnId) (b : List Byte) :
    (Counted d).who (frameReq h (.mailbox n) b) = mbxWho d n := by
  have hz : (n.val == 0) = decide (n.val = 0) := rfl
  unfold Dev.who mbxWho frameReq
  dsimp only
  rw [hz, show (Counted d).fn 0 = d.fn 0 from rfl]
  cases decide (n.val = 0) <;> rfl

/-- The object is the caller's, or the caller is the operator. -/
def OwnInstance (d : Dev) (n : FnId) (h : Head) (o : ObjRow) : Prop :=
  o.perTenant = true → h.tenant = n.val ∨ (n = 0 ∧ (d.fn 0).operator = true)

theorem mbxWho_own {d : Dev} {n : FnId} {h : Head} {o : ObjRow} (ho : OwnInstance d n h o) :
    (o.perTenant && (mbxWho d n).role == 1 && h.tenant != (mbxWho d n).tenant) = false := by
  cases hp : o.perTenant
  · rfl
  · rcases ho hp with ht | ⟨rfl, hop⟩
    · simp [mbxWho, ht]
    · simp [mbxWho, hop]

theorem mbxWho_other {d : Dev} {n : FnId} {h : Head} {o : ObjRow} (hp : o.perTenant = true) (hn : n ≠ 0) (ht : h.tenant ≠ n.val) :
    (o.perTenant && (mbxWho d n).role == 1 && h.tenant != (mbxWho d n).tenant) = true := by
  have hv : n.val ≠ 0 := fun he => hn (Fin.ext he)
  simp [mbxWho, hp, hv, ht]

/-! ### The opcodes -/

section Opcode

variable {d : Dev} {n : FnId} {h : Head} {b : List Byte}

/-- The fields of a request that its execution reads. -/
theorem frameReq_fields (hok : h.ok) (hop : h.op < 256) (hb : b.length ≤ 1024) (src : ReqSrc) :
    hOp (frameReq h src b).hdr = h.op ∧ hIndex (frameReq h src b).hdr = h.index ∧ hSub (frameReq h src b).hdr = h.sub ∧
      hTenant (frameReq h src b).hdr = h.tenant ∧ hSegment (frameReq h src b).hdr = h.segment ∧
      hLast (frameReq h src b).hdr = h.last ∧ hSession (frameReq h src b).hdr = h.session := by
  obtain ⟨-, -, fi, fs, fop, fk, fg, ft⟩ := Head.num_fields hok hop (by omega : b.length < 2 ^ 16)
  obtain ⟨-, -, -, -, fl, -⟩ := Head.num_rest (len := b.length) hok hop
  exact ⟨fop, fi, fs, ft, fg, fl, fk⟩

variable {c : Instr} {s : State} (hsub : Submits c s n h b)

include hsub in
/-- A submitted frame is executed by its opcode. -/
theorem execute_submitted : (Counted s.dev).execute (frameReq h (.mailbox n) b) =
    match h.op with
    | 0x01 => (Counted s.dev).doRead (mbxWho s.dev n) (frameReq h (.mailbox n) b).hdr
    | 0x02 => (Counted s.dev).doWrite (mbxWho s.dev n) (frameReq h (.mailbox n) b)
    | 0x03 => (Counted s.dev).doReadSeg (mbxWho s.dev n) (frameReq h (.mailbox n) b).hdr
    | 0x04 => (Counted s.dev).doWriteSeg (mbxWho s.dev n) (frameReq h (.mailbox n) b)
    | 0x05 => (Counted s.dev).doAbortSeg (mbxWho s.dev n) (frameReq h (.mailbox n) b).hdr
    | 0x06 => (Counted s.dev).doWriteSet (mbxWho s.dev n) b
    | 0x10 => ({ status := 2 }, Counted s.dev)
    | 0x11 => (Counted s.dev).doChallenge (mbxWho s.dev n)
    | 0x12 => (Counted s.dev).doProve (mbxWho s.dev n) (frameReq h (.mailbox n) b)
    | 0x13 => ({}, (Counted s.dev).closeSession (hSession (frameReq h (.mailbox n) b).hdr))
    | 0x20 => (Counted s.dev).doDescribe (mbxWho s.dev n) (frameReq h (.mailbox n) b).hdr
    | _ => (Counted s.dev).doNext (frameReq h (.mailbox n) b).hdr := by
  have fop := (frameReq_fields hsub.fits (frameOk_op_lt hsub.frame) hsub.length (.mailbox n)).1
  unfold Dev.execute
  dsimp only
  rw [Dev.who_mailbox, fop]
  rfl

end Opcode

/-! ### Refusals of an object named by a mailbox -/

section Named

variable {s : State} {n : FnId} {h : Head} {b : List Byte} {o : ObjRow} {u : Use} {value : List Byte} {ov : KMap Nat}

/-- The object of `h` is listed, present, and the server serves it. -/
structure Named (s : State) (h : Head) (o : ObjRow) : Prop where
  ready : ServerReady s.dev
  sub_lt : h.sub < 256
  row : objRow? h.index h.sub = some o
  present : s.dev.absent h.index h.sub = false

theorem check_named (hn : Named s h o) (hv : u.sized = true → s.dev.absentValue h.index (leNat value) = false) :
    (Counted s.dev).check (mbxWho s.dev n) u h.index h.sub h.tenant value ov =
      if accessBad o u false then 6
      else if o.perTenant && (mbxWho s.dev n).role == 1 && h.tenant != (mbxWho s.dev n).tenant then 7
      else if (u.writes && s.dev.writeDenied (mbxWho s.dev n) o h.index h.sub (leNat value)) ||
          ((u == .read || u == .readSeg) && s.dev.readDenied (mbxWho s.dev n) h.index h.sub) then 7
      else if u.writes && o.lock == .boot && s.dev.boot.lock then 8
      else if u.sized && value.length != o.ty.size then 9
      else if u.sized && !(Counted s.dev).valueOk ov h.index h.sub (if o.perTenant then h.tenant else 0) (leNat value) then 10
      else 0 := by
  obtain ⟨⟨-, hc, hb, -⟩, hs, ho, ha⟩ := hn
  rw [Dev.check_listed (d := Counted s.dev) hc hb ho ((Counted_absent s.dev _ _).trans ha) hv, Counted_writeDenied s.dev hs,
    Counted_readDenied s.dev hs]
  rfl

theorem check_access (hn : Named s h o) (hv : u.sized = true → s.dev.absentValue h.index (leNat value) = false)
    (hacc : accessBad o u false = true) :
    (Counted s.dev).check (mbxWho s.dev n) u h.index h.sub h.tenant value ov = 6 := by
  rw [check_named hn hv, if_pos hacc]

theorem check_denied (hn : Named s h o) (hv : u.sized = true → s.dev.absentValue h.index (leNat value) = false)
    (hacc : accessBad o u false = false)
    (hden : (o.perTenant && (mbxWho s.dev n).role == 1 && h.tenant != (mbxWho s.dev n).tenant) = true ∨
      ((u == .read || u == .readSeg) && s.dev.readDenied (mbxWho s.dev n) h.index h.sub) = true) :
    (Counted s.dev).check (mbxWho s.dev n) u h.index h.sub h.tenant value ov = 7 := by
  rw [check_named hn hv, hacc, if_neg Bool.false_ne_true]
  rcases hden with hd | hd
  · rw [if_pos hd]
  · rw [hd, Bool.or_true, if_pos rfl, ite_self]

/-- The caller passes the checks of ownership and locks. -/
structure Entitled (s : State) (n : FnId) (h : Head) (o : ObjRow) (u : Use) (v : Nat) : Prop where
  own : OwnInstance s.dev n h o
  write : u.writes = true → s.dev.writeDenied (mbxWho s.dev n) o h.index h.sub v = false ∧ o.lock ≠ .boot
  read : (u == .read || u == .readSeg) = true → s.dev.readDenied (mbxWho s.dev n) h.index h.sub = false

theorem check_entitled (hn : Named s h o) (hv : u.sized = true → s.dev.absentValue h.index (leNat value) = false)
    (hacc : accessBad o u false = false) (he : Entitled s n h o u (leNat value)) :
    (Counted s.dev).check (mbxWho s.dev n) u h.index h.sub h.tenant value ov =
      if u.sized && value.length != o.ty.size then 9
      else if u.sized && !(Counted s.dev).valueOk ov h.index h.sub (if o.perTenant then h.tenant else 0) (leNat value) then 10
      else 0 := by
  obtain ⟨hown, hw, hr⟩ := he
  have hden : ((u.writes && s.dev.writeDenied (mbxWho s.dev n) o h.index h.sub (leNat value)) ||
      ((u == .read || u == .readSeg) && s.dev.readDenied (mbxWho s.dev n) h.index h.sub)) = false := by
    refine Bool.or_eq_false_iff.mpr ⟨?_, ?_⟩
    · cases hu : u.writes
      · rfl
      · rw [(hw hu).1]
        rfl
    · cases hu : (u == .read || u == .readSeg)
      · rfl
      · rw [hr hu]
        rfl
  have hlock : (u.writes && o.lock == .boot && s.dev.boot.lock) = false := by
    cases hu : u.writes
    · rfl
    · rw [beq_false_of_ne (hw hu).2]
      rfl
  rw [check_named hn hv, hacc, mbxWho_own hown, hden, hlock]
  rfl

/-- A use without a value passes. -/
theorem check_unsized (hn : Named s h o) (hu : u.sized = false) (hacc : accessBad o u false = false)
    (he : Entitled s n h o u (leNat value)) :
    (Counted s.dev).check (mbxWho s.dev n) u h.index h.sub h.tenant value ov = 0 := by
  rw [check_entitled hn (fun h' => absurd (hu.symm.trans h') Bool.false_ne_true) hacc he, hu]
  rfl

end Named

end Sys2Proof.Machine

/-! ## READ through a mailbox (R102, R104, R105, R110, R194) -/

namespace Sys2Proof.Machine

open Sys2Proof.Stm

/-- A frame of any opcode of Table 5.4 but WRITE_SET and the two of sessions. -/
theorem submits_plain {c : Instr} {s : State} {n : FnId} {h : Head} {b : List Byte}
    (hc : exec c s = .next { s with dev := s.dev.request h.op (.mailbox n) }) (hok : h.ok)
    (hop : h.op ∈ [0x01, 0x02, 0x03, 0x04, 0x05, 0x11, 0x12, 0x20, 0x21]) (hsess : h.session = 0) (hb : b.length ≤ 1024)
    (hask : Asks s n (h.frame b)) : Submits c s n h b := by
  have hlisted : ∀ o ∈ [0x01, 0x02, 0x03, 0x04, 0x05, 0x11, 0x12, 0x20, 0x21], o ∈ opcodes ∧ o ≠ 6 ∧ o ≠ 0x10 ∧ o ≠ 0x13 := by
    decide
  obtain ⟨hmem, h6, h10, h13⟩ := hlisted h.op hop
  exact ⟨hc, hok, ⟨hmem, fun e => absurd e h6⟩, hsess, h10, h13, hb, hask⟩

section Read

variable {s : State} {n : FnId} {h : Head} {b : List Byte} {c : Instr}

theorem execute_read (hsub : Submits c s n h b) (hop : h.op = 0x01) :
    (Counted s.dev).execute (frameReq h (.mailbox n) b) =
      (Counted s.dev).doRead (mbxWho s.dev n) (frameReq h (.mailbox n) b).hdr := by
  rw [execute_submitted hsub]
  simp only [hop]

theorem doRead_refused {status : Nat} (hsub : Submits c s n h b) (h0 : status ≠ 0)
    (hck : (Counted s.dev).check (mbxWho s.dev n) .read h.index h.sub h.tenant [] [] = status) :
    (Counted s.dev).doRead (mbxWho s.dev n) (frameReq h (.mailbox n) b).hdr = ({ status := status }, Counted s.dev) := by
  obtain ⟨-, fi, fs, ft, -⟩ := frameReq_fields hsub.fits (frameOk_op_lt hsub.frame) hsub.length (.mailbox n)
  unfold Dev.doRead
  dsimp only [keyOf]
  rw [fi, fs, ft, hck, if_pos (bne_iff_ne.mpr h0)]

theorem doRead_of_check {o : ObjRow} (hsub : Submits c s n h b) (ho : objRow? h.index h.sub = some o)
    (hck : (Counted s.dev).check (mbxWho s.dev n) .read h.index h.sub h.tenant [] [] = 0) :
    (Counted s.dev).doRead (mbxWho s.dev n) (frameReq h (.mailbox n) b).hdr =
      ({ payload := leBytes ((Counted s.dev).readObj (mbxWho s.dev n) h.index h.sub (if o.perTenant then h.tenant else 0))
          o.ty.size }, Counted s.dev) := by
  obtain ⟨-, fi, fs, ft, -⟩ := frameReq_fields hsub.fits (frameOk_op_lt hsub.frame) hsub.length (.mailbox n)
  unfold Dev.doRead
  dsimp only
  rw [fi, fs, ft, keyOf_listed ho]
  dsimp only
  rw [hck, ho]
  rfl

theorem accessBad_read {o : ObjRow} : accessBad o .read false = true ↔ o.acc = .wo ∨ o.ty = .segmented := by
  simp [accessBad, ObjRow.access]

end Read

/-- Settles O14: READ answers the object's value, or the status of the first check that fails. -/
theorem palrenRead : Obligations.PalrenRead := by
  intro s n h hok hop hsess hask
  have hsub : Submits (.read (.mailbox n)) s n h [] :=
    submits_plain (by rw [hop]; rfl) hok (by rw [hop]; decide) hsess (by decide) hask
  have hex := execute_read hsub hop
  have hready : ServerReady s.dev := hask.1
  have hslt : h.sub < 256 := hok.2.1
  have refused : ∀ status, 2 < status → status ≠ 0xB →
      (Counted s.dev).check (mbxWho s.dev n) .read h.index h.sub h.tenant [] [] = status →
      Nexts (.read (.mailbox n)) s fun t => OnlyAnswered s t n ∧ Answered t n h status [] := fun status h2 h11 hck =>
    nexts_only_answered hsub (by omega) (by omega) h11 (hex.trans (doRead_refused hsub (by omega) hck))
  refine ⟨fun o ho hacc hty ha hown hden => ?_, fun ho => ?_, fun o ho hacc ha => ?_, fun o ho hacc hty ha hden => ?_⟩
  · have hck := check_unsized (u := .read) (value := []) (ov := []) ⟨hready, hslt, ho, ha⟩ rfl
      (Bool.eq_false_iff.mpr fun hb => (accessBad_read.mp hb).elim hacc hty) ⟨hown, nofun, fun _ => hden⟩
    exact nexts_only_answered hsub (by decide) (by decide) (by decide) (hex.trans (doRead_of_check hsub ho hck))
  · exact refused 3 (by decide) (by decide) (Dev.check_unlisted ho)
  · exact refused 6 (by decide) (by decide) (check_access ⟨hready, hslt, ho, ha⟩ nofun (accessBad_read.mpr (.inl hacc)))
  · refine refused 7 (by decide) (by decide) (check_denied ⟨hready, hslt, ho, ha⟩ nofun
      (Bool.eq_false_iff.mpr fun hb => (accessBad_read.mp hb).elim hacc hty) ?_)
    rcases hden with ⟨hp, hn, ht⟩ | hd
    · exact .inl (mbxWho_other hp hn ht)
    · exact .inr hd

end Sys2Proof.Machine

/-! ## WRITE, the flash commit and OBJECT_WRITE (R101, R103, R105, R106, R110, R124) -/

namespace Sys2Proof.Machine

open Sys2Proof.Stm

/-- An object without an effect of its own takes the value (R124). -/
theorem Dev.applyWrite_of_stores {i : Nat} (hi : Stores i) (d : Dev) (u t v : Nat) : d.applyWrite i u t v = d.setObj i u t v := by
  unfold Dev.applyWrite
  split
  case h_29 => rfl
  all_goals exact absurd (by decide) hi

section Write

variable {s : State} {n : FnId} {h : Head} {b : List Byte} {c : Instr} {o : ObjRow}

theorem execute_write (hsub : Submits c s n h b) (hop : h.op = 0x02) :
    (Counted s.dev).execute (frameReq h (.mailbox n) b) =
      (Counted s.dev).doWrite (mbxWho s.dev n) (frameReq h (.mailbox n) b) := by
  rw [execute_submitted hsub]
  simp only [hop]

theorem doWrite_refused {status : Nat} (hsub : Submits c s n h b) (h0 : status ≠ 0)
    (hck : (Counted s.dev).check (mbxWho s.dev n) .write h.index h.sub h.tenant b [] = status) :
    (Counted s.dev).doWrite (mbxWho s.dev n) (frameReq h (.mailbox n) b) = ({ status := status }, Counted s.dev) := by
  obtain ⟨-, fi, fs, ft, -⟩ := frameReq_fields hsub.fits (frameOk_op_lt hsub.frame) hsub.length (.mailbox n)
  unfold Dev.doWrite
  dsimp only [keyOf]
  rw [fi, fs, ft, show (frameReq h (.mailbox n) b).payload = b from rfl, hck, if_pos (bne_iff_ne.mpr h0)]

/-- A WRITE that passes its checks. -/
theorem doWrite_of_check (hsub : Submits c s n h b) (ho : objRow? h.index h.sub = some o)
    (hck : (Counted s.dev).check (mbxWho s.dev n) .write h.index h.sub h.tenant b [] = 0)
    (hi : o.keep ≠ .flash → Stores h.index) :
    (Counted s.dev).doWrite (mbxWho s.dev n) (frameReq h (.mailbox n) b) =
      if o.keep = .flash then ({ wait := true }, { (Counted s.dev) with srv := { s.dev.srv with
        flash := some ⟨some (.mailbox n), h.num b.length 0 false, ⟨h.index, h.sub, if o.perTenant then h.tenant else 0⟩,
          leNat b⟩ } })
      else ({}, (Counted s.dev).setObj h.index h.sub (if o.perTenant then h.tenant else 0) (leNat b)) := by
  obtain ⟨-, fi, fs, ft, -⟩ := frameReq_fields hsub.fits (frameOk_op_lt hsub.frame) hsub.length (.mailbox n)
  unfold Dev.doWrite
  dsimp only
  rw [fi, fs, ft, keyOf_listed ho, show (frameReq h (.mailbox n) b).payload = b from rfl]
  dsimp only
  rw [hck, ho, if_neg (by decide)]
  by_cases hk : o.keep = .flash
  · rw [if_pos hk, if_pos (by rw [Option.any_some, hk]; rfl)]
    rfl
  · have h1 : h.index ≠ 0x2401 := fun e => hi hk (by rw [e]; decide)
    have h2 : h.index ≠ 0x3810 := fun e => hi hk (by rw [e]; decide)
    rw [if_neg hk, if_neg (by rw [Option.any_some]; simpa using hk), if_neg (by simpa using h1), if_neg (by simpa using h2),
      Dev.applyWrite_of_stores (hi hk)]

theorem accessBad_write : accessBad o .write false = true ↔ (o.acc ≠ .rw ∧ o.acc ≠ .wo) ∨ o.ty = .segmented := by
  simp [accessBad, ObjRow.access]

/-- WRITE of a listed object by a caller entitled to it, its value naming no absent unit. -/
structure Writes (s : State) (n : FnId) (h : Head) (b : List Byte) (o : ObjRow) : Prop where
  named : Named s h o
  sized : o.ty ≠ .segmented
  entitled : Entitled s n h o .write (leNat b)
  value : s.dev.absentValue h.index (leNat b) = false

theorem check_write (hw : Writes s n h b o) (hrw : o.acc = .rw) :
    (Counted s.dev).check (mbxWho s.dev n) .write h.index h.sub h.tenant b [] =
      if b.length != o.ty.size then 9
      else if !(Counted s.dev).valueOk [] h.index h.sub (if o.perTenant then h.tenant else 0) (leNat b) then 10
      else 0 := by
  obtain ⟨hnamed, hty, hent, hval⟩ := hw
  have hacc : accessBad o .write false = false :=
    Bool.eq_false_iff.mpr fun hb => (accessBad_write.mp hb).elim (fun e => e.1 hrw) hty
  exact check_entitled hnamed (fun _ => hval) hacc hent

theorem nexts_write_refused {status : Nat} (hsub : Submits c s n h b) (hop : h.op = 0x02) (h2 : 2 < status)
    (h11 : status ≠ 0xB) (hck : (Counted s.dev).check (mbxWho s.dev n) .write h.index h.sub h.tenant b [] = status) :
    Nexts c s fun t => OnlyAnswered s t n ∧ Answered t n h status [] :=
  nexts_only_answered hsub (by omega) (by omega) h11
    ((execute_write hsub hop).trans (doWrite_refused hsub (by omega) hck))

/-- A request that leaves a value stored and is answered with OK. -/
theorem nexts_stored {i u t v : Nat} (hsub : Submits c s n h b)
    (hex : (Counted s.dev).execute (frameReq h (.mailbox n) b) = ({}, (Counted s.dev).setObj i u t v)) :
    Nexts c s fun t' => Answered t' n h 0 [] ∧
      t' = { s with dev := { (Counted s.dev).setObj i u t v with fns := t'.dev.fns } } ∧ t'.dev.obj i u t = v := by
  refine nexts_mailed hsub hex rfl rfl rfl hsub.asks.2.2.2.1 ⟨answered_mailed _ n h 0 [] s, rfl, ?_⟩
  exact (Counted s.dev).obj_setObj_same i u t v

end Write

/-! ### The flash commit and OBJECT_WRITE -/

theorem nexts_flashCommitDone {s : State} {w : FlashWrite} {n : FnId} (hl : s.dev.live = true)
    (hf : s.dev.srv.flash = some w) (hsrc : w.src = some (.mailbox n)) (hirq : (s.dev.fn n.val).irq = false)
    (hi : Stores w.key.index) : Nexts .flashCommitDone s fun t =>
      t.dev.obj w.key.index w.key.sub w.key.tenant = w.value ∧ t.dev.srv.flash = none ∧ (t.dev.fn n.val).busy = false ∧
      (t.dev.fn n.val).done = true ∧ t.dev.mem = s.dev.mem := by
  obtain ⟨e, he⟩ : ∃ e : Dev, e = ({ s.dev with srv := { s.dev.srv with flash := none } } : Dev).setObj w.key.index w.key.sub
    w.key.tenant w.value := ⟨_, rfl⟩
  have hflash : e.srv.flash = none := by rw [he]; rfl
  have hmem : e.mem = s.dev.mem := by rw [he]; rfl
  have hobj : e.obj w.key.index w.key.sub w.key.tenant = w.value := by rw [he, Dev.obj_setObj_same]
  have hdone : s.dev.flashDone = e.respond (.mailbox n) w.header {} := by
    unfold Dev.flashDone
    rw [hf]
    dsimp only
    rw [hsrc, Dev.applyWrite_of_stores hi, he]
  rw [Dev.respond_silent w.header {} (by rw [he]; exact hirq)] at hdone
  refine ⟨{ s with dev := s.dev.flashDone }, exec_dev rfl (if_pos hl), ?_⟩
  dsimp only
  rw [hdone, Dev.fn_setFn_same]
  exact ⟨hobj, hflash, rfl, rfl, hmem⟩

theorem exec_objectWrite_of_stores {s : State} {k : ObjKey} {v : Nat} {o : ObjRow} (hserver : s.dev.server = true)
    (ho : objRow? k.index k.sub = some o) (hacc : o.acc = .rw) (hty : o.ty ≠ .segmented) (hown : o.perTenant = true ∨ k.tenant = 0)
    (ht : k.tenant < 64) (hv : v < 256 ^ o.ty.size) (hc : s.dev.boot.complete = true) (hb : s.dev.boot.beyby = false)
    (ha : s.dev.absent k.index k.sub = false) (hlock : o.lock ≠ .boot) (hpert : isPert k.index = false)
    (hok : s.dev.valueOk [] k.index k.sub k.tenant v = true) (hi : Stores k.index) :
    exec (.objectWrite k v) s = .next { s with dev := s.dev.setObj k.index k.sub k.tenant v } := by
  have hten : (if o.perTenant = true then k.tenant else 0) = k.tenant := by
    rcases hown with hp | h0
    · exact if_pos hp
    · rw [h0, ite_self]
  refine exec_dev rfl ?_
  dsimp only
  unfold Dev.objectWrite
  rw [ho]
  dsimp only
  rw [keyOf_listed ho, hten]
  dsimp only
  rw [Dev.applyWrite_of_stores hi, hserver, hacc, bne_iff_ne.mpr hty, decide_eq_true hv, decide_eq_true ht,
    Dev.gate_of_complete hc hb, ha, beq_false_of_ne hlock, hpert, hok]
  rfl

/-- Settles O15: a value is stored, waits for its commit, or is refused by the first check that fails. -/
theorem palrenWrite : Obligations.PalrenWrite := by
  refine ⟨?_, ?_, ?_⟩
  · intro s n h b o hok hop hsess hb hask ho ha hty hown hden hlock hval
    have hsub : Submits (.write (.mailbox n)) s n h b :=
      submits_plain (by rw [hop]; rfl) hok (by rw [hop]; decide) hsess hb hask
    have hex := execute_write hsub hop
    have hnamed : Named s h o := ⟨hask.1, hok.2.1, ho, ha⟩
    have hw : Writes s n h b o := ⟨hnamed, hty, ⟨hown, fun _ => ⟨hden, hlock⟩, nofun⟩, hval⟩
    have hpass : o.acc = .rw → b.length = o.ty.size →
        (Counted s.dev).valueOk [] h.index h.sub (if o.perTenant then h.tenant else 0) (leNat b) = true →
        (Counted s.dev).check (mbxWho s.dev n) .write h.index h.sub h.tenant b [] = 0 := fun hrw hlen hv => by
      rw [check_write hw hrw, hlen, hv, bne_self_eq_false]
      rfl
    refine ⟨fun hrw hi hk hlen hv => ?_, fun hrw hk hlen hv => ?_, fun hrw hlen => ?_, fun hrw hlen hv => ?_, fun hacc => ?_⟩
    · have hdo := doWrite_of_check hsub ho (hpass hrw hlen hv) (fun _ => hi)
      rw [if_neg hk] at hdo
      exact nexts_stored hsub (hex.trans hdo)
    · have hdo := doWrite_of_check hsub ho (hpass hrw hlen hv) (fun h' => absurd hk h')
      rw [if_pos hk] at hdo
      exact ⟨_, exec_waiting hsub (hex.trans hdo) rfl rfl, rfl, rfl, rfl⟩
    · refine nexts_write_refused hsub hop (by decide : 2 < 9) (by decide) ?_
      rw [check_write hw hrw, if_pos (bne_iff_ne.mpr hlen)]
    · refine nexts_write_refused hsub hop (by decide : 2 < 10) (by decide) ?_
      rw [check_write hw hrw, hlen, hv, bne_self_eq_false]
      rfl
    · refine nexts_write_refused hsub hop (by decide : 2 < 6) (by decide)
        (check_access hnamed (fun _ => hval) (accessBad_write.mpr (.inl ?_)))
      rcases hacc with e | e <;> rw [e] <;> decide
  · intro s w n hl hf hsrc hirq hi
    exact nexts_flashCommitDone hl hf hsrc hirq hi
  · intro s k v o hserver ho hacc hty hown ht hv hc hb ha hlock hpert hok hi
    exact ⟨_, exec_objectWrite_of_stores hserver ho hacc hty hown ht hv hc hb ha hlock hpert hok hi, rfl,
      Dev.obj_setObj_same _ _ _ _ _, fun i j u hne => s.dev.obj_setObj_other hne⟩

end Sys2Proof.Machine

/-! ## Segmented transfers, write sets, DESCRIBE and NEXT (R111, R112, R113) -/

namespace Sys2Proof.Machine

open Sys2Proof.Stm

section Transfer

variable {s : State} {n : FnId} {h : Head} {b : List Byte} {c : Instr} {o : ObjRow}

/-! ### Segments -/

theorem accessBad_readSeg : accessBad o .readSeg false = true ↔ o.acc = .wo ∨ o.ty ≠ .segmented := by
  simp [accessBad, ObjRow.access]

theorem accessBad_writeSeg : accessBad o .writeSeg false = true ↔ (o.acc ≠ .rw ∧ o.acc ≠ .wo) ∨ o.ty ≠ .segmented := by
  simp [accessBad, ObjRow.access]

theorem accessBad_abort : accessBad o .abort false = true ↔ o.ty ≠ .segmented := by
  simp [accessBad]

theorem execute_readSeg (hsub : Submits c s n h b) (hop : h.op = 0x03) :
    (Counted s.dev).execute (frameReq h (.mailbox n) b) =
      ({ status := (Counted s.dev).check (mbxWho s.dev n) .readSeg h.index h.sub h.tenant [] [] }, Counted s.dev) := by
  obtain ⟨-, fi, fs, ft, -⟩ := frameReq_fields hsub.fits (frameOk_op_lt hsub.frame) hsub.length (.mailbox n)
  rw [execute_submitted hsub]
  simp only [hop]
  rw [Dev.doReadSeg, fi, fs, ft]

theorem execute_writeSeg (hsub : Submits c s n h b) (hop : h.op = 0x04) :
    (Counted s.dev).execute (frameReq h (.mailbox n) b) =
      (Counted s.dev).doWriteSeg (mbxWho s.dev n) (frameReq h (.mailbox n) b) := by
  rw [execute_submitted hsub]
  simp only [hop]

/-- A full segment where the caller has no transfer open: the first one opens it, another one is out of sequence. -/
theorem doWriteSeg_of_check (hsub : Submits c s n h b) (ho : objRow? h.index h.sub = some o) (hlen : b.length = 1024)
    (hck : (Counted s.dev).check (mbxWho s.dev n) .writeSeg h.index h.sub h.tenant [] [] = 0) :
    (h.segment ≠ 0 → (Counted s.dev).doWriteSeg (mbxWho s.dev n) (frameReq h (.mailbox n) b) =
      ({ status := 11 }, Counted s.dev)) ∧
    (h.segment = 0 → h.last = false → s.dev.slotRetains ⟨h.index, h.sub, if o.perTenant then h.tenant else 0⟩ = false →
      (Counted s.dev).doWriteSeg (mbxWho s.dev n) (frameReq h (.mailbox n) b) =
        ({}, { (Counted s.dev) with srv := { s.dev.srv with
          segs := [⟨⟨h.index, h.sub, if o.perTenant then h.tenant else 0⟩, .mbx n.val, 1, b, s.dev.pwr.tick⟩] } })) := by
  obtain ⟨-, fi, fs, ft, fg, fl, -⟩ := frameReq_fields hsub.fits (frameOk_op_lt hsub.frame) hsub.length (.mailbox n)
  have hsegs : (Counted s.dev).srv.segs = [] := hsub.asks.1.2.2.2.2.2.2.1
  have hpay : (frameReq h (.mailbox n) b).payload = b := rfl
  have hkey := keyOf_listed (ten := h.tenant) ho
  refine ⟨fun h0 => ?_, fun h0 hl hret => ?_⟩
  · simp [Dev.doWriteSeg, fi, fs, ft, fg, hkey, hsegs, hpay, hlen, hck, h0]
  · have hret' : (Counted s.dev).slotRetains ⟨h.index, h.sub, if o.perTenant then h.tenant else 0⟩ = false := hret
    have hsrv : (Counted s.dev).srv = s.dev.srv := rfl
    have htick : (Counted s.dev).pwr.tick = s.dev.pwr.tick := rfl
    have hwho : (mbxWho s.dev n).caller = .mbx n.val := rfl
    rw [hsrv] at hsegs
    simp [Dev.doWriteSeg, Dev.setXfer, fi, fs, ft, fg, fl, hkey, hpay, hlen, hck, h0, hl, hret', hsrv, hsegs, htick, hwho]

theorem doAbortSeg_of_check (hsub : Submits c s n h b)
    (hck : (Counted s.dev).check (mbxWho s.dev n) .abort h.index h.sub h.tenant [] [] = 0) :
    (Counted s.dev).doAbortSeg (mbxWho s.dev n) (frameReq h (.mailbox n) b).hdr = ({}, Counted s.dev) := by
  obtain ⟨-, fi, fs, ft, -⟩ := frameReq_fields hsub.fits (frameOk_op_lt hsub.frame) hsub.length (.mailbox n)
  have hsegs : (Counted s.dev).srv.segs = [] := hsub.asks.1.2.2.2.2.2.2.1
  unfold Dev.doAbortSeg
  dsimp only [keyOf]
  rw [fi, fs, ft, hck, hsegs]
  rfl

theorem execute_abortSeg (hsub : Submits c s n h b) (hop : h.op = 0x05)
    (hck : (Counted s.dev).check (mbxWho s.dev n) .abort h.index h.sub h.tenant [] [] = 0) :
    (Counted s.dev).execute (frameReq h (.mailbox n) b) = ({}, Counted s.dev) := by
  rw [execute_submitted hsub]
  simp only [hop]
  exact doAbortSeg_of_check hsub hck

/-! ### Write sets -/

theorem execute_writeSet (hsub : Submits c s n h b) (hop : h.op = 0x06) :
    (Counted s.dev).execute (frameReq h (.mailbox n) b) = (Counted s.dev).doWriteSet (mbxWho s.dev n) b := by
  rw [execute_submitted hsub]
  simp only [hop]

theorem Dev.doWriteSet_one {d : Dev} {w : Who} {e : SetEntry} (hb : setEntries b = some [e])
    (he : d.entryStatus w [(okey e.index e.sub (keyOf e.index e.sub e.tenant).tenant, leNat e.value)] e = 0) :
    d.doWriteSet w b = ({}, d.applyWrite e.index e.sub (keyOf e.index e.sub e.tenant).tenant (leNat e.value)) := by
  unfold Dev.doWriteSet
  rw [hb]
  dsimp only [Option.getD_some]
  simp only [List.foldl_cons, List.foldl_nil, List.map_cons, List.map_nil]
  rw [show KMap.put ([] : KMap Nat) _ _ = [(_, _)] from rfl, he]
  rfl

/-- The statuses of a check: none of them is counted as a frame error. -/
theorem Dev.check_ne {d : Dev} (hc : d.boot.complete = true) (hb : d.boot.beyby = false) (w : Who) (u : Use) (i j ten : Nat)
    (value : List Byte) (ov : KMap Nat) : d.check w u i j ten value ov ∉ [1, 2, 0xB] := by
  unfold Dev.check
  split
  · decide
  · dsimp only
    rw [Dev.gate_of_complete hc hb]
    dsimp only
    iterate 7 refine iteInduction (motive := (· ∉ [1, 2, 0xB])) (fun _ => by decide) fun _ => ?_
    decide

theorem Dev.entryStatus_of_tenant_zero {d : Dev} {w : Who} {ov : KMap Nat} {e : SetEntry} (h0 : e.tenant = 0) :
    d.entryStatus w ov e = d.check w .set e.index e.sub e.tenant e.value ov := by
  unfold Dev.entryStatus
  rw [h0]
  rfl

/-- The first entry that fails is named. -/
theorem Dev.doWriteSet_refused {d : Dev} {w : Who} {e e' : SetEntry} (hc : d.boot.complete = true)
    (hbb : d.boot.beyby = false) (hb : setEntries b = some [e, e']) (hrow : objRow? e'.index e'.sub = none)
    (h0 : e.tenant = 0) (h0' : e'.tenant = 0) : ∃ status k, 2 < status ∧ status ≠ 0xB ∧ (status = 3 ∧ k = 1 ∨ k = 0) ∧
      d.doWriteSet w b = ({ status := status, payload := leBytes k 1 }, d) := by
  unfold Dev.doWriteSet
  rw [hb]
  dsimp only [Option.getD_some]
  simp only [List.map_cons, List.map_nil]
  obtain ⟨ov, hov⟩ : ∃ ov : KMap Nat, ov = [e, e'].foldl (fun (m : KMap Nat) e =>
    m.put (okey e.index e.sub (keyOf e.index e.sub e.tenant).tenant) (leNat e.value)) [] := ⟨_, rfl⟩
  rw [← hov, Dev.entryStatus_of_tenant_zero h0, Dev.entryStatus_of_tenant_zero h0', Dev.check_unlisted hrow]
  have hne := Dev.check_ne hc hbb w .set e.index e.sub e.tenant e.value ov
  generalize d.check w .set e.index e.sub e.tenant e.value ov = status at hne ⊢
  obtain ⟨h1, h2, h11⟩ : status ≠ 1 ∧ status ≠ 2 ∧ status ≠ 0xB := by simpa using hne
  by_cases hz : status = 0
  · subst hz
    exact ⟨3, 1, by decide, by decide, .inl ⟨rfl, rfl⟩, rfl⟩
  · refine ⟨status, 0, by omega, h11, .inr rfl, ?_⟩
    rw [List.zipIdx_cons, List.find?_cons_of_pos (by simpa using hz)]

/-! ### DESCRIBE and NEXT -/

theorem ObjTy.code_lt (t : ObjTy) : t.code < 256 := by cases t <;> simp [ObjTy.code]

theorem leNat_take_leBytes (k m : Nat) (h : 1 ≤ m) (l : List Byte) : leNat ((leBytes k m ++ l).take 1) = k % 256 := by
  rw [List.take_append_of_le_length (by rw [leBytes_length]; exact h), take_leBytes _ _ _ h, leNat_leBytes, pow_one]

theorem described_word {p : Bool} {k code : Nat} {l : List Byte} {d : Dev} (hk : k % 256 = code) :
    ∃ k' l', k' % 256 = code ∧ (({ payload := if p then leBytes k 4 ++ l else leBytes k 4 } : Answer), d) =
      ({ payload := leBytes k' 4 ++ l' }, d) := by
  cases p
  · exact ⟨k, [], hk, by rw [if_neg Bool.false_ne_true, List.append_nil]⟩
  · exact ⟨k, l, hk, by rw [if_pos rfl]⟩

/-- DESCRIBE answers a descriptor that begins with the type code. -/
theorem doDescribe_of_check (hsub : Submits c s n h b) (ho : objRow? h.index h.sub = some o)
    (hck : (Counted s.dev).check (mbxWho s.dev n) .describe h.index h.sub h.tenant [] [] = 0) :
    ∃ k l, k % 256 = o.ty.code ∧ (Counted s.dev).doDescribe (mbxWho s.dev n) (frameReq h (.mailbox n) b).hdr =
      ({ payload := leBytes k 4 ++ l }, Counted s.dev) := by
  obtain ⟨-, fi, fs, ft, -⟩ := frameReq_fields hsub.fits (frameOk_op_lt hsub.frame) hsub.length (.mailbox n)
  have hcode := ObjTy.code_lt o.ty
  simp only [Dev.doDescribe, fi, fs, ft, keyOf_listed ho, hck, ho]
  refine described_word ?_
  omega

theorem execute_describe (hsub : Submits c s n h b) (hop : h.op = 0x20) :
    (Counted s.dev).execute (frameReq h (.mailbox n) b) =
      (Counted s.dev).doDescribe (mbxWho s.dev n) (frameReq h (.mailbox n) b).hdr := by
  rw [execute_submitted hsub]
  simp only [hop]

/-- The STATUS field of a response, in its bytes. -/
theorem Head.response_status (hok : h.ok) (hop : h.op < 256) {status : Nat} (hs : status < 2 ^ 16) (payload l : List Byte) :
    leNat (((h.response status payload ++ l).drop 12).take 2) = status := by
  obtain ⟨hi, hsb, hk, hg, ht, -, -⟩ := hok
  have hl := Bool.toNat_le h.last
  unfold Head.response
  rw [List.append_assoc, List.drop_append_of_le_length (by rw [leBytes_length]; decide), drop_leBytes,
    List.take_append_of_le_length (by rw [leBytes_length]; decide), take_leBytes _ _ _ (by decide), leNat_leBytes, Head.num,
    Bool.toNat_true]
  omega

theorem Head.response_drop (status : Nat) (payload l : List Byte) :
    (h.response status payload ++ l).drop 16 = payload ++ l := by
  unfold Head.response
  rw [List.append_assoc, List.drop_left' (leBytes_length _ 16)]

/-- The places of the objects that follow the first place (R113). -/
def firstPlaces : List Nat := objRowsUnsorted.filterMap (fun o => o.after 0 0)

theorem foldl_min_of_least {m a : Nat} {l : List Nat} (hm : m ∈ a :: l) (hle : ∀ x ∈ a :: l, m ≤ x) :
    l.foldl Nat.min a = m := by
  induction l generalizing a with
  | nil => exact (List.mem_singleton.mp hm).symm
  | cons y l ih =>
    have ha := hle a (by simp)
    have hy := hle y (by simp)
    refine ih ?_ fun x hx => ?_
    · rcases List.mem_cons.mp hm with rfl | hm'
      · exact List.mem_cons.mpr (.inl (Nat.min_eq_left hy).symm)
      · rcases List.mem_cons.mp hm' with rfl | hl
        · exact List.mem_cons.mpr (.inl (Nat.min_eq_right ha).symm)
        · exact List.mem_cons_of_mem _ hl
    · rcases List.mem_cons.mp hx with rfl | hl
      · exact Nat.le_min.mpr ⟨ha, hy⟩
      · exact hle x (by simp [hl])

/-- The place of an object is its index and its sub-index. -/
theorem ObjRow.after_index {o : ObjRow} {i j m : Nat} (hm : o.after i j = some m) : o.index * 256 ≤ m := by
  unfold ObjRow.after at hm
  dsimp only at hm
  split at hm
  · cases hm
  · obtain ⟨k, -, hk⟩ := List.exists_of_findSome?_eq_some hm
    split at hk
    · cases hk
      omega
    · cases hk

/-- The first object of the dictionary is 0x1000:0. -/
theorem firstPlaces_least : ∃ a l, firstPlaces = a :: l ∧ l.foldl Nat.min a = 0x100000 := by
  have hindex : ∀ o ∈ objRowsUnsorted, 0x1000 ≤ o.index := by decide +kernel
  have hfirst : (objRowsUnsorted.filter (fun o => o.index == 0x1000)).any (fun o => o.after 0 0 == some 0x100000) = true := by
    decide +kernel
  have hmem : 0x100000 ∈ firstPlaces := by
    obtain ⟨o, ho, hat⟩ := List.any_eq_true.mp hfirst
    exact List.mem_filterMap.mpr ⟨o, (List.mem_filter.mp ho).1, eq_of_beq hat⟩
  have hle : ∀ x ∈ firstPlaces, 0x100000 ≤ x := fun x hx => by
    obtain ⟨o, ho, hat⟩ := List.mem_filterMap.mp hx
    have := hindex o ho
    have := ObjRow.after_index hat
    omega
  obtain ⟨a, l, hl⟩ := List.exists_cons_of_ne_nil (List.ne_nil_of_mem hmem)
  rw [hl] at hmem hle
  exact ⟨a, l, hl, foldl_min_of_least hmem hle⟩

theorem execute_next (hsub : Submits c s n h b) (hop : h.op = 0x21) (hi : h.index = 0) (hu : h.sub = 0) :
    (Counted s.dev).execute (frameReq h (.mailbox n) b) = ({ payload := [0x00, 0x10, 0x00] }, Counted s.dev) := by
  obtain ⟨-, fi, fs, -⟩ := frameReq_fields hsub.fits (frameOk_op_lt hsub.frame) hsub.length (.mailbox n)
  obtain ⟨-, hc, hb, -⟩ := hsub.asks.1
  have hgate : objRowsUnsorted.filter (fun o => ((Counted s.dev).gate o.index false).isNone) = objRowsUnsorted :=
    List.filter_eq_self.mpr fun o _ => by rw [Dev.gate_of_complete (d := Counted s.dev) hc hb]; rfl
  obtain ⟨a, l, hl, hmin⟩ := firstPlaces_least
  rw [execute_submitted hsub]
  simp only [hop]
  unfold Dev.doNext
  rw [fi, fs, hi, hu, hgate]
  dsimp only
  rw [show objRowsUnsorted.filterMap (fun o => o.after 0 0) = a :: l from hl]
  dsimp only
  rw [hmin]
  rfl

end Transfer

/-- A WRITE_SET whose entries can be read. -/
theorem submits_writeSet {s : State} {n : FnId} {h : Head} {b : List Byte} {l : List SetEntry} (hok : h.ok) (hop : h.op = 0x06)
    (hten : h.tenant = 0) (hset : setEntries b = some l) (hsess : h.session = 0) (hb : b.length ≤ 1024)
    (hask : Asks s n (h.frame b)) : Submits (.writeSet (.mailbox n)) s n h b :=
  ⟨by rw [hop]; rfl, hok, ⟨by rw [hop]; decide, fun _ => ⟨hten, by rw [hset]; rfl⟩⟩, hsess, by rw [hop]; decide,
    by rw [hop]; decide, hb, hask⟩

section Answers

variable {s : State} {n : FnId} {h : Head} {b : List Byte}

/-- A segment of an object that the caller may write. -/
theorem check_writeSeg {o : ObjRow} (hn : Named s h o) (hty : o.ty = .segmented) (hacc : o.acc = .wo) (hlock : o.lock ≠ .boot)
    (hown : OwnInstance s.dev n h o) (hden : s.dev.writeDenied (mbxWho s.dev n) o h.index h.sub 0 = false) :
    (Counted s.dev).check (mbxWho s.dev n) .writeSeg h.index h.sub h.tenant [] [] = 0 :=
  check_unsized hn rfl (Bool.eq_false_iff.mpr fun hb => (accessBad_writeSeg.mp hb).elim (fun e => e.2 hacc) (fun e => e hty))
    ⟨hown, fun _ => ⟨hden, hlock⟩, nofun⟩

theorem nexts_describe {c : Instr} {o : ObjRow} (hsub : Submits c s n h b) (hop : h.op = 0x20) (hn : Named s h o)
    (hown : OwnInstance s.dev n h o) : Nexts c s fun t => OnlyAnswered s t n ∧ (t.dev.fn n.val).busy = false ∧
      leNat (((t.dev.fn n.val).rsp.drop 16).take 1) = o.ty.code ∧ leNat (((t.dev.fn n.val).rsp.drop 12).take 2) = 0 := by
  have hck := check_unsized (u := .describe) (value := []) (ov := []) hn rfl rfl ⟨hown, nofun, nofun⟩
  obtain ⟨k, l, hk, hdo⟩ := doDescribe_of_check hsub hn.row hck
  refine nexts_mailed hsub ((execute_describe hsub hop).trans hdo) rfl rfl rfl hsub.asks.2.2.2.1 ?_
  refine ⟨onlyAnswered_mailed n h 0 _ s, ?_, ?_, ?_⟩ <;> dsimp only <;> rw [Dev.mailed_same]
  · rw [Head.response_drop, List.append_assoc, leNat_take_leBytes _ _ (by decide), hk]
  · exact Head.response_status hsub.fits (frameOk_op_lt hsub.frame) (by decide) _ _

end Answers

/-- Settles O16: segments open, go out of sequence or are refused, a set writes all of its entries or none, and DESCRIBE and NEXT
answer. -/
theorem palrenTransfers : Obligations.PalrenTransfers := by
  intro s n h b hok hsess hb hask
  have hnamed : ∀ {o}, objRow? h.index h.sub = some o → s.dev.absent h.index h.sub = false → Named s h o :=
    fun ho ha => ⟨hask.1, hok.2.1, ho, ha⟩
  have hirq : ((Counted s.dev).fn n.val).irq = false := hask.2.2.2.1
  refine ⟨fun o hop ho hty hacc ha => ?_, fun o hop ho hty hacc hlock ha hown hden h0 hl hlen hret => ?_,
    fun hop h0 o ho hty hacc hlock ha hown hden hlen => ?_, fun o hop ho hty ha hown => ?_, fun e hop hten hset hi he => ?_,
    fun e e' hop hten hset hrow h0' h0 _ => ?_, fun o hop _ ho ha hown => ?_, fun hop _ hi hu => ?_⟩
  · have hsub : Submits (.readSeg (.mailbox n)) s n h b :=
      submits_plain (by rw [hop]; rfl) hok (by rw [hop]; decide) hsess hb hask
    refine nexts_only_answered hsub (by decide) (by decide) (by decide) ((execute_readSeg hsub hop).trans ?_)
    rw [check_access (u := .readSeg) (hnamed ho ha) nofun (accessBad_readSeg.mpr (.inl hacc))]
  · have hsub : Submits (.writeSeg (.mailbox n)) s n h b :=
      submits_plain (by rw [hop]; rfl) hok (by rw [hop]; decide) hsess hb hask
    have hdo := (doWriteSeg_of_check hsub ho hlen (check_writeSeg (hnamed ho ha) hty hacc hlock hown hden)).2 h0 hl hret
    exact nexts_mailed hsub ((execute_writeSeg hsub hop).trans hdo) rfl rfl rfl hirq ⟨answered_mailed _ n h 0 [] s, rfl, rfl⟩
  · have hsub : Submits (.writeSeg (.mailbox n)) s n h b :=
      submits_plain (by rw [hop]; rfl) hok (by rw [hop]; decide) hsess hb hask
    have hdo := (doWriteSeg_of_check hsub ho hlen (check_writeSeg (hnamed ho ha) hty hacc hlock hown hden)).1 h0
    exact nexts_mailed hsub ((execute_writeSeg hsub hop).trans hdo) rfl rfl rfl hirq ⟨answered_mailed _ n h 11 [] s, rfl⟩
  · have hsub : Submits (.abortSeg (.mailbox n)) s n h b :=
      submits_plain (by rw [hop]; rfl) hok (by rw [hop]; decide) hsess hb hask
    have hck := check_unsized (u := .abort) (value := []) (ov := []) (hnamed ho ha) rfl
      (Bool.eq_false_iff.mpr fun hb => accessBad_abort.mp hb hty) ⟨hown, nofun, nofun⟩
    exact nexts_only_answered hsub (by decide) (by decide) (by decide) (execute_abortSeg hsub hop hck)
  · have hsub := submits_writeSet hok hop hten hset hsess hb hask
    have hdo := Dev.doWriteSet_one hset he
    rw [Dev.applyWrite_of_stores hi] at hdo
    exact nexts_mailed hsub ((execute_writeSet hsub hop).trans hdo) rfl rfl rfl hirq
      ⟨answered_mailed _ n h 0 [] s, (Counted s.dev).obj_setObj_same _ _ _ _, rfl⟩
  · have hsub := submits_writeSet hok hop hten hset hsess hb hask
    obtain ⟨status, k, h2, h11, hwhich, hdo⟩ := Dev.doWriteSet_refused (d := Counted s.dev) (w := mbxWho s.dev n) hask.1.2.1
      hask.1.2.2.1 hset hrow h0 h0'
    refine nexts_mailed hsub ((execute_writeSet hsub hop).trans hdo) rfl rfl rfl hirq ?_
    dsimp only
    rw [Dev.errCounted_of_not (by omega) (by omega) h11]
    refine ⟨rfl, ?_⟩
    have hrsp := (Counted s.dev).mailed_rsp n h status (leBytes k 1)
    rcases hwhich with ⟨rfl, rfl⟩ | rfl
    · exact .inl hrsp
    · exact .inr ⟨status, by omega, hrsp⟩
  · have hsub : Submits (.describe (.mailbox n)) s n h b :=
      submits_plain (by rw [hop]; rfl) hok (by rw [hop]; decide) hsess hb hask
    exact nexts_describe hsub hop (hnamed ho ha) hown
  · have hsub : Submits (.nextObject (.mailbox n)) s n h b :=
      submits_plain (by rw [hop]; rfl) hok (by rw [hop]; decide) hsess hb hask
    exact nexts_only_answered hsub (by decide) (by decide) (by decide) (execute_next hsub hop hi hu)

end Sys2Proof.Machine

/-! ## Sessions on the management port, authentication, and the events that end them (R109, R114 to R117, R123) -/

namespace Sys2Proof.Machine

open Sys2Proof.Stm

/-! ### A frame in one packet -/

theorem mctpFrame_onePacket {f : List Byte} (hf : f.length ≤ 61) : mctpFrame (onePacket f) = some f := by
  have hlen : f.length + 1 + 1 + 1 ≤ 64 := by omega
  have hmax : f.length ≤ 1040 := by omega
  simp [mctpFrame, onePacket, mctpJoin, hlen, hmax]

theorem mctpPackets_short {f : List Byte} (hf : f.length ≤ 61) :
    mctpPackets f = [⟨true, true, 0, false, 0x7E :: 0x1F :: 0xD8 :: f⟩] := by
  have hdrop : (0x7E :: 0x1F :: 0xD8 :: f : List Byte).drop 64 = [] := List.drop_of_length_le (by simp; omega)
  have htake : (0x7E :: 0x1F :: 0xD8 :: f : List Byte).take 64 = 0x7E :: 0x1F :: 0xD8 :: f :=
    List.take_of_length_le (by simp; omega)
  unfold mctpPackets mctpSplit
  rw [hdrop, htake]
  rfl

section Port

variable {d d' : Dev} {h : Head} {eid : BitVec 8} {tag : BitVec 3}

/-- The request of `h` without a payload, on the management port. -/
def portSrc (h : Head) (eid : BitVec 8) (tag : BitVec 3) : ReqSrc := .mctp .i3c eid tag (onePacket (h.frame []))

theorem mctpFrame_plain (h : Head) : mctpFrame (onePacket (h.frame [])) = some (h.frame []) :=
  mctpFrame_onePacket (by rw [Head.frame_length]; decide)

theorem Dev.reqOf_port (hok : h.ok) (hop : h.op < 256) : d.reqOf (portSrc h eid tag) = frameReq h (portSrc h eid tag) [] := by
  have hnum := Head.frame_take hok hop (b := []) (by decide) []
  have hrest := Head.frame_drop (h := h) [] []
  rw [List.append_nil] at hnum hrest
  unfold Dev.reqOf frameReq portSrc
  dsimp only
  rw [mctpFrame_plain, Option.getD_some, hnum, hrest, Head.frame_length]
  rfl

theorem Dev.servedBy_port (hl : d.live = true) (hstage : 2 ≤ d.boot.stage) (hp : PortReady d) :
    d.servedBy (portSrc h eid tag) = .server := by
  obtain ⟨haon, haddr⟩ := hp
  unfold Dev.servedBy portSrc Dev.mgtPort Dev.server
  dsimp only
  rw [mctpFrame_plain, haon, bne_iff_ne.mpr haddr, hl, Nat.ble_eq_true_of_le hstage, Bool.or_true]
  rfl

/-- An answer of OK on the management port. -/
theorem Dev.respond_port (hok : h.ok) (hop : h.op < 256) {p : List Byte} (hp : p.length ≤ 45) :
    d.respond (portSrc h eid tag) (h.num 0 0 false) { payload := p } =
      { d with emits := d.emits ++ mgtAnswer d eid tag (h.response 0 p) } := by
  unfold Dev.respond portSrc mgtAnswer
  dsimp only
  rw [rspFrame_num hok hop (by decide), mctpPackets_short (by rw [Head.response_length]; omega)]
  rw [if_neg (show ¬ (decide ((0 : Nat) = 1) || decide ((0 : Nat) = 2) || decide ((0 : Nat) = 0xB)) = true by decide)]
  cases d.mgt.events.getLsbD 0
  · rfl
  · exact congrArg (fun l => { d with emits := l }) (List.append_assoc _ _ _)

/-- What the server makes of a frame without a payload on the management port. -/
theorem request_port {a : Answer} (hok : h.ok) (hv : FrameOk h []) (hq : Quiet d) (hl : d.live = true)
    (hstage : 2 ≤ d.boot.stage) (hp : PortReady d)
    (hbad : (Counted d).sessionBad (frameReq h (portSrc h eid tag) []) = false)
    (hex : ((Counted d).touchSession (frameReq h (portSrc h eid tag) [])).execute (frameReq h (portSrc h eid tag) []) = (a, d'))
    (hwait : a.wait = false) (hafter : a.after = 0) :
    d.request h.op (portSrc h eid tag) = d'.respond (portSrc h eid tag) (h.num 0 0 false) a := by
  have fop := (frameReq_fields hok (frameOk_op_lt hv) (b := []) (by decide) (portSrc h eid tag)).1
  have hpath := Dev.request_of_served hq (Dev.servedBy_port hl hstage hp) (Dev.reqOf_port hok (frameOk_op_lt hv))
    (frameReq_accepted hok hv (by decide) _) hbad hex hafter
  rwa [fop, hwait, if_neg Bool.false_ne_true] at hpath

end Port

/-! ### SESSION_OPEN and SESSION_CLOSE -/

/-- The numbers a session can take where none is open. -/
def sessionNumbers : List Nat := (List.range 255).map (fun k => k + 1)

theorem sessionNumbers_getD (c : Nat) : 1 ≤ sessionNumbers.getD c 1 ∧ sessionNumbers.getD c 1 ≤ 255 := by
  rw [List.getD_eq_getElem?_getD]
  cases hx : sessionNumbers[c]? with
  | none => decide
  | some x =>
    obtain ⟨k, hk, rfl⟩ := List.mem_map.mp (List.mem_of_getElem? hx)
    have := List.mem_range.mp hk
    rw [Option.getD_some]
    omega

theorem Dev.doOpen_first {d : Dev} (h : d.srv.sessions = []) (b : Binding) (eid : BitVec 8) : ∃ k, 1 ≤ k ∧ k ≤ 255 ∧
    d.doOpen b eid false = ({ payload := leBytes k 1 }, { d with
      free := d.free + 1
      srv := { d.srv with sessions := [(k, { binding := b, eid := eid, lastUse := d.pwr.tick })] } }) := by
  have hall : ((List.range 255).map (fun k => k + 1)).filter (fun n => (KMap.find ([] : KMap Session) n).isNone) =
      sessionNumbers := List.filter_eq_self.mpr fun _ _ => rfl
  obtain ⟨h1, h255⟩ := sessionNumbers_getD (d.freeBelow sessionNumbers.length).1
  refine ⟨_, h1, h255, ?_⟩
  unfold Dev.doOpen
  rw [h, hall]
  generalize sessionNumbers = l
  dsimp only [Dev.freeBelow]
  rw [h]
  rfl

theorem nexts_sessionOpen {s : State} (eid : BitVec 8) (tag : BitVec 3) (hr : ServerReady s.dev) (hp : PortReady s.dev) :
    Nexts (.sessionOpen (portSrc { op := 0x10 } eid tag)) s fun t =>
      ∃ k, 1 ≤ k ∧ k ≤ 255 ∧ t.dev.srv.sessions = [(k, { binding := .i3c, eid := eid, lastUse := s.dev.pwr.tick })] ∧
        t.dev.emits = s.dev.emits ++ mgtAnswer s.dev eid tag ({ op := 0x10 : Head }.response 0 (leBytes k 1)) ∧
        t = { s with dev := { (Counted s.dev) with srv := t.dev.srv, emits := t.dev.emits, free := t.dev.free } } := by
  have hok : Head.ok { op := 0x10 } := by unfold Head.ok; decide
  have hv : FrameOk { op := 0x10 } [] := ⟨by decide, nofun⟩
  have hsess : (Counted s.dev).srv.sessions = [] := hr.2.2.2.2.2.1
  obtain ⟨fop, -, -, -, -, -, fk⟩ := frameReq_fields hok (by decide) (b := []) (by decide) (portSrc { op := 0x10 } eid tag)
  obtain ⟨r, hrq⟩ : ∃ r, r = frameReq { op := 0x10 } (portSrc { op := 0x10 } eid tag) [] := ⟨_, rfl⟩
  have hsrc : r.src = portSrc { op := 0x10 } eid tag := by rw [hrq]; rfl
  rw [← hrq] at fop fk
  have hbad : (Counted s.dev).sessionBad r = false := by
    unfold Dev.sessionBad
    dsimp only
    rw [hsrc, fk, fop]
    rfl
  have htouch : (Counted s.dev).touchSession r = Counted s.dev := by
    unfold Dev.touchSession
    rw [hsrc]
    dsimp only [portSrc]
    rw [hsess]
    rfl
  obtain ⟨k, h1, h255, hopen⟩ := Dev.doOpen_first hsess .i3c eid
  have hex : ((Counted s.dev).touchSession r).execute r = (Counted s.dev).doOpen .i3c eid false := by
    rw [htouch]
    unfold Dev.execute
    simp only [fop, hsrc]
    rfl
  have hreq := request_port hok hv (quiet_of_ready hr) hr.1 hr.2.2.2.1 hp (hrq ▸ hbad) (hrq ▸ (hex.trans hopen)) rfl rfl
  rw [Dev.respond_port hok (by decide) (by rw [leBytes_length]; decide)] at hreq
  exact ⟨_, exec_dev rfl hreq, k, h1, h255, rfl, rfl, rfl⟩

/-- The sender's session closes, and nothing else of the list is left. -/
theorem nexts_sessionClose {s : State} {eid : BitVec 8} {tag : BitVec 3} {k : Nat} {x : Session} (h1 : 1 ≤ k) (h255 : k ≤ 255)
    (hbind : x.binding = .i3c) (heid : x.eid = eid) (hred : x.reduced = false) (hlimit : s.dev.obj 0x1100 2 0 = 0xFFFFFFFF)
    (hr : ServerReady { s.dev with srv := { s.dev.srv with sessions := [] } }) (hp : PortReady s.dev)
    (hsess : s.dev.srv.sessions = [(k, x)]) :
    Nexts (.sessionClose (portSrc { op := 0x13, session := k } eid tag)) s fun t => t.dev.srv.sessions = [] ∧
      t.dev.emits = s.dev.emits ++ mgtAnswer s.dev eid tag ({ op := 0x13, session := k : Head }.response 0 []) := by
  obtain ⟨hl, -, -, hstage, hflash, -, hsegs, hrot⟩ := hr
  have hok : Head.ok { op := 0x13, session := k } := by
    unfold Head.ok
    dsimp only
    exact ⟨by decide, by decide, by omega, by decide, by decide, by simp, by simp⟩
  have hv : FrameOk { op := 0x13, session := k } [] := ⟨(by decide : 0x13 ∈ opcodes), nofun⟩
  have hop : Head.op { op := 0x13, session := k } < 256 := (by decide : 0x13 < 256)
  have hquiet : Quiet s.dev := by
    refine ⟨hflash, fun e he => ?_, hsegs, hrot⟩
    rw [hsess] at he
    rw [List.mem_singleton.mp he]
    refine ⟨?_, hred⟩
    unfold Dev.idleOut Dev.idleLimit
    rw [hlimit]
    rfl
  obtain ⟨fop, -, -, -, -, -, fk⟩ :=
    frameReq_fields hok hop (b := []) (by decide) (portSrc { op := 0x13, session := k } eid tag)
  obtain ⟨r, hrq⟩ : ∃ r, r = frameReq { op := 0x13, session := k } (portSrc { op := 0x13, session := k } eid tag) [] :=
    ⟨_, rfl⟩
  have hsrc : r.src = portSrc { op := 0x13, session := k } eid tag := by rw [hrq]; rfl
  rw [← hrq] at fop fk
  have hfind : KMap.find (Counted s.dev).srv.sessions k = some x := by
    rw [show (Counted s.dev).srv.sessions = _ from hsess, KMap.find_cons, if_pos rfl]
  have hbad : (Counted s.dev).sessionBad r = false := by
    unfold Dev.sessionBad Dev.sessionOf
    dsimp only
    rw [hsrc, fk]
    dsimp only [portSrc]
    rw [if_neg (by omega), hfind]
    dsimp only
    rw [bne_iff_ne.mpr (by omega : k ≠ 0), hbind, heid, beq_self_eq_true, beq_self_eq_true]
    rfl
  have hex : ((Counted s.dev).touchSession r).execute r = ({}, ((Counted s.dev).touchSession r).closeSession k) := by
    unfold Dev.execute
    simp only [fop, fk]
  have htouch : (((Counted s.dev).touchSession r).closeSession k).srv.sessions = [] := by
    unfold Dev.touchSession
    rw [hsrc]
    dsimp only [portSrc]
    rw [fk, hfind, show (Counted s.dev).srv.sessions = _ from hsess]
    simp [Dev.closeSession, KMap.put, KMap.drop]
  have hmgt : (((Counted s.dev).touchSession r).closeSession k).mgt = s.dev.mgt ∧
      (((Counted s.dev).touchSession r).closeSession k).emits = s.dev.emits := by
    unfold Dev.touchSession
    rw [hsrc]
    dsimp only [portSrc]
    rw [fk, hfind]
    exact ⟨rfl, rfl⟩
  have hreq := request_port hok hv hquiet hl hstage hp (hrq ▸ hbad) (hrq ▸ hex) rfl rfl
  rw [Dev.respond_port hok hop (p := []) (by decide)] at hreq
  refine ⟨_, exec_dev rfl hreq, ?_, ?_⟩
  · rw [← hrq]
    exact htouch
  · dsimp only
    rw [← hrq, hmgt.2]
    unfold mgtAnswer
    rw [hmgt.1]

/-! ### Authentication through a mailbox -/

section Auth

variable {s : State} {n : FnId} {h : Head} {b : List Byte} {c : Instr}

theorem execute_challenge (hsub : Submits c s n h b) (hop : h.op = 0x11) :
    (Counted s.dev).execute (frameReq h (.mailbox n) b) = (Counted s.dev).doChallenge (mbxWho s.dev n) := by
  rw [execute_submitted hsub]
  simp only [hop]

theorem execute_prove (hsub : Submits c s n h b) (hop : h.op = 0x12) :
    (Counted s.dev).execute (frameReq h (.mailbox n) b) =
      (Counted s.dev).doProve (mbxWho s.dev n) (frameReq h (.mailbox n) b) := by
  rw [execute_submitted hsub]
  simp only [hop]

/-- The mailbox of a VF authenticates nobody. -/
theorem mayAuth_vf (d : Dev) (hn : n ≠ 0) : mayAuth (mbxWho d n).caller = false :=
  beq_false_of_ne fun he => hn (Fin.ext he)

theorem Dev.mailed_same_zero (d : Dev) (h : Head) (status : Nat) (payload : List Byte) :
    (d.mailed 0 h status payload).fn 0 = { d.fn (0 : FnId).val with
      rsp := h.response status payload ++ (d.fn (0 : FnId).val).rsp.drop (h.response status payload).length
      busy := false
      done := true } := d.mailed_same 0 h status payload

/-- The mailbox of the PF with another nonce, count of failures and role. -/
def Dev.authSet (d : Dev) (nonce : Option NonceRec) (fails : Nat) (op : Option Bool) : Dev :=
  d.updFn 0 (fun f => { f with nonce := nonce, fails := fails, operator := op.getD f.operator })

theorem Dev.authSet_fn (d : Dev) (nonce : Option NonceRec) (fails : Nat) (op : Option Bool) :
    (d.authSet nonce fails op).fn (0 : FnId).val =
      { d.fn 0 with nonce := nonce, fails := fails, operator := op.getD (d.fn 0).operator } :=
  d.fn_setFn_same _ _

theorem doChallenge_pf {d : Dev} (e : Dev) (hhold : d.srv.holdUntil = none) : d.doChallenge (mbxWho e 0) =
    ({ payload := leBytes (Config.nonce d.nonces % 2 ^ 256) 32 },
      ({ d with nonces := d.nonces + 1 } : Dev).authSet (some ⟨Config.nonce d.nonces % 2 ^ 256, d.pwr.tick⟩)
        (d.fn 0).fails none) := by
  unfold Dev.doChallenge
  rw [hhold]
  rfl

/-- The proof that a PF mailbox gives holds (R115). -/
def Proves (d : Dev) (b : List Byte) : Bool :=
  (d.fn 0).nonce.any (fun x => decide (d.pwr.tick < x.tick + 25000000) &&
    ecdsaVerifies (leBytes (d.obj 0x1120 0 0) 96) b (sha384 (leBytes x.value 32 ++ [0])))

theorem doProve_pf (hsub : Submits c s 0 h b) (hlen : b.length = 96) :
    (Counted s.dev).doProve (mbxWho s.dev 0) (frameReq h (.mailbox 0) b) =
      if Proves (Counted s.dev) b then ({}, (Counted s.dev).authSet none (s.dev.fn 0).fails (some true))
      else ({ status := 13 }, (Counted s.dev).authFail (mbxWho s.dev 0)) := by
  obtain ⟨-, -, -, -, -, -, fk⟩ := frameReq_fields hsub.fits (frameOk_op_lt hsub.frame) hsub.length (.mailbox 0)
  have hmay : mayAuth (mbxWho s.dev 0).caller = true := rfl
  unfold Dev.doProve
  rw [hmay, if_neg (by decide), if_neg (by rw [show (frameReq h (.mailbox 0) b).payload = b from rfl, hlen]; decide), fk, hsub.session]
  rfl

/-- The failed proofs of the last minute, this one with them, and the hold-off that follows (R116). -/
def Dev.recentFails (d : Dev) : List Nat :=
  d.srv.fails.filter (fun x => decide (d.pwr.tick < x + 1500000000)) ++ [d.pwr.tick]

def Dev.holdoff (d : Dev) : Option Nat :=
  if 16 ≤ d.recentFails.length then some (d.pwr.tick + 1500000000) else d.srv.holdUntil

def Dev.failCounted (d : Dev) : Dev :=
  { (d.bump 0x1110 3 0 32) with srv := { d.srv with fails := d.recentFails, holdUntil := d.holdoff } }

/-- A failed proof of the PF mailbox: the third one takes the role away (R115, R116). -/
theorem authFail_pf (d e : Dev) : d.authFail (mbxWho e 0) = d.failCounted.authSet none
    (if (d.fn 0).fails + 1 < 3 then (d.fn 0).fails + 1 else 0) (if (d.fn 0).fails + 1 < 3 then none else some false) := by
  unfold Dev.authFail
  dsimp only
  by_cases h3 : (d.fn 0).fails + 1 < 3
  · rw [if_pos h3, if_pos h3]
    exact if_pos h3
  · rw [if_neg h3, if_neg h3]
    exact if_neg h3

end Auth

theorem nexts_challenge {s : State} {h : Head} (hok : h.ok) (hop : h.op = 0x11) (hsess : h.session = 0)
    (hask : Asks s 0 (h.frame [])) (hhold : s.dev.srv.holdUntil = none) : Nexts (.authChallenge (.mailbox 0)) s fun t =>
      Answered t 0 h 0 (leBytes (Config.nonce s.dev.nonces % 2 ^ 256) 32) ∧
      (t.dev.fn 0).nonce = some ⟨Config.nonce s.dev.nonces % 2 ^ 256, s.dev.pwr.tick⟩ ∧
      (t.dev.fn 0).operator = (s.dev.fn 0).operator ∧ t.dev.nonces = s.dev.nonces + 1 := by
  have hsub : Submits (.authChallenge (.mailbox 0)) s 0 h [] :=
    submits_plain (by rw [hop]; rfl) hok (by rw [hop]; decide) hsess (by decide) hask
  refine nexts_mailed hsub ((execute_challenge hsub hop).trans (doChallenge_pf s.dev hhold)) rfl rfl rfl ?_
    ⟨answered_mailed _ 0 h 0 _ s, ?_, ?_, rfl⟩
  · rw [Dev.authSet_fn]
    exact hask.2.2.2.1
  all_goals
    dsimp only
    rw [Dev.errCounted_of_not (by decide) (by decide) (by decide), Dev.mailed_same_zero, Dev.authSet_fn]
    rfl

theorem nexts_prove {s : State} {h : Head} {b : List Byte} (hok : h.ok) (hop : h.op = 0x12) (hsess : h.session = 0)
    (hlen : b.length = 96) (hask : Asks s 0 (h.frame b)) (hgood : Proves (Counted s.dev) b = true) :
    Nexts (.authProve (.mailbox 0)) s fun t => Answered t 0 h 0 [] ∧ (t.dev.fn 0).operator = true ∧
      (t.dev.fn 0).nonce = none := by
  have hsub : Submits (.authProve (.mailbox 0)) s 0 h b :=
    submits_plain (by rw [hop]; rfl) hok (by rw [hop]; decide) hsess (by omega) hask
  have hdo := doProve_pf hsub hlen
  rw [if_pos hgood] at hdo
  refine nexts_mailed hsub ((execute_prove hsub hop).trans hdo) rfl rfl rfl ?_ ⟨answered_mailed _ 0 h 0 [] s, ?_, ?_⟩
  · rw [Dev.authSet_fn]
    exact hask.2.2.2.1
  · dsimp only
    rw [Dev.errCounted_of_not (by decide) (by decide) (by decide), Dev.mailed_same_zero, Dev.authSet_fn]
    rfl
  · dsimp only
    rw [Dev.errCounted_of_not (by decide) (by decide) (by decide), Dev.mailed_same_zero, Dev.authSet_fn]

theorem nexts_prove_refused {s : State} {h : Head} {b : List Byte} (hok : h.ok) (hop : h.op = 0x12) (hsess : h.session = 0)
    (hlen : b.length = 96) (hask : Asks s 0 (h.frame b)) (hgood : Proves (Counted s.dev) b = false) :
    Nexts (.authProve (.mailbox 0)) s fun t => Answered t 0 h 13 [] ∧
      ((s.dev.fn 0).fails < 2 → (t.dev.fn 0).fails = (s.dev.fn 0).fails + 1 ∧
        (t.dev.fn 0).operator = (s.dev.fn 0).operator) ∧
      (2 ≤ (s.dev.fn 0).fails → (t.dev.fn 0).operator = false) ∧
      t.dev.obj 0x1110 3 0 = Nat.min (s.dev.obj 0x1110 3 0 + 1) (2 ^ 32 - 1) := by
  have hsub : Submits (.authProve (.mailbox 0)) s 0 h b :=
    submits_plain (by rw [hop]; rfl) hok (by rw [hop]; decide) hsess (by omega) hask
  have hfn : (Counted s.dev).failCounted.fn 0 = s.dev.fn 0 := rfl
  have hfails : ((Counted s.dev).fn 0).fails = (s.dev.fn 0).fails := rfl
  have hdo := doProve_pf hsub hlen
  rw [if_neg (by rw [hgood]; decide), authFail_pf] at hdo
  refine nexts_mailed hsub ((execute_prove hsub hop).trans hdo) rfl rfl rfl ?_
    ⟨answered_mailed _ 0 h 13 [] s, fun h2 => ?_, fun h2 => ?_, ?_⟩
  · rw [Dev.authSet_fn]
    exact hask.2.2.2.1
  · dsimp only
    rw [Dev.errCounted_of_not (by decide) (by decide) (by decide), Dev.mailed_same_zero, Dev.authSet_fn, hfn, hfails,
      if_pos (by omega), if_pos (by omega)]
    exact ⟨rfl, rfl⟩
  · dsimp only
    rw [Dev.errCounted_of_not (by decide) (by decide) (by decide), Dev.mailed_same_zero, Dev.authSet_fn, hfails,
      if_neg (by omega), if_neg (by omega)]
    rfl
  · exact ((Counted s.dev).obj_bump_same 0x1110 3 0 32 1).trans
      (congrArg (fun v => Nat.min (v + 1) (2 ^ 32 - 1)) (Counted_obj s.dev (by decide)))

/-! ### The events -/

theorem nexts_sessionIdleTimeout {s : State} {k : Nat} {x : Session} (hx : KMap.find s.dev.srv.sessions k = some x)
    (hlimit : s.dev.obj 0x1100 2 0 ≠ 0xFFFFFFFF) (hout : x.lastUse + s.dev.obj 0x1100 2 0 < s.dev.pwr.tick) :
    Nexts (.sessionIdleTimeout k) s fun t =>
      t = { s with dev := { s.dev with srv := t.dev.srv } } ∧ KMap.find t.dev.srv.sessions k = none ∧
      (∀ j, j ≠ k → KMap.find t.dev.srv.sessions j = KMap.find s.dev.srv.sessions j) ∧
      (∀ y ∈ t.dev.srv.segs, y.holder ≠ .mctp k) := by
  have hidle : s.dev.idleOut x = true := by
    unfold Dev.idleOut Dev.idleLimit
    rw [bne_iff_ne.mpr hlimit, decide_eq_true hout]
    rfl
  refine ⟨{ s with dev := s.dev.closeSession k }, exec_dev rfl ?_, rfl, KMap.find_drop_same _ _,
    fun j hj => KMap.find_drop_other _ _ _ hj, fun y hy => bne_iff_ne.mp (List.mem_filter.mp hy).2⟩
  dsimp only
  rw [hx]
  exact if_pos hidle

theorem exec_nonceExpiry_of_old {s : State} {x : NonceRec} (hx : (s.dev.fn 0).nonce = some x)
    (hold : x.tick + 25000000 ≤ s.dev.pwr.tick) : exec (.nonceExpiry true 0) s =
      .next { s with dev := { s.dev with fns := s.dev.fns.put 0 { s.dev.fn 0 with nonce := none } } } := by
  refine exec_dev rfl ?_
  dsimp only
  rw [if_pos rfl, Dev.authState, hx]
  dsimp only
  rw [Option.any_some, Nat.ble_eq_true_of_le hold, if_pos rfl]
  rfl

theorem exec_authHoldoffEnd_of_past {s : State} {x : Nat} (hx : s.dev.srv.holdUntil = some x) (hle : x ≤ s.dev.pwr.tick) :
    exec .authHoldoffEnd s =
      .next { s with dev := { s.dev with srv := { s.dev.srv with holdUntil := none } } } := by
  refine exec_dev rfl ?_
  dsimp only
  rw [hx]
  exact if_pos (Nat.ble_eq_true_of_le hle)

theorem exec_segTransferTimeout_of_silent {s : State} {x : SegXfer} (hx : x ∈ s.dev.srv.segs)
    (hle : x.last + 250000000 ≤ s.dev.pwr.tick) : exec (.segTransferTimeout x.key) s =
      .next { s with dev := { s.dev with srv := { s.dev.srv with
        segs := s.dev.srv.segs.filter (fun y => y.key != x.key) } } } := by
  have hany : s.dev.srv.segs.any (fun y => y.key == x.key && Nat.ble (y.last + 250000000) s.dev.pwr.tick) = true :=
    List.any_eq_true.mpr ⟨x, hx, by rw [beq_self_eq_true, Nat.ble_eq_true_of_le hle]; rfl⟩
  refine exec_dev rfl ?_
  dsimp only
  rw [hany, if_pos rfl, Dev.setXfer, Option.toList_none, List.append_nil]

/-- A message that is no frame does nothing (R119). -/
theorem exec_sessionOpen_of_noFrame {s : State} {eid : BitVec 8} {tag : BitVec 3} {l : List MctpPacket}
    (hl : mctpFrame l = none) : exec (.sessionOpen (.mctp .i3c eid tag l)) s = .next s := by
  have hserved : s.dev.servedBy (.mctp .i3c eid tag l) = .nothing := by
    unfold Dev.servedBy
    dsimp only
    rw [hl]
    exact if_pos (Bool.or_true _)
  refine exec_dev (e := s.dev) rfl ?_
  dsimp only
  unfold Dev.request
  dsimp only
  rw [hserved]
  rfl

/-- Settles O17: sessions open and close on their port, proofs are checked, and the events end what they name. -/
theorem palrenSessions : Obligations.PalrenSessions := by
  refine ⟨fun s eid tag hr hp => nexts_sessionOpen eid tag hr hp,
    fun s eid tag k x h1 h255 hbind heid hred hlimit hr hp hsess =>
      nexts_sessionClose h1 h255 hbind heid hred hlimit hr hp hsess,
    fun s eid tag l hl => exec_sessionOpen_of_noFrame hl,
    fun s h hok hop hsess hask hhold => nexts_challenge hok hop hsess hask hhold,
    fun s n h hok hop hsess hn hask => ?_, fun s h b x hok hop hsess hlen hask hx htick hver => ?_,
    fun s h b hok hop hsess hlen hask hnone => ?_,
    fun s k x hx hlimit hout => nexts_sessionIdleTimeout hx hlimit hout,
    fun s x hx hold => exec_nonceExpiry_of_old hx hold, fun s x hx hle => exec_authHoldoffEnd_of_past hx hle,
    fun s k x hx hk hle => ?_⟩
  · have hsub : Submits (.authChallenge (.mailbox n)) s n h [] :=
      submits_plain (by rw [hop]; rfl) hok (by rw [hop]; decide) hsess (by decide) hask
    refine nexts_only_answered hsub (by decide) (by decide) (by decide) ((execute_challenge hsub hop).trans ?_)
    unfold Dev.doChallenge
    rw [mayAuth_vf s.dev hn]
    rfl
  · refine nexts_prove hok hop hsess hlen hask ?_
    unfold Proves
    rw [show ((Counted s.dev).fn 0).nonce = some x from hx, Option.any_some, Counted_obj s.dev (by decide), hver,
      show decide ((Counted s.dev).pwr.tick < x.tick + 25000000) = true from decide_eq_true htick]
    rfl
  · refine nexts_prove_refused hok hop hsess hlen hask ?_
    unfold Proves
    rw [show ((Counted s.dev).fn 0).nonce = none from hnone]
    rfl
  · rw [← hk]
    exact exec_segTransferTimeout_of_silent hx hle

end Sys2Proof.Machine
